-- ==== Sys2Proof/Word.lean ====
section
/-! DEFINITION. The words of the TA-4824: a register is 64 bits (R10), a course number 48 bits (R30), a fine time
32 bits (R30), a descriptor or ring entry 64 bytes (R467). -/

namespace Sys2Proof

/-- One register (R10). -/
abbrev Word := BitVec 64

/-- A course number, modulo 2^48 (R30, R54). -/
abbrev Course := BitVec 48

/-- A fine time, modulo 2^32 (R30). -/
abbrev Fine := BitVec 32

/-- One byte. -/
abbrev Byte := BitVec 8

/-- 64 bytes: a descriptor or a ring entry, byte `n` in bits `8n + 7 : 8n` (R467, R469, R474). -/
abbrev Slot := BitVec 512

end Sys2Proof
end

