-- ==== Sys2Proof/Syntax.lean ====
section
/-! DEFINITION. The commands of the TA-4824 module: the operations and events of the table, each with its operands.
An operand is what reaches the module from outside it (a value measured on a pin, the bytes of a descriptor, the
content of a frame, the outcome of a test run on the part itself) or what names the leaf, channel, ring or bus the
command concerns. -/

namespace Sys2Proof

/-- The two leaves (R15). -/
inductive LeafId
  | leaf0 | leaf1
  deriving DecidableEq, Repr

/-- The partner of a leaf. -/
def LeafId.other : LeafId → LeafId
  | .leaf0 => .leaf1
  | .leaf1 => .leaf0

/-- 0 for leaf 0, 1 for leaf 1 (R14). -/
def LeafId.num : LeafId → Nat
  | .leaf0 => 0
  | .leaf1 => 1

/-- A descriptor as one read of host memory returned it: its 64 bytes, and whether the read ended without an error
completion (R470). -/
structure Desc where
  bytes : Slot
  readOk : Bool
  deriving DecidableEq, Repr

/-- The receipt of a tie unit other than MARK: the lane it arrived on, whether its CRC-32 holds, its sequence and the
course in its header (R430, R431). -/
structure Rx where
  lane : Fin 2
  crcOk : Bool
  seq : BitVec 32
  course : Course
  deriving DecidableEq, Repr

/-- The parties of R489: 1 and 2 the host through leaf 0 and leaf 1, 3 and 4 the keystones, 5 the service tool,
6 and 7 as R489 gives; 0 is no identity. -/
abbrev Ident := Fin 8

/-! Module states and power (R5, R588 to R600). -/

/-- What the channels' self-test found, one entry per channel (R594): the strap read, the comparators that failed
twice, and the measured link latency in fine ticks. -/
structure BootChan where
  strap : BitVec 2
  failed : BitVec 5
  latency : Nat
  deriving DecidableEq, Repr

/-- Register access (R8, R10, R13): size in bytes and value written. -/
structure RegAccess where
  off : Nat
  size : Nat
  value : Word
  who : Ident
  deriving DecidableEq, Repr

/-- A digest or record read from outside is named by a number; equal contents have equal numbers. -/
abbrev DigestId := Nat
/-! Blocks of the course plan (R66 to R71, R118). -/

/-- What a fill block computes; the number is its machine, set, leg, stage or group. -/
inductive FillKind
  | torqueSplit
  | observer (set : Fin 4)
  | position (port : Fin 2)
  | switchModel (group : Fin 12)
  | legLoop (leg : Fin 4)
  | auxConverter (part : Fin 2)
  | pfc (phase : Fin 4)
  | llc (part : Fin 2)
  | pilot
  | actuator (a : Fin 3)
  | metering
  | channelStatus
  | senseCheck
  | frames
  | telemetry
  | capture
  | service
  | otherLoop
  /-- A check run of the blocks that feed a stage (R440): the device's own, no block of a list. -/
  | checkRun (stage : Fin 11)
  deriving DecidableEq, Repr

/-- One fill block of a block list: its ID (R118), its declared bound in cycles, its class, period and phase. -/
structure FillBlock where
  id : Nat
  kind : FillKind
  bound : Nat
  cls : Fin 4
  period : Nat
  phase : Nat
  deriving DecidableEq, Repr

/-- Where a memory error is (R25). -/
inductive ErrLoc
  | keystoneSram | gateScheduler | ringStore
  | engineMemory (e : Fin 24)
  /-- DRAM holding 1 capture, 2 history, 3 spill data, at an address. -/
  | dram (what : Fin 4) (addr : Nat)
  | flash | ledgerStore
  deriving DecidableEq, Repr
/-! Compensators and tests (R98 to R123). -/

/-- A coefficient table: 128 bytes, byte 0 lowest (R110). -/
abbrev CoefTable := BitVec 1024
/-! Sensing (R131 to R160) and position (R173 to R197). -/

/-- One calibration measurement of a converter (R146, R147): offset in Q1.15 units, gain in UQ1.15, mid-point residual
in Q1.15 units, largest sample spread in Q1.15 units RMS. -/
structure CalMeas where
  offset : Int
  gain : Nat
  mid : Int
  spread : Nat
  deriving DecidableEq, Repr, Inhabited

/-- A converter's two calibration attempts; the second counts only where the first fails (R147). -/
structure CalRes where
  conv : Fin 40
  first : CalMeas
  second : CalMeas
  deriving DecidableEq, Repr

/-- What a leaf latches at a seal beside its own state (R36, R37). -/
structure SealIn where
  /-- Raw conversion codes of each port's converter in the previous course, SP0 first (R134). -/
  raw : List (List Int) := []
  /-- New housekeeping conversions, HK0 first; `none` where the input was not converted in the course (R159). -/
  hk : List (Option Nat) := []
  /-- Course readings of die sensors S0 to S11, 1/16 °C (R410). -/
  dieTemps : List Int := []
  /-- Course readings of the housing sensors H0 to H3, 1/16 °C (R399). -/
  housing : List Int := []
  /-- Line monitor flags A, B, Z, U, V, W of ports 0 and 1, A lowest (R174). -/
  lines : List (BitVec 6) := []
  /-- The HVIL signal counts as carried in the previous course (R632). -/
  hvil : Bool := true
  /-- The partner's source, reference and stage states as its mirror shows them, for the comparisons of R197, R282,
  R315, R344 and R380: block code, index, the partner's register value. -/
  partner : List (Nat × Nat × Nat) := []
  /-- CAN buffers whose frame is in transmission: bus, buffer (R516). -/
  canTx : List (Nat × Nat) := []
  deriving DecidableEq, Repr
/-! Gate-drive channels (R208 to R242). -/

/-- A frame as a channel received it on the link of one leaf (R213, R216 to R218): delimiter, body, CRC-8, and the fine
tick of the channel's course at which it is usable. -/
structure GateRx where
  chan : Fin 48
  link : LeafId
  delim : Byte
  body : BitVec 72
  crc : Byte
  tick : Fin 4000
  deriving DecidableEq, Repr
/-- A current table: 4,420 bytes, byte 0 lowest (R263). -/
abbrev CurTable := BitVec 35360
/-! Charging (R327 to R353). -/

/-- A phase's window of 100 ms (R345): RMS voltage and RMS current in mV and mA, frequency in mHz. -/
structure PhaseWin where
  vMv : Nat
  iMa : Nat
  mHz : Nat
  deriving DecidableEq, Repr, Inhabited

/-- A pilot measurement (R336): plateaus in mV (`none` where there is none), frequency in Hz, duty in 0.1%, whether PWM is
present, and the courses it has held. -/
structure PilotRx where
  high : Option Int
  low : Option Int
  hz : Nat
  duty : Nat
  pwm : Bool
  courses : Nat
  deriving DecidableEq, Repr
/-! Actuators (R365 to R378). -/

/-- A frame as an actuator stage received it on the link of one leaf (R367): delimiter, body, CRC-8, fine tick. -/
structure StageRx where
  stage : Fin 3
  link : LeafId
  delim : Byte
  body : BitVec 72
  crc : Byte
  tick : Fin 4000
  deriving DecidableEq, Repr

/-- What a stage measured over the course its STATUS frame describes (R368): the phase comparators u, v, w (u highest) at
the sample, I_MEAN in 0.25 A, whether ILIM ended an on interval, °C + 64, and ACT_VIN in 0.2 V. -/
structure StageMeas where
  read : BitVec 3
  iMean : Byte
  ilim : Bool
  temp : Byte
  vin : Byte
  deriving DecidableEq, Repr
/-! Tie units (R430 to R437). -/

/-- A MARK as it arrived: lane, check, state byte, count, and its arrival less latency and 3,712 ticks, in ps (R431,
R434). -/
structure MarkRx where
  lane : Fin 2
  crcOk : Bool
  state : Byte
  count : BitVec 32
  offsetPs : Int
  deriving DecidableEq, Repr

/-- One record of a KEYED unit: the committed state of a keyed block (R436). -/
structure KeyedRec where
  stage : Nat
  /-- Per instance: active bank, cascade in use. -/
  forms : List (Nat × Bool)
  /-- Δid for T0 to T3; effective VSET for the link guard. -/
  aux0 : Int
  /-- |v| for T0 to T3; RS for the link guard. -/
  aux1 : Int
  /-- Per instance: x[n-1], x[n-2], x[n-3], y[n-1], y[n-2], y[n-3], w[n-1], w[n-2]. -/
  hist : List (List Int)
  deriving DecidableEq, Repr, Inhabited

/-- A change carried by a CHANGE unit: descriptor header fields, effective course and the descriptor's bytes (R51). -/
structure ChangeRx where
  tag : Nat
  dseq : BitVec 32
  want : Bool
  effect : Course
  bytes : Slot
  deriving DecidableEq, Repr

/-- The content a REQUEST asks for (R432). -/
inductive TieReq
  | settings (gen : Nat)
  | ledger (recno : Nat)
  | superseded
  deriving DecidableEq, Repr
/-! The doorbell block (R462). -/

/-- The doorbell block as its read returned it (R462): 2,048 bits, byte 0 lowest. -/
abbrev DoorbellBlock := BitVec 2048
/-! CAN and Ethernet (R505 to R526). -/

/-- A valid frame on a CAN bus (R505, R513): format and flags, DLC, identifier, data bytes, CRS_FINE at the sample point of
the bit at which it became valid. -/
structure CanRx where
  ide : Bool
  fdf : Bool
  brs : Bool
  esi : Bool
  rtr : Bool
  dlc : Fin 16
  id : BitVec 29
  data : List Byte
  fine : Fine
  deriving DecidableEq, Repr, Inhabited

/-- An Ethernet frame (R519 to R524): addresses, EtherType, 802.1Q tag, R-TAG sequence, length from destination address to
FCS, whether the FCS holds, and its content named by a number. -/
structure EthFrame where
  dst : BitVec 48
  src : BitVec 48
  etype : BitVec 16
  tag : Option (BitVec 16)
  rtag : Option (BitVec 16)
  len : Nat
  fcsOk : Bool
  content : Nat
  deriving DecidableEq, Repr, Inhabited

/-- A gPTP event message with what the time-aware function takes from it (R525): whether it is a Sync of the grandmaster,
its timestamp, the grandmaster, the roles of E0 and E1, the gPTP time of the timestamp in nanoseconds, and the rate ratio
in UQ2.30. -/
structure PtpRx where
  sync : Bool
  at_ : Course
  tick : Fin 4000
  gm : BitVec 64
  roles : Fin 4 × Fin 4
  ns : Nat
  rate : BitVec 32
  deriving DecidableEq, Repr
/-! The ledger and the history (R532 to R563). -/

/-- A ledger record: its bytes 0 to 191, byte 0 lowest, and its signature, bytes 192 to 255 (R539). -/
structure LRec where
  head : BitVec 1536
  sig : BitVec 512
  deriving DecidableEq, Repr, Inhabited

/-- A day's summary as the leaves exchange it (R558): day index, Ah in and out in 0.1 Ah, EFC in 0.01, median resistance
in 10 µΩ where the day has one, its count of steps, hours of the day and hours flagged, last BMS state of health in
0.01%. -/
structure DaySum where
  day : Nat
  ahIn : Nat
  ahOut : Nat
  efc : Nat
  res : Option Nat
  steps : Nat
  hours : Nat
  flagged : Nat
  soh : Option Nat
  deriving DecidableEq, Repr, Inhabited

/-- One entry of the BMS CAN map (R554). -/
structure MapEntry where
  id : Nat
  ide : Bool
  start : Nat
  big : Bool
  len : Nat
  qty : Nat
  sgn : Bool
  idx : Nat
  offset : Int
  scale : Int
  deriving DecidableEq, Repr, Inhabited
/-! Firmware, settings and update (R564 to R587). -/

/-- What a settings generation holds (R578): its number, security version, format and content digest; preset values of RWS registers under
their offsets; the block list with the bounds of the five keyed blocks; coefficient tables under 8 × block + instance
and bank; current tables under their machine; the BMS CAN map; the mailbox binding table. -/
structure Settings where
  gen : Nat := 0
  secver : Nat := 0
  fmt : Nat := 2
  digest : DigestId := 0
  presets : List (Nat × Word) := []
  blocks : List FillBlock := []
  keyedBounds : List Nat := []
  coefs : List (Nat × Nat × CoefTable) := []
  currents : List (Nat × CurTable) := []
  bms : List MapEntry := []
  binds : Option (List Word) := none
  deriving DecidableEq, Repr, Inhabited

/-- What the buffer that a descriptor names, or the store a request reads, gives (R471, R545): for the descriptors that
have one. -/
structure BufRead where
  ok : Bool := true
  /-- The frame of a NET_SEND. -/
  frame : EthFrame := default
  /-- The header of a STREAM_OPEN. -/
  header : BitVec 2560 := 0
  /-- Archive copies of a READ_RECORDS found bad. -/
  oneBad : List Nat := []
  bothBad : List Nat := []
  deriving DecidableEq, Repr
/-! Module states, test and service (R588 to R616). -/

/-- What the start of a leaf finds, at BOOT and at a restart (R445, R591). -/
structure StartRes where
  /-- The image of slot A and of slot B verified (R567). -/
  imageA : Bool
  imageB : Bool
  /-- Settings brought to a higher format passed their checks (R583). -/
  migrateOk : Bool
  /-- Engines that failed their logic BIST twice (R83). -/
  enginesBad : List (Fin 24)
  /-- The full self-calibration of the converters (R146, R147). -/
  cal : List CalRes
  /-- Fast-trip comparators whose test failed twice (R157), as port numbers. -/
  ftBad : List (Fin 36)
  deriving DecidableEq, Repr

/-- What one leaf's boot sequence found, step by step (R591, R592, R594). -/
structure BootLeaf where
  /-- Results of the keystone logic BIST and of its one repeat. -/
  bist : Bool
  bistRepeat : Bool
  start : StartRes
  /-- The settings record that could be read: 0 CURRENT, 1 PREVIOUS, 2 neither (R581); generation 0 of the image (R578). -/
  settings : Fin 3
  factory : Settings
  /-- Biased channels that gave no valid STATUS on this leaf's link (R592). -/
  noStatus : Nat
  /-- Whether the fine timebase locked by the end of plinth boot (R33). -/
  tbLock : Bool
  /-- Whether the PCIe link trained (R457), and MARKs came from the partner during tie alignment (R593). -/
  linkUp : Bool
  marks : Bool
  /-- Whether the ledger chain verified, and the highest RECNO found in store and archive (R547). -/
  chainOk : Bool
  highest : Nat
  deriving DecidableEq, Repr

/-- What the tests of a full-leaf BIST found (R607): units that failed on their repeat, units that passed on it, engines
that failed twice, and the calibration of the converters. -/
structure BistRes where
  failed : List (Fin 8)
  transient : List (Fin 8)
  enginesBad : List (Fin 24)
  cal : List CalRes
  signature : Word
  expected : Word
  deriving DecidableEq, Repr

/-- A tool's answer in step 2 of a session (R609): identity, rights asked for; what the device's own checks of the chain,
the signature over the nonce and the certificate gave. The authority is 0 service, 1 enrolled integrator key,
2 manufacturing. -/
structure AuthRx where
  who : Ident
  rights : BitVec 6
  chainOk : Bool
  sigOk : Bool
  authority : Fin 3
  certRights : BitVec 6
  deriving DecidableEq, Repr

/-- The commands of the block, one constructor per row of the table of operations and events. Each is whole and
indivisible; what comes about inside it, its meaning holds. -/
inductive Instr
  /-- SUPPLY_APPLIED (R5). -/
  | supplyApplied
  /-- WAKE (R588). -/
  | wake (wakeMv heldUs vlvMv : Nat)
  /-- CP_WAKE (R588). -/
  | cpWake (cpMv heldUs vlvMv : Nat)
  /-- WAKE_RELEASE (R5). -/
  | wakeRelease
  /-- BOOT_COMPLETE (R591). -/
  | bootComplete (r0 r1 : BootLeaf) (chans : Vector BootChan 48) (ms : Nat)
  /-- TIE_ABSENT_AT_BOOT (R593). -/
  | tieAbsentAtBoot (courses : Nat)
  /-- PARK_ENTRY (R589). -/
  | parkEntry (sigs : List (BitVec 512))
  /-- SUPPLY_LOST (R590). -/
  | supplyLost (vlv0Mv vlv1Mv heldUs : Nat) (keep : Bool)
  /-- ALL_SUPPLIES_LOST (R5). -/
  | allSuppliesLost
  /-- RESET_N_ASSERT (R600). -/
  | resetNAssert (ns : Nat)
  /-- RESET_N_RELEASE (R600). -/
  | resetNRelease (vlvMv : Nat)
  /-- CARRY (R595). -/
  | carry
  /-- LEAVE (R596). -/
  | leave
  /-- RESET (R597). -/
  | reset (l : LeafId)
  /-- WORKSHOP_ENTRY (R598). -/
  | workshopEntry
  /-- WORKSHOP_EXIT (R598). -/
  | workshopExit
  /-- REGISTER_WRITE (R13). -/
  | registerWrite (l : LeafId) (a : RegAccess)
  /-- RC_READ (R13). -/
  | rcRead (l : LeafId) (off size : Nat) (who : Ident)
  /-- CRS_COUNT_READ (R57). -/
  | crsCountRead (l : LeafId) (tick : Fin 4000) (size : Nat) (high : Bool)
  /-- SEAL (R36). -/
  | seal (l : LeafId) (inp : SealIn)
  /-- KEYED_DEADLINE (R38). -/
  | keyedDeadline (l : LeafId)
  /-- FILL_DEADLINE (R39). -/
  | fillDeadline (l : LeafId)
  /-- DOORBELL_FETCH (R40). -/
  | doorbellFetch (l : LeafId)
  /-- DOORBELL_COMPLETION (R463). -/
  | doorbellCompletion (l : LeafId) (block : DoorbellBlock) (error : Bool)
  /-- DOORBELL_DEADLINE (R41). -/
  | doorbellDeadline (l : LeafId)
  /-- PLAN_COMMIT (R52). -/
  | planCommit
  /-- TIMEBASE_COMPENSATION (R31). -/
  | timebaseCompensation (l : LeafId)
  /-- PAIR_OUTPUT_AGREED (R76). -/
  | pairOutputAgreed (l : LeafId) (block : Fin 5) (tick : Fin 4000) (secondReads : Nat)
  /-- PAIR_MISMATCH (R78). -/
  | pairMismatch (l : LeafId) (pos : Fin 8) (tick : Fin 4000) (inputTwice : Bool)
  /-- PAIR_RERUN_COMPLETE (R78). -/
  | pairRerunComplete (l : LeafId) (pos : Fin 8) (tick : Fin 4000) (recurs : Bool)
  /-- CYCLE_GUARD_STOP (R68). -/
  | cycleGuardStop (l : LeafId) (e : Fin 24)
  /-- FILL_BLOCK_COMPLETE (R74). -/
  | fillBlockComplete (l : LeafId) (e : Fin 24) (tick : Fin 4000) (agree : Bool)
  /-- STEAL (R73). -/
  | steal (l : LeafId) (thief : Fin 24)
  /-- UNCORRECTABLE_ERROR (R25). -/
  | uncorrectableError (l : LeafId) (loc : ErrLoc) (single : Bool)
  /-- SHEDDING_DECAY (R85). -/
  | sheddingDecay (l : LeafId)
  /-- HANDOVER_START (R79). -/
  | handoverStart (l : LeafId)
  /-- HANDOVER_DIGEST_CHECK (R79). -/
  | handoverDigestCheck (l : LeafId) (ok : Bool)
  /-- HANDOVER_STATE_COPY (R79). -/
  | handoverStateCopy (l : LeafId)
  /-- HANDOVER_COMPLETE (R79). -/
  | handoverComplete (l : LeafId)
  /-- ENGINE_SELF_TEST_STEP (R82). -/
  | engineSelfTestStep (l : LeafId)
  /-- ENGINE_SELF_TEST_COMPLETE (R83). -/
  | engineSelfTestComplete (l : LeafId) (signature expected : Word)
  /-- SPLIT (R87). -/
  | split (l : LeafId) (pos : Fin 8) (side : Bool) (who : Ident)
  /-- END_SPLIT (R88). -/
  | endSplit (l : LeafId) (pos : Fin 8) (who : Ident)
  /-- TABLE_SWITCH (R108). -/
  | tableSwitch (l : LeafId) (d : Desc)
  /-- TEST_START (R114). -/
  | testStart (l : LeafId) (d : Desc)
  /-- TEST_STOP (R114). -/
  | testStop (l : LeafId) (d : Desc)
  /-- CORRELATION_WINDOW_END (R115). -/
  | correlationWindowEnd (l : LeafId) (slot : Fin 4) (ia qa ib qb : Int) (lost : Bool)
  /-- CAPTURE_START (R119). -/
  | captureStart (l : LeafId) (d : Desc)
  /-- CAPTURE_STOP (R122). -/
  | captureStop (l : LeafId) (d : Desc)
  /-- CAPTURE_READ (R122). -/
  | captureRead (l : LeafId) (d : Desc)
  /-- CAPTURE_TRIGGER (R120). -/
  | captureTrigger (l : LeafId) (slot : Fin 4) (value : Int) (event : Nat)
  /-- CAPTURE_ROW (R118). -/
  | captureRow (l : LeafId) (slot : Fin 4) (times : List Int)
  /-- SELFCAL (R146). -/
  | selfcal (l : LeafId) (who : Ident)
  /-- SELFCAL_COMPLETE (R146). -/
  | selfcalComplete (l : LeafId) (res : List CalRes)
  /-- RECAL_STEP_START (R150). -/
  | recalStepStart (l : LeafId)
  /-- RECAL_FIRST_OVERLAP (R148). -/
  | recalFirstOverlap (l : LeafId) (cal : CalRes) (activeMean spareMean : Int)
  /-- RECAL_SECOND_OVERLAP (R149). -/
  | recalSecondOverlap (l : LeafId) (cal : CalRes) (activeMean spareMean : Int)
  /-- RECAL_STEP_END (R148). -/
  | recalStepEnd (l : LeafId)
  /-- FAST_TRIP (R154). -/
  | fastTrip (l : LeafId) (port : Fin 36) (mv : Int) (tick : Fin 4000)
  /-- FT_TEST (R157). -/
  | ftTest (l : LeafId) (port : Fin 36) (pass : Bool)
  /-- SUPPLY_HALF (R176). -/
  | supplyHalf (l : LeafId) (port : Fin 2) (regulator : LeafId) (courses : Nat)
  /-- QUADRATURE_ERROR (R178). -/
  | quadratureError (l : LeafId) (port : Fin 2)
  /-- INDEX (R185). -/
  | index (l : LeafId) (port : Fin 2) (a b : Bool) (held : Nat)
  /-- INDEX_MISSING (R186). -/
  | indexMissing (l : LeafId) (port : Fin 2)
  /-- UVW_EDGE (R189). -/
  | uvwEdge (l : LeafId) (port : Fin 2) (uvw : BitVec 3) (began : Fine) (held : Nat)
  /-- ARM (R183). -/
  | arm (l : LeafId) (port : Fin 2) (direct : Bool)
  /-- PROBE_COMPLETE (R196). -/
  | probeComplete (l : LeafId) (port : Fin 2) (ratio100 polarity100 : Nat) (count : BitVec 32)
  /-- POS_FLT_CLEAR (R198). -/
  | posFltClear (l : LeafId) (port : Fin 2) (value : Word) (who : Ident)
  /-- COURSE_MARK (R214). -/
  | courseMark (chan : Fin 51) (link : LeafId) (received : Bool) (low : Byte)
  /-- COURSE_FRAME (R222). -/
  | courseFrame (rx : GateRx)
  /-- CARRIER_FRAME (R223). -/
  | carrierFrame (rx : GateRx)
  /-- MAINT_NOP (R218). -/
  | maintNop (rx : GateRx)
  /-- MAINT_WRITE (R218). -/
  | maintWrite (rx : GateRx)
  /-- MAINT_READ (R218). -/
  | maintRead (rx : GateRx)
  /-- MAINT_TEST (R241). -/
  | maintTest (rx : GateRx) (undisturbed pass : Bool)
  /-- MAINT_CLEAR (R234). -/
  | maintClear (rx : GateRx)
  /-- MAINT_LOWER (R218). -/
  | maintLower (rx : GateRx)
  /-- GATE_EDGE (R222). -/
  | gateEdge (chan : Fin 48) (tick : Fin 4000)
  /-- STATUS_FRAME (R219). -/
  | statusFrame (chan : Fin 48) (ok0 ok1 : Bool) (temp vdd2 vee2 : Byte)
  /-- FRAME_ABSENCE_TIMEOUT (R225). -/
  | frameAbsenceTimeout (chan : Fin 48) (tick : Fin 4000)
  /-- PARTNER_OFF_REPORT (R227). -/
  | partnerOffReport (chan : Fin 48) (tick : Fin 4000)
  /-- ILK_STALL (R227). -/
  | ilkStall (chan : Fin 48) (tick : Fin 4000)
  /-- DESATURATION (R228). -/
  | desaturation (chan : Fin 48) (tick : Fin 4000) (mv samples : Nat)
  /-- SOFT_TURN_OFF_END (R230). -/
  | softTurnOffEnd (chan : Fin 48) (tick : Fin 4000) (below : Bool) (ns : Nat)
  /-- UNDERVOLTAGE (R240). -/
  | undervoltage (chan : Fin 48) (tick : Fin 4000) (vee : Bool) (mv ns : Nat)
  /-- OVERTEMPERATURE (R240). -/
  | overtemperature (chan : Fin 48) (tick : Fin 4000) (degC : Int)
  /-- OVERTEMPERATURE_RELEASE (R240). -/
  | overtemperatureRelease (chan : Fin 48) (degC : Int) (courses : Nat)
  /-- WAIT_EXPIRY (R233). -/
  | waitExpiry (pair : Fin 24) (causeGone : Bool)
  /-- OV_HW_RELEASE (R240). -/
  | ovHwRelease (inside0 inside1 : Bool)
  /-- TRY_WINDOW_END (R233). -/
  | tryWindowEnd (pair : Fin 24)
  /-- GROUP_LOSS (R212). -/
  | groupLoss (g : Fin 11) (mv ns : Nat)
  /-- BIAS_RESTORED (R212). -/
  | biasRestored (g : Fin 11) (mv us : Nat) (src : Fin 4)
  /-- STRAP_READ (R237). -/
  | strapRead (chan : Fin 48) (ohm courses : Nat)
  /-- GATE_TEST_STEP (R241). -/
  | gateTestStep (l : LeafId)
  /-- GCH_CLEAR (R234). -/
  | gchClear (l : LeafId) (chan : Fin 64) (direct : Bool) (who : Ident)
  /-- GCH_TEST (R245). -/
  | gchTest (l : LeafId) (chan : Fin 64) (who : Ident)
  /-- TRACTION (R266). -/
  | traction (l : LeafId) (d : Desc)
  /-- SP_TIMEOUT (R266). -/
  | spTimeout (l : LeafId)
  /-- OVERCURRENT_RETRY (R275). -/
  | overcurrentRetry (l : LeafId) (set : Fin 4)
  /-- OBS_WINDOW_END (R278). -/
  | obsWindowEnd (l : LeafId) (m : Fin 2)
  /-- SYNC_TIMEOUT (R281). -/
  | syncTimeout (l : LeafId)
  /-- LINK (R296). -/
  | link (l : LeafId) (d : Desc)
  /-- DISCHARGE_END (R305). -/
  | dischargeEnd (l : LeafId)
  /-- BATT_REF_TIMEOUT (R296). -/
  | battRefTimeout (l : LeafId)
  /-- PRECHARGE_MATCH (R302). -/
  | prechargeMatch (l : LeafId)
  /-- PRE_TIMEOUT (R302). -/
  | preTimeout (l : LeafId)
  /-- OVERLAP_ELAPSED (R302). -/
  | overlapElapsed (l : LeafId)
  /-- OPENING_CURRENT_LOW (R302). -/
  | openingCurrentLow (l : LeafId)
  /-- MAIN_MINUS_OPEN (R302). -/
  | mainMinusOpen (l : LeafId)
  /-- OPEN_BLOCKED (R302). -/
  | openBlocked (l : LeafId)
  /-- HVIL_OPEN (R304). -/
  | hvilOpen (l : LeafId)
  /-- CHOPPER_RETEST (R311). -/
  | chopperRetest (l : LeafId)
  /-- CHOP_FAIL_CLEAR (R311). -/
  | chopFailClear (l : LeafId) (who : Ident)
  /-- SHARE (R298). -/
  | share (l : LeafId) (leg : Fin 4)
  /-- LEG_READMIT (R298). -/
  | legReadmit (l : LeafId) (leg : Fin 4)
  /-- AUX_RESTART (R314). -/
  | auxRestart (l : LeafId)
  /-- CHARGE (R342). -/
  | charge (l : LeafId) (d : Desc)
  /-- CHARGE_SUPPLY (R342). -/
  | chargeSupply (l : LeafId) (d : Desc)
  /-- CHARGE_STOP (R342). -/
  | chargeStop (l : LeafId) (d : Desc)
  /-- CHARGE_RESTART (R350). -/
  | chargeRestart (l : LeafId) (d : Desc)
  /-- HLC_REFRESH (R339). -/
  | hlcRefresh (l : LeafId) (d : Desc)
  /-- HLC_EXPIRY (R339). -/
  | hlcExpiry (l : LeafId)
  /-- PILOT_STATE (R336). -/
  | pilotState (l : LeafId) (p : PilotRx)
  /-- PROXIMITY_READING (R338). -/
  | proximityReading (l : LeafId) (ohm courses : Nat)
  /-- AC_WINDOW (R345). -/
  | acWindow (l : LeafId) (a b c : PhaseWin)
  /-- EVSE_TIMEOUT (R342). -/
  | evseTimeout (l : LeafId)
  /-- PFC_BUS_READY (R342). -/
  | pfcBusReady (l : LeafId)
  /-- SEARCH_STEP (R346). -/
  | searchStep (l : LeafId)
  /-- RESEARCH (R346). -/
  | research (l : LeafId)
  /-- WEAK_SUPPLY (R347). -/
  | weakSupply (l : LeafId)
  /-- WEAK_SUPPLY_PAUSE_END (R347). -/
  | weakSupplyPauseEnd (l : LeafId)
  /-- TERMINATION (R348). -/
  | termination (l : LeafId)
  /-- SAFETY_TIMER_EXPIRY (R349). -/
  | safetyTimerExpiry (l : LeafId)
  /-- STOP_SEQUENCE_END (R343). -/
  | stopSequenceEnd (l : LeafId)
  /-- AC_LOSS_TIMEOUT (R353). -/
  | acLossTimeout (l : LeafId)
  /-- CHARGER_RESTART (R353). -/
  | chargerRestart (l : LeafId)
  /-- UNLOCK (R350). -/
  | unlock (l : LeafId) (who : Ident)
  /-- SHIFT (R384). -/
  | shift (l : LeafId) (d : Desc)
  /-- PARK_ENGAGE (R389). -/
  | parkEngage (l : LeafId) (d : Desc)
  /-- PARK_RELEASE (R389). -/
  | parkRelease (l : LeafId) (d : Desc)
  /-- REFERENCE (R383). -/
  | reference (l : LeafId) (d : Desc)
  /-- ACTUATOR (R381). -/
  | actuator (l : LeafId) (d : Desc)
  /-- ACTUATOR_FRAME (R367). -/
  | actuatorFrame (rx : StageRx)
  /-- ACTUATOR_STATUS (R368). -/
  | actuatorStatus (stage : Fin 3) (ok0 ok1 : Bool) (m : StageMeas)
  /-- ACTUATOR_FALLBACK (R366). -/
  | actuatorFallback (stage : Fin 3)
  /-- ALIGN_DONE (R375). -/
  | alignDone (l : LeafId) (a : Fin 3)
  /-- LOCKED_ROTOR (R377). -/
  | lockedRotor (l : LeafId) (a : Fin 3)
  /-- ACT_WAIT_EXPIRY (R375). -/
  | actWaitExpiry (l : LeafId) (a : Fin 3)
  /-- MOVE_END (R374). -/
  | moveEnd (l : LeafId) (a : Fin 3)
  /-- END_STOP_ARRIVAL (R374). -/
  | endStopArrival (l : LeafId) (a : Fin 3)
  /-- HARD_OVERCURRENT (R377). -/
  | hardOvercurrent (stage : Fin 3) (milliAmp : Nat)
  /-- BOOTSTRAP_UNDERVOLTAGE (R378). -/
  | bootstrapUndervoltage (stage : Fin 3) (phase : Fin 3) (tick : Fin 4000) (mv : Nat)
  /-- ACT_VIN_RESTORED (R376). -/
  | actVinRestored (l : LeafId)
  /-- SHIFT_RETURN (R386). -/
  | shiftReturn (l : LeafId)
  /-- ENGAGE_HOLD_EXPIRY (R387). -/
  | engageHoldExpiry (l : LeafId)
  /-- THERMAL_SAMPLE (R401). -/
  | thermalSample (l : LeafId)
  /-- BROKEN_CLEAR (R407). -/
  | brokenClear (l : LeafId) (sensor : Fin 83) (who : Ident)
  /-- LEAF_SILENCE (R427). -/
  | leafSilence (l : LeafId) (cause : Fin 6) (tick : Fin 4000)
  /-- SILENT_RECEIVED (R442). -/
  | silentReceived (l : LeafId) (cause : Fin 7) (tick : Fin 4000)
  /-- OUT_ENTRY (R429). -/
  | outEntry (l : LeafId)
  /-- SWAP (R425). -/
  | swap
  /-- REJOIN (R452). -/
  | rejoin (viaLeaf : LeafId) (direct : Bool) (who : Ident)
  /-- RESTART_COMPLETE (R445). -/
  | restartComplete (l : LeafId) (r : StartRes)
  /-- RESTART_TIMEOUT (R423). -/
  | restartTimeout (l : LeafId) (stepFailed : Bool)
  /-- ALIGN_EXIT (R446). -/
  | alignExit (l : LeafId)
  /-- ALIGN_TIMEOUT (R423). -/
  | alignTimeout (l : LeafId)
  /-- MARK (R434). -/
  | mark (l : LeafId) (m : MarkRx)
  /-- LANE_LOST (R430). -/
  | laneLost (l : LeafId) (lane : Fin 2) (noSignalNs : Nat)
  /-- LANE_UP (R430). -/
  | laneUp (l : LeafId) (lane : Fin 2)
  /-- LOST (R433). -/
  | lost (l : LeafId) (rx : Rx)
  /-- ISOLATION_EVIDENCE (R435). -/
  | isolationEvidence (l : LeafId)
  /-- PROBE (R434). -/
  | probe (l : LeafId)
  /-- ECHO (R434). -/
  | echo (l : LeafId) (rx : Rx) (roundPs : Nat)
  /-- KEYED (R436). -/
  | keyed (l : LeafId) (rx : Rx) (m : Course) (recs : List KeyedRec)
  /-- THERMAL (R437). -/
  | thermal (l : LeafId) (rx : Rx) (m : Course) (temps : List (Int × Int)) (fallback : BitVec 48)
  /-- CHANGE (R51). -/
  | change (l : LeafId) (rx : Rx) (c : ChangeRx)
  /-- CHANGE_WITHDRAW (R51). -/
  | changeWithdraw (dseq : BitVec 32)
  /-- ACK (R432). -/
  | ack (l : LeafId) (rx : Rx) (typ : Nat) (seq : BitVec 32)
  /-- LEDGER (R443). -/
  | ledger (l : LeafId) (rx : Rx) (rec : LRec)
  /-- LEDGER_RESEND (R432). -/
  | ledgerResend (l : LeafId) (seq : BitVec 32)
  /-- SETTINGS (R432). -/
  | settings (l : LeafId) (rx : Rx) (gen : Nat) (digest : DigestId)
  /-- VOICE_UNIT (R432). -/
  | voiceUnit (l : LeafId) (rx : Rx) (buses : BitVec 4) (holder : LeafId) (at_ : Course)
  /-- DIGEST (R558). -/
  | digest (l : LeafId) (rx : Rx) (dig : BitVec 256) (sum : DaySum)
  /-- SETUP (R595). -/
  | setup (l : LeafId) (rx : Rx)
  /-- CHECK (R440). -/
  | check (l : LeafId) (rx : Rx) (stage : Fin 11) (agree : Bool)
  /-- HEAD (R547). -/
  | head (l : LeafId) (rx : Rx) (recno : Nat) (dig : BitVec 256) (highest : Nat) (verified : Bool)
  /-- REQUEST (R432). -/
  | request (l : LeafId) (rx : Rx) (what : TieReq)
  /-- SETDATA (R432). -/
  | setdata (l : LeafId) (rx : Rx) (gen off : Nat) (content : DigestId) (last : Bool)
  /-- MIRFMT (R574). -/
  | mirfmt (l : LeafId) (rx : Rx) (fmt : Nat) (at_ : Course)
  /-- SUPERSEDED (R548). -/
  | superseded (l : LeafId) (rx : Rx) (rec : LRec) (holder : LeafId)
  /-- HEALTH_RECORD (R441). -/
  | healthRecord (l : LeafId)
  /-- ROLE_DECLARATION (R426). -/
  | roleDeclaration
  /-- ARBITER_FALLBACK (R17). -/
  | arbiterFallback (output : Fin 7)
  /-- HOST_LINK_LOST (R444). -/
  | hostLinkLost (l : LeafId)
  /-- HOT_RESET (R457). -/
  | hotReset (l : LeafId) (perst : Bool)
  /-- LINK_DOWN (R457). -/
  | linkDown (l : LeafId) (bmeCleared : Bool)
  /-- RING_ENGINE_RUN (R457). -/
  | ringEngineRun (l : LeafId)
  /-- RING_ENGINE_STOP (R457). -/
  | ringEngineStop (l : LeafId)
  /-- DESCRIPTOR_RETRY (R470). -/
  | descriptorRetry (l : LeafId) (ring : Fin 10) (d : Desc) (b : BufRead)
  /-- LATE_COMPLETION (R458). -/
  | lateCompletion (l : LeafId)
  /-- RING_STALL (R472). -/
  | ringStall (l : LeafId) (ring : Fin 10)
  /-- OUTPUT_ENTRY_POST (R475). -/
  | outputEntryPost (l : LeafId) (ring : Fin 10)
  /-- REG_WRITE (R460). -/
  | regWrite (l : LeafId) (d : Desc)
  /-- READ_RECORDS (R550). -/
  | readRecords (l : LeafId) (d : Desc) (oneBad bothBad : List Nat)
  /-- LEDGER_STATUS (R550). -/
  | ledgerStatus (l : LeafId) (d : Desc)
  /-- GET_KEYS (R550). -/
  | getKeys (l : LeafId) (d : Desc)
  /-- READ_SUPERSEDED (R550). -/
  | readSuperseded (l : LeafId) (d : Desc)
  /-- READ_HISTORY (R550). -/
  | readHistory (l : LeafId) (d : Desc)
  /-- GRADE (R559). -/
  | grade (l : LeafId) (d : Desc)
  /-- GRADE_COMPLETE (R559). -/
  | gradeComplete (l : LeafId)
  /-- NET_SERVICE_REQUEST (R552). -/
  | netServiceRequest (l : LeafId) (port mac ip udp : Nat) (bytes : Slot)
  /-- MESSAGE_WORD_WRITE (R492). -/
  | messageWordWrite (l : LeafId) (chan : Fin 32) (w : Fin 16) (size : Nat) (high : Bool) (value : Word) (who : Ident)
  /-- POST (R492). -/
  | post (l : LeafId) (chan : Fin 32) (len : Fin 32) (who : Ident)
  /-- CANCEL (R492). -/
  | cancel (l : LeafId) (chan : Fin 32) (who : Ident)
  /-- RELEASE (R492). -/
  | release (l : LeafId) (chan : Fin 32) (who : Ident)
  /-- MBX_ACK (R492). -/
  | mbxAck (l : LeafId) (chan : Fin 32) (code : BitVec 16) (rlen : Fin 32) (who : Ident)
  /-- ACK_TIMEOUT (R495). -/
  | ackTimeout (l : LeafId) (chan : Fin 32)
  /-- CLAIM_LAPSE (R492). -/
  | claimLapse (l : LeafId) (chan : Fin 32)
  /-- MASTER_LOST (R496). -/
  | masterLost (l : LeafId) (who : Ident)
  /-- MAILBOX_SCAN (R497). -/
  | mailboxScan (l : LeafId)
  /-- BIND_WRITE (R490). -/
  | bindWrite (l : LeafId) (chan : Fin 32) (value : Word) (who : Ident)
  /-- TABLE_LOCK (R491). -/
  | tableLock (l : LeafId) (who : Ident)
  /-- LOCK_READ (R499). -/
  | lockRead (l : LeafId) (k : Fin 16) (size : Nat) (high : Bool) (who : Ident)
  /-- LOCK_RELEASE (R500). -/
  | lockRelease (l : LeafId) (k : Fin 16) (value : Word) (who : Ident)
  /-- CAN_FRAME_RECEIVED (R511). -/
  | canFrameReceived (l : LeafId) (bus : Fin 4) (f : CanRx) (reading : Bool)
  /-- SEND (R515). -/
  | send (l : LeafId) (bus : Fin 4) (d : Desc)
  /-- SEND_CONT (R515). -/
  | sendCont (l : LeafId) (bus : Fin 4) (d : Desc)
  /-- ABORT (R516). -/
  | abort (l : LeafId) (bus : Fin 4) (d : Desc)
  /-- CAN_TRANSMIT_DONE (R514). -/
  | canTransmitDone (l : LeafId) (bus : Fin 4) (buf : Fin 3) (fine : Fine)
  /-- VOICE (R508). -/
  | voice (l : LeafId) (bus : Fin 4) (direct : Bool) (vleaf : LeafId)
  /-- VOICE_DECLARATION (R507). -/
  | voiceDeclaration (bus : Fin 4)
  /-- ERROR_STATE_CHANGE (R517). -/
  | errorStateChange (l : LeafId) (bus : Fin 4) (tec : BitVec 9) (rec : BitVec 8) (errors : Nat) (fine : Fine)
  /-- BUS_OFF (R517). -/
  | busOff (l : LeafId) (bus : Fin 4) (fine : Fine)
  /-- RECOVER (R517). -/
  | recover (l : LeafId) (bus : Fin 4) (direct : Bool)
  /-- CAN0_AUTO_RECOVER (R517). -/
  | can0AutoRecover (l : LeafId)
  /-- RECOVERY_COMPLETE (R517). -/
  | recoveryComplete (l : LeafId) (bus : Fin 4) (occurrences : Nat) (fine : Fine)
  /-- BIT_TIMING_APPLY (R510). -/
  | bitTimingApply (l : LeafId) (bus : Fin 4)
  /-- TXD_DOMINANT_TIMEOUT (R527). -/
  | txdDominantTimeout (bus : Fin 4) (us : Nat)
  /-- ETH_FRAME_RECEIVED (R520). -/
  | ethFrameReceived (l : LeafId) (port : Fin 2) (f : EthFrame) (fine : Fine)
  /-- NET_SEND (R523). -/
  | netSend (l : LeafId) (d : Desc) (f : EthFrame) (bufOk : Bool)
  /-- ETH_LINK_DOWN (R527). -/
  | ethLinkDown (l : LeafId) (port : Fin 2)
  /-- ADDRESS_AGE_OUT (R520). -/
  | addressAgeOut (l : LeafId) (mac : BitVec 48)
  /-- PTP_MESSAGE (R525). -/
  | ptpMessage (l : LeafId) (port : Fin 2) (m : PtpRx)
  /-- TIME_REPORT (R526). -/
  | timeReport (l : LeafId)
  /-- GM_LOST (R526). -/
  | gmLost (l : LeafId)
  /-- MINUTE (R538). -/
  | minute (l : LeafId)
  /-- SIGNATURE_COMPLETE (R543). -/
  | signatureComplete (l : LeafId) (sig : BitVec 512) (valid : Bool)
  /-- CARRY_WORD_WRITE (R544). -/
  | carryWordWrite (l : LeafId)
  /-- ARCHIVE_COMPLETE (R545). -/
  | archiveComplete (l : LeafId)
  /-- HISTORY_HOUR (R556). -/
  | historyHour (l : LeafId)
  /-- BMS_STALE (R555). -/
  | bmsStale (l : LeafId) (qty : Fin 8) (idx : Fin 1024)
  /-- RESISTANCE_STEP (R557). -/
  | resistanceStep (l : LeafId)
  /-- STREAM_OPEN (R569). -/
  | streamOpen (l : LeafId) (d : Desc) (header : BitVec 2560) (bufOk : Bool)
  /-- STREAM_DATA (R570). -/
  | streamData (l : LeafId) (d : Desc) (bufOk : Bool)
  /-- STREAM_CLOSE (R571). -/
  | streamClose (l : LeafId) (d : Desc)
  /-- STREAM_ABORT (R569). -/
  | streamAbort (l : LeafId) (d : Desc)
  /-- VERIFY_COMPLETE (R571). -/
  | verifyComplete (l : LeafId) (sigOk csigOk payloadOk : Bool) (content : Settings)
  /-- ACTIVATE (R572). -/
  | activate
  /-- CONFIRM (R576). -/
  | confirm
  /-- REVERT (R577). -/
  | revert
  /-- SET_APPLY (R582). -/
  | setApply
  /-- MIX_LONG (R575). -/
  | mixLong (l : LeafId)
  /-- MEMORY_TEST_STEP (R603). -/
  | memoryTestStep (l : LeafId) (pass passRepeat : Bool)
  /-- SCRUB (R605). -/
  | scrub (l : LeafId) (found : Option (ErrLoc × Bool)) (dram : Bool) (sweep : Byte)
  /-- FULL_BIST (R606). -/
  | fullBist (target : LeafId) (direct : Bool)
  /-- FULL_BIST_COMPLETE (R607). -/
  | fullBistComplete (l : LeafId) (r : BistRes)
  /-- DIAG_READ (R608). -/
  | diagRead (l : LeafId) (data : Word) (check : Byte)
  /-- INJECT (R608). -/
  | inject (l : LeafId) (check : Byte)
  /-- SESSION_OPEN_REQUEST (R609). -/
  | sessionOpenRequest (nonce : BitVec 256) (serial : BitVec 128)
  /-- AUTHENTICATION (R609). -/
  | authentication (a : AuthRx)
  /-- SESSION_END (R610). -/
  | sessionEnd (cause : Fin 3)
  /-- DEBUG_HALT (R611). -/
  | debugHalt (l : LeafId) (keystone : Bool) (e : Fin 24)
  /-- SCAN_INSTRUCTION (R612). -/
  | scanInstruction (loaded : Bool)
  /-- ENROL (R564). -/
  | enrol (keyDigest : BitVec 256) (who : Ident)
  /-- KEY_GENERATE (R613). -/
  | keyGenerate (l : LeafId) (pub : BitVec 512)
  /-- PROD_LOCK (R613). -/
  | prodLock
  /-- COIL_LIMIT_TIMEOUT (R630). -/
  | coilLimitTimeout (coil : Fin 3) (ms : Nat)
  /-- ENCODER_EDGE (R178). -/
  | encoderEdge (l : LeafId) (port : Fin 2) (forward : Bool) (began : Fine) (held : Nat)
  /-- WINDING_LOSS (R226). -/
  | windingLoss (chan : Fin 48) (tick : Fin 4000)
  /-- BIAS_SOURCE_CHANGE (R211). -/
  | biasSourceChange (g : Fin 11) (linkMv lvMv : Nat) (rail load : Byte)
  /-- HVIL_CLOSED (R304). -/
  | hvilClosed (l : LeafId)
  /-- ETH_LINK_UP (R527). -/
  | ethLinkUp (l : LeafId) (port : Fin 2)
  /-- PCIE_LINK_UP (R457). -/
  | pcieLinkUp (l : LeafId) (bme msix : Bool)
  /-- RESTART_WINDOW_END (R424). -/
  | restartWindowEnd (l : LeafId)
  /-- AUTH_LOCKOUT_EXPIRY (R610). -/
  | authLockoutExpiry
  /-- DEBUG_RELEASE (R611). -/
  | debugRelease (l : LeafId)
  /-- STREAM_RECOVERY_RESET (R524). -/
  | streamRecoveryReset (l : LeafId) (stream : Fin 16)
  /-- COIL_DRIVER_FAULT (R447). -/
  | coilDriverFault (coil : Fin 3) (kind : Fin 4)
  deriving DecidableEq, Repr

end Sys2Proof
end

