-- ==== Sys2Proof/Decode.lean ====
section
/-! DEFINITION. Words of the table. The table of commands gives no row any bits: a command reaches the block as an access, a
frame, a descriptor or an event, never as a word of the table. -/

namespace Sys2Proof

/-- The command that a word of the table spells: no row of the table gives bits, so there is none. -/
def decodeTableWord (_nbits _w : Nat) : Option Instr := none

end Sys2Proof
end

