-- ==== Sys2Proof/Machine/Digest.lean ====
section
/-! DEFINITION. SHA-256 (FIPS 180-4), which R9, R542, R558 and R559 name. Words are numbers below 2^32. -/

namespace Sys2Proof.Machine

/-- Rotation of a 32-bit word to the right. -/
def rotr (x n : Nat) : Nat := (x >>> n) ||| ((x <<< (32 - n)) % 2 ^ 32)

/-- The round constants. -/
def shaK : List Nat :=
  [0x428a2f98, 0x71374491, 0xb5c0fbcf, 0xe9b5dba5, 0x3956c25b, 0x59f111f1, 0x923f82a4, 0xab1c5ed5,
   0xd807aa98, 0x12835b01, 0x243185be, 0x550c7dc3, 0x72be5d74, 0x80deb1fe, 0x9bdc06a7, 0xc19bf174,
   0xe49b69c1, 0xefbe4786, 0x0fc19dc6, 0x240ca1cc, 0x2de92c6f, 0x4a7484aa, 0x5cb0a9dc, 0x76f988da,
   0x983e5152, 0xa831c66d, 0xb00327c8, 0xbf597fc7, 0xc6e00bf3, 0xd5a79147, 0x06ca6351, 0x14292967,
   0x27b70a85, 0x2e1b2138, 0x4d2c6dfc, 0x53380d13, 0x650a7354, 0x766a0abb, 0x81c2c92e, 0x92722c85,
   0xa2bfe8a1, 0xa81a664b, 0xc24b8b70, 0xc76c51a3, 0xd192e819, 0xd6990624, 0xf40e3585, 0x106aa070,
   0x19a4c116, 0x1e376c08, 0x2748774c, 0x34b0bcb5, 0x391c0cb3, 0x4ed8aa4a, 0x5b9cca4f, 0x682e6ff3,
   0x748f82ee, 0x78a5636f, 0x84c87814, 0x8cc70208, 0x90befffa, 0xa4506ceb, 0xbef9a3f7, 0xc67178f2]

/-- The working variables a to h. -/
structure Sha where
  a : Nat
  b : Nat
  c : Nat
  d : Nat
  e : Nat
  f : Nat
  g : Nat
  h : Nat
  deriving DecidableEq, Repr

/-- The initial hash value. -/
def shaInit : Sha :=
  ⟨0x6a09e667, 0xbb67ae85, 0x3c6ef372, 0xa54ff53a, 0x510e527f, 0x9b05688c, 0x1f83d9ab, 0x5be0cd19⟩

/-- One round with the constant and the schedule word. -/
def shaRound (s : Sha) (k w : Nat) : Sha :=
  let s1 := rotr s.e 6 ^^^ rotr s.e 11 ^^^ rotr s.e 25
  let ch := (s.e &&& s.f) ^^^ ((2 ^ 32 - 1 - s.e) &&& s.g)
  let t1 := (s.h + s1 + ch + k + w) % 2 ^ 32
  let s0 := rotr s.a 2 ^^^ rotr s.a 13 ^^^ rotr s.a 22
  let maj := (s.a &&& s.b) ^^^ (s.a &&& s.c) ^^^ (s.b &&& s.c)
  ⟨(t1 + s0 + maj) % 2 ^ 32, s.a, s.b, s.c, (s.d + t1) % 2 ^ 32, s.e, s.f, s.g⟩

/-- The rounds over a window of sixteen schedule words, which moves on by one word a round. -/
def shaRounds : List Nat → List Nat → Sha → Sha
  | [], _, s => s
  | k :: ks, w, s =>
    let w0 := w.headD 0
    let w1 := w.getD 1 0
    let w9 := w.getD 9 0
    let w14 := w.getD 14 0
    let x0 := rotr w1 7 ^^^ rotr w1 18 ^^^ (w1 >>> 3)
    let x1 := rotr w14 17 ^^^ rotr w14 19 ^^^ (w14 >>> 10)
    shaRounds ks (w.drop 1 ++ [(w0 + x0 + w9 + x1) % 2 ^ 32]) (shaRound s k w0)

/-- Big-endian words of four bytes. -/
def beWords : List Nat → List Nat
  | a :: b :: c :: d :: t => (a * 2 ^ 24 + b * 2 ^ 16 + c * 2 ^ 8 + d) :: beWords t
  | _ => []

/-- One block of sixteen words. -/
def shaBlock (s : Sha) (w : List Nat) : Sha :=
  let r := shaRounds shaK w s
  ⟨(s.a + r.a) % 2 ^ 32, (s.b + r.b) % 2 ^ 32, (s.c + r.c) % 2 ^ 32, (s.d + r.d) % 2 ^ 32, (s.e + r.e) % 2 ^ 32,
    (s.f + r.f) % 2 ^ 32, (s.g + r.g) % 2 ^ 32, (s.h + r.h) % 2 ^ 32⟩

/-- All blocks of a message already padded; the number of blocks is the fuel. -/
def shaBlocks : Nat → Sha → List Nat → Sha
  | 0, s, _ => s
  | n + 1, s, w => shaBlocks n (shaBlock s (w.take 16)) (w.drop 16)

/-- The padding of a message of `n` bytes. -/
def shaPad (n : Nat) : List Nat :=
  let zeros := (55 + 64 - n % 64) % 64
  0x80 :: List.replicate zeros 0 ++ (List.range 8).map fun i => (8 * n) / 2 ^ (8 * (7 - i)) % 256

/-- SHA-256 of a list of bytes. The digest's first byte is its most significant. -/
def sha256 (m : List Nat) : BitVec 256 :=
  let w := beWords (m ++ shaPad m.length)
  let s := shaBlocks (w.length / 16) shaInit w
  BitVec.ofNat 256 ([s.a, s.b, s.c, s.d, s.e, s.f, s.g, s.h].foldl (fun x y => x * 2 ^ 32 + y) 0)

/-- A digest as 32 bytes in memory order, lowest first: the digest's first byte at the lowest offset. -/
def digestLE (d : BitVec 256) : Nat :=
  (List.range 32).foldl (fun x i => x + (d.toNat / 2 ^ (8 * (31 - i)) % 256) * 2 ^ (8 * i)) 0

end Sys2Proof.Machine
end

