-- ==== Sys2Proof/Machine/RegMap.lean ====
section
/-! DEFINITION. The register map of one leaf (R14, R56-R65, R89-R97, R125-R130, R162-R172, R199-R207,
R243-R254, R283-R291, R316-R326, R647, R354-R364, R392-R398, R420-R422, R450-R455, R485-R488, R502-R504,
R528-R531, R561-R563, R586-R587, R615-R616, R643-R646): every register of BAR0 and BAR2 with its offset, its index
range, the access code and the reset value of each field, and the smallest and largest value a write stores.
A BAR2 offset has 0x10_0000 added, so one number names a register of either window. -/

namespace Sys2Proof.Machine

/-- The access codes of R13. -/
inductive Access
  | ro | rw | rws | w1c | w1s | wo | rc
  deriving DecidableEq, Repr

/-- One field of a register: its bits, its access code, and, where its row names a range, the smallest and the
largest value a write stores ("stored as the nearer limit"). -/
structure RField where
  hi : Nat
  lo : Nat
  acc : Access
  min : Nat := 0
  max : Nat := 2 ^ (hi + 1 - lo) - 1
  deriving DecidableEq, Repr

/-- A register, or a family of registers at equal strides: index `i` lies at
`base + stride * (i / inner) + stride2 * (i % inner)`. -/
structure Reg where
  base : Nat
  count : Nat := 1
  stride : Nat := 0
  inner : Nat := 1
  stride2 : Nat := 0
  reset : Nat := 0
  others : List (Nat × Nat) := []
  fields : List RField
  deriving DecidableEq, Repr

/-- The offset of register `i` of a family. -/
def Reg.addr (r : Reg) (i : Nat) : Nat := r.base + r.stride * (i / r.inner) + r.stride2 * (i % r.inner)

/-- The reset value of register `i` of a family: `others` lists the members whose value differs. -/
def Reg.resetAt (r : Reg) (i : Nat) : Nat := (r.others.lookup i).getD r.reset

/-- A field named for the machine's own use. -/
structure Fld where
  reg : Reg
  hi : Nat
  lo : Nat
  deriving DecidableEq, Repr

/-- The width of a field in bits. -/
def Fld.width (f : Fld) : Nat := f.hi + 1 - f.lo

/-- The largest value of a field. -/
def Fld.max (f : Fld) : Nat := 2 ^ f.width - 1

/-- Member `k` of a field that repeats every `n` bits in its register ("slot s occupies bits ..."). -/
def Fld.at (f : Fld) (n k : Nat) : Fld := { f with hi := f.hi + n * k, lo := f.lo + n * k }

/-- GLB_ID: R14. -/
def GLB_ID : Reg :=
  { base := 0x0, reset := 0x4824
    fields := [{ hi := 39, lo := 32, acc := .ro },
      { hi := 31, lo := 24, acc := .ro },
      { hi := 16, lo := 16, acc := .ro },
      { hi := 15, lo := 0, acc := .ro }] }

/-- GLB_CMD: R616. -/
def GLB_CMD : Reg :=
  { base := 0x8
    fields := [{ hi := 63, lo := 63, acc := .wo },
      { hi := 62, lo := 62, acc := .wo },
      { hi := 61, lo := 61, acc := .wo }] }

/-- GLB_STAT: R616. -/
def GLB_STAT : Reg :=
  { base := 0x10, reset := 0x4000000000000000
    fields := [{ hi := 63, lo := 61, acc := .ro },
      { hi := 60, lo := 60, acc := .ro },
      { hi := 59, lo := 54, acc := .ro },
      { hi := 53, lo := 44, acc := .ro }] }

/-- GLB_WAKE: R616. -/
def GLB_WAKE : Reg :=
  { base := 0x18
    fields := [{ hi := 63, lo := 62, acc := .ro },
      { hi := 61, lo := 61, acc := .ro }] }

/-- CRS_COUNT: R57. -/
def CRS_COUNT : Reg :=
  { base := 0x4000
    fields := [{ hi := 47, lo := 0, acc := .ro }] }

/-- CRS_FINE: R58. -/
def CRS_FINE : Reg :=
  { base := 0x4008
    fields := [{ hi := 31, lo := 0, acc := .ro }] }

/-- CRS_FINE_CAP: R58. -/
def CRS_FINE_CAP : Reg :=
  { base := 0x4010
    fields := [{ hi := 31, lo := 0, acc := .ro }] }

/-- CRS_EPOCH: R59. -/
def CRS_EPOCH : Reg :=
  { base := 0x4018
    fields := [{ hi := 31, lo := 0, acc := .ro }] }

/-- CRS_CTRL: R60. -/
def CRS_CTRL : Reg :=
  { base := 0x4020, reset := 0x4001c0
    fields := [{ hi := 23, lo := 20, acc := .rws, min := 4 },
      { hi := 10, lo := 0, acc := .rws, min := 384, max := 1024 }] }

/-- CRS_STAT: R61. -/
def CRS_STAT : Reg :=
  { base := 0x4028
    fields := [{ hi := 3, lo := 3, acc := .ro },
      { hi := 2, lo := 2, acc := .ro },
      { hi := 1, lo := 1, acc := .ro },
      { hi := 0, lo := 0, acc := .ro }] }

/-- CRS_ALIGN: R62. -/
def CRS_ALIGN : Reg :=
  { base := 0x4030
    fields := [{ hi := 47, lo := 32, acc := .rc },
      { hi := 31, lo := 16, acc := .ro },
      { hi := 15, lo := 0, acc := .ro }] }

/-- CRS_LATE: R63. -/
def CRS_LATE : Reg :=
  { base := 0x4038
    fields := [{ hi := 63, lo := 48, acc := .rc },
      { hi := 47, lo := 32, acc := .rc },
      { hi := 31, lo := 16, acc := .rc },
      { hi := 15, lo := 0, acc := .rc }] }

/-- CRS_PLAN: R64. -/
def CRS_PLAN : Reg :=
  { base := 0x4040
    fields := [{ hi := 63, lo := 48, acc := .ro },
      { hi := 47, lo := 0, acc := .ro }] }

/-- CRS_PEND: R65. -/
def CRS_PEND : Reg :=
  { base := 0x4048
    fields := [{ hi := 63, lo := 63, acc := .ro },
      { hi := 47, lo := 0, acc := .ro }] }

/-- ASH_CTRL: R90. -/
def ASH_CTRL : Reg :=
  { base := 0x8000, reset := 0x10103c0190a410
    fields := [{ hi := 55, lo := 48, acc := .rws, min := 16 },
      { hi := 47, lo := 40, acc := .rws, min := 1 },
      { hi := 39, lo := 36, acc := .rws, min := 1 },
      { hi := 35, lo := 34, acc := .rws },
      { hi := 26, lo := 16, acc := .rws, min := 200, max := 400 },
      { hi := 15, lo := 0, acc := .rws, min := 16000, max := 42000 }] }

/-- ASH_STAT: R91. -/
def ASH_STAT : Reg :=
  { base := 0x8008
    fields := [{ hi := 52, lo := 48, acc := .ro },
      { hi := 47, lo := 44, acc := .ro },
      { hi := 39, lo := 35, acc := .ro },
      { hi := 34, lo := 33, acc := .ro },
      { hi := 32, lo := 32, acc := .ro },
      { hi := 31, lo := 16, acc := .ro },
      { hi := 0, lo := 0, acc := .ro }] }

/-- ASH_ENG: R92. -/
def ASH_ENG : Reg :=
  { base := 0x8010
    fields := [{ hi := 47, lo := 0, acc := .ro }] }

/-- ASH_LOAD: R93. -/
def ASH_LOAD : Reg :=
  { base := 0x8018
    fields := [{ hi := 63, lo := 48, acc := .ro },
      { hi := 47, lo := 32, acc := .ro },
      { hi := 31, lo := 20, acc := .rc },
      { hi := 19, lo := 8, acc := .rc }] }

/-- ASH_CNT: R94. -/
def ASH_CNT : Reg :=
  { base := 0x8020
    fields := [{ hi := 63, lo := 48, acc := .rc },
      { hi := 47, lo := 32, acc := .rc },
      { hi := 31, lo := 16, acc := .rc },
      { hi := 15, lo := 0, acc := .rc }] }

/-- ASH_STEAL: R95. -/
def ASH_STEAL : Reg :=
  { base := 0x8028
    fields := [{ hi := 63, lo := 32, acc := .rc },
      { hi := 31, lo := 0, acc := .rc }] }

/-- ASH_DBG: R96. -/
def ASH_DBG : Reg :=
  { base := 0x8030
    fields := [{ hi := 15, lo := 15, acc := .rw },
      { hi := 14, lo := 12, acc := .rw },
      { hi := 11, lo := 11, acc := .rw }] }

/-- ASH_PAIR: R97. -/
def ASH_PAIR : Reg :=
  { base := 0x8040, count := 8, stride := 0x8
    fields := [{ hi := 63, lo := 63, acc := .ro },
      { hi := 62, lo := 61, acc := .ro },
      { hi := 58, lo := 56, acc := .ro },
      { hi := 52, lo := 48, acc := .ro },
      { hi := 44, lo := 40, acc := .ro },
      { hi := 39, lo := 28, acc := .rc },
      { hi := 27, lo := 16, acc := .ro },
      { hi := 15, lo := 8, acc := .ro },
      { hi := 7, lo := 0, acc := .ro }] }

/-- ASH_CMP_STAT: R126. -/
def ASH_CMP_STAT : Reg :=
  { base := 0x8100
    fields := [{ hi := 63, lo := 48, acc := .rc },
      { hi := 47, lo := 32, acc := .rc },
      { hi := 31, lo := 16, acc := .rc },
      { hi := 15, lo := 8, acc := .ro },
      { hi := 7, lo := 5, acc := .ro }] }

/-- ASH_TS_LIM: R127. -/
def ASH_TS_LIM : Reg :=
  { base := 0x8108, reset := 0xccd0ccd0ccd0ccd
    fields := [{ hi := 63, lo := 48, acc := .rws },
      { hi := 47, lo := 32, acc := .rws },
      { hi := 31, lo := 16, acc := .rws },
      { hi := 15, lo := 0, acc := .rws }] }

/-- ASH_TS_PERMIT: R128. -/
def ASH_TS_PERMIT : Reg :=
  { base := 0x8110
    fields := [{ hi := 43, lo := 0, acc := .rws }] }

/-- ASH_TS_STAT: R129. -/
def ASH_TS_STAT : Reg :=
  { base := 0x8118
    fields := [{ hi := 63, lo := 61, acc := .ro },
      { hi := 60, lo := 58, acc := .ro },
      { hi := 57, lo := 52, acc := .ro },
      { hi := 47, lo := 45, acc := .ro },
      { hi := 44, lo := 42, acc := .ro },
      { hi := 41, lo := 36, acc := .ro },
      { hi := 31, lo := 29, acc := .ro },
      { hi := 28, lo := 26, acc := .ro },
      { hi := 25, lo := 20, acc := .ro },
      { hi := 15, lo := 13, acc := .ro },
      { hi := 12, lo := 10, acc := .ro },
      { hi := 9, lo := 4, acc := .ro }] }

/-- ASH_CAP_STAT: R130. -/
def ASH_CAP_STAT : Reg :=
  { base := 0x8120, reset := 0x2000000000
    fields := [{ hi := 63, lo := 48, acc := .rc },
      { hi := 37, lo := 28, acc := .ro },
      { hi := 15, lo := 0, acc := .ro }] }

/-- HRE_CTRL: R486. -/
def HRE_CTRL : Reg :=
  { base := 0xc000
    fields := [{ hi := 63, lo := 63, acc := .rws }] }

/-- HRE_DB_ADDR: R486. -/
def HRE_DB_ADDR : Reg :=
  { base := 0xc008
    fields := [{ hi := 63, lo := 8, acc := .rws }] }

/-- HRE_SB_ADDR: R486. -/
def HRE_SB_ADDR : Reg :=
  { base := 0xc010
    fields := [{ hi := 63, lo := 8, acc := .rws }] }

/-- HRE_NRX_ADDR: R486. -/
def HRE_NRX_ADDR : Reg :=
  { base := 0xc018
    fields := [{ hi := 63, lo := 12, acc := .rws }] }

/-- HRE_STAT: R486. -/
def HRE_STAT : Reg :=
  { base := 0xc020
    fields := [{ hi := 63, lo := 63, acc := .ro },
      { hi := 62, lo := 62, acc := .ro },
      { hi := 61, lo := 61, acc := .ro },
      { hi := 60, lo := 60, acc := .ro },
      { hi := 31, lo := 0, acc := .ro }] }

/-- HRE_CNT: R487. -/
def HRE_CNT : Reg :=
  { base := 0xc028
    fields := [{ hi := 63, lo := 48, acc := .rc },
      { hi := 47, lo := 32, acc := .rc },
      { hi := 31, lo := 16, acc := .rc },
      { hi := 15, lo := 0, acc := .rc }] }

/-- HRE_ERR: R487. -/
def HRE_ERR : Reg :=
  { base := 0xc030
    fields := [{ hi := 7, lo := 7, acc := .w1c },
      { hi := 6, lo := 6, acc := .w1c },
      { hi := 5, lo := 5, acc := .w1c },
      { hi := 4, lo := 4, acc := .w1c },
      { hi := 3, lo := 3, acc := .w1c },
      { hi := 2, lo := 2, acc := .w1c },
      { hi := 1, lo := 1, acc := .w1c },
      { hi := 0, lo := 0, acc := .w1c }] }

/-- HRE_TLM: R486. -/
def HRE_TLM : Reg :=
  { base := 0xc040
    fields := [{ hi := 63, lo := 0, acc := .rws }] }

/-- HRE_IRBASE: R488. -/
def HRE_IRBASE : Reg :=
  { base := 0xc100, count := 32, stride := 0x10
    fields := [{ hi := 63, lo := 12, acc := .rws }] }

/-- HRE_IRCFG: R488. -/
def HRE_IRCFG : Reg :=
  { base := 0xc108, count := 32, stride := 0x10, reset := 0x3100000000000000, others := [(9, 0x3080000000000000)]
    fields := [{ hi := 63, lo := 63, acc := .rws },
      { hi := 62, lo := 59, acc := .rws, min := 4, max := 14 },
      { hi := 58, lo := 55, acc := .rws, min := 1, max := 8 },
      { hi := 31, lo := 16, acc := .ro },
      { hi := 15, lo := 0, acc := .ro }] }

/-- HRE_ORBASE: R488. -/
def HRE_ORBASE : Reg :=
  { base := 0xc300, count := 32, stride := 0x10
    fields := [{ hi := 63, lo := 12, acc := .rws }] }

/-- HRE_ORCFG: R488. -/
def HRE_ORCFG : Reg :=
  { base := 0xc308, count := 32, stride := 0x10, reset := 0x3000000000000000
    fields := [{ hi := 63, lo := 63, acc := .rws },
      { hi := 62, lo := 59, acc := .rws, min := 4, max := 14 },
      { hi := 58, lo := 54, acc := .rws },
      { hi := 53, lo := 53, acc := .rws },
      { hi := 31, lo := 16, acc := .ro },
      { hi := 15, lo := 0, acc := .ro }] }

/-- HRE_VEC: R488. -/
def HRE_VEC : Reg :=
  { base := 0xc500, count := 32, stride := 0x8, reset := 0x10010000000000
    fields := [{ hi := 63, lo := 48, acc := .rws },
      { hi := 47, lo := 40, acc := .rws, min := 1 }] }

/-- SNS_CTRL: R163. -/
def SNS_CTRL : Reg :=
  { base := 0x10000, reset := 0x400400810320000
    fields := [{ hi := 62, lo := 48, acc := .rws },
      { hi := 47, lo := 40, acc := .rws, min := 1 },
      { hi := 39, lo := 32, acc := .rws, min := 1 },
      { hi := 31, lo := 24, acc := .rws, min := 1 },
      { hi := 23, lo := 16, acc := .rws, min := 1 }] }

/-- SNS_CMD: R164. -/
def SNS_CMD : Reg :=
  { base := 0x10008
    fields := [{ hi := 0, lo := 0, acc := .wo }] }

/-- SNS_STAT: R165. -/
def SNS_STAT : Reg :=
  { base := 0x10010, reset := 0x800000000000
    fields := [{ hi := 63, lo := 58, acc := .ro },
      { hi := 57, lo := 52, acc := .ro },
      { hi := 51, lo := 50, acc := .ro },
      { hi := 47, lo := 45, acc := .ro },
      { hi := 44, lo := 40, acc := .ro },
      { hi := 3, lo := 3, acc := .ro },
      { hi := 2, lo := 2, acc := .ro },
      { hi := 1, lo := 1, acc := .ro },
      { hi := 0, lo := 0, acc := .ro }] }

/-- SNS_FLT: R166. -/
def SNS_FLT : Reg :=
  { base := 0x10018
    fields := [{ hi := 9, lo := 6, acc := .w1c },
      { hi := 5, lo := 5, acc := .w1c },
      { hi := 4, lo := 4, acc := .w1c },
      { hi := 3, lo := 3, acc := .w1c },
      { hi := 2, lo := 2, acc := .w1c },
      { hi := 1, lo := 1, acc := .w1c },
      { hi := 0, lo := 0, acc := .w1c }] }

/-- SNS_CNT: R167. -/
def SNS_CNT : Reg :=
  { base := 0x10020
    fields := [{ hi := 63, lo := 48, acc := .rc },
      { hi := 47, lo := 32, acc := .rc },
      { hi := 31, lo := 16, acc := .rc },
      { hi := 15, lo := 0, acc := .rc }] }

/-- SNS_PACC: R168. -/
def SNS_PACC : Reg :=
  { base := 0x10100, count := 4, stride := 0x8, reset := 0x63f0000, others := [(0, 0x8d0e0000063f0000), (1, 0x9b1a0000063f0000), (2, 0x1c1d0000063f0000), (3, 0x1f200000063f0000)]
    fields := [{ hi := 63, lo := 63, acc := .rws },
      { hi := 61, lo := 56, acc := .rws, max := 35 },
      { hi := 53, lo := 48, acc := .rws, max := 35 },
      { hi := 31, lo := 16, acc := .rws }] }

/-- SNS_PCFG: R169. -/
def SNS_PCFG : Reg :=
  { base := 0x10200, count := 36, stride := 0x8, reset := 0x807fe000063f0000, others := [(12, 0x817fe000063f0000), (19, 0x80000000063f0000), (20, 0x80000000063f0000), (21, 0x80000000063f0000), (22, 0x80000000063f0000), (23, 0x80000000063f0000), (24, 0x80000000063f0000), (25, 0x80000000063f0000), (26, 0x80000000063f0000), (27, 0x80000000063f0000), (28, 0x80000000063f0000), (29, 0x80000000063f0000), (31, 0x80000000063f0000), (32, 0x80000000063f0000), (33, 0x80000000063f0000), (34, 0x80000000063f0000), (35, 0x80000000063f0000)]
    fields := [{ hi := 63, lo := 63, acc := .rws },
      { hi := 62, lo := 60, acc := .rws },
      { hi := 56, lo := 56, acc := .rws },
      { hi := 55, lo := 46, acc := .rws },
      { hi := 45, lo := 36, acc := .rws },
      { hi := 31, lo := 16, acc := .rws }] }

/-- SNS_CONV: R170. -/
def SNS_CONV : Reg :=
  { base := 0x10400, count := 40, stride := 0x8, reset := 0x80000000, others := [(1, 0x100000080000000), (2, 0x200000080000000), (3, 0x300000080000000), (4, 0x400000080000000), (5, 0x500000080000000), (6, 0x600000080000000), (7, 0x700000080000000), (8, 0x800000080000000), (9, 0x900000080000000), (10, 0xa00000080000000), (11, 0xb00000080000000), (12, 0xc00000080000000), (13, 0xd00000080000000), (14, 0xe00000080000000), (15, 0xf00000080000000), (16, 0x1000000080000000), (17, 0x1100000080000000), (18, 0x1200000080000000), (19, 0x1300000080000000), (20, 0x1400000080000000), (21, 0x1500000080000000), (22, 0x1600000080000000), (23, 0x1700000080000000), (24, 0x1800000080000000), (25, 0x1900000080000000), (26, 0x1a00000080000000), (27, 0x1b00000080000000), (28, 0x1c00000080000000), (29, 0x1d00000080000000), (30, 0x1e00000080000000), (31, 0x1f00000080000000), (32, 0x2000000080000000), (33, 0x2100000080000000), (34, 0x2200000080000000), (35, 0x2300000080000000), (36, 0x7f00000080000000), (37, 0x7f00000080000000), (38, 0x7f00000080000000), (39, 0x7f00000080000000)]
    fields := [{ hi := 63, lo := 62, acc := .ro },
      { hi := 61, lo := 56, acc := .ro },
      { hi := 47, lo := 32, acc := .ro },
      { hi := 31, lo := 16, acc := .ro },
      { hi := 15, lo := 0, acc := .ro }] }

/-- SNS_MON: R171. -/
def SNS_MON : Reg :=
  { base := 0x10600, count := 36, stride := 0x8
    fields := [{ hi := 63, lo := 48, acc := .ro },
      { hi := 47, lo := 32, acc := .ro },
      { hi := 31, lo := 1, acc := .ro },
      { hi := 0, lo := 0, acc := .ro }] }

/-- SNS_HK: R172. -/
def SNS_HK : Reg :=
  { base := 0x10800, count := 32, stride := 0x8
    fields := [{ hi := 63, lo := 63, acc := .ro },
      { hi := 46, lo := 32, acc := .ro },
      { hi := 11, lo := 0, acc := .ro }] }

/-- POS_CFG: R200. -/
def POS_CFG : Reg :=
  { base := 0x14000, count := 2, stride := 0x100, reset := 0xfff091620402064
    fields := [{ hi := 63, lo := 48, acc := .rws, min := 63 },
      { hi := 47, lo := 43, acc := .rws, min := 1 },
      { hi := 42, lo := 39, acc := .rws },
      { hi := 38, lo := 38, acc := .rws },
      { hi := 37, lo := 36, acc := .rws },
      { hi := 35, lo := 35, acc := .rws },
      { hi := 34, lo := 34, acc := .rws },
      { hi := 33, lo := 33, acc := .rws },
      { hi := 31, lo := 24, acc := .rws },
      { hi := 23, lo := 16, acc := .rws },
      { hi := 15, lo := 10, acc := .rws, min := 1 },
      { hi := 9, lo := 0, acc := .rws, min := 1 }] }

/-- POS_ANG: R201. -/
def POS_ANG : Reg :=
  { base := 0x14008, count := 2, stride := 0x100, reset := 0xf00
    fields := [{ hi := 63, lo := 32, acc := .rws },
      { hi := 31, lo := 16, acc := .rws },
      { hi := 15, lo := 8, acc := .rws, min := 1, max := 60 }] }

/-- POS_OBS: R202. -/
def POS_OBS : Reg :=
  { base := 0x14010, count := 2, stride := 0x100, reset := 0x14100ccd540a
    fields := [{ hi := 63, lo := 48, acc := .rws },
      { hi := 47, lo := 40, acc := .rws, min := 1, max := 90 },
      { hi := 39, lo := 32, acc := .rws, min := 1 },
      { hi := 31, lo := 16, acc := .rws },
      { hi := 15, lo := 12, acc := .rws, min := 1, max := 10 },
      { hi := 11, lo := 7, acc := .rws, min := 1 },
      { hi := 6, lo := 0, acc := .rws, min := 1, max := 100 }] }

/-- POS_CMD: R203. -/
def POS_CMD : Reg :=
  { base := 0x14018, count := 2, stride := 0x100
    fields := [{ hi := 0, lo := 0, acc := .wo }] }

/-- POS_STAT: R204. -/
def POS_STAT : Reg :=
  { base := 0x14020, count := 2, stride := 0x100, reset := 0x4800000000000
    fields := [{ hi := 63, lo := 61, acc := .ro },
      { hi := 60, lo := 58, acc := .ro },
      { hi := 57, lo := 55, acc := .ro },
      { hi := 54, lo := 54, acc := .ro },
      { hi := 53, lo := 53, acc := .ro },
      { hi := 52, lo := 52, acc := .ro },
      { hi := 51, lo := 51, acc := .ro },
      { hi := 50, lo := 50, acc := .ro },
      { hi := 49, lo := 49, acc := .ro },
      { hi := 48, lo := 48, acc := .ro },
      { hi := 47, lo := 47, acc := .ro },
      { hi := 31, lo := 16, acc := .ro }] }

/-- POS_LAT: R205. -/
def POS_LAT : Reg :=
  { base := 0x14028, count := 2, stride := 0x100
    fields := [{ hi := 63, lo := 32, acc := .ro },
      { hi := 31, lo := 0, acc := .ro }] }

/-- POS_TRV: R205. -/
def POS_TRV : Reg :=
  { base := 0x14030, count := 2, stride := 0x100
    fields := [{ hi := 63, lo := 32, acc := .ro },
      { hi := 31, lo := 16, acc := .ro }] }

/-- POS_SPD: R205. -/
def POS_SPD : Reg :=
  { base := 0x14038, count := 2, stride := 0x100
    fields := [{ hi := 63, lo := 32, acc := .ro },
      { hi := 31, lo := 0, acc := .ro }] }

/-- POS_IDX: R205. -/
def POS_IDX : Reg :=
  { base := 0x14040, count := 2, stride := 0x100
    fields := [{ hi := 63, lo := 32, acc := .ro },
      { hi := 31, lo := 16, acc := .ro }] }

/-- POS_FLT: R206. -/
def POS_FLT : Reg :=
  { base := 0x14048, count := 2, stride := 0x100
    fields := [{ hi := 8, lo := 8, acc := .w1c },
      { hi := 7, lo := 7, acc := .w1c },
      { hi := 6, lo := 6, acc := .w1c },
      { hi := 5, lo := 5, acc := .w1c },
      { hi := 4, lo := 4, acc := .w1c },
      { hi := 3, lo := 3, acc := .w1c },
      { hi := 2, lo := 2, acc := .w1c },
      { hi := 1, lo := 1, acc := .w1c },
      { hi := 0, lo := 0, acc := .w1c }] }

/-- POS_CNT: R207. -/
def POS_CNT : Reg :=
  { base := 0x14050, count := 2, stride := 0x100
    fields := [{ hi := 63, lo := 48, acc := .rc },
      { hi := 47, lo := 32, acc := .rc },
      { hi := 31, lo := 16, acc := .rc },
      { hi := 15, lo := 8, acc := .rc },
      { hi := 7, lo := 0, acc := .rc }] }

/-- GCH_CTRL: R244. -/
def GCH_CTRL : Reg :=
  { base := 0x18000, reset := 0x11000
    fields := [{ hi := 16, lo := 16, acc := .rws },
      { hi := 15, lo := 8, acc := .rws, min := 1 }] }

/-- GCH_CMD: R245. -/
def GCH_CMD : Reg :=
  { base := 0x18008
    fields := [{ hi := 63, lo := 63, acc := .wo },
      { hi := 62, lo := 62, acc := .wo },
      { hi := 5, lo := 0, acc := .wo }] }

/-- GCH_LATCH: R246. -/
def GCH_LATCH : Reg :=
  { base := 0x18010
    fields := [{ hi := 47, lo := 0, acc := .ro }] }

/-- GCH_FB: R246. -/
def GCH_FB : Reg :=
  { base := 0x18018, reset := 0xffffffffffff
    fields := [{ hi := 47, lo := 0, acc := .ro }] }

/-- GCH_SUP: R246. -/
def GCH_SUP : Reg :=
  { base := 0x18020
    fields := [{ hi := 47, lo := 0, acc := .ro }] }

/-- GCH_DIVSUM: R246. -/
def GCH_DIVSUM : Reg :=
  { base := 0x18028
    fields := [{ hi := 47, lo := 0, acc := .ro }] }

/-- GCH_BG: R247. -/
def GCH_BG : Reg :=
  { base := 0x18100, count := 11, stride := 0x8
    fields := [{ hi := 63, lo := 62, acc := .ro },
      { hi := 61, lo := 61, acc := .ro },
      { hi := 55, lo := 48, acc := .ro },
      { hi := 47, lo := 40, acc := .ro },
      { hi := 39, lo := 32, acc := .rc }] }

/-- GCH_CFG: R248. -/
def GCH_CFG : Reg :=
  { base := 0x19000, count := 48, stride := 0x40, reset := 0x46650507de000000, others := [(38, 0x86650507de000000), (39, 0x86650507de000000), (40, 0x86650507de000000), (41, 0x86650507de000000), (46, 0x466505079e000000), (47, 0x66505079e000000)]
    fields := [{ hi := 63, lo := 62, acc := .rws },
      { hi := 61, lo := 56, acc := .rws, max := 10 },
      { hi := 55, lo := 52, acc := .rws, max := 12 },
      { hi := 51, lo := 44, acc := .rws, min := 20, max := 120 },
      { hi := 43, lo := 36, acc := .rws, min := 12, max := 128 },
      { hi := 35, lo := 32, acc := .rws, min := 1 },
      { hi := 31, lo := 31, acc := .rws },
      { hi := 30, lo := 30, acc := .ro },
      { hi := 29, lo := 24, acc := .rws, min := 10, max := 50 }] }

/-- GCH_PROT: R249. -/
def GCH_PROT : Reg :=
  { base := 0x19008, count := 48, stride := 0x40, reset := 0xa60820f96000000
    fields := [{ hi := 63, lo := 56, acc := .rws, min := 1 },
      { hi := 55, lo := 53, acc := .rws, min := 1 },
      { hi := 47, lo := 40, acc := .rws, min := 100, max := 170 },
      { hi := 39, lo := 32, acc := .rws, min := 10, max := 60 },
      { hi := 31, lo := 24, acc := .rws, min := 100, max := 175 }] }

/-- GCH_STAT: R250. -/
def GCH_STAT : Reg :=
  { base := 0x19010, count := 48, stride := 0x40, reset := 0x1000000000000000
    fields := [{ hi := 63, lo := 60, acc := .ro },
      { hi := 59, lo := 58, acc := .ro },
      { hi := 57, lo := 56, acc := .ro },
      { hi := 55, lo := 55, acc := .ro },
      { hi := 54, lo := 54, acc := .ro },
      { hi := 53, lo := 53, acc := .ro },
      { hi := 52, lo := 52, acc := .ro },
      { hi := 47, lo := 40, acc := .ro },
      { hi := 39, lo := 32, acc := .ro },
      { hi := 31, lo := 24, acc := .ro },
      { hi := 23, lo := 21, acc := .ro },
      { hi := 19, lo := 8, acc := .ro }] }

/-- GCH_FLT: R251. -/
def GCH_FLT : Reg :=
  { base := 0x19018, count := 48, stride := 0x40
    fields := [{ hi := 15, lo := 0, acc := .w1c }] }

/-- GCH_CNT: R252. -/
def GCH_CNT : Reg :=
  { base := 0x19020, count := 48, stride := 0x40
    fields := [{ hi := 63, lo := 48, acc := .rc },
      { hi := 47, lo := 32, acc := .rc },
      { hi := 31, lo := 16, acc := .rc },
      { hi := 15, lo := 0, acc := .rc }] }

/-- GCH_DIV: R253. -/
def GCH_DIV : Reg :=
  { base := 0x19028, count := 48, stride := 0x40
    fields := [{ hi := 63, lo := 52, acc := .ro },
      { hi := 51, lo := 40, acc := .rc },
      { hi := 39, lo := 24, acc := .rc },
      { hi := 23, lo := 8, acc := .rc }] }

/-- TRC_CTRL: R284. -/
def TRC_CTRL : Reg :=
  { base := 0x20000, reset := 0x640800019323214
    fields := [{ hi := 63, lo := 48, acc := .rws, min := 160 },
      { hi := 47, lo := 47, acc := .rws },
      { hi := 31, lo := 24, acc := .rws, max := 100 },
      { hi := 23, lo := 16, acc := .rws, max := 100 },
      { hi := 15, lo := 8, acc := .rws, max := 100 },
      { hi := 7, lo := 0, acc := .rws, min := 1 }] }

/-- TRC_MACH: R285. -/
def TRC_MACH : Reg :=
  { base := 0x20100, count := 2, stride := 0x40, reset := 0x1e000000812c
    fields := [{ hi := 63, lo := 48, acc := .rws },
      { hi := 47, lo := 40, acc := .rws },
      { hi := 39, lo := 24, acc := .rws },
      { hi := 23, lo := 12, acc := .rws, min := 1 },
      { hi := 11, lo := 0, acc := .rws }] }

/-- TRC_MSTAT: R286. -/
def TRC_MSTAT : Reg :=
  { base := 0x20108, count := 2, stride := 0x40, reset := 0x800
    fields := [{ hi := 63, lo := 48, acc := .ro },
      { hi := 47, lo := 32, acc := .ro },
      { hi := 31, lo := 16, acc := .ro },
      { hi := 15, lo := 12, acc := .ro },
      { hi := 11, lo := 11, acc := .ro },
      { hi := 10, lo := 9, acc := .ro },
      { hi := 8, lo := 8, acc := .ro },
      { hi := 7, lo := 0, acc := .ro }] }

/-- TRC_SETCFG: R287. -/
def TRC_SETCFG : Reg :=
  { base := 0x20200, count := 4, stride := 0x40, reset := 0x105037e3c0000000, others := [(1, 0x145037e3c0000000), (2, 0x125037e3c0000000), (3, 0x165037e3c0000000)]
    fields := [{ hi := 63, lo := 63, acc := .rws },
      { hi := 62, lo := 62, acc := .rws },
      { hi := 61, lo := 60, acc := .rws },
      { hi := 59, lo := 56, acc := .rws },
      { hi := 55, lo := 47, acc := .rws, min := 64 },
      { hi := 46, lo := 42, acc := .rws },
      { hi := 41, lo := 34, acc := .rws, min := 128, max := 250 },
      { hi := 33, lo := 26, acc := .rws, min := 192 }] }

/-- TRC_SETLIM: R288. -/
def TRC_SETLIM : Reg :=
  { base := 0x20208, count := 4, stride := 0x40, reset := 0xd99af33396af0000
    fields := [{ hi := 63, lo := 48, acc := .rws },
      { hi := 47, lo := 32, acc := .rws },
      { hi := 31, lo := 24, acc := .rws },
      { hi := 23, lo := 16, acc := .rws }] }

/-- TRC_SETSTAT: R289. -/
def TRC_SETSTAT : Reg :=
  { base := 0x20210, count := 4, stride := 0x40
    fields := [{ hi := 63, lo := 61, acc := .ro },
      { hi := 60, lo := 57, acc := .ro },
      { hi := 56, lo := 56, acc := .ro },
      { hi := 47, lo := 32, acc := .ro },
      { hi := 31, lo := 16, acc := .ro },
      { hi := 15, lo := 8, acc := .ro },
      { hi := 7, lo := 0, acc := .ro }] }

/-- TRC_SETFLT: R290. -/
def TRC_SETFLT : Reg :=
  { base := 0x20218, count := 4, stride := 0x40
    fields := [{ hi := 12, lo := 12, acc := .w1c },
      { hi := 11, lo := 11, acc := .w1c },
      { hi := 10, lo := 10, acc := .w1c },
      { hi := 9, lo := 9, acc := .w1c },
      { hi := 8, lo := 8, acc := .w1c },
      { hi := 7, lo := 7, acc := .w1c },
      { hi := 6, lo := 6, acc := .w1c },
      { hi := 5, lo := 5, acc := .w1c },
      { hi := 4, lo := 4, acc := .w1c },
      { hi := 3, lo := 3, acc := .w1c },
      { hi := 2, lo := 2, acc := .w1c },
      { hi := 1, lo := 1, acc := .w1c },
      { hi := 0, lo := 0, acc := .w1c }] }

/-- TRC_SETCNT: R291. -/
def TRC_SETCNT : Reg :=
  { base := 0x20220, count := 4, stride := 0x40
    fields := [{ hi := 63, lo := 48, acc := .rc },
      { hi := 47, lo := 32, acc := .rc },
      { hi := 31, lo := 16, acc := .rc },
      { hi := 15, lo := 0, acc := .rc }] }

/-- LNK_CTRL: R317. -/
def LNK_CTRL : Reg :=
  { base := 0x24000, reset := 0x3e8c80a0100000
    fields := [{ hi := 63, lo := 63, acc := .rws },
      { hi := 53, lo := 44, acc := .rws, min := 600, max := 1000 },
      { hi := 43, lo := 34, acc := .rws, min := 700, max := 950 },
      { hi := 33, lo := 26, acc := .rws, min := 20, max := 100 },
      { hi := 25, lo := 16, acc := .rws, min := 1 }] }

/-- LNK_LIM: R318. -/
def LNK_LIM : Reg :=
  { base := 0x24008, reset := 0x1c2d4880
    fields := [{ hi := 63, lo := 52, acc := .rws },
      { hi := 51, lo := 40, acc := .rws },
      { hi := 39, lo := 30, acc := .rws },
      { hi := 29, lo := 20, acc := .rws },
      { hi := 19, lo := 10, acc := .rws },
      { hi := 8, lo := 0, acc := .rws, min := 64 }] }

/-- LNK_OV: R319. -/
def LNK_OV : Reg :=
  { base := 0x24010, reset := 0x370d738eeb3d4
    fields := [{ hi := 49, lo := 40, acc := .rws },
      { hi := 39, lo := 30, acc := .rws },
      { hi := 29, lo := 20, acc := .rws },
      { hi := 19, lo := 10, acc := .rws },
      { hi := 9, lo := 0, acc := .rws }] }

/-- LNK_SCALE: R320. -/
def LNK_SCALE : Reg :=
  { base := 0x24018, reset := 0x4004004002002000
    fields := [{ hi := 63, lo := 52, acc := .rws },
      { hi := 51, lo := 40, acc := .rws },
      { hi := 39, lo := 28, acc := .rws },
      { hi := 27, lo := 16, acc := .rws },
      { hi := 15, lo := 4, acc := .rws }] }

/-- LNK_CHOP: R321. -/
def LNK_CHOP : Reg :=
  { base := 0x24020
    fields := [{ hi := 63, lo := 63, acc := .rws },
      { hi := 62, lo := 62, acc := .rws },
      { hi := 47, lo := 32, acc := .rws }] }

/-- LNK_CON: R321. -/
def LNK_CON : Reg :=
  { base := 0x24028, reset := 0xc80
    fields := [{ hi := 63, lo := 63, acc := .rws },
      { hi := 60, lo := 32, acc := .rws },
      { hi := 15, lo := 0, acc := .rws, min := 160 }] }

/-- LNK_AUX: R322. -/
def LNK_AUX : Reg :=
  { base := 0x24030, reset := 0xf000258e118000
    fields := [{ hi := 63, lo := 63, acc := .rws },
      { hi := 56, lo := 48, acc := .rws, min := 220, max := 300 },
      { hi := 47, lo := 38, acc := .rws },
      { hi := 37, lo := 29, acc := .rws },
      { hi := 28, lo := 19, acc := .rws },
      { hi := 18, lo := 10, acc := .rws, min := 32, max := 400 }] }

/-- LNK_STAT: R323. -/
def LNK_STAT : Reg :=
  { base := 0x24038, reset := 0xff0000000000
    fields := [{ hi := 63, lo := 61, acc := .ro },
      { hi := 60, lo := 58, acc := .ro },
      { hi := 57, lo := 55, acc := .ro },
      { hi := 54, lo := 54, acc := .ro },
      { hi := 53, lo := 53, acc := .ro },
      { hi := 52, lo := 52, acc := .ro },
      { hi := 51, lo := 51, acc := .ro },
      { hi := 50, lo := 50, acc := .ro },
      { hi := 49, lo := 49, acc := .ro },
      { hi := 47, lo := 40, acc := .ro },
      { hi := 39, lo := 30, acc := .ro }] }

/-- LNK_MEAS: R324. -/
def LNK_MEAS : Reg :=
  { base := 0x24040
    fields := [{ hi := 63, lo := 48, acc := .ro },
      { hi := 47, lo := 32, acc := .ro },
      { hi := 31, lo := 16, acc := .ro },
      { hi := 15, lo := 0, acc := .ro }] }

/-- LNK_POW: R324. -/
def LNK_POW : Reg :=
  { base := 0x24048
    fields := [{ hi := 63, lo := 48, acc := .ro },
      { hi := 47, lo := 32, acc := .ro },
      { hi := 31, lo := 16, acc := .ro },
      { hi := 15, lo := 0, acc := .ro }] }

/-- LNK_LEG: R325. -/
def LNK_LEG : Reg :=
  { base := 0x24050
    fields := [{ hi := 63, lo := 61, acc := .ro },
      { hi := 60, lo := 48, acc := .ro },
      { hi := 47, lo := 45, acc := .ro },
      { hi := 44, lo := 32, acc := .ro },
      { hi := 31, lo := 29, acc := .ro },
      { hi := 28, lo := 16, acc := .ro },
      { hi := 15, lo := 13, acc := .ro },
      { hi := 12, lo := 0, acc := .ro }] }

/-- LNK_FLT: R326. -/
def LNK_FLT : Reg :=
  { base := 0x24058
    fields := [{ hi := 15, lo := 15, acc := .w1c },
      { hi := 14, lo := 14, acc := .w1c },
      { hi := 13, lo := 13, acc := .w1c },
      { hi := 12, lo := 12, acc := .w1c },
      { hi := 11, lo := 11, acc := .w1c },
      { hi := 10, lo := 10, acc := .w1c },
      { hi := 9, lo := 9, acc := .w1c },
      { hi := 8, lo := 8, acc := .w1c },
      { hi := 7, lo := 7, acc := .w1c },
      { hi := 6, lo := 6, acc := .w1c },
      { hi := 5, lo := 5, acc := .w1c },
      { hi := 4, lo := 4, acc := .w1c },
      { hi := 3, lo := 3, acc := .w1c },
      { hi := 2, lo := 2, acc := .w1c },
      { hi := 1, lo := 1, acc := .w1c },
      { hi := 0, lo := 0, acc := .w1c }] }

/-- LNK_CNT: R326. -/
def LNK_CNT : Reg :=
  { base := 0x24060
    fields := [{ hi := 63, lo := 48, acc := .rc },
      { hi := 47, lo := 32, acc := .rc },
      { hi := 31, lo := 16, acc := .rc },
      { hi := 15, lo := 0, acc := .rc }] }

/-- LNK_ASCALE: R647. -/
def LNK_ASCALE : Reg :=
  { base := 0x24068, reset := 0x1404000000000000
    fields := [{ hi := 63, lo := 52, acc := .rws, min := 16 },
      { hi := 51, lo := 40, acc := .rws, min := 1 }] }

/-- CHG_CTRL: R355. -/
def CHG_CTRL : Reg :=
  { base := 0x28000, reset := 0x5f8276067d960000
    fields := [{ hi := 63, lo := 63, acc := .rws },
      { hi := 62, lo := 62, acc := .rws },
      { hi := 61, lo := 56, acc := .rws, min := 31, max := 35 },
      { hi := 55, lo := 50, acc := .rws, min := 31, max := 35 },
      { hi := 49, lo := 40, acc := .rws, min := 60, max := 630 },
      { hi := 39, lo := 32, acc := .rws, min := 2, max := 20 },
      { hi := 31, lo := 24, acc := .rws },
      { hi := 23, lo := 16, acc := .rws }] }

/-- CHG_BATT: R356. -/
def CHG_BATT : Reg :=
  { base := 0x28008, reset := 0xa01e00000
    fields := [{ hi := 63, lo := 52, acc := .rws },
      { hi := 51, lo := 38, acc := .rws },
      { hi := 37, lo := 33, acc := .rws, min := 1, max := 16 },
      { hi := 31, lo := 16, acc := .rws, min := 1 }] }

/-- CHG_PWR: R357. -/
def CHG_PWR : Reg :=
  { base := 0x28010, reset := 0xbe0c810ab4000060
    fields := [{ hi := 63, lo := 54, acc := .rws, min := 650, max := 850 },
      { hi := 53, lo := 41, acc := .rws, min := 1600, max := 4267 },
      { hi := 40, lo := 28, acc := .rws },
      { hi := 27, lo := 20, acc := .rws, min := 16 },
      { hi := 19, lo := 8, acc := .rws },
      { hi := 7, lo := 0, acc := .rws, min := 64 }] }

/-- CHG_SCALE: R358. -/
def CHG_SCALE : Reg :=
  { base := 0x28018, reset := 0x2010020040400800
    fields := [{ hi := 63, lo := 54, acc := .rws },
      { hi := 53, lo := 43, acc := .rws },
      { hi := 42, lo := 33, acc := .rws },
      { hi := 32, lo := 23, acc := .rws },
      { hi := 22, lo := 12, acc := .rws },
      { hi := 11, lo := 1, acc := .rws }] }

/-- CHG_IEN: R359. -/
def CHG_IEN : Reg :=
  { base := 0x28020
    fields := [{ hi := 16, lo := 0, acc := .rws }] }

/-- CHG_CMD: R359. -/
def CHG_CMD : Reg :=
  { base := 0x28028
    fields := [{ hi := 63, lo := 63, acc := .wo }] }

/-- CHG_STAT: R360. -/
def CHG_STAT : Reg :=
  { base := 0x28030
    fields := [{ hi := 63, lo := 60, acc := .ro },
      { hi := 59, lo := 56, acc := .ro },
      { hi := 55, lo := 53, acc := .ro },
      { hi := 52, lo := 50, acc := .ro },
      { hi := 49, lo := 48, acc := .ro },
      { hi := 47, lo := 47, acc := .ro },
      { hi := 46, lo := 46, acc := .ro },
      { hi := 45, lo := 45, acc := .ro },
      { hi := 44, lo := 44, acc := .ro },
      { hi := 43, lo := 32, acc := .ro },
      { hi := 31, lo := 16, acc := .ro },
      { hi := 15, lo := 0, acc := .ro }] }

/-- CHG_PILOT: R361. -/
def CHG_PILOT : Reg :=
  { base := 0x28038
    fields := [{ hi := 63, lo := 52, acc := .ro },
      { hi := 51, lo := 40, acc := .ro },
      { hi := 39, lo := 32, acc := .ro },
      { hi := 31, lo := 24, acc := .ro },
      { hi := 23, lo := 14, acc := .ro },
      { hi := 13, lo := 4, acc := .ro }] }

/-- CHG_SEARCH: R362. -/
def CHG_SEARCH : Reg :=
  { base := 0x28040
    fields := [{ hi := 63, lo := 54, acc := .ro },
      { hi := 53, lo := 44, acc := .ro },
      { hi := 43, lo := 41, acc := .ro },
      { hi := 40, lo := 38, acc := .ro },
      { hi := 37, lo := 26, acc := .ro },
      { hi := 25, lo := 14, acc := .ro },
      { hi := 13, lo := 0, acc := .ro }] }

/-- CHG_TMR: R363. -/
def CHG_TMR : Reg :=
  { base := 0x28048
    fields := [{ hi := 63, lo := 40, acc := .ro },
      { hi := 39, lo := 16, acc := .ro },
      { hi := 15, lo := 8, acc := .ro },
      { hi := 7, lo := 7, acc := .ro },
      { hi := 6, lo := 6, acc := .ro }] }

/-- CHG_FLT: R364. -/
def CHG_FLT : Reg :=
  { base := 0x28050
    fields := [{ hi := 16, lo := 16, acc := .w1c },
      { hi := 15, lo := 15, acc := .w1c },
      { hi := 14, lo := 14, acc := .w1c },
      { hi := 13, lo := 13, acc := .w1c },
      { hi := 12, lo := 12, acc := .w1c },
      { hi := 11, lo := 11, acc := .w1c },
      { hi := 10, lo := 10, acc := .w1c },
      { hi := 9, lo := 9, acc := .w1c },
      { hi := 8, lo := 8, acc := .w1c },
      { hi := 7, lo := 7, acc := .w1c },
      { hi := 6, lo := 6, acc := .w1c },
      { hi := 5, lo := 5, acc := .w1c },
      { hi := 4, lo := 4, acc := .w1c },
      { hi := 3, lo := 3, acc := .w1c },
      { hi := 2, lo := 2, acc := .w1c },
      { hi := 1, lo := 1, acc := .w1c },
      { hi := 0, lo := 0, acc := .w1c }] }

/-- CHG_CNT: R364. -/
def CHG_CNT : Reg :=
  { base := 0x28058
    fields := [{ hi := 63, lo := 48, acc := .rc },
      { hi := 47, lo := 32, acc := .rc },
      { hi := 31, lo := 16, acc := .rc },
      { hi := 15, lo := 0, acc := .rc }] }

/-- ACT_CTRL: R393. -/
def ACT_CTRL : Reg :=
  { base := 0x2c000, reset := 0x501f403e804064
    fields := [{ hi := 63, lo := 61, acc := .rws },
      { hi := 55, lo := 48, acc := .rws, min := 32 },
      { hi := 47, lo := 32, acc := .rws, min := 1600 },
      { hi := 31, lo := 16, acc := .rws, min := 1600 },
      { hi := 15, lo := 8, acc := .rws, min := 32 },
      { hi := 7, lo := 0, acc := .rws, min := 10 }] }

/-- ACT_CFG: R394. -/
def ACT_CFG : Reg :=
  { base := 0x2c008, count := 3, stride := 0x8, reset := 0x2510c85031880000
    fields := [{ hi := 63, lo := 59, acc := .rws, min := 1 },
      { hi := 58, lo := 54, acc := .rws, min := 2, max := 30 },
      { hi := 53, lo := 49, acc := .rws, min := 1, max := 30 },
      { hi := 48, lo := 41, acc := .rws, min := 1 },
      { hi := 40, lo := 33, acc := .rws, min := 2 },
      { hi := 32, lo := 25, acc := .rws, min := 6 },
      { hi := 24, lo := 21, acc := .rws, min := 4 },
      { hi := 20, lo := 13, acc := .rws }] }

/-- ACT_DRUM: R395. -/
def ACT_DRUM : Reg :=
  { base := 0x2c020, reset := 0x2460805a00
    fields := [{ hi := 63, lo := 52, acc := .rws },
      { hi := 51, lo := 40, acc := .rws },
      { hi := 39, lo := 32, acc := .rws },
      { hi := 31, lo := 28, acc := .rws },
      { hi := 27, lo := 20, acc := .rws },
      { hi := 19, lo := 8, acc := .rws }] }

/-- ACT_SHIFT: R395. -/
def ACT_SHIFT : Reg :=
  { base := 0x2c028, reset := 0x50c800
    fields := [{ hi := 63, lo := 52, acc := .rws },
      { hi := 51, lo := 40, acc := .rws },
      { hi := 39, lo := 26, acc := .rws },
      { hi := 25, lo := 18, acc := .rws },
      { hi := 17, lo := 8, acc := .rws }] }

/-- ACT_STAT: R396. -/
def ACT_STAT : Reg :=
  { base := 0x2c030
    fields := [{ hi := 63, lo := 62, acc := .ro },
      { hi := 61, lo := 59, acc := .ro },
      { hi := 58, lo := 58, acc := .ro },
      { hi := 57, lo := 57, acc := .ro },
      { hi := 56, lo := 56, acc := .ro },
      { hi := 55, lo := 54, acc := .ro },
      { hi := 53, lo := 51, acc := .ro },
      { hi := 50, lo := 50, acc := .ro },
      { hi := 31, lo := 16, acc := .ro },
      { hi := 15, lo := 0, acc := .ro }] }

/-- ACT_CHSTAT: R397. -/
def ACT_CHSTAT : Reg :=
  { base := 0x2c038, count := 3, stride := 0x8
    fields := [{ hi := 63, lo := 61, acc := .ro },
      { hi := 60, lo := 58, acc := .ro },
      { hi := 57, lo := 48, acc := .ro },
      { hi := 47, lo := 32, acc := .ro },
      { hi := 31, lo := 24, acc := .ro },
      { hi := 23, lo := 16, acc := .ro },
      { hi := 15, lo := 0, acc := .ro }] }

/-- ACT_FLT: R398. -/
def ACT_FLT : Reg :=
  { base := 0x2c050
    fields := [{ hi := 11, lo := 11, acc := .w1c },
      { hi := 10, lo := 10, acc := .w1c },
      { hi := 9, lo := 9, acc := .w1c },
      { hi := 8, lo := 8, acc := .w1c },
      { hi := 7, lo := 7, acc := .w1c },
      { hi := 6, lo := 6, acc := .w1c },
      { hi := 5, lo := 5, acc := .w1c },
      { hi := 4, lo := 4, acc := .w1c },
      { hi := 3, lo := 3, acc := .w1c },
      { hi := 2, lo := 2, acc := .w1c },
      { hi := 1, lo := 1, acc := .w1c },
      { hi := 0, lo := 0, acc := .w1c }] }

/-- ACT_CNT: R398. -/
def ACT_CNT : Reg :=
  { base := 0x2c058
    fields := [{ hi := 63, lo := 48, acc := .rc },
      { hi := 47, lo := 32, acc := .rc },
      { hi := 31, lo := 16, acc := .rc },
      { hi := 15, lo := 8, acc := .rc },
      { hi := 7, lo := 0, acc := .rc }] }

/-- THM_CTRL: R421. -/
def THM_CTRL : Reg :=
  { base := 0x30000, reset := 0x2800000000000000
    fields := [{ hi := 63, lo := 56, acc := .rws, min := 10, max := 100 }] }

/-- THM_DER: R421. -/
def THM_DER : Reg :=
  { base := 0x30008, reset := 0xa0000000
    fields := [{ hi := 63, lo := 56, acc := .rws },
      { hi := 55, lo := 48, acc := .rws },
      { hi := 47, lo := 40, acc := .rws },
      { hi := 39, lo := 32, acc := .rws },
      { hi := 31, lo := 24, acc := .rws }] }

/-- THM_DSAT: R421. -/
def THM_DSAT : Reg :=
  { base := 0x30010
    fields := [{ hi := 47, lo := 40, acc := .rws },
      { hi := 39, lo := 32, acc := .rws },
      { hi := 31, lo := 24, acc := .rws },
      { hi := 23, lo := 16, acc := .rws },
      { hi := 15, lo := 8, acc := .rws },
      { hi := 7, lo := 0, acc := .rws }] }

/-- THM_MAP: R421. -/
def THM_MAP : Reg :=
  { base := 0x30018
    fields := [{ hi := 54, lo := 50, acc := .rws },
      { hi := 49, lo := 45, acc := .rws },
      { hi := 44, lo := 40, acc := .rws },
      { hi := 39, lo := 35, acc := .rws },
      { hi := 34, lo := 30, acc := .rws },
      { hi := 29, lo := 25, acc := .rws },
      { hi := 24, lo := 20, acc := .rws },
      { hi := 19, lo := 15, acc := .rws },
      { hi := 14, lo := 10, acc := .rws },
      { hi := 9, lo := 5, acc := .rws },
      { hi := 4, lo := 0, acc := .rws }] }

/-- THM_XO: R421. -/
def THM_XO : Reg :=
  { base := 0x30020
    fields := [{ hi := 63, lo := 48, acc := .ro },
      { hi := 47, lo := 32, acc := .ro },
      { hi := 31, lo := 16, acc := .ro },
      { hi := 15, lo := 0, acc := .ro }] }

/-- THM_REFTC: R421. -/
def THM_REFTC : Reg :=
  { base := 0x30028
    fields := [{ hi := 63, lo := 48, acc := .ro },
      { hi := 47, lo := 32, acc := .ro }] }

/-- THM_STAT: R421. -/
def THM_STAT : Reg :=
  { base := 0x30030, reset := 0x1400000000000000
    fields := [{ hi := 63, lo := 57, acc := .ro },
      { hi := 56, lo := 50, acc := .ro },
      { hi := 49, lo := 43, acc := .ro },
      { hi := 42, lo := 42, acc := .ro },
      { hi := 41, lo := 41, acc := .ro },
      { hi := 40, lo := 40, acc := .ro }] }

/-- THM_FLT: R421. -/
def THM_FLT : Reg :=
  { base := 0x30038
    fields := [{ hi := 10, lo := 0, acc := .w1c }] }

/-- THM_CNT: R421. -/
def THM_CNT : Reg :=
  { base := 0x30040
    fields := [{ hi := 63, lo := 48, acc := .rc },
      { hi := 47, lo := 32, acc := .rc },
      { hi := 31, lo := 16, acc := .rc },
      { hi := 15, lo := 0, acc := .rc }] }

/-- THM_BRK0: R421. -/
def THM_BRK0 : Reg :=
  { base := 0x30048
    fields := [{ hi := 63, lo := 0, acc := .w1c }] }

/-- THM_BRK1: R421. -/
def THM_BRK1 : Reg :=
  { base := 0x30050
    fields := [{ hi := 18, lo := 0, acc := .w1c }] }

/-- THM_CLASS: R422. -/
def THM_CLASS : Reg :=
  { base := 0x30080, count := 6, stride := 0x8, others := [(0, 0x80b3bd1432000000), (1, 0x80bdcc1e50000000), (2, 0xc2d11e50000000), (3, 0x80a4ae050f000000), (4, 0x80aebd0a1e000000), (5, 0x8b95050f000000)]
    fields := [{ hi := 63, lo := 63, acc := .rws },
      { hi := 55, lo := 48, acc := .rws },
      { hi := 47, lo := 40, acc := .rws },
      { hi := 39, lo := 32, acc := .rws, min := 1 },
      { hi := 31, lo := 24, acc := .rws, min := 1 }] }

/-- THM_MODA: R422. -/
def THM_MODA : Reg :=
  { base := 0x30100, count := 6, stride := 0x10, reset := 0x80000c804000096
    fields := [{ hi := 63, lo := 48, acc := .rws },
      { hi := 47, lo := 32, acc := .rws, min := 1 },
      { hi := 31, lo := 16, acc := .rws },
      { hi := 15, lo := 0, acc := .rws, min := 1 }] }

/-- THM_MODB: R422. -/
def THM_MODB : Reg :=
  { base := 0x30108, count := 6, stride := 0x10, reset := 0xc8280190320000
    fields := [{ hi := 63, lo := 48, acc := .rws },
      { hi := 47, lo := 40, acc := .rws },
      { hi := 39, lo := 24, acc := .rws },
      { hi := 23, lo := 12, acc := .rws, min := 1 }] }

/-- THM_NTC: R422. -/
def THM_NTC : Reg :=
  { base := 0x30200, count := 16, stride := 0x8, reset := 0x3e80d6b0000
    fields := [{ hi := 63, lo := 63, acc := .rws },
      { hi := 62, lo := 62, acc := .rws },
      { hi := 47, lo := 32, acc := .rws },
      { hi := 31, lo := 16, acc := .rws }] }

/-- THM_NBR: R422. -/
def THM_NBR : Reg :=
  { base := 0x30400, count := 83, stride := 0x8, others := [(0, 0xff060b01), (1, 0xff070002), (2, 0xff080103), (3, 0xff090204), (4, 0xff0a0305), (5, 0xff0b0406), (6, 0xff000507), (7, 0xff010608), (8, 0xff020709), (9, 0xff03080a), (10, 0xff04090b), (11, 0xff050a00), (12, 0xffff0e0d), (13, 0xffff0f0c), (14, 0xff100c0f), (15, 0xff110d0e), (16, 0xff120e11), (17, 0xff130f10), (18, 0xff141013), (19, 0xff151112), (20, 0xff161215), (21, 0xff171314), (22, 0xff181417), (23, 0xff191516), (24, 0xff1a1619), (25, 0xff1b1718), (26, 0xff1c181b), (27, 0xff1d191a), (28, 0xff1e1a1d), (29, 0xff1f1b1c), (30, 0xff201c1f), (31, 0xff211d1e), (32, 0xff221e21), (33, 0xff231f20), (34, 0xff242023), (35, 0xff252122), (36, 0xff262225), (37, 0xff272324), (38, 0xff282427), (39, 0xff292526), (40, 0xff2a2629), (41, 0xff2b2728), (42, 0xff2c282b), (43, 0xff2d292a), (44, 0xff2e2a2d), (45, 0xff2f2b2c), (46, 0xff302c2f), (47, 0xff312d2e), (48, 0xff322e31), (49, 0xff332f30), (50, 0xff343033), (51, 0xff353132), (52, 0xff363235), (53, 0xff373334), (54, 0xff383437), (55, 0xff393536), (56, 0xff3a3639), (57, 0xff3b3738), (58, 0xffff383b), (59, 0xffff393a), (60, 0xffff3e3d), (61, 0xffff3e3c), (62, 0xffff3d3c), (63, 0xff424140), (64, 0xff42413f), (65, 0xff42403f), (66, 0xff41403f), (67, 0xffffffff), (68, 0xffffffff), (69, 0xffffffff), (70, 0xffffffff), (71, 0xffffffff), (72, 0xffffffff), (73, 0xffffffff), (74, 0xffffffff), (75, 0xffffffff), (76, 0xffffffff), (77, 0xffffffff), (78, 0xffffffff), (79, 0xffffffff), (80, 0xffffffff), (81, 0xffffffff), (82, 0xffffffff)]
    fields := [{ hi := 31, lo := 0, acc := .rws }] }

/-- THM_TEMP: R422. -/
def THM_TEMP : Reg :=
  { base := 0x30800, count := 83, stride := 0x8
    fields := [{ hi := 63, lo := 48, acc := .ro },
      { hi := 47, lo := 32, acc := .ro },
      { hi := 31, lo := 29, acc := .ro },
      { hi := 28, lo := 28, acc := .ro },
      { hi := 27, lo := 16, acc := .ro }] }

/-- THM_TJ: R422. -/
def THM_TJ : Reg :=
  { base := 0x30c00, count := 6, stride := 0x8
    fields := [{ hi := 63, lo := 56, acc := .ro },
      { hi := 55, lo := 48, acc := .ro },
      { hi := 47, lo := 40, acc := .ro },
      { hi := 39, lo := 32, acc := .ro },
      { hi := 31, lo := 24, acc := .ro },
      { hi := 23, lo := 16, acc := .ro },
      { hi := 15, lo := 8, acc := .ro },
      { hi := 7, lo := 0, acc := .ro }] }

/-- TIE_CTRL: R451. -/
def TIE_CTRL : Reg :=
  { base := 0x34000, reset := 0x2804006010420000
    fields := [{ hi := 63, lo := 54, acc := .rws, min := 40, max := 1000 },
      { hi := 53, lo := 42, acc := .rws, min := 16 },
      { hi := 41, lo := 30, acc := .rws, min := 16 },
      { hi := 29, lo := 26, acc := .rws, min := 1 },
      { hi := 25, lo := 18, acc := .rws, min := 1 },
      { hi := 17, lo := 17, acc := .rws }] }

/-- TIE_CMD: R452. -/
def TIE_CMD : Reg :=
  { base := 0x34008
    fields := [{ hi := 63, lo := 63, acc := .wo },
      { hi := 62, lo := 62, acc := .wo }] }

/-- TIE_STAT: R453. -/
def TIE_STAT : Reg :=
  { base := 0x34010, reset := 0x1000000000000000
    fields := [{ hi := 63, lo := 61, acc := .ro },
      { hi := 60, lo := 58, acc := .ro },
      { hi := 57, lo := 54, acc := .ro },
      { hi := 53, lo := 49, acc := .ro },
      { hi := 48, lo := 48, acc := .ro },
      { hi := 47, lo := 0, acc := .ro }] }

/-- TIE_LAT: R453. -/
def TIE_LAT : Reg :=
  { base := 0x34018
    fields := [{ hi := 63, lo := 48, acc := .ro },
      { hi := 47, lo := 32, acc := .ro }] }

/-- TIE_HEALTH: R454. -/
def TIE_HEALTH : Reg :=
  { base := 0x34020
    fields := [{ hi := 63, lo := 61, acc := .ro },
      { hi := 60, lo := 58, acc := .ro },
      { hi := 57, lo := 57, acc := .ro },
      { hi := 47, lo := 32, acc := .ro },
      { hi := 31, lo := 20, acc := .ro },
      { hi := 19, lo := 4, acc := .ro }] }

/-- TIE_DIV: R454. -/
def TIE_DIV : Reg :=
  { base := 0x34028
    fields := [{ hi := 63, lo := 58, acc := .ro },
      { hi := 57, lo := 54, acc := .ro },
      { hi := 47, lo := 32, acc := .rc },
      { hi := 31, lo := 16, acc := .rc },
      { hi := 15, lo := 0, acc := .rc }] }

/-- TIE_FLT: R455. -/
def TIE_FLT : Reg :=
  { base := 0x34030
    fields := [{ hi := 10, lo := 10, acc := .w1c },
      { hi := 9, lo := 9, acc := .w1c },
      { hi := 8, lo := 8, acc := .w1c },
      { hi := 7, lo := 7, acc := .w1c },
      { hi := 6, lo := 6, acc := .w1c },
      { hi := 5, lo := 5, acc := .w1c },
      { hi := 4, lo := 4, acc := .w1c },
      { hi := 3, lo := 3, acc := .w1c },
      { hi := 2, lo := 2, acc := .w1c },
      { hi := 1, lo := 1, acc := .w1c },
      { hi := 0, lo := 0, acc := .w1c }] }

/-- TIE_CNT: R455. -/
def TIE_CNT : Reg :=
  { base := 0x34038
    fields := [{ hi := 63, lo := 48, acc := .rc },
      { hi := 47, lo := 32, acc := .rc },
      { hi := 31, lo := 16, acc := .rc },
      { hi := 15, lo := 0, acc := .rc }] }

/-- CAN_CFG: R529. -/
def CAN_CFG : Reg :=
  { base := 0x38000, count := 4, stride := 0x1000, reset := 0x2a00a00000000000
    fields := [{ hi := 63, lo := 63, acc := .rws },
      { hi := 62, lo := 62, acc := .rws },
      { hi := 61, lo := 61, acc := .rws },
      { hi := 60, lo := 60, acc := .rws },
      { hi := 59, lo := 59, acc := .rws },
      { hi := 58, lo := 52, acc := .rws },
      { hi := 51, lo := 44, acc := .rws, min := 1 }] }

/-- CAN_NBT: R529. -/
def CAN_NBT : Reg :=
  { base := 0x38008, count := 4, stride := 0x1000, reset := 0x404000000000
    fields := [{ hi := 63, lo := 58, acc := .rws, min := 1, max := 32 },
      { hi := 57, lo := 49, acc := .rws, min := 2, max := 256 },
      { hi := 48, lo := 41, acc := .rws, min := 2, max := 128 },
      { hi := 40, lo := 33, acc := .rws, min := 1, max := 128 }] }

/-- CAN_DBT: R529. -/
def CAN_DBT : Reg :=
  { base := 0x38010, count := 4, stride := 0x1000, reset := 0x5f4200000000000
    fields := [{ hi := 63, lo := 58, acc := .rws, min := 1, max := 32 },
      { hi := 57, lo := 52, acc := .rws, min := 1, max := 32 },
      { hi := 51, lo := 47, acc := .rws, min := 1, max := 16 },
      { hi := 46, lo := 42, acc := .rws, min := 1, max := 16 }] }

/-- CAN_CMD: R529. -/
def CAN_CMD : Reg :=
  { base := 0x38018, count := 4, stride := 0x1000
    fields := [{ hi := 63, lo := 63, acc := .wo },
      { hi := 62, lo := 62, acc := .wo },
      { hi := 61, lo := 61, acc := .wo }] }

/-- CAN_STAT: R529. -/
def CAN_STAT : Reg :=
  { base := 0x38020, count := 4, stride := 0x1000
    fields := [{ hi := 63, lo := 62, acc := .ro },
      { hi := 61, lo := 61, acc := .ro },
      { hi := 60, lo := 60, acc := .ro },
      { hi := 59, lo := 57, acc := .ro },
      { hi := 56, lo := 52, acc := .ro },
      { hi := 51, lo := 47, acc := .ro },
      { hi := 46, lo := 38, acc := .ro },
      { hi := 37, lo := 30, acc := .ro },
      { hi := 29, lo := 26, acc := .ro }] }

/-- CAN_FLT: R529. -/
def CAN_FLT : Reg :=
  { base := 0x38028, count := 4, stride := 0x1000
    fields := [{ hi := 6, lo := 0, acc := .w1c }] }

/-- CAN_CNT: R529. -/
def CAN_CNT : Reg :=
  { base := 0x38030, count := 4, stride := 0x1000
    fields := [{ hi := 63, lo := 48, acc := .rc },
      { hi := 47, lo := 32, acc := .rc },
      { hi := 31, lo := 16, acc := .rc },
      { hi := 15, lo := 8, acc := .rc },
      { hi := 7, lo := 0, acc := .rc }] }

/-- CAN_MATCH: R529. -/
def CAN_MATCH : Reg :=
  { base := 0x38100, count := 128, stride := 0x1000, inner := 32, stride2 := 8
    fields := [{ hi := 63, lo := 63, acc := .rws },
      { hi := 62, lo := 62, acc := .rws },
      { hi := 61, lo := 61, acc := .rws },
      { hi := 60, lo := 60, acc := .rws },
      { hi := 59, lo := 58, acc := .rws },
      { hi := 57, lo := 29, acc := .rws },
      { hi := 28, lo := 0, acc := .rws }] }

/-- NET_CTRL: R531. -/
def NET_CTRL : Reg :=
  { base := 0x3c000, reset := 0x12c8020fa000000
    fields := [{ hi := 63, lo := 48, acc := .rws, min := 10 },
      { hi := 47, lo := 47, acc := .rws },
      { hi := 38, lo := 33, acc := .rws, min := 2, max := 32 },
      { hi := 32, lo := 21, acc := .rws, min := 1 }] }

/-- NET_MACH: R531. -/
def NET_MACH : Reg :=
  { base := 0x3c008
    fields := [{ hi := 47, lo := 0, acc := .ro }] }

/-- NET_MACA: R531. -/
def NET_MACA : Reg :=
  { base := 0x3c010
    fields := [{ hi := 47, lo := 0, acc := .ro }] }

/-- NET_PTP: R531. -/
def NET_PTP : Reg :=
  { base := 0x3c018, reset := 0xf8fd000000000000
    fields := [{ hi := 63, lo := 56, acc := .rws },
      { hi := 55, lo := 48, acc := .rws },
      { hi := 47, lo := 40, acc := .rws }] }

/-- NET_STAT: R531. -/
def NET_STAT : Reg :=
  { base := 0x3c020
    fields := [{ hi := 63, lo := 62, acc := .ro },
      { hi := 61, lo := 60, acc := .ro },
      { hi := 59, lo := 59, acc := .ro },
      { hi := 47, lo := 37, acc := .ro }] }

/-- NET_FLT: R531. -/
def NET_FLT : Reg :=
  { base := 0x3c028
    fields := [{ hi := 5, lo := 0, acc := .w1c }] }

/-- NET_CNT: R531. -/
def NET_CNT : Reg :=
  { base := 0x3c030
    fields := [{ hi := 63, lo := 48, acc := .rc },
      { hi := 47, lo := 32, acc := .rc },
      { hi := 31, lo := 16, acc := .rc },
      { hi := 15, lo := 0, acc := .rc }] }

/-- NET_PORT: R531. -/
def NET_PORT : Reg :=
  { base := 0x3c040, count := 3, stride := 0x8, reset := 0x8000c00010000000
    fields := [{ hi := 63, lo := 63, acc := .rws },
      { hi := 62, lo := 62, acc := .rws },
      { hi := 61, lo := 59, acc := .rws },
      { hi := 58, lo := 47, acc := .rws },
      { hi := 46, lo := 46, acc := .rws },
      { hi := 45, lo := 45, acc := .ro },
      { hi := 44, lo := 29, acc := .rws },
      { hi := 28, lo := 28, acc := .rws }] }

/-- NET_PTPC: R531. -/
def NET_PTPC : Reg :=
  { base := 0x3c060
    fields := [{ hi := 63, lo := 63, acc := .ro },
      { hi := 62, lo := 62, acc := .ro },
      { hi := 47, lo := 0, acc := .ro }] }

/-- NET_PTPS: R531. -/
def NET_PTPS : Reg :=
  { base := 0x3c068
    fields := [{ hi := 47, lo := 0, acc := .ro }] }

/-- NET_PTPN: R531. -/
def NET_PTPN : Reg :=
  { base := 0x3c070
    fields := [{ hi := 63, lo := 32, acc := .ro },
      { hi := 29, lo := 0, acc := .ro }] }

/-- NET_MCAST: R531. -/
def NET_MCAST : Reg :=
  { base := 0x3c080, count := 8, stride := 0x8
    fields := [{ hi := 63, lo := 63, acc := .rws },
      { hi := 47, lo := 0, acc := .rws }] }

/-- NET_VLAN: R531. -/
def NET_VLAN : Reg :=
  { base := 0x3c100, count := 64, stride := 0x8, others := [(0, 0x800fe00000000000)]
    fields := [{ hi := 63, lo := 63, acc := .rws },
      { hi := 62, lo := 51, acc := .rws },
      { hi := 50, lo := 48, acc := .rws },
      { hi := 47, lo := 45, acc := .rws }] }

/-- NET_STRM: R531. -/
def NET_STRM : Reg :=
  { base := 0x3c300, count := 16, stride := 0x10
    fields := [{ hi := 63, lo := 63, acc := .rws },
      { hi := 62, lo := 62, acc := .rws },
      { hi := 61, lo := 50, acc := .rws },
      { hi := 47, lo := 0, acc := .rws }] }

/-- NET_SCNT: R531. -/
def NET_SCNT : Reg :=
  { base := 0x3c308, count := 16, stride := 0x10
    fields := [{ hi := 63, lo := 48, acc := .rc },
      { hi := 47, lo := 32, acc := .rc },
      { hi := 31, lo := 16, acc := .rc },
      { hi := 15, lo := 8, acc := .rc },
      { hi := 7, lo := 0, acc := .rc }] }

/-- LDG_CTRL: R562. -/
def LDG_CTRL : Reg :=
  { base := 0x40000, reset := 0x12d814000000
    fields := [{ hi := 63, lo := 63, acc := .rws },
      { hi := 47, lo := 32, acc := .rws, min := 1024 },
      { hi := 31, lo := 24, acc := .rws, min := 1 }] }

/-- LDG_CAL: R562. -/
def LDG_CAL : Reg :=
  { base := 0x40008
    fields := [{ hi := 63, lo := 48, acc := .rws },
      { hi := 47, lo := 32, acc := .rws },
      { hi := 31, lo := 16, acc := .rws }] }

/-- LDG_PACK: R562. -/
def LDG_PACK : Reg :=
  { base := 0x40010
    fields := [{ hi := 63, lo := 0, acc := .rws }] }

/-- LDG_STAT: R562. -/
def LDG_STAT : Reg :=
  { base := 0x40018, reset := 0x1ff0000000000000
    fields := [{ hi := 63, lo := 48, acc := .ro },
      { hi := 47, lo := 32, acc := .ro },
      { hi := 31, lo := 24, acc := .ro },
      { hi := 23, lo := 23, acc := .ro },
      { hi := 22, lo := 22, acc := .ro }] }

/-- LDG_HEAD: R562. -/
def LDG_HEAD : Reg :=
  { base := 0x40020
    fields := [{ hi := 63, lo := 0, acc := .ro }] }

/-- LDG_CAPST: R562. -/
def LDG_CAPST : Reg :=
  { base := 0x40028
    fields := [{ hi := 63, lo := 0, acc := .ro }] }

/-- LDG_SESS: R562. -/
def LDG_SESS : Reg :=
  { base := 0x40030
    fields := [{ hi := 63, lo := 32, acc := .ro },
      { hi := 31, lo := 30, acc := .ro }] }

/-- LDG_E: R562. -/
def LDG_E : Reg :=
  { base := 0x40038, count := 4, stride := 0x8
    fields := [{ hi := 63, lo := 0, acc := .ro }] }

/-- LDG_FLT: R562. -/
def LDG_FLT : Reg :=
  { base := 0x40058
    fields := [{ hi := 8, lo := 0, acc := .w1c }] }

/-- LDG_CNT: R562. -/
def LDG_CNT : Reg :=
  { base := 0x40060
    fields := [{ hi := 63, lo := 32, acc := .rc },
      { hi := 31, lo := 16, acc := .rc },
      { hi := 15, lo := 0, acc := .rc }] }

/-- HIS_CTRL: R563. -/
def HIS_CTRL : Reg :=
  { base := 0x44000, reset := 0x640a000000
    fields := [{ hi := 63, lo := 52, acc := .rws },
      { hi := 51, lo := 42, acc := .rws, max := 600 },
      { hi := 41, lo := 32, acc := .rws, min := 10 },
      { hi := 31, lo := 24, acc := .rws, min := 1 }] }

/-- HIS_STAT: R563. -/
def HIS_STAT : Reg :=
  { base := 0x44008, reset := 0x4000000000000000
    fields := [{ hi := 63, lo := 63, acc := .ro },
      { hi := 62, lo := 62, acc := .ro },
      { hi := 61, lo := 48, acc := .ro },
      { hi := 47, lo := 32, acc := .ro },
      { hi := 31, lo := 0, acc := .ro }] }

/-- HIS_CUM: R563. -/
def HIS_CUM : Reg :=
  { base := 0x44010
    fields := [{ hi := 63, lo := 32, acc := .ro },
      { hi := 31, lo := 0, acc := .ro }] }

/-- HIS_FLT: R563. -/
def HIS_FLT : Reg :=
  { base := 0x44018
    fields := [{ hi := 4, lo := 0, acc := .w1c }] }

/-- HIS_CNT: R563. -/
def HIS_CNT : Reg :=
  { base := 0x44020
    fields := [{ hi := 63, lo := 48, acc := .rc },
      { hi := 47, lo := 32, acc := .rc },
      { hi := 31, lo := 16, acc := .rc },
      { hi := 15, lo := 0, acc := .rc }] }

/-- UPD_CTRL: R587. -/
def UPD_CTRL : Reg :=
  { base := 0x48000, reset := 0x258000000000000
    fields := [{ hi := 63, lo := 48, acc := .rws, min := 10 }] }

/-- UPD_CMD: R587. -/
def UPD_CMD : Reg :=
  { base := 0x48008
    fields := [{ hi := 63, lo := 63, acc := .wo },
      { hi := 62, lo := 62, acc := .wo },
      { hi := 61, lo := 61, acc := .wo },
      { hi := 60, lo := 60, acc := .wo },
      { hi := 59, lo := 59, acc := .wo }] }

/-- UPD_SLOT: R587. -/
def UPD_SLOT : Reg :=
  { base := 0x48010
    fields := [{ hi := 63, lo := 63, acc := .ro },
      { hi := 62, lo := 62, acc := .ro },
      { hi := 61, lo := 61, acc := .ro },
      { hi := 60, lo := 60, acc := .ro },
      { hi := 59, lo := 59, acc := .ro },
      { hi := 58, lo := 58, acc := .ro },
      { hi := 55, lo := 48, acc := .ro },
      { hi := 47, lo := 32, acc := .ro }] }

/-- UPD_VERA: R587. -/
def UPD_VERA : Reg :=
  { base := 0x48018
    fields := [{ hi := 63, lo := 32, acc := .ro },
      { hi := 31, lo := 0, acc := .ro }] }

/-- UPD_VERB: R587. -/
def UPD_VERB : Reg :=
  { base := 0x48020
    fields := [{ hi := 63, lo := 32, acc := .ro },
      { hi := 31, lo := 0, acc := .ro }] }

/-- UPD_FLOOR: R587. -/
def UPD_FLOOR : Reg :=
  { base := 0x48028
    fields := [{ hi := 63, lo := 32, acc := .ro },
      { hi := 31, lo := 0, acc := .ro }] }

/-- UPD_SET: R587. -/
def UPD_SET : Reg :=
  { base := 0x48030
    fields := [{ hi := 63, lo := 32, acc := .ro },
      { hi := 31, lo := 24, acc := .ro },
      { hi := 23, lo := 23, acc := .ro },
      { hi := 22, lo := 22, acc := .ro },
      { hi := 21, lo := 21, acc := .ro },
      { hi := 20, lo := 20, acc := .ro }] }

/-- UPD_STRM: R587. -/
def UPD_STRM : Reg :=
  { base := 0x48038, reset := 0x7fe000000000000
    fields := [{ hi := 63, lo := 61, acc := .ro },
      { hi := 60, lo := 59, acc := .ro },
      { hi := 58, lo := 49, acc := .ro },
      { hi := 48, lo := 0, acc := .ro }] }

/-- UPD_MIX: R587. -/
def UPD_MIX : Reg :=
  { base := 0x48040
    fields := [{ hi := 63, lo := 48, acc := .ro },
      { hi := 47, lo := 0, acc := .ro }] }

/-- UPD_FLT: R587. -/
def UPD_FLT : Reg :=
  { base := 0x48048
    fields := [{ hi := 6, lo := 0, acc := .w1c }] }

/-- UPD_CNT: R587. -/
def UPD_CNT : Reg :=
  { base := 0x48050
    fields := [{ hi := 63, lo := 48, acc := .rc },
      { hi := 47, lo := 32, acc := .rc },
      { hi := 31, lo := 16, acc := .rc },
      { hi := 15, lo := 0, acc := .rc }] }

/-- BST_CTRL: R616. -/
def BST_CTRL : Reg :=
  { base := 0x4c000, reset := 0x6400000000000000
    fields := [{ hi := 63, lo := 52, acc := .rws, min := 160, max := 2000 }] }

/-- BST_CMD: R616. -/
def BST_CMD : Reg :=
  { base := 0x4c008
    fields := [{ hi := 63, lo := 63, acc := .wo },
      { hi := 62, lo := 62, acc := .wo }] }

/-- BST_STAT: R616. -/
def BST_STAT : Reg :=
  { base := 0x4c010
    fields := [{ hi := 63, lo := 63, acc := .ro },
      { hi := 62, lo := 62, acc := .ro },
      { hi := 61, lo := 58, acc := .ro },
      { hi := 47, lo := 0, acc := .ro }] }

/-- BST_SIG: R616. -/
def BST_SIG : Reg :=
  { base := 0x4c018
    fields := [{ hi := 63, lo := 0, acc := .ro }] }

/-- BST_EXP: R616. -/
def BST_EXP : Reg :=
  { base := 0x4c020
    fields := [{ hi := 63, lo := 0, acc := .ro }] }

/-- BST_MEM: R616. -/
def BST_MEM : Reg :=
  { base := 0x4c028
    fields := [{ hi := 63, lo := 54, acc := .ro },
      { hi := 53, lo := 48, acc := .ro },
      { hi := 47, lo := 0, acc := .ro }] }

/-- BST_SCRUB: R616. -/
def BST_SCRUB : Reg :=
  { base := 0x4c030
    fields := [{ hi := 63, lo := 48, acc := .rc },
      { hi := 47, lo := 32, acc := .rc },
      { hi := 31, lo := 24, acc := .ro }] }

/-- BST_FLT: R616. -/
def BST_FLT : Reg :=
  { base := 0x4c038
    fields := [{ hi := 4, lo := 0, acc := .w1c }] }

/-- BST_CNT: R616. -/
def BST_CNT : Reg :=
  { base := 0x4c040
    fields := [{ hi := 63, lo := 48, acc := .rc },
      { hi := 47, lo := 32, acc := .rc },
      { hi := 31, lo := 16, acc := .rc }] }

/-- BST_DADDR: R616. -/
def BST_DADDR : Reg :=
  { base := 0x4c048
    fields := [{ hi := 63, lo := 60, acc := .rw },
      { hi := 59, lo := 55, acc := .rw, max := 23 },
      { hi := 39, lo := 0, acc := .rw }] }

/-- BST_DDATA: R616. -/
def BST_DDATA : Reg :=
  { base := 0x4c050
    fields := [{ hi := 63, lo := 0, acc := .rw }] }

/-- BST_DCHK: R616. -/
def BST_DCHK : Reg :=
  { base := 0x4c058
    fields := [{ hi := 63, lo := 63, acc := .wo },
      { hi := 7, lo := 0, acc := .rw }] }

/-- SEC_CTRL: R616. -/
def SEC_CTRL : Reg :=
  { base := 0x50000, reset := 0x258000000000000
    fields := [{ hi := 63, lo := 48, acc := .rws, min := 60 }] }

/-- SEC_STAT: R616. -/
def SEC_STAT : Reg :=
  { base := 0x50008
    fields := [{ hi := 63, lo := 61, acc := .ro },
      { hi := 60, lo := 55, acc := .ro },
      { hi := 54, lo := 54, acc := .ro },
      { hi := 53, lo := 53, acc := .ro },
      { hi := 52, lo := 52, acc := .ro },
      { hi := 51, lo := 51, acc := .ro },
      { hi := 50, lo := 50, acc := .ro },
      { hi := 47, lo := 0, acc := .ro }] }

/-- SEC_FLT: R616. -/
def SEC_FLT : Reg :=
  { base := 0x50010
    fields := [{ hi := 2, lo := 0, acc := .w1c }] }

/-- SEC_CNT: R616. -/
def SEC_CNT : Reg :=
  { base := 0x50018
    fields := [{ hi := 63, lo := 48, acc := .rc },
      { hi := 47, lo := 32, acc := .rc }] }

/-- MBX_MSG: R503. -/
def MBX_MSG : Reg :=
  { base := 0x100000, count := 512, stride := 0x100, inner := 16, stride2 := 8
    fields := [{ hi := 63, lo := 0, acc := .rw }] }

/-- MBX_POST: R503. -/
def MBX_POST : Reg :=
  { base := 0x100080, count := 32, stride := 0x100
    fields := [{ hi := 31, lo := 31, acc := .wo },
      { hi := 30, lo := 30, acc := .wo },
      { hi := 29, lo := 29, acc := .wo },
      { hi := 4, lo := 0, acc := .wo }] }

/-- MBX_STAT: R503. -/
def MBX_STAT : Reg :=
  { base := 0x100088, count := 32, stride := 0x100
    fields := [{ hi := 63, lo := 62, acc := .ro },
      { hi := 61, lo := 59, acc := .ro },
      { hi := 58, lo := 54, acc := .ro },
      { hi := 47, lo := 0, acc := .ro }] }

/-- MBX_ACK: R503. -/
def MBX_ACK : Reg :=
  { base := 0x100090, count := 32, stride := 0x100
    fields := [{ hi := 63, lo := 63, acc := .ro },
      { hi := 20, lo := 16, acc := .rw, max := 16 },
      { hi := 15, lo := 0, acc := .rw }] }

/-- MBX_BIND: R503. -/
def MBX_BIND : Reg :=
  { base := 0x100098, count := 32, stride := 0x100
    fields := [{ hi := 15, lo := 8, acc := .rws },
      { hi := 5, lo := 3, acc := .rws },
      { hi := 2, lo := 0, acc := .rws }] }

/-- MBX_CNT: R503. -/
def MBX_CNT : Reg :=
  { base := 0x1000a0, count := 32, stride := 0x100
    fields := [{ hi := 63, lo := 48, acc := .rc },
      { hi := 47, lo := 32, acc := .rc },
      { hi := 31, lo := 16, acc := .rc },
      { hi := 15, lo := 0, acc := .rc }] }

/-- MBX_TBL: R504. -/
def MBX_TBL : Reg :=
  { base := 0x102000
    fields := [{ hi := 1, lo := 1, acc := .ro },
      { hi := 0, lo := 0, acc := .w1s }] }

/-- MBX_FULLSUM: R504. -/
def MBX_FULLSUM : Reg :=
  { base := 0x102008
    fields := [{ hi := 31, lo := 0, acc := .ro }] }

/-- LOCK: R504. -/
def LOCK : Reg :=
  { base := 0x108000, count := 16, stride := 0x8
    fields := [{ hi := 2, lo := 0, acc := .rw }] }

/-- LOCK_CNT: R504. -/
def LOCK_CNT : Reg :=
  { base := 0x108080
    fields := [{ hi := 63, lo := 48, acc := .rc },
      { hi := 47, lo := 32, acc := .rc },
      { hi := 31, lo := 16, acc := .rc },
      { hi := 15, lo := 0, acc := .rc }] }

/-- The registers of block GLB. -/
def regs_GLB : List Reg :=
  [GLB_ID, GLB_CMD, GLB_STAT, GLB_WAKE]

/-- The registers of block CRS. -/
def regs_CRS : List Reg :=
  [CRS_COUNT, CRS_FINE, CRS_FINE_CAP, CRS_EPOCH, CRS_CTRL, CRS_STAT, CRS_ALIGN, CRS_LATE, CRS_PLAN, CRS_PEND]

/-- The registers of block ASH. -/
def regs_ASH : List Reg :=
  [ASH_CTRL, ASH_STAT, ASH_ENG, ASH_LOAD, ASH_CNT, ASH_STEAL, ASH_DBG, ASH_PAIR, ASH_CMP_STAT, ASH_TS_LIM, ASH_TS_PERMIT, ASH_TS_STAT, ASH_CAP_STAT]

/-- The registers of block HRE. -/
def regs_HRE : List Reg :=
  [HRE_CTRL, HRE_DB_ADDR, HRE_SB_ADDR, HRE_NRX_ADDR, HRE_STAT, HRE_CNT, HRE_ERR, HRE_TLM, HRE_IRBASE, HRE_IRCFG, HRE_ORBASE, HRE_ORCFG, HRE_VEC]

/-- The registers of block SNS. -/
def regs_SNS : List Reg :=
  [SNS_CTRL, SNS_CMD, SNS_STAT, SNS_FLT, SNS_CNT, SNS_PACC, SNS_PCFG, SNS_CONV, SNS_MON, SNS_HK]

/-- The registers of block POS. -/
def regs_POS : List Reg :=
  [POS_CFG, POS_ANG, POS_OBS, POS_CMD, POS_STAT, POS_LAT, POS_TRV, POS_SPD, POS_IDX, POS_FLT, POS_CNT]

/-- The registers of block GCH. -/
def regs_GCH : List Reg :=
  [GCH_CTRL, GCH_CMD, GCH_LATCH, GCH_FB, GCH_SUP, GCH_DIVSUM, GCH_BG, GCH_CFG, GCH_PROT, GCH_STAT, GCH_FLT, GCH_CNT, GCH_DIV]

/-- The registers of block TRC. -/
def regs_TRC : List Reg :=
  [TRC_CTRL, TRC_MACH, TRC_MSTAT, TRC_SETCFG, TRC_SETLIM, TRC_SETSTAT, TRC_SETFLT, TRC_SETCNT]

/-- The registers of block LNK. -/
def regs_LNK : List Reg :=
  [LNK_CTRL, LNK_LIM, LNK_OV, LNK_SCALE, LNK_CHOP, LNK_CON, LNK_AUX, LNK_STAT, LNK_MEAS, LNK_POW, LNK_LEG, LNK_FLT, LNK_CNT, LNK_ASCALE]

/-- The registers of block CHG. -/
def regs_CHG : List Reg :=
  [CHG_CTRL, CHG_BATT, CHG_PWR, CHG_SCALE, CHG_IEN, CHG_CMD, CHG_STAT, CHG_PILOT, CHG_SEARCH, CHG_TMR, CHG_FLT, CHG_CNT]

/-- The registers of block ACT. -/
def regs_ACT : List Reg :=
  [ACT_CTRL, ACT_CFG, ACT_DRUM, ACT_SHIFT, ACT_STAT, ACT_CHSTAT, ACT_FLT, ACT_CNT]

/-- The registers of block THM. -/
def regs_THM : List Reg :=
  [THM_CTRL, THM_DER, THM_DSAT, THM_MAP, THM_XO, THM_REFTC, THM_STAT, THM_FLT, THM_CNT, THM_BRK0, THM_BRK1, THM_CLASS, THM_MODA, THM_MODB, THM_NTC, THM_NBR, THM_TEMP, THM_TJ]

/-- The registers of block TIE. -/
def regs_TIE : List Reg :=
  [TIE_CTRL, TIE_CMD, TIE_STAT, TIE_LAT, TIE_HEALTH, TIE_DIV, TIE_FLT, TIE_CNT]

/-- The registers of block CAN. -/
def regs_CAN : List Reg :=
  [CAN_CFG, CAN_NBT, CAN_DBT, CAN_CMD, CAN_STAT, CAN_FLT, CAN_CNT, CAN_MATCH]

/-- The registers of block NET. -/
def regs_NET : List Reg :=
  [NET_CTRL, NET_MACH, NET_MACA, NET_PTP, NET_STAT, NET_FLT, NET_CNT, NET_PORT, NET_PTPC, NET_PTPS, NET_PTPN, NET_MCAST, NET_VLAN, NET_STRM, NET_SCNT]

/-- The registers of block LDG. -/
def regs_LDG : List Reg :=
  [LDG_CTRL, LDG_CAL, LDG_PACK, LDG_STAT, LDG_HEAD, LDG_CAPST, LDG_SESS, LDG_E, LDG_FLT, LDG_CNT]

/-- The registers of block HIS. -/
def regs_HIS : List Reg :=
  [HIS_CTRL, HIS_STAT, HIS_CUM, HIS_FLT, HIS_CNT]

/-- The registers of block UPD. -/
def regs_UPD : List Reg :=
  [UPD_CTRL, UPD_CMD, UPD_SLOT, UPD_VERA, UPD_VERB, UPD_FLOOR, UPD_SET, UPD_STRM, UPD_MIX, UPD_FLT, UPD_CNT]

/-- The registers of block BST. -/
def regs_BST : List Reg :=
  [BST_CTRL, BST_CMD, BST_STAT, BST_SIG, BST_EXP, BST_MEM, BST_SCRUB, BST_FLT, BST_CNT, BST_DADDR, BST_DDATA, BST_DCHK]

/-- The registers of block SEC. -/
def regs_SEC : List Reg :=
  [SEC_CTRL, SEC_STAT, SEC_FLT, SEC_CNT]

/-- The registers of block MBX. -/
def regs_MBX : List Reg :=
  [MBX_MSG, MBX_POST, MBX_STAT, MBX_ACK, MBX_BIND, MBX_CNT, MBX_TBL, MBX_FULLSUM]

/-- The registers of block LOCK. -/
def regs_LOCK : List Reg :=
  [LOCK, LOCK_CNT]

/-- Every register of a leaf (R643, R646). -/
def allRegs : List Reg :=
  regs_GLB ++
  regs_CRS ++
  regs_ASH ++
  regs_HRE ++
  regs_SNS ++
  regs_POS ++
  regs_GCH ++
  regs_TRC ++
  regs_LNK ++
  regs_CHG ++
  regs_ACT ++
  regs_THM ++
  regs_TIE ++
  regs_CAN ++
  regs_NET ++
  regs_LDG ++
  regs_HIS ++
  regs_UPD ++
  regs_BST ++
  regs_SEC ++
  regs_MBX ++
  regs_LOCK

/-- GLB_STAT.SETUP_DIFF (R616). -/
def GLB_STAT_SETUP_DIFF : Fld := ⟨GLB_STAT, 60, 60⟩
/-- GLB_STAT.BOOT_FAIL (R616). -/
def GLB_STAT_BOOT_FAIL : Fld := ⟨GLB_STAT, 59, 54⟩
/-- GLB_STAT.READY_MS (R616). -/
def GLB_STAT_READY_MS : Fld := ⟨GLB_STAT, 53, 44⟩
/-- GLB_WAKE.CAUSE (R616). -/
def GLB_WAKE_CAUSE : Fld := ⟨GLB_WAKE, 63, 62⟩
/-- GLB_WAKE.UNCLEAN (R616). -/
def GLB_WAKE_UNCLEAN : Fld := ⟨GLB_WAKE, 61, 61⟩
/-- CRS_EPOCH.EPOCH (R59). -/
def CRS_EPOCH_EPOCH : Fld := ⟨CRS_EPOCH, 31, 0⟩
/-- CRS_CTRL.COMMIT_LEAD (R60). -/
def CRS_CTRL_COMMIT_LEAD : Fld := ⟨CRS_CTRL, 23, 20⟩
/-- CRS_CTRL.EDGE_GUARD (R60). -/
def CRS_CTRL_EDGE_GUARD : Fld := ⟨CRS_CTRL, 10, 0⟩
/-- CRS_STAT.COMP_ACTIVE (R61). -/
def CRS_STAT_COMP_ACTIVE : Fld := ⟨CRS_STAT, 3, 3⟩
/-- CRS_STAT.ALIGNED (R61). -/
def CRS_STAT_ALIGNED : Fld := ⟨CRS_STAT, 2, 2⟩
/-- CRS_STAT.COUNT_VALID (R61). -/
def CRS_STAT_COUNT_VALID : Fld := ⟨CRS_STAT, 1, 1⟩
/-- CRS_STAT.TB_LOCK (R61). -/
def CRS_STAT_TB_LOCK : Fld := ⟨CRS_STAT, 0, 0⟩
/-- CRS_ALIGN.OFS (R62). -/
def CRS_ALIGN_OFS : Fld := ⟨CRS_ALIGN, 15, 0⟩
/-- CRS_LATE.COMMIT_REFUSE (R63). -/
def CRS_LATE_COMMIT_REFUSE : Fld := ⟨CRS_LATE, 63, 48⟩
/-- CRS_LATE.DB_LATE (R63). -/
def CRS_LATE_DB_LATE : Fld := ⟨CRS_LATE, 47, 32⟩
/-- CRS_LATE.FILL_LATE (R63). -/
def CRS_LATE_FILL_LATE : Fld := ⟨CRS_LATE, 31, 16⟩
/-- CRS_LATE.KEY_LATE (R63). -/
def CRS_LATE_KEY_LATE : Fld := ⟨CRS_LATE, 15, 0⟩
/-- CRS_PLAN.PLAN_GEN (R64). -/
def CRS_PLAN_PLAN_GEN : Fld := ⟨CRS_PLAN, 63, 48⟩
/-- CRS_PLAN.PLAN_COURSE (R64). -/
def CRS_PLAN_PLAN_COURSE : Fld := ⟨CRS_PLAN, 47, 0⟩
/-- CRS_PEND.PENDING (R65). -/
def CRS_PEND_PENDING : Fld := ⟨CRS_PEND, 63, 63⟩
/-- CRS_PEND.PEND_COURSE (R65). -/
def CRS_PEND_PEND_COURSE : Fld := ⟨CRS_PEND, 47, 0⟩
/-- ASH_CTRL.BIST_GAP (R90). -/
def ASH_CTRL_BIST_GAP : Fld := ⟨ASH_CTRL, 55, 48⟩
/-- ASH_CTRL.CE_LIM (R90). -/
def ASH_CTRL_CE_LIM : Fld := ⟨ASH_CTRL, 47, 40⟩
/-- ASH_CTRL.MISM_LIM (R90). -/
def ASH_CTRL_MISM_LIM : Fld := ⟨ASH_CTRL, 39, 36⟩
/-- ASH_CTRL.SHED_MAX (R90). -/
def ASH_CTRL_SHED_MAX : Fld := ⟨ASH_CTRL, 35, 34⟩
/-- ASH_CTRL.FILL_MAX (R90). -/
def ASH_CTRL_FILL_MAX : Fld := ⟨ASH_CTRL, 26, 16⟩
/-- ASH_CTRL.FILL_BUDGET (R90). -/
def ASH_CTRL_FILL_BUDGET : Fld := ⟨ASH_CTRL, 15, 0⟩
/-- ASH_STAT.FILL_N (R91). -/
def ASH_STAT_FILL_N : Fld := ⟨ASH_STAT, 52, 48⟩
/-- ASH_STAT.PAIRS (R91). -/
def ASH_STAT_PAIRS : Fld := ⟨ASH_STAT, 47, 44⟩
/-- ASH_STAT.RETIRED (R91). -/
def ASH_STAT_RETIRED : Fld := ⟨ASH_STAT, 39, 35⟩
/-- ASH_STAT.SHED (R91). -/
def ASH_STAT_SHED : Fld := ⟨ASH_STAT, 34, 33⟩
/-- ASH_STAT.DEGRADED (R91). -/
def ASH_STAT_DEGRADED : Fld := ⟨ASH_STAT, 32, 32⟩
/-- ASH_STAT.MAP_GEN (R91). -/
def ASH_STAT_MAP_GEN : Fld := ⟨ASH_STAT, 31, 16⟩
/-- ASH_STAT.TAINT (R91). -/
def ASH_STAT_TAINT : Fld := ⟨ASH_STAT, 0, 0⟩
/-- ASH_LOAD.PLAN_C01 (R93). -/
def ASH_LOAD_PLAN_C01 : Fld := ⟨ASH_LOAD, 63, 48⟩
/-- ASH_LOAD.PLAN_FILL (R93). -/
def ASH_LOAD_PLAN_FILL : Fld := ⟨ASH_LOAD, 47, 32⟩
/-- ASH_LOAD.FILL_DONE_MAX (R93). -/
def ASH_LOAD_FILL_DONE_MAX : Fld := ⟨ASH_LOAD, 31, 20⟩
/-- ASH_LOAD.KEY_DONE_MAX (R93). -/
def ASH_LOAD_KEY_DONE_MAX : Fld := ⟨ASH_LOAD, 19, 8⟩
/-- ASH_CNT.MISM_TRANS (R94). -/
def ASH_CNT_MISM_TRANS : Fld := ⟨ASH_CNT, 63, 48⟩
/-- ASH_CNT.INPUT_DIS (R94). -/
def ASH_CNT_INPUT_DIS : Fld := ⟨ASH_CNT, 47, 32⟩
/-- ASH_CNT.GUARD_STOP (R94). -/
def ASH_CNT_GUARD_STOP : Fld := ⟨ASH_CNT, 31, 16⟩
/-- ASH_CNT.HANDOVERS (R94). -/
def ASH_CNT_HANDOVERS : Fld := ⟨ASH_CNT, 15, 0⟩
/-- ASH_STEAL.BLOCKS (R95). -/
def ASH_STEAL_BLOCKS : Fld := ⟨ASH_STEAL, 63, 32⟩
/-- ASH_STEAL.STEALS (R95). -/
def ASH_STEAL_STEALS : Fld := ⟨ASH_STEAL, 31, 0⟩
/-- ASH_DBG.SPLIT (R96). -/
def ASH_DBG_SPLIT : Fld := ⟨ASH_DBG, 15, 15⟩
/-- ASH_DBG.POS (R96). -/
def ASH_DBG_POS : Fld := ⟨ASH_DBG, 14, 12⟩
/-- ASH_DBG.SIDE (R96). -/
def ASH_DBG_SIDE : Fld := ⟨ASH_DBG, 11, 11⟩
/-- ASH_PAIR.VALID (R97). -/
def ASH_PAIR_VALID : Fld := ⟨ASH_PAIR, 63, 63⟩
/-- ASH_PAIR.ROLE (R97). -/
def ASH_PAIR_ROLE : Fld := ⟨ASH_PAIR, 62, 61⟩
/-- ASH_PAIR.BLOCK (R97). -/
def ASH_PAIR_BLOCK : Fld := ⟨ASH_PAIR, 58, 56⟩
/-- ASH_PAIR.ENG_B (R97). -/
def ASH_PAIR_ENG_B : Fld := ⟨ASH_PAIR, 52, 48⟩
/-- ASH_PAIR.ENG_A (R97). -/
def ASH_PAIR_ENG_A : Fld := ⟨ASH_PAIR, 44, 40⟩
/-- ASH_PAIR.DONE_MAX (R97). -/
def ASH_PAIR_DONE_MAX : Fld := ⟨ASH_PAIR, 39, 28⟩
/-- ASH_PAIR.DONE_LAST (R97). -/
def ASH_PAIR_DONE_LAST : Fld := ⟨ASH_PAIR, 27, 16⟩
/-- ASH_PAIR.MISM_T (R97). -/
def ASH_PAIR_MISM_T : Fld := ⟨ASH_PAIR, 15, 8⟩
/-- ASH_PAIR.INPUT_T (R97). -/
def ASH_PAIR_INPUT_T : Fld := ⟨ASH_PAIR, 7, 0⟩
/-- ASH_CMP_STAT.FALLBACKS (R126). -/
def ASH_CMP_STAT_FALLBACKS : Fld := ⟨ASH_CMP_STAT, 63, 48⟩
/-- ASH_CMP_STAT.LIM_CROSS (R126). -/
def ASH_CMP_STAT_LIM_CROSS : Fld := ⟨ASH_CMP_STAT, 47, 32⟩
/-- ASH_CMP_STAT.W_SAT (R126). -/
def ASH_CMP_STAT_W_SAT : Fld := ⟨ASH_CMP_STAT, 31, 16⟩
/-- ASH_CMP_STAT.LAST_BLOCK (R126). -/
def ASH_CMP_STAT_LAST_BLOCK : Fld := ⟨ASH_CMP_STAT, 15, 8⟩
/-- ASH_CMP_STAT.LAST_INST (R126). -/
def ASH_CMP_STAT_LAST_INST : Fld := ⟨ASH_CMP_STAT, 7, 5⟩
/-- ASH_TS_LIM.LIM_FBK (R127). -/
def ASH_TS_LIM_LIM_FBK : Fld := ⟨ASH_TS_LIM, 63, 48⟩
/-- ASH_TS_LIM.LIM_OUT (R127). -/
def ASH_TS_LIM_LIM_OUT : Fld := ⟨ASH_TS_LIM, 47, 32⟩
/-- ASH_TS_LIM.LIM_ERR (R127). -/
def ASH_TS_LIM_LIM_ERR : Fld := ⟨ASH_TS_LIM, 31, 16⟩
/-- ASH_TS_LIM.LIM_REF (R127). -/
def ASH_TS_LIM_LIM_REF : Fld := ⟨ASH_TS_LIM, 15, 0⟩
/-- ASH_TS_PERMIT.PERMIT (R128). -/
def ASH_TS_PERMIT_PERMIT : Fld := ⟨ASH_TS_PERMIT, 43, 0⟩
/-- ASH_TS_STAT.STATE (R129). -/
def ASH_TS_STAT_STATE : Fld := ⟨ASH_TS_STAT, 15, 13⟩
/-- ASH_TS_STAT.ABORT (R129). -/
def ASH_TS_STAT_ABORT : Fld := ⟨ASH_TS_STAT, 12, 10⟩
/-- ASH_TS_STAT.POINT (R129). -/
def ASH_TS_STAT_POINT : Fld := ⟨ASH_TS_STAT, 9, 4⟩
/-- ASH_CAP_STAT.LOST (R130). -/
def ASH_CAP_STAT_LOST : Fld := ⟨ASH_CAP_STAT, 63, 48⟩
/-- ASH_CAP_STAT.FREE_MIB (R130). -/
def ASH_CAP_STAT_FREE_MIB : Fld := ⟨ASH_CAP_STAT, 37, 28⟩
/-- ASH_CAP_STAT.SLOT (R130). -/
def ASH_CAP_STAT_SLOT : Fld := ⟨ASH_CAP_STAT, 15, 0⟩
/-- HRE_CTRL.RUN (R486). -/
def HRE_CTRL_RUN : Fld := ⟨HRE_CTRL, 63, 63⟩
/-- HRE_STAT.LINK_UP (R486). -/
def HRE_STAT_LINK_UP : Fld := ⟨HRE_STAT, 63, 63⟩
/-- HRE_STAT.BME (R486). -/
def HRE_STAT_BME : Fld := ⟨HRE_STAT, 62, 62⟩
/-- HRE_STAT.RUNNING (R486). -/
def HRE_STAT_RUNNING : Fld := ⟨HRE_STAT, 61, 61⟩
/-- HRE_STAT.MSIX (R486). -/
def HRE_STAT_MSIX : Fld := ⟨HRE_STAT, 60, 60⟩
/-- HRE_CNT.RD_ERR (R487). -/
def HRE_CNT_RD_ERR : Fld := ⟨HRE_CNT, 63, 48⟩
/-- HRE_CNT.DESC_ERR (R487). -/
def HRE_CNT_DESC_ERR : Fld := ⟨HRE_CNT, 47, 32⟩
/-- HRE_CNT.DROP (R487). -/
def HRE_CNT_DROP : Fld := ⟨HRE_CNT, 31, 16⟩
/-- HRE_CNT.LATE_CPL (R487). -/
def HRE_CNT_LATE_CPL : Fld := ⟨HRE_CNT, 15, 0⟩
/-- HRE_ERR.DROP (R487). -/
def HRE_ERR_DROP : Fld := ⟨HRE_ERR, 7, 7⟩
/-- HRE_ERR.DSEQ (R487). -/
def HRE_ERR_DSEQ : Fld := ⟨HRE_ERR, 6, 6⟩
/-- HRE_ERR.PHASE (R487). -/
def HRE_ERR_PHASE : Fld := ⟨HRE_ERR, 5, 5⟩
/-- HRE_ERR.CRC (R487). -/
def HRE_ERR_CRC : Fld := ⟨HRE_ERR, 4, 4⟩
/-- HRE_ERR.STALL (R487). -/
def HRE_ERR_STALL : Fld := ⟨HRE_ERR, 3, 3⟩
/-- HRE_ERR.OVERRUN (R487). -/
def HRE_ERR_OVERRUN : Fld := ⟨HRE_ERR, 2, 2⟩
/-- HRE_ERR.DESC_READ (R487). -/
def HRE_ERR_DESC_READ : Fld := ⟨HRE_ERR, 1, 1⟩
/-- HRE_ERR.DB_READ (R487). -/
def HRE_ERR_DB_READ : Fld := ⟨HRE_ERR, 0, 0⟩
/-- HRE_IRCFG.EN (R488). -/
def HRE_IRCFG_EN : Fld := ⟨HRE_IRCFG, 63, 63⟩
/-- HRE_IRCFG.LOG2SIZE (R488). -/
def HRE_IRCFG_LOG2SIZE : Fld := ⟨HRE_IRCFG, 62, 59⟩
/-- HRE_IRCFG.FETCH (R488). -/
def HRE_IRCFG_FETCH : Fld := ⟨HRE_IRCFG, 58, 55⟩
/-- HRE_IRCFG.PROD (R488). -/
def HRE_IRCFG_PROD : Fld := ⟨HRE_IRCFG, 31, 16⟩
/-- HRE_IRCFG.CONS (R488). -/
def HRE_IRCFG_CONS : Fld := ⟨HRE_IRCFG, 15, 0⟩
/-- HRE_ORCFG.EN (R488). -/
def HRE_ORCFG_EN : Fld := ⟨HRE_ORCFG, 63, 63⟩
/-- HRE_ORCFG.LOG2SIZE (R488). -/
def HRE_ORCFG_LOG2SIZE : Fld := ⟨HRE_ORCFG, 62, 59⟩
/-- HRE_ORCFG.VEC (R488). -/
def HRE_ORCFG_VEC : Fld := ⟨HRE_ORCFG, 58, 54⟩
/-- HRE_ORCFG.VEC_EN (R488). -/
def HRE_ORCFG_VEC_EN : Fld := ⟨HRE_ORCFG, 53, 53⟩
/-- HRE_ORCFG.CONS (R488). -/
def HRE_ORCFG_CONS : Fld := ⟨HRE_ORCFG, 31, 16⟩
/-- HRE_ORCFG.PROD (R488). -/
def HRE_ORCFG_PROD : Fld := ⟨HRE_ORCFG, 15, 0⟩
/-- HRE_VEC.HOLD (R488). -/
def HRE_VEC_HOLD : Fld := ⟨HRE_VEC, 63, 48⟩
/-- HRE_VEC.CNT (R488). -/
def HRE_VEC_CNT : Fld := ⟨HRE_VEC, 47, 40⟩
/-- SNS_CTRL.CAL_GAP (R163). -/
def SNS_CTRL_CAL_GAP : Fld := ⟨SNS_CTRL, 62, 48⟩
/-- SNS_CTRL.CAL_TOL (R163). -/
def SNS_CTRL_CAL_TOL : Fld := ⟨SNS_CTRL, 47, 40⟩
/-- SNS_CTRL.NEUT_LIM (R163). -/
def SNS_CTRL_NEUT_LIM : Fld := ⟨SNS_CTRL, 39, 32⟩
/-- SNS_CTRL.NEUT_N (R163). -/
def SNS_CTRL_NEUT_N : Fld := ⟨SNS_CTRL, 31, 24⟩
/-- SNS_CTRL.FT_GAP (R163). -/
def SNS_CTRL_FT_GAP : Fld := ⟨SNS_CTRL, 23, 16⟩
/-- SNS_STAT.ROT_PORT (R165). -/
def SNS_STAT_ROT_PORT : Fld := ⟨SNS_STAT, 63, 58⟩
/-- SNS_STAT.ROT_SPARE (R165). -/
def SNS_STAT_ROT_SPARE : Fld := ⟨SNS_STAT, 57, 52⟩
/-- SNS_STAT.ROT_PHASE (R165). -/
def SNS_STAT_ROT_PHASE : Fld := ⟨SNS_STAT, 51, 50⟩
/-- SNS_STAT.SPARES_FREE (R165). -/
def SNS_STAT_SPARES_FREE : Fld := ⟨SNS_STAT, 47, 45⟩
/-- SNS_STAT.RETIRED (R165). -/
def SNS_STAT_RETIRED : Fld := ⟨SNS_STAT, 44, 40⟩
/-- SNS_STAT.CAL_STALE (R165). -/
def SNS_STAT_CAL_STALE : Fld := ⟨SNS_STAT, 3, 3⟩
/-- SNS_STAT.CAL_FAIL (R165). -/
def SNS_STAT_CAL_FAIL : Fld := ⟨SNS_STAT, 2, 2⟩
/-- SNS_STAT.CAL_DONE (R165). -/
def SNS_STAT_CAL_DONE : Fld := ⟨SNS_STAT, 1, 1⟩
/-- SNS_STAT.CAL_BUSY (R165). -/
def SNS_STAT_CAL_BUSY : Fld := ⟨SNS_STAT, 0, 0⟩
/-- SNS_FLT.NEUT (R166). -/
def SNS_FLT_NEUT : Fld := ⟨SNS_FLT, 9, 6⟩
/-- SNS_FLT.HK_FAIL (R166). -/
def SNS_FLT_HK_FAIL : Fld := ⟨SNS_FLT, 5, 5⟩
/-- SNS_FLT.FT_FAIL (R166). -/
def SNS_FLT_FT_FAIL : Fld := ⟨SNS_FLT, 4, 4⟩
/-- SNS_FLT.REF_FAULT (R166). -/
def SNS_FLT_REF_FAULT : Fld := ⟨SNS_FLT, 3, 3⟩
/-- SNS_FLT.PORT_LOST (R166). -/
def SNS_FLT_PORT_LOST : Fld := ⟨SNS_FLT, 2, 2⟩
/-- SNS_FLT.CONV_RETIRED (R166). -/
def SNS_FLT_CONV_RETIRED : Fld := ⟨SNS_FLT, 1, 1⟩
/-- SNS_FLT.SAT (R166). -/
def SNS_FLT_SAT : Fld := ⟨SNS_FLT, 0, 0⟩
/-- SNS_CNT.XCHK_TRANS (R167). -/
def SNS_CNT_XCHK_TRANS : Fld := ⟨SNS_CNT, 63, 48⟩
/-- SNS_CNT.CAL_TRANS (R167). -/
def SNS_CNT_CAL_TRANS : Fld := ⟨SNS_CNT, 47, 32⟩
/-- SNS_CNT.FT_TRANS (R167). -/
def SNS_CNT_FT_TRANS : Fld := ⟨SNS_CNT, 31, 16⟩
/-- SNS_CNT.STEPS (R167). -/
def SNS_CNT_STEPS : Fld := ⟨SNS_CNT, 15, 0⟩
/-- SNS_PACC.ENABLE (R168). -/
def SNS_PACC_ENABLE : Fld := ⟨SNS_PACC, 63, 63⟩
/-- SNS_PACC.SRC_A (R168). -/
def SNS_PACC_SRC_A : Fld := ⟨SNS_PACC, 61, 56⟩
/-- SNS_PACC.SRC_B (R168). -/
def SNS_PACC_SRC_B : Fld := ⟨SNS_PACC, 53, 48⟩
/-- SNS_PACC.WIN (R168). -/
def SNS_PACC_WIN : Fld := ⟨SNS_PACC, 31, 16⟩
/-- SNS_PCFG.ENABLE (R169). -/
def SNS_PCFG_ENABLE : Fld := ⟨SNS_PCFG, 63, 63⟩
/-- SNS_PCFG.REF (R169). -/
def SNS_PCFG_REF : Fld := ⟨SNS_PCFG, 62, 60⟩
/-- SNS_PCFG.FT_EN (R169). -/
def SNS_PCFG_FT_EN : Fld := ⟨SNS_PCFG, 56, 56⟩
/-- SNS_PCFG.FT_HI (R169). -/
def SNS_PCFG_FT_HI : Fld := ⟨SNS_PCFG, 55, 46⟩
/-- SNS_PCFG.FT_LO (R169). -/
def SNS_PCFG_FT_LO : Fld := ⟨SNS_PCFG, 45, 36⟩
/-- SNS_PCFG.WIN (R169). -/
def SNS_PCFG_WIN : Fld := ⟨SNS_PCFG, 31, 16⟩
/-- SNS_CONV.STATE (R170). -/
def SNS_CONV_STATE : Fld := ⟨SNS_CONV, 63, 62⟩
/-- SNS_CONV.PORT (R170). -/
def SNS_CONV_PORT : Fld := ⟨SNS_CONV, 61, 56⟩
/-- SNS_CONV.CAL_AGE (R170). -/
def SNS_CONV_CAL_AGE : Fld := ⟨SNS_CONV, 47, 32⟩
/-- SNS_CONV.GAIN (R170). -/
def SNS_CONV_GAIN : Fld := ⟨SNS_CONV, 31, 16⟩
/-- SNS_CONV.OFFSET (R170). -/
def SNS_CONV_OFFSET : Fld := ⟨SNS_CONV, 15, 0⟩
/-- SNS_MON.MAX (R171). -/
def SNS_MON_MAX : Fld := ⟨SNS_MON, 63, 48⟩
/-- SNS_MON.MIN (R171). -/
def SNS_MON_MIN : Fld := ⟨SNS_MON, 47, 32⟩
/-- SNS_MON.MEAN (R171). -/
def SNS_MON_MEAN : Fld := ⟨SNS_MON, 31, 1⟩
/-- SNS_MON.VALID (R171). -/
def SNS_MON_VALID : Fld := ⟨SNS_MON, 0, 0⟩
/-- SNS_HK.VALID (R172). -/
def SNS_HK_VALID : Fld := ⟨SNS_HK, 63, 63⟩
/-- SNS_HK.MEAN8 (R172). -/
def SNS_HK_MEAN8 : Fld := ⟨SNS_HK, 46, 32⟩
/-- SNS_HK.LATEST (R172). -/
def SNS_HK_LATEST : Fld := ⟨SNS_HK, 11, 0⟩
/-- POS_CFG.CPR_M1 (R200). -/
def POS_CFG_CPR_M1 : Fld := ⟨POS_CFG, 63, 48⟩
/-- POS_CFG.POLE_PAIRS (R200). -/
def POS_CFG_POLE_PAIRS : Fld := ⟨POS_CFG, 47, 43⟩
/-- POS_CFG.INDEX_TOL (R200). -/
def POS_CFG_INDEX_TOL : Fld := ⟨POS_CFG, 42, 39⟩
/-- POS_CFG.INDEX_MODE (R200). -/
def POS_CFG_INDEX_MODE : Fld := ⟨POS_CFG, 38, 38⟩
/-- POS_CFG.Z_QUAL (R200). -/
def POS_CFG_Z_QUAL : Fld := ⟨POS_CFG, 37, 36⟩
/-- POS_CFG.DIR (R200). -/
def POS_CFG_DIR : Fld := ⟨POS_CFG, 35, 35⟩
/-- POS_CFG.UVW_EN (R200). -/
def POS_CFG_UVW_EN : Fld := ⟨POS_CFG, 34, 34⟩
/-- POS_CFG.OBS_EN (R200). -/
def POS_CFG_OBS_EN : Fld := ⟨POS_CFG, 33, 33⟩
/-- POS_CFG.FILT (R200). -/
def POS_CFG_FILT : Fld := ⟨POS_CFG, 31, 24⟩
/-- POS_CFG.UVW_FILT (R200). -/
def POS_CFG_UVW_FILT : Fld := ⟨POS_CFG, 23, 16⟩
/-- POS_CFG.SPD_WIN (R200). -/
def POS_CFG_SPD_WIN : Fld := ⟨POS_CFG, 15, 10⟩
/-- POS_CFG.STILL_T (R200). -/
def POS_CFG_STILL_T : Fld := ⟨POS_CFG, 9, 0⟩
/-- POS_ANG.ANG_OFS (R201). -/
def POS_ANG_ANG_OFS : Fld := ⟨POS_ANG, 63, 32⟩
/-- POS_ANG.UVW_OFS (R201). -/
def POS_ANG_UVW_OFS : Fld := ⟨POS_ANG, 31, 16⟩
/-- POS_ANG.UVW_TOL (R201). -/
def POS_ANG_UVW_TOL : Fld := ⟨POS_ANG, 15, 8⟩
/-- POS_OBS.SPD_MAX (R202). -/
def POS_OBS_SPD_MAX : Fld := ⟨POS_OBS, 63, 48⟩
/-- POS_OBS.XCHK_ANG (R202). -/
def POS_OBS_XCHK_ANG : Fld := ⟨POS_OBS, 47, 40⟩
/-- POS_OBS.XCHK_N (R202). -/
def POS_OBS_XCHK_N : Fld := ⟨POS_OBS, 39, 32⟩
/-- POS_OBS.RES_LIM (R202). -/
def POS_OBS_RES_LIM : Fld := ⟨POS_OBS, 31, 16⟩
/-- POS_OBS.PROBE_RATIO (R202). -/
def POS_OBS_PROBE_RATIO : Fld := ⟨POS_OBS, 6, 0⟩
/-- POS_STAT.SRC (R204). -/
def POS_STAT_SRC : Fld := ⟨POS_STAT, 63, 61⟩
/-- POS_STAT.REF (R204). -/
def POS_STAT_REF : Fld := ⟨POS_STAT, 60, 58⟩
/-- POS_STAT.UVW (R204). -/
def POS_STAT_UVW : Fld := ⟨POS_STAT, 57, 55⟩
/-- POS_STAT.INDEX_PENDING (R204). -/
def POS_STAT_INDEX_PENDING : Fld := ⟨POS_STAT, 54, 54⟩
/-- POS_STAT.ARMED (R204). -/
def POS_STAT_ARMED : Fld := ⟨POS_STAT, 53, 53⟩
/-- POS_STAT.OBS_VALID (R204). -/
def POS_STAT_OBS_VALID : Fld := ⟨POS_STAT, 52, 52⟩
/-- POS_STAT.OBS_LOCK (R204). -/
def POS_STAT_OBS_LOCK : Fld := ⟨POS_STAT, 51, 51⟩
/-- POS_STAT.STILL (R204). -/
def POS_STAT_STILL : Fld := ⟨POS_STAT, 50, 50⟩
/-- POS_STAT.REV (R204). -/
def POS_STAT_REV : Fld := ⟨POS_STAT, 49, 49⟩
/-- POS_STAT.ANG_DOUBT (R204). -/
def POS_STAT_ANG_DOUBT : Fld := ⟨POS_STAT, 48, 48⟩
/-- POS_STAT.EDGE_OLD (R204). -/
def POS_STAT_EDGE_OLD : Fld := ⟨POS_STAT, 47, 47⟩
/-- POS_STAT.XDIFF (R204). -/
def POS_STAT_XDIFF : Fld := ⟨POS_STAT, 31, 16⟩
/-- POS_LAT.COUNT (R205). -/
def POS_LAT_COUNT : Fld := ⟨POS_LAT, 63, 32⟩
/-- POS_LAT.EDGE_FINE (R205). -/
def POS_LAT_EDGE_FINE : Fld := ⟨POS_LAT, 31, 0⟩
/-- POS_TRV.TRAVEL (R205). -/
def POS_TRV_TRAVEL : Fld := ⟨POS_TRV, 63, 32⟩
/-- POS_TRV.EDGES (R205). -/
def POS_TRV_EDGES : Fld := ⟨POS_TRV, 31, 16⟩
/-- POS_SPD.ANGLE (R205). -/
def POS_SPD_ANGLE : Fld := ⟨POS_SPD, 63, 32⟩
/-- POS_SPD.SPEED (R205). -/
def POS_SPD_SPEED : Fld := ⟨POS_SPD, 31, 0⟩
/-- POS_IDX.IDX_COUNT (R205). -/
def POS_IDX_IDX_COUNT : Fld := ⟨POS_IDX, 63, 32⟩
/-- POS_IDX.IDX_ERR (R205). -/
def POS_IDX_IDX_ERR : Fld := ⟨POS_IDX, 31, 16⟩
/-- POS_FLT.SUPPLY_HALF (R206). -/
def POS_FLT_SUPPLY_HALF : Fld := ⟨POS_FLT, 8, 8⟩
/-- POS_FLT.SUPPLY (R206). -/
def POS_FLT_SUPPLY : Fld := ⟨POS_FLT, 7, 7⟩
/-- POS_FLT.LINE (R206). -/
def POS_FLT_LINE : Fld := ⟨POS_FLT, 6, 6⟩
/-- POS_FLT.PROBE_FAIL (R206). -/
def POS_FLT_PROBE_FAIL : Fld := ⟨POS_FLT, 5, 5⟩
/-- POS_FLT.OBS_FAULT (R206). -/
def POS_FLT_OBS_FAULT : Fld := ⟨POS_FLT, 4, 4⟩
/-- POS_FLT.OBS_LOST (R206). -/
def POS_FLT_OBS_LOST : Fld := ⟨POS_FLT, 3, 3⟩
/-- POS_FLT.UVW_FAULT (R206). -/
def POS_FLT_UVW_FAULT : Fld := ⟨POS_FLT, 2, 2⟩
/-- POS_FLT.ENC_FAULT (R206). -/
def POS_FLT_ENC_FAULT : Fld := ⟨POS_FLT, 1, 1⟩
/-- POS_FLT.IDX_MISM (R206). -/
def POS_FLT_IDX_MISM : Fld := ⟨POS_FLT, 0, 0⟩
/-- POS_CNT.SLIP (R207). -/
def POS_CNT_SLIP : Fld := ⟨POS_CNT, 63, 48⟩
/-- POS_CNT.IDX_TRANS (R207). -/
def POS_CNT_IDX_TRANS : Fld := ⟨POS_CNT, 47, 32⟩
/-- POS_CNT.UVW_TRANS (R207). -/
def POS_CNT_UVW_TRANS : Fld := ⟨POS_CNT, 31, 16⟩
/-- POS_CNT.QERR (R207). -/
def POS_CNT_QERR : Fld := ⟨POS_CNT, 15, 8⟩
/-- POS_CNT.LINE_T (R207). -/
def POS_CNT_LINE_T : Fld := ⟨POS_CNT, 7, 0⟩
/-- GCH_CTRL.TEST_EN (R244). -/
def GCH_CTRL_TEST_EN : Fld := ⟨GCH_CTRL, 16, 16⟩
/-- GCH_CTRL.TEST_GAP (R244). -/
def GCH_CTRL_TEST_GAP : Fld := ⟨GCH_CTRL, 15, 8⟩
/-- GCH_LATCH.LATCHED (R246). -/
def GCH_LATCH_LATCHED : Fld := ⟨GCH_LATCH, 47, 0⟩
/-- GCH_FB.FALLBACK (R246). -/
def GCH_FB_FALLBACK : Fld := ⟨GCH_FB, 47, 0⟩
/-- GCH_SUP.LEAF1 (R246). -/
def GCH_SUP_LEAF1 : Fld := ⟨GCH_SUP, 47, 0⟩
/-- GCH_DIVSUM.DIV (R246). -/
def GCH_DIVSUM_DIV : Fld := ⟨GCH_DIVSUM, 47, 0⟩
/-- GCH_BG.SRC (R247). -/
def GCH_BG_SRC : Fld := ⟨GCH_BG, 63, 62⟩
/-- GCH_BG.FLT (R247). -/
def GCH_BG_FLT : Fld := ⟨GCH_BG, 61, 61⟩
/-- GCH_BG.RAIL (R247). -/
def GCH_BG_RAIL : Fld := ⟨GCH_BG, 55, 48⟩
/-- GCH_BG.LOAD (R247). -/
def GCH_BG_LOAD : Fld := ⟨GCH_BG, 47, 40⟩
/-- GCH_BG.CHANGES (R247). -/
def GCH_BG_CHANGES : Fld := ⟨GCH_BG, 39, 32⟩
/-- GCH_CFG.MODE (R248). -/
def GCH_CFG_MODE : Fld := ⟨GCH_CFG, 63, 62⟩
/-- GCH_CFG.VDD2 (R248). -/
def GCH_CFG_VDD2 : Fld := ⟨GCH_CFG, 61, 56⟩
/-- GCH_CFG.VEE2 (R248). -/
def GCH_CFG_VEE2 : Fld := ⟨GCH_CFG, 55, 52⟩
/-- GCH_CFG.DSAT_TH (R248). -/
def GCH_CFG_DSAT_TH : Fld := ⟨GCH_CFG, 51, 44⟩
/-- GCH_CFG.BLANK (R248). -/
def GCH_CFG_BLANK : Fld := ⟨GCH_CFG, 43, 36⟩
/-- GCH_CFG.MILLER (R248). -/
def GCH_CFG_MILLER : Fld := ⟨GCH_CFG, 31, 31⟩
/-- GCH_PROT.WAIT (R249). -/
def GCH_PROT_WAIT : Fld := ⟨GCH_PROT, 63, 56⟩
/-- GCH_PROT.TRIES (R249). -/
def GCH_PROT_TRIES : Fld := ⟨GCH_PROT, 55, 53⟩
/-- GCH_PROT.UV_VDD (R249). -/
def GCH_PROT_UV_VDD : Fld := ⟨GCH_PROT, 47, 40⟩
/-- GCH_PROT.UV_VEE (R249). -/
def GCH_PROT_UV_VEE : Fld := ⟨GCH_PROT, 39, 32⟩
/-- GCH_PROT.OT_LIM (R249). -/
def GCH_PROT_OT_LIM : Fld := ⟨GCH_PROT, 31, 24⟩
/-- GCH_STAT.STATE (R250). -/
def GCH_STAT_STATE : Fld := ⟨GCH_STAT, 63, 60⟩
/-- GCH_STAT.SUPP (R250). -/
def GCH_STAT_SUPP : Fld := ⟨GCH_STAT, 59, 58⟩
/-- GCH_STAT.STRAP (R250). -/
def GCH_STAT_STRAP : Fld := ⟨GCH_STAT, 57, 56⟩
/-- GCH_STAT.GATE (R250). -/
def GCH_STAT_GATE : Fld := ⟨GCH_STAT, 55, 55⟩
/-- GCH_STAT.CLAMP (R250). -/
def GCH_STAT_CLAMP : Fld := ⟨GCH_STAT, 54, 54⟩
/-- GCH_STAT.ASC (R250). -/
def GCH_STAT_ASC : Fld := ⟨GCH_STAT, 53, 53⟩
/-- GCH_STAT.NODUP (R250). -/
def GCH_STAT_NODUP : Fld := ⟨GCH_STAT, 52, 52⟩
/-- GCH_STAT.TEMP (R250). -/
def GCH_STAT_TEMP : Fld := ⟨GCH_STAT, 47, 40⟩
/-- GCH_STAT.VDD2 (R250). -/
def GCH_STAT_VDD2 : Fld := ⟨GCH_STAT, 39, 32⟩
/-- GCH_STAT.VEE2 (R250). -/
def GCH_STAT_VEE2 : Fld := ⟨GCH_STAT, 31, 24⟩
/-- GCH_STAT.TRIES_USED (R250). -/
def GCH_STAT_TRIES_USED : Fld := ⟨GCH_STAT, 23, 21⟩
/-- GCH_STAT.WAIT_LEFT (R250). -/
def GCH_STAT_WAIT_LEFT : Fld := ⟨GCH_STAT, 19, 8⟩
/-- GCH_CNT.LATE (R252). -/
def GCH_CNT_LATE : Fld := ⟨GCH_CNT, 63, 48⟩
/-- GCH_CNT.BAD (R252). -/
def GCH_CNT_BAD : Fld := ⟨GCH_CNT, 47, 32⟩
/-- GCH_CNT.FALLBACKS (R252). -/
def GCH_CNT_FALLBACKS : Fld := ⟨GCH_CNT, 31, 16⟩
/-- GCH_CNT.TRANS (R252). -/
def GCH_CNT_TRANS : Fld := ⟨GCH_CNT, 15, 0⟩
/-- GCH_DIV.DIV_LAST (R253). -/
def GCH_DIV_DIV_LAST : Fld := ⟨GCH_DIV, 63, 52⟩
/-- GCH_DIV.DIV_MAX (R253). -/
def GCH_DIV_DIV_MAX : Fld := ⟨GCH_DIV, 51, 40⟩
/-- GCH_DIV.STRUCT (R253). -/
def GCH_DIV_STRUCT : Fld := ⟨GCH_DIV, 39, 24⟩
/-- GCH_DIV.NODUP_N (R253). -/
def GCH_DIV_NODUP_N : Fld := ⟨GCH_DIV, 23, 8⟩
/-- TRC_CTRL.SP_TIMEOUT (R284). -/
def TRC_CTRL_SP_TIMEOUT : Fld := ⟨TRC_CTRL, 63, 48⟩
/-- TRC_CTRL.XFER (R284). -/
def TRC_CTRL_XFER : Fld := ⟨TRC_CTRL, 47, 47⟩
/-- TRC_CTRL.UVW_TQ (R284). -/
def TRC_CTRL_UVW_TQ : Fld := ⟨TRC_CTRL, 31, 24⟩
/-- TRC_CTRL.PROBE_TQ (R284). -/
def TRC_CTRL_PROBE_TQ : Fld := ⟨TRC_CTRL, 23, 16⟩
/-- TRC_CTRL.DOUBT_TQ (R284). -/
def TRC_CTRL_DOUBT_TQ : Fld := ⟨TRC_CTRL, 15, 8⟩
/-- TRC_CTRL.EXIT_RAMP (R284). -/
def TRC_CTRL_EXIT_RAMP : Fld := ⟨TRC_CTRL, 7, 0⟩
/-- TRC_MACH.ASC_SPD (R285). -/
def TRC_MACH_ASC_SPD : Fld := ⟨TRC_MACH, 63, 48⟩
/-- TRC_MACH.ASC_HYST (R285). -/
def TRC_MACH_ASC_HYST : Fld := ⟨TRC_MACH, 47, 40⟩
/-- TRC_MACH.TQ_MAX (R285). -/
def TRC_MACH_TQ_MAX : Fld := ⟨TRC_MACH, 39, 24⟩
/-- TRC_MACH.TQ_RATE (R285). -/
def TRC_MACH_TQ_RATE : Fld := ⟨TRC_MACH, 23, 12⟩
/-- TRC_MACH.SYNC_TQ (R285). -/
def TRC_MACH_SYNC_TQ : Fld := ⟨TRC_MACH, 11, 0⟩
/-- TRC_MSTAT.TQ_REQ (R286). -/
def TRC_MSTAT_TQ_REQ : Fld := ⟨TRC_MSTAT, 63, 48⟩
/-- TRC_MSTAT.TQ_CEIL (R286). -/
def TRC_MSTAT_TQ_CEIL : Fld := ⟨TRC_MSTAT, 47, 32⟩
/-- TRC_MSTAT.TQ_EST (R286). -/
def TRC_MSTAT_TQ_EST : Fld := ⟨TRC_MSTAT, 31, 16⟩
/-- TRC_MSTAT.CEIL_SRC (R286). -/
def TRC_MSTAT_CEIL_SRC : Fld := ⟨TRC_MSTAT, 15, 12⟩
/-- TRC_MSTAT.ASC_FLAG (R286). -/
def TRC_MSTAT_ASC_FLAG : Fld := ⟨TRC_MSTAT, 11, 11⟩
/-- TRC_MSTAT.SYNC (R286). -/
def TRC_MSTAT_SYNC : Fld := ⟨TRC_MSTAT, 10, 9⟩
/-- TRC_MSTAT.OBS_WIN (R286). -/
def TRC_MSTAT_OBS_WIN : Fld := ⟨TRC_MSTAT, 8, 8⟩
/-- TRC_MSTAT.TAB_ID (R286). -/
def TRC_MSTAT_TAB_ID : Fld := ⟨TRC_MSTAT, 7, 0⟩
/-- TRC_SETCFG.EN (R287). -/
def TRC_SETCFG_EN : Fld := ⟨TRC_SETCFG, 63, 63⟩
/-- TRC_SETCFG.ASC_SIDE (R287). -/
def TRC_SETCFG_ASC_SIDE : Fld := ⟨TRC_SETCFG, 62, 62⟩
/-- TRC_SETCFG.PER (R287). -/
def TRC_SETCFG_PER : Fld := ⟨TRC_SETCFG, 61, 60⟩
/-- TRC_SETCFG.PHASE (R287). -/
def TRC_SETCFG_PHASE : Fld := ⟨TRC_SETCFG, 59, 56⟩
/-- TRC_SETCFG.DEAD (R287). -/
def TRC_SETCFG_DEAD : Fld := ⟨TRC_SETCFG, 55, 47⟩
/-- TRC_SETCFG.DT_IZERO (R287). -/
def TRC_SETCFG_DT_IZERO : Fld := ⟨TRC_SETCFG, 46, 42⟩
/-- TRC_SETCFG.MOD_MAX (R287). -/
def TRC_SETCFG_MOD_MAX : Fld := ⟨TRC_SETCFG, 41, 34⟩
/-- TRC_SETCFG.FW_MARGIN (R287). -/
def TRC_SETCFG_FW_MARGIN : Fld := ⟨TRC_SETCFG, 33, 26⟩
/-- TRC_SETLIM.I_MAX (R288). -/
def TRC_SETLIM_I_MAX : Fld := ⟨TRC_SETLIM, 63, 48⟩
/-- TRC_SETLIM.I_TRIP (R288). -/
def TRC_SETLIM_I_TRIP : Fld := ⟨TRC_SETLIM, 47, 32⟩
/-- TRC_SETLIM.TJ_START (R288). -/
def TRC_SETLIM_TJ_START : Fld := ⟨TRC_SETLIM, 31, 24⟩
/-- TRC_SETLIM.TJ_MAX (R288). -/
def TRC_SETLIM_TJ_MAX : Fld := ⟨TRC_SETLIM, 23, 16⟩
/-- TRC_SETSTAT.STATE (R289). -/
def TRC_SETSTAT_STATE : Fld := ⟨TRC_SETSTAT, 63, 61⟩
/-- TRC_SETSTAT.CAUSE (R289). -/
def TRC_SETSTAT_CAUSE : Fld := ⟨TRC_SETSTAT, 60, 57⟩
/-- TRC_SETSTAT.HELD (R289). -/
def TRC_SETSTAT_HELD : Fld := ⟨TRC_SETSTAT, 56, 56⟩
/-- TRC_SETSTAT.ID (R289). -/
def TRC_SETSTAT_ID : Fld := ⟨TRC_SETSTAT, 47, 32⟩
/-- TRC_SETSTAT.IQ (R289). -/
def TRC_SETSTAT_IQ : Fld := ⟨TRC_SETSTAT, 31, 16⟩
/-- TRC_SETSTAT.MOD (R289). -/
def TRC_SETSTAT_MOD : Fld := ⟨TRC_SETSTAT, 15, 8⟩
/-- TRC_SETSTAT.TJ (R289). -/
def TRC_SETSTAT_TJ : Fld := ⟨TRC_SETSTAT, 7, 0⟩
/-- TRC_SETFLT.THERMAL (R290). -/
def TRC_SETFLT_THERMAL : Fld := ⟨TRC_SETFLT, 12, 12⟩
/-- TRC_SETFLT.OVSPEED (R290). -/
def TRC_SETFLT_OVSPEED : Fld := ⟨TRC_SETFLT, 11, 11⟩
/-- TRC_SETFLT.SP_TIMEOUT (R290). -/
def TRC_SETFLT_SP_TIMEOUT : Fld := ⟨TRC_SETFLT, 10, 10⟩
/-- TRC_SETCNT.LEG_TRANS (R291). -/
def TRC_SETCNT_LEG_TRANS : Fld := ⟨TRC_SETCNT, 63, 48⟩
/-- TRC_SETCNT.OC_TRANS (R291). -/
def TRC_SETCNT_OC_TRANS : Fld := ⟨TRC_SETCNT, 47, 32⟩
/-- TRC_SETCNT.SAFE_ENTRIES (R291). -/
def TRC_SETCNT_SAFE_ENTRIES : Fld := ⟨TRC_SETCNT, 31, 16⟩
/-- TRC_SETCNT.EXITS (R291). -/
def TRC_SETCNT_EXITS : Fld := ⟨TRC_SETCNT, 15, 0⟩
/-- LNK_CTRL.EN (R317). -/
def LNK_CTRL_EN : Fld := ⟨LNK_CTRL, 63, 63⟩
/-- LNK_CTRL.LINK_MAX (R317). -/
def LNK_CTRL_LINK_MAX : Fld := ⟨LNK_CTRL, 53, 44⟩
/-- LNK_CTRL.LINK_SET (R317). -/
def LNK_CTRL_LINK_SET : Fld := ⟨LNK_CTRL, 43, 34⟩
/-- LNK_CTRL.LINK_HEAD (R317). -/
def LNK_CTRL_LINK_HEAD : Fld := ⟨LNK_CTRL, 33, 26⟩
/-- LNK_CTRL.IRAMP (R317). -/
def LNK_CTRL_IRAMP : Fld := ⟨LNK_CTRL, 25, 16⟩
/-- LNK_LIM.IBATT_DIS (R318). -/
def LNK_LIM_IBATT_DIS : Fld := ⟨LNK_LIM, 63, 52⟩
/-- LNK_LIM.IBATT_CHG (R318). -/
def LNK_LIM_IBATT_CHG : Fld := ⟨LNK_LIM, 51, 40⟩
/-- LNK_LIM.ILEG_MAX (R318). -/
def LNK_LIM_ILEG_MAX : Fld := ⟨LNK_LIM, 39, 30⟩
/-- LNK_LIM.BATT_MIN (R318). -/
def LNK_LIM_BATT_MIN : Fld := ⟨LNK_LIM, 29, 20⟩
/-- LNK_LIM.BATT_MAX (R318). -/
def LNK_LIM_BATT_MAX : Fld := ⟨LNK_LIM, 19, 10⟩
/-- LNK_LIM.DEAD_D (R318). -/
def LNK_LIM_DEAD_D : Fld := ⟨LNK_LIM, 8, 0⟩
/-- LNK_OV.OV_CHOP_ON (R319). -/
def LNK_OV_OV_CHOP_ON : Fld := ⟨LNK_OV, 49, 40⟩
/-- LNK_OV.OV_CHOP_OFF (R319). -/
def LNK_OV_OV_CHOP_OFF : Fld := ⟨LNK_OV, 39, 30⟩
/-- LNK_OV.OV_REGEN (R319). -/
def LNK_OV_OV_REGEN : Fld := ⟨LNK_OV, 29, 20⟩
/-- LNK_OV.OV_ASC (R319). -/
def LNK_OV_OV_ASC : Fld := ⟨LNK_OV, 19, 10⟩
/-- LNK_OV.OV_HW (R319). -/
def LNK_OV_OV_HW : Fld := ⟨LNK_OV, 9, 0⟩
/-- LNK_SCALE.FS_LINK (R320). -/
def LNK_SCALE_FS_LINK : Fld := ⟨LNK_SCALE, 63, 52⟩
/-- LNK_SCALE.FS_BATT (R320). -/
def LNK_SCALE_FS_BATT : Fld := ⟨LNK_SCALE, 51, 40⟩
/-- LNK_SCALE.FS_IBATT (R320). -/
def LNK_SCALE_FS_IBATT : Fld := ⟨LNK_SCALE, 39, 28⟩
/-- LNK_SCALE.FS_ILEG (R320). -/
def LNK_SCALE_FS_ILEG : Fld := ⟨LNK_SCALE, 27, 16⟩
/-- LNK_SCALE.FS_ICHOP (R320). -/
def LNK_SCALE_FS_ICHOP : Fld := ⟨LNK_SCALE, 15, 4⟩
/-- LNK_CHOP.EN (R321). -/
def LNK_CHOP_EN : Fld := ⟨LNK_CHOP, 63, 63⟩
/-- LNK_CHOP.DUAL (R321). -/
def LNK_CHOP_DUAL : Fld := ⟨LNK_CHOP, 62, 62⟩
/-- LNK_CHOP.R_BRAKE (R321). -/
def LNK_CHOP_R_BRAKE : Fld := ⟨LNK_CHOP, 47, 32⟩
/-- LNK_CON.CRASH_CAN (R321). -/
def LNK_CON_CRASH_CAN : Fld := ⟨LNK_CON, 63, 63⟩
/-- LNK_CON.CRASH_ID (R321). -/
def LNK_CON_CRASH_ID : Fld := ⟨LNK_CON, 60, 32⟩
/-- LNK_CON.OVERLAP (R321). -/
def LNK_CON_OVERLAP : Fld := ⟨LNK_CON, 15, 0⟩
/-- LNK_AUX.AUX_EN (R322). -/
def LNK_AUX_AUX_EN : Fld := ⟨LNK_AUX, 63, 63⟩
/-- LNK_AUX.AUX_SET (R322). -/
def LNK_AUX_AUX_SET : Fld := ⟨LNK_AUX, 56, 48⟩
/-- LNK_AUX.AUX_IMAX (R322). -/
def LNK_AUX_AUX_IMAX : Fld := ⟨LNK_AUX, 47, 38⟩
/-- LNK_AUX.AUX_OV (R322). -/
def LNK_AUX_AUX_OV : Fld := ⟨LNK_AUX, 37, 29⟩
/-- LNK_AUX.AUX_VLMIN (R322). -/
def LNK_AUX_AUX_VLMIN : Fld := ⟨LNK_AUX, 28, 19⟩
/-- LNK_AUX.DEAD_X (R322). -/
def LNK_AUX_DEAD_X : Fld := ⟨LNK_AUX, 18, 10⟩
/-- LNK_STAT.CONV (R323). -/
def LNK_STAT_CONV : Fld := ⟨LNK_STAT, 63, 61⟩
/-- LNK_STAT.CON (R323). -/
def LNK_STAT_CON : Fld := ⟨LNK_STAT, 60, 58⟩
/-- LNK_STAT.LADDER (R323). -/
def LNK_STAT_LADDER : Fld := ⟨LNK_STAT, 57, 55⟩
/-- LNK_STAT.CHOP_ON (R323). -/
def LNK_STAT_CHOP_ON : Fld := ⟨LNK_STAT, 54, 54⟩
/-- LNK_STAT.MODE (R323). -/
def LNK_STAT_MODE : Fld := ⟨LNK_STAT, 53, 53⟩
/-- LNK_STAT.DEMAND (R323). -/
def LNK_STAT_DEMAND : Fld := ⟨LNK_STAT, 52, 52⟩
/-- LNK_STAT.DISCH (R323). -/
def LNK_STAT_DISCH : Fld := ⟨LNK_STAT, 51, 51⟩
/-- LNK_STAT.AUX_RUN (R323). -/
def LNK_STAT_AUX_RUN : Fld := ⟨LNK_STAT, 50, 50⟩
/-- LNK_STAT.PRE_LOCK (R323). -/
def LNK_STAT_PRE_LOCK : Fld := ⟨LNK_STAT, 49, 49⟩
/-- LNK_STAT.RS (R323). -/
def LNK_STAT_RS : Fld := ⟨LNK_STAT, 47, 40⟩
/-- LNK_STAT.VSET (R323). -/
def LNK_STAT_VSET : Fld := ⟨LNK_STAT, 39, 30⟩
/-- LNK_MEAS.V_LINK (R324). -/
def LNK_MEAS_V_LINK : Fld := ⟨LNK_MEAS, 63, 48⟩
/-- LNK_MEAS.V_BATT (R324). -/
def LNK_MEAS_V_BATT : Fld := ⟨LNK_MEAS, 47, 32⟩
/-- LNK_MEAS.I_BATT (R324). -/
def LNK_MEAS_I_BATT : Fld := ⟨LNK_MEAS, 31, 16⟩
/-- LNK_MEAS.I_CHOP (R324). -/
def LNK_MEAS_I_CHOP : Fld := ⟨LNK_MEAS, 15, 0⟩
/-- LNK_POW.P_MOT (R324). -/
def LNK_POW_P_MOT : Fld := ⟨LNK_POW, 63, 48⟩
/-- LNK_POW.P_REG (R324). -/
def LNK_POW_P_REG : Fld := ⟨LNK_POW, 47, 32⟩
/-- LNK_POW.V_AUX (R324). -/
def LNK_POW_V_AUX : Fld := ⟨LNK_POW, 31, 16⟩
/-- LNK_POW.I_AUX (R324). -/
def LNK_POW_I_AUX : Fld := ⟨LNK_POW, 15, 0⟩
/-- LNK_LEG.STATE (R325). -/
def LNK_LEG_STATE : Fld := ⟨LNK_LEG, 15, 13⟩
/-- LNK_LEG.CURRENT (R325). -/
def LNK_LEG_CURRENT : Fld := ⟨LNK_LEG, 12, 0⟩
/-- LNK_FLT.BATT_WIN (R326). -/
def LNK_FLT_BATT_WIN : Fld := ⟨LNK_FLT, 15, 15⟩
/-- LNK_FLT.AUX_LOST (R326). -/
def LNK_FLT_AUX_LOST : Fld := ⟨LNK_FLT, 14, 14⟩
/-- LNK_FLT.AUX_SHORT (R326). -/
def LNK_FLT_AUX_SHORT : Fld := ⟨LNK_FLT, 13, 13⟩
/-- LNK_FLT.AUX_OV (R326). -/
def LNK_FLT_AUX_OV : Fld := ⟨LNK_FLT, 12, 12⟩
/-- LNK_FLT.DISCH_TIMEOUT (R326). -/
def LNK_FLT_DISCH_TIMEOUT : Fld := ⟨LNK_FLT, 11, 11⟩
/-- LNK_FLT.SENSE (R326). -/
def LNK_FLT_SENSE : Fld := ⟨LNK_FLT, 10, 10⟩
/-- LNK_FLT.SHARE (R326). -/
def LNK_FLT_SHARE : Fld := ⟨LNK_FLT, 9, 9⟩
/-- LNK_FLT.OV_HW (R326). -/
def LNK_FLT_OV_HW : Fld := ⟨LNK_FLT, 8, 8⟩
/-- LNK_FLT.OV_ASC (R326). -/
def LNK_FLT_OV_ASC : Fld := ⟨LNK_FLT, 7, 7⟩
/-- LNK_FLT.OV_REGEN (R326). -/
def LNK_FLT_OV_REGEN : Fld := ⟨LNK_FLT, 6, 6⟩
/-- LNK_FLT.CRASH (R326). -/
def LNK_FLT_CRASH : Fld := ⟨LNK_FLT, 5, 5⟩
/-- LNK_FLT.HVIL (R326). -/
def LNK_FLT_HVIL : Fld := ⟨LNK_FLT, 4, 4⟩
/-- LNK_FLT.OPEN_BLOCKED (R326). -/
def LNK_FLT_OPEN_BLOCKED : Fld := ⟨LNK_FLT, 3, 3⟩
/-- LNK_FLT.PRE_TIMEOUT (R326). -/
def LNK_FLT_PRE_TIMEOUT : Fld := ⟨LNK_FLT, 2, 2⟩
/-- LNK_FLT.CHOP_FAIL (R326). -/
def LNK_FLT_CHOP_FAIL : Fld := ⟨LNK_FLT, 1, 1⟩
/-- LNK_FLT.BATT_LOST (R326). -/
def LNK_FLT_BATT_LOST : Fld := ⟨LNK_FLT, 0, 0⟩
/-- LNK_CNT.LEG_TRANS (R326). -/
def LNK_CNT_LEG_TRANS : Fld := ⟨LNK_CNT, 63, 48⟩
/-- LNK_CNT.CHOP_TRANS (R326). -/
def LNK_CNT_CHOP_TRANS : Fld := ⟨LNK_CNT, 47, 32⟩
/-- LNK_CNT.LADDER (R326). -/
def LNK_CNT_LADDER : Fld := ⟨LNK_CNT, 31, 16⟩
/-- LNK_CNT.AUX_TRANS (R326). -/
def LNK_CNT_AUX_TRANS : Fld := ⟨LNK_CNT, 15, 0⟩
/-- LNK_ASCALE.FS_VAUX (R647). -/
def LNK_ASCALE_FS_VAUX : Fld := ⟨LNK_ASCALE, 63, 52⟩
/-- LNK_ASCALE.FS_IAUX (R647). -/
def LNK_ASCALE_FS_IAUX : Fld := ⟨LNK_ASCALE, 51, 40⟩
/-- CHG_CTRL.EN (R355). -/
def CHG_CTRL_EN : Fld := ⟨CHG_CTRL, 63, 63⟩
/-- CHG_CTRL.ONE_PH (R355). -/
def CHG_CTRL_ONE_PH : Fld := ⟨CHG_CTRL, 62, 62⟩
/-- CHG_CTRL.PFC_PORT (R355). -/
def CHG_CTRL_PFC_PORT : Fld := ⟨CHG_CTRL, 61, 56⟩
/-- CHG_CTRL.MID_PORT (R355). -/
def CHG_CTRL_MID_PORT : Fld := ⟨CHG_CTRL, 55, 50⟩
/-- CHG_CTRL.CHG_IMAX (R355). -/
def CHG_CTRL_CHG_IMAX : Fld := ⟨CHG_CTRL, 49, 40⟩
/-- CHG_CTRL.SAG_LIM (R355). -/
def CHG_CTRL_SAG_LIM : Fld := ⟨CHG_CTRL, 39, 32⟩
/-- CHG_CTRL.TJ_START (R355). -/
def CHG_CTRL_TJ_START : Fld := ⟨CHG_CTRL, 31, 24⟩
/-- CHG_CTRL.TJ_MAX (R355). -/
def CHG_CTRL_TJ_MAX : Fld := ⟨CHG_CTRL, 23, 16⟩
/-- CHG_BATT.I_FAST (R356). -/
def CHG_BATT_I_FAST : Fld := ⟨CHG_BATT, 63, 52⟩
/-- CHG_BATT.V_CV (R356). -/
def CHG_BATT_V_CV : Fld := ⟨CHG_BATT, 51, 38⟩
/-- CHG_BATT.TERM_N (R356). -/
def CHG_BATT_TERM_N : Fld := ⟨CHG_BATT, 37, 33⟩
/-- CHG_BATT.T_SAFE (R356). -/
def CHG_BATT_T_SAFE : Fld := ⟨CHG_BATT, 31, 16⟩
/-- CHG_PWR.V_PFC (R357). -/
def CHG_PWR_V_PFC : Fld := ⟨CHG_PWR, 63, 54⟩
/-- CHG_PWR.LLC_PMIN (R357). -/
def CHG_PWR_LLC_PMIN : Fld := ⟨CHG_PWR, 53, 41⟩
/-- CHG_PWR.LLC_PMAX (R357). -/
def CHG_PWR_LLC_PMAX : Fld := ⟨CHG_PWR, 40, 28⟩
/-- CHG_PWR.DEAD_L (R357). -/
def CHG_PWR_DEAD_L : Fld := ⟨CHG_PWR, 27, 20⟩
/-- CHG_PWR.LLC_IPK (R357). -/
def CHG_PWR_LLC_IPK : Fld := ⟨CHG_PWR, 19, 8⟩
/-- CHG_PWR.DEAD_P (R357). -/
def CHG_PWR_DEAD_P : Fld := ⟨CHG_PWR, 7, 0⟩
/-- CHG_SCALE.FS_IAC (R358). -/
def CHG_SCALE_FS_IAC : Fld := ⟨CHG_SCALE, 63, 54⟩
/-- CHG_SCALE.FS_VAC (R358). -/
def CHG_SCALE_FS_VAC : Fld := ⟨CHG_SCALE, 53, 43⟩
/-- CHG_SCALE.FS_ILLC (R358). -/
def CHG_SCALE_FS_ILLC : Fld := ⟨CHG_SCALE, 42, 33⟩
/-- CHG_SCALE.FS_ICO (R358). -/
def CHG_SCALE_FS_ICO : Fld := ⟨CHG_SCALE, 32, 23⟩
/-- CHG_SCALE.FS_VCO (R358). -/
def CHG_SCALE_FS_VCO : Fld := ⟨CHG_SCALE, 22, 12⟩
/-- CHG_SCALE.FS_VPFC (R358). -/
def CHG_SCALE_FS_VPFC : Fld := ⟨CHG_SCALE, 11, 1⟩
/-- CHG_STAT.STATE (R360). -/
def CHG_STAT_STATE : Fld := ⟨CHG_STAT, 63, 60⟩
/-- CHG_STAT.END (R360). -/
def CHG_STAT_END : Fld := ⟨CHG_STAT, 59, 56⟩
/-- CHG_STAT.PILOT (R360). -/
def CHG_STAT_PILOT : Fld := ⟨CHG_STAT, 55, 53⟩
/-- CHG_STAT.CABLE (R360). -/
def CHG_STAT_CABLE : Fld := ⟨CHG_STAT, 52, 50⟩
/-- CHG_STAT.PHASES (R360). -/
def CHG_STAT_PHASES : Fld := ⟨CHG_STAT, 49, 48⟩
/-- CHG_STAT.S2 (R360). -/
def CHG_STAT_S2 : Fld := ⟨CHG_STAT, 47, 47⟩
/-- CHG_STAT.THERM_LIM (R360). -/
def CHG_STAT_THERM_LIM : Fld := ⟨CHG_STAT, 46, 46⟩
/-- CHG_STAT.INPUT_LIM (R360). -/
def CHG_STAT_INPUT_LIM : Fld := ⟨CHG_STAT, 45, 45⟩
/-- CHG_STAT.HLC (R360). -/
def CHG_STAT_HLC : Fld := ⟨CHG_STAT, 44, 44⟩
/-- CHG_STAT.I_TGT (R360). -/
def CHG_STAT_I_TGT : Fld := ⟨CHG_STAT, 43, 32⟩
/-- CHG_STAT.P_IN (R360). -/
def CHG_STAT_P_IN : Fld := ⟨CHG_STAT, 31, 16⟩
/-- CHG_STAT.P_OUT (R360). -/
def CHG_STAT_P_OUT : Fld := ⟨CHG_STAT, 15, 0⟩
/-- CHG_PILOT.DUTY (R361). -/
def CHG_PILOT_DUTY : Fld := ⟨CHG_PILOT, 63, 52⟩
/-- CHG_PILOT.FREQ (R361). -/
def CHG_PILOT_FREQ : Fld := ⟨CHG_PILOT, 51, 40⟩
/-- CHG_PILOT.V_HIGH (R361). -/
def CHG_PILOT_V_HIGH : Fld := ⟨CHG_PILOT, 39, 32⟩
/-- CHG_PILOT.V_LOW (R361). -/
def CHG_PILOT_V_LOW : Fld := ⟨CHG_PILOT, 31, 24⟩
/-- CHG_PILOT.I_PILOT (R361). -/
def CHG_PILOT_I_PILOT : Fld := ⟨CHG_PILOT, 23, 14⟩
/-- CHG_PILOT.I_HLC (R361). -/
def CHG_PILOT_I_HLC : Fld := ⟨CHG_PILOT, 13, 4⟩
/-- CHG_SEARCH.I_LIM (R362). -/
def CHG_SEARCH_I_LIM : Fld := ⟨CHG_SEARCH, 63, 54⟩
/-- CHG_SEARCH.L (R362). -/
def CHG_SEARCH_L : Fld := ⟨CHG_SEARCH, 53, 44⟩
/-- CHG_SEARCH.SRCH (R362). -/
def CHG_SEARCH_SRCH : Fld := ⟨CHG_SEARCH, 43, 41⟩
/-- CHG_SEARCH.BIND (R362). -/
def CHG_SEARCH_BIND : Fld := ⟨CHG_SEARCH, 40, 38⟩
/-- CHG_SEARCH.V0 (R362). -/
def CHG_SEARCH_V0 : Fld := ⟨CHG_SEARCH, 37, 26⟩
/-- CHG_SEARCH.V_NOW (R362). -/
def CHG_SEARCH_V_NOW : Fld := ⟨CHG_SEARCH, 25, 14⟩
/-- CHG_SEARCH.NEXT (R362). -/
def CHG_SEARCH_NEXT : Fld := ⟨CHG_SEARCH, 13, 0⟩
/-- CHG_TMR.EQUIV (R363). -/
def CHG_TMR_EQUIV : Fld := ⟨CHG_TMR, 63, 40⟩
/-- CHG_TMR.WALL (R363). -/
def CHG_TMR_WALL : Fld := ⟨CHG_TMR, 39, 16⟩
/-- CHG_TMR.RATIO (R363). -/
def CHG_TMR_RATIO : Fld := ⟨CHG_TMR, 15, 8⟩
/-- CHG_TMR.THERM_SEEN (R363). -/
def CHG_TMR_THERM_SEEN : Fld := ⟨CHG_TMR, 7, 7⟩
/-- CHG_TMR.RESTARTED (R363). -/
def CHG_TMR_RESTARTED : Fld := ⟨CHG_TMR, 6, 6⟩
/-- CHG_FLT.SENSE (R364). -/
def CHG_FLT_SENSE : Fld := ⟨CHG_FLT, 16, 16⟩
/-- CHG_FLT.THERMAL (R364). -/
def CHG_FLT_THERMAL : Fld := ⟨CHG_FLT, 15, 15⟩
/-- CHG_FLT.BIAS (R364). -/
def CHG_FLT_BIAS : Fld := ⟨CHG_FLT, 14, 14⟩
/-- CHG_FLT.PAIR (R364). -/
def CHG_FLT_PAIR : Fld := ⟨CHG_FLT, 13, 13⟩
/-- CHG_FLT.LLC_OC (R364). -/
def CHG_FLT_LLC_OC : Fld := ⟨CHG_FLT, 12, 12⟩
/-- CHG_FLT.PFC_OV (R364). -/
def CHG_FLT_PFC_OV : Fld := ⟨CHG_FLT, 11, 11⟩
/-- CHG_FLT.EVSE_TIMEOUT (R364). -/
def CHG_FLT_EVSE_TIMEOUT : Fld := ⟨CHG_FLT, 10, 10⟩
/-- CHG_FLT.SUPPLY_WEAK (R364). -/
def CHG_FLT_SUPPLY_WEAK : Fld := ⟨CHG_FLT, 9, 9⟩
/-- CHG_FLT.AC_LOSS (R364). -/
def CHG_FLT_AC_LOSS : Fld := ⟨CHG_FLT, 8, 8⟩
/-- CHG_FLT.PP_LOST (R364). -/
def CHG_FLT_PP_LOST : Fld := ⟨CHG_FLT, 7, 7⟩
/-- CHG_FLT.PILOT (R364). -/
def CHG_FLT_PILOT : Fld := ⟨CHG_FLT, 6, 6⟩
/-- CHG_FLT.BATT_LOST (R364). -/
def CHG_FLT_BATT_LOST : Fld := ⟨CHG_FLT, 5, 5⟩
/-- CHG_FLT.LOCKED (R364). -/
def CHG_FLT_LOCKED : Fld := ⟨CHG_FLT, 4, 4⟩
/-- CHG_FLT.TMR_THERMAL (R364). -/
def CHG_FLT_TMR_THERMAL : Fld := ⟨CHG_FLT, 3, 3⟩
/-- CHG_FLT.TMR_PLAIN (R364). -/
def CHG_FLT_TMR_PLAIN : Fld := ⟨CHG_FLT, 2, 2⟩
/-- CHG_FLT.DONE (R364). -/
def CHG_FLT_DONE : Fld := ⟨CHG_FLT, 1, 1⟩
/-- CHG_FLT.PLUG (R364). -/
def CHG_FLT_PLUG : Fld := ⟨CHG_FLT, 0, 0⟩
/-- CHG_CNT.SEARCHES (R364). -/
def CHG_CNT_SEARCHES : Fld := ⟨CHG_CNT, 63, 48⟩
/-- CHG_CNT.SAGS (R364). -/
def CHG_CNT_SAGS : Fld := ⟨CHG_CNT, 47, 32⟩
/-- CHG_CNT.TRANS (R364). -/
def CHG_CNT_TRANS : Fld := ⟨CHG_CNT, 31, 16⟩
/-- CHG_CNT.SESSIONS (R364). -/
def CHG_CNT_SESSIONS : Fld := ⟨CHG_CNT, 15, 0⟩
/-- ACT_CTRL.EN (R393). -/
def ACT_CTRL_EN : Fld := ⟨ACT_CTRL, 63, 61⟩
/-- ACT_CTRL.ZC_WIN (R393). -/
def ACT_CTRL_ZC_WIN : Fld := ⟨ACT_CTRL, 55, 48⟩
/-- ACT_CTRL.LOCK_T (R393). -/
def ACT_CTRL_LOCK_T : Fld := ⟨ACT_CTRL, 47, 32⟩
/-- ACT_CTRL.LOCK_WAIT (R393). -/
def ACT_CTRL_LOCK_WAIT : Fld := ⟨ACT_CTRL, 31, 16⟩
/-- ACT_CTRL.END_T (R393). -/
def ACT_CTRL_END_T : Fld := ⟨ACT_CTRL, 7, 0⟩
/-- ACT_CFG.POLE_PAIRS (R394). -/
def ACT_CFG_POLE_PAIRS : Fld := ⟨ACT_CFG, 63, 59⟩
/-- ACT_CFG.ALIGN_I (R394). -/
def ACT_CFG_ALIGN_I : Fld := ⟨ACT_CFG, 53, 49⟩
/-- ACT_CFG.ALIGN_T (R394). -/
def ACT_CFG_ALIGN_T : Fld := ⟨ACT_CFG, 48, 41⟩
/-- ACT_CFG.START_P0 (R394). -/
def ACT_CFG_START_P0 : Fld := ⟨ACT_CFG, 40, 33⟩
/-- ACT_CFG.START_P1 (R394). -/
def ACT_CFG_START_P1 : Fld := ⟨ACT_CFG, 32, 25⟩
/-- ACT_CFG.START_N (R394). -/
def ACT_CFG_START_N : Fld := ⟨ACT_CFG, 24, 21⟩
/-- ACT_CFG.GEAR_D (R394). -/
def ACT_CFG_GEAR_D : Fld := ⟨ACT_CFG, 20, 13⟩
/-- ACT_DRUM.NEUT_POS (R395). -/
def ACT_DRUM_NEUT_POS : Fld := ⟨ACT_DRUM, 63, 52⟩
/-- ACT_DRUM.G2_POS (R395). -/
def ACT_DRUM_G2_POS : Fld := ⟨ACT_DRUM, 51, 40⟩
/-- ACT_DRUM.PNR_OFS (R395). -/
def ACT_DRUM_PNR_OFS : Fld := ⟨ACT_DRUM, 39, 32⟩
/-- ACT_DRUM.GEAR_TOL (R395). -/
def ACT_DRUM_GEAR_TOL : Fld := ⟨ACT_DRUM, 31, 28⟩
/-- ACT_DRUM.STOP_AHEAD (R395). -/
def ACT_DRUM_STOP_AHEAD : Fld := ⟨ACT_DRUM, 27, 20⟩
/-- ACT_DRUM.PARK_TRAVEL (R395). -/
def ACT_DRUM_PARK_TRAVEL : Fld := ⟨ACT_DRUM, 19, 8⟩
/-- ACT_SHIFT.RATIO1 (R395). -/
def ACT_SHIFT_RATIO1 : Fld := ⟨ACT_SHIFT, 63, 52⟩
/-- ACT_SHIFT.RATIO2 (R395). -/
def ACT_SHIFT_RATIO2 : Fld := ⟨ACT_SHIFT, 51, 40⟩
/-- ACT_SHIFT.WHEEL_CIRC (R395). -/
def ACT_SHIFT_WHEEL_CIRC : Fld := ⟨ACT_SHIFT, 39, 26⟩
/-- ACT_SHIFT.PARK_SPD (R395). -/
def ACT_SHIFT_PARK_SPD : Fld := ⟨ACT_SHIFT, 25, 18⟩
/-- ACT_SHIFT.ENG_T (R395). -/
def ACT_SHIFT_ENG_T : Fld := ⟨ACT_SHIFT, 17, 8⟩
/-- ACT_STAT.GEAR (R396). -/
def ACT_STAT_GEAR : Fld := ⟨ACT_STAT, 63, 62⟩
/-- ACT_STAT.SHIFT (R396). -/
def ACT_STAT_SHIFT : Fld := ⟨ACT_STAT, 61, 59⟩
/-- ACT_STAT.PAST_PNR (R396). -/
def ACT_STAT_PAST_PNR : Fld := ⟨ACT_STAT, 58, 58⟩
/-- ACT_STAT.GEAR_DOUBT (R396). -/
def ACT_STAT_GEAR_DOUBT : Fld := ⟨ACT_STAT, 57, 57⟩
/-- ACT_STAT.NEUTRAL_HELD (R396). -/
def ACT_STAT_NEUTRAL_HELD : Fld := ⟨ACT_STAT, 56, 56⟩
/-- ACT_STAT.PARK (R396). -/
def ACT_STAT_PARK : Fld := ⟨ACT_STAT, 55, 54⟩
/-- ACT_STAT.REFERENCED (R396). -/
def ACT_STAT_REFERENCED : Fld := ⟨ACT_STAT, 50, 50⟩
/-- ACT_STAT.DRUM_POS (R396). -/
def ACT_STAT_DRUM_POS : Fld := ⟨ACT_STAT, 31, 16⟩
/-- ACT_STAT.SHIFT_T (R396). -/
def ACT_STAT_SHIFT_T : Fld := ⟨ACT_STAT, 15, 0⟩
/-- ACT_CHSTAT.STATE (R397). -/
def ACT_CHSTAT_STATE : Fld := ⟨ACT_CHSTAT, 63, 61⟩
/-- ACT_CHSTAT.SECTOR (R397). -/
def ACT_CHSTAT_SECTOR : Fld := ⟨ACT_CHSTAT, 60, 58⟩
/-- ACT_CHSTAT.DUTY (R397). -/
def ACT_CHSTAT_DUTY : Fld := ⟨ACT_CHSTAT, 57, 48⟩
/-- ACT_CHSTAT.RATE (R397). -/
def ACT_CHSTAT_RATE : Fld := ⟨ACT_CHSTAT, 47, 32⟩
/-- ACT_CHSTAT.I_MEAN (R397). -/
def ACT_CHSTAT_I_MEAN : Fld := ⟨ACT_CHSTAT, 31, 24⟩
/-- ACT_CHSTAT.TEMP (R397). -/
def ACT_CHSTAT_TEMP : Fld := ⟨ACT_CHSTAT, 23, 16⟩
/-- ACT_CHSTAT.COUNT (R397). -/
def ACT_CHSTAT_COUNT : Fld := ⟨ACT_CHSTAT, 15, 0⟩
/-- ACT_FLT.VIN (R398). -/
def ACT_FLT_VIN : Fld := ⟨ACT_FLT, 11, 11⟩
/-- ACT_FLT.SHIFT_RET (R398). -/
def ACT_FLT_SHIFT_RET : Fld := ⟨ACT_FLT, 10, 10⟩
/-- ACT_FLT.SHIFT_FAIL (R398). -/
def ACT_FLT_SHIFT_FAIL : Fld := ⟨ACT_FLT, 9, 9⟩
/-- ACT_CNT.SHIFTS (R398). -/
def ACT_CNT_SHIFTS : Fld := ⟨ACT_CNT, 63, 48⟩
/-- ACT_CNT.RETURNS (R398). -/
def ACT_CNT_RETURNS : Fld := ⟨ACT_CNT, 47, 32⟩
/-- ACT_CNT.TRANS (R398). -/
def ACT_CNT_TRANS : Fld := ⟨ACT_CNT, 31, 16⟩
/-- ACT_CNT.LATE_COMM (R398). -/
def ACT_CNT_LATE_COMM : Fld := ⟨ACT_CNT, 15, 8⟩
/-- ACT_CNT.REFRESH (R398). -/
def ACT_CNT_REFRESH : Fld := ⟨ACT_CNT, 7, 0⟩
/-- THM_CTRL.FB_MARGIN (R421). -/
def THM_CTRL_FB_MARGIN : Fld := ⟨THM_CTRL, 63, 56⟩
/-- THM_DER.LEG_START (R421). -/
def THM_DER_LEG_START : Fld := ⟨THM_DER, 63, 56⟩
/-- THM_DER.LEG_END (R421). -/
def THM_DER_LEG_END : Fld := ⟨THM_DER, 55, 48⟩
/-- THM_DER.AUX_START (R421). -/
def THM_DER_AUX_START : Fld := ⟨THM_DER, 47, 40⟩
/-- THM_DER.AUX_END (R421). -/
def THM_DER_AUX_END : Fld := ⟨THM_DER, 39, 32⟩
/-- THM_DER.CHOP_MAX (R421). -/
def THM_DER_CHOP_MAX : Fld := ⟨THM_DER, 31, 24⟩
/-- THM_DSAT.DSAT_TC (R421). -/
def THM_DSAT_DSAT_TC : Fld := ⟨THM_DSAT, 7, 0⟩
/-- THM_MAP.NTC (R421). -/
def THM_MAP_NTC : Fld := ⟨THM_MAP, 4, 0⟩
/-- THM_REFTC.TC1 (R421). -/
def THM_REFTC_TC1 : Fld := ⟨THM_REFTC, 63, 48⟩
/-- THM_REFTC.TC2 (R421). -/
def THM_REFTC_TC2 : Fld := ⟨THM_REFTC, 47, 32⟩
/-- THM_STAT.XO_SRC (R421). -/
def THM_STAT_XO_SRC : Fld := ⟨THM_STAT, 63, 57⟩
/-- THM_STAT.HOT_N (R421). -/
def THM_STAT_HOT_N : Fld := ⟨THM_STAT, 56, 50⟩
/-- THM_STAT.BROKEN_N (R421). -/
def THM_STAT_BROKEN_N : Fld := ⟨THM_STAT, 49, 43⟩
/-- THM_STAT.FB (R421). -/
def THM_STAT_FB : Fld := ⟨THM_STAT, 42, 42⟩
/-- THM_STAT.SEEDED (R421). -/
def THM_STAT_SEEDED : Fld := ⟨THM_STAT, 41, 41⟩
/-- THM_STAT.MIRRORED (R421). -/
def THM_STAT_MIRRORED : Fld := ⟨THM_STAT, 40, 40⟩
/-- THM_FLT.FLAGS (R421). -/
def THM_FLT_FLAGS : Fld := ⟨THM_FLT, 10, 0⟩
/-- THM_CNT.TRANS (R421). -/
def THM_CNT_TRANS : Fld := ⟨THM_CNT, 63, 48⟩
/-- THM_CNT.NBR_DEV (R421). -/
def THM_CNT_NBR_DEV : Fld := ⟨THM_CNT, 47, 32⟩
/-- THM_CNT.FB_ENTRIES (R421). -/
def THM_CNT_FB_ENTRIES : Fld := ⟨THM_CNT, 31, 16⟩
/-- THM_CNT.TRIPS (R421). -/
def THM_CNT_TRIPS : Fld := ⟨THM_CNT, 15, 0⟩
/-- THM_CLASS.POLICY (R422). -/
def THM_CLASS_POLICY : Fld := ⟨THM_CLASS, 63, 63⟩
/-- THM_CLASS.ABS_WARN (R422). -/
def THM_CLASS_ABS_WARN : Fld := ⟨THM_CLASS, 55, 48⟩
/-- THM_CLASS.ABS_TRIP (R422). -/
def THM_CLASS_ABS_TRIP : Fld := ⟨THM_CLASS, 47, 40⟩
/-- THM_CLASS.RISE_WARN (R422). -/
def THM_CLASS_RISE_WARN : Fld := ⟨THM_CLASS, 39, 32⟩
/-- THM_CLASS.RISE_TRIP (R422). -/
def THM_CLASS_RISE_TRIP : Fld := ⟨THM_CLASS, 31, 24⟩
/-- THM_MODA.RJC (R422). -/
def THM_MODA_RJC : Fld := ⟨THM_MODA, 63, 48⟩
/-- THM_MODA.RCA (R422). -/
def THM_MODA_RCA : Fld := ⟨THM_MODA, 31, 16⟩
/-- THM_MODA.TAU_J (R422). -/
def THM_MODA_TAU_J : Fld := ⟨THM_MODA, 47, 32⟩
/-- THM_MODA.TAU_C (R422). -/
def THM_MODA_TAU_C : Fld := ⟨THM_MODA, 15, 0⟩
/-- THM_MODB.RON25 (R422). -/
def THM_MODB_RON25 : Fld := ⟨THM_MODB, 63, 48⟩
/-- THM_MODB.ALPHA (R422). -/
def THM_MODB_ALPHA : Fld := ⟨THM_MODB, 47, 40⟩
/-- THM_MODB.ESW (R422). -/
def THM_MODB_ESW : Fld := ⟨THM_MODB, 39, 24⟩
/-- THM_MODB.VREF (R422). -/
def THM_MODB_VREF : Fld := ⟨THM_MODB, 23, 12⟩
/-- THM_NTC.EN (R422). -/
def THM_NTC_EN : Fld := ⟨THM_NTC, 63, 63⟩
/-- THM_NTC.CLASS (R422). -/
def THM_NTC_CLASS : Fld := ⟨THM_NTC, 62, 62⟩
/-- THM_NTC.R25 (R422). -/
def THM_NTC_R25 : Fld := ⟨THM_NTC, 47, 32⟩
/-- THM_NTC.B (R422). -/
def THM_NTC_B : Fld := ⟨THM_NTC, 31, 16⟩
/-- THM_TEMP.SAMPLE (R422). -/
def THM_TEMP_SAMPLE : Fld := ⟨THM_TEMP, 63, 48⟩
/-- THM_TEMP.USED (R422). -/
def THM_TEMP_USED : Fld := ⟨THM_TEMP, 47, 32⟩
/-- THM_TEMP.STATE (R422). -/
def THM_TEMP_STATE : Fld := ⟨THM_TEMP, 31, 29⟩
/-- THM_TEMP.ARMED (R422). -/
def THM_TEMP_ARMED : Fld := ⟨THM_TEMP, 28, 28⟩
/-- THM_TEMP.SAMPLES (R422). -/
def THM_TEMP_SAMPLES : Fld := ⟨THM_TEMP, 27, 16⟩
/-- THM_TJ.TJ (R422). -/
def THM_TJ_TJ : Fld := ⟨THM_TJ, 7, 0⟩
/-- TIE_CTRL.FOLLOW_SKEW (R451). -/
def TIE_CTRL_FOLLOW_SKEW : Fld := ⟨TIE_CTRL, 63, 54⟩
/-- TIE_CTRL.LEAD0 (R451). -/
def TIE_CTRL_LEAD0 : Fld := ⟨TIE_CTRL, 17, 17⟩
/-- TIE_STAT.STATE (R453). -/
def TIE_STAT_STATE : Fld := ⟨TIE_STAT, 63, 61⟩
/-- TIE_STAT.PARTNER (R453). -/
def TIE_STAT_PARTNER : Fld := ⟨TIE_STAT, 60, 58⟩
/-- TIE_STAT.UNJOINED (R453). -/
def TIE_STAT_UNJOINED : Fld := ⟨TIE_STAT, 53, 49⟩
/-- TIE_STAT.ISOLATED (R453). -/
def TIE_STAT_ISOLATED : Fld := ⟨TIE_STAT, 48, 48⟩
/-- TIE_STAT.SINCE (R453). -/
def TIE_STAT_SINCE : Fld := ⟨TIE_STAT, 47, 0⟩
/-- TIE_FLT.TAKEOVER (R455). -/
def TIE_FLT_TAKEOVER : Fld := ⟨TIE_FLT, 10, 10⟩
/-- TIE_FLT.PARTNER_OUT (R455). -/
def TIE_FLT_PARTNER_OUT : Fld := ⟨TIE_FLT, 9, 9⟩
/-- TIE_FLT.RESTART_FAIL (R455). -/
def TIE_FLT_RESTART_FAIL : Fld := ⟨TIE_FLT, 8, 8⟩
/-- TIE_FLT.HOST_LINK (R455). -/
def TIE_FLT_HOST_LINK : Fld := ⟨TIE_FLT, 7, 7⟩
/-- TIE_FLT.ROLE_CONFLICT (R455). -/
def TIE_FLT_ROLE_CONFLICT : Fld := ⟨TIE_FLT, 6, 6⟩
/-- TIE_FLT.TIE_LOST (R455). -/
def TIE_FLT_TIE_LOST : Fld := ⟨TIE_FLT, 2, 2⟩
/-- TIE_CNT.TAKEOVERS (R455). -/
def TIE_CNT_TAKEOVERS : Fld := ⟨TIE_CNT, 63, 48⟩
/-- TIE_CNT.RESTARTS (R455). -/
def TIE_CNT_RESTARTS : Fld := ⟨TIE_CNT, 47, 32⟩
/-- CAN_STAT.ESTATE (R529). -/
def CAN_STAT_ESTATE : Fld := ⟨CAN_STAT, 63, 62⟩
/-- CAN_STAT.VOICE_HELD (R529). -/
def CAN_STAT_VOICE_HELD : Fld := ⟨CAN_STAT, 61, 61⟩
/-- CAN_STAT.VOICE_LEAF (R529). -/
def CAN_STAT_VOICE_LEAF : Fld := ⟨CAN_STAT, 60, 60⟩
/-- CAN_STAT.TXB (R529). -/
def CAN_STAT_TXB : Fld := ⟨CAN_STAT, 59, 57⟩
/-- CAN_STAT.RXQ0 (R529). -/
def CAN_STAT_RXQ0 : Fld := ⟨CAN_STAT, 56, 52⟩
/-- CAN_STAT.RXQ1 (R529). -/
def CAN_STAT_RXQ1 : Fld := ⟨CAN_STAT, 51, 47⟩
/-- CAN_STAT.TEC (R529). -/
def CAN_STAT_TEC : Fld := ⟨CAN_STAT, 46, 38⟩
/-- CAN_STAT.REC (R529). -/
def CAN_STAT_REC : Fld := ⟨CAN_STAT, 37, 30⟩
/-- CAN_STAT.HOLD (R529). -/
def CAN_STAT_HOLD : Fld := ⟨CAN_STAT, 29, 26⟩
/-- CAN_FLT.FLAGS (R529). -/
def CAN_FLT_FLAGS : Fld := ⟨CAN_FLT, 6, 0⟩
/-- CAN_CNT.RX_FRAMES (R529). -/
def CAN_CNT_RX_FRAMES : Fld := ⟨CAN_CNT, 63, 48⟩
/-- CAN_CNT.TX_FRAMES (R529). -/
def CAN_CNT_TX_FRAMES : Fld := ⟨CAN_CNT, 47, 32⟩
/-- CAN_CNT.ERRORS (R529). -/
def CAN_CNT_ERRORS : Fld := ⟨CAN_CNT, 31, 16⟩
/-- CAN_CNT.RX_DROP (R529). -/
def CAN_CNT_RX_DROP : Fld := ⟨CAN_CNT, 15, 8⟩
/-- CAN_CNT.BO_TRANS (R529). -/
def CAN_CNT_BO_TRANS : Fld := ⟨CAN_CNT, 7, 0⟩
/-- CAN_MATCH.EN (R529). -/
def CAN_MATCH_EN : Fld := ⟨CAN_MATCH, 63, 63⟩
/-- CAN_MATCH.DEST (R529). -/
def CAN_MATCH_DEST : Fld := ⟨CAN_MATCH, 62, 62⟩
/-- CAN_MATCH.IDE (R529). -/
def CAN_MATCH_IDE : Fld := ⟨CAN_MATCH, 61, 61⟩
/-- CAN_MATCH.RTR (R529). -/
def CAN_MATCH_RTR : Fld := ⟨CAN_MATCH, 60, 60⟩
/-- CAN_MATCH.FMT (R529). -/
def CAN_MATCH_FMT : Fld := ⟨CAN_MATCH, 59, 58⟩
/-- CAN_MATCH.ID (R529). -/
def CAN_MATCH_ID : Fld := ⟨CAN_MATCH, 57, 29⟩
/-- CAN_MATCH.MASK (R529). -/
def CAN_MATCH_MASK : Fld := ⟨CAN_MATCH, 28, 0⟩
/-- NET_CTRL.AGE (R531). -/
def NET_CTRL_AGE : Fld := ⟨NET_CTRL, 63, 48⟩
/-- NET_CTRL.LEARN (R531). -/
def NET_CTRL_LEARN : Fld := ⟨NET_CTRL, 47, 47⟩
/-- NET_CTRL.HIST (R531). -/
def NET_CTRL_HIST : Fld := ⟨NET_CTRL, 38, 33⟩
/-- NET_CTRL.RESET (R531). -/
def NET_CTRL_RESET : Fld := ⟨NET_CTRL, 32, 21⟩
/-- NET_MACH.MAC (R531). -/
def NET_MACH_MAC : Fld := ⟨NET_MACH, 47, 0⟩
/-- NET_MACA.MAC (R531). -/
def NET_MACA_MAC : Fld := ⟨NET_MACA, 47, 0⟩
/-- NET_STAT.PTP_E0 (R531). -/
def NET_STAT_PTP_E0 : Fld := ⟨NET_STAT, 63, 62⟩
/-- NET_STAT.PTP_E1 (R531). -/
def NET_STAT_PTP_E1 : Fld := ⟨NET_STAT, 61, 60⟩
/-- NET_STAT.SYNC (R531). -/
def NET_STAT_SYNC : Fld := ⟨NET_STAT, 59, 59⟩
/-- NET_STAT.FDB_USED (R531). -/
def NET_STAT_FDB_USED : Fld := ⟨NET_STAT, 47, 37⟩
/-- NET_FLT.FLAGS (R531). -/
def NET_FLT_FLAGS : Fld := ⟨NET_FLT, 5, 0⟩
/-- NET_CNT.RX_OR8 (R531). -/
def NET_CNT_RX_OR8 : Fld := ⟨NET_CNT, 63, 48⟩
/-- NET_CNT.TX_IR8 (R531). -/
def NET_CNT_TX_IR8 : Fld := ⟨NET_CNT, 47, 32⟩
/-- NET_CNT.DROPS (R531). -/
def NET_CNT_DROPS : Fld := ⟨NET_CNT, 31, 16⟩
/-- NET_CNT.FCS_ERR (R531). -/
def NET_CNT_FCS_ERR : Fld := ⟨NET_CNT, 15, 0⟩
/-- NET_PORT.EN (R531). -/
def NET_PORT_EN : Fld := ⟨NET_PORT, 63, 63⟩
/-- NET_PORT.DEF_PRI (R531). -/
def NET_PORT_DEF_PRI : Fld := ⟨NET_PORT, 61, 59⟩
/-- NET_PORT.PVID (R531). -/
def NET_PORT_PVID : Fld := ⟨NET_PORT, 58, 47⟩
/-- NET_PORT.ING_FILT (R531). -/
def NET_PORT_ING_FILT : Fld := ⟨NET_PORT, 46, 46⟩
/-- NET_PORT.LINK (R531). -/
def NET_PORT_LINK : Fld := ⟨NET_PORT, 45, 45⟩
/-- NET_PORT.PTP_EN (R531). -/
def NET_PORT_PTP_EN : Fld := ⟨NET_PORT, 28, 28⟩
/-- NET_PTPC.SYNC (R531). -/
def NET_PTPC_SYNC : Fld := ⟨NET_PTPC, 63, 63⟩
/-- NET_PTPC.GM_CHANGE (R531). -/
def NET_PTPC_GM_CHANGE : Fld := ⟨NET_PTPC, 62, 62⟩
/-- NET_PTPC.COURSE (R531). -/
def NET_PTPC_COURSE : Fld := ⟨NET_PTPC, 47, 0⟩
/-- NET_PTPS.SEC (R531). -/
def NET_PTPS_SEC : Fld := ⟨NET_PTPS, 47, 0⟩
/-- NET_PTPN.RATIO (R531). -/
def NET_PTPN_RATIO : Fld := ⟨NET_PTPN, 63, 32⟩
/-- NET_PTPN.NS (R531). -/
def NET_PTPN_NS : Fld := ⟨NET_PTPN, 29, 0⟩
/-- NET_MCAST.VALID (R531). -/
def NET_MCAST_VALID : Fld := ⟨NET_MCAST, 63, 63⟩
/-- NET_MCAST.MAC (R531). -/
def NET_MCAST_MAC : Fld := ⟨NET_MCAST, 47, 0⟩
/-- NET_VLAN.VALID (R531). -/
def NET_VLAN_VALID : Fld := ⟨NET_VLAN, 63, 63⟩
/-- NET_VLAN.VID (R531). -/
def NET_VLAN_VID : Fld := ⟨NET_VLAN, 62, 51⟩
/-- NET_VLAN.MEMBER (R531). -/
def NET_VLAN_MEMBER : Fld := ⟨NET_VLAN, 50, 48⟩
/-- NET_VLAN.UNTAG (R531). -/
def NET_VLAN_UNTAG : Fld := ⟨NET_VLAN, 47, 45⟩
/-- NET_STRM.EN (R531). -/
def NET_STRM_EN : Fld := ⟨NET_STRM, 63, 63⟩
/-- NET_STRM.ID_TYPE (R531). -/
def NET_STRM_ID_TYPE : Fld := ⟨NET_STRM, 62, 62⟩
/-- NET_STRM.VID (R531). -/
def NET_STRM_VID : Fld := ⟨NET_STRM, 61, 50⟩
/-- NET_STRM.MAC (R531). -/
def NET_STRM_MAC : Fld := ⟨NET_STRM, 47, 0⟩
/-- NET_SCNT.PASSED (R531). -/
def NET_SCNT_PASSED : Fld := ⟨NET_SCNT, 63, 48⟩
/-- NET_SCNT.DISCARDED (R531). -/
def NET_SCNT_DISCARDED : Fld := ⟨NET_SCNT, 47, 32⟩
/-- NET_SCNT.OUT_OF_ORDER (R531). -/
def NET_SCNT_OUT_OF_ORDER : Fld := ⟨NET_SCNT, 31, 16⟩
/-- NET_SCNT.ROGUE (R531). -/
def NET_SCNT_ROGUE : Fld := ⟨NET_SCNT, 15, 8⟩
/-- NET_SCNT.RESETS (R531). -/
def NET_SCNT_RESETS : Fld := ⟨NET_SCNT, 7, 0⟩
/-- LDG_CTRL.NET_EN (R562). -/
def LDG_CTRL_NET_EN : Fld := ⟨LDG_CTRL, 63, 63⟩
/-- LDG_CTRL.NET_PORT (R562). -/
def LDG_CTRL_NET_PORT : Fld := ⟨LDG_CTRL, 47, 32⟩
/-- LDG_CTRL.XCHK_PCT (R562). -/
def LDG_CTRL_XCHK_PCT : Fld := ⟨LDG_CTRL, 31, 24⟩
/-- LDG_CAL.GAIN_V (R562). -/
def LDG_CAL_GAIN_V : Fld := ⟨LDG_CAL, 63, 48⟩
/-- LDG_CAL.GAIN_I (R562). -/
def LDG_CAL_GAIN_I : Fld := ⟨LDG_CAL, 47, 32⟩
/-- LDG_CAL.OFS_I (R562). -/
def LDG_CAL_OFS_I : Fld := ⟨LDG_CAL, 31, 16⟩
/-- LDG_PACK.PACK_ID (R562). -/
def LDG_PACK_PACK_ID : Fld := ⟨LDG_PACK, 63, 0⟩
/-- LDG_STAT.FREE (R562). -/
def LDG_STAT_FREE : Fld := ⟨LDG_STAT, 63, 48⟩
/-- LDG_STAT.ARCH_LAG (R562). -/
def LDG_STAT_ARCH_LAG : Fld := ⟨LDG_STAT, 47, 32⟩
/-- LDG_STAT.SIGN_PENDING (R562). -/
def LDG_STAT_SIGN_PENDING : Fld := ⟨LDG_STAT, 31, 24⟩
/-- LDG_STAT.TEST_KEY (R562). -/
def LDG_STAT_TEST_KEY : Fld := ⟨LDG_STAT, 23, 23⟩
/-- LDG_STAT.WRITER (R562). -/
def LDG_STAT_WRITER : Fld := ⟨LDG_STAT, 22, 22⟩
/-- LDG_HEAD.RECNO (R562). -/
def LDG_HEAD_RECNO : Fld := ⟨LDG_HEAD, 63, 0⟩
/-- LDG_CAPST.RECNO (R562). -/
def LDG_CAPST_RECNO : Fld := ⟨LDG_CAPST, 63, 0⟩
/-- LDG_SESS.SESSION (R562). -/
def LDG_SESS_SESSION : Fld := ⟨LDG_SESS, 63, 32⟩
/-- LDG_SESS.KIND (R562). -/
def LDG_SESS_KIND : Fld := ⟨LDG_SESS, 31, 30⟩
/-- LDG_E.COUNT (R562). -/
def LDG_E_COUNT : Fld := ⟨LDG_E, 63, 0⟩
/-- LDG_FLT.FLAGS (R562). -/
def LDG_FLT_FLAGS : Fld := ⟨LDG_FLT, 8, 0⟩
/-- LDG_CNT.RECORDS (R562). -/
def LDG_CNT_RECORDS : Fld := ⟨LDG_CNT, 63, 32⟩
/-- LDG_CNT.XCHK (R562). -/
def LDG_CNT_XCHK : Fld := ⟨LDG_CNT, 31, 16⟩
/-- LDG_CNT.SIG_RETRY (R562). -/
def LDG_CNT_SIG_RETRY : Fld := ⟨LDG_CNT, 15, 0⟩
/-- HIS_CTRL.CAP_AH (R563). -/
def HIS_CTRL_CAP_AH : Fld := ⟨HIS_CTRL, 63, 52⟩
/-- HIS_CTRL.CELLS (R563). -/
def HIS_CTRL_CELLS : Fld := ⟨HIS_CTRL, 51, 42⟩
/-- HIS_CTRL.RSTEP (R563). -/
def HIS_CTRL_RSTEP : Fld := ⟨HIS_CTRL, 41, 32⟩
/-- HIS_CTRL.MAP_TO (R563). -/
def HIS_CTRL_MAP_TO : Fld := ⟨HIS_CTRL, 31, 24⟩
/-- HIS_STAT.SEEDED (R563). -/
def HIS_STAT_SEEDED : Fld := ⟨HIS_STAT, 63, 63⟩
/-- HIS_STAT.STALE (R563). -/
def HIS_STAT_STALE : Fld := ⟨HIS_STAT, 62, 62⟩
/-- HIS_STAT.DAYS (R563). -/
def HIS_STAT_DAYS : Fld := ⟨HIS_STAT, 61, 48⟩
/-- HIS_STAT.EFC (R563). -/
def HIS_STAT_EFC : Fld := ⟨HIS_STAT, 47, 32⟩
/-- HIS_STAT.HOURS (R563). -/
def HIS_STAT_HOURS : Fld := ⟨HIS_STAT, 31, 0⟩
/-- HIS_CUM.AH_OUT (R563). -/
def HIS_CUM_AH_OUT : Fld := ⟨HIS_CUM, 63, 32⟩
/-- HIS_CUM.AH_IN (R563). -/
def HIS_CUM_AH_IN : Fld := ⟨HIS_CUM, 31, 0⟩
/-- HIS_FLT.FLAGS (R563). -/
def HIS_FLT_FLAGS : Fld := ⟨HIS_FLT, 4, 0⟩
/-- HIS_CNT.R_EST (R563). -/
def HIS_CNT_R_EST : Fld := ⟨HIS_CNT, 63, 48⟩
/-- HIS_CNT.R_OVER (R563). -/
def HIS_CNT_R_OVER : Fld := ⟨HIS_CNT, 47, 32⟩
/-- HIS_CNT.STALE_EVENTS (R563). -/
def HIS_CNT_STALE_EVENTS : Fld := ⟨HIS_CNT, 31, 16⟩
/-- HIS_CNT.MAP_FRAMES (R563). -/
def HIS_CNT_MAP_FRAMES : Fld := ⟨HIS_CNT, 15, 0⟩
/-- UPD_CTRL.MIX_WARN (R587). -/
def UPD_CTRL_MIX_WARN : Fld := ⟨UPD_CTRL, 63, 48⟩
/-- UPD_SLOT.ACTIVE (R587). -/
def UPD_SLOT_ACTIVE : Fld := ⟨UPD_SLOT, 63, 63⟩
/-- UPD_SLOT.TRIAL (R587). -/
def UPD_SLOT_TRIAL : Fld := ⟨UPD_SLOT, 62, 62⟩
/-- UPD_SLOT.PENDING (R587). -/
def UPD_SLOT_PENDING : Fld := ⟨UPD_SLOT, 61, 61⟩
/-- UPD_SLOT.VALID_A (R587). -/
def UPD_SLOT_VALID_A : Fld := ⟨UPD_SLOT, 60, 60⟩
/-- UPD_SLOT.VALID_B (R587). -/
def UPD_SLOT_VALID_B : Fld := ⟨UPD_SLOT, 59, 59⟩
/-- UPD_SLOT.MIXED (R587). -/
def UPD_SLOT_MIXED : Fld := ⟨UPD_SLOT, 58, 58⟩
/-- UPD_SLOT.MIRROR (R587). -/
def UPD_SLOT_MIRROR : Fld := ⟨UPD_SLOT, 55, 48⟩
/-- UPD_SLOT.SET_FMT (R587). -/
def UPD_SLOT_SET_FMT : Fld := ⟨UPD_SLOT, 47, 32⟩
/-- UPD_VERA.SECVER (R587). -/
def UPD_VERA_SECVER : Fld := ⟨UPD_VERA, 63, 32⟩
/-- UPD_VERA.FEATVER (R587). -/
def UPD_VERA_FEATVER : Fld := ⟨UPD_VERA, 31, 0⟩
/-- UPD_VERB.SECVER (R587). -/
def UPD_VERB_SECVER : Fld := ⟨UPD_VERB, 63, 32⟩
/-- UPD_VERB.FEATVER (R587). -/
def UPD_VERB_FEATVER : Fld := ⟨UPD_VERB, 31, 0⟩
/-- UPD_FLOOR.FLOOR_P (R587). -/
def UPD_FLOOR_FLOOR_P : Fld := ⟨UPD_FLOOR, 63, 32⟩
/-- UPD_FLOOR.FLOOR_S (R587). -/
def UPD_FLOOR_FLOOR_S : Fld := ⟨UPD_FLOOR, 31, 0⟩
/-- UPD_SET.GEN (R587). -/
def UPD_SET_GEN : Fld := ⟨UPD_SET, 63, 32⟩
/-- UPD_SET.FMT (R587). -/
def UPD_SET_FMT : Fld := ⟨UPD_SET, 31, 24⟩
/-- UPD_SET.UNCONF (R587). -/
def UPD_SET_UNCONF : Fld := ⟨UPD_SET, 23, 23⟩
/-- UPD_SET.SOURCE (R587). -/
def UPD_SET_SOURCE : Fld := ⟨UPD_SET, 22, 22⟩
/-- UPD_SET.IMPORT (R587). -/
def UPD_SET_IMPORT : Fld := ⟨UPD_SET, 21, 21⟩
/-- UPD_SET.STAGED (R587). -/
def UPD_SET_STAGED : Fld := ⟨UPD_SET, 20, 20⟩
/-- UPD_STRM.STATE (R587). -/
def UPD_STRM_STATE : Fld := ⟨UPD_STRM, 63, 61⟩
/-- UPD_STRM.KIND (R587). -/
def UPD_STRM_KIND : Fld := ⟨UPD_STRM, 60, 59⟩
/-- UPD_STRM.DETAIL (R587). -/
def UPD_STRM_DETAIL : Fld := ⟨UPD_STRM, 58, 49⟩
/-- UPD_STRM.BYTES (R587). -/
def UPD_STRM_BYTES : Fld := ⟨UPD_STRM, 48, 0⟩
/-- UPD_MIX.SECONDS (R587). -/
def UPD_MIX_SECONDS : Fld := ⟨UPD_MIX, 63, 48⟩
/-- UPD_MIX.SINCE (R587). -/
def UPD_MIX_SINCE : Fld := ⟨UPD_MIX, 47, 0⟩
/-- UPD_FLT.FLAGS (R587). -/
def UPD_FLT_FLAGS : Fld := ⟨UPD_FLT, 6, 0⟩
/-- UPD_CNT.STREAMS (R587). -/
def UPD_CNT_STREAMS : Fld := ⟨UPD_CNT, 63, 48⟩
/-- UPD_CNT.ACTIVATIONS (R587). -/
def UPD_CNT_ACTIVATIONS : Fld := ⟨UPD_CNT, 47, 32⟩
/-- UPD_CNT.REVERTS (R587). -/
def UPD_CNT_REVERTS : Fld := ⟨UPD_CNT, 31, 16⟩
/-- UPD_CNT.MIX_DIV (R587). -/
def UPD_CNT_MIX_DIV : Fld := ⟨UPD_CNT, 15, 0⟩
/-- BST_CTRL.MEM_GAP (R616). -/
def BST_CTRL_MEM_GAP : Fld := ⟨BST_CTRL, 63, 52⟩
/-- BST_STAT.PASS (R616). -/
def BST_STAT_PASS : Fld := ⟨BST_STAT, 63, 63⟩
/-- BST_STAT.BUSY (R616). -/
def BST_STAT_BUSY : Fld := ⟨BST_STAT, 62, 62⟩
/-- BST_STAT.UNIT (R616). -/
def BST_STAT_UNIT : Fld := ⟨BST_STAT, 61, 58⟩
/-- BST_STAT.COURSE (R616). -/
def BST_STAT_COURSE : Fld := ⟨BST_STAT, 47, 0⟩
/-- BST_MEM.SEG (R616). -/
def BST_MEM_SEG : Fld := ⟨BST_MEM, 63, 54⟩
/-- BST_MEM.SPARES_USED (R616). -/
def BST_MEM_SPARES_USED : Fld := ⟨BST_MEM, 53, 48⟩
/-- BST_MEM.SWEEP_END (R616). -/
def BST_MEM_SWEEP_END : Fld := ⟨BST_MEM, 47, 0⟩
/-- BST_SCRUB.SRAM_CE (R616). -/
def BST_SCRUB_SRAM_CE : Fld := ⟨BST_SCRUB, 63, 48⟩
/-- BST_SCRUB.DRAM_CE (R616). -/
def BST_SCRUB_DRAM_CE : Fld := ⟨BST_SCRUB, 47, 32⟩
/-- BST_SCRUB.DRAM_PROG (R616). -/
def BST_SCRUB_DRAM_PROG : Fld := ⟨BST_SCRUB, 31, 24⟩
/-- BST_FLT.FLAGS (R616). -/
def BST_FLT_FLAGS : Fld := ⟨BST_FLT, 4, 0⟩
/-- BST_CNT.TRANS (R616). -/
def BST_CNT_TRANS : Fld := ⟨BST_CNT, 63, 48⟩
/-- BST_CNT.MEM_STEPS (R616). -/
def BST_CNT_MEM_STEPS : Fld := ⟨BST_CNT, 47, 32⟩
/-- BST_CNT.FULL (R616). -/
def BST_CNT_FULL : Fld := ⟨BST_CNT, 31, 16⟩
/-- BST_DADDR.SPACE (R616). -/
def BST_DADDR_SPACE : Fld := ⟨BST_DADDR, 63, 60⟩
/-- BST_DADDR.ENGINE (R616). -/
def BST_DADDR_ENGINE : Fld := ⟨BST_DADDR, 59, 55⟩
/-- BST_DADDR.ADDR (R616). -/
def BST_DADDR_ADDR : Fld := ⟨BST_DADDR, 39, 0⟩
/-- BST_DCHK.CHECK (R616). -/
def BST_DCHK_CHECK : Fld := ⟨BST_DCHK, 7, 0⟩
/-- SEC_CTRL.IDLE_T (R616). -/
def SEC_CTRL_IDLE_T : Fld := ⟨SEC_CTRL, 63, 48⟩
/-- SEC_STAT.SESSION (R616). -/
def SEC_STAT_SESSION : Fld := ⟨SEC_STAT, 63, 61⟩
/-- SEC_STAT.RIGHTS (R616). -/
def SEC_STAT_RIGHTS : Fld := ⟨SEC_STAT, 60, 55⟩
/-- SEC_STAT.DEBUG_OPEN (R616). -/
def SEC_STAT_DEBUG_OPEN : Fld := ⟨SEC_STAT, 54, 54⟩
/-- SEC_STAT.PROD_LOCK (R616). -/
def SEC_STAT_PROD_LOCK : Fld := ⟨SEC_STAT, 53, 53⟩
/-- SEC_STAT.IKEY (R616). -/
def SEC_STAT_IKEY : Fld := ⟨SEC_STAT, 52, 52⟩
/-- SEC_STAT.LOCKOUT (R616). -/
def SEC_STAT_LOCKOUT : Fld := ⟨SEC_STAT, 51, 51⟩
/-- SEC_STAT.DBG_USED (R616). -/
def SEC_STAT_DBG_USED : Fld := ⟨SEC_STAT, 50, 50⟩
/-- SEC_STAT.SINCE (R616). -/
def SEC_STAT_SINCE : Fld := ⟨SEC_STAT, 47, 0⟩
/-- SEC_FLT.FLAGS (R616). -/
def SEC_FLT_FLAGS : Fld := ⟨SEC_FLT, 2, 0⟩
/-- SEC_CNT.SESSIONS (R616). -/
def SEC_CNT_SESSIONS : Fld := ⟨SEC_CNT, 63, 48⟩
/-- SEC_CNT.FAILS (R616). -/
def SEC_CNT_FAILS : Fld := ⟨SEC_CNT, 47, 32⟩
/-- MBX_STAT.STATE (R503). -/
def MBX_STAT_STATE : Fld := ⟨MBX_STAT, 63, 62⟩
/-- MBX_STAT.SENDER (R503). -/
def MBX_STAT_SENDER : Fld := ⟨MBX_STAT, 61, 59⟩
/-- MBX_STAT.LEN (R503). -/
def MBX_STAT_LEN : Fld := ⟨MBX_STAT, 58, 54⟩
/-- MBX_STAT.COURSE (R503). -/
def MBX_STAT_COURSE : Fld := ⟨MBX_STAT, 47, 0⟩
/-- MBX_ACK.VALID (R503). -/
def MBX_ACK_VALID : Fld := ⟨MBX_ACK, 63, 63⟩
/-- MBX_ACK.RLEN (R503). -/
def MBX_ACK_RLEN : Fld := ⟨MBX_ACK, 20, 16⟩
/-- MBX_ACK.CODE (R503). -/
def MBX_ACK_CODE : Fld := ⟨MBX_ACK, 15, 0⟩
/-- MBX_BIND.TMO (R503). -/
def MBX_BIND_TMO : Fld := ⟨MBX_BIND, 15, 8⟩
/-- MBX_BIND.ID_B (R503). -/
def MBX_BIND_ID_B : Fld := ⟨MBX_BIND, 5, 3⟩
/-- MBX_BIND.ID_A (R503). -/
def MBX_BIND_ID_A : Fld := ⟨MBX_BIND, 2, 0⟩
/-- MBX_CNT.UNBOUND (R503). -/
def MBX_CNT_UNBOUND : Fld := ⟨MBX_CNT, 63, 48⟩
/-- MBX_CNT.COLLIDE (R503). -/
def MBX_CNT_COLLIDE : Fld := ⟨MBX_CNT, 47, 32⟩
/-- MBX_CNT.LAPSED (R503). -/
def MBX_CNT_LAPSED : Fld := ⟨MBX_CNT, 31, 16⟩
/-- MBX_CNT.TIMEOUTS (R503). -/
def MBX_CNT_TIMEOUTS : Fld := ⟨MBX_CNT, 15, 0⟩
/-- MBX_TBL.LOCKED (R504). -/
def MBX_TBL_LOCKED : Fld := ⟨MBX_TBL, 1, 1⟩
/-- MBX_TBL.LOCK (R504). -/
def MBX_TBL_LOCK : Fld := ⟨MBX_TBL, 0, 0⟩
/-- MBX_FULLSUM.FULL (R504). -/
def MBX_FULLSUM_FULL : Fld := ⟨MBX_FULLSUM, 31, 0⟩
/-- LOCK.OWNER (R504). -/
def LOCK_OWNER : Fld := ⟨LOCK, 2, 0⟩
/-- LOCK_CNT.MISUSE (R504). -/
def LOCK_CNT_MISUSE : Fld := ⟨LOCK_CNT, 63, 48⟩
/-- LOCK_CNT.FORCED (R504). -/
def LOCK_CNT_FORCED : Fld := ⟨LOCK_CNT, 47, 32⟩
/-- LOCK_CNT.CONTENDED (R504). -/
def LOCK_CNT_CONTENDED : Fld := ⟨LOCK_CNT, 31, 16⟩
/-- LOCK_CNT.ACQUIRED (R504). -/
def LOCK_CNT_ACQUIRED : Fld := ⟨LOCK_CNT, 15, 0⟩

end Sys2Proof.Machine
end

