-- ==== Sys2Proof/Config.lean ====
section
/-! DEFINITION. What the spec leaves open: each value is a constant without a body, so that nothing can be proved of
it. A value that may differ from one occasion to the next takes the counter `State.fresh` (log entry 4). -/

namespace Sys2Proof.Config

/-- A value the spec does not state, numbered by the occasion on which it arose (log entry 4). -/
opaque freeNat : Nat → Nat

/-- The integer a quantity is held as where the spec gives the quantity exactly and not its rounding
(log entry 5). -/
opaque rnd : Rat → Int

/-- Sine and cosine of a phase in turns / 2^32, as the device holds them, Q1.31 (log entry 6). -/
opaque sinQ : Nat → Int
opaque cosQ : Nat → Int

/-- Bit `i` of the maximal-length sequence of register length `n` with the all-ones seed (R112; log entry 7). -/
opaque prbs : Nat → Nat → Bool

/-- Whether every pole of a table's direct form lies within 10^-4 of a pole of its cascade (R105; log entry 8). -/
opaque polesClose : BitVec 1024 → Bool

/-- The square root of a quantity the spec names as a root and does not round (log entry 6). -/
opaque sqrtR : Rat → Rat

/-- The natural logarithm of R400, which the spec does not round (log entry 6). -/
opaque ln : Rat → Rat

/-- Magnitude in UQ16.16 and phase in Q9.23 degrees of (I_B + jQ_B)/(I_A + jQ_A) (R115; log entry 6). -/
opaque ratioMag : Int → Int → Int → Int → Nat
opaque ratioPhase : Int → Int → Int → Int → Nat

/-- 2π as the device holds it (log entry 6). -/
opaque twoPi : Rat

/-- Amperes at full scale of the phase-current ports of a set, and volts at full scale of its loop outputs: the spec
names both scales and states neither (log entry 10). -/
opaque phaseAmps : Nat → Rat
opaque loopVolts : Nat → Rat

/-- Full scale of the output of a charger instance, in its unit: 0 the trim (W), 1 link voltage (A), 2 the CV stage (A),
3 PFC voltage (S), 4 midpoint (A), 5 phase current (V), 6 LLC period (fine ticks) (log entry 10). -/
opaque chgFull : Nat → Rat

/-- The duty a commutation unit applies (R373 to R375), whose law the spec leaves open: of the state code, the duty
before, the mean current and the alignment current, before the bounds of R370 and R372 (log entry 16). -/
opaque actDuty : Nat → Rat → Nat → Nat → Rat

/-- Courses of forced step `i` of `n`, falling geometrically from `a` to `b`, rounded (R373; log entry 16). -/
opaque startStep : Nat → Nat → Nat → Nat → Nat

/-- Byte layouts the spec leaves open while it states their content (log entry 15): the header and the summary of an
hour record, a cell's statistics, a resistance estimate, a day summary, a grade report, and the length and bytes of a
leaf's certificate. -/
opaque hourHeader : List Int → BitVec 2048
opaque hourSummary : List Int → Nat
opaque cellStats : List Int → BitVec 256
opaque resEntry : List Int → BitVec 64
opaque daySummary : List Int → BitVec 2048
opaque gradeReport : List Int → BitVec 8192
opaque certLen : Nat → Nat
opaque certByte : Nat → Nat → Nat

/-- The production-set addresses NET_MACH and NET_MACA of a leaf (R520, R531; log entry 17). -/
opaque macHost : Nat → BitVec 48
opaque macAgent : Nat → BitVec 48

/-- Which record of a DRAM store an address holds (R25; log entry 18). -/
opaque dramRecord : Nat → Nat

end Sys2Proof.Config
end

