-- ==== Sys2Proof/Machine/State.lean ====
section
/-! DEFINITION. The state of the module: the two leaves, the parts they share, the pins, and the queue of commands
that wait. Every field is plain data. A register's fields stand in `Leaf.regs`, under the register's offset; what the
spec gives the machine beyond its registers stands in the structures below. -/

namespace Sys2Proof.Machine

open Sys2Proof

/-- Why a command could stop the machine. The spec gives every command of the table an effect in every state, and a
command whose condition does not hold changes nothing (log entry 2), so no command faults: the type is empty. Safe. -/
inductive Fault
  deriving DecidableEq, Repr

/-- Why a command could be turned away. -/
inductive Refusal
  /-- The command has no meaning yet. Raised by the arms of `exec` alone. Safe: the machine stops. -/
  | notModelled (mnemonic : String)
  deriving DecidableEq, Repr

/-- The module states of R5. -/
inductive Mode
  | off | park | boot | ready | carry | workshop
  deriving DecidableEq, Repr

/-- The leaf states of R6, and the state of a leaf in module BOOT, before R423 gives it one of them. -/
inductive Role
  | boot | lead | follow | restart | align | out
  deriving DecidableEq, Repr

/-- One entry waiting in an output ring's queue (R474, R475): its ring, its kind, the course that produced it, and its
bytes 16 to 63, byte 16 lowest. -/
structure OutEntry where
  ring : Nat
  isLocal : Bool
  course : Course
  body : BitVec 384
  /-- A network frame to be written to the data area before its entry: length and content (R479, R522). -/
  frame : Option (Nat × Nat) := none
  deriving DecidableEq, Repr

/-- What a leaf has put out since its last seal. -/
inductive Out
  /-- A tie unit: type, sequence, payload words (R431, R432). -/
  | tie (typ : Nat) (seq : BitVec 32) (payload : List Nat)
  /-- A MARK: state byte and low 32 bits of CRS_COUNT (R431). -/
  | mark (state : Nat) (count : BitVec 32)
  /-- A COURSE, CARRIER or MAINT frame to a gate channel (R216 to R218). -/
  | gate (chan : Nat) (frame : BitVec 72)
  /-- A frame to an actuator stage (R367). -/
  | act (stage : Nat) (frame : BitVec 72)
  /-- A CAN frame put on a bus. -/
  | can (bus : Nat) (id : Nat) (data : List Byte)
  /-- An Ethernet frame sent on a port, by its length and a digest of its content. -/
  | eth (port : Nat) (len : Nat) (content : Nat)
  /-- An output entry written to host memory: ring, index, 64 bytes. -/
  | entry (ring index : Nat) (bytes : Slot)
  /-- A received frame written to the data area of OR8 (R479): its address, its length and its content. -/
  | netData (addr len content : Nat)
  /-- A status block written to host memory (R464): its 256 bytes. -/
  | status (bytes : BitVec 2048)
  /-- The read of the doorbell block issued (R40). -/
  | doorbellRead
  /-- The bus-master read of a descriptor or of a buffer issued (R470, R471). -/
  | read (ring : Nat) (addr len : Nat)
  /-- An MSI-X message of a vector (R481). -/
  | msix (vector : Nat)
  /-- A message sent on J5 (R609): step and content words. -/
  | j5 (step : Nat) (content : List Nat)
  deriving DecidableEq, Repr

/-- One write of a REG_WRITE (R460). -/
structure RegW where
  off : Nat
  mask : Word
  value : Word
  deriving DecidableEq, Repr

/-- The header of an input descriptor (R469). -/
structure Hdr where
  ring : Nat
  want : Bool
  target : Nat
  tag : Nat
  dseq : BitVec 32
  effect : Course
  deriving DecidableEq, Repr

/-- The supplies and the wake inputs as last reported (R5, R588 to R590, R600). -/
structure Pins where
  /-- KEEP is supplied. -/
  keep : Bool := true
  /-- VLV0 or VLV1 is above 16.0 V. -/
  vlv : Bool := true
  /-- WAKE is asserted. -/
  wake : Bool := true
  /-- RESET_N is asserted. -/
  resetN : Bool := false
  /-- The wake latch and the micropower comparators are armed (R5). -/
  armed : Bool := true
  /-- Course of leaf 0 from which READY, WAKE released and CP idle have held together (R589). -/
  idleFrom : Option Course := none
  /-- Neither leaf passed BOOT: only RESET_N or a power cycle retries (R5). -/
  bootDead : Bool := false
  /-- The supplies were lost without a PARK record (R590). -/
  unclean : Bool := false
  deriving DecidableEq, Repr

/-- What an accepted change does at its effective course (R50, R52). -/
inductive ChangeWhat
  /-- The writes of a REG_WRITE, in order (R460). -/
  | writes (ws : List RegW)
  /-- A TABLE_SWITCH: block, instance, bank (R108). -/
  | table (block inst bank : Nat)
  /-- A TEST_START, its descriptor bytes (R114). -/
  | testStart (bytes : Slot)
  /-- A TEST_STOP, its slot (R114). -/
  | testStop (slot : Nat)
  /-- A CAPTURE_START of trigger 0 or 1, its descriptor bytes (R120). -/
  | captureStart (bytes : Slot)
  deriving DecidableEq, Repr

/-- An accepted change that waits for its course (R50 to R52). -/
structure Change where
  effect : Course
  what : ChangeWhat
  /-- The FOLLOW leaf has acknowledged it, or none is FOLLOW (R51). -/
  acked : Bool
  /-- Its descriptor: ring, tag, sequence, completion wanted. -/
  hdr : Hdr
  deriving DecidableEq, Repr

/-- The course plan and the changes that wait (R50 to R52, R64, R65). -/
structure Crs where
  /-- Accepted, in ring order. -/
  changes : List Change := []
  /-- Committed at plan commit of the last course: in force from the next seal. -/
  due : List Change := []
  /-- Writes of command registers whose effective course this is: taken by the command's own row. -/
  cmds : List (RegW × Hdr) := []
  /-- Descriptors of IR1 this leaf has fetched and for which no decision has reached it (R51, R442). -/
  undecided : List (Hdr × Slot × Course) := []
  /-- Consecutive late doorbell completions (R41). -/
  lateRun : Nat := 0
  /-- Course and role of a move that takes effect at a boundary (R423, R442). -/
  roleAt : Option (Course × Role) := none
  /-- PLL fraction in units of 0.01 ppm (R31). -/
  pll : Int := 0
  /-- Course of the last temperature compensation (R31). -/
  compAt : Course := 0
  /-- A low-half read of CRS_COUNT has captured this value (R57). -/
  cap : Course := 0
  deriving DecidableEq, Repr
/-- An ashlar engine beyond its state in ASH_ENG: its queue, the block it runs, its tests and its corrected errors. -/
structure Engine where
  queue : List FillBlock := []
  running : Option FillBlock := none
  /-- Course of its last test and of its last passing test (R79, R82). -/
  tested : Course := 0
  passed : Course := 0
  /-- The repeat of a failed test is owed (R83). -/
  repeating : Bool := false
  /-- Its self-test is due once a hand-over has released it (R81, R82). -/
  due : Bool := false
  /-- Corrected errors of its local memory in the window of 160,000 courses that began at `errFrom`. -/
  errs : Nat := 0
  errFrom : Course := 0
  deriving DecidableEq, Repr, Inhabited

/-- A pair position beyond its register. -/
structure PairX where
  /-- All outputs of this course agreed and handed over. -/
  agreed : Bool := false
  /-- Stopped on a mismatch, rerunning (R78). -/
  rerun : Bool := false
  /-- Stopped by its cycle guard in this course (R68). -/
  stopped : Bool := false
  /-- Transient mismatches in the window of 160,000 courses that began at `mismFrom`. -/
  misms : Nat := 0
  mismFrom : Course := 0
  /-- The engine halted by a debug split: false ENG_A, true ENG_B (R87). -/
  split : Option Bool := none
  /-- A split named for the next boundary. -/
  splitNext : Option Bool := none
  deriving DecidableEq, Repr, Inhabited

/-- A hand-over trigger in the order of its table: 1 missed deadline, 2 mismatches, 3 corrected errors, 4 debug split,
5 planned (R79), with the block and the course of the decision. -/
structure Trigger where
  order : Nat
  block : Nat
  decided : Course
  deriving DecidableEq, Repr

/-- A hand-over that runs (R79). -/
structure Handover where
  effect : Course
  block : Nat
  order : Nat
  oldPos : Nat
  newPos : Nat
  verified : Bool
  copied : Bool
  deriving DecidableEq, Repr

/-- The engines of a leaf (R66 to R88). -/
structure Ash where
  /-- The fill blocks of the block list in force, and the declared bounds of the five keyed blocks (R70). -/
  blocks : List FillBlock := []
  keyedBounds : List Nat := []
  engines : Vector Engine 24 := Vector.replicate 24 default
  pairs : Vector PairX 8 := Vector.replicate 8 default
  waiting : List Trigger := []
  hand : Option Handover := none
  /-- The engine in self-test by rotation, with the course its step began; the end of the last step (R82). -/
  testing : Option (Nat × Course) := none
  testEnd : Course := 0
  /-- The keyed and the fill deadline of this course have passed (R38, R39). -/
  keyedOver : Bool := false
  fillOver : Bool := false
  /-- Consecutive courses with an invalid fill output; the last such course (R85, R86). -/
  fillRun : Nat := 0
  lastBad : Course := 0
  /-- Class 0 blocks invalid in consecutive courses: block ID and run (R86). -/
  badRun : List (Nat × Nat) := []
  /-- Fill blocks whose outputs of this course are invalid, and blocks already rerun in it (R25, R39). -/
  invalid : List Nat := []
  rerun : List Nat := []
  /-- Consecutive missed deadlines per keyed block, and the course of its last replacement hand-over (R86). -/
  missRun : Vector Nat 5 := Vector.replicate 5 0
  replacedAt : Vector (Option Course) 5 := Vector.replicate 5 none
  /-- SHED raised at the next boundary (R85); floors of R75 and of R84. -/
  shedNext : Bool := false
  /-- The level R85 has reached, below the floors. -/
  base : Nat := 0
  /-- Service slices carried to the next course in which their class runs (R69). -/
  carried : List FillBlock := []
  floorHand : Bool := false
  floorRetired : Bool := false
  /-- Last event of a lasting condition that repeats every 1,600 courses (R84, R86). -/
  eventAt : Course := 0
  deriving DecidableEq, Repr
/-- The forms of R99. -/
inductive Form
  | direct | shadow | cascade
  deriving DecidableEq, Repr, Inhabited

/-- A compensator instance (R98): its bank, the active table, the form in use and its histories, newest first, in
units of 2^-31. -/
structure Comp where
  bank : Vector (Option CoefTable) 4 := Vector.replicate 4 none
  active : Nat := 0
  form : Form := .direct
  x1 : Int := 0
  x2 : Int := 0
  x3 : Int := 0
  y1 : Int := 0
  y2 : Int := 0
  y3 : Int := 0
  w1 : Int := 0
  w2 : Int := 0
  /-- Consecutive courses in which direct and shadow differed by more than DIFF_LIM (R106). -/
  diffRun : Nat := 0
  /-- Courses for which the comparison is still disarmed (R106). -/
  disarmed : Nat := 0
  /-- A table the block itself names for the next course (R108). -/
  bankNext : Option Nat := none
  /-- The last inputs of a fill block in FOLLOW, newest first, for the mean of R438. -/
  xs : List Int := []
  /-- Probe bits of the course (R101, R102). -/
  satHi : Bool := false
  satLo : Bool := false
  limCross : Bool := false
  deriving DecidableEq, Repr, Inhabited

/-- A test slot (R111 to R117). -/
structure Test where
  /-- The descriptor that started it. -/
  desc : Slot := 0
  start : Course := 0
  /-- Course in which the ramp down began (R113). -/
  downAt : Option Course := none
  /-- Current increment of the generator and its phase at `phaseAt`, modulo 2^32 (R115). -/
  inc : Nat := 0
  phase : Nat := 0
  phaseAt : Course := 0
  /-- Correlation window: its length and its first course. -/
  window : Nat := 0
  winFrom : Course := 0
  repeated : Bool := false
  deriving DecidableEq, Repr, Inhabited

/-- A capture slot (R118 to R122). -/
structure Capture where
  desc : Slot := 0
  start : Course := 0
  rows : Nat := 0
  triggered : Option Course := none
  mib : Nat := 0
  /-- Samples of the mean being formed, one sum per channel, and how many courses it holds. -/
  sums : List Int := []
  n : Nat := 0
  /-- Samples sent to OR3 so far. -/
  sampleNo : Nat := 0
  /-- The trigger channel's last value, for a level trigger. -/
  last : Option Int := none
  deriving DecidableEq, Repr, Inhabited

/-- Compensators, tests and captures of a leaf. -/
structure Cmp where
  /-- Instances under 8 × block + instance. -/
  inst : List (Nat × Comp) := []
  tests : Vector Test 4 := Vector.replicate 4 default
  caps : Vector Capture 4 := Vector.replicate 4 default
  /-- Samples waiting for OR3: slot, first sample index, values (R121). -/
  stream : List (Nat × Nat × List Int) := []
  /-- Readout in progress: slot, next row, rows left (R122). -/
  readout : Option (Nat × Nat × Nat) := none
  /-- Probe values of each block in its last completed course, under the block's ID (R115, R118, R478). -/
  probes : List (Nat × List Int) := []
  /-- Computation fine time of each block's first output in its last course (R45, R478). -/
  outAt : List (Nat × Fine) := []
  /-- DRAM buffer contents: rows of each slot, oldest first, and rows spilled to flash. -/
  buffers : Vector (List (List Int)) 4 := Vector.replicate 4 []
  spill : Vector (List (List Int)) 4 := Vector.replicate 4 []
  deriving DecidableEq, Repr
/-- A port's published record of a course (R137), values as integers. -/
structure PortRec where
  sum : Int := 0
  mean : Int := 0
  sumsq : Nat := 0
  lo : Int := 0
  hi : Int := 0
  flags : BitVec 16 := 0
  deriving DecidableEq, Repr, Inhabited

/-- A window record (R140), and the window being formed. -/
structure Win where
  sum : Int := 0
  sumsq : Nat := 0
  lo : Int := 0
  hi : Int := 0
  n : Nat := 0
  sat : Bool := false
  part : Bool := false
  last : Course := 0
  deriving DecidableEq, Repr, Inhabited

/-- A sense port beyond its registers (R137 to R152). -/
structure Port where
  record : PortRec := {}
  acc : Win := {}
  win : Win := {}
  /-- W of the window being formed. -/
  accW : Nat := 1600
  /-- The next course is marked FIRST (R139). -/
  first : Bool := false
  /-- Courses of settling left (R144). -/
  settle : Nat := 0
  /-- The converter that serves the port; `none` is LOST (R152); the stand-in that serves it from the next course
  (R148). -/
  conv : Option Nat := none
  convNext : Option Nat := none
  /-- The overlap comparison of this course failed (R149). -/
  xchk : Bool := false
  enabled : Bool := true
  ref : Nat := 0
  deriving DecidableEq, Repr, Inhabited

/-- A product accumulator (R141). -/
structure Pacc where
  psum : Int := 0
  flags : Nat := 0
  acc : Win := {}
  win : Win := {}
  accW : Nat := 1600
  first : Bool := false
  enabled : Bool := true
  deriving DecidableEq, Repr, Inhabited

/-- A converter beyond SNS_CONV (R147, R152, R410). -/
structure Conv where
  calAt : Course := 0
  tCal : Int := 0
  /-- The last course was MISSING. -/
  missed : Bool := false
  deriving DecidableEq, Repr, Inhabited

/-- A reference measured on the housekeeping converter (R145): 0 the REF pin, 1 to 4 SSUP0 to SSUP3. -/
structure RefMon where
  devRun : Nat := 0
  okRun : Nat := 0
  fault : Bool := false
  /-- Readings of the settling in progress, and the nominal, in mV (REF pin). -/
  readings : List Nat := []
  nominal : Rat := 2048
  deriving DecidableEq, Repr, Inhabited

/-- A recalibration step (R148 to R150). -/
structure Recal where
  start : Course
  conv : Nat
  spare : Nat
  port : Nat
  /-- The comparison in course 96 failed; the active converter is being calibrated once more. -/
  firstBad : Bool := false
  again : Bool := false
  /-- The comparison that lets the active converter serve its port again has passed. -/
  passed : Bool := false
  deriving DecidableEq, Repr

/-- A fast-trip comparator (R154, R157). -/
structure FtComp where
  testAt : Option Course := none
  failedOnce : Bool := false
  masked : Bool := false
  deriving DecidableEq, Repr, Inhabited

/-- A housekeeping input: its last conversions, newest first (R159). -/
structure HkIn where
  last : List Nat := []
  deriving DecidableEq, Repr, Inhabited

/-- The sense block of a leaf. -/
structure Sns where
  ports : Vector Port 36 := Vector.ofFn fun i => { conv := some i.val }
  paccs : Vector Pacc 4 := Vector.replicate 4 default
  convs : Vector Conv 40 := Vector.replicate 40 default
  refs : Vector RefMon 5 := Vector.replicate 5 default
  step : Option Recal := none
  stepEnd : Course := 0
  comps : Vector FtComp 36 := Vector.replicate 36 default
  neutRun : Vector Nat 4 := Vector.replicate 4 0
  hk : Vector HkIn 32 := Vector.replicate 32 default
  /-- Consecutive passes in which the housekeeping check failed; the converter has failed (R160). -/
  hkBad : Nat := 0
  hkFailed : Bool := false
  staleAt : Course := 0
  deriving DecidableEq, Repr
/-- The back-EMF observer of a machine (R191 to R194). -/
structure Obs where
  /-- Angle in UQ0.32 turn, speed in Q12.20 Hz. -/
  angle : BitVec 32 := 0
  speed : Int := 0
  /-- The speed has reached 4% of SPD_MAX and not since fallen below 3.5%. -/
  fast : Bool := false
  lostRun : Nat := 0
  lockRun : Nat := 0
  deriving DecidableEq, Repr, Inhabited

/-- A position unit beyond its registers (R177 to R197). -/
structure Pos where
  pos : BitVec 32 := 0
  travel : BitVec 32 := 0
  edgeFine : Fine := 0
  /-- Edges counted since the last seal. -/
  edges : Nat := 0
  /-- POS_ref (R184). -/
  ref : BitVec 32 := 0
  /-- An index has been seen since reset or ARM; the ONCE load has taken place. -/
  seen : Bool := false
  loaded : Bool := false
  /-- Consecutive missing indices (R186); a U/V/W disagreement stood at the pending first index (R190). -/
  misses : Nat := 0
  uvwDoubt : Bool := false
  /-- Seal latches of TRAVEL and EDGE_FINE with the first course each held, newest first (R181). -/
  hist : List (Course × BitVec 32 × Fine) := []
  /-- Count speed in counts per fine tick: numerator and denominator (R181). -/
  omegaN : Int := 0
  omegaD : Nat := 1
  /-- U/V/W: sector in use, reading unused until the next change, seals an impossible state has stood, first reading
  taken, stamps of the last sector edges with the sector, newest first (R188, R189, R195). -/
  sector : Option Nat := none
  uvwSkip : Bool := false
  uvwStood : Nat := 0
  uvwRead : Bool := false
  uvwEdges : List (Fine × Nat × Bool) := []
  /-- Line flags of the last seal (R174); supply reading out of range in the last conversion (R175). -/
  lines : BitVec 6 := 0
  lasting : BitVec 6 := 0
  supplyBad : Bool := false
  supplyLasting : Bool := false
  /-- U/V/W stood with the observer (R192): 1 the next index is awaited, 2 the next comparison. -/
  encDoubt : Nat := 0
  /-- A lasting finding of this leaf that the partner's MARKs of two courses are to confirm (R176): what, and since. -/
  finding : Option (Nat × Course) := none
  obs : Obs := {}
  /-- Consecutive courses of disagreement, and course of the last verdict with its kind: 1 for the encoder, 2 for the
  observer, 3 none (R192). -/
  xRun : Nat := 0
  verdict : Option (Nat × Course) := none
  /-- Probe: its first course and how many have failed (R196). -/
  probe : Option Course := none
  probeTries : Nat := 0
  /-- Course from which source or REF has differed from the partner's (R197). -/
  differs : Option Course := none
  /-- The unit was reset: an index is owed before ALIGN is left (R197). -/
  wasReset : Bool := true
  deriving DecidableEq, Repr, Inhabited
/-- The states of a gate channel (R226). -/
inductive ChState
  | unused | noBias | fallback | run | wait | latched | twoOn | twoOff
  deriving DecidableEq, Repr, Inhabited

/-- A channel's timebase on one leaf's link (R214): the count it expects the marks to carry, faults and good marks in
a row, link loss, the latency measured at boot, and the channel's course in which the last valid frame arrived (R19). -/
structure LinkTb where
  tag : BitVec 16 := 0
  bad : Nat := 0
  good : Nat := 0
  lost : Bool := false
  latency : Nat := 0
  lastFrame : Option Nat := none
  deriving DecidableEq, Repr, Inhabited

/-- A frame a channel has applied (R221): kind 0 COURSE, 1 CARRIER, 2 MAINT; its key; its course; its link; its body;
whether a duplicate has been compared. -/
structure Applied where
  kind : Nat
  key : Nat
  course : Nat
  link : LeafId
  body : BitVec 72
  dup : Bool := false
  deriving DecidableEq, Repr

/-- What a channel gathers over one course for its STATUS frame (R219). -/
structure ChAcc where
  /-- Ticks the output was on and changes of its level, for the loss of R413. -/
  onTicks : Nat := 0
  sw : Nat := 0
  late : Nat := 0
  bad0 : Nat := 0
  bad1 : Nat := 0
  div : Nat := 0
  divs : Bool := false
  fault : BitVec 16 := 0
  testItem : Nat := 0
  testRan : Bool := false
  testPass : Bool := false
  ritem : Nat := 0xFF
  rleaf : LeafId := .leaf0
  rdata : Nat := 0
  deriving DecidableEq, Repr, Inhabited

/-- A MAINT operation that waits for a boundary (R218). -/
structure MaintOp where
  course : Nat
  op : Nat
  item : Nat
  data : Nat
  link : LeafId
  /-- Outcome of a test: run and passed. -/
  ran : Bool := false
  pass : Bool := false
  deriving DecidableEq, Repr

/-- The values of a carrier (R217). -/
structure Car where
  enable : Bool
  period : Nat
  on : Nat
  phase : Nat
  deriving DecidableEq, Repr, Inhabited

/-- One gate channel (R208 to R241). Courses are numbered by `n`, its own count; fine times are 4,000 n plus a tick. -/
structure Chan where
  /-- The configuration items as written by MAINT WRITE: GCH_CFG, GCH_PROT, temperature coefficient (R218). -/
  cfg : Word := 0
  prot : Word := 0
  coef : Int := 0
  st : ChState := .noBias
  tb : Vector LinkTb 2 := Vector.replicate 2 default
  /-- The course by the marks, and how many courses the channel has lived. -/
  cur : BitVec 16 := 0
  n : Nat := 0
  /-- A course has ended that no STATUS frame has described. -/
  due : Bool := false
  /-- The level commanded by frames, and the edges to come: fine time and level (R222). -/
  cmd : Bool := false
  edges : List (Nat × Bool) := []
  /-- The on interval was abandoned (R227). -/
  abandon : Bool := false
  /-- The carrier that runs: its values and the start of its period; one that waits, with its application time (R223). -/
  car : Option (Car × Nat) := none
  carNext : Option (Car × Nat) := none
  gate : Bool := false
  lastOn : Nat := 0
  lastSw : Nat := 0
  /-- The gate is reported below its own VEE2 + ILK_V (R227). -/
  repOff : Bool := true
  /-- Fine time since which a turn-on waits for the partner's report, and of the last turn-on. -/
  waitSince : Option Nat := none
  onAt : Nat := 0
  soft : Bool := false
  /-- Fine time at which the soft turn-off ended (R227). -/
  softEnd : Nat := 0
  ot : Bool := false
  /-- ASC flag of the last applied COURSE frame and the course of that frame (R235). -/
  asc : Bool := false
  ascAt : Option Nat := none
  applied : List Applied := []
  lastValid : Option Nat := none
  fed : Bool := false
  fedCar : Bool := false
  maint : List MaintOp := []
  acc : ChAcc := {}
  /-- The last ended course as its STATUS frame describes it, body [159:0], but for the values measured when it is sent. -/
  ended : BitVec 160 := 0
  bias : Bool := false
  winding : Bool := true
  strap : Nat := 0
  /-- Course of the last leg fault in which this switch was faulted (R229, R235). -/
  faulted : Option Nat := none
  failedOnce : BitVec 5 := 0
  testFail : BitVec 5 := 0
  /-- Of the pair, held in its even channel: try window, tries, faults in it, course of the last leg fault, end of the
  wait, and whether WAIT or LATCHED came from OV_HW (R233, R240). -/
  winFrom : Option Nat := none
  tries : Nat := 0
  faults : Nat := 0
  lastFault : Option Nat := none
  waitTill : Nat := 0
  ovhw : Bool := false
  temp : Nat := 89
  deriving DecidableEq, Repr, Inhabited

/-- A bias group (R211, R212): its rail holds, and its source: 0 none, 1 low voltage, 2 backup. -/
structure Group where
  bias : Bool := false
  src : Nat := 0
  backup : Bool := false
  deriving DecidableEq, Repr, Inhabited

/-- A STATUS frame as a leaf last received it: its body, and whether it came since the last seal (R37, R219). -/
structure ChanStat where
  body : BitVec 160 := 0
  fresh : Bool := false
  deriving DecidableEq, Repr, Inhabited

/-- The comparator-test rotation of a leaf (R241): the channel tested last, when, and the test owed a repeat. -/
structure GchRot where
  last : Nat := 47
  at_ : Course := 0
  repeatOf : Option Nat := none
  deriving DecidableEq, Repr
/-- A traction set beyond its registers (R254 to R279). Currents are Q1.31 of full scale, voltages in volts, torques in
N·m. -/
structure TrcSet where
  /-- References of the split, used from the following course (R267); those of the last course after R261. -/
  idRef : Int := 0
  iqRef : Int := 0
  idOut : Int := 0
  iqOut : Int := 0
  /-- Field-weakening correction (R261) and |v| of the previous course. -/
  dId : Int := 0
  vMag : Rat := 0
  /-- Voltages and feed-forwards of the last course (R259, R262). -/
  vd : Rat := 0
  vq : Rat := 0
  ffd : Rat := 0
  ffq : Rat := 0
  /-- Duties of the three legs in force. -/
  duty : List Rat := [0, 0, 0]
  /-- The split value, and the set's ceilings motoring and regenerative (R268, R269). -/
  split : Rat := 0
  /-- The gates-off state an ASC by flag remembers (R271), and that no cause stood. -/
  remembered : Nat := 0
  byFlag : Bool := false
  /-- Exit of R274: its course X, the currents it starts from. -/
  exitAt : Option Course := none
  exitId : Int := 0
  exitIq : Int := 0
  /-- Overcurrent: course of the last, its 1,600 courses still run, held after a recurrence (R275). -/
  ocAt : Option Course := none
  ocWait : Bool := false
  ocHeld : Bool := false
  neutHeld : Bool := false
  /-- Consecutive courses with an invalid, and with only valid, phase ports; a sense fault stands (R275). -/
  invalidRun : Nat := 0
  validRun : Nat := 0
  senseBad : Bool := false
  /-- A pair of the set was seen in WAIT after a leg fault; the switch that faulted: false low, true high. -/
  legBad : Bool := false
  side : Option Bool := none
  /-- The state in which the leaves hold the pairs not LATCHED while LOST (R276). -/
  lostAs : Nat := 3
  /-- Causes that stood at the last seal: a bit of TRC_SETFLT is set when its cause first occurs (R290). -/
  stood : List Nat := []
  /-- What the last course's frames showed: RUN, gates off (3) or ASC. -/
  sent : Nat := 3
  differs : Option Course := none
  deriving DecidableEq, Repr, Inhabited

/-- A traction machine beyond its registers (R265 to R281). -/
structure TrcMach where
  /-- Host request in 1/16 N·m, RUN bit, host ceilings (R265). -/
  tq : Int := 0
  run : Bool := false
  mot : Nat := 0
  reg : Nat := 0
  /-- The rate-limited request (R267). -/
  req : Rat := 0
  table : Option CurTable := none
  /-- The observer lost the rotor as the source since the last seal (R193). -/
  obsLoss : Bool := false
  /-- Course of the first loss of the window; the procedure of R278 holds ASC; a second loss holds. -/
  obsFirst : Option Course := none
  obsAct : Bool := false
  obsHold : Bool := false
  /-- Output of the speed loop of SYNC, N·m (R281). -/
  sync : Rat := 0
  deriving DecidableEq, Repr, Inhabited

/-- The traction side of a leaf. -/
structure Trc where
  sets : Vector TrcSet 4 := Vector.replicate 4 default
  machs : Vector TrcMach 2 := Vector.replicate 2 default
  lastDesc : Course := 0
  timedOut : Bool := false
  /-- Shift phase (R281): 0 none, 1 RAMP_DOWN, 2 HOLD, 3 SYNC, 4 ENGAGE, 5 RAMP_UP; start of SYNC; courses within
  30 rpm; target speed in rpm; synchronism was not reached in time. -/
  phase : Nat := 0
  syncFrom : Course := 0
  syncRun : Nat := 0
  target : Rat := 0
  syncLate : Bool := false
  deriving DecidableEq, Repr
/-- A battery-converter leg (R297 to R299). -/
structure LnkLeg where
  /-- Trim in amperes, its courses at the limit, course of the last sharing fault, readmitted once since (R298). -/
  trim : Rat := 0
  atLimit : Nat := 0
  shareAt : Option Course := none
  readmitted : Option Course := none
  shareOut : Bool := false
  shareLast : Bool := false
  /-- Course in which the reference began to ramp from 0 (R299). -/
  rampAt : Option Course := none
  duty : Rat := 0
  /-- Edges were commanded for it in the last course (R294). -/
  on : Bool := false
  deriving DecidableEq, Repr, Inhabited

/-- The link guard and the auxiliary converter of a leaf, beyond their registers (R293 to R315). Voltages in V, currents
in A, powers in W. -/
structure Lnk where
  /-- The last LINK descriptor: its flags, setpoint, reference, ceilings, and the course it was used (R296). -/
  runFlag : Bool := false
  runNew : Bool := false
  dischReq : Bool := false
  auxFlag : Bool := false
  vHost : Option Rat := none
  ibattRef : Rat := 0
  disCeil : Nat := 0
  chgCeil : Nat := 0
  refAt : Course := 0
  vset : Rat := 0
  iTot : Rat := 0
  /-- I_tot ramps to 0 in STANDBY (R300). -/
  ramping : Bool := false
  legs : Vector LnkLeg 4 := Vector.replicate 4 default
  /-- Last valid means and maxima of SP12 to SP18 and SP30, under the port number, Q1.31 and Q1.15 (R293). -/
  means : List (Nat × Int) := []
  maxes : List (Nat × Int) := []
  badRun : Nat := 0
  goodRun : Nat := 0
  /-- Consecutive courses with SP12 invalid; a port fault stands (R308, R314). -/
  bad12 : Nat := 0
  senseBad : Bool := false
  /-- The battery was declared lost since the last seal (R306, R351). -/
  battLost : Bool := false
  vPrev : Rat := 0
  battPrev : Rat := 0
  pCo : Rat := 0
  /-- Ladder (R307): levels in force, courses below the release, RS, course RS began to rise. -/
  chop : Bool := false
  regen : Bool := false
  asc : Bool := false
  belowRun : Nat := 0
  rs : Rat := 1
  hwSeen : Bool := false
  pMot : Rat := 0
  pReg : Rat := 0
  iChg : Rat := 0
  /-- Chopper (R309 to R311): whole courses commanded on, consecutive faulty ones, retest course, retest asked by W1C. -/
  chopOnRun : Nat := 0
  chopBad : Nat := 0
  retest : Option Course := none
  retestVoid : Bool := false
  retested : Bool := false
  /-- Crash, HVIL (R304): courses without the signal; open. -/
  crash : Bool := false
  hvilRun : Nat := 0
  hvilOpen : Bool := false
  /-- Contactors (R302): course the state was entered, courses of match and of low current, when main− is to open, the
  commands main+, main−, precharge, timeouts in a row, last OPEN_BLOCKED event. -/
  conFrom : Course := 0
  matchRun : Nat := 0
  lowRun : Nat := 0
  minusAt : Option Course := none
  plus : Bool := false
  minus : Bool := false
  pre : Bool := false
  timeouts : Nat := 0
  blockedAt : Option Course := none
  dischFrom : Option Course := none
  /-- Auxiliary converter (R312 to R314): shift in fine ticks in force and to come, course it started, stopped by a fault
  since, faults in a row and the course of the last, overvoltage and short runs, its pairs were lost. -/
  shift : Nat := 0
  shiftNext : Nat := 0
  auxFrom : Course := 0
  auxStop : Option Course := none
  auxHeld : Bool := false
  auxFaultAt : Option Course := none
  auxOvRun : Nat := 0
  auxShortRun : Nat := 0
  auxPair : Bool := false
  differs : Vector (Option Course) 3 := Vector.replicate 3 none
  deriving DecidableEq, Repr
/-- The charger of a leaf beyond its registers (R329 to R353). Currents in A, voltages in V, powers in W. -/
structure Chg where
  /-- Limits in 0.1 A: pilot, cable; HLC limit in force and the course of the seal that first used it (R337 to R339). -/
  pilotLim : Nat := 0
  cableLim : Nat := 0
  hlcLim : Nat := 0
  hlcAt : Option Course := none
  /-- The pilot's duty lies in the high-level band; a pilot fault stands; PWM present (R336, R337). -/
  hlcBand : Bool := false
  pilotBad : Bool := false
  pwm : Bool := false
  /-- Crash or HVIL open as last seen; S2 opens at this course; the session has reached START (R342, R343). -/
  stopSeen : Bool := false
  s2OpenAt : Option Course := none
  counted : Bool := false
  /-- CHARGE was requested, not SUPPLY (R342); course the session state was entered. -/
  wantCharge : Bool := false
  stateAt : Course := 0
  /-- PAUSE: whether S2 was opened, and the cause: 1 pair, 2 thermal, 3 sense, 4 AC loss, 5 weak supply, 6 block invalid,
  7 PFC overvoltage, 8 LLC overcurrent, 9 pilot. -/
  pauseS2 : Bool := false
  pauseCause : Nat := 0
  /-- A stop sequence (R343): its first course, I_LIM then, the state it leads to, its end reason, and whether S2 opens. -/
  stopFrom : Option Course := none
  stopLim : Rat := 0
  stopTo : Nat := 0
  stopEnd : Nat := 0
  stopS2 : Bool := false
  /-- The stage is off from the next course. -/
  off : Bool := true
  iLim : Rat := 0
  iTgt : Rat := 0
  v0 : Rat := 0
  vNow : Rat := 0
  /-- The windows of the three phases last completed (R345). -/
  win : List PhaseWin := []
  winAt : Option Course := none
  sagNow : Bool := false
  searchAt : Course := 0
  holdAt : Course := 0
  sagFrom : Option Course := none
  weak : Nat := 0
  weakTrans : Bool := false
  weakAt : Course := 0
  lossAt : Course := 0
  termFrom : Option Course := none
  /-- EQUIV in courses, WALL in courses, CC or CV entered since (R349); last course with F_TH below 1; an expiry stopped the
  charge: 1 thermal, 2 plain; a restarted charge runs (R350). -/
  equiv : Rat := 0
  wall : Nat := 0
  everCc : Bool := false
  thermAt : Option Course := none
  expiry : Nat := 0
  eta : Rat := 9 / 10
  pIn : Rat := 0
  iCoRef : Rat := 0
  /-- PFC: conductance, setpoint ramp, bus ready; common offset of the midpoint instance; duties of the legs (R333). -/
  g : Rat := 0
  pfcOn : Bool := false
  pfcFrom : Option Course := none
  pfcStart : Rat := 0
  midOut : Rat := 0
  duty : Vector Rat 3 := Vector.replicate 3 0
  iRef : Vector Rat 3 := Vector.replicate 3 0
  /-- LLC: runs, period in fine ticks, last 16 means of SP26 (R334, R335). -/
  llcOn : Bool := false
  period : Nat := 1600
  lastIco : List Rat := []
  /-- Course of the last PFC overvoltage and LLC overcurrent; a restart is awaited (R353). -/
  pfcOvAt : Option Course := none
  llcOcAt : Option Course := none
  badRun : Nat := 0
  goodRun : Nat := 0
  differs : Option Course := none
  deriving DecidableEq, Repr

/-- What the blocks of a leaf take from the blocks of the last course (R74, R267, R279, R298): the results as they stood
when the seal was done. -/
structure Was where
  trc : Trc := {}
  lnk : Lnk := {}
  chg : Chg := {}
  deriving DecidableEq, Repr
/-- An actuator stage (R365 to R368, R378): its links, its course, the frames it holds, what it drives, and what it has
gathered for its STATUS frame. -/
structure Stage where
  tb : Vector LinkTb 2 := Vector.replicate 2 default
  cur : BitVec 16 := 0
  n : Nat := 0
  due : Bool := false
  applied : List Applied := []
  /-- ACT_CTRL and ACT_CFG as MAINT frames have written them (R367), and those that wait for a boundary. -/
  ctrl : Word := 0
  cfg : Word := 0
  maint : List (Nat × Nat × Nat) := []
  /-- The body in force in this course; no phase driven at 0. -/
  body : BitVec 72 := 0
  lastValid : Option Nat := none
  fallback : Bool := true
  /-- All six switches off after a hard overcurrent. -/
  tripped : Bool := false
  /-- The high side of the phase in PWM is off from this tick until its next on edge (R378). -/
  blank : Option Nat := none
  /-- Fine time of the last on edge of the PWM. -/
  onAt : Option Nat := none
  hardOc : Bool := false
  bstUv : BitVec 3 := 0
  refresh : Bool := false
  /-- The course that ended last, as its STATUS frame describes it, but for the values measured (R368). -/
  ended : BitVec 128 := 0
  deriving DecidableEq, Repr, Inhabited

/-- An actuator as a leaf runs it, beyond ACT_CHSTAT (R369 to R378). -/
structure Actr where
  /-- The STATUS body last received, and whether it came since the last seal (R37); the body latched at the last seal. -/
  rx : BitVec 128 := 0
  fresh : Bool := false
  status : BitVec 128 := 0
  latched : Bool := false
  count : Int := 0
  /-- The move: 0 none, 1 to a count, 2 into an end stop, 3 REFERENCE, 4 the pump; direction; target count. -/
  kind : Nat := 0
  dir : Int := 1
  target : Int := 0
  duty : Rat := 0
  /-- Course the state was entered; START step and its course; course of the last commutation. -/
  stateAt : Course := 0
  step : Nat := 0
  stepAt : Course := 0
  lastComm : Course := 0
  /-- Zero crossings (R371): the previous one, the previous valid sample and its reading, whether a valid sample has come
  since the last commutation, whether this sector has its crossing, crossings in consecutive sectors, S in fine ticks. -/
  zcLast : Option Fine := none
  prev : Option (Fine × Nat) := none
  sampled : Bool := false
  found : Bool := false
  run : Nat := 0
  sec : Nat := 0
  /-- The commutation placed: its course and fine tick. -/
  comm : Option (Course × Nat) := none
  /-- Course of the last stage fault within its 160,000 courses, and of the last bootstrap undervoltage (R377, R378). -/
  faultAt : Option Course := none
  bstAt : Option Course := none
  /-- WAIT comes from ACT_VIN (R376); FAULT comes from FALLBACK alone (R380). -/
  vin : Bool := false
  byFallback : Bool := false
  differs : Option Course := none
  deriving DecidableEq, Repr, Inhabited

/-- The settings value of R382: gear, DRUM_POS, the A1 end, and the sectors remembered. -/
structure ActSaved where
  gear : Nat
  pos : Int
  park : Nat
  sectors : List Nat
  deriving DecidableEq, Repr, Inhabited

/-- The gearbox side of a leaf (R376 to R390). -/
structure Act where
  actrs : Vector Actr 3 := Vector.replicate 3 default
  /-- VSPEED in 0.01 km/h with the course of the seal that first used it; PUMP in rpm (R381). -/
  vspeed : Int := 0
  vspeedAt : Option Course := none
  pump : Nat := 0
  /-- ACT_VIN: conversions out of 17.0 to 33.0 V in a row, the course from which it has held in 18.0 to 32.0 V, stopped. -/
  vinBad : Nat := 0
  vinFrom : Option Course := none
  vinStop : Bool := false
  /-- The shift: target, previous gear, course of its start, output-shaft speed of the seal that began TO_NEUTRAL with
  the vehicle speed then, step of a return, a return asked for by the host, hold after a lasting fault (R385 to R387). -/
  shiftTo : Nat := 0
  prevGear : Nat := 0
  shiftAt : Course := 0
  outSpeed : Rat := 0
  outV : Option Int := none
  retStep : Nat := 0
  retAsked : Bool := false
  engFrom : Option Course := none
  /-- Sends no frames to A0 until the shift ends (R380). -/
  noA0 : Bool := false
  saved : Option ActSaved := none
  differs : Option Course := none
  deriving DecidableEq, Repr
/-- A temperature sensor beyond THM_TEMP (R399 to R407). Temperatures in 1/16 °C. -/
structure TSensor where
  /-- Readings of the period being formed: their sum, how many, and whether one was out of range (R401). -/
  sum : Int := 0
  n : Nat := 0
  bad : Bool := false
  /-- The last samples, newest first, eleven at most (R405). -/
  last : List Int := []
  used : Int := 0
  devRun : Nat := 0
  /-- Consecutive samples in range and within 15 °C of the neighbour median (R407). -/
  okRun : Nat := 0
  overRun : Nat := 0
  relRun : Nat := 0
  trip : Bool := false
  differs : Option Course := none
  deriving DecidableEq, Repr, Inhabited

/-- The thermal model of a switch (R412 to R417). Temperatures in °C, loss in W. -/
structure Sw where
  tj : Rat := 25
  tc : Rat := 25
  p : Rat := 0
  deriving DecidableEq, Repr, Inhabited

/-- The thermal part of a leaf (R399 to R419). -/
structure Thm where
  sensors : Vector TSensor 83 := Vector.replicate 83 default
  switches : Vector Sw 48 := Vector.replicate 48 default
  /-- Actuator-stage temperatures received since the last seal (R368). -/
  act : Vector (Option Int) 3 := Vector.replicate 3 none
  /-- Die readings latched at the last seal (R410). -/
  die : List Int := []
  /-- Per model block: consecutive invalid and valid courses, and fallback (R417). -/
  badRun : Vector Nat 12 := Vector.replicate 12 0
  goodRun : Vector Nat 12 := Vector.replicate 12 0
  fb : Vector Bool 12 := Vector.replicate 12 false
  sampledAt : Course := 0
  deriving DecidableEq, Repr
/-- A tie unit that waits for its acknowledgement: type, sequence, course sent, payload (R432). -/
structure Unacked where
  typ : Nat
  seq : BitVec 32
  sent : Course
  payload : List Nat
  deriving DecidableEq, Repr

/-- A receive lane (R430). -/
structure Lane where
  up : Bool := false
  /-- Consecutive courses with a valid MARK while lost; consecutive courses without one while up. -/
  good : Nat := 0
  missing : Nat := 0
  /-- A valid MARK arrived in this course. -/
  marked : Bool := false
  /-- Round trip of the last ECHO in ps (R434). -/
  round : Nat := 0
  deriving DecidableEq, Repr, Inhabited

/-- A stage held at fault after divergence (R440): the leaf held, and the course from which a recurrence within
9,600,000 courses is lasting. -/
structure Held where
  stage : Nat
  leaf : LeafId
  joined : Option Course := none
  deriving DecidableEq, Repr

/-- The tie link and the roles of a leaf (R423 to R446). -/
structure Tie where
  lanes : Vector Lane 2 := Vector.replicate 2 default
  /-- LOST units: acting as if the lanes were lost, and the courses passed with a MARK and no LOST (R433). -/
  lostActing : Bool := false
  lostRun : Nat := 0
  lostNow : Bool := false
  /-- Course in which both lanes were lost (R435). -/
  isolatedAt : Option Course := none
  /-- Unit sequence last sent and last taken (R431). -/
  txSeq : BitVec 32 := 0
  rxSeq : Option (BitVec 32) := none
  unacked : List Unacked := []
  /-- Own snapshot of the keyed state for the KEYED unit of the next course, and its course (R436). -/
  snap : List KeyedRec := []
  snapAt : Course := 0
  snapThermal : List (Int × Int) := []
  thermalAt : Course := 0
  /-- A unit of the snapshot is awaited; the unit that came in time, and its fallback bits (R436, R437). -/
  keyedDue : Bool := false
  thermalDue : Bool := false
  keyedRx : Option (List KeyedRec) := none
  thermalRx : Option (List (Int × Int) × BitVec 48) := none
  /-- Consecutive KEYED and THERMAL units skipped (R436). -/
  skips : Nat := 0
  skipsThermal : Nat := 0
  keyedSeen : Bool := false
  thermalSeen : Bool := false
  /-- Consecutive courses with the offset beyond, and within, ±25 ns (R434, R446). -/
  beyond : Nat := 0
  within : Nat := 0
  /-- Course of the last PROBE (R434). -/
  probeAt : Option Course := none
  /-- Restart: its first course, whether it repeats, the cause, completions of the last restart (R424, R445). -/
  restartAt : Course := 0
  restartTry : Nat := 0
  cause : Nat := 0
  /-- Course at which the leaf reached FOLLOW after a restart that its silence caused (R424). -/
  followAt : Option Course := none
  silenceRestart : Bool := false
  /-- Alignment: entry course, settings and ledger transfers complete with the course, residual checks passed,
  course named by the LEAD leaf (R446). -/
  alignAt : Course := 0
  settingsDone : Bool := false
  ledgerDone : Bool := false
  doneAt : Option Course := none
  residualOk : Nat := 0
  seriesFail : Nat := 0
  /-- The generation requested, with the digest its record must have, and the parts received (R432, R446). -/
  wantSet : Option (Nat × DigestId) := none
  setData : List (Nat × DigestId) := []
  /-- SETDATA and SUPERSEDED units that wait for a course of their own: type and payload (R432). -/
  slow : List (Nat × List Nat) := []
  /-- The partner's MARK shows both of its receive lanes up. -/
  partnerLanes : Bool := false
  /-- Divergence: per channel the last 16 courses, newest lowest (R439); exemption until a course; a check run owed. -/
  div : Vector (BitVec 16) 48 := Vector.replicate 48 0
  exempt : Vector Course 11 := Vector.replicate 11 0
  held : List Held := []
  checks : List Nat := []
  /-- The check run of this course: its stage, and what the first of its two runs found (R440). -/
  checkRun : Option (Nat × Option Bool) := none
  /-- What the health record counts over its 1,600 courses (R441). -/
  healthAt : Course := 0
  hOfs : Nat := 0
  hDivCourses : Nat := 0
  hDivMax : Nat := 0
  hNodup : Nat := 0
  hOther : Nat := 0
  hDiffer : Nat := 0
  hEcc : Nat := 0
  hSkips : Nat := 0
  hKey : Nat := 0
  hFill : Nat := 0
  /-- Encoder faults the partner's MARK reports, ports 0 and 1 (R176, R431). -/
  partnerEnc : Vector Bool 2 := Vector.replicate 2 false
  partnerEncPrev : Vector Bool 2 := Vector.replicate 2 false
  /-- The mirror format in use (R574) and the partner's set-up digest has been compared (R595). -/
  mirrorFmt : Nat := 0
  mirNext : Option (Nat × Course) := none
  setupSeen : Option Bool := none
  /-- The partner's ledger head: RECNO, chain verified (R547). -/
  partnerHead : Option (Nat × Bool) := none
  deriving DecidableEq, Repr
/-- One MSI-X vector of a leaf: its table entry, its pending bit, and what R481 counts. -/
structure Vec where
  /-- The 16-byte entry of the MSI-X table; bit 96 masks the vector (PCIe Base 3.0). -/
  entry : BitVec 128 := 0x00000001000000000000000000000000
  pending : Bool := false
  /-- ARM byte latched when the vector last fired; a vector is armed after RUN is set. -/
  armSeen : Option Byte := none
  /-- Entries posted on its rings since it last fired, and the course of the first. -/
  posted : Nat := 0
  first : Option Course := none
  deriving DecidableEq, Repr, Inhabited

/-- The ring engine of a leaf (R457 to R481), beyond its registers. -/
structure Hre where
  /-- The values of the last doorbell fetch in use (R41, R463). -/
  door : DoorbellBlock := 0
  /-- A doorbell block that has arrived for the next course. -/
  arrived : Option DoorbellBlock := none
  /-- Course in which the last doorbell fetch took place (R40). -/
  fetchAt : Option Course := none
  /-- The doorbell read of this course is outstanding. -/
  reading : Bool := false
  /-- Consecutive doorbell completions that went missing (R444), and the course of the first. -/
  missing : Nat := 0
  /-- The lasting-late bit and the ring-stall bit of the health summary (R41, R465, R472). -/
  dbLate : Bool := false
  stall : Bool := false
  /-- DSEQ last read on each input ring; `none` after the ring is enabled or its sequence cleared (R457, R470). -/
  dseq : Vector (Option (BitVec 32)) 32 := Vector.replicate 32 none
  /-- Input rings whose head descriptor is to be read once more, with the first failure: 0 CRC, 1 PHASE, 2 read. -/
  retry : Vector (Option Nat) 32 := Vector.replicate 32 none
  /-- Course in which each ring's IR_CONS last advanced or the ring was last empty (R472). -/
  moved : Vector Course 32 := Vector.replicate 32 0
  /-- Course of the last OVERRUN event (R472). -/
  overrunAt : Option Course := none
  /-- Descriptors read from each ring, and bytes read, in this course (R472). -/
  fetched : Vector Nat 32 := Vector.replicate 32 0
  readBytes : Nat := 0
  /-- The COMMON and the LOCAL queues of the output rings (R475). -/
  comQ : List OutEntry := []
  locQ : List OutEntry := []
  /-- Entries dropped since each ring's previous entry (R474). -/
  dropped : Vector Nat 32 := Vector.replicate 32 0
  /-- Rings that have posted in this course (R475). -/
  postedNow : BitVec 32 := 0
  /-- IR_ERR and OR_DROP of this course (R464). -/
  irErr : BitVec 32 := 0
  orDrop : BitVec 32 := 0
  vec : Vector Vec 32 := Vector.replicate 32 default
  /-- Block telemetered last on OR0 (R478). -/
  tlmLast : Nat := 63
  /-- Descriptors received whose use waits for the next seal (R37, R472). -/
  rxq : List (Hdr × Slot) := []
  /-- Configuration requests are answered with retry status until the image is verified (R457). -/
  crsRetry : Bool := true
  /-- Course in which the host link went down (R444, R457). -/
  downAt : Option Course := none
  deriving DecidableEq, Repr
/-- A frame in a transmit buffer or held (R514, R515). -/
structure TxFrame where
  ide : Bool := false
  fdf : Bool := false
  brs : Bool := false
  rtr : Bool := false
  dlc : Nat := 0
  id : Nat := 0
  data : List Byte := []
  tag : Nat := 0
  dseq : BitVec 32 := 0
  /-- Loaded while other buffers were pending: it does not yet take part in the choice of the next frame (R514). -/
  late : Bool := false
  /-- Aborted while in transmission: removed if that attempt fails (R516). -/
  aborted : Bool := false
  deriving DecidableEq, Repr, Inhabited

/-- A CAN controller beyond its registers (R507 to R517). -/
structure CanBus where
  /-- CAN_CFG, CAN_NBT and CAN_DBT as the controller runs on them (R510). -/
  cfg : Word := 0x2a00a00000000000
  nbt : Word := 0x404000000000
  dbt : Word := 0x5f4200000000000
  rxq : Vector (List (CanRx × Nat)) 2 := Vector.replicate 2 []
  shadow : Vector (Option (CanRx × Nat)) 2 := Vector.replicate 2 none
  txb : Vector (Option TxFrame) 3 := Vector.replicate 3 none
  hold : List (Nat × TxFrame) := []
  /-- A SEND that awaits its SEND_CONT (R515). -/
  awaiting : Option (Hdr × Slot) := none
  /-- Move of voice to come (R508). -/
  voiceAt : Option (Course × LeafId) := none
  /-- Bus-off: its course, a recovery from it runs, the course of the last recovery; a lasting bus-off (R517). -/
  boAt : Option Course := none
  recovering : Bool := false
  recAt : Option Course := none
  lasting : Bool := false
  deriving DecidableEq, Repr, Inhabited

/-- Sequence recovery of a stream (R524): the vector recovery algorithm of IEEE 802.1CB. -/
structure Recov where
  takeAny : Bool := true
  seq : Nat := 0
  history : List Bool := []
  last : Course := 0
  deriving DecidableEq, Repr, Inhabited

/-- The CAN controllers and the switch of a leaf. -/
structure Net where
  can : Vector CanBus 4 := Vector.replicate 4 default
  /-- A crash frame has come since the last seal (R511). -/
  crash : Bool := false
  /-- Learnt addresses with their port and the course last seen (R520). -/
  fdb : List (BitVec 48 × Nat × Course) := []
  recov : Vector Recov 16 := Vector.replicate 16 default
  /-- Frames of IR8 buffers read, under their DSEQ, until their use (R471, R523). -/
  bufs : List (BitVec 32 × EthFrame) := []
  /-- Course in which each port's link went down, and losses that ended within 1 s (R527). -/
  downAt : Vector (Option Course) 2 := Vector.replicate 2 none
  linkTrans : Nat := 0
  /-- Network time (R525, R526): grandmaster, changed since the last report, course of the last Sync, the last base in
  course, tick and nanoseconds, the rate ratio, and the nanoseconds of the last report. -/
  gm : BitVec 64 := 0
  gmChanged : Bool := false
  syncAt : Option Course := none
  baseCourse : Course := 0
  baseTick : Nat := 0
  baseNs : Rat := 0
  rate : Rat := 1
  lastNs : Rat := 0
  deriving DecidableEq, Repr
/-- A record in a leaf's store (R543 to R546). -/
structure LStored where
  rec_ : LRec
  /-- It awaits its signature; the first check of a signature failed (R543). -/
  pending : Bool := false
  retried : Bool := false
  deriving DecidableEq, Repr, Inhabited

/-- A carry word (R544): the four counters, GAP, the RECNO they follow, and the course of writing. -/
structure CarryWord where
  energies : List Nat := [0, 0, 0, 0]
  gap : Nat := 0
  recno : Nat := 0
  course : Course := 0
  deriving DecidableEq, Repr, Inhabited

/-- The ledger of a leaf beyond its registers (R532 to R549). -/
structure Ldg where
  /-- Records in the ring, oldest first; archived, oldest first; superseded. -/
  ring : List LStored := []
  archive : List LRec := []
  superseded : List LRec := []
  /-- Digest of the newest record (R542), and the RECNO up to which LEDGER units have been sent. -/
  lastDigest : BitVec 256 := 0
  sent : Nat := 0
  /-- Unrounded remainders of the counters, units of 2^-16 J, below one (R534). -/
  rem_ : Vector Rat 4 := Vector.replicate 4 0
  /-- The interval since the last record: courses of GAP, sum and number of SP13 means, SAT and STANDIN seen. -/
  gap : Nat := 0
  vSum : Rat := 0
  vN : Nat := 0
  sat : Bool := false
  standin : Bool := false
  auxUnmetered : Bool := false
  /-- SP13 means of the window being formed (R533). -/
  wSum : Rat := 0
  wN : Nat := 0
  /-- Own counters after each window since the record last compared, oldest first (R536). -/
  trail : List (Course × List Nat) := []
  base : List Nat := [0, 0, 0, 0]
  xchkRun : Bool := false
  lastRx : Nat := 0
  /-- Counters of the newest record of the chain. -/
  chainE : List Nat := [0, 0, 0, 0]
  /-- Charge session: P1 energy in units of 2^-16 J, highest I_LIM in 0.1 A (R541). -/
  sessE : Rat := 0
  sessLim : Nat := 0
  /-- Session generation last used (R537). -/
  gen : Nat := 0
  /-- Public half of the signing key made at production (R613). -/
  pub : BitVec 512 := 0
  carryA : CarryWord := {}
  carryB : CarryWord := {}
  carryAt : Course := 0
  carryNextB : Bool := false
  /-- gPTP seconds of the last report, and SYNC in it (R526, R539). -/
  gptp : Nat := 0
  timeValid : Bool := false
  /-- Course of the last MINUTE or HOUR (R538). -/
  minuteAt : Option Course := none
  /-- Records whose two archive copies are lost (R545). -/
  lost : List Nat := []
  deriving DecidableEq, Repr

/-- What answers a service request (R550). -/
inductive SvcKind
  | records (first count : Nat)
  | status
  | keys
  | superseded (first count : Nat)
  | history (first count : Nat) (days : Bool)
  | grade
  deriving DecidableEq, Repr, Inhabited

/-- A service request in work (R480, R550 to R552): its header, its kind, the next part, the sender where it came by
network, and whether a grade report is built. -/
structure SvcReq where
  hdr : Hdr
  op : Nat
  kind : SvcKind
  part : Nat := 0
  net : Option (Nat × Nat × Nat) := none
  deriving DecidableEq, Repr

/-- An hour record (R556): its hour index, its length, its content as byte offset, width and value. -/
structure Hour where
  index : Nat
  len : Nat
  items : List (Nat × Nat × Nat)
  flagged : Bool
  seeded : Bool
  stress : Nat
  deriving DecidableEq, Repr, Inhabited

/-- The history of a leaf (R554 to R559). -/
structure His where
  map : List MapEntry := []
  /-- Values received: 1024 × quantity + index, value and course; those marked stale (R555). -/
  bms : List (Nat × (Int × Course)) := []
  stale : List Nat := []
  /-- The hour being formed: residence counts under their byte offset, estimates, fault word changes (R556). -/
  from_ : Course := 0
  bins : List (Nat × Nat) := []
  estimates : List (BitVec 64) := []
  changes : List (Nat × Nat) := []
  stats : List (Nat × (Int × Int × Int × Nat)) := []
  unseeded : Bool := false
  wasStale : Bool := false
  ahIn : Rat := 0
  ahOut : Rat := 0
  hourIn : Rat := 0
  hourOut : Rat := 0
  dayIn : Rat := 0
  dayOut : Rat := 0
  socMin : Option Int := none
  socMax : Option Int := none
  hot : Option Int := none
  cold : Option Int := none
  spread : Int := 0
  hours : List Hour := []
  /-- Days closed and the hours of the day being formed; steps of the day that qualify (R558). -/
  days : List DaySum := []
  dayHours : Nat := 0
  dayFlagged : Nat := 0
  dayRes : List Nat := []
  faultChanges : Nat := 0
  taintHours : Nat := 0
  /-- The last 160 courses' SP14 and SP13 means, newest first; the step in work: first course, pre-window means and
  whether its spread qualifies (R557). -/
  recent : List (Rat × Rat) := []
  step : Option (Course × Rat × Rat × Bool) := none
  /-- Courses of seeded hours, those of them with stress (R559), in the hour being formed; course of the last close. -/
  hourN : Nat := 0
  hourStress : Nat := 0
  closedAt : Option Course := none
  /-- Day digest last formed (R558). -/
  dayDigest : BitVec 256 := 0
  /-- A grade report in work: the course it was asked for (R559). -/
  gradeAt : Option Course := none
  gradeReqs : List SvcReq := []
  /-- Base taken from the LEAD leaf's summary (R558). -/
  baseDay : Option DaySum := none
  deriving DecidableEq, Repr

/-- Service requests of a leaf (R480, R550). -/
structure Svc where
  queue : List SvcReq := []
  /-- Requests of IR2 consumed in FOLLOW, answered with 0x0301 at a takeover (R480). -/
  consumed : List Hdr := []
  deriving DecidableEq, Repr
/-- A personality slot (R567, R586): the image it holds, as its header gives it (R565). -/
structure ImgSlot where
  valid : Bool := false
  secver : Nat := 0
  featver : Nat := 0
  setFmt : Nat := 2
  mirMin : Nat := 0
  mirMax : Nat := 0
  digest : Nat := 0
  deriving DecidableEq, Repr, Inhabited

/-- A stream on IR9 (R569 to R571): its header, its kind, its leaves (TARGET), and the course of its STREAM_CLOSE. -/
structure Stream where
  header : BitVec 2560
  kind : Nat
  target : Nat
  closedAt : Option Course := none
  deriving DecidableEq, Repr, Inhabited

/-- The flash of a leaf (R564, R567, R576, R580). -/
structure Upd where
  slots : Vector ImgSlot 2 := #v[{ valid := true }, {}]
  active : Nat := 0
  trial : Bool := false
  floorP : Nat := 0
  floorS : Nat := 0
  /-- Digest of the enrolled integrator key (R564). -/
  ikey : Option (BitVec 256) := none
  /-- The settings records by role (R580). -/
  current : Option Settings := none
  previous : Option Settings := none
  source : Option Settings := none
  import_ : Option Settings := none
  staged : Option Settings := none
  /-- The highest generation number given so far (R579). -/
  genTop : Nat := 0
  /-- The generation in force is unconfirmed (R582). -/
  genUnconf : Bool := false
  /-- STAGED was refused by SET_APPLY: it becomes CURRENT at the next module BOOT (R582). -/
  atBoot : Bool := false
  /-- Generation 0 of the running image (R578). -/
  factory : Settings := {}
  stream : Option Stream := none
  /-- A revert goes on with the other leaf (R577). -/
  reverting : Bool := false
  /-- The restart that runs started this image for the first time (R572). -/
  newStart : Bool := false
  /-- The mixed interval (R575): its first course, last event. -/
  mixedAt : Option Course := none
  mixEventAt : Option Course := none
  deriving DecidableEq, Repr
/-- Self-test of a leaf beyond its registers (R602 to R608). -/
structure Bst where
  /-- Course in which the last memory step ended. -/
  stepEnd : Course := 0
  /-- Segments mapped out, and spares used in each of the five memories (R603, R604). -/
  badSegs : List Nat := []
  spares : Vector Nat 5 := Vector.replicate 5 0
  /-- A failed segment with no spare is carried on with (R604); course of the last event. -/
  carriedOn : Bool := false
  eventAt : Course := 0
  /-- A full-leaf BIST runs (R606), and the course in which the tests began. -/
  fullAt : Option Course := none
  /-- Words stored with a given check byte (R608): space, engine, address; data; check. -/
  injected : List ((Nat × Nat × Nat) × (Word × Byte)) := []
  /-- The keystone or a bonded engine is halted by a debugger (R611). -/
  halted : Bool := false
  deriving DecidableEq, Repr

/-- The service port (R609 to R613). Courses are those of leaf 0. -/
structure Sec where
  /-- The nonce sent and the course it was sent in. -/
  nonce : Option (BitVec 256 × Course) := none
  who : Nat := 0
  rights : BitVec 6 := 0
  accessAt : Course := 0
  /-- Consecutive failed attempts, the length of the last lockout, and the course it began. -/
  fails : Nat := 0
  lockLen : Nat := 0
  lockAt : Option Course := none
  /-- EXTEST or INTEST is loaded (R612). -/
  scan : Bool := false
  deriving DecidableEq, Repr
/-- A shared output at the arbiter (R17): each leaf's last command and the courses since one came, the leaf that supplied
it, its level (a coil on, a line asserted, S2 closed), and whether the other leaf commanded otherwise. -/
structure ArbOut where
  cmd : Vector Bool 2 := #v[false, false]
  age : Vector Nat 2 := #v[2, 2]
  src : Option LeafId := none
  level : Bool := false
  differ : Bool := false
  deriving DecidableEq, Repr, Inhabited

/-- The output arbiter (R17, R304, R426, R447, R628 to R631): main+, main−, precharge, FAULT_N, READY_N, CHG_INT_N, S2. -/
structure Arb where
  outs : Vector ArbOut 7 := Vector.replicate 7 default
  /-- The leaf taken as LEAD. -/
  lead : LeafId := .leaf0
  /-- The crash latch (R304, R601). -/
  crash : Bool := false
  /-- Resistance from each COIL_x_DEF pin to SIG_RTN, in ohms (R631): fixed by the integrator. -/
  coilOhm : Vector Nat 3 := #v[2000000, 2000000, 2000000]
  /-- FAULT_N, READY_N and CHG_INT_N are linked to their DEF pins (R629): fixed by the integrator. -/
  lineLink : Vector Bool 3 := #v[false, false, false]
  /-- Coil drivers turned off after 250 ms in current limit (R630), and what has been reported of each: bit 0 a switch failed
  open, 1 a switch failed short, 2 open load, 3 short, 4 a DEF resistance outside the bands (R447, R630, R631). -/
  coilOff : Vector Bool 3 := #v[false, false, false]
  coilFault : Vector (BitVec 5) 3 := #v[0, 0, 0]
  deriving DecidableEq, Repr

/-- What the update-0 frame of a channel placed in a course (R42, R44): each edge under the number that names it in its
period (0 and 1 the edges of the period, 2 the level of a stage that does not switch, 3 the level at a start), its fine
tick, and the level after it. -/
structure Upd0 where
  course : Course := 0
  edges : List (Nat × Nat × Bool) := []
  deriving DecidableEq, Repr, Inhabited

/-- One leaf (R15). -/
structure Leaf where
  id : LeafId
  /-- Register values under their offsets, offsets rising; an offset not listed holds its reset value. -/
  regs : List (Nat × Word) := []
  role : Role := .boot
  /-- CRS_COUNT (R30). -/
  count : Course := 0
  /-- Fine tick within the course (R29). -/
  tick : Nat := 0
  /-- Output paths held idle by the silence circuit (R427). -/
  cut : Bool := false
  out : List Out := []
  crs : Crs := {}
  ash : Ash := {}
  cmp : Cmp := {}
  sns : Sns := {}
  pos : Vector Pos 2 := Vector.replicate 2 default
  gst : Vector ChanStat 48 := Vector.replicate 48 default
  rot : GchRot := {}
  /-- The edges placed by the update-0 frames last sent to each channel (R42, R44). -/
  upd0 : Vector Upd0 48 := Vector.replicate 48 default
  trc : Trc := {}
  lnk : Lnk := {}
  chg : Chg := {}
  /-- Results of the last course's blocks, latched at the seal. -/
  was : Was := {}
  act : Act := {}
  thm : Thm := {}
  tie : Tie := {}
  hre : Hre := {}
  net : Net := {}
  ldg : Ldg := {}
  his : His := {}
  svc : Svc := {}
  upd : Upd := {}
  bst : Bst := {}
  deriving DecidableEq, Repr

/-- The module. -/
structure State where
  mode : Mode := .boot
  leaf0 : Leaf
  leaf1 : Leaf
  /-- The commands that wait, first in, first out. -/
  pending : List Instr := []
  /-- What the last register read returned: the value, or Completer Abort (R10). -/
  readData : Option Word := none
  /-- How many free values have been taken (log entry 4): plain data, advanced by every step that takes one. -/
  fresh : Nat := 0
  /-- GLB_ID.VARIANT and GLB_ID.SREV (R14): fixed by the part's ordering code and silicon. -/
  variantEv : Bool := false
  srev : BitVec 8 := 0
  pins : Pins := {}
  chans : Vector Chan 48 := Vector.ofFn fun i =>
    { cfg := BitVec.ofNat 64 (GCH_CFG.resetAt i), prot := BitVec.ofNat 64 (GCH_PROT.resetAt i)
      st := if i.val = 47 then .unused else .noBias }
  groups : Vector Group 11 := Vector.replicate 11 default
  stages : Vector Stage 3 := Vector.ofFn fun i =>
    { ctrl := BitVec.ofNat 64 (ACT_CTRL.resetAt 0), cfg := BitVec.ofNat 64 (ACT_CFG.resetAt i) }
  /-- Which leaf each CAN transceiver's TXD follows (R507). -/
  xcvr : Vector (Option LeafId) 4 := Vector.replicate 4 none
  sec : Sec := {}
  arb : Arb := {}
  deriving DecidableEq, Repr

/-- A leaf right after reset. -/
def Leaf.reset (l : LeafId) : Leaf := { id := l }

/-- The module right after reset: every register at its reset value (R601), GLB_STAT.STATE at its reset value BOOT
(R616), with the supplies present (log entry 1). -/
def State.reset : State := { leaf0 := Leaf.reset .leaf0, leaf1 := Leaf.reset .leaf1 }

end Sys2Proof.Machine
end

