-- ==== Sys2Proof/Machine/Ops.lean ====
section
/-! DEFINITION. The named operations over the state: fields of a word, the registers of a leaf, the leaves of the
module, course arithmetic, and what a leaf puts out. -/

namespace Sys2Proof.Machine

open Sys2Proof

/-! ### Fields of a word -/

/-- The bits `[hi:lo]` of a word as a number (R11). -/
def fieldOf (w : Word) (hi lo : Nat) : Nat := (w.toNat >>> lo) % 2 ^ (hi + 1 - lo)

/-- Ones in the bits `[hi:lo]`. -/
def maskOf (hi lo : Nat) : Word := BitVec.ofNat 64 (2 ^ (hi + 1 - lo) - 1) <<< lo

/-- A word with the bits `[hi:lo]` replaced. -/
def setField (w : Word) (hi lo v : Nat) : Word :=
  (w &&& ~~~ maskOf hi lo) ||| ((BitVec.ofNat 64 v <<< lo) &&& maskOf hi lo)

/-- Byte `n` of a number. -/
def byteOf (v n : Nat) : Nat := (v >>> (8 * n)) % 256

/-- The value of the `n`-bit two's complement number `v` (R7). -/
def signed (n v : Nat) : Int := if v % 2 ^ n < 2 ^ (n - 1) then (v % 2 ^ n : Nat) else (v % 2 ^ n : Nat) - (2 ^ n : Nat)

/-- The `n`-bit two's complement form of an integer. -/
def unsigned (n : Nat) (v : Int) : Nat := (v % (2 ^ n : Nat)).toNat

/-- An integer limited to a range. -/
def clampInt (lo hi v : Int) : Int := if v < lo then lo else if hi < v then hi else v

/-- A number limited to a range: "stored as the nearer limit". -/
def clampNat (lo hi v : Nat) : Nat := if v < lo then lo else if hi < v then hi else v

/-- A signed result stored in `n` bits, limited to what the format holds. -/
def satSigned (n : Nat) (v : Int) : Nat :=
  unsigned n (clampInt (-(2 ^ (n - 1) : Nat)) ((2 ^ (n - 1) : Nat) - 1) v)

/-! ### Tables of a fixed number of like things -/

/-- Member `i` of a table. -/
def pick {α : Type} [Inhabited α] {n : Nat} (v : Vector α n) (i : Nat) : α := (v[i]?).getD default

/-- A table with member `i` changed. -/
def alter {α : Type} [Inhabited α] {n : Nat} (v : Vector α n) (i : Nat) (f : α → α) : Vector α n :=
  v.setIfInBounds i (f (pick v i))

/-! ### Registers -/

/-- What a list of keys and values, keys rising, holds under a key. -/
def kvFind {α : Type} : List (Nat × α) → Nat → Option α
  | [], _ => none
  | (k, w) :: t, a => if a = k then some w else if a < k then none else kvFind t a

/-- The list with a value put under a key, keys rising. -/
def kvPut {α : Type} : List (Nat × α) → Nat → α → List (Nat × α)
  | [], a, v => [(a, v)]
  | (k, w) :: t, a, v =>
    if a = k then (a, v) :: t else if a < k then (a, v) :: (k, w) :: t else (k, w) :: kvPut t a v

/-- Register `i` of a family, as it stands in the leaf. -/
def Leaf.word (L : Leaf) (r : Reg) (i : Nat := 0) : Word :=
  (kvFind L.regs (r.addr i)).getD (BitVec.ofNat 64 (r.resetAt i))

/-- The leaf with register `i` of a family replaced. -/
def Leaf.setWord (L : Leaf) (r : Reg) (i : Nat) (w : Word) : Leaf :=
  { L with regs := kvPut L.regs (r.addr i) w }

/-- The value of a field. -/
def Leaf.get (L : Leaf) (f : Fld) (i : Nat := 0) : Nat := fieldOf (L.word f.reg i) f.hi f.lo

/-- The leaf with a field replaced. -/
def Leaf.put (L : Leaf) (f : Fld) (v : Nat) (i : Nat := 0) : Leaf :=
  L.setWord f.reg i (setField (L.word f.reg i) f.hi f.lo v)

/-- Whether a field is not 0. -/
def Leaf.on (L : Leaf) (f : Fld) (i : Nat := 0) : Bool := L.get f i != 0

/-- A Boolean as a field value. -/
def bit (b : Bool) : Nat := if b then 1 else 0

/-- A counter raised by `n`, saturating at its largest value. -/
def Leaf.bumpBy (L : Leaf) (f : Fld) (n : Nat) (i : Nat := 0) : Leaf :=
  L.put f (min (L.get f i + n) f.max) i

/-- A counter raised by one, saturating at its largest value. -/
def Leaf.bump (L : Leaf) (f : Fld) (i : Nat := 0) : Leaf := L.bumpBy f 1 i

/-- A field that holds the largest value seen. -/
def Leaf.keepMax (L : Leaf) (f : Fld) (v : Nat) (i : Nat := 0) : Leaf :=
  L.put f (max (L.get f i) (min v f.max)) i

/-- Bit `k` of a field. -/
def Fld.bit (f : Fld) (k : Nat) : Fld := { f with hi := f.lo + k, lo := f.lo + k }

/-! ### Courses -/

/-- Courses from `start` to `now`. -/
def since (now start : Course) : Nat := (now - start).toNat

/-- A course some way after another. -/
def after (c : Course) (n : Nat) : Course := c + BitVec.ofNat 48 n

/-- The signed distance of R53 for counters `w` bits wide; `none` is STALE. -/
def distance (a b w : Nat) : Option Int :=
  let d := (b + 2 ^ w - a % 2 ^ w) % 2 ^ w
  if d < 2 ^ (w - 1) then some d else if 2 ^ (w - 1) < d then some ((d : Int) - (2 ^ w : Nat)) else none

/-- Whether `b` lies after `a` under R53. -/
def isAfter (a b w : Nat) : Bool :=
  match distance a b w with
  | some d => 0 < d
  | none => false

/-- CRS_FINE at a tick of a course (R30). -/
def fineAt (c : Course) (tick : Nat) : Fine := BitVec.ofNat 32 (c.toNat * 4000 + tick)

/-- CRS_FINE of the leaf now. -/
def Leaf.fine (L : Leaf) : Fine := fineAt L.count L.tick

/-! ### Leaves -/

/-- A leaf of the module. -/
def State.leaf (s : State) : LeafId → Leaf
  | .leaf0 => s.leaf0
  | .leaf1 => s.leaf1

/-- The module with one leaf replaced. -/
def State.setLeaf (s : State) (l : LeafId) (L : Leaf) : State :=
  match l with
  | .leaf0 => { s with leaf0 := L }
  | .leaf1 => { s with leaf1 := L }

/-- The module with one leaf changed. -/
def State.on (s : State) (l : LeafId) (f : Leaf → Leaf) : State := s.setLeaf l (f (s.leaf l))

/-- The module with both leaves changed. -/
def State.both (s : State) (f : Leaf → Leaf) : State := { s with leaf0 := f s.leaf0, leaf1 := f s.leaf1 }

/-- TIE_STAT codes (R453); a leaf still in BOOT reads the reset value. -/
def Role.code : Role → Nat
  | .boot => 0
  | .lead => 0
  | .follow => 1
  | .restart => 2
  | .align => 3
  | .out => 4

/-- Module state codes (R465). -/
def Mode.code : Mode → Nat
  | .off => 0
  | .park => 1
  | .boot => 2
  | .ready => 3
  | .carry => 4
  | .workshop => 5

/-- A leaf that carries: LEAD or FOLLOW (R6, R20). -/
def Leaf.carrying (L : Leaf) : Bool := L.role == .lead || L.role == .follow

/-- A leaf that computes every course (R6). -/
def Leaf.computing (L : Leaf) : Bool := L.carrying || L.role == .align

/-- A leaf whose output paths carry units (R427, R428). -/
def Leaf.sending (L : Leaf) : Bool := L.carrying && !L.cut

/-- The leaf that declares LEAD: leaf 0 before leaf 1 where both do (R6: only after a loss of the tie link). -/
def State.leadId (s : State) : Option LeafId :=
  if s.leaf0.role == .lead && !s.leaf0.cut then some .leaf0
  else if s.leaf1.role == .lead && !s.leaf1.cut then some .leaf1 else none

/-- The leaf in FOLLOW. -/
def State.followId (s : State) : Option LeafId :=
  if s.leaf0.role == .follow && !s.leaf0.cut then some .leaf0
  else if s.leaf1.role == .follow && !s.leaf1.cut then some .leaf1 else none

/-- The settings can be written directly: READY or WORKSHOP (R13). -/
def State.setup (s : State) : Bool := s.mode == .ready || s.mode == .workshop

/-- A power output of the leaf: sent only while it sends. -/
def Leaf.emit (L : Leaf) (o : Out) : Leaf := if L.sending then { L with out := L.out ++ [o] } else L

/-- A bus-master write or read, idle while the silence circuit holds the port (R427, R428). -/
def Leaf.emitHost (L : Leaf) (o : Out) : Leaf := if L.cut then L else { L with out := L.out ++ [o] }

/-- A change of role: the course of the change stands in TIE_STAT.SINCE (R453). -/
def Leaf.setRole (L : Leaf) (r : Role) : Leaf :=
  ({ L with role := r } : Leaf).put TIE_STAT_SINCE L.count.toNat |>.put TIE_STAT_STATE r.code

/-- One free value, and the module that has taken it (log entry 4). -/
def State.take (s : State) : Nat × State := (Config.freeNat s.fresh, { s with fresh := s.fresh + 1 })

/-- The outcome of a command that always completes. -/
abbrev Done : Type := Host.Outcome State Fault Refusal

/-- The host's identity on a leaf. -/
def hostId (l : LeafId) : Nat := 1 + l.num

/-- A command that acts on one leaf alone. -/
def onLeaf (s : State) (l : LeafId) (f : Leaf → Leaf) : Done := .next (s.on l f)

/-- A command whose effect needs a condition; where the condition does not hold nothing changes (log entry 2). -/
def guarded (s : State) (c : Bool) (t : State) : Done := .next (if c then t else s)

end Sys2Proof.Machine
end

