-- ==== Sys2Proof/Machine/Flags.lean ====
section
/-! DEFINITION. Sticky flags, counters and what reports them: events on OR1 (R648, R649), completions on OR2 (R477),
and the queues of the output rings (R475). -/

namespace Sys2Proof.Machine

open Sys2Proof

/-- Values laid into bytes 16 to 63 of an entry: byte offset, width in bytes, value. -/
def body (l : List (Nat × Nat × Nat)) : BitVec 384 :=
  BitVec.ofNat 384 (l.foldl (fun a p => a + ((p.2.2 % 2 ^ (8 * p.2.1)) <<< (8 * (p.1 - 16)))) 0)

/-- An output ring that is written: enabled, with the ring engine running (R475, R488). -/
def Leaf.ringOpen (L : Leaf) (r : Nat) : Bool :=
  decide (r < 10) && L.on HRE_ORCFG_EN r && L.on HRE_STAT_RUNNING

/-- Entries waiting for a ring in a queue. -/
def queued (q : List OutEntry) (r : Nat) : Nat := (q.filter fun e => e.ring == r).length

/-- The KIND of an entry: byte 16. -/
def OutEntry.kind (e : OutEntry) : Nat := e.body.toNat % 256

/-- Entries of a COMMON queue that wait with an entry: on OR3 the stream entries have a queue of their own (R121). -/
def queuedWith (q : List OutEntry) (e : OutEntry) : Nat :=
  (q.filter fun x => x.ring == e.ring && (e.ring != 3 || (x.kind == 1) == (e.kind == 1))).length

/-- A drop of an output entry, counted in DROPPED of the next entry, in HRE_CNT and in OR_DROP (R475). -/
def Leaf.dropEntry (L : Leaf) (r : Nat) : Leaf :=
  ({ L with hre := { L.hre with
      dropped := alter L.hre.dropped r fun n => min (n + 1) 0xFFFF
      orDrop := L.hre.orDrop ||| (1#32 <<< r) } } : Leaf).bump HRE_CNT_DROP |>.put HRE_ERR_DROP 1

/-- An entry produced for an output ring: discarded while the ring is not written, dropped where its queue holds 64
entries, and queued otherwise (R475). -/
def Leaf.produce (L : Leaf) (e : OutEntry) : Leaf :=
  if !L.ringOpen e.ring then L
  else if e.isLocal then
    if 64 ≤ queued L.hre.locQ e.ring then L.dropEntry e.ring
    else { L with hre := { L.hre with locQ := L.hre.locQ ++ [e] } }
  else
    if 64 ≤ queuedWith L.hre.comQ e then L.dropEntry e.ring
    else { L with hre := { L.hre with comQ := L.hre.comQ ++ [e] } }

/-- An event entry of OR1: code, repeat flag, bytes 26 to 31, bytes 32 to 63 (R648). -/
def Leaf.eventEntry (L : Leaf) (code rep subj detail : Nat) : Leaf :=
  L.produce
    { ring := 1, isLocal := true, course := L.count
      body := body [(16, 2, code), (18, 1, rep), (20, 6, L.count.toNat), (26, 6, subj), (32, 32, detail)] }

/-- An event posted once. -/
def Leaf.event (L : Leaf) (code : Nat) (subj detail : Nat := 0) : Leaf := L.eventEntry code 0 subj detail

/-- An event a rule posts again while its condition stands. -/
def Leaf.eventAgain (L : Leaf) (code : Nat) (subj detail : Nat := 0) : Leaf := L.eventEntry code 1 subj detail

/-- The event of a named bit: code 0x0400, the register's offset, the bit, the register's value (R649). -/
def Leaf.bitEvent (L : Leaf) (f : Fld) (i : Nat := 0) (rep : Nat := 0) : Leaf :=
  L.eventEntry 0x0400 rep (f.reg.addr i + (f.lo <<< 32)) (L.word f.reg i).toNat

/-- A named bit set, with its event. -/
def Leaf.raise (L : Leaf) (f : Fld) (i : Nat := 0) : Leaf := (L.put f 1 i).bitEvent f i

/-- A sticky bit set without an event. -/
def Leaf.stick (L : Leaf) (f : Fld) (i : Nat := 0) : Leaf := L.put f 1 i

/-- The event of a write discarded or refused: code 0x0500 (R649). A BAR2 offset has bit 20 set in this model's
numbering; the entry shows it in bit 31. -/
def Leaf.discardEvent (L : Leaf) (off who via : Nat) (value mask : Nat) : Leaf :=
  L.event 0x0500 (off % 2 ^ 20 + (if 2 ^ 20 ≤ off then 2 ^ 31 else 0) + (who <<< 32) + (via <<< 40))
    (value + (mask <<< 64))

/-- The mask of a direct write. -/
def allOnes : Nat := 2 ^ 64 - 1

/-- The event of a direct write discarded. -/
def Leaf.discard (L : Leaf) (off who value : Nat) : Leaf := L.discardEvent off who 0 value allOnes

/-- The event of a difference between the leaves: code 0x0600, block, index, both values, the course in which the
difference began (R649). -/
def Leaf.differEvent (L : Leaf) (block index mine theirs : Nat) (began : Course) : Leaf :=
  L.event 0x0600 (block + (index <<< 8)) (mine + (theirs <<< 64) + (began.toNat <<< 128))

/-- The codes of R477 that a leaf posts for itself. -/
def localCode (c : Nat) : Bool := c == 0x0101 || c == 0x0102 || c == 0x0301 || c == 0x0302

/-- A completion on OR2 (R477): a success only where the descriptor asked for one, a refusal always, counted. -/
def Leaf.complete (L : Leaf) (h : Hdr) (code : Nat) (effect detail : Nat := 0) : Leaf :=
  if code < 0x0100 && !h.want then L
  else
    let L := L.produce
      { ring := 2, isLocal := localCode code, course := L.count
        body := body [(16, 1, 1), (17, 1, h.ring), (18, 2, code), (20, 4, h.dseq.toNat), (24, 2, h.tag),
          (26, 6, effect), (32, 4, detail)] }
    if code < 0x0100 then L else L.bump HRE_CNT_DESC_ERR

/-- A completion of a decision that both carrying leaves post (R477). -/
def State.completeBoth (s : State) (h : Hdr) (code : Nat) (effect detail : Nat := 0) : State :=
  s.both fun L => if L.carrying then L.complete h code effect detail else L

end Sys2Proof.Machine
end

