-- ==== Sys2Proof/Machine/Operands.lean ====
section
/-! DEFINITION. The operands that reach a leaf as bytes: the fields of a descriptor, the two CRCs of R213, and the
checks every descriptor passes before its opcode is looked at (R469 to R472). -/

namespace Sys2Proof.Machine

open Sys2Proof

/-- `w` bytes of a descriptor from byte `off`, little-endian. -/
def sl (d : Slot) (off w : Nat) : Nat := (d.toNat >>> (8 * off)) % 2 ^ (8 * w)

/-- Bits `[hi:lo]` of the `w` bytes from byte `off`. -/
def slBits (d : Slot) (off w hi lo : Nat) : Nat := (sl d off w >>> lo) % 2 ^ (hi + 1 - lo)

/-- One byte into a CRC of `n` bits with polynomial `p`, most significant bit first. -/
def crcByte (n p c b : Nat) : Nat :=
  [0, 1, 2, 3, 4, 5, 6, 7].foldl
    (fun c _ => if (c >>> (n - 1)) % 2 = 1 then ((c <<< 1) ^^^ p) % 2 ^ n else (c <<< 1) % 2 ^ n)
    (c ^^^ (b <<< (n - 8)))

/-- CRC-16 of R213: polynomial x^16 + x^12 + x^5 + 1, initial value 0xFFFF. -/
def crc16 (bytes : List Nat) : Nat := bytes.foldl (crcByte 16 0x1021) 0xFFFF

/-- CRC-8 of R213: polynomial x^8 + x^2 + x + 1, initial value 0xFF. -/
def crc8 (bytes : List Nat) : Nat := bytes.foldl (crcByte 8 0x07) 0xFF

/-- Bytes `from` to `from + n - 1` of a number, lowest first. -/
def bytesOf (v start : Nat) : Nat → List Nat
  | 0 => []
  | n + 1 => byteOf v start :: bytesOf v (start + 1) n

/-- The CRC of R469: over bytes 0 to 13 and 16 to 63. -/
def slotCrc (d : Slot) : Nat := crc16 (bytesOf d.toNat 0 14 ++ bytesOf d.toNat 16 48)

/-- The header of a descriptor (R469). -/
def hdrOf (d : Slot) : Hdr :=
  { ring := sl d 0 1
    want := slBits d 1 1 1 1 == 1
    target := slBits d 1 1 3 2
    tag := sl d 2 2
    dseq := BitVec.ofNat 32 (sl d 4 4)
    effect := BitVec.ofNat 48 (sl d 8 6) }

/-- The PHASE a slot written at an index carries (R467). -/
def phaseAt (index log2 : Nat) : Nat := (index / 2 ^ log2 + 1) % 2

/-- Descriptors of a ring the last doorbell fetch shows as produced; `none` where the index is an overrun (R472). -/
def Leaf.waiting (L : Leaf) (ring : Nat) : Option Nat :=
  match distance (L.get HRE_IRCFG_CONS ring) (L.get HRE_IRCFG_PROD ring) 16 with
  | some d => if 0 ≤ d && d ≤ ((2 ^ L.get HRE_IRCFG_LOG2SIZE ring : Nat) : Int) then some d.toNat else none
  | none => none

/-- The leaf reads the next descriptor of a ring (R444, R457, R472): it carries, its ring engine and its link run, the
ring is enabled, a descriptor waits, and neither FETCH nor the byte budget of the course is spent. -/
def Leaf.canRead (L : Leaf) (ring : Nat) : Bool :=
  L.sending && L.on HRE_STAT_RUNNING && L.on HRE_STAT_LINK_UP && L.on HRE_STAT_BME && L.on HRE_IRCFG_EN ring &&
    decide ((L.waiting ring).getD 0 ≠ 0) && decide (pick L.hre.fetched ring < L.get HRE_IRCFG_FETCH ring) &&
    decide (L.hre.readBytes + 64 ≤ 4352)

/-- IR_CONS advanced past the head descriptor (R472). -/
def Leaf.consume (L : Leaf) (ring : Nat) : Leaf :=
  let L := L.put HRE_IRCFG_CONS ((L.get HRE_IRCFG_CONS ring + 1) % 2 ^ 16) ring
  { L with hre := { L.hre with
      moved := L.hre.moved.setIfInBounds ring L.count
      retry := L.hre.retry.setIfInBounds ring none } }

/-- A read of 64 bytes charged to the course (R472). -/
def Leaf.chargeRead (L : Leaf) (ring bytes : Nat) : Leaf :=
  { L with hre := { L.hre with
      readBytes := L.hre.readBytes + bytes
      fetched := alter L.hre.fetched ring (· + 1) } }

/-- A first read that failed: its sticky flag, IR_ERR, RD_ERR, and one more read owed (R470). -/
def Leaf.failFirst (L : Leaf) (ring why : Nat) : Leaf :=
  let L := L.bump HRE_CNT_RD_ERR
  { L with hre := { L.hre with
      retry := L.hre.retry.setIfInBounds ring (some why)
      irErr := L.hre.irErr ||| (1#32 <<< ring) } }

/-- A second read that failed: the descriptor consumed with its LOCAL code (R470). -/
def Leaf.failSecond (L : Leaf) (h : Hdr) (ring code : Nat) : Leaf :=
  let L := (L.consume ring).complete { h with ring := ring } code
  { L with hre := { L.hre with irErr := L.hre.irErr ||| (1#32 <<< ring) } }

/-- The checks of R470 in their order, on the first read or on the second. The leaf after them, and the header where the
descriptor goes on to its opcode. -/
def Leaf.checkDesc (L : Leaf) (ring : Nat) (d : Desc) (second : Bool) : Leaf × Option Hdr :=
  let h := hdrOf d.bytes
  let L := L.chargeRead ring 64
  let fail := fun (L : Leaf) (why code : Nat) =>
    if second then (L.failSecond h ring code, none) else (L.failFirst ring why, (none : Option Hdr))
  if !d.readOk then fail (L.stick HRE_ERR_DESC_READ) 2 0x0302
  else if slotCrc d.bytes != sl d.bytes 14 2 then fail (L.stick HRE_ERR_CRC) 0 0x0101
  else if slBits d.bytes 1 1 0 0 != phaseAt (L.get HRE_IRCFG_CONS ring) (L.get HRE_IRCFG_LOG2SIZE ring) then
    fail (L.stick HRE_ERR_PHASE) 1 0x0102
  else if h.ring != ring then ((L.consume ring).complete { h with ring := ring } 0x0104, none)
  else
    let expected := pick L.hre.dseq ring
    let L := { L with hre := { L.hre with dseq := L.hre.dseq.setIfInBounds ring (some h.dseq) } }
    if expected.any fun e => h.dseq != e + 1 then
      (((L.consume ring).stick HRE_ERR_DSEQ).complete h 0x0103, none)
    else if h.target != 0 && (ring != 9 || h.target == 3) then ((L.consume ring).complete h 0x0105 0 1, none)
    else if h.target != 0 && h.target != L.id.num + 1 then (L.consume ring, none)
    else (L.consume ring, some h)

/-- A descriptor's opcode: byte 16. -/
def opcode (d : Slot) : Nat := sl d 16 1

/-- The opcodes each input ring carries (R122, R265, R296, R341, R381, R460, R515, R523, R550, R569). -/
def ringOps (ring : Nat) : List Nat :=
  match ring with
  | 0 => [0x20, 0x30, 0x40, 0x50]
  | 1 => [0x08, 0x09]
  | 2 => [0x80, 0x81, 0x82, 0x83, 0x84, 0x85]
  | 3 => [0x01, 0x02, 0x03, 0x10, 0x11]
  | 8 => [0x70]
  | 9 => [0x90, 0x91, 0x92, 0x93]
  | _ => if 4 ≤ ring ∧ ring ≤ 7 then [0x60, 0x61, 0x62] else []

/-- The descriptor is whole and is another command's (log entry 2). -/
def otherRow (ring op : Nat) (d : Desc) : Bool :=
  d.readOk && slotCrc d.bytes == sl d.bytes 14 2 && opcode d.bytes != op && (ringOps ring).contains (opcode d.bytes)

/-- A leaf reads the head descriptor of a ring, and what its opcode does follows; a descriptor of an opcode the ring does
not carry is an unknown opcode (R470, 0x0104). `act` is what the leaf does with the descriptor that passed. -/
def Leaf.readDesc (L : Leaf) (ring op : Nat) (d : Desc) (act : Leaf → Hdr → Leaf) : Leaf :=
  if L.canRead ring && (pick L.hre.retry ring).isNone && !otherRow ring op d then
    match L.checkDesc ring d false with
    | (L, none) => L
    | (L, some h) => if opcode d.bytes = op then act L h else L.complete h 0x0104 0 16
  else L

/-- A descriptor of IR0 is used from the seal after its receipt (R37, R266): it waits. -/
def Leaf.receive (d : Slot) (L : Leaf) (h : Hdr) : Leaf :=
  { L with hre := { L.hre with rxq := L.hre.rxq ++ [(h, d)] } }

end Sys2Proof.Machine
end

