-- ==== Sys2Proof/Machine/Compensator.lean ====
section
/-! DEFINITION. The compensator unit: the arithmetic of R99 to R103, the admission of a table (R104, R105), the
cascade fall-back (R106) and the switch of a table without a bump (R108). Values are integers in units of 2^-31. -/

namespace Sys2Proof.Machine

open Sys2Proof

/-- Largest value of Q1.31. -/
def qMax : Int := 2 ^ 31 - 1

/-- Smallest value of Q1.31. -/
def qMin : Int := -(2 ^ 31)

/-- 32 bits of a table from byte `off` (R110). -/
def tableWord (t : CoefTable) (off : Nat) : Nat := (t.toNat >>> (8 * off)) % 2 ^ 32

/-- Mantissa of a coefficient word, bits [31:6], signed (R110). -/
def mant (w : Nat) : Int := signed 26 (w >>> 6)

/-- Shift of a coefficient word, bits [5:0], signed (R110). -/
def shiftOf (w : Nat) : Int := signed 6 w

/-- A coefficient in units of 2^-49: mantissa times 2^(shift + 24). Shifts lie in -24 to +8 (R104). -/
def coef (t : CoefTable) (off : Nat) : Int :=
  mant (tableWord t off) * 2 ^ (shiftOf (tableWord t off) + 24).toNat

/-- A number over 2^n, rounded by adding half of the lowest kept bit and truncating (R100). -/
def roundShift (v : Int) (n : Nat) : Int := if n = 0 then v else (v + 2 ^ (n - 1)) / 2 ^ n

/-- A product of a Q1.31 value and a coefficient, rounded to Q16.48: steps 1 to 3 of R100. -/
def prod (x : Int) (w : Nat) : Int := roundShift (x * mant w) (8 - shiftOf w).toNat

/-- The accumulator rounded to Q1.31: step 5 of R100. -/
def toQ31 (acc : Int) : Int := roundShift acc 17

/-- Step 6 of R100. -/
def satQ (v : Int) : Int := clampInt qMin qMax v

/-- TYPE of a table: 1 is 3P3Z (R110). -/
def tableType (t : CoefTable) : Nat := (tableWord t 0 >>> 28) % 16

/-- FORM of a table (R110). -/
def tableForm (t : CoefTable) : Nat := (tableWord t 0 >>> 26) % 4

/-- INTEG of a table (R110). -/
def tableInteg (t : CoefTable) : Bool := (tableWord t 0 >>> 25) % 2 == 1

/-- OUT_MAX and OUT_MIN (R110). -/
def outMax (t : CoefTable) : Int := signed 32 (tableWord t 8)
def outMin (t : CoefTable) : Int := signed 32 (tableWord t 12)

/-- The direct form of R99. A 2P2Z table holds b3 = a3 = 0 (R104). -/
def evalDirect (t : CoefTable) (c : Comp) (x : Int) : Int :=
  let p := fun (off : Nat) (v : Int) => prod v (tableWord t off)
  satQ (toQ31 (p 16 x + p 20 c.x1 + p 24 c.x2 + p 28 c.x3 + p 32 c.y1 + p 36 c.y2 + p 40 c.y3))

/-- The biquad of the cascade form before its saturation (R99). -/
def evalBiquad (t : CoefTable) (x x1 x2 w1 w2 : Int) : Int :=
  let p := fun (off : Nat) (v : Int) => prod v (tableWord t off)
  toQ31 (p 44 x + p 48 x1 + p 52 x2 + p 56 w1 + p 60 w2)

/-- The last stage of the cascade form (R99). -/
def evalLast (t : CoefTable) (w w1 y1 : Int) : Int :=
  let p := fun (off : Nat) (v : Int) => prod v (tableWord t off)
  satQ (toQ31 (p 64 w + p 68 w1 + p 72 y1))

/-- What one evaluation reports beside its output. -/
structure CompOut where
  comp : Comp
  y : Int
  wSat : Bool := false
  /-- The cascade takes over from the next course (R106). -/
  takeover : Bool := false

/-- The limit of R101: the clamped value, and whether LO exceeded HI. -/
def limitOut (lo hi v : Int) : Int × Bool :=
  if hi < lo then ((if hi.natAbs < lo.natAbs then hi else lo), true) else (clampInt lo hi v, false)

/-- The histories after a course with input `x`, output `y` and biquad value `w` (R102). -/
def Comp.push (c : Comp) (x y w : Int) : Comp :=
  { c with x1 := x, x2 := c.x1, x3 := c.x2, y1 := y, y2 := c.y1, y3 := c.y2, w1 := w, w2 := c.w1 }

/-- One course of an instance (R99 to R106): `dynLo`, `dynHi` are the block's dynamic limits; `track` holds the output
of a course in TRACK; `out` is the test value added before the clamp (R111); `decides` is false in a keyed instance of the FOLLOW leaf, which takes its form from the mirror
(R107). An instance without a table outputs 0. -/
def Comp.eval (c : Comp) (x dynLo dynHi : Int) (track : Option Int) (decides : Bool) (out : Int := 0) : CompOut :=
  match pick c.bank c.active with
  | none => { comp := c, y := 0 }
  | some t =>
    let lo := max (outMin t) dynLo
    let hi := min (outMax t) dynHi
    let wRaw := evalBiquad t x c.x1 c.x2 c.w1 c.w2
    let w := satQ wRaw
    let usesW := c.form != .direct
    let direct := evalDirect t c x
    let casc := evalLast t w c.w1 c.y1
    let raw := match track, c.form with
      | some v, _ => v
      | none, .cascade => casc + out
      | none, _ => direct + out
    let (y, cross) := limitOut lo hi raw
    let disarmed := if track.isSome then 64 else c.disarmed - 1
    let exceeds := decide (((direct - casc).natAbs : Int) > tableWord t 76)
    let run := if c.form == .shadow && track.isNone && c.disarmed == 0 && exceeds then c.diffRun + 1 else 0
    let take := decides && c.form == .shadow && decide (0 < run) && decide (tableWord t 80 % 2 ^ 16 ≤ run)
    { comp := { c.push x y (if usesW then w else c.w1) with
        form := if take then .cascade else c.form
        diffRun := if take then 0 else run
        disarmed := disarmed
        satHi := decide (hi < raw) && !cross
        satLo := decide (raw < lo) && !cross
        limCross := cross }
      y := y
      wSat := usesW && wRaw != w
      takeover := take }

/-- The form a table starts in (R105). -/
def startForm (t : CoefTable) : Form :=
  if tableType t = 0 then .direct
  else match tableForm t with
    | 1 => .direct
    | 2 => .cascade
    | _ => if Config.polesClose t then .shadow else .cascade

/-- The table of bank `k` made active (R108): the histories carry over, the output history is clamped to the new
limits, the biquad of a table with a cascade is started at rest at x[n-3], and the comparison is disarmed. -/
def Comp.switch (c : Comp) (k : Nat) : Comp :=
  match pick c.bank k with
  | none => { c with active := k, bankNext := none }
  | some t =>
    let cl := clampInt (outMin t) (outMax t)
    let form := startForm t
    let rest : Int :=
      let n : Rat := coef t 44 + coef t 48 + coef t 52
      let d : Rat := (2 : Rat) ^ 49 - coef t 56 - coef t 60
      Config.rnd (c.x3 * (n / d))
    let wa := satQ (evalBiquad t c.x2 c.x3 c.x3 rest rest)
    let wb := satQ (evalBiquad t c.x1 c.x2 c.x3 wa rest)
    let c := { c with
      active := k, bankNext := none, form := form, y1 := cl c.y1, y2 := cl c.y2, y3 := cl c.y3
      diffRun := 0, disarmed := 64 }
    if form == .direct then c else { c with w1 := wb, w2 := wa }

/-! ### Admission -/

/-- CRC-32 with the IEEE 802.3 polynomial, reflected (R110, R431). -/
def crc32 (bytes : List Nat) : Nat :=
  (bytes.foldl (fun c b =>
    [0, 1, 2, 3, 4, 5, 6, 7].foldl
      (fun c _ => if c % 2 = 1 then (c >>> 1) ^^^ 0xEDB88320 else c >>> 1) (c ^^^ b)) 0xFFFFFFFF) ^^^ 0xFFFFFFFF

/-- One in the units of `coef`. -/
def one49 : Int := 2 ^ 49

/-- All roots of z^2 + p z + q strictly inside the unit circle, coefficients in units of 2^-49. -/
def inside2 (p q : Int) : Bool :=
  decide (0 < one49 + p + q) && decide (0 < one49 - p + q) && decide (q.natAbs < one49.natAbs)

/-- All roots of z^3 + p z^2 + q z + r strictly inside the unit circle (Jury's test), units of 2^-49. -/
def inside3 (p q r : Int) : Bool :=
  decide (0 < one49 + p + q + r) && decide (0 < one49 - p + q - r) && decide (r.natAbs < one49.natAbs) &&
    decide ((q * one49 - r * p).natAbs < (one49 * one49 - r * r).natAbs)

/-- Check 4 of R104. -/
def polesOk (t : CoefTable) : Bool :=
  let a1 := coef t 32
  let a2 := coef t 36
  let a3 := coef t 40
  if tableInteg t then (one49 - a1 - a2 - a3 == 0) && inside2 (one49 - a1) (one49 - a1 - a2)
  else inside3 (-a1) (-a2) (-a3)

/-- Whether a product of two coefficients, in units of 2^-98, matches a direct coefficient within
2^-20 × max(1, |coefficient|) (R104). -/
def near (v : Int) (c : Int) : Bool :=
  decide ((v - c * one49).natAbs * 2 ^ 20 ≤ (max one49.natAbs c.natAbs) * one49.natAbs)

/-- Check 5 of R104. -/
def cascadeOk (t : CoefTable) : Bool :=
  let c0 := coef t 44
  let c1 := coef t 48
  let c2 := coef t 52
  let d1 := coef t 56
  let d2 := coef t 60
  let e0 := coef t 64
  let e1 := coef t 68
  let f1 := coef t 72
  near (c0 * e0) (coef t 16) && near (c0 * e1 + c1 * e0) (coef t 20) && near (c1 * e1 + c2 * e0) (coef t 24) &&
    near (c2 * e1) (coef t 28) && near ((d1 + f1) * one49) (coef t 32) && near (d2 * one49 - d1 * f1) (coef t 36) &&
    near (-(d2 * f1)) (coef t 40) && inside2 (-d1) (-d2) &&
    (if tableInteg t then f1 == one49 else decide (f1.natAbs < one49.natAbs))

/-- The offsets of the coefficient words (R110). -/
def coefOffsets : List Nat := [16, 20, 24, 28, 32, 36, 40, 44, 48, 52, 56, 60, 64, 68, 72]

/-- The checks of R104, all eight. -/
def admitTable (t : CoefTable) : Bool :=
  let z := fun off => tableWord t off == 0
  (tableWord t 4 == crc32 (bytesOf t.toNat 0 4 ++ bytesOf t.toNat 8 120)) &&
  coefOffsets.all (fun o => decide (-24 ≤ shiftOf (tableWord t o)) && decide (shiftOf (tableWord t o) ≤ 8)) &&
  (tableType t != 0 || (z 28 && z 40 && [44, 48, 52, 56, 60, 64, 68, 72].all z && tableForm t == 1)) &&
  polesOk t && (tableType t != 1 || cascadeOk t) && decide (outMin t < outMax t) &&
  (tableWord t 0 % 256 == 1) && decide (tableType t ≤ 1) && (tableForm t != 3) &&
  ((tableWord t 0 >>> 16) % 512 == 0) && ((t.toNat >>> (8 * 82)) == 0) &&
  (tableType t != 1 || tableForm t != 0 ||
    (decide (1 ≤ tableWord t 80 % 2 ^ 16) && decide (tableWord t 80 % 2 ^ 16 ≤ 1024)))

/-! ### Instances of a leaf -/

/-- An instance of a block. -/
def Leaf.inst (L : Leaf) (block i : Nat) : Comp := (kvFind L.cmp.inst (8 * block + i)).getD {}

/-- A leaf with an instance replaced. -/
def Leaf.setInst (L : Leaf) (block i : Nat) (c : Comp) : Leaf :=
  { L with cmp := { L.cmp with inst := kvPut L.cmp.inst (8 * block + i) c } }

/-- A table loaded into a bank. A load into the active bank restarts its form and disarms the comparison (R106). -/
def Leaf.loadTable (L : Leaf) (block i k : Nat) (t : CoefTable) : Leaf :=
  let c := L.inst block i
  let c := { c with bank := c.bank.setIfInBounds k (some t) }
  L.setInst block i (if k = c.active then { c with form := startForm t, diffRun := 0, disarmed := 64 } else c)

/-- One evaluation of an instance of the leaf, with the counters it raises (R100, R101, R106). -/
def Leaf.runComp (L : Leaf) (block i : Nat) (x dynLo dynHi : Int) (track : Option Int) (out : Int := 0) :
    Leaf × Int :=
  let keyed := decide (block < 5)
  let c0 := L.inst block i
  -- R438: in FOLLOW a fill instance whose output reaches a stage takes x - x̄
  let mean : Int := if c0.xs.isEmpty then 0 else Config.rnd ((c0.xs.foldl (· + ·) 0 : Int) / (c0.xs.length : Rat))
  let off := !keyed && L.role == .follow
  let x' := if off then satQ (x - mean) else x
  let c0 := { c0 with xs := if keyed then [] else (x :: c0.xs).take 1024 }
  let o := c0.eval x' dynLo dynHi track (!(keyed && L.role == .follow)) out
  let c := match o.comp.bankNext with
    | some k => o.comp.switch k
    | none => o.comp
  let L := L.setInst block i c
  let L := if o.comp.limCross then L.bump ASH_CMP_STAT_LIM_CROSS else L
  let L := if o.wSat then L.bump ASH_CMP_STAT_W_SAT else L
  let L := if o.takeover then
      ((L.bump ASH_CMP_STAT_FALLBACKS).put ASH_CMP_STAT_LAST_BLOCK block |>.put ASH_CMP_STAT_LAST_INST i).event
        0x0706 (block + (i <<< 8))
    else L
  (L, o.y)

end Sys2Proof.Machine
end

