-- ==== Sys2Proof/Machine/Sense.lean ====
section
/-! DEFINITION. Sense ports and converters (R131 to R172): what each port publishes at the seal, the references,
calibration and its rotation, converters and their spares, the fast-trip comparators' tests, housekeeping. -/

namespace Sys2Proof.Machine

open Sys2Proof

/-! ### Conversion and publication -/

/-- The middle value of a list of readings, the mean of the two middle ones where their number is even (R403). -/
def insertInt (v : Int) : List Int → List Int
  | [] => [v]
  | a :: t => if v ≤ a then v :: a :: t else a :: insertInt v t

def sortInt : List Int → List Int
  | [] => []
  | a :: t => insertInt a (sortInt t)

def median (l : List Int) : Rat :=
  let s := sortInt l
  let n := s.length
  if n = 0 then 0
  else if n % 2 = 1 then (s.getD (n / 2) 0 : Int)
  else ((s.getD (n / 2 - 1) 0 + s.getD (n / 2) 0 : Int) : Rat) / 2

/-- Whether a temperature sensor is broken: states 3 and 4 of THM_TEMP (R422). -/
def Leaf.sensorBroken (L : Leaf) (i : Nat) : Bool := L.get THM_TEMP_STATE i == 3 || L.get THM_TEMP_STATE i == 4

/-- The course reading used for a die sensor: the median of the healthy ones while it is broken (R410), 1/16 °C. -/
def Leaf.dieReading (L : Leaf) (temps : List Int) (i : Nat) : Rat :=
  if L.sensorBroken i then
    median ((List.range 12).filterMap fun j => if L.sensorBroken j then none else temps[j]?)
  else (temps.getD i 400 : Int)

/-- The die sensor of a converter (R410). -/
def convSensor (n : Nat) : Nat := if n < 36 then n / 4 else 9

/-- The temperature term of R410, limited to 0.004. -/
def Leaf.tempTerm (L : Leaf) (temps : List Int) (n : Nat) : Rat :=
  let d := (L.dieReading temps (convSensor n) - (pick L.sns.convs n).tCal) / 16
  let t := (signed 16 (L.get THM_REFTC_TC1) : Rat) * d / 100000000 +
    (signed 16 (L.get THM_REFTC_TC2) : Rat) * d * d / 10000000000
  if t < -(4 / 1000) then -(4 / 1000) else if 4 / 1000 < t then 4 / 1000 else t

/-- A raw code calibrated, and SAT (R135). -/
def calibrate (gain : Nat) (offset : Int) (t : Rat) (r : Int) : Int × Bool :=
  let x := (((4 * r - offset : Int) : Rat) * ((gain : Rat) / 32768) * (1 + t) + 1 / 2).floor
  (clampInt (-32768) 32767 x, r == -8192 || r == 8191 || decide (x < -32768) || decide (32767 < x))

/-- The samples of a port in the previous course, with SAT. -/
def Leaf.samples (L : Leaf) (inp : SealIn) (p : Nat) : List (Int × Bool) :=
  match (pick L.sns.ports p).conv with
  | none => []
  | some c =>
    let t := L.tempTerm inp.dieTemps c
    (inp.raw.getD p []).map (calibrate (L.get SNS_CONV_GAIN c) (signed 16 (L.get SNS_CONV_OFFSET c)) t)

/-- Sum, mean in Q1.31 (rounded as R135), squares, extremes of a course (R137). -/
def courseRecord (xs : List Int) (flags : Nat) : PortRec :=
  let s := xs.foldl (· + ·) 0
  { sum := s
    mean := (s * 65536 * 2 + 40) / 80
    sumsq := xs.foldl (fun a x => a + (x * x).toNat) 0
    lo := xs.foldl min (xs.headD 0)
    hi := xs.foldl max (xs.headD 0)
    flags := BitVec.ofNat 16 flags }

/-- FLAGS bit values of R138. -/
def flagWord (valid sat settling standin xchk first refFault stale missing cal : Bool) : Nat :=
  bit valid + 2 * bit sat + 4 * bit settling + 8 * bit standin + 16 * bit xchk + 32 * bit first + 64 * bit refFault +
    128 * bit stale + 256 * bit missing + 512 * bit cal

/-- A valid published record (R138). -/
def PortRec.valid (r : PortRec) : Bool := r.flags.getLsbD 0

/-- One course added to a window being formed (R140); a course that is not valid adds nothing. -/
def Win.add (w : Win) (r : PortRec) : Win :=
  if r.valid then
    { w with
      sum := w.sum + r.sum
      sumsq := w.sumsq + r.sumsq
      lo := if w.n = 0 then r.lo else min w.lo r.lo
      hi := if w.n = 0 then r.hi else max w.hi r.hi
      n := w.n + 1
      sat := w.sat || r.flags.getLsbD 1 }
  else w

/-- The windows after a course `c` has ended, with the window length in force: the window being formed, and the last
completed one (R140). A changed length, and a wrap of CRS_COUNT, cut a window short. -/
def windowStep (acc last : Win) (accW W : Nat) (next : Course) (c : Course) : Win × Win :=
  if accW ≠ W then
    ({ part := next.toNat % W != 0 }, { acc with part := true, last := c })
  else if next.toNat % W = 0 then ({}, { acc with part := acc.part || (next == 0 && 0 < c.toNat % W && c.toNat % W + 1 < W), last := c })
  else (acc, last)

/-- A port on its reference in range (R145): REF 0 is the bandgap. -/
def Leaf.refFault (L : Leaf) (ref : Nat) : Bool := ref != 0 && (pick L.sns.refs (ref - 1)).fault

/-- A port replaced. -/
def Leaf.setPort (L : Leaf) (p : Nat) (P : Port) : Leaf :=
  { L with sns := { L.sns with ports := L.sns.ports.setIfInBounds p P } }

/-- What one port publishes at the seal of `next` for the previous course (R137 to R140, R142). -/
def Leaf.publishPort (L : Leaf) (inp : SealIn) (p : Nat) : Leaf :=
  let P := pick L.sns.ports p
  let en := L.on SNS_PCFG_ENABLE p
  let first := P.first || (en && !P.enabled)
  let xs := L.samples inp p
  let cal := L.on SNS_STAT_CAL_BUSY
  let settling := decide (0 < P.settle)
  let refF := L.refFault P.ref
  let missing := decide (xs.length < 40)
  let c := P.conv.getD 63
  let stale := decide (1600000 < since L.count (pick L.sns.convs c).calAt) && P.conv.isSome
  let valid := en && P.conv.isSome && !first && !refF && !missing && !cal && !settling
  let sat := xs.any (·.2)
  let r := courseRecord (xs.map (·.1))
    (flagWord valid sat settling (P.conv != some p) P.xchk first refF stale missing cal)
  let W := L.get SNS_PCFG_WIN p + 1
  let (acc, win) := windowStep (P.acc.add r) P.win P.accW W (L.count) (L.count - 1)
  let L := L.setPort p
    { P with
      record := r, acc := acc, win := win, accW := W, first := false, settle := P.settle - 1, xchk := false
      enabled := en, conv := P.convNext.or P.conv, convNext := none }
  let L := if sat && en then L.stick (SNS_FLT_SAT) else L
  L.put SNS_MON_MAX (unsigned 16 r.hi) p |>.put SNS_MON_MIN (unsigned 16 r.lo) p
    |>.put SNS_MON_MEAN (unsigned 32 r.mean / 2) p |>.put SNS_MON_VALID (bit valid) p

/-- A change of a port's reference starts its settling (R144). -/
def Leaf.refChange (L : Leaf) (p : Nat) : Leaf :=
  let P := pick L.sns.ports p
  let ref := if 5 < L.get SNS_PCFG_REF p then 0 else L.get SNS_PCFG_REF p
  if ref = P.ref then L
  else L.setPort p { P with ref := ref, settle := if ref = 0 then 32 else 160 }

/-- What one product accumulator publishes (R141). -/
def Leaf.publishPacc (L : Leaf) (inp : SealIn) (k : Nat) : Leaf :=
  let A := pick L.sns.paccs k
  let a := L.get SNS_PACC_SRC_A k
  let b := L.get SNS_PACC_SRC_B k
  let en := L.on SNS_PACC_ENABLE k
  let first := A.first || (en && !A.enabled)
  let xs := (L.samples inp a).map (·.1)
  let ys := (L.samples inp b).map (·.1)
  let ra := (pick L.sns.ports a).record
  let rb := (pick L.sns.ports b).record
  let valid := en && ra.valid && rb.valid && !first
  let psum := (List.zipWith (fun x y => x * y) xs ys).foldl (· + ·) 0
  let fl := bit valid + 2 * bit (ra.flags.getLsbD 1 || rb.flags.getLsbD 1) +
    4 * bit (ra.flags.getLsbD 3 || rb.flags.getLsbD 3) + 8 * bit first
  let W := L.get SNS_PACC_WIN k + 1
  let r : PortRec := { sum := psum, flags := BitVec.ofNat 16 (fl % 4) }
  let (acc, win) := windowStep (A.acc.add r) A.win A.accW W L.count (L.count - 1)
  let A : Pacc :=
    { psum := if en then psum else 0, flags := fl, acc := acc, win := win, accW := W, first := false, enabled := en }
  { L with sns := { L.sns with paccs := L.sns.paccs.setIfInBounds k A } }

/-- The windows of a leaf that begins to publish, in its own course: cut short where the course starts none (R140). -/
def Leaf.beginWindows (L : Leaf) : Leaf :=
  let from_ := fun (W : Nat) => ({ part := L.count.toNat % W != 0 } : Win)
  { L with sns := { L.sns with
    ports := Vector.ofFn fun p => { pick L.sns.ports p.val with
      first := true, acc := from_ (L.get SNS_PCFG_WIN p.val + 1), accW := L.get SNS_PCFG_WIN p.val + 1 }
    paccs := Vector.ofFn fun k => { pick L.sns.paccs k.val with
      first := true, acc := from_ (L.get SNS_PACC_WIN k.val + 1), accW := L.get SNS_PACC_WIN k.val + 1 } } }

/-! ### Converters and spares -/

/-- Ports in their order of priority: 0 served first (R152). -/
def portRank (p : Nat) : Nat := if p ≤ 18 || p = 30 then 0 else if p ≤ 29 then 1 else 2

/-- The better of two spares by R152: newest calibration, lowest number among equals. -/
def newestOf (L : Leaf) (l : List Nat) : Option Nat :=
  l.foldl (fun b n => match b with
    | none => some n
    | some m => if since L.count (pick L.sns.convs n).calAt < since L.count (pick L.sns.convs m).calAt then some n
      else some m) none

/-- The converter of a list whose calibration is oldest, lowest number among equals (R150). -/
def oldestOf (L : Leaf) (l : List Nat) : Option Nat :=
  l.foldl (fun b n => match b with
    | none => some n
    | some m => if since L.count (pick L.sns.convs m).calAt < since L.count (pick L.sns.convs n).calAt then some n
      else some m) none

/-- Spares in the idle pool (R152). -/
def Leaf.freeSpares (L : Leaf) : List Nat :=
  (List.range 40).filter fun n =>
    L.get SNS_CONV_STATE n == 1 && L.get SNS_CONV_PORT n == 63 && !(L.sns.step.any fun s => s.spare == n)

/-- A converter serves a port, or none does. -/
def Leaf.serve (L : Leaf) (p : Nat) (c : Option Nat) (first : Bool) : Leaf :=
  { L with sns := { L.sns with ports := alter L.sns.ports p fun P => { P with
    conv := c, convNext := none, first := P.first || first } } }

/-- Ports used by a keyed block: the phase currents, and the link guard's SP12 to SP18 and SP30 (log entry 9). -/
def keyedPort (p : Nat) : Bool := decide (p ≤ 18) || p == 30

/-- A port loses its converter: another converter takes it, or it is LOST (R152). The second value: a port used by a
keyed block is lost. -/
def Leaf.refill (L : Leaf) (p : Nat) : Leaf × Bool :=
  match newestOf L L.freeSpares with
  | some n =>
    ((L.serve p (some n) true).put SNS_CONV_STATE 0 n |>.put SNS_CONV_PORT p n
      |>.put SNS_STAT_SPARES_FREE (L.get SNS_STAT_SPARES_FREE - 1), false)
  | none =>
    let served := (List.range 36).filter fun q =>
      decide (portRank p < portRank q) && (pick L.sns.ports q).conv.isSome
    let low := served.foldl (fun b q => max b (portRank q)) 0
    match (served.filter fun q => portRank q == low).getLast? with
    | some q =>
      let c := (pick L.sns.ports q).conv
      let L := (L.serve p c true).serve q none false
      ((L.put SNS_CONV_PORT p (c.getD 0)).stick SNS_FLT_PORT_LOST, keyedPort q)
    | none => ((L.serve p none false).stick SNS_FLT_PORT_LOST, keyedPort p)

/-- A converter is retired until RESET_N or a power cycle (R147, R152). -/
def Leaf.retireConv (L : Leaf) (n : Nat) : Leaf × Bool :=
  if L.get SNS_CONV_STATE n = 3 then (L, false)
  else
    let spare := L.get SNS_CONV_PORT n == 63
    let L' := (L.put SNS_CONV_STATE 3 n).put SNS_CONV_PORT 63 n |>.stick SNS_FLT_CONV_RETIRED
      |>.bump SNS_STAT_RETIRED
    let L' := if spare && L.get SNS_CONV_STATE n == 1 then
      L'.put SNS_STAT_SPARES_FREE (L.get SNS_STAT_SPARES_FREE - 1) else L'
    match (List.range 36).find? fun p => (pick L.sns.ports p).conv == some n with
    | some p => L'.refill p
    | none => (L', false)

/-- The limits of R147. -/
def calOk (m : CalMeas) : Bool :=
  decide (-256 ≤ m.offset) && decide (m.offset ≤ 256) && decide (9500 * 32768 ≤ m.gain * 10000) &&
    decide (m.gain * 10000 ≤ 10500 * 32768) && decide (-8 ≤ m.mid) && decide (m.mid ≤ 8) && decide (m.spread ≤ 24)

/-- The factors of a passed calibration (R147). -/
def Leaf.calPass (L : Leaf) (n : Nat) (m : CalMeas) : Leaf :=
  let L := L.put SNS_CONV_GAIN m.gain n |>.put SNS_CONV_OFFSET (unsigned 16 m.offset) n |>.put SNS_CONV_CAL_AGE 0 n
  { L with sns := { L.sns with convs := alter L.sns.convs n fun c =>
    { c with calAt := L.count, tCal := signed 16 (L.get THM_TEMP_SAMPLE (convSensor n)) } } }

/-- One converter's attempts judged (R147): the leaf, whether it passed, whether a keyed port is lost. -/
def Leaf.calJudge (L : Leaf) (r : CalRes) : Leaf × Bool × Bool :=
  let n := r.conv.val
  if L.get SNS_CONV_STATE n = 3 then (L, false, false)
  else if calOk r.first then (L.calPass n r.first, true, false)
  else if calOk r.second then ((L.calPass n r.second).bump SNS_CNT_CAL_TRANS, true, false)
  else
    let (L, k) := L.retireConv n
    (L, false, k)

/-- Conversions missing in a course, and in two (R152). The second value: a keyed port is lost. -/
def Leaf.missingStep (L : Leaf) (inp : SealIn) (p : Nat) : Leaf × Bool :=
  match (pick L.sns.ports p).conv with
  | none => (L, false)
  | some n =>
    let miss := decide ((inp.raw.getD p []).length < 40)
    let C := pick L.sns.convs n
    let L' := { L with sns := { L.sns with convs := L.sns.convs.setIfInBounds n { C with missed := miss } } }
    if miss && C.missed then L'.retireConv n
    else if C.missed then (L'.bump SNS_CNT_FT_TRANS, false)
    else (L', false)

/-! ### References and housekeeping -/

/-- The latest conversion of a housekeeping input in mV of its full scale (R159): codes of 4,096. -/
def hkMv (code fullMv : Nat) : Nat := code * fullMv / 4096

/-- New conversions of the housekeeping inputs (R159, R160, R172). -/
def Leaf.hkStep (L : Leaf) (inp : SealIn) : Leaf :=
  (List.range 32).foldl (fun L i =>
    match inp.hk.getD i none with
    | none => L
    | some v =>
      let H := ((v % 4096) :: (pick L.sns.hk i).last).take 8
      let L := { L with sns := { L.sns with hk := L.sns.hk.setIfInBounds i { last := H } } }
      L.put SNS_HK_LATEST (v % 4096) i |>.put SNS_HK_MEAN8 (H.foldl (· + ·) 0) i
        |>.put SNS_HK_VALID (bit (decide (8 ≤ H.length) && !L.sns.hkFailed)) i) L

/-- The check of the housekeeping converter on HK28 and HK31 (R160). -/
def Leaf.hkCheck (L : Leaf) (inp : SealIn) : Leaf :=
  match inp.hk.getD 28 none, inp.hk.getD 31 none with
  | some v, some z =>
    let bad := decide (v * 2048 < 1188 * 4096) || decide (1212 * 4096 < v * 2048) || decide (8 < z)
    let L' := { L with sns := { L.sns with hkBad := if bad then L.sns.hkBad + 1 else 0 } }
    if bad && L.sns.hkBad == 1 then
      (List.range 32).foldl (fun L i => L.put SNS_HK_VALID 0 i)
        ({ L' with sns := { L'.sns with hkFailed := true } }.raise SNS_FLT_HK_FAIL)
    else if !bad && L.sns.hkBad == 1 then L'.bump SNS_CNT_FT_TRANS
    else L'
  | _, _ => L

/-- The housekeeping input and full scale in mV of a reference: HK26 the REF pin, HK20 to HK23 the supplies. -/
def refInput (k : Nat) : Nat × Nat := if k = 0 then (26, 4096) else (19 + k, 8192)

/-- One reference judged on a new conversion (R145). -/
def Leaf.refStep (L : Leaf) (inp : SealIn) (k : Nat) : Leaf :=
  let (i, fs) := refInput k
  let R := pick L.sns.refs k
  let settling := (List.range 36).any fun p =>
    (pick L.sns.ports p).ref == k + 1 && decide (0 < (pick L.sns.ports p).settle)
  let upd := fun (L : Leaf) (R : RefMon) => { L with sns := { L.sns with refs := L.sns.refs.setIfInBounds k R } }
  -- a reading that stays in range ends the fault after 160 courses, and the ports settle again (R144)
  let good := fun (L : Leaf) (R : RefMon) =>
    if R.fault && decide (160 ≤ R.okRun) then
      let L := upd L { R with fault := false, okRun := 0, readings := [] }
      { L with sns := { L.sns with ports := L.sns.ports.map fun P =>
        if P.ref == k + 1 then { P with settle := 160 } else P } }
    else upd L R
  let R := if R.fault then { R with okRun := R.okRun + 1 } else R
  match inp.hk.getD i none with
  | none => good L R
  | some code =>
    let mv := hkMv code fs
    let R := { R with
      readings := if settling then mv :: R.readings else []
      nominal := if k = 0 && !settling && !R.readings.isEmpty then
          ((R.readings.foldl (· + ·) 0 : Nat) : Rat) / ((R.readings.length : Nat) : Rat) else R.nominal }
    let nominal : Rat := if k = 0 then R.nominal else 5000
    let dev : Rat := if nominal ≤ (mv : Rat) then (mv : Rat) - nominal else nominal - (mv : Rat)
    let bad := decide (nominal * 3 < dev * 100) || (k == 0 && (decide (mv < 1900) || decide (2200 < mv)))
    if bad then
      if R.devRun = 0 then upd L { R with devRun := 1, okRun := 0 }
      else (upd L { R with devRun := R.devRun + 1, okRun := 0, fault := true }).stick SNS_FLT_REF_FAULT
    else
      let L := if R.devRun = 1 && !R.fault then L.bump SNS_CNT_FT_TRANS else L
      good L { R with devRun := 0 }

/-- Age of every converter's calibration, in units of 1,600 courses (R170). -/
def Leaf.ageStep (L : Leaf) : Leaf :=
  if L.count.toNat % 1600 ≠ 0 then L
  else (List.range 40).foldl (fun L n =>
    L.put SNS_CONV_CAL_AGE (min (since L.count (pick L.sns.convs n).calAt / 1600) 0xFFFF) n) L

/-- CAL_STALE with its events (R153). -/
def Leaf.staleStep (L : Leaf) : Leaf :=
  let old := (List.range 40).any fun n =>
    L.get SNS_CONV_STATE n == 0 && decide (1600000 < since L.count (pick L.sns.convs n).calAt)
  if L.freeSpares.isEmpty && old && L.sns.step.isNone then
    if !L.on SNS_STAT_CAL_STALE then
      let L := L.raise SNS_STAT_CAL_STALE
      { L with sns := { L.sns with staleAt := L.count } }
    else if 160000 ≤ since L.count L.sns.staleAt then
      let L := L.bitEvent SNS_STAT_CAL_STALE 0 1
      { L with sns := { L.sns with staleAt := L.count } }
    else L
  else L.put SNS_STAT_CAL_STALE 0

/-- The sense block's part of a seal (R137 to R153, R159, R160), for the course that has just ended. The second value:
a port used by a keyed block has been lost. -/
def Leaf.sealSense (L : Leaf) (inp : SealIn) : Leaf × Bool :=
  let L := (List.range 36).foldl (fun L p => (L.refChange p).publishPort inp p) L
  let L := (List.range 4).foldl (fun L k => L.publishPacc inp k) L
  let (L, lost) := (List.range 36).foldl (fun (a : Leaf × Bool) p =>
    let (L, k) := a.1.missingStep inp p
    (L, a.2 || k)) (L, false)
  let L := (L.hkStep inp).hkCheck inp
  let L := (List.range 5).foldl (fun L k => L.refStep inp k) L
  (L.ageStep.staleStep, lost)

/-- A port's published mean, Q1.31; `none` where the course holds no usable value (R138). -/
def Leaf.meanOf (L : Leaf) (p : Nat) : Option Int :=
  let r := (pick L.sns.ports p).record
  if r.valid then some r.mean else none

/-- A port's published extremes. -/
def Leaf.maxOf (L : Leaf) (p : Nat) : Int := (pick L.sns.ports p).record.hi
def Leaf.minOf (L : Leaf) (p : Nat) : Int := (pick L.sns.ports p).record.lo
def Leaf.portValid (L : Leaf) (p : Nat) : Bool := (pick L.sns.ports p).record.valid

/-! ### Commands -/

/-- The other leaf carries, aligned (R152, R157). -/
def State.partnerAligned (s : State) (l : LeafId) : Bool :=
  let P := s.leaf l.other
  P.sending && P.on CRS_STAT_ALIGNED

/-- SELFCAL (R146, R164). -/
def execSelfcal (l : LeafId) (who : Ident) (s : State) : Done :=
  onLeaf s l fun L =>
    if s.setup then
      if L.on SNS_STAT_CAL_BUSY then L
      else
        let L := L.put SNS_STAT_CAL_BUSY 1 |>.put SNS_STAT_ROT_PHASE 0
        match L.sns.step with
        | none => L
        | some st =>
          -- the running step is abandoned: its converter serves its port, its spare is idle
          let L := (L.serve st.port (some st.conv) false).put SNS_CONV_STATE 0 st.conv |>.put SNS_CONV_STATE 1 st.spare
            |>.put SNS_CONV_PORT 63 st.spare
          { L with sns := { L.sns with step := none } }
    else if s.mode == .carry then L.discard (SNS_CMD.addr 0) who.val 1
    else L

/-- The leaf leaves its role at the next boundary, under a rule other than R26 (R429). A decision at fine tick 3,840 or
later names the boundary after it. -/
def Leaf.planOut (L : Leaf) : Leaf :=
  if L.carrying then
    { L with crs := { L.crs with roleAt := some (after L.count (if 3840 ≤ L.tick then 2 else 1), .out) } }
  else L

/-- A leaf that loses a keyed port enters OUT where the other leaf carries, aligned (R152). -/
def Leaf.lostKeyed (s : State) (l : LeafId) (lost : Bool) (L : Leaf) : Leaf :=
  if lost && s.partnerAligned l then L.planOut else L

/-- SELFCAL_COMPLETE: every converter judged, FIRST on every port and accumulator, rotation restarted (R146, R147). -/
def execSelfcalComplete (l : LeafId) (res : List CalRes) (s : State) : Done :=
  let L := s.leaf l
  guarded s (L.on SNS_STAT_CAL_BUSY) <|
    let (L, allOk, lost) := res.foldl (fun (a : Leaf × Bool × Bool) r =>
      let (L, ok, k) := a.1.calJudge r
      (L, a.2.1 && ok, a.2.2 || k)) (L, true, false)
    let L := L.put SNS_STAT_CAL_BUSY 0 |>.put SNS_STAT_CAL_DONE 1 |>.put SNS_STAT_CAL_FAIL (bit (!allOk))
    let L := { L with sns := { L.sns with
      ports := L.sns.ports.map fun P => { P with first := true }
      paccs := L.sns.paccs.map fun A => { A with first := true }
      step := none
      stepEnd := L.count } }
    s.setLeaf l (Leaf.lostKeyed s l lost L)

/-- RECAL_STEP_START (R148, R150). -/
def execRecalStepStart (l : LeafId) (s : State) : Done :=
  let L := s.leaf l
  let active := (List.range 40).filter fun n =>
    L.get SNS_CONV_STATE n == 0 &&
      (let p := L.get SNS_CONV_PORT n
       decide (p < 36) && (pick L.sns.ports p).settle == 0 && !L.refFault (pick L.sns.ports p).ref &&
         (pick L.sns.ports p).ref == L.get SNS_PCFG_REF p)
  let go := (s.mode == .ready || s.mode == .carry) && L.computing && !L.on SNS_STAT_CAL_BUSY && L.sns.step.isNone &&
    decide (L.get SNS_CTRL_CAL_GAP ≤ since L.count L.sns.stepEnd)
  match oldestOf L active, oldestOf L L.freeSpares with
  | some n, some sp =>
    guarded s go <|
      let p := L.get SNS_CONV_PORT n
      let L := L.put SNS_STAT_ROT_PORT p |>.put SNS_STAT_ROT_SPARE sp |>.put SNS_STAT_ROT_PHASE 1
        |>.put SNS_CONV_STATE 2 sp |>.put SNS_STAT_SPARES_FREE (L.get SNS_STAT_SPARES_FREE - 1)
      s.setLeaf l { L with sns := { L.sns with step := some { start := L.count, conv := n, spare := sp, port := p } } }
  | _, _ => .next s

/-- The rotation state ends; `gap` counts from now (R150). -/
def Leaf.stepOver (L : Leaf) : Leaf :=
  let L := L.put SNS_STAT_ROT_PHASE 0
  { L with sns := { L.sns with step := none, stepEnd := L.count } }

/-- An overlap comparison is made only while the port is neither SETTLING nor in REF_FAULT (R149). -/
def Leaf.overlapDue (L : Leaf) (st : Recal) (course : Nat) : Bool :=
  decide (course ≤ since L.count st.start) && (pick L.sns.ports st.port).settle == 0 &&
    !L.refFault (pick L.sns.ports st.port).ref

/-- The overlap comparison of R149. -/
def Leaf.overlapBad (L : Leaf) (a b : Int) : Bool := decide ((L.get SNS_CTRL_CAL_TOL : Int) < ((a - b).natAbs : Int))

/-- RECAL_FIRST_OVERLAP: the spare's calibration is judged, the two means are compared, the spare takes the port and
the active converter is calibrated (R148, R149). -/
def execRecalFirstOverlap (l : LeafId) (cal : CalRes) (activeMean spareMean : Int) (s : State) : Done :=
  let L := s.leaf l
  match L.sns.step with
  | none => .next s
  | some st =>
    guarded s (L.overlapDue st 96 && cal.conv.val == st.spare && L.get SNS_STAT_ROT_PHASE == 1) <|
      let (L, ok, _) := L.calJudge cal
      if !ok then s.setLeaf l L.stepOver
      else
        let bad := L.overlapBad activeMean spareMean
        let L := L.put SNS_STAT_ROT_PHASE 2 |>.put SNS_CONV_STATE 2 st.conv
          |>.put SNS_CONV_STATE 1 st.spare |>.put SNS_CONV_PORT st.port st.spare
        -- where the comparison passes, the course still shows the active converter's values (R148)
        s.setLeaf l { L with sns := { L.sns with
          step := some { st with firstBad := bad }
          ports := alter L.sns.ports st.port fun P => { P with
            xchk := bad, conv := if bad then some st.spare else P.conv, convNext := some st.spare } } }

/-- RECAL_SECOND_OVERLAP: the active converter's calibration and the second comparison (R149). -/
def execRecalSecondOverlap (l : LeafId) (cal : CalRes) (activeMean spareMean : Int) (s : State) : Done :=
  let L := s.leaf l
  match L.sns.step with
  | none => .next s
  | some st =>
    guarded s (L.overlapDue st (if st.again then 290 else 193) && cal.conv.val == st.conv && !st.passed &&
        L.get SNS_STAT_ROT_PHASE == 2) <|
      let keep := fun (L : Leaf) =>
        -- the spare keeps the port permanently
        (L.put SNS_CONV_STATE 0 st.spare).put SNS_CONV_PORT st.port st.spare |>.stepOver
      let (L1, ok, _) := (({ L with sns := { L.sns with ports := alter L.sns.ports st.port fun P =>
        { P with conv := some st.spare, convNext := none } } } : Leaf).calJudge cal)
      if !ok then s.setLeaf l (keep L1)
      else if L1.overlapBad activeMean spareMean then
        let L1 := { L1 with sns := { L1.sns with ports := alter L1.sns.ports st.port fun P => { P with xchk := true } } }
        if st.again then s.setLeaf l (keep (L1.retireConv st.conv).1)
        else s.setLeaf l { L1 with sns := { L1.sns with step := some { st with again := true } } }
      else
        let L1 := if st.firstBad || st.again then L1.bump SNS_CNT_XCHK_TRANS else L1
        s.setLeaf l (({ L1 with sns := { L1.sns with step := some { st with passed := true } } } : Leaf).put
          SNS_STAT_ROT_PHASE 3)

/-- RECAL_STEP_END: the active converter serves its port again and the spare returns to the pool (R148). -/
def execRecalStepEnd (l : LeafId) (s : State) : Done :=
  let L := s.leaf l
  match L.sns.step with
  | none => .next s
  | some st =>
    guarded s (st.passed && decide ((if st.again then 291 else 194) ≤ since L.count st.start)) <|
      let L := (L.serve st.port (some st.conv) false).put SNS_CONV_STATE 0 st.conv |>.put SNS_CONV_PORT st.port st.conv
        |>.put SNS_CONV_STATE 1 st.spare |>.put SNS_CONV_PORT 63 st.spare
        |>.put SNS_STAT_SPARES_FREE (L.get SNS_STAT_SPARES_FREE + 1) |>.bump SNS_CNT_STEPS
      s.setLeaf l L.stepOver

/-- FT_TEST: one comparator test of 2 courses (R157). -/
def execFtTest (l : LeafId) (port : Fin 36) (pass : Bool) (s : State) : Done :=
  let L := s.leaf l
  let p := port.val
  let C := pick L.sns.comps p
  let other := pick (s.leaf l.other).sns.comps p
  let period := L.get SNS_CTRL_FT_GAP * 1600
  let turn := (L.count.toNat / period) % 2 == l.num && s.partnerAligned l && other.testAt.isNone && !other.masked
  let go := decide (p ≤ 18 ∨ p = 30) && !C.masked && (if L.sending then turn else true)
  guarded s go <|
    let set := fun (L : Leaf) (C : FtComp) => { L with sns := { L.sns with comps := L.sns.comps.setIfInBounds p C } }
    if pass then
      s.setLeaf l (if C.failedOnce then (set L { C with failedOnce := false, testAt := some L.count }).bump
        SNS_CNT_FT_TRANS else set L { C with testAt := some L.count })
    else if C.failedOnce then
      s.setLeaf l ((set L { C with masked := true, testAt := some L.count }).raise SNS_FLT_FT_FAIL)
    else s.setLeaf l (set L { C with failedOnce := true, testAt := some L.count })

end Sys2Proof.Machine
end

