-- ==== Sys2Proof/Machine/Position.lean ====
section
/-! DEFINITION. Position units (R173 to R207): counting, angle and speed, the index, the U/V/W tracks, the choice of the
source. -/

namespace Sys2Proof.Machine

open Sys2Proof

/-- A position unit changed. -/
def Leaf.onPos (L : Leaf) (p : Nat) (f : Pos → Pos) : Leaf := { L with pos := alter L.pos p f }

/-- Counts per revolution (R180). -/
def Leaf.cpr (L : Leaf) (p : Nat) : Nat := L.get POS_CFG_CPR_M1 p + 1

/-- The angle of a count, which may carry a fraction: UQ0.32 of an electrical turn (R180). -/
def Leaf.angleOf (L : Leaf) (p : Nat) (c : Rat) : Nat :=
  unsigned 32 (L.get POS_ANG_ANG_OFS p +
    (c * (L.get POS_CFG_POLE_PAIRS p : Rat) * ((2 ^ 32 : Nat) : Rat) / (L.cpr p : Rat)).floor)

/-- Count speed in counts per fine tick (R181). -/
def Pos.omega (P : Pos) : Rat := (P.omegaN : Rat) / (P.omegaD : Rat)

/-- The encoder's angle at a fine time (R182): extrapolated from the last seal's latch; an edge older than 2^30 ticks is
not used for extrapolation (R181). -/
def Leaf.encAngle (L : Leaf) (p : Nat) (t : Fine) : Nat :=
  let pos : Int := signed 32 (L.get POS_LAT_COUNT p)
  let e := L.get POS_LAT_EDGE_FINE p
  let dt : Int := if L.on POS_STAT_EDGE_OLD p then 0 else (distance e t.toNat 32).getD 0
  L.angleOf p ((pos : Rat) + (pick L.pos p).omega * dt)

/-- The count whose angle is nearest an electrical angle, below one electrical turn past the index. -/
def Leaf.countOf (L : Leaf) (p : Nat) (angle : Nat) : BitVec 32 :=
  let d := (angle + 2 ^ 32 - L.get POS_ANG_ANG_OFS p) % 2 ^ 32
  BitVec.ofInt 32 (Config.rnd ((d * L.cpr p : Nat) / (2 ^ 32 * L.get POS_CFG_POLE_PAIRS p : Nat) : Rat))

/-! ### U/V/W -/

/-- The sector of a U/V/W state, U highest; `none` for 000 and 111 (R188). -/
def sectorOf : Nat → Option Nat
  | 5 => some 0
  | 4 => some 1
  | 6 => some 2
  | 2 => some 3
  | 3 => some 4
  | 1 => some 5
  | _ => none

/-- The electrical angle at which sector `k` starts (R188). -/
def Leaf.sectorStart (L : Leaf) (p k : Nat) : Nat :=
  (L.get POS_ANG_UVW_OFS p * 2 ^ 16 + k % 6 * (2 ^ 32) / 6) % 2 ^ 32

/-- Degrees as a part of a turn, UQ0.32. -/
def degrees (d : Nat) : Nat := d * 2 ^ 32 / 360

/-- Shortest distance between two angles. -/
def angleDiff (a b : Nat) : Int := signed 32 (a + 2 ^ 32 - b % 2 ^ 32)

/-- The tracks are in use (R188, R189). -/
def Leaf.uvwHealthy (L : Leaf) (p : Nat) : Bool :=
  L.on POS_CFG_UVW_EN p && !L.on POS_FLT_UVW_FAULT p && !(pick L.pos p).uvwSkip && (pick L.pos p).sector.isSome

/-- An angle lies inside the sector shown, widened by UVW_TOL (R190, R192). -/
def Leaf.insideSector (L : Leaf) (p angle : Nat) : Bool :=
  let k := (pick L.pos p).sector.getD 0
  let centre := L.sectorStart p k + 2 ^ 32 / 12
  decide ((angleDiff angle centre).natAbs ≤ 2 ^ 32 / 12 + degrees (L.get POS_ANG_UVW_TOL p))

/-- The U/V/W angle (R195): the last sector edge plus the speed of the last 6 edges times the elapsed time, capped at the
far edge of the sector; the sector centre before the first edge. -/
def Leaf.uvwAngle (L : Leaf) (p : Nat) (t : Fine) : Nat :=
  let P := pick L.pos p
  let k := P.sector.getD 0
  match P.uvwEdges with
  | [] => (L.sectorStart p k + 2 ^ 32 / 12) % 2 ^ 32
  | (st, _, fwd) :: _ =>
    let es := P.uvwEdges.take 6
    let span := ((es.getLast?.map fun e => (distance e.1.toNat st.toNat 32).getD 0).getD 0)
    let el := (distance st.toNat t.toNat 32).getD 0
    let adv : Nat := if span ≤ 0 then 0 else
      (Config.rnd (((es.length - 1 : Nat) : Rat) * ((2 ^ 32 / 6 : Nat) : Rat) * el / span)).toNat
    let adv := min adv (2 ^ 32 / 6)
    if fwd then (L.sectorStart p k + adv) % 2 ^ 32 else (L.sectorStart p (k + 1) + 2 ^ 32 - adv) % 2 ^ 32

/-- An impossible state or an illegal jump (R189): counted, the reading unused; a second one in a row is lasting. -/
def Leaf.uvwIllegal (L : Leaf) (p : Nat) : Leaf :=
  let again := (pick L.pos p).uvwSkip
  let L := L.bump POS_CNT_UVW_TRANS p
  let L := L.onPos p fun P => { P with uvwSkip := true }
  if again then L.stick POS_FLT_UVW_FAULT p else L

/-- ENC_FAULT (R185, R195): the encoder is no longer a source and REF is NONE. -/
def Leaf.encFault (L : Leaf) (p : Nat) : Leaf :=
  (L.stick POS_FLT_ENC_FAULT p).put POS_STAT_REF 0 p |>.put POS_STAT_INDEX_PENDING 0 p
    |>.onPos p fun P => { P with encDoubt := 0 }

/-- A referencing event moves REF up and never down (R195). -/
def Leaf.refUp (L : Leaf) (p r : Nat) : Leaf :=
  if L.on POS_FLT_ENC_FAULT p then L else L.put POS_STAT_REF (max (L.get POS_STAT_REF p) r) p

/-- An accepted U/V/W edge (R177, R188 to R190, R195). -/
def Leaf.uvwEdge (L : Leaf) (p : Nat) (uvw : Nat) (began : Fine) : Leaf :=
  let P := pick L.pos p
  let L := L.put POS_STAT_UVW uvw p
  if !L.on POS_CFG_UVW_EN p || L.on POS_FLT_UVW_FAULT p then L.onPos p fun P => { P with sector := sectorOf uvw }
  else
    match sectorOf uvw with
    | none => (L.uvwIllegal p).onPos p fun P => { P with sector := none, uvwStood := 0 }
    | some k =>
      let fwd := P.sector == some ((k + 5) % 6)
      let back := P.sector == some ((k + 1) % 6)
      let L := L.onPos p fun P => { P with sector := some k, uvwStood := 0 }
      if P.sector.isSome && !fwd && !back then L.uvwIllegal p
      else
        let edge := if back then L.sectorStart p (k + 1) else L.sectorStart p k
        let isEdge := fwd || back
        let off := decide ((degrees (L.get POS_ANG_UVW_TOL p) : Int) < ((angleDiff edge (L.encAngle p began)).natAbs : Int))
        if isEdge && decide (3 ≤ L.get POS_STAT_REF p) && off then L.uvwIllegal p
        else
          let L := L.onPos p fun P =>
            { P with uvwSkip := false
                     uvwEdges := if isEdge then ((began, k, fwd) :: P.uvwEdges).take 6 else P.uvwEdges }
          if isEdge && decide (L.get POS_STAT_REF p < 3) && !L.on POS_FLT_ENC_FAULT p then
            (L.onPos p fun P => { P with pos := L.countOf p edge }).refUp p 3
          else L

/-- UVW_EDGE (R177, R189). -/
def execUvwEdge (l : LeafId) (port : Fin 2) (uvw : BitVec 3) (began : Fine) (held : Nat) (s : State) : Done :=
  let L := s.leaf l
  guarded s (decide (L.get POS_CFG_UVW_FILT port * 16 ≤ held) && L.get POS_STAT_UVW port != uvw.toNat)
    (s.setLeaf l (L.uvwEdge port uvw.toNat began))

/-! ### Counting -/

/-- ENCODER_EDGE (R177, R178): one step of POS and TRAVEL, stamped with the time the change began. -/
def execEncoderEdge (l : LeafId) (port : Fin 2) (forward : Bool) (began : Fine) (held : Nat) (s : State) : Done :=
  let L := s.leaf l
  let up := forward != L.on POS_CFG_DIR port
  let d : BitVec 32 := if up then 1 else -1
  guarded s (decide (L.get POS_CFG_FILT port ≤ held)) <|
    s.setLeaf l <|
      ((L.onPos port fun P =>
        { P with pos := P.pos + d, travel := P.travel + d, edgeFine := began, edges := P.edges + 1 }).put
          POS_STAT_STILL 0 port).put POS_STAT_REV (bit (!up)) port

/-- QUADRATURE_ERROR (R178): counted; neither count changes. -/
def execQuadratureError (l : LeafId) (port : Fin 2) (s : State) : Done :=
  onLeaf s l fun L => L.bump POS_CNT_QERR port

/-! ### Index -/

/-- The index error against POS_ref (R184). -/
def Leaf.indexError (L : Leaf) (p : Nat) (pos : Int) : Int :=
  let cpr : Int := L.cpr p
  (pos - (pick L.pos p).ref.toInt + cpr / 2) % cpr - cpr / 2

/-- POS is loaded with 0 and so is POS_ref (R178, R184); an index has been accepted. -/
def Leaf.loadZero (L : Leaf) (p : Nat) : Leaf :=
  (L.onPos p fun P => { P with pos := 0, ref := 0, seen := true, misses := 0, uvwDoubt := false, wasReset := false })

/-- The index in the state of A and B that Z_QUAL names (R183, R200). -/
def zQualified (q : Nat) (a b : Bool) : Bool := if q = 0 then true else if q = 2 then a && !b else a && b

/-- An index judged (R183 to R187, R190). -/
def Leaf.indexPulse (L : Leaf) (p : Nat) : Leaf :=
  let P := pick L.pos p
  let posAt : Int := P.pos.toInt
  let e := L.indexError p posAt
  let tol : Int := L.get POS_CFG_INDEX_TOL p
  let L := L.put POS_IDX_IDX_COUNT P.pos.toNat p |>.put POS_IDX_IDX_ERR (satSigned 16 e) p
  let once := L.on POS_CFG_INDEX_MODE p
  let pend := fun (L : Leaf) =>
    (L.put POS_STAT_INDEX_PENDING 1 p).onPos p fun Q => { Q with ref := P.pos }
  let accept := fun (L : Leaf) =>
    let L := L.loadZero p
    if once then ((L.put POS_STAT_ARMED 0 p).onPos p fun Q => { Q with loaded := true }).refUp p 5 else L.refUp p 4
  if once && !L.on POS_STAT_ARMED p then
    -- R187: after the load every index is checked and none corrects
    if P.loaded && decide (tol < (e.natAbs : Int)) then L.raise POS_FLT_IDX_MISM p else L
  else if !P.seen && !P.uvwDoubt then
    -- the first index: no error check, but U/V/W (R183, R190)
    if L.uvwHealthy p && !L.insideSector p (L.get POS_ANG_ANG_OFS p) then
      (pend L).onPos p fun Q => { Q with uvwDoubt := true }
    else if L.on POS_STAT_INDEX_PENDING p then
      -- a miss before it was transient (R186)
      (accept (L.put POS_STAT_INDEX_PENDING 0 p)).bump POS_CNT_IDX_TRANS p
    else accept L
  else if L.on POS_STAT_INDEX_PENDING p then
    if (e.natAbs : Int) ≤ tol then
      let bad := P.uvwDoubt && L.uvwHealthy p && !L.insideSector p (L.get POS_ANG_ANG_OFS p)
      let L := (accept (L.put POS_STAT_INDEX_PENDING 0 p)).bump POS_CNT_IDX_TRANS p
      let L := L.onPos p fun Q => { Q with encDoubt := if Q.encDoubt = 1 then 2 else Q.encDoubt }
      if bad then L.stick POS_FLT_UVW_FAULT p else L
    else L.encFault p
  else if (e.natAbs : Int) ≤ tol then
    let L := accept L
    if e ≠ 0 then L.bump POS_CNT_SLIP p else L
  else pend L

/-- INDEX (R183 to R187, R190). -/
def execIndex (l : LeafId) (port : Fin 2) (a b : Bool) (held : Nat) (s : State) : Done :=
  let L := s.leaf l
  guarded s (decide (L.get POS_CFG_FILT port ≤ held) && zQualified (L.get POS_CFG_Z_QUAL port) a b)
    (s.setLeaf l (L.indexPulse port))

/-- INDEX_MISSING (R186). -/
def execIndexMissing (l : LeafId) (port : Fin 2) (s : State) : Done :=
  let L := s.leaf l
  let P := pick L.pos port
  let d : Int := P.pos.toInt - P.ref.toInt
  let once := L.on POS_CFG_INDEX_MODE port
  let passed := decide (((L.cpr port + L.get POS_CFG_INDEX_TOL port + 8 : Nat) : Int) < (d.natAbs : Int))
  let step : BitVec 32 := BitVec.ofNat 32 (L.cpr port)
  let L' := L.onPos port fun P => { P with ref := if d < 0 then P.ref - step else P.ref + step }
  guarded s (passed && (!once || P.loaded)) <| s.setLeaf l <|
    if once then L'.raise POS_FLT_IDX_MISM port
    else
      let L' := L'.onPos port fun P => { P with misses := P.misses + 1 }
      if 1 ≤ P.misses then L'.encFault port else L'.put POS_STAT_INDEX_PENDING 1 port

/-- ARM takes effect (R183). -/
def Leaf.arm (L : Leaf) (p : Nat) : Leaf :=
  (L.put POS_STAT_ARMED 1 p).onPos p fun P => { P with seen := false, loaded := false, uvwDoubt := false }

/-- The first write of a command register whose course this is, taken off the list (R460, R461). -/
def Leaf.takeCmd (L : Leaf) (off : Nat) : Option (RegW × Hdr) × Leaf :=
  match L.crs.cmds.find? fun c => c.1.off == off with
  | none => (none, L)
  | some c => (some c, { L with crs := { L.crs with cmds := L.crs.cmds.erase c } })

/-- ARM (R183): by a direct write in READY and WORKSHOP, by an IR1 write committed under R50 otherwise. -/
def execArm (l : LeafId) (port : Fin 2) (direct : Bool) (s : State) : Done :=
  let L := s.leaf l
  if direct then
    if s.setup then .next (s.setLeaf l (L.arm port)) else .next (s.setLeaf l (L.discard (POS_CMD.addr port) (hostId l) 1))
  else
    match L.takeCmd (POS_CMD.addr port) with
    | (none, _) => .next s
    | (some w, L) => .next (s.setLeaf l (if w.1.value.getLsbD 0 then L.arm port else L))

/-! ### Faults of the port -/

/-- SUPPLY_HALF (R176). -/
def execSupplyHalf (l : LeafId) (port : Fin 2) (regulator : LeafId) (courses : Nat) (s : State) : Done :=
  let L := s.leaf l
  guarded s (decide (160 ≤ courses) && decide (regulator = .leaf0 ∨ regulator = .leaf1) && !L.on POS_FLT_SUPPLY_HALF port)
    (s.setLeaf l (L.raise POS_FLT_SUPPLY_HALF port))

/-- The sets of a machine are DISABLED or STANDBY (R198). -/
def Leaf.machineIdle (L : Leaf) (m : Nat) : Bool :=
  decide (L.get TRC_SETSTAT_STATE (2 * m) ≤ 1) && decide (L.get TRC_SETSTAT_STATE (2 * m + 1) ≤ 1)

/-- A write of 1s to POS_FLT (R198). -/
def Leaf.clearPosFlt (L : Leaf) (p : Nat) (value : Word) (who : Nat) : Leaf :=
  let idle := L.machineIdle p
  let locked : Word := 0b10110#64
  let m := if idle then value else value &&& ~~~ locked
  let L := L.setWord POS_FLT p (L.word POS_FLT p &&& ~~~ m)
  if !idle && (value &&& locked) != 0 then L.discard (POS_FLT.addr p) who value.toNat else L

/-- POS_FLT_CLEAR (R198). -/
def execPosFltClear (l : LeafId) (port : Fin 2) (value : Word) (who : Ident) (s : State) : Done :=
  onLeaf s l fun L => L.clearPosFlt port value who.val

/-- What an external fault of a line or of the supply raises (R174, R175): 0 to 2 the encoder, 3 to 5 U/V/W, 6 both. -/
def Leaf.externalFault (L : Leaf) (p what : Nat) : Leaf :=
  let L := if what = 6 then L.stick POS_FLT_SUPPLY p else L.stick POS_FLT_LINE p
  let L := if what < 3 || what == 6 then L.encFault p else L
  let L := if 3 ≤ what then L.stick POS_FLT_UVW_FAULT p else L
  L.onPos p fun P => { P with finding := none }

/-- A fault of the leaf's own receiver or supply reading (R176): an event, and OUT at the next boundary. -/
def Leaf.ownFault (L : Leaf) (p what : Nat) : Leaf :=
  (L.event 0x0707 (p + 256 * what)).planOut

/-- A lasting finding is laid to this leaf or taken as external (R176), once the partner's MARK of its course has come
or failed to come. -/
def Leaf.judgeFinding (L : Leaf) (p : Nat) (partnerHealthy : Bool) : Leaf :=
  match (pick L.pos p).finding with
  | none => L
  | some (what, _) => if partnerHealthy then L.ownFault p what else L.externalFault p what

/-- Line monitors and supply at a seal (R174 to R176). -/
def Leaf.portFaults (L : Leaf) (inp : SealIn) (p : Nat) (aligned : Bool) : Leaf :=
  let P := pick L.pos p
  -- a finding the partner never answered is external
  let L := if P.finding.any fun f => decide (1 ≤ since L.count f.2) then
      (if L.crs.roleAt.isSome then L else L.judgeFinding p false) else L
  let f := inp.lines.getD p 0
  let lasting := P.lines &&& f
  let gone := P.lines &&& ~~~ f &&& ~~~ P.lasting
  let n := ((List.range 6).filter fun i => gone.getLsbD i).length
  let L := L.bumpBy POS_CNT_LINE_T n p
  let code := if L.sns.hkFailed then none else inp.hk.getD (24 + p) none
  let bad := code.map fun c => decide (hkMv c 8192 < 4500) || decide (5500 < hkMv c 8192)
  let supplyLasting := bad == some true && P.supplyBad
  let L := if bad == some false && P.supplyBad && !P.supplyLasting then L.bump POS_CNT_LINE_T p else L
  let what : Option Nat :=
    if supplyLasting && !L.on POS_FLT_SUPPLY p then some 6
    else (List.range 6).find? fun i => lasting.getLsbD i &&
      !(if i < 3 then L.on POS_FLT_ENC_FAULT p else L.on POS_FLT_UVW_FAULT p)
  let L := L.onPos p fun P =>
    { P with lines := f, lasting := lasting
             supplyBad := bad.getD P.supplyBad, supplyLasting := if bad.isSome then supplyLasting else P.supplyLasting }
  match what with
  | none => L
  | some w =>
    if (pick L.pos p).finding.isSome then L
    else
      let L := L.onPos p fun P => { P with finding := some (w, L.count) }
      if aligned then L else L.judgeFinding p false

/-! ### The seal -/

/-- The latch held at course `j`: the first entry that began at `j` or before. -/
def latchAt (now : Course) : List (Course × BitVec 32 × Fine) → Nat → Option (BitVec 32 × Fine)
  | [], _ => none
  | (c, v) :: t, back => if back ≤ since now c then some v else latchAt now t back

/-- Going back from a latch until TRAVEL differs, no further than `limit` courses (R181). -/
def latchBack (now : Course) (travel : BitVec 32) (limit : Nat) :
    List (Course × BitVec 32 × Fine) → Nat → Option (BitVec 32 × Fine)
  | [], _ => none
  | (c, v) :: t, upto =>
    -- this entry held from `c` until `upto` courses ago
    if limit < upto then none
    else if v.1 ≠ travel then some v else latchBack now travel limit t (since now c + 1)

/-- Entries no speed window reaches any more. -/
def pruneLatches (now : Course) : List (Course × BitVec 32 × Fine) → List (Course × BitVec 32 × Fine)
  | [] => []
  | (c, v) :: t => if 16432 ≤ since now c then [(c, v)] else (c, v) :: pruneLatches now t

/-- Count speed at the seal: numerator and denominator; `none` at standstill (R181). -/
def Leaf.countSpeed (L : Leaf) (p : Nat) (P : Pos) : Option (Int × Nat) :=
  let w := L.get POS_CFG_SPD_WIN p
  let limit := L.get POS_CFG_STILL_T p * 16
  let j :=
    match latchAt L.count P.hist w with
    | some v => if v.1 ≠ P.travel then some v else
        latchBack L.count P.travel limit (P.hist.dropWhile fun e => decide (since L.count e.1 < w)) w
    | none => none
  match j with
  | none => none
  | some (tr, ef) =>
    let n : Int := (P.travel - tr).toInt
    let d := ((distance ef.toNat P.edgeFine.toNat 32).getD 0).toNat
    let age := ((distance P.edgeFine.toNat (fineAt L.count 0).toNat 32).getD (2 ^ 31)).toNat
    if 2 * d < age * n.natAbs then some (if n < 0 then -1 else 1, age) else some (n, d)

/-- Electrical speed in Q12.20 Hz (R181). -/
def Leaf.speedQ (L : Leaf) (p : Nat) (w : Rat) : Int :=
  clampInt (-(2 ^ 31)) (2 ^ 31 - 1)
    (Config.rnd (w * 640000000 * L.get POS_CFG_POLE_PAIRS p / L.cpr p * (2 ^ 20 : Nat)))

/-- The latch, the angle and the speed at a seal (R179, R181, R182). -/
def Leaf.latchPos (L : Leaf) (p : Nat) : Leaf :=
  let P := pick L.pos p
  let hist := match P.hist with
    | (c, v) :: t => if v = (P.travel, P.edgeFine) then (c, v) :: t else (L.count, (P.travel, P.edgeFine)) :: (c, v) :: t
    | [] => [(L.count, (P.travel, P.edgeFine))]
  let P := { P with hist := pruneLatches L.count hist }
  let age := (distance P.edgeFine.toNat (fineAt L.count 0).toNat 32).getD (2 ^ 31)
  let old := decide (2 ^ 30 < age)
  let L := L.put POS_LAT_COUNT P.pos.toNat p |>.put POS_LAT_EDGE_FINE P.edgeFine.toNat p
    |>.put POS_TRV_TRAVEL P.travel.toNat p |>.put POS_TRV_EDGES (min P.edges 0xFFFF) p
  let L := if old then L.put POS_STAT_EDGE_OLD 1 p else if P.edges ≠ 0 then L.put POS_STAT_EDGE_OLD 0 p else L
  let (L, P) := match L.countSpeed p P with
    | none => (L.put POS_STAT_STILL 1 p, { P with omegaN := 0, omegaD := 1 })
    | some (n, d) => (L, { P with omegaN := n, omegaD := d })
  let L := L.onPos p fun _ => { P with edges := 0 }
  L.put POS_SPD_ANGLE (L.encAngle p (fineAt L.count 0)) p |>.put POS_SPD_SPEED (unsigned 32 (L.speedQ p P.omega)) p

/-- The tracks at a seal (R189). -/
def Leaf.sealUvw (L : Leaf) (p : Nat) : Leaf :=
  let P := pick L.pos p
  let bad := (sectorOf (L.get POS_STAT_UVW p)).isNone
  let L := L.onPos p fun P => { P with uvwRead := true, uvwStood := if bad then P.uvwStood + 1 else 0 }
  if L.on POS_CFG_UVW_EN p && bad && (!P.uvwRead || decide (1 ≤ P.uvwStood)) then L.stick POS_FLT_UVW_FAULT p else L

/-- The observer is valid (R191). -/
def Leaf.obsValid (L : Leaf) (p : Nat) : Bool :=
  L.on POS_CFG_OBS_EN p && !L.on POS_FLT_OBS_LOST p && !L.on POS_FLT_OBS_FAULT p && (pick L.pos p).obs.fast &&
    L.get POS_OBS_SPD_MAX p != 0

/-- Mechanical speed in rpm of an electrical speed in Q12.20 Hz. -/
def Leaf.rpmOf (L : Leaf) (p : Nat) (speed : Int) : Rat :=
  (speed : Rat) * 60 / ((2 ^ 20 : Nat) * L.get POS_CFG_POLE_PAIRS p : Nat)

/-- The source of a machine, and REF from the sector while the encoder has no reference (R195). -/
def Leaf.chooseSource (L : Leaf) (p : Nat) : Leaf :=
  let P := pick L.pos p
  let L :=
    if !L.on POS_FLT_ENC_FAULT p && decide (L.get POS_STAT_REF p < 2) && L.uvwHealthy p then
      (L.onPos p fun P => { P with
        pos := L.countOf p ((L.sectorStart p (P.sector.getD 0) + 2 ^ 32 / 12) % 2 ^ 32) }).refUp p 2
    else L
  let enc := !L.on POS_FLT_ENC_FAULT p && L.get POS_STAT_REF p != 0
  let obs := L.obsValid p && L.on POS_STAT_OBS_LOCK p
  let src :=
    if enc && P.encDoubt == 0 then 1
    else if obs && (L.on POS_FLT_ENC_FAULT p || P.encDoubt != 0) then 2
    else if L.uvwHealthy p then 3
    else 0
  L.put POS_STAT_OBS_VALID (bit (L.obsValid p)) p |>.put POS_STAT_SRC src p

/-- The angle of the source in use at a fine time (R182, R195). -/
def Leaf.srcAngle (L : Leaf) (p : Nat) (t : Fine) : Nat :=
  match L.get POS_STAT_SRC p with
  | 2 =>
    -- the observer's estimate, at its speed
    let P := pick L.pos p
    let dt := (distance (fineAt L.count 0).toNat t.toNat 32).getD 0
    unsigned 32 (P.obs.angle.toNat + Config.rnd ((P.obs.speed : Rat) * (2 ^ 12 : Nat) * dt / 640000000))
  | 3 => L.uvwAngle p t
  | _ => L.encAngle p t

/-- The electrical speed of the source in use, Q12.20 Hz (R195). -/
def Leaf.srcSpeed (L : Leaf) (p : Nat) : Int :=
  if L.get POS_STAT_SRC p = 2 then (pick L.pos p).obs.speed else signed 32 (L.get POS_SPD_SPEED p)

/-- A difference from the partner's register in the given fields that has lasted more than 16 courses is posted once
(R197). -/
def Leaf.posDiffers (L : Leaf) (inp : SealIn) (p : Nat) : Leaf :=
  match inp.partner.find? fun x => x.1 == 5 && x.2.1 == p with
  | none => L.onPos p fun P => { P with differs := none }
  | some (_, _, theirs) =>
    let mine := (L.word POS_STAT p).toNat
    if mine >>> 58 = theirs % 2 ^ 64 >>> 58 then L.onPos p fun P => { P with differs := none }
    else
      match (pick L.pos p).differs with
      | none => L.onPos p fun P => { P with differs := some L.count }
      | some c => if since L.count c = 17 then L.differEvent 5 p mine theirs c else L

/-- One position unit at a seal (R174 to R182, R189, R195, R197). -/
def Leaf.sealPort (L : Leaf) (inp : SealIn) (aligned : Bool) (p : Nat) : Leaf :=
  ((((L.portFaults inp p aligned).latchPos p).sealUvw p).chooseSource p).posDiffers inp p

/-- Both position units at a seal. -/
def Leaf.sealPos (L : Leaf) (inp : SealIn) (aligned : Bool) : Leaf :=
  (L.sealPort inp aligned 0).sealPort inp aligned 1

/-! ### Observer against encoder -/

/-- The observer takes the encoder's angle and speed (R192). -/
def Leaf.reseed (L : Leaf) (p : Nat) : Leaf :=
  L.onPos p fun P => { P with
    obs := { P.obs with
      angle := BitVec.ofNat 32 (L.get POS_SPD_ANGLE p), speed := signed 32 (L.get POS_SPD_SPEED p) }
    xRun := 0 }

/-- Encoder and observer of the last seal disagree: angle above XCHK_ANG, or speed by more than 5% of the encoder's
(R192). -/
def Leaf.disagree (L : Leaf) (p : Nat) : Bool :=
  let P := pick L.pos p
  let d := angleDiff P.obs.angle.toNat (L.get POS_SPD_ANGLE p)
  let w := signed 32 (L.get POS_SPD_SPEED p)
  decide (degrees (L.get POS_OBS_XCHK_ANG p) < d.natAbs) || decide (w.natAbs < 20 * (P.obs.speed - w).natAbs)

/-- The cross-check of R192, run by the position block on the values of the last seal. -/
def Leaf.crossCheck (L : Leaf) (p : Nat) : Leaf :=
  let P := pick L.pos p
  let d := angleDiff P.obs.angle.toNat (L.get POS_SPD_ANGLE p)
  let L := L.put POS_STAT_XDIFF (unsigned 16 (d / 65536)) p
  if !L.obsValid p then L.onPos p fun P => { P with xRun := 0 }
  else if P.encDoubt = 2 then
    if L.disagree p then L.encFault p else L.onPos p fun P => { P with encDoubt := 0 }
  else if L.get POS_STAT_SRC p ≠ 1 then L.onPos p fun P => { P with xRun := 0 }
  else if !L.disagree p then
    let L := L.onPos p fun P => { P with xRun := 0 }
    if L.on POS_STAT_ANG_DOUBT p && P.verdict.any (fun v => decide (since L.count v.2 ≤ 3200)) then
      L.put POS_STAT_ANG_DOUBT 0 p
    else L
  else if P.xRun + 1 < L.get POS_OBS_XCHK_N p then L.onPos p fun P => { P with xRun := P.xRun + 1 }
  else
    let again := fun (k : Nat) => P.verdict.any fun v => v.1 == k && decide (since L.count v.2 ≤ 320000)
    let judge := fun (L : Leaf) (k : Nat) => L.onPos p fun P => { P with xRun := 0, verdict := some (k, L.count) }
    let e := L.insideSector p (L.get POS_SPD_ANGLE p)
    let o := L.insideSector p P.obs.angle.toNat
    if L.uvwHealthy p && e && !o then
      if again 1 then judge (L.stick POS_FLT_OBS_FAULT p) 1 else judge (L.reseed p) 1
    else if L.uvwHealthy p && o && !e then
      (judge (L.put POS_STAT_INDEX_PENDING 1 p) 2).onPos p fun Q => { Q with encDoubt := 1 }
    else if again 3 then judge ((L.encFault p).stick POS_FLT_OBS_FAULT p |>.put POS_STAT_ANG_DOUBT 0 p) 3
    else judge ((L.put POS_STAT_ANG_DOUBT 1 p).reseed p) 3

end Sys2Proof.Machine
end

