-- ==== Sys2Proof/Machine/Gate.lean ====
section
/-! DEFINITION. The gate-drive channels (R208 to R242): bias, links, frames and their edges, the interlock, leg faults,
retry and latch, two-leg action, straps, and the STATUS frame as the leaves take it. -/

namespace Sys2Proof.Machine

open Sys2Proof

/-! ### Channels -/

/-- A channel of the module. -/
def State.chan (s : State) (i : Nat) : Chan := pick s.chans i

/-- The module with a channel replaced. -/
def State.setChan (s : State) (i : Nat) (c : Chan) : State := { s with chans := s.chans.setIfInBounds i c }

/-- The module with a channel changed. -/
def State.onChan (s : State) (i : Nat) (f : Chan → Chan) : State := s.setChan i (f (s.chan i))

/-- The other channel of a pair (R209). -/
def partnerOf (i : Nat) : Nat := if i % 2 = 0 then i + 1 else i - 1

/-- The even channel of a pair, which holds what is the pair's (R233). -/
def evenOf (i : Nat) : Nat := i - i % 2

/-- The partner watch is in use (R209, R227). -/
def watched (i : Nat) : Bool := decide (i < 46)

/-- A field of a channel's own GCH_CFG or GCH_PROT item. -/
def Chan.cfgField (c : Chan) (f : Fld) : Nat := fieldOf c.cfg f.hi f.lo
def Chan.protField (c : Chan) (f : Fld) : Nat := fieldOf c.prot f.hi f.lo

/-- MODE: 0 UNUSED, 1 COURSE, 2 CARRIER; 3 is stored as 0 (R248). -/
def Chan.mode (c : Chan) : Nat := c.cfgField GCH_CFG_MODE

/-- Codes of R226. -/
def ChState.code : ChState → Nat
  | .unused => 0
  | .noBias => 1
  | .fallback => 2
  | .run => 3
  | .wait => 4
  | .latched => 5
  | .twoOn => 6
  | .twoOff => 7

/-- A condition bit set in the course (R219). -/
def Chan.mark (c : Chan) (b : Nat) : Chan := { c with acc := { c.acc with fault := c.acc.fault ||| (1#16 <<< b) } }

/-- The strap state is on (R238): `p` is the partner. -/
def Chan.strapOn (c p : Chan) (i : Nat) : Bool :=
  c.strap == 2 && (!watched i || p.strap != 2) && c.bias && !c.soft

/-- The level a channel is to have, by the first row of R239 that applies; `ovhw` is the pair's. -/
def Chan.target (c p : Chan) (i : Nat) (ovhw : Bool) : Bool :=
  if !c.bias || c.st == .noBias || c.st == .unused || c.soft then false
  else match c.st with
    | .latched => ovhw && !c.abandon && !c.ot && c.strapOn p i
    | .twoOn => !c.abandon
    | .twoOff => false
    | .wait => ovhw && !c.ot && c.strapOn p i
    | .fallback => !c.ot && c.strapOn p i
    | .run => !c.ot && c.cmd && !c.abandon
    | .noBias => false
    | .unused => false

/-- The level of an output changed at fine time `now`, with the ticks it was on counted (R413). -/
def Chan.level (c : Chan) (on : Bool) (now : Nat) : Chan :=
  let a := c.acc
  let a := if c.gate && !on then { a with onTicks := a.onTicks + (now - max c.onAt (c.n * 4000)) } else a
  { c with gate := on, acc := if c.gate == on then a else { a with sw := a.sw + 1 } }

/-- The output of a channel brought to its target at fine time `now`: a turn-on waits for the partner's report (R227). -/
def Chan.drive (c p : Chan) (i : Nat) (ovhw : Bool) (now : Nat) : Chan :=
  if !c.target p i ovhw then
    { c.level false now with waitSince := none, repOff := if c.gate then false else c.repOff }
  else if c.gate then c
  else if !watched i || (p.repOff && !p.gate) then
    { c.level true now with repOff := false, waitSince := none, onAt := now }
  else { c with waitSince := some (c.waitSince.getD now) }

/-- Both outputs of the pair of channel `i` brought to their targets: what turns off does so before what turns on. -/
def State.settlePair (s : State) (i now : Nat) : State :=
  let e := evenOf i
  let a := s.chan e
  let b := s.chan (e + 1)
  let ov := a.ovhw
  let a := if a.target b e ov then a else a.drive b e ov now
  let b := b.drive a (e + 1) ov now
  let a := a.drive b e ov now
  (s.setChan e a).setChan (e + 1) b

/-- The fine time of a tick of the channel's present course. -/
def Chan.fineOf (c : Chan) (tick : Nat) : Nat := c.n * 4000 + tick

/-! ### Carrier -/

/-- Insertion of an edge in time order. -/
def insertEdge (e : Nat × Bool) : List (Nat × Bool) → List (Nat × Bool)
  | [] => [e]
  | x :: t => if e.1 < x.1 then e :: x :: t else x :: insertEdge e t

/-- The edges of a period that starts at `start` (R223). -/
def Chan.period (c : Chan) (v : Car) (start : Nat) : Chan :=
  { c with
    car := some (v, start)
    edges := insertEdge (start + v.phase + v.on, false) (insertEdge (start + v.phase, true) c.edges) }

/-- The period chain brought to a fine time: values that wait take effect at the first period that starts after their
application time; ENABLE = 0 stops at the end of the period; ENABLE = 1 on a stopped carrier starts it (R217, R223). -/
def Chan.runCarrier : Nat → Chan → Nat → Chan
  | 0, c, _ => c
  | fuel + 1, c, now =>
    match c.car with
    | some (v, start) =>
      if start + v.period ≤ now then
        let next := start + v.period
        match c.carNext with
        | some (w, at_) =>
          if at_ < next then
            let c := { c with carNext := none }
            if w.enable then Chan.runCarrier fuel (c.period w next) now
            else Chan.runCarrier fuel { c with car := none } now
          else Chan.runCarrier fuel (c.period v next) now
        | none => Chan.runCarrier fuel (c.period v next) now
      else c
    | none =>
      match c.carNext with
      | some (w, at_) =>
        if at_ ≤ now then
          let c := { c with carNext := none }
          if w.enable then Chan.runCarrier fuel (c.period w at_) now else c
        else c
      | none => c

/-! ### Leg faults -/

/-- Channels of a set (R210). -/
def setChans (set : Nat) : List Nat := (List.range 6).map (6 * set + ·)

/-- The ASC-permitted flag as the buttress counts it (R235): every channel whose last applied COURSE frame is less than
2 courses old carries ASC = 1. -/
def State.ascSet (s : State) (set : Nat) : Bool :=
  (setChans set).all fun i =>
    let c := s.chan i
    !(c.ascAt.any fun n => decide (c.n < n + 2)) || c.asc

/-- The two-leg action of the buttress on a set (R235). -/
def State.twoLeg (s : State) (set now : Nat) : State :=
  let n := (s.chan (6 * set)).n
  let bad := (setChans set).filter fun i => (s.chan i).faulted == some n
  let low := bad.all fun i => i % 2 == 0
  let high := bad.all fun i => i % 2 == 1
  let asc := s.ascSet set
  let on := fun i : Nat => asc && ((low && i % 2 == 1) || (high && i % 2 == 0))
  let s := (setChans set).foldl (fun s i =>
    s.onChan i fun c =>
      if c.st == .noBias || c.st == .unused then c
      else if c.st == .latched then c.mark 6
      else { c.mark 6 with st := if on i then .twoOn else .twoOff, lastFault := some n, abandon := false }) s
  (setChans set).foldl (fun s i => s.settlePair i now) s

/-- A try counted on a pair, and WAIT or LATCHED (R226, R233). -/
def State.countTry (s : State) (e : Nat) (ovhw : Bool) : State :=
  let a := s.chan e
  let tries := (if a.winFrom.isSome then a.tries else 0) + 1
  let a := { a with
    winFrom := some (a.winFrom.getD a.n), tries := tries
    faults := (if a.winFrom.isSome then a.faults else 0) + 1, ovhw := ovhw
    waitTill := a.n + a.protField GCH_PROT_WAIT * 16 }
  let st : ChState := if a.protField GCH_PROT_TRIES ≤ tries then .latched else .wait
  let mv := fun (c : Chan) =>
    if c.st == .noBias || c.st == .unused then c else { c with st := st, abandon := c.abandon && !ovhw }
  (s.setChan e (mv a)).onChan (e + 1) mv

/-- Soft turn-off of a faulted switch that is on (R228 to R230). -/
def Chan.softOff (c : Chan) (now : Nat) : Chan :=
  if c.gate then { c.level false now with repOff := false, soft := true } else c

/-- The pair latched off (R226, R235, R241). -/
def State.latchPair (s : State) (e : Nat) : State :=
  let mv := fun (c : Chan) =>
    if c.st == .noBias || c.st == .unused then c else { c with st := .latched, ovhw := false }
  (s.onChan e mv).onChan (e + 1) mv

/-- A leg fault of the pair of channel `i` (R232, R233, R235): `bad` are its faulted switches, `bits` the condition bit
each reports. One leg fault and one try per pair and course (R229). -/
def State.legFault (s : State) (i : Nat) (bad : List Nat) (bits : List (Nat × Nat)) (now : Nat) : State :=
  let e := evenOf i
  let st := (s.chan i).st
  let n := (s.chan e).n
  let s := bits.foldl (fun s b => s.onChan b.1 fun c => c.mark b.2) s
  if st == .noBias || st == .unused then s
  else
    let s := bad.foldl (fun s b => s.onChan b fun c => { c.softOff now with faulted := some n }) s
    let again := (s.chan e).lastFault == some n
    let set := e / 6
    let others := if e < 24 then
        (List.range 3).any fun l => 6 * set + 2 * l != e && (s.chan (6 * set + 2 * l)).lastFault == some n
      else false
    let s := s.onChan e fun c => { c with lastFault := some n }
    if st == .twoOn || st == .twoOff || st == .latched then s.settlePair e now
    else if others && st == .run then s.twoLeg set now
    else if others && st == .wait then s.twoLeg set now
    else if others && st == .fallback then
      -- R27: no flag; the faulted pairs latch off
      let s := (List.range 3).foldl (fun s l =>
        if (s.chan (6 * set + 2 * l)).lastFault == some n then s.latchPair (6 * set + 2 * l) else s) s
      (setChans set).foldl (fun s i => s.settlePair i now) s
    else if again then s.settlePair e now
    else (s.countTry e false).settlePair e now

/-! ### Boundaries and the STATUS frame -/

/-- Conditions that stand at the end of a course (R219). -/
def Chan.standing (c p : Chan) (i : Nat) (ovhw : Bool) : BitVec 16 :=
  let b := fun (k : Nat) (x : Bool) => if x then (1#16 <<< k) else 0#16
  b 5 c.ot ||| b 6 (c.st == .twoOn || c.st == .twoOff) ||| b 7 (ovhw && (c.st == .wait || c.st == .latched)) |||
    b 8 (watched i && c.strap == 2 && p.strap == 2) ||| b 9 (c.strap == 3) ||| b 10 (c.testFail != 0) |||
    b 12 (c.st == .noBias) ||| b 13 (pick c.tb 0).lost ||| b 14 (pick c.tb 1).lost ||| b 15 (c.st == .latched)

/-- Miller clamp engaged: off, with bias, not in soft turn-off, by the rows of R239. -/
def Chan.clamped (c : Chan) (ovhw : Bool) : Bool :=
  !c.gate && c.bias && !c.soft &&
    (match c.st with
      | .noBias => false
      | .unused => true
      | .latched => !ovhw || c.strap == 1
      | .wait => !ovhw || c.strap == 1
      | .twoOn => true
      | .twoOff => true
      | .fallback => c.ot || c.strap == 1
      | .run => c.ot || c.cfgField GCH_CFG_MILLER == 1)

/-- The STATUS body of the course that ends now, but for the values measured when it is sent (R219). -/
def Chan.describe (c p : Chan) (i : Nat) (even : Chan) : BitVec 160 :=
  let fr := c.applied.filter fun a => a.course == c.n && a.kind != 2
  let s0 := fr.any fun a => a.link == .leaf0
  let s1 := fr.any fun a => a.link == .leaf1
  let a := c.acc
  let fault := a.fault ||| c.standing p i even.ovhw
  BitVec.ofNat 160
    ((3 <<< 158) + (c.cur.toNat <<< 142) + (c.st.code <<< 138) + ((bit s0 + 2 * bit s1) <<< 136) +
      (bit (fr.any fun x => !x.dup) <<< 135) + (bit a.divs <<< 134) + (min a.div 4095 <<< 122) +
      (min a.late 15 <<< 118) + (min a.bad0 7 <<< 115) + (min a.bad1 7 <<< 112) + (fault.toNat <<< 96) +
      (min even.tries 7 <<< 93) + (bit c.gate <<< 92) + (bit (c.clamped even.ovhw) <<< 91) + (c.strap % 4 <<< 89) +
      (bit c.asc <<< 88) + (a.testItem % 16 <<< 60) + (bit a.testRan <<< 59) + (bit a.testPass <<< 58) +
      (a.ritem % 256 <<< 48) + (a.rleaf.num <<< 47) + a.rdata % 2 ^ 32)

/-- One field of a register item clamped to its range (R248, R249). -/
def clampWord (r : Reg) (w : Word) : Word :=
  r.fields.foldl (fun w f =>
    if f.acc == .rws || f.acc == .rw then setField w f.hi f.lo (clampNat f.min f.max (fieldOf w f.hi f.lo)) else w) w

/-- An item written at a boundary (R218, R248, R249). Items 0 and 1 are the halves of GCH_CFG, 2 and 3 of GCH_PROT. -/
def Chan.writeItem (c : Chan) (item data : Nat) : Chan :=
  match item with
  | 0 => { c with cfg := clampWord GCH_CFG (setField (setField c.cfg 31 31 (data >>> 31)) 29 24 (data >>> 24)) }
  | 1 =>
    let mode := data >>> 30
    let w := clampWord GCH_CFG (setField c.cfg 63 32 data)
    { c with cfg := if mode = 3 then setField w 63 62 0 else w }
  | 2 => { c with prot := clampWord GCH_PROT (setField c.prot 31 0 data) }
  | 3 => { c with prot := clampWord GCH_PROT (setField c.prot 63 32 data) }
  | _ => { c with coef := signed 8 data }

/-- An item as a READ returns it (R218). -/
def Chan.readItem (c even : Chan) : Nat → Nat
  | 0 => c.cfg.toNat % 2 ^ 32
  | 1 => c.cfg.toNat >>> 32
  | 2 => even.prot.toNat % 2 ^ 32
  | 3 => even.prot.toNat >>> 32
  | _ => unsigned 8 c.coef

/-- Lasting failure of a comparator test (R241): TEST_FAIL, and for all but overtemperature the pair latches. -/
def State.testOutcome (s : State) (i item : Nat) (pass : Bool) (both : State → Nat → State) : State :=
  let c := s.chan i
  let b : BitVec 5 := 1#5 <<< item
  if pass then
    let s := if c.failedOnce &&& b != 0 && c.testFail &&& b == 0 then both s i else s
    s.onChan i fun c => { c with failedOnce := c.failedOnce &&& ~~~ b, testFail := c.testFail &&& ~~~ b }
  else if c.failedOnce &&& b != 0 then
    let s := s.onChan i fun c => { c.mark 10 with testFail := c.testFail ||| b }
    if item = 4 then s else s.latchPair (evenOf i)
  else s.onChan i fun c => { c with failedOnce := c.failedOnce ||| b }

/-- A fault resolved as transient, counted in both leaves (R233, R241). -/
def State.gateTrans (s : State) (i n : Nat) : State := s.both fun L => L.bumpBy GCH_CNT_TRANS n i

/-- A MAINT operation acting at its boundary, or a test whose result belongs to this course (R218, R226, R234). -/
def State.maintActs (s : State) (i : Nat) (m : MaintOp) : State :=
  let c := s.chan i
  match m.op with
  | 1 =>
    if m.item = 2 ∨ m.item = 3 then s.onChan (evenOf i) fun c => if i % 2 = 0 then c.writeItem m.item m.data else c
    else
      let c' := c.writeItem m.item m.data
      let c' := if m.item ≠ 1 then c'
        else if c'.mode = 0 then { c' with st := .unused, fed := false, fedCar := false, edges := [], car := none }
        else if c.st == .unused then { c' with st := if c.bias then .fallback else .noBias, fed := false }
        else c'
      s.setChan i c'
  | 2 => s.onChan i fun c =>
      { c with acc := { c.acc with ritem := m.item, rleaf := m.link, rdata := c.readItem (s.chan (evenOf i)) m.item } }
  | 3 =>
    let s := s.onChan i fun c =>
      let c := { c with acc := { c.acc with testItem := m.item, testRan := m.ran, testPass := m.ran && m.pass } }
      if m.ran then c else c.mark 11
    if m.ran then s.testOutcome i m.item m.pass (fun s i => s.gateTrans i 1) else s
  | 4 =>
    if c.st == .latched || c.st == .twoOn || c.st == .twoOff then
      let ok := c.testFail &&& 0b01111#5 == 0
      if ok then
        (s.onChan i fun c => { c with st := .fallback, fed := false, fedCar := false, edges := [], car := none }).onChan
          (evenOf i) fun c => { c with winFrom := none, tries := 0, faults := 0, ovhw := false }
      else s
    else s
  | 5 => if c.st == .twoOn then s.onChan i fun c => { c with st := .twoOff } else s
  | _ => s

/-- The boundary between two courses of a channel (R218, R222, R225, R226). -/
def State.chanBoundary (s : State) (i : Nat) : State :=
  let c := s.chan i
  let p := s.chan (partnerOf i)
  let ev := s.chan (evenOf i)
  let desc := c.describe p i ev
  let n := c.n + 1
  let last := (c.edges.filter fun e => decide (e.1 < n * 4000)).getLast?
  let c : Chan := { c with
    ended := desc, due := true, n := n, cur := c.cur + 1, acc := {}, lastSw := c.acc.sw
    lastOn := c.acc.onTicks + (if c.gate then n * 4000 - max c.onAt (c.n * 4000) else 0)
    cmd := (last.map (·.2)).getD c.cmd
    edges := c.edges.filter fun e => decide (n * 4000 ≤ e.1)
    applied := c.applied.filter fun a => decide (n ≤ a.course + 1) }
  let c := Chan.runCarrier 4 c (n * 4000)
  let upd0 := c.applied.any fun a => a.kind == 0 && a.key == 0 && a.course == n
  let fed := c.fed || upd0 || c.fedCar
  let c : Chan := { c with fed := fed, st := if c.st == .fallback && fed then .run else c.st }
  let now := c.maint.filter fun m => decide (m.course ≤ n)
  let c := { c with maint := c.maint.filter fun m => decide (n < m.course) }
  let s := s.setChan i c
  (now.foldl (fun s m => s.maintActs i m) s).settlePair i (n * 4000)

/-- The 16-bit count with a given low byte that is nearest to another (R214). -/
def nearTag (t : BitVec 16) (low : Byte) : BitVec 16 :=
  let d : Int := signed 8 (low.toNat + 256 - t.toNat % 256)
  BitVec.ofInt 16 (t.toNat + d)

/-- A course mark on a link, or its absence (R214). -/
def LinkTb.mark (t : LinkTb) (received : Bool) (low : Byte) : LinkTb :=
  let next := t.tag + 1
  if received && low.toNat == next.toNat % 256 then
    { t with tag := next, bad := 0, good := t.good + 1, lost := t.lost && decide (t.good + 1 < 2) }
  else
    let lost := t.lost || decide (2 ≤ t.bad + 1)
    { t with tag := if t.lost && received then nearTag next low else next, bad := t.bad + 1, good := if t.lost && received then 1 else 0, lost := lost }

/-! ### Frames -/

/-- Bits `[hi:lo]` of a frame body. -/
def fb (b : BitVec 72) (hi lo : Nat) : Nat := (b.toNat >>> lo) % 2 ^ (hi + 1 - lo)

/-- The CRC-8 of a body (R213). -/
def bodyCrc (b : BitVec 72) : Nat := crc8 (bytesOf b.toNat 0 9).reverse

/-- Kind of a body: 0 COURSE, 1 CARRIER, 2 + OP for MAINT, 18 for the reserved type (R216 to R218). -/
def kindOf (b : BitVec 72) : Nat :=
  match fb b 71 70 with
  | 0 => 0
  | 1 => 1
  | 2 => 2 + fb b 51 48
  | _ => 18

/-- Edges E0 to E3 of a COURSE body. -/
def edgesOf (b : BitVec 72) : List Nat :=
  ([fb b 11 0, fb b 23 12, fb b 35 24, fb b 47 36]).take (fb b 51 49)

/-- Strictly increasing and below 4,000. -/
def risingBelow : List Nat → Bool
  | [] => true
  | [a] => decide (a < 4000)
  | a :: b :: t => decide (a < b) && risingBelow (b :: t)

/-- The fields of a body lie within R216, R217, R218. -/
def fieldsOk (b : BitVec 72) : Bool :=
  match kindOf b with
  | 0 => decide (fb b 51 49 ≤ 4) && risingBelow (edgesOf b) &&
      (([fb b 11 0, fb b 23 12, fb b 35 24, fb b 47 36]).drop (fb b 51 49)).all (· == 0)
  | 1 => decide (1600 ≤ fb b 39 27) && decide (fb b 39 27 ≤ 4267) && decide (16 ≤ fb b 26 14) &&
      decide (fb b 26 14 + 16 ≤ fb b 39 27) && decide (fb b 13 1 < fb b 39 27)
  | 2 => true
  | 3 => decide (fb b 47 40 ≤ 4)
  | 4 => decide (fb b 47 40 ≤ 4)
  | 5 => decide (fb b 47 40 ≤ 4) && decide (fb b 11 0 < 4000)
  | 6 => true
  | 7 => true
  | _ => false

/-- A frame discarded as bad on its link (R220, R221). -/
def Chan.badFrame (c : Chan) (link : LeafId) : Chan :=
  match link with
  | .leaf0 => { c with acc := { c.acc with bad0 := c.acc.bad0 + 1 } }
  | .leaf1 => { c with acc := { c.acc with bad1 := c.acc.bad1 + 1 } }

/-- Key under which the first valid frame is applied (R221). -/
def keyOf (b : BitVec 72) : Nat × Nat :=
  match fb b 71 70 with
  | 0 => (0, fb b 69 69)
  | 1 => (1, 0)
  | _ => (2, fb b 51 40)

/-- A duplicate compared with the frame applied (R224). -/
def Chan.compare (c : Chan) (a : BitVec 72) (b : BitVec 72) : Chan :=
  if fb a 71 70 = 0 then
    let structural := fb a 51 48 != fb b 51 48 || fb a 68 68 != fb b 68 68
    let edge := if fb a 51 48 = fb b 51 48 then
        (List.zipWith (fun x y : Nat => ((x : Int) - y).natAbs) (edgesOf a) (edgesOf b)).foldl max 0 else 0
    { c with acc := { c.acc with divs := c.acc.divs || structural, div := max c.acc.div edge } }
  else if fb a 71 70 = 1 then
    let structural := fb a 69 69 != fb b 69 69
    let d := fun hi lo => ((fb a hi lo : Int) - fb b hi lo).natAbs
    { c with acc := { c.acc with
        divs := c.acc.divs || structural, div := max c.acc.div (max (d 39 27) (max (d 26 14) (d 13 1))) } }
  else c

/-- Levels of a COURSE body's edges: L0, then alternating (R216). -/
def levelEdges (start : Nat) (l0 : Bool) : List Nat → List (Nat × Bool)
  | [] => []
  | e :: t => (start + e, l0) :: levelEdges start (!l0) t

/-- A COURSE frame applied at fine time `now` for the course `course` (R222). -/
def Chan.applyCourse (c : Chan) (b : BitVec 72) (course now : Nat) : Chan :=
  let all := levelEdges (course * 4000) (fb b 48 48 == 1) (edgesOf b)
  let c := { c with asc := fb b 68 68 == 1, ascAt := some c.n }
  let others := c.edges.filter fun e => e.1 / 4000 != course
  if course = c.n then
    let past := all.filter fun e => decide (e.1 ≤ now)
    let level := (past.getLast?.map (·.2)).getD c.cmd
    let c := { c with edges := (all.filter fun e => decide (now < e.1)) ++ others }
    if level != c.cmd then
      { c with cmd := level, abandon := c.abandon && !level, acc := { c.acc with late := c.acc.late + 1 } }
    else c
  else { c with edges := others ++ all }

/-- A CARRIER frame applied (R223): its values wait for SEND + 320 of its course. -/
def Chan.applyCarrier (c : Chan) (b : BitVec 72) (course : Nat) : Chan :=
  { c with
    fedCar := true
    carNext := some ({ enable := fb b 69 69 == 1, period := fb b 39 27, on := fb b 26 14, phase := fb b 13 1 },
      course * 4000 + fb b 51 40 + 320) }

/-- What a channel does with a frame on a link (R219 to R221): checks it, applies the first with its key, compares the
first from the other link, and discards the rest. `act` is what an applied frame does. -/
def State.gateFrame (s : State) (rx : GateRx) (act : Chan → Nat → Nat → Chan) : State :=
  let i := rx.chan.val
  let c := s.chan i
  let t := pick c.tb rx.link.num
  let b := rx.body
  let k := kindOf b
  let tag := BitVec.ofNat 16 (fb b 67 52)
  let now := c.fineOf rx.tick.val
  if t.lost then s
  else
    let modeOk := if k = 0 then c.mode == 1 else if k = 1 then c.mode == 2 else true
    let valid := rx.delim == 0xE7#8 && bodyCrc b == rx.crc.toNat && modeOk && (tag == t.tag || tag == t.tag + 1) &&
      fieldsOk b
    if !valid then s.setChan i (c.badFrame rx.link)
    else
      let course := if tag == t.tag then c.n else c.n + 1
      let (kd, key) := keyOf b
      let seen := fun (a : Applied) => a.kind == kd && a.key == key && a.course == course
      let c := { c with
        tb := alter c.tb rx.link.num fun t => { t with lastFrame := some c.n }
        lastValid := if kd = 2 then c.lastValid else some now }
      match c.applied.find? seen with
      | some a =>
        if a.link = rx.link || a.dup then s.setChan i (c.badFrame rx.link)
        else
          let c := c.compare a.body b
          s.setChan i { c with applied := c.applied.map fun x => if seen x then { x with dup := true } else x }
      | none =>
        if kd = 0 && key == 0 && c.applied.any (fun a => a.kind == 0 && a.key == 1 && a.course == course) then s.setChan i c
        else
          let c := { c with applied := c.applied ++ [{ kind := kd, key := key, course := course, link := rx.link, body := b }] }
          (s.setChan i (act c course now)).settlePair i now

/-- A frame that reaches its command: of the command's kind, or damaged. -/
def ofKind (rx : GateRx) (k : Nat → Bool) : Bool :=
  k (kindOf rx.body) || rx.delim != 0xE7#8 || bodyCrc rx.body != rx.crc.toNat

/-- The course at whose boundary a WRITE, CLEAR or LOWER acts: a course that has begun acts at the next (R218). -/
def boundaryOf (c : Chan) (course : Nat) : Nat := if course ≤ c.n then c.n + 1 else course

/-- A MAINT operation put on the list of a channel. -/
def Chan.defer (c : Chan) (b : BitVec 72) (link : LeafId) (course : Nat) : Chan :=
  { c with maint := c.maint ++
    [{ course := course, op := fb b 51 48, item := fb b 47 40, data := fb b 31 0, link := link }] }

/-- COURSE_FRAME (R216, R219 to R222, R224). -/
def execCourseFrame (rx : GateRx) (s : State) : Done :=
  guarded s (ofKind rx fun k => k == 0 || k == 18) (s.gateFrame rx fun c course now => c.applyCourse rx.body course now)

/-- CARRIER_FRAME (R217, R220, R221, R223, R224). -/
def execCarrierFrame (rx : GateRx) (s : State) : Done :=
  guarded s (ofKind rx (· == 1)) <|
    s.gateFrame rx fun c course now => Chan.runCarrier 4 (c.applyCarrier rx.body course) now

/-- MAINT_NOP (R218); a reserved operation is discarded and counted as bad. -/
def execMaintNop (rx : GateRx) (s : State) : Done :=
  guarded s (ofKind rx fun k => k == 2 || (decide (8 ≤ k) && decide (k < 18))) (s.gateFrame rx fun c _ _ => c)

/-- MAINT_WRITE (R218). -/
def execMaintWrite (rx : GateRx) (s : State) : Done :=
  guarded s (ofKind rx (· == 3)) (s.gateFrame rx fun c course _ => c.defer rx.body rx.link (boundaryOf c course))

/-- MAINT_READ (R218): the item goes into the STATUS frame that describes the named course. -/
def execMaintRead (rx : GateRx) (s : State) : Done :=
  guarded s (ofKind rx (· == 4)) <| s.gateFrame rx fun c course _ =>
    if course ≤ c.n then
      { c with acc := { c.acc with
          ritem := fb rx.body 47 40, rleaf := rx.link
          rdata := c.readItem (s.chan (evenOf rx.chan.val)) (fb rx.body 47 40) } }
    else c.defer rx.body rx.link course

/-- MAINT_TEST (R218, R241): `undisturbed` says that no on edge, fault or strap change fell in the span of the test;
`pass` is its outcome. A test whose start tick has passed is not run. -/
def execMaintTest (rx : GateRx) (undisturbed pass : Bool) (s : State) : Done :=
  guarded s (ofKind rx (· == 5)) <|
    let i := rx.chan.val
    let s' := s.gateFrame rx fun c course now =>
      let start := course * 4000 + fb rx.body 11 0
      let ran := decide (now < start) && undisturbed
      { c with maint := c.maint ++
        [{ course := course, op := 3, item := fb rx.body 47 40, data := 0, link := rx.link, ran := ran, pass := pass }] }
    -- a test of the present course is reported in it
    let c := s'.chan i
    let now := c.maint.filter fun m => m.op == 3 && decide (m.course ≤ c.n)
    let s' := s'.setChan i { c with maint := c.maint.filter fun m => !(m.op == 3 && decide (m.course ≤ c.n)) }
    (now.foldl (fun s m => s.maintActs i m) s').settlePair i (c.fineOf rx.tick.val)

/-- MAINT_CLEAR (R218, R234). -/
def execMaintClear (rx : GateRx) (s : State) : Done :=
  guarded s (ofKind rx (· == 6)) (s.gateFrame rx fun c course _ => c.defer rx.body rx.link (boundaryOf c course))

/-- MAINT_LOWER (R218, R226). -/
def execMaintLower (rx : GateRx) (s : State) : Done :=
  guarded s (ofKind rx (· == 7)) (s.gateFrame rx fun c course _ => c.defer rx.body rx.link (boundaryOf c course))

/-- GATE_EDGE (R222, R223, R227): the edge due at a tick of the present course. -/
def execGateEdge (chan : Fin 48) (tick : Fin 4000) (s : State) : Done :=
  let i := chan.val
  let c := s.chan i
  let now := c.fineOf tick.val
  let c := Chan.runCarrier 4 c now
  match c.edges.find? fun e => e.1 == now with
  | none => .next s
  | some e =>
    let c := { c with
      cmd := e.2, abandon := c.abandon && !e.2, edges := c.edges.filter fun x => decide (now < x.1) }
    .next ((s.setChan i c).settlePair i now)

/-- FRAME_ABSENCE_TIMEOUT (R225, R226, R236). -/
def execFrameAbsenceTimeout (chan : Fin 48) (tick : Fin 4000) (s : State) : Done :=
  let i := chan.val
  let c := s.chan i
  let now := c.fineOf tick.val
  let out := match c.lastValid with
    | some t => decide (t + 8000 ≤ now)
    | none => true
  guarded s (out && (c.st == .run || c.fed)) <|
    (s.setChan i { c with
      st := if c.st == .run then .fallback else c.st
      fed := false, fedCar := false, edges := [], car := none, carNext := none, abandon := false }).settlePair i now

/-- PARTNER_OFF_REPORT (R227): the partner of a channel reports its gate below its VEE2 + ILK_V. -/
def execPartnerOffReport (chan : Fin 48) (tick : Fin 4000) (s : State) : Done :=
  let i := chan.val
  let p := partnerOf i
  guarded s (!(s.chan p).gate && watched i) <|
    (s.onChan p fun c => { c with repOff := true }).settlePair i ((s.chan i).fineOf tick.val)

/-- ILK_STALL (R227). -/
def execIlkStall (chan : Fin 48) (tick : Fin 4000) (s : State) : Done :=
  let i := chan.val
  let c := s.chan i
  let p := s.chan (partnerOf i)
  let now := c.fineOf tick.val
  let due := match c.waitSince with
    | some t => decide (max t p.softEnd + 256 ≤ now) && !p.soft
    | none => false
  guarded s due <|
    (s.setChan i { c with abandon := true, waitSince := none }).legFault i [i] [(i, 4)] now

/-- The effective desaturation threshold in 0.1 mV (R228, R411). -/
def Chan.dsatThreshold (c : Chan) : Int :=
  clampInt 20000 120000 (c.cfgField GCH_CFG_DSAT_TH * 1000 + c.coef * ((c.temp : Int) - 64 - 25))

/-- DESATURATION (R228): above the threshold in 2 consecutive samples after blanking. -/
def execDesaturation (chan : Fin 48) (tick : Fin 4000) (mv samples : Nat) (s : State) : Done :=
  let i := chan.val
  let c := s.chan i
  let now := c.fineOf tick.val
  guarded s (c.gate && decide (c.onAt + c.cfgField GCH_CFG_BLANK * 8 ≤ now) && decide (2 ≤ samples) &&
      decide (c.dsatThreshold < (mv : Int) * 10)) <|
    s.legFault i [i] [(i, 0)] now

/-- SOFT_TURN_OFF_END (R230). -/
def execSoftTurnOffEnd (chan : Fin 48) (tick : Fin 4000) (below : Bool) (ns : Nat) (s : State) : Done :=
  let i := chan.val
  let c := s.chan i
  let now := c.fineOf tick.val
  guarded s (c.soft && (below || decide (3000 ≤ ns))) <|
    (s.setChan i { c with soft := false, softEnd := now }).settlePair i now

/-- The undervoltage thresholds a pair applies, in 0.1 V (R249): as written, capped by the settings of both channels. -/
def uvApplied (even odd : Chan) (vee : Bool) : Nat :=
  if vee then
    min (even.protField GCH_PROT_UV_VEE)
      (20 + 5 * min (even.cfgField GCH_CFG_VEE2) (odd.cfgField GCH_CFG_VEE2) - 5)
  else
    min (even.protField GCH_PROT_UV_VDD)
      (150 + 5 * min (even.cfgField GCH_CFG_VDD2) (odd.cfgField GCH_CFG_VDD2) - 10)

/-- UNDERVOLTAGE (R240): not while bias is lost. -/
def execUndervoltage (chan : Fin 48) (tick : Fin 4000) (vee : Bool) (mv ns : Nat) (s : State) : Done :=
  let i := chan.val
  let c := s.chan i
  let th := uvApplied (s.chan (evenOf i)) (s.chan (evenOf i + 1)) vee
  guarded s (c.bias && decide (mv < th * 100) && decide (1000 < ns)) <|
    s.legFault i [i] [(i, if vee then 3 else 2)] (c.fineOf tick.val)

/-- OVERTEMPERATURE (R240): holds the pair off; no try. -/
def execOvertemperature (chan : Fin 48) (tick : Fin 4000) (degC : Int) (s : State) : Done :=
  let i := chan.val
  let e := evenOf i
  guarded s (decide (((s.chan e).protField GCH_PROT_OT_LIM : Int) < degC)) <|
    ((s.onChan e fun c => { c.mark 5 with ot := true }).onChan (e + 1) fun c => { c.mark 5 with ot := true }).settlePair i
      ((s.chan i).fineOf tick.val)

/-- OVERTEMPERATURE_RELEASE (R240): at the first boundary after 160 courses at least 10 °C below OT_LIM. -/
def execOvertemperatureRelease (chan : Fin 48) (degC : Int) (courses : Nat) (s : State) : Done :=
  let i := chan.val
  let e := evenOf i
  guarded s ((s.chan e).ot && decide (160 ≤ courses) && decide (degC + 10 ≤ ((s.chan e).protField GCH_PROT_OT_LIM : Int))) <|
    ((s.onChan e fun c => { c with ot := false }).onChan (e + 1) fun c => { c with ot := false }).settlePair i
      ((s.chan i).fineOf 0)

/-- The frames of a channel meet R225: it is fed and its absence timer has not run out. -/
def Chan.meetsFrames (c : Chan) : Bool := c.fed && c.lastValid.any fun t => decide (c.n * 4000 < t + 8000)

/-- A channel leaves WAIT: RUN if R225 is met, else FALLBACK (R226). -/
def Chan.leaveWait (c : Chan) : Chan :=
  if c.st == .wait then { c with st := if c.meetsFrames then .run else .fallback } else c

/-- WAIT_EXPIRY (R226, R233). -/
def execWaitExpiry (pair : Fin 24) (causeGone : Bool) (s : State) : Done :=
  let e := 2 * pair.val
  let a := s.chan e
  guarded s (((s.chan e).st == .wait || (s.chan (e + 1)).st == .wait) && !a.ovhw && decide (a.waitTill ≤ a.n)) <|
    (if causeGone then (s.onChan e Chan.leaveWait).onChan (e + 1) Chan.leaveWait
      -- a restarted wait is a try and no fault
      else (s.countTry e false).onChan e fun c => { c with faults := if a.winFrom.isSome then a.faults else 0 }).settlePair e
      (a.fineOf 0)

/-- The buttress heeds a leaf's trip lines: a valid frame from it within 2 courses (R19). -/
def Chan.heeds (c : Chan) (l : LeafId) : Bool := (pick c.tb l.num).lastFrame.any fun n => decide (c.n < n + 2)

/-- OV_HW_RELEASE (R240): the SP12 comparators of both non-silent leaves inside their windows for a whole course. -/
def execOvHwRelease (inside0 inside1 : Bool) (s : State) : Done :=
  let rel := fun (s : State) (p : Nat) =>
    let e := 2 * p
    let a := s.chan e
    let quiet := (inside0 || !(a.heeds .leaf0)) && (inside1 || !(a.heeds .leaf1))
    if a.ovhw && quiet && (a.st == .wait || (s.chan (e + 1)).st == .wait) then
      (((s.onChan e Chan.leaveWait).onChan (e + 1) Chan.leaveWait).onChan e fun c => { c with ovhw := false }).settlePair e
        (a.fineOf 0)
    else s
  .next ((List.range 24).foldl rel s)

/-- TRY_WINDOW_END (R233). -/
def execTryWindowEnd (pair : Fin 24) (s : State) : Done :=
  let e := 2 * pair.val
  let a := s.chan e
  guarded s ((a.winFrom.any fun n => decide (n + 160000 ≤ a.n)) && a.st != .latched && (s.chan (e + 1)).st != .latched) <|
    (s.setChan e { a with winFrom := none, tries := 0, faults := 0 }).gateTrans e a.faults

/-! ### Bias and straps -/

/-- Channels of a bias group (R210). -/
def groupChans (g : Nat) : List Nat :=
  if g < 4 then setChans g
  else if g < 8 then [16 + 2 * g, 17 + 2 * g]
  else if g = 8 then (List.range 10).map (32 + ·)
  else if g = 9 then [42, 43, 44, 45]
  else [46, 47]

/-- A channel without bias (R212, R226): its output off by the pull-down; a channel in UNUSED stays there. -/
def Chan.loseBias (c : Chan) : Chan :=
  { c with
    bias := false, st := if c.st == .unused then .unused else .noBias, gate := false, repOff := true, soft := false
    waitSince := none, fed := false, fedCar := false, edges := [], car := none, carNext := none }

/-- GROUP_LOSS (R212). -/
def execGroupLoss (g : Fin 11) (mv ns : Nat) (s : State) : Done :=
  guarded s (decide (mv < 19000) && decide (2000 < ns)) <|
    let s := (groupChans g).foldl (fun s i => s.onChan i Chan.loseBias) s
    let s := { s with groups := s.groups.setIfInBounds g { (pick s.groups g) with bias := false } }
    s.both fun L => L.put GCH_BG_FLT 1 g |>.put GCH_BG_RAIL (min (mv / 200) 255) g

/-- BIAS_RESTORED (R212): the rail has stayed above 20.0 V for 10 ms. -/
def execBiasRestored (g : Fin 11) (mv us : Nat) (src : Fin 4) (s : State) : Done :=
  guarded s (decide (20000 < mv) && decide (10000 ≤ us) && !(pick s.groups g).bias) <|
    let s := (groupChans g).foldl (fun s i => s.onChan i fun c => if c.winding then { c with bias := true } else c) s
    let s := { s with groups := s.groups.setIfInBounds g { (pick s.groups g) with bias := true, src := src.val } }
    s.both fun L => L.put GCH_BG_FLT 0 g |>.put GCH_BG_SRC src.val g |>.put GCH_BG_RAIL (min (mv / 200) 255) g

/-- WINDING_LOSS (R211, R226). -/
def execWindingLoss (chan : Fin 48) (tick : Fin 4000) (s : State) : Done :=
  let i := chan.val
  .next ((s.onChan i fun c => { c.loseBias with winding := false }).settlePair i ((s.chan i).fineOf tick.val))

/-- The source of a group's rail (R211): the low-voltage input whenever it holds 21.0 V; the backup runs from above 150 V
of the link until below 130 V. -/
def railSource (backup : Bool) (linkMv lvMv : Nat) : Bool × Nat :=
  let b := if backup then decide (130000 ≤ linkMv) else decide (150000 < linkMv)
  (b, if 21000 ≤ lvMv then 1 else if b then 2 else 0)

/-- BIAS_SOURCE_CHANGE (R211, R247). -/
def execBiasSourceChange (g : Fin 11) (linkMv lvMv : Nat) (rail load : Byte) (s : State) : Done :=
  let G := pick s.groups g
  let (b, src) := railSource G.backup linkMv lvMv
  let s := { s with groups := s.groups.setIfInBounds g { G with src := src, backup := b } }
  .next <| s.both fun L =>
    let L := L.put GCH_BG_RAIL rail.toNat g |>.put GCH_BG_LOAD load.toNat g
    if L.get GCH_BG_SRC g = src then L else (L.put GCH_BG_SRC src g).bump GCH_BG_CHANGES g

/-- The strap bands (R237): 0 open, 1 10 kΩ, 2 47 kΩ, 3 invalid. -/
def strapBand (ohm : Nat) : Nat :=
  if 1000000 < ohm then 0 else if 8000 ≤ ohm ∧ ohm ≤ 12000 then 1 else if 38000 ≤ ohm ∧ ohm ≤ 56000 then 2 else 3

/-- STRAP_READ (R226, R237, R238). -/
def execStrapRead (chan : Fin 48) (ohm courses : Nat) (s : State) : Done :=
  let i := chan.val
  let c := s.chan i
  guarded s (c.bias && decide (16 ≤ courses)) <|
    (s.setChan i { c with strap := strapBand ohm, st := if c.st == .noBias then .fallback else c.st }).settlePair i
      (c.fineOf 0)

/-! ### STATUS in the leaves -/

/-- A bit of a 48-bit map of the leaf. -/
def Leaf.mapBit (L : Leaf) (f : Fld) (i : Nat) (b : Bool) : Leaf := L.put (f.bit i) (bit b)

/-- Bits `[hi:lo]` of a STATUS body. -/
def stb (b : BitVec 160) (hi lo : Nat) : Nat := (b.toNat >>> lo) % 2 ^ (hi + 1 - lo)

/-- A leaf takes a STATUS frame of channel `i` (R219, R243, R246, R250 to R253): `waitLeft` is what remains of WAIT. -/
def Leaf.takeStatus (L : Leaf) (i : Nat) (b : BitVec 160) (waitLeft : Nat) : Leaf :=
  let was := L.get GCH_STAT_STATE i
  let st := stb b 141 138
  let own := if L.id = .leaf0 then stb b 117 115 else stb b 114 112
  let old := stb (pick L.gst i).body 111 96
  let L := { L with gst := L.gst.setIfInBounds i { body := b, fresh := true } }
  let L := L.put GCH_STAT_STATE st i |>.put GCH_STAT_SUPP (stb b 137 136) i |>.put GCH_STAT_STRAP (stb b 90 89) i
    |>.put GCH_STAT_GATE (stb b 92 92) i |>.put GCH_STAT_CLAMP (stb b 91 91) i |>.put GCH_STAT_ASC (stb b 88 88) i
    |>.put GCH_STAT_NODUP (stb b 135 135) i |>.put GCH_STAT_TEMP (stb b 87 80) i |>.put GCH_STAT_VDD2 (stb b 79 72) i
    |>.put GCH_STAT_VEE2 (stb b 71 64) i |>.put GCH_STAT_TRIES_USED (stb b 95 93) i
    |>.put GCH_STAT_WAIT_LEFT (min waitLeft 4095) i
  let L := L.setWord GCH_FLT i (L.word GCH_FLT i ||| (BitVec.ofNat 64 (stb b 111 96) &&& ~~~ BitVec.ofNat 64 old))
  let L := L.bumpBy GCH_CNT_LATE (stb b 121 118) i |>.bumpBy GCH_CNT_BAD own i
  let L := if was = 3 && st == 2 then L.bump GCH_CNT_FALLBACKS i else L
  let div := stb b 133 122
  let L := L.put GCH_DIV_DIV_LAST div i |>.keepMax GCH_DIV_DIV_MAX div i
  let L := if stb b 134 134 = 1 then L.bump GCH_DIV_STRUCT i else L
  let L := if stb b 135 135 = 1 then L.bump GCH_DIV_NODUP_N i else L
  let L := L.mapBit GCH_LATCH_LATCHED i (decide (5 ≤ st))
    |>.mapBit GCH_FB_FALLBACK i (st == 1 || st == 2) |>.mapBit GCH_DIVSUM_DIV i (div != 0 || stb b 134 134 == 1)
  match stb b 137 136 with
  | 1 => L.mapBit GCH_SUP_LEAF1 i false
  | 2 => L.mapBit GCH_SUP_LEAF1 i true
  | _ => L

/-- The CRC-16 of a STATUS body (R213). -/
def statusCrc (b : BitVec 160) : Nat := crc16 (bytesOf b.toNat 0 20).reverse

/-- STATUS_FRAME (R213, R219): the frame for the course last ended, as each leaf receives it. A channel whose links brought
no mark has run on on its last timebase (R214). -/
def execStatusFrame (chan : Fin 48) (ok0 ok1 : Bool) (temp vdd2 vee2 : Byte) (s : State) : Done :=
  let i := chan.val
  let s := if (s.chan i).due then s else s.chanBoundary i
  let c := s.chan i
  let b := c.ended ||| BitVec.ofNat 160 ((temp.toNat <<< 80) + (vdd2.toNat <<< 72) + (vee2.toNat <<< 64))
  let ev := s.chan (evenOf i)
  let left := if c.st == .wait then ev.waitTill - ev.n else 0
  let s := s.setChan i { c with due := false, temp := temp.toNat, ended := b }
  let s := if ok0 then s.on .leaf0 fun L => L.takeStatus i b left else s
  .next (if ok1 then s.on .leaf1 fun L => L.takeStatus i b left else s)

/-! ### Commands of the leaves to the channels -/

/-- A MAINT body (R218). -/
def maintBody (tag : BitVec 16) (op item data : Nat) : BitVec 72 :=
  BitVec.ofNat 72 ((2 <<< 70) + (tag.toNat <<< 52) + (op % 16 <<< 48) + (item % 256 <<< 40) + data % 2 ^ 32)

/-- The low 16 bits of a course. -/
def tagOf (c : Course) : BitVec 16 := BitVec.ofNat 16 c.toNat

/-- A MAINT frame sent by a leaf, also in ALIGN-free module states in which both leaves compute (R215, R243). -/
def Leaf.maint (L : Leaf) (chan : Nat) (course : Course) (op item data : Nat) : Leaf :=
  L.emit (.gate chan (maintBody (tagOf course) op item data))

/-- The tests of all five comparators of a channel (R241), at start ticks its schedule leaves to the leaf (log entry 4). -/
def State.sendTests (s : State) (l : LeafId) (chan : Nat) : State :=
  (List.range 5).foldl (fun s item =>
    let (v, s) := s.take
    s.on l fun L => L.maint chan (after L.count 1) 3 item (v % 4000)) s

/-- The channel after another in the rotation: in MODE COURSE or CARRIER (R241). -/
def Leaf.nextTested (L : Leaf) (last : Nat) : Option Nat :=
  ((List.range 48).map fun k => (last + 1 + k) % 48).find? fun i =>
    L.get GCH_CFG_MODE i == 1 || L.get GCH_CFG_MODE i == 2

/-- GATE_TEST_STEP (R241): one step of the LEAD leaf every TEST_GAP × 1,600 courses; a test that failed in the last
step is repeated. -/
def execGateTestStep (l : LeafId) (s : State) : Done :=
  let L := s.leaf l
  let failed := (List.range 48).find? fun i => i == L.rot.last && decide ((s.chan i).failedOnce ≠ 0)
  let next := match failed with
    | some i => if L.rot.repeatOf = some i then L.nextTested L.rot.last else some i
    | none => L.nextTested L.rot.last
  match next with
  | none => .next s
  | some i =>
    guarded s (L.role == .lead && !L.cut && L.on GCH_CTRL_TEST_EN &&
        decide (L.get GCH_CTRL_TEST_GAP * 1600 ≤ since L.count L.rot.at_)) <|
      (s.both fun L => { L with rot := { last := i, at_ := L.count, repeatOf := failed } }).sendTests l i

/-- GCH_TEST (R245): in READY and WORKSHOP; a write in CARRY is discarded with an event. -/
def execGchTest (l : LeafId) (chan : Fin 64) (who : Ident) (s : State) : Done :=
  if s.setup then
    .next (if chan.val < 48 then s.sendTests l chan.val
      else s.on l fun L => L.discard (GCH_CMD.addr 0) who.val (2 ^ 62 + chan.val))
  else if s.mode == .carry then
    .next (s.on l fun L => L.discard (GCH_CMD.addr 0) who.val (2 ^ 62 + chan.val))
  else .next s

end Sys2Proof.Machine
end

