-- ==== Sys2Proof/Machine/Signals.lean ====
section
/-! DEFINITION. Test signals (R111 to R114) as the blocks inject them, the loop that carries them, the probe values, and
what a change of a stage's state brings with it. -/

namespace Sys2Proof.Machine

open Sys2Proof

/-- State, abort reason and sweep point of a test slot (R129). -/
def tsState (slot : Nat) : Fld := ASH_TS_STAT_STATE.at 16 slot
def tsAbort (slot : Nat) : Fld := ASH_TS_STAT_ABORT.at 16 slot
def tsPoint (slot : Nat) : Fld := ASH_TS_STAT_POINT.at 16 slot

/-- Fields of a TEST_START descriptor (R122). -/
def tdWave (d : Slot) : Nat := sl d 18 1
def tdPoint (d : Slot) : Nat := slBits d 19 1 7 6
def tdInst (d : Slot) : Nat := slBits d 19 1 5 3
def tdCorrelate (d : Slot) : Bool := slBits d 19 1 2 2 == 1
def tdSweep (d : Slot) : Bool := slBits d 19 1 1 1 == 1
def tdBlock (d : Slot) : Nat := sl d 20 1
def tdRamp (d : Slot) : Nat := sl d 22 2
def tdAmp (d : Slot) : Int := signed 32 (sl d 32 4)
def tdInc (d : Slot) : Nat := sl d 36 4
def tdInc2 (d : Slot) : Nat := sl d 40 4
def tdK (d : Slot) : Nat := sl d 46 2
def tdS (d : Slot) : Nat := sl d 44 2

/-- Phase of a chirp after `n` courses: increment linear in time over its duration, held at its end (R112). -/
def chirpPhase (a b dur n : Nat) : Nat :=
  let m := min n dur
  let s : Int := (m * a : Nat) + ((b : Int) - a) * (m * (m - 1) / 2 : Nat) / (max dur 1 : Nat)
  unsigned 32 (s + ((n - m) * b : Nat))

/-- The generator's value before the ramp in a course (R112). -/
def Test.wave (t : Test) (now : Course) : Int :=
  let d := t.desc
  let a := tdAmp d
  let n := since now t.start
  let sine := fun (ph : Nat) => Config.rnd ((a * Config.sinQ (ph % 2 ^ 32) : Int) / ((2 ^ 31 : Nat) : Rat))
  match tdWave d with
  | 0 => sine (t.phase + t.inc * since now t.phaseAt)
  | 1 => if n / (max (tdInc d) 1) % 2 = 0 then a else -a
  | 2 => a
  | 3 =>
    let len := tdInc d / 256 % 256
    let k := tdInc d % 256 + 1
    if Config.prbs len (n / k % (2 ^ len - 1)) then a else -a
  | _ => sine (chirpPhase (tdInc d) (sl d 44 4) (tdInc2 d) n)

/-- The ramp of R113: a part of RAMP courses, up from the start and down from the stop. -/
def Test.value (t : Test) (now : Course) : Int :=
  let r := tdRamp t.desc
  let up : Nat := min (since now t.start) r
  let lvl : Nat := match t.downAt with
    | none => up
    | some c => up - since now c
  if r = 0 then (if t.downAt.isSome then 0 else t.wave now) else Config.rnd ((t.wave now * lvl : Int) / (r : Rat))

/-- The test value at a point of an instance in this course (R111): at most one test per instance. -/
def Leaf.inject (L : Leaf) (block i point : Nat) : Int :=
  ((List.range 4).filterMap fun s =>
    let t := pick L.cmp.tests s
    let st := L.get (tsState s)
    if decide (2 ≤ st) && decide (st ≤ 5) && tdBlock t.desc == block && tdInst t.desc == i && tdPoint t.desc == point then
      some (t.value L.count) else none).foldl (· + ·) 0

/-- The stage groups of R128: T0 to T3, link guard, legs, auxiliary converter, PFC, LLC, actuators, other fill loops. -/
def kindGroup : FillKind → Nat
  | .legLoop _ => 5
  | .auxConverter _ => 6
  | .pfc _ => 7
  | .llc _ => 8
  | .actuator _ => 9
  | _ => 10

/-- The stage group of a block ID (R118, R128). -/
def Leaf.groupOf (L : Leaf) (block : Nat) : Nat :=
  if block < 5 then block
  else match L.ash.blocks.find? fun b => b.id == block with
    | some b => kindGroup b.kind
    | none => 10

/-- Tests of a stage group stopped at once, with no ramp down (R114). -/
def Leaf.abortTests (L : Leaf) (want : Nat → Bool) (reason : Nat) : Leaf :=
  (List.range 4).foldl (fun L s =>
    let st := L.get (tsState s)
    if decide (1 ≤ st) && decide (st ≤ 5) && want (tdBlock (pick L.cmp.tests s).desc) then
      (L.put (tsState s) 7).put (tsAbort s) reason else L) L

/-- A stage has changed state (R114, R439): its tests stop, and its divergence is exempt for 32 courses. -/
def Leaf.stageChanged (L : Leaf) (g : Nat) : Leaf :=
  let L := { L with tie := { L.tie with exempt := L.tie.exempt.setIfInBounds g (after L.count 32) } }
  L.abortTests (fun b => L.groupOf b == g) 2

/-- Probe values of a block in this course (R102, R118): the number of a probe signal is the model's (log entry 11). -/
def Leaf.probe (L : Leaf) (block : Nat) (vs : List Int) : Leaf :=
  { L with cmp := { L.cmp with probes := kvPut L.cmp.probes block ((kvFind L.cmp.probes block).getD [] ++ vs) } }

/-- A block that starts a course's run shows no probe of an earlier one. -/
def Leaf.clearProbe (L : Leaf) (block : Nat) : Leaf :=
  { L with cmp := { L.cmp with probes := kvPut L.cmp.probes block [] } }

/-- One loop of a block: reference and feedback in Q1.31, dynamic limits, TRACK; the test values enter at REF, FBK, ERR
and OUT (R101, R103, R111). Six probe signals: reference, feedback, input, output, saturation and limit bits, form. -/
def Leaf.runLoop (L : Leaf) (block i : Nat) (ref fbk lo hi : Int) (track : Option Int) : Leaf × Int :=
  let r := ref + L.inject block i 0
  let f := fbk + L.inject block i 3
  let x := satQ (satQ (r - f) + L.inject block i 1)
  let (L, y) := L.runComp block i x lo hi track (L.inject block i 2)
  let c := L.inst block i
  let bits : Nat := bit c.satHi + 2 * bit c.satLo + 4 * bit c.limCross
  let form : Nat := match c.form with
    | .direct => 0
    | .shadow => 1
    | .cascade => 2
  (L.probe block [r, f, x, y, bits, form], y)

/-- The last valid input of an instance taken again, in TRACK at its last output (R103, R262). -/
def Leaf.repeatLoop (L : Leaf) (block i : Nat) : Leaf × Int :=
  let c := L.inst block i
  let (L, y) := L.runComp block i c.x1 qMin qMax (some c.y1)
  (L, y)

/-- A frame of a stage that a leaf which has rejoined may not have joined yet: 0 charger, 1 auxiliary, 2 to 4 A0 to A2
(R441, R446). -/
def Leaf.emitFor (L : Leaf) (stage : Nat) (o : Out) : Leaf :=
  if L.on (TIE_STAT_UNJOINED.bit stage) then L else L.emit o

end Sys2Proof.Machine
end

