-- ==== Sys2Proof/Machine/Traction.lean ====
section
/-! DEFINITION. Traction machine control (R254 to R282): requests and the torque split, the states and faults of a set,
the current loops of the keyed blocks and the edges they place, the observer blocks, shift synchronisation. -/

namespace Sys2Proof.Machine

open Sys2Proof

/-- A traction set and a machine changed. -/
def Leaf.onSet (L : Leaf) (s : Nat) (f : TrcSet → TrcSet) : Leaf :=
  { L with trc := { L.trc with sets := alter L.trc.sets s f } }

def Leaf.onMach (L : Leaf) (m : Nat) (f : TrcMach → TrcMach) : Leaf :=
  { L with trc := { L.trc with machs := alter L.trc.machs m f } }

def Leaf.tset (L : Leaf) (s : Nat) : TrcSet := pick L.trc.sets s
def Leaf.tmach (L : Leaf) (m : Nat) : TrcMach := pick L.trc.machs m

/-- State of a set (R271). -/
def Leaf.setState (L : Leaf) (s : Nat) : Nat := L.get TRC_SETSTAT_STATE s

/-- A safe state: SAFE_OFF, SAFE_ASC_LOW, SAFE_ASC_HIGH. -/
def safeState (st : Nat) : Bool := decide (3 ≤ st) && decide (st ≤ 5)

/-- A set moved to a state (R271, R291). -/
def Leaf.moveSet (L : Leaf) (s st : Nat) : Leaf :=
  if L.setState s = st then L
  else
    let L := L.put TRC_SETSTAT_STATE st s
    let L := if safeState st then L.bump TRC_SETCNT_SAFE_ENTRIES s else L
    let L := L.onSet s fun t => { t with exitAt := if st = 2 then t.exitAt else none, byFlag := false }
    L.stageChanged s

/-- A cause of the fault table recorded (R275, R290). -/
def Leaf.setCause (L : Leaf) (s code : Nat) : Leaf :=
  (L.put TRC_SETSTAT_CAUSE code s).put ⟨TRC_SETFLT, code - 1, code - 1⟩ 1 s

/-- Side on which a set conducts in ASC: opposite the faulted switch, else ASC_SIDE (R272): 4 low, 5 high. -/
def Leaf.ascState (L : Leaf) (s : Nat) (useSide : Bool) : Nat :=
  match if useSide then (L.tset s).side else none with
  | some true => 4
  | some false => 5
  | none => if L.on TRC_SETCFG_ASC_SIDE s then 5 else 4

/-- The ASC flag of a set: its machine's (R272). -/
def Leaf.ascFlag (L : Leaf) (s : Nat) : Bool := L.on TRC_MSTAT_ASC_FLAG (s / 2)

/-- The safe state of a cause (R272). -/
def Leaf.safeOf (L : Leaf) (s : Nat) (useSide : Bool) : Nat := if L.ascFlag s then L.ascState s useSide else 3

/-! ### Current tables -/

/-- Bytes `off` to `off + n - 1` of a current table. -/
def ctWord (t : CurTable) (off n : Nat) : Nat := (t.toNat >>> (8 * off)) % 2 ^ (8 * n)

/-- Entry (row, column) of a current table: id and iq, Q1.15 (R263). -/
def ctEntry (t : CurTable) (r c : Nat) : Int × Int :=
  let w := ctWord t (64 + 4 * (33 * r + c)) 4
  (signed 16 w, signed 16 (w >>> 16))

/-- The checks of R264. -/
def admitCurrent (t : CurTable) : Bool :=
  let rows := List.range 33
  ctWord t 4 4 == crc32 (bytesOf t.toNat 0 4 ++ bytesOf t.toNat 8 4412) &&
    (rows.all fun r => rows.all fun c =>
      let (d, q) := ctEntry t r c
      decide (d ≤ 0) && decide (0 ≤ q) && decide (d * d + q * q ≤ 32768 * 32768)) &&
    (rows.all fun c => (ctEntry t 0 c).2 == 0) &&
    (rows.all fun c => (List.range 32).all fun r => decide ((ctEntry t r c).2 ≤ (ctEntry t (r + 1) c).2)) &&
    ctWord t 16 4 != 0 && ctWord t 20 4 != 0 && ctWord t 24 4 != 0 &&
    decide (0 ≤ signed 32 (ctWord t 36 4)) && decide (signed 32 (ctWord t 40 4) ≤ 0)

/-- A position in a table of 33 entries: the entry below and the part beyond it, held at the last (R263). -/
def gridPos (x : Rat) : Nat × Rat :=
  if x ≤ 0 then (0, 0) else if 32 ≤ x then (31, 1) else (x.floor.toNat, x - x.floor)

/-- The bilinear lookup of R263: id and iq in parts of full scale. -/
def ctLookup (t : CurTable) (tq kv : Rat) : Rat × Rat :=
  let mag := if tq < 0 then -tq else tq
  let (r, a) := gridPos (mag * 32 / (ctWord t 8 4 : Nat))
  let (c, b) := gridPos (kv * 32 / ((ctWord t 12 4 : Nat) / ((2 ^ 24 : Nat) : Rat)))
  let e := fun (i j : Nat) => ctEntry t (r + i) (c + j)
  let mix := fun (f : Int × Int → Int) =>
    (((1 - a) * (1 - b) * f (e 0 0) + a * (1 - b) * f (e 1 0) + (1 - a) * b * f (e 0 1) + a * b * f (e 1 1)) : Rat) / 32768
  (mix (·.1), if tq < 0 then -(mix (·.2)) else mix (·.2))

/-- Table torque at a current limit (R268): the largest per-set torque, in steps of TQ_FS / 2^16, whose references lie
within the limit, found by halving. -/
def ctTorqueAt (t : CurTable) (limit kv : Rat) : Rat :=
  let unit : Rat := (ctWord t 8 4 : Nat) / ((2 ^ 16 : Nat) : Rat)
  let ok := fun (n : Nat) =>
    let (d, q) := ctLookup t (unit * n) kv
    decide (d * d + q * q ≤ limit * limit)
  let n := (List.range 17).foldl (fun lo k =>
    let m := lo + 2 ^ (16 - k)
    if m ≤ 2 ^ 16 ∧ ok m = true then m else lo) 0
  unit * n

/-- Machine data in henry, weber, ohm (R263). -/
def ctLd (t : CurTable) : Rat := (ctWord t 16 4 : Nat) / (1000000000 : Rat)
def ctLq (t : CurTable) : Rat := (ctWord t 20 4 : Nat) / (1000000000 : Rat)
def ctPsi (t : CurTable) : Rat := (ctWord t 24 4 : Nat) / (1000000 : Rat)
def ctRs (t : CurTable) : Rat := (ctWord t 28 4 : Nat) / (1000000 : Rat)
def ctMut (t : CurTable) : Rat := (ctWord t 32 4 : Nat) / (1000000000 : Rat)

/-! ### Measured values -/

/-- A Q1.31 value in parts of full scale. -/
def q31 (v : Int) : Rat := (v : Rat) / ((2 ^ 31 : Nat) : Rat)

/-- Electrical speed of a machine in rad/s, from the source of R195. -/
def Leaf.omegaE (L : Leaf) (m : Nat) : Rat := Config.twoPi * L.srcSpeed m / ((2 ^ 20 : Nat) : Rat)

/-- Mechanical speed of a machine in rpm. -/
def Leaf.rpm (L : Leaf) (m : Nat) : Rat := L.rpmOf m (L.srcSpeed m)

/-- Magnitude of a rational. -/
def ratAbs (x : Rat) : Rat := if x < 0 then -x else x

/-- A rational limited to a range. -/
def clampRat (lo hi x : Rat) : Rat := if x < lo then lo else if hi < x then hi else x

/-- V_link: the last course's mean of SP12 in volts, or its last valid value (R259, R293). -/
def Leaf.vLink (L : Leaf) : Rat :=
  q31 ((L.meanOf 12).getD ((kvFind L.lnk.means 12).getD 0)) * L.get LNK_SCALE_FS_LINK

/-- VLIM of a set (R259). -/
def Leaf.vLim (L : Leaf) (s : Nat) : Rat := (L.get TRC_SETCFG_MOD_MAX s : Rat) / 256 * L.vLink / Config.sqrtR 3

/-- The set angle at a fine time: the machine's, less 30° for T1 and T3 (R258). -/
def Leaf.setAngle (L : Leaf) (s : Nat) (t : Fine) : Nat :=
  (L.srcAngle (s / 2) t + (if s % 2 = 1 then 2 ^ 32 - 2 ^ 32 / 12 else 0)) % 2 ^ 32

/-- Measured id and iq in parts of full scale, from the means of the set's ports (R258); `none` where one is invalid. -/
def Leaf.measured (L : Leaf) (s : Nat) : Option (Rat × Rat) :=
  match L.meanOf (3 * s), L.meanOf (3 * s + 1), L.meanOf (3 * s + 2) with
  | some u, some v, some w =>
    let a : Rat := (2 * q31 u - q31 v - q31 w) / 3
    let b : Rat := (q31 v - q31 w) / Config.sqrtR 3
    let th := L.setAngle s (fineAt (L.count - 1) 2000)
    let c := q31 (Config.cosQ th)
    let d := q31 (Config.sinQ th)
    some (a * c + b * d, b * c - a * d)
  | _, _, _ => none

/-! ### Edges -/

/-- The edges of a leg in a carrier period of `T` fine ticks, low channel then high, as offsets from the period start
with the level after each (R256). -/
def legEdges (T dead : Nat) (duty i iz : Rat) : List (Int × Bool) × List (Int × Bool) :=
  let dmax : Rat := 1 - ((2 * dead + 64 : Nat) : Rat) / (T : Rat)
  let d := if dmax < duty then dmax else duty
  if d * T < 64 then ([], [])
  else
    let tOn : Int := ((T : Rat) / 2 - d * T / 2 + 1 / 2).floor
    let tOff : Int := ((T : Rat) / 2 + d * T / 2 + 1 / 2).floor
    let h : Int := (dead / 2 : Nat)
    let (lo, ho) : (Int × Int) × (Int × Int) :=
      if iz < i then ((tOn - dead, tOff + dead), (tOn, tOff))
      else if i < -iz then ((tOn, tOff), (tOn + dead, tOff - dead))
      else ((tOn - h, tOff + h), (tOn + h, tOff - h))
    ([(lo.1, false), (lo.2, true)], if ho.1 + 16 ≤ ho.2 then [(ho.1, true), (ho.2, false)] else [])

/-- The edges of a list that fall in course `k` of a period, each under its number in the period, as offsets in that
course. -/
def inCourse (k : Nat) (es : List (Int × Bool)) : List (Nat × Nat × Bool) :=
  let a : Int := ((4000 * k : Nat) : Int)
  (List.zipIdx es).filterMap fun e =>
    if a ≤ e.1.1 ∧ e.1.1 < a + 4000 then some (e.2, (e.1.1 - a).toNat, e.1.2) else none

/-- Edges in time order that each change the level (R216); of two on one tick the later in the list stands. -/
def inverting : Option Bool → List (Nat × Bool) → List (Nat × Bool)
  | _, [] => []
  | prev, e :: t =>
    if (t.head?.any fun x => x.1 == e.1) || some e.2 == prev then inverting prev t else e :: inverting (some e.2) t

/-- The edges of a frame from the edges of a channel in a course (R216). -/
def frameEdges (es : List (Nat × Nat × Bool)) : List (Nat × Bool) :=
  inverting none ((es.filter fun e => decide (e.2.1 < 4000)).foldl (fun a e => insertEdge e.2 a) [])

/-- Update 1 of a course (R42, R44): an edge that update 0 placed before `guard`, or that the loop would place before it, is
left as update 0 placed it; no other edge lies before `guard`. -/
def mergeEdges (guard : Nat) (old new : List (Nat × Nat × Bool)) : List (Nat × Nat × Bool) :=
  let kept := old.filter fun o => decide (o.2.1 < guard) || new.any fun n => n.1 == o.1 && decide (n.2.1 < guard)
  kept ++ new.filter fun n => decide (guard ≤ n.2.1) && !kept.any fun o => o.1 == n.1

/-- A COURSE body (R216). -/
def courseBody (upd : Nat) (asc : Bool) (tag : BitVec 16) (es : List (Nat × Bool)) : BitVec 72 :=
  let e := es.take 4
  let fields := (List.zipIdx e).foldl (fun a x => a + (x.1.1 <<< (12 * x.2))) 0
  BitVec.ofNat 72 ((upd <<< 69) + (bit asc <<< 68) + (tag.toNat <<< 52) + (e.length <<< 49) +
    (bit ((e.head?.map (·.2)).getD false) <<< 48) + fields)

/-- The course of a carrier period in which a course lies (R47): periods of `per` courses, phase `phase`. -/
def courseInPeriod (c : Course) (per phase : Nat) : Nat := (c.toNat + per - phase % per) % per

/-- Courses of a carrier period (R287). -/
def Leaf.perOf (L : Leaf) (s : Nat) : Nat :=
  match L.get TRC_SETCFG_PER s with
  | 0 => 4
  | 2 => 16
  | _ => 8

/-- Earliest fine tick at which a frame computed at `tick` for the present course may place an edge (R44). -/
def Leaf.guardTick (L : Leaf) (tick : Nat) : Nat := tick + L.get CRS_CTRL_EDGE_GUARD

/-- What update 0 placed on a channel in the present course. -/
def Leaf.placed (L : Leaf) (chan : Nat) : List (Nat × Nat × Bool) :=
  let u := pick L.upd0 chan
  if u.course = L.count then u.edges else []

/-- The last update 0 of a channel held it at a level: a switching start has still to place the low side (R256). -/
def Leaf.wasHeld (L : Leaf) (chan : Nat) : Bool := (pick L.upd0 chan).edges.any fun e => e.1 == 2

/-- The update-1 frame of a channel for the present course (R42, R44). -/
def Leaf.sendNow (L : Leaf) (chan : Nat) (asc : Bool) (tick : Nat) (now : List (Nat × Nat × Bool)) : Leaf :=
  L.emit (.gate chan (courseBody 1 asc (tagOf L.count) (frameEdges (mergeEdges (L.guardTick tick) (L.placed chan) now))))

/-- What is placed by the update-0 frame of a channel for the next course. -/
def Leaf.placeNext (L : Leaf) (chan : Nat) (next : List (Nat × Nat × Bool)) : Leaf :=
  { L with upd0 := L.upd0.setIfInBounds chan { course := after L.count 1, edges := next } }

/-- The update-0 frame of a channel for the next course (R42). -/
def Leaf.sendNext (L : Leaf) (chan : Nat) (asc : Bool) (next : List (Nat × Nat × Bool)) : Leaf :=
  (L.emit (.gate chan (courseBody 0 asc (tagOf (after L.count 1)) (frameEdges next)))).placeNext chan next

/-- The frames of one channel in a course: update 1 for the course, update 0 for the next (R42, R257). -/
def Leaf.sendPair (L : Leaf) (chan : Nat) (asc : Bool) (tick : Nat) (now next : List (Nat × Nat × Bool)) : Leaf :=
  (L.sendNow chan asc tick now).sendNext chan asc next

/-- Frames that hold a set in a gates-off or ASC state (R257): in the course of entry the update-1 frame places the same
change at the guard. -/
def Leaf.sendHeld (L : Leaf) (s st tick : Nat) (entry : Bool) (skip : Nat → Bool) : Leaf :=
  (setChans s).foldl (fun L c =>
    if skip c then L.sendPair c (L.ascFlag s) tick [] []
    else
      let on := (st == 4 && c % 2 == 0) || (st == 5 && c % 2 == 1)
      L.sendPair c (L.ascFlag s) tick [if entry then (4, L.guardTick tick, on) else (2, 0, on)] [(2, 0, on)]) L

/-! ### The keyed traction block -/

/-- References limited (R261): magnitude I_MAX with iq reduced first, then the field-weakening correction, then the limit
again; in parts of full scale. -/
def limitRefs (imax : Rat) (d q : Rat) : Rat × Rat :=
  let d := clampRat (-imax) imax d
  let room := Config.sqrtR (imax * imax - d * d)
  (d, clampRat (-room) room q)

/-- The share of the exit ramp in a course (R274): 0 at X, 1 after EXIT_RAMP × 16 courses. -/
def Leaf.exitShare (L : Leaf) (s : Nat) : Rat :=
  match (L.tset s).exitAt with
  | none => 1
  | some x =>
    let n := L.get TRC_CTRL_EXIT_RAMP * 16
    if n ≤ since L.count x then 1 else (since L.count x : Rat) / (n : Rat)

/-- The coupled field-weakening current of R277, in amperes; 0 where it does not apply. -/
def Leaf.coupledFw (L : Leaf) (s : Nat) (t : CurTable) : Rat :=
  let o := if s % 2 = 0 then s + 1 else s - 1
  let lostByBias := L.setState o == 6 && L.on GCH_BG_FLT o
  let w := ratAbs (L.omegaE (s / 2))
  if lostByBias && L.ascFlag s && decide (0 < w) && decide (0 < ctMut t) then
    let v := -(ctPsi t - (9 / 10) * L.vLink / (Config.sqrtR 3 * w)) / ctMut t
    if v < 0 then v else 0
  else 0

/-- A part of full scale as a Q1.31 value. -/
def partQ (x : Rat) : Int := clampInt qMin qMax (Config.rnd (x * ((2 ^ 31 : Nat) : Rat)))

/-- The references of a set in a course, in parts of full scale (R261, R274, R277, R279), and the field-weakening correction,
which moves while the set is in RUN. -/
def Leaf.loopRefs (L : Leaf) (s : Nat) (t : CurTable) : Rat × Rat × Rat :=
  let S := L.tset s
  let amps := Config.phaseAmps s
  let volts := Config.loopVolts s
  let imax : Rat := (L.get TRC_SETLIM_I_MAX s : Rat) / 65536
  let w := L.omegaE (s / 2)
  let R := pick L.was.trc.sets s
  let regen := decide (w * q31 R.iqRef < 0)
  let k := L.exitShare s
  let mixIn := fun (start ref : Int) => q31 start * (1 - k) + q31 ref * k
  let d0 := if S.exitAt.isSome then mixIn S.exitId R.idRef else q31 R.idRef
  let q0 := if S.exitAt.isSome then mixIn S.exitIq R.iqRef else q31 R.iqRef
  let q0 := if regen then q0 * L.was.lnk.rs else q0
  let (d1, q1) := limitRefs imax d0 q0
  let gain := q31 (signed 32 (ctWord t 36 4))
  let fwMin := q31 (signed 32 (ctWord t 40 4))
  let excess := S.vMag - (L.get TRC_SETCFG_FW_MARGIN s : Rat) / 256 * L.vLim s
  let dId := if L.setState s = 2 && volts ≠ 0 then
      q31 (partQ (clampRat fwMin 0 (q31 S.dId - gain * (excess / volts)))) else q31 S.dId
  let idc := if amps = 0 then 0 else L.coupledFw s t / amps
  let (d2, q2) := limitRefs imax (d1 + dId + idc) q1
  (d2, q2, dId)

/-- The feed-forward voltages of a set (R259). -/
def Leaf.feedForward (L : Leaf) (s : Nat) (t : CurTable) (d q : Rat) : Rat × Rat :=
  let w := L.omegaE (s / 2)
  let amps := Config.phaseAmps s
  (-(w * ctLq t * q * amps), w * (ctLd t * d * amps + ctPsi t))

/-- Set `s` run in RUN: references and loops (R258, R259, R261). -/
def Leaf.runLoops (L : Leaf) (s : Nat) (t : CurTable) (id iq : Rat) : Leaf :=
  let volts := Config.loopVolts s
  let (d2, q2, dId) := L.loopRefs s t
  let (ffd, ffq) := L.feedForward s t d2 q2
  let vlim := L.vLim s
  let q := fun (x : Rat) => if volts = 0 then 0 else partQ (x / volts)
  let (L, y0) := L.runLoop s 0 (partQ d2) (partQ id) (q (-vlim - ffd)) (q (vlim - ffd)) none
  let vd := q31 y0 * volts + ffd
  let room := Config.sqrtR (vlim * vlim - vd * vd)
  let (L, y1) := L.runLoop s 1 (partQ q2) (partQ iq) (q (-room - ffq)) (q (room - ffq)) none
  let vq := q31 y1 * volts + ffq
  L.onSet s fun S => { S with
    dId := partQ dId, idOut := partQ d2, iqOut := partQ q2, vd := vd, vq := vq, ffd := ffd, ffq := ffq
    vMag := Config.sqrtR (vd * vd + vq * vq) }

/-- Set `s` not switching (R262): both instances in TRACK, at 0 in a gates-off state, so that the voltage is the
feed-forward, and at the negative of the feed-forward in an ASC state, so that it is 0. -/
def Leaf.trackLoops (L : Leaf) (s : Nat) (t : CurTable) (id iq : Rat) (asc : Bool) : Leaf :=
  let volts := Config.loopVolts s
  let (d2, q2, _) := L.loopRefs s t
  let (ffd, ffq) := L.feedForward s t d2 q2
  let tr := fun (x : Rat) => if asc && volts ≠ 0 then partQ (-x / volts) else 0
  let (L, _) := L.runLoop s 0 (partQ d2) (partQ id) qMin qMax (some (tr ffd))
  let (L, _) := L.runLoop s 1 (partQ q2) (partQ iq) qMin qMax (some (tr ffq))
  let vd := if asc then 0 else ffd
  let vq := if asc then 0 else ffq
  L.onSet s fun S => { S with
    ffd := ffd, ffq := ffq, vd := vd, vq := vq, vMag := if asc then 0 else Config.sqrtR (ffd * ffd + ffq * ffq) }

/-- Duties of the three legs from vd, vq at the modulation angle (R258, R260). -/
def Leaf.dutiesOf (L : Leaf) (s : Nat) : List Rat :=
  let S := L.tset s
  let th := L.setAngle s (fineAt (L.count + 1) 2000)
  let leg := fun (k : Nat) =>
    let a := (th + 2 ^ 32 - k * (2 ^ 32) / 3) % 2 ^ 32
    S.vd * q31 (Config.cosQ a) - S.vq * q31 (Config.sinQ a)
  let v := [leg 0, leg 1, leg 2]
  let hi := v.foldl max (leg 0)
  let lo := v.foldl min (leg 0)
  let vl := L.vLink
  v.map fun x => if vl = 0 then 1 / 2 else 1 / 2 + (x - (hi + lo) / 2) / vl

/-- Leg currents of the references at the modulation angle, in parts of full scale (R256). -/
def Leaf.legCurrents (L : Leaf) (s : Nat) : List Rat :=
  let S := L.tset s
  let th := L.setAngle s (fineAt (L.count + 1) 2000)
  [0, 1, 2].map fun k : Nat =>
    let a := (th + 2 ^ 32 - k * (2 ^ 32) / 3) % 2 ^ 32
    q31 S.idOut * q31 (Config.cosQ a) - q31 S.iqOut * q31 (Config.sinQ a)

/-- The edges of a set's leg that fall in a course (R256, R274): none before the first carrier period at or after the exit
course X; in that period's first course the low side is on and the high side off from its start, or from `guard` where the
course has begun. -/
def Leaf.legCourse (L : Leaf) (s : Nat) (high : Bool) (es : List (Int × Bool)) (c : Course) (start : Nat) :
    List (Nat × Nat × Bool) :=
  let kk := courseInPeriod c (L.perOf s) (L.get TRC_SETCFG_PHASE s)
  match (L.tset s).exitAt with
  | none => inCourse kk es
  | some x =>
    let n := since c x
    if 2 ^ 47 ≤ n ∨ n < kk then []
    else if kk = 0 ∧ n < L.perOf s then (3, start, !high) :: inCourse kk es
    else inCourse kk es

/-- The six channels' frames of a set that switches (R256, R257); before the first carrier period at or after the exit
course the gates keep their levels (R274). -/
def Leaf.sendSwitching (L : Leaf) (s tick : Nat) : Leaf :=
  let per := L.perOf s
  let dead := L.get TRC_SETCFG_DEAD s
  let iz : Rat := (L.get TRC_SETCFG_DT_IZERO s : Rat) / 512
  let legs := List.zip (L.tset s).duty (L.legCurrents s)
  (List.zipIdx legs).foldl (fun L x =>
    let ((d, i), l) := x
    let (lo, hi) := legEdges (per * 4000) dead d i iz
    let f := fun (L : Leaf) (c : Nat) (high : Bool) (es : List (Int × Bool)) =>
      L.sendPair c (L.ascFlag s) tick (L.legCourse s high es L.count (L.guardTick tick))
        (L.legCourse s high es (after L.count 1) 0)
    f (f L (6 * s + 2 * l) false lo) (6 * s + 2 * l + 1) true hi) L

/-- Measurements a set's registers show (R286, R289). -/
def Leaf.showSet (L : Leaf) (s : Nat) (id iq : Rat) : Leaf :=
  let q15 := fun (x : Rat) => satSigned 16 (Config.rnd (x * 32768))
  let vl := L.vLink / Config.sqrtR 3
  let L := L.put TRC_SETSTAT_ID (q15 id) s |>.put TRC_SETSTAT_IQ (q15 iq) s
  L.put TRC_SETSTAT_MOD (if vl = 0 then 0 else min 255 (Config.rnd ((L.tset s).vMag / vl * 256)).toNat) s

/-- A channel of a LOST set to which the leaf sends N = 0 (R257): held by the loss of its bias or by a two-leg state, or
LATCHED. -/
def Leaf.chanHeld (L : Leaf) (c : Nat) : Bool :=
  decide (L.get GCH_STAT_STATE c = 1) || decide (5 ≤ L.get GCH_STAT_STATE c)

/-- The keyed block of set `s` in a course, its outputs handed over at `tick` (R257 to R262). -/
def Leaf.runSet (L : Leaf) (s tick : Nat) : Leaf :=
  let st := L.setState s
  let held := if st = 6 then (L.tset s).lostAs else st
  let shows := if st = 2 then 2 else if held = 4 ∨ held = 5 then held else 3
  let entry := decide ((L.tset s).sent ≠ shows)
  let L := (L.clearProbe s).onSet s fun S => { S with sent := shows }
  let L := match L.measured s, (L.tmach (s / 2)).table with
    | some (id, iq), some t =>
      let L := L.showSet s id iq
      if st = 2 then
        let L := L.runLoops s t id iq
        L.onSet s fun S => { S with duty := L.dutiesOf s }
      else L.trackLoops s t id iq (st == 4 || st == 5)
    | _, _ =>
      -- a course with invalid means repeats the voltages, the instances in TRACK at their last outputs (R262)
      let (L, _) := L.repeatLoop s 0
      (L.repeatLoop s 1).1
  if st = 2 then L.sendSwitching s tick
  else if st = 6 then L.sendHeld s held tick entry L.chanHeld
  else L.sendHeld s st tick entry fun _ => false

/-! ### States and faults at the seal -/

/-- What a leaf sees of a set's channels (R275, R276). -/
structure SetSeen where
  bias : Bool
  latched : Bool
  twoLeg : Bool
  twoOn : Bool
  wait : Bool
  side : Option Bool

/-- Leg faults among the conditions of a STATUS frame: bits 0 to 4 (R219, R232). -/
def legBits (f : Nat) : Bool := f % 32 != 0

/-- The channels of a set as their last STATUS frames show them. -/
def Leaf.seeSet (L : Leaf) (s : Nat) : SetSeen :=
  let cs := setChans s
  let st := fun c => L.get GCH_STAT_STATE c
  let f := fun c => stb (pick L.gst c).body 111 96
  let hw := fun c => f c / 128 % 2 == 1
  let bad := cs.filter fun c => legBits (f c)
  { bias := L.on GCH_BG_FLT s || cs.any fun c => st c == 1
    latched := cs.any fun c => st c == 5
    twoLeg := cs.any fun c => decide (6 ≤ st c)
    twoOn := cs.any fun c => st c == 6
    wait := cs.any fun c => st c == 4 && !hw c
    side := (bad.head?).map fun c => c % 2 == 1 }

/-- The ASC flag of a machine at the seal (R272). -/
def Leaf.sealFlag (L : Leaf) (m : Nat) : Leaf :=
  let n := ratAbs (L.rpm m)
  if L.get POS_STAT_SRC m = 0 then L.put TRC_MSTAT_ASC_FLAG 1 m
  else if (L.get TRC_MACH_ASC_SPD m : Rat) ≤ n then L.put TRC_MSTAT_ASC_FLAG 1 m
  else if n < (L.get TRC_MACH_ASC_SPD m : Rat) - L.get TRC_MACH_ASC_HYST m * 10 then L.put TRC_MSTAT_ASC_FLAG 0 m
  else L

/-- An observer loss with the observer as source (R278), taken up at the seal. -/
def Leaf.sealObserver (L : Leaf) (m : Nat) : Leaf :=
  let M := L.tmach m
  let both := fun (L : Leaf) (f : Leaf → Nat → Leaf) => f (f L (2 * m)) (2 * m + 1)
  let act := fun (L : Leaf) (s : Nat) => if L.setState s = 0 || L.setState s == 6 then L else L.moveSet s (L.ascState s false)
  if M.obsLoss then
    let L := L.onMach m fun M => { M with obsLoss := false }
    if M.obsFirst.isSome then
      let L := L.onMach m fun M => { M with obsHold := true, obsAct := false }
      both L fun L s => if L.setState s = 0 || L.setState s == 6 then L else (L.moveSet s (L.safeOf s false)).setCause s 8
    else
      let L := (L.onMach m fun M => { M with obsFirst := some L.count, obsAct := true }).put TRC_MSTAT_OBS_WIN 1 m
      both L fun L s => if L.setState s = 0 || L.setState s == 6 then L else (act L s).setCause s 7
  else if M.obsAct && !(pick L.pos m).obs.fast then
    let L := L.onMach m fun M => { M with obsAct := false }
    both L fun L s => if safeState (L.setState s) then L.moveSet s 3 else L
  else if M.obsAct && L.on POS_STAT_OBS_LOCK m then L.onMach m fun M => { M with obsAct := false }
  else if M.obsHold && L.on POS_STAT_STILL m then L.onMach m fun M => { M with obsHold := false }
  else L

/-- Phase ports of a set valid in the last course; a first course after an enable is not counted (R262, R275). -/
def Leaf.phasePorts (L : Leaf) (s : Nat) : Bool × Bool :=
  let ps := [3 * s, 3 * s + 1, 3 * s + 2]
  (ps.all fun p => L.portValid p, ps.any fun p => (pick L.sns.ports p).record.flags.getLsbD 5)

/-- The overcurrent comparison of R275: MAX or -MIN over I_TRIP. -/
def Leaf.overcurrent (L : Leaf) (s : Nat) : Bool :=
  [3 * s, 3 * s + 1, 3 * s + 2].any fun p =>
    decide ((L.get TRC_SETLIM_I_TRIP s : Int) < 2 * L.maxOf p) || decide ((L.get TRC_SETLIM_I_TRIP s : Int) < -(2 * L.minOf p))

/-- An exit from a safe state begins (R274). -/
def Leaf.startExit (L : Leaf) (s : Nat) : Leaf :=
  let (d, q) := (L.measured s).getD (0, 0)
  let toQ := fun (x : Rat) => clampInt qMin qMax (Config.rnd (x * ((2 ^ 31 : Nat) : Rat)))
  let L := L.moveSet s 2
  L.onSet s fun S => { S with exitAt := some L.count, exitId := toQ d, exitIq := toQ q, legBad := false, side := none }

/-- A set leaves a safe state when its cause is gone: RUN if the RUN bit is set, else STANDBY (R271). -/
def Leaf.leaveSafe (L : Leaf) (s : Nat) : Leaf :=
  if (L.tmach (s / 2)).run && L.get POS_STAT_SRC (s / 2) != 0 then L.startExit s
  else (L.moveSet s 1).onSet s fun S => { S with side := none }

/-- The causes that stand for a set in RUN or in a safe state, newest judged first by code (R275): code and whether the
state is the ASC side's, SAFE_OFF or by R272. -/
def Leaf.causes (L : Leaf) (s : Nat) : List Nat :=
  let S := L.tset s
  let m := s / 2
  (if S.legBad then [1] else []) ++ (if S.ocWait || S.ocHeld then [4] else []) ++ (if S.neutHeld then [5] else []) ++
    (if L.get POS_STAT_SRC m = 0 then [6] else []) ++ (if (L.tmach m).obsAct then [7] else []) ++
    (if (L.tmach m).obsHold then [8] else []) ++ (if L.on LNK_STAT_DEMAND && L.ascFlag s then [9] else []) ++
    (if S.senseBad then [10] else [])

/-- The safe state a cause asks for (R272, R275, R278). -/
def Leaf.stateFor (L : Leaf) (s code : Nat) : Nat :=
  match code with
  | 6 => if L.on POS_STAT_STILL (s / 2) then 3 else L.ascState s false
  | 7 => L.ascState s false
  | 1 => L.safeOf s true
  | _ => L.safeOf s false

/-- Faults of a set found at the seal (R275), before its state moves. -/
def Leaf.findFaults (L : Leaf) (s : Nat) (seen : SetSeen) : Leaf :=
  let S := L.tset s
  let run := L.setState s == 2
  let (valid, first) := L.phasePorts s
  -- leg fault
  let legGone := S.legBad && !seen.wait
  let L := if seen.wait && !S.legBad && L.setState s != 0 then
      (L.onSet s fun S => { S with legBad := true, side := seen.side }).setCause s 1
    else if legGone then
        -- a pair that went on to LATCHED or to a two-leg state is no transient
        let L := L.onSet s fun S => { S with legBad := false }
        if seen.latched || seen.twoLeg || seen.bias then L else L.bump TRC_SETCNT_LEG_TRANS s
    else L
  -- overcurrent
  let oc := run && valid && L.overcurrent s
  let L := if oc then
      let again := S.ocAt.any fun c => decide (since L.count c ≤ 160000)
      (L.onSet s fun S => { S with ocAt := some L.count, ocWait := true, ocHeld := S.ocHeld || again }).setCause s 4
    else if (S.ocAt.any fun c => decide (since L.count c = 160000)) && !S.ocHeld then
      (L.onSet s fun S => { S with ocAt := none }).bump TRC_SETCNT_OC_TRANS s
    else L
  -- phase sum
  let L := if L.on (SNS_FLT_NEUT.bit s) && !S.neutHeld && L.setState s != 0 then
      (L.onSet s fun S => { S with neutHeld := true }).setCause s 5 else L
  -- sense
  let inv := if valid || first then 0 else S.invalidRun + 1
  let vr := if valid then S.validRun + 1 else 0
  let L := L.onSet s fun S => { S with invalidRun := inv, validRun := vr }
  let L := if decide (2 ≤ inv) && !S.senseBad && L.setState s != 0 then
      (L.onSet s fun S => { S with senseBad := true }).setCause s 10
    else if S.senseBad && decide (160 ≤ vr) then
      (L.onSet s fun S => { S with senseBad := false }).bump TRC_SETCNT_OC_TRANS s
    else L
  -- overspeed and temperature only limit torque
  let exceeds := L.get POS_OBS_SPD_MAX (s / 2) != 0 &&
    decide ((L.get POS_OBS_SPD_MAX (s / 2) : Rat) * 105 / 100 < ratAbs (L.rpm (s / 2)))
  let tj := L.get TRC_SETSTAT_TJ s
  let hot := decide (L.get TRC_SETLIM_TJ_MAX s + 64 ≤ tj) ||
    (S.stood.contains 13 && decide (L.get TRC_SETLIM_TJ_START s + 64 ≤ tj))
  let L := if exceeds && !S.stood.contains 12 then L.setCause s 12 else L
  let L := if hot && !S.stood.contains 13 then L.setCause s 13 else L
  L.onSet s fun S => { S with
    stood := S.stood.filter (· < 12) ++ (if exceeds then [12] else []) ++ (if hot then [13] else []) }

/-- The state of a set moved at the seal (R271 to R276). `wasFlag` is the ASC flag before this seal. -/
def Leaf.sealSet (L : Leaf) (wasFlag : Bool) (s : Nat) : Leaf :=
  let m := s / 2
  let seen := L.seeSet s
  let L := L.findFaults s seen
  let S := L.tset s
  let st := L.setState s
  let flag := L.ascFlag s
  let cs := L.causes s
  let fresh := cs.filter fun c => !S.stood.contains c
  let judged := decide (st = 2) || safeState st
  let L := L.onSet s fun S => { S with stood := (if judged then cs else []) ++ S.stood.filter (12 ≤ ·) }
  let gone := !(seen.bias || seen.latched || seen.twoLeg)
  let L := L.put TRC_SETSTAT_HELD (bit seen.twoLeg) s
  if st ≠ 0 ∧ st ≠ 6 ∧ gone = false then
    let L := (L.moveSet s 6).setCause s (if seen.twoLeg then 2 else if seen.latched then 1 else 3)
    let L := L.onSet s fun S => { S with side := if seen.side.isSome then seen.side else S.side }
    L.onSet s fun S => { S with lostAs := L.safeOf s true }
  else if st = 6 then
    if gone then ((L.moveSet s 0).event 0x0708 s).onSet s fun S => { S with side := none, legBad := false }
    else
      let L := L.onSet s fun S => { S with lostAs := L.safeOf s true }
      if seen.twoOn && !flag then (setChans s).foldl (fun L c => L.maint c (after L.count 1) 5 0 0) L else L
  else if st = 2 then
    match cs with
    | c :: _ =>
      fresh.foldl (fun L c => L.setCause s c) (L.moveSet s (L.stateFor s c))
    | [] =>
      let L := if (S.exitAt.any fun x => decide (L.get TRC_CTRL_EXIT_RAMP * 16 = since L.count x)) then
          (L.onSet s fun S => { S with exitAt := none }).bump TRC_SETCNT_EXITS s else L
      if !(L.tmach m).run && decide (S.split = 0) && !flag then L.moveSet s 1 else L
  else if safeState st then
    if cs.isEmpty then
      if S.byFlag then
        if (L.tmach m).run && S.remembered == 1 && L.get POS_STAT_SRC m != 0 then L.startExit s
        else if !flag then L.moveSet s S.remembered
        else L
      else L.leaveSafe s
    else
      -- a set in a safe state keeps it and records the newer cause; the flag moves it between off and ASC
      let L := fresh.foldl (fun L c => L.setCause s c) L
      let hold := cs.contains 7 || (cs.contains 6 && !L.on POS_STAT_STILL m)
      if cs.contains 6 && L.on POS_STAT_STILL m then L.moveSet s 3
      else if st = 3 && (flag && !wasFlag || hold) then L.moveSet s (L.ascState s true)
      else if st ≠ 3 && !flag && !hold then L.moveSet s 3
      else L
  else if flag && !wasFlag then
    -- DISABLED, STANDBY: the flag sets (R271)
    (L.moveSet s (L.ascState s false)).onSet s fun S => { S with remembered := st, byFlag := true }
  else if st = 1 && (L.tmach m).run then
    if L.get POS_STAT_SRC m ≠ 0 then (if cs.isEmpty then L.startExit s else L)
    else if L.get POS_STAT_REF m = 0 && L.on POS_STAT_STILL m && !L.uvwHealthy m && s % 2 == 0 &&
        (pick L.pos m).probe.isNone && !L.on POS_FLT_PROBE_FAIL m then
      L.onPos m fun P => { P with probe := some L.count, probeTries := 0 }
    else L
  else L

/-- A difference from the partner's register, posted once after 16 courses (R282, R315, R344, R380). -/
def differStep (L : Leaf) (inp : SealIn) (block index mine hi lo : Nat) (since0 : Option Course) : Leaf × Option Course :=
  match inp.partner.find? fun x => x.1 == block && x.2.1 == index with
  | none => (L, none)
  | some (_, _, theirs) =>
    let f := fun (v : Nat) => (v % 2 ^ 64 >>> lo) % 2 ^ (hi + 1 - lo)
    if f mine = f theirs then (L, none)
    else match since0 with
      | none => (L, some L.count)
      | some c => (if since L.count c = 17 then L.differEvent block index mine theirs c else L, some c)

/-- The traction part of a seal (R266, R271 to R276, R278, R282). -/
def Leaf.sealTraction (L : Leaf) (inp : SealIn) : Leaf :=
  let w0 := L.on TRC_MSTAT_ASC_FLAG 0
  let w1 := L.on TRC_MSTAT_ASC_FLAG 1
  let L := ((L.sealFlag 0).sealFlag 1).sealObserver 0 |>.sealObserver 1
  let L := (((L.sealSet w0 0).sealSet w0 1).sealSet w1 2).sealSet w1 3
  (List.range 4).foldl (fun L s =>
    let (L, d) := differStep L inp 8 s (L.word TRC_SETSTAT s).toNat 63 61 (L.tset s).differs
    L.onSet s fun S => { S with differs := d }) L

/-- EN committed (R271, R273): 1 brings a DISABLED set to STANDBY where bias is present, no pair is LATCHED and no cause
stands; 0 brings STANDBY and SAFE_OFF to DISABLED. -/
def Leaf.commitEn (L : Leaf) (s : Nat) (en : Bool) : Leaf :=
  let seen := L.seeSet s
  let S := L.tset s
  let st := L.setState s
  if en then
    if st = 0 && !seen.bias && !seen.latched && !seen.twoLeg && !S.ocHeld && !S.neutHeld then L.moveSet s 1 else L
  else if st = 1 || st == 3 then L.moveSet s 0 else L

/-- Whether a change of TRC_SETCFG is refused (R255, R273): PER and PHASE outside DISABLED and STANDBY, EN to 0 while the
flag is set or outside DISABLED, STANDBY and SAFE_OFF. -/
def Leaf.refuseSetCfg (L : Leaf) (s : Nat) (new : Word) : Bool :=
  let old := L.word TRC_SETCFG s
  let st := L.setState s
  let carrier := fieldOf old 61 56 != fieldOf new 61 56
  let off := fieldOf old 63 63 == 1 && fieldOf new 63 63 == 0
  (carrier && decide (1 < st)) || (off && (L.ascFlag s || !(st == 0 || st == 1 || st == 3)))

/-! ### The torque split -/

/-- A ceiling with the code of the limit that binds (R268). -/
def lessOf (a b : Rat × Nat) : Rat × Nat := if b.1 < a.1 then b else a

/-- The share of the position ceiling (R280), percent. -/
def Leaf.posShare (L : Leaf) (m : Nat) : Nat :=
  let base := match L.get POS_STAT_SRC m with
    | 1 => match L.get POS_STAT_REF m with
      | 1 => L.get TRC_CTRL_PROBE_TQ
      | 2 => L.get TRC_CTRL_UVW_TQ
      | 0 => 0
      | _ => 100
    | 2 => 100
    | 3 => L.get TRC_CTRL_UVW_TQ
    | _ => 0
  if L.on POS_STAT_ANG_DOUBT m then min base (L.get TRC_CTRL_DOUBT_TQ) else base

/-- The request of a machine in force before the split: host value, 0, or the shift's (R266, R281), N·m. -/
def Leaf.hostRequest (L : Leaf) (m : Nat) : Rat :=
  let M := L.tmach m
  if !M.run || L.trc.timedOut || M.obsAct then 0
  else match L.trc.phase with
    | 1 => 0
    | 2 => 0
    | _ => (M.tq : Rat) / 16

/-- Whether a torque opposes the machine's speed (R265). -/
def Leaf.isRegen (L : Leaf) (m : Nat) (tq : Rat) : Bool := decide (tq * L.rpm m < 0)

/-- The link ceiling of a set for a kind of torque (R268, code 5); `none` below 50 rpm. -/
def Leaf.linkCeil (L : Leaf) (s : Nat) (regen : Bool) : Option Rat :=
  let m := s / 2
  let n := ratAbs (L.rpm m)
  if n < 50 then none
  else
    let p := if regen then L.was.lnk.pReg else L.was.lnk.pMot
    let want := fun (k : Nat) =>
      let r := (L.tmach k).req
      if L.isRegen k r == regen then ratAbs r else 0
    let total := want 0 + want 1
    let pm := if total = 0 then p / 2 else p * want m / total
    let o := if s % 2 = 0 then s + 1 else s - 1
    let a := ratAbs (L.tset s).split
    let b := ratAbs (L.tset o).split
    let runs : Nat := bit (L.setState s == 2) + bit (L.setState o == 2)
    let ps := if a + b = 0 then (if runs = 0 then 0 else pm / runs) else pm * a / (a + b)
    some (ps / (Config.twoPi * n / 60))

/-- The ceiling of a set for a kind of torque (R268). -/
def Leaf.setCeil (L : Leaf) (s : Nat) (regen : Bool) : Rat × Nat :=
  let m := s / 2
  let half : Rat := (L.get TRC_MACH_TQ_MAX m : Rat) / 2
  let kv := if L.vLink = 0 then 0 else ratAbs (L.omegaE m) / L.vLink
  let cur := match (L.tmach m).table with
    | some t => ctTorqueAt t ((L.get TRC_SETLIM_I_MAX s : Rat) / 65536) kv
    | none => 0
  let tj : Rat := (L.get TRC_SETSTAT_TJ s : Rat) - 64
  let t0 : Rat := L.get TRC_SETLIM_TJ_START s
  let t1 : Rat := L.get TRC_SETLIM_TJ_MAX s
  let th := if tj ≤ t0 then half else if t1 ≤ tj then 0 else half * (t1 - tj) / (t1 - t0)
  let exceeds := L.get POS_OBS_SPD_MAX m != 0 && decide ((L.get POS_OBS_SPD_MAX m : Rat) * 105 / 100 < ratAbs (L.rpm m))
  let c := (half, 1)
  let c := lessOf c (cur, 2)
  let c := lessOf c (th, 3)
  let c := lessOf c (half * L.posShare m / 100, 4)
  let c := match L.linkCeil s regen with
    | some p => lessOf c (p, 5)
    | none => c
  let c := if exceeds && !regen then lessOf c (0, 6) else c
  if L.setState s = 2 then (if (L.tset s).exitAt.isSome then lessOf c (c.1 * L.exitShare s, 8) else c) else (0, 8)

/-- The ceiling of a machine for a kind of torque: its sets', and the host's (R268). -/
def Leaf.machCeil (L : Leaf) (m : Nat) (regen : Bool) : Rat × Nat :=
  let a := L.setCeil (2 * m) regen
  let b := L.setCeil (2 * m + 1) regen
  let host := if regen then (L.tmach m).reg else (L.tmach m).mot
  let c : Rat × Nat := (a.1 + b.1, if a.1 ≤ b.1 then a.2 else b.2)
  if host = 0 then c else lessOf c ((host : Rat), 7)

/-- A torque limited in magnitude. -/
def limitMag (c x : Rat) : Rat := clampRat (-c) c x

/-- A machine's torque divided between its sets (R269): half each, the shortfall to the other. -/
def Leaf.divide (L : Leaf) (m : Nat) (tq : Rat) : Rat × Rat :=
  let regen := L.isRegen m tq
  let ca := (L.setCeil (2 * m) regen).1
  let cb := (L.setCeil (2 * m + 1) regen).1
  let mag := ratAbs tq
  let a := min (mag / 2) ca
  let b := min (mag / 2) cb
  let a' := min ca (a + (mag / 2 - b))
  let b' := min cb (b + (mag / 2 - a))
  let sg : Rat := if tq < 0 then -1 else 1
  (sg * a', sg * b')

/-- A machine's rate-limited request (R267): RS = 0 restarts it from 0 (R279). -/
def Leaf.rateLimit (L : Leaf) (m : Nat) : Rat :=
  let M := L.tmach m
  let step : Rat := (L.get TRC_MACH_TQ_RATE m : Rat) / 64
  let cur := if L.was.lnk.rs = 0 && L.isRegen m M.req then 0 else M.req
  let want := if L.trc.phase == 3 || L.trc.phase == 4 then M.sync else L.hostRequest m
  if L.trc.phase == 3 || L.trc.phase == 4 then want
  else if cur < want then min want (cur + step) else max want (cur - step)

/-- The estimated torque of a machine from its measured currents (R286): 1.5 p (ψ iq + (Ld - Lq) id iq) per set. -/
def Leaf.torqueEst (L : Leaf) (m : Nat) : Rat :=
  match (L.tmach m).table with
  | none => 0
  | some t =>
    let one := fun (s : Nat) =>
      let d : Rat := (signed 16 (L.get TRC_SETSTAT_ID s) : Rat) / 32768 * Config.phaseAmps s
      let q : Rat := (signed 16 (L.get TRC_SETSTAT_IQ s) : Rat) / 32768 * Config.phaseAmps s
      (3 / 2 : Rat) * L.get POS_CFG_POLE_PAIRS m * (ctPsi t * q + (ctLd t - ctLq t) * d * q)
    one (2 * m) + one (2 * m + 1)

/-- The split block (R267 to R270, R279 to R281). -/
def Leaf.torqueSplit (L : Leaf) : Leaf :=
  let r0 := L.rateLimit 0
  let r1 := L.rateLimit 1
  let L := (L.onMach 0 fun M => { M with req := r0 }).onMach 1 fun M => { M with req := r1 }
  let lim := fun (m : Nat) (r : Rat) => limitMag (L.machCeil m (L.isRegen m r)).1 r
  let t0 := lim 0 r0
  let t1 := lim 1 r1
  -- transfer of what a machine does not meet to one that runs, same sign (R270); after an observer loss of what the host asks
  let x := L.on TRC_CTRL_XFER
  let want := fun (m : Nat) (r : Rat) =>
    if (L.tmach m).obsAct && (L.tmach m).run then ((L.tmach m).tq : Rat) / 16 else r
  let give := fun (m : Nat) (r t unmet : Rat) =>
    if x && (L.tmach m).run && !(L.tmach m).obsAct && decide (0 ≤ unmet * r) then lim m (t + unmet) else t
  let s0 := give 0 r0 t0 (want 1 r1 - t1)
  let s1 := give 1 r1 t1 (want 0 r0 - t0)
  let apply := fun (L : Leaf) (m : Nat) (r tq : Rat) =>
    let (a, b) := L.divide m tq
    let (ceil, src) := L.machCeil m (L.isRegen m r)
    let kv := if L.vLink = 0 then 0 else ratAbs (L.omegaE m) / L.vLink
    let refs := fun (v : Rat) => match (L.tmach m).table with
      | some t => ctLookup t v kv
      | none => (0, 0)
    let toQ := fun (x : Rat) => clampInt qMin qMax (Config.rnd (x * ((2 ^ 31 : Nat) : Rat)))
    let L := L.onSet (2 * m) fun S => { S with split := a, idRef := toQ (refs a).1, iqRef := toQ (refs a).2 }
    let L := L.onSet (2 * m + 1) fun S => { S with split := b, idRef := toQ (refs b).1, iqRef := toQ (refs b).2 }
    L.put TRC_MSTAT_TQ_REQ (satSigned 16 (Config.rnd r)) m |>.put TRC_MSTAT_TQ_CEIL (min 65535 (Config.rnd ceil).toNat) m
      |>.put TRC_MSTAT_CEIL_SRC (if ceil < ratAbs r then src else 0) m
      |>.put TRC_MSTAT_TQ_EST (satSigned 16 (Config.rnd (L.torqueEst m))) m
  let L := apply (apply L 0 r0 s0) 1 r1 s1
  -- RAMP_DOWN ends with both split values at 0, RAMP_UP with the host value (R281)
  let done := (List.range 4).all fun s => decide ((L.tset s).split = 0)
  if L.trc.phase = 1 && done then { L with trc := { L.trc with phase := 2 } }
  else if L.trc.phase = 5 && decide ((L.tmach 0).req = L.hostRequest 0) && decide ((L.tmach 1).req = L.hostRequest 1) then
    { L with trc := { L.trc with phase := 0 } }
  else L

/-- The SYNC field from the shift phase (R286). -/
def Leaf.showSync (L : Leaf) : Leaf :=
  let v := match L.trc.phase with
    | 0 => 0
    | 1 => 1
    | 2 => 1
    | 3 => if 160 ≤ L.trc.syncRun then 3 else 2
    | _ => 3
  (L.put TRC_MSTAT_SYNC v 0).put TRC_MSTAT_SYNC v 1

/-- The speed loop of SYNC and ENGAGE (R281): `out` is the instance's output in parts of SYNC_TQ, and the courses within
30 rpm are counted. -/
def Leaf.syncLoop (L : Leaf) (block : Nat) (target : Rat) : Leaf :=
  if L.trc.phase = 3 || L.trc.phase == 4 then
    let n := L.rpm 0
    let fs : Rat := 32768
    let toQ := fun (x : Rat) => clampInt qMin qMax (Config.rnd (x / fs * ((2 ^ 31 : Nat) : Rat)))
    let (L, y) := L.runLoop block 0 (toQ target) (toQ n) qMin qMax none
    let near := decide (ratAbs (n - target) ≤ 30)
    let cmd := fun (m : Nat) => q31 y * L.get TRC_MACH_SYNC_TQ m
    let L := (L.onMach 0 fun M => { M with sync := cmd 0 }).onMach 1 fun M => { M with sync := cmd 1 }
    { L with trc := { L.trc with
        target := target, syncRun := if near then L.trc.syncRun + 1 else 0 } }
  else L

/-! ### Observer blocks -/

/-- The observer of a machine runs (R191, R193, R194): the estimate of its machine model is the angle and speed `config`
gives it (log entry 12); loss, reseeding and lock are decided here. `residual` is in UQ0.16 of full scale, `emfOff` says
that the back-EMF disagrees by more than EMF_TOL. -/
def Leaf.observer (L : Leaf) (m : Nat) (angle : BitVec 32) (speed : Int) (residual : Nat) (emfOff : Bool) : Leaf :=
  let P := pick L.pos m
  let spdMax : Rat := L.get POS_OBS_SPD_MAX m
  let n := ratAbs (L.rpmOf m speed)
  let fast := if spdMax = 0 then false else if spdMax * 4 / 100 ≤ n then true else if n < spdMax * 35 / 1000 then false
    else P.obs.fast
  let lim := L.get POS_OBS_RES_LIM m
  let bad := decide (lim < residual) || emfOff
  let good := decide (residual * 2 < lim) && !emfOff
  let lostRun := if bad then P.obs.lostRun + 1 else 0
  let asc := fun (s : Nat) => L.setState s == 4 || L.setState s == 5
  let seeding := L.on POS_FLT_OBS_LOST m
  let mayLock := !seeding || (asc (2 * m) && asc (2 * m + 1))
  let lockRun := if good && mayLock then P.obs.lockRun + 1 else 0
  let L := L.onPos m fun P => { P with
    obs := { angle := angle, speed := speed, fast := fast, lostRun := lostRun, lockRun := lockRun } }
  if !seeding && decide (8 ≤ lostRun) then
    let source := L.get POS_STAT_SRC m == 2
    let L := (L.stick POS_FLT_OBS_LOST m).put POS_STAT_OBS_LOCK 0 m
    let L := L.onPos m fun P => { P with obs := { P.obs with lostRun := 0, lockRun := 0 } }
    if source then L.onMach m fun M => { M with obsLoss := true } else L
  else if decide (3200 ≤ lockRun) && !L.on POS_STAT_OBS_LOCK m then
    (L.put POS_STAT_OBS_LOCK 1 m).put POS_FLT_OBS_LOST 0 m
  else L

/-! ### Commands -/

/-- A TRACTION descriptor used at a seal (R265, R266). -/
def Leaf.useTraction (L : Leaf) (h : Hdr) (d : Slot) : Leaf :=
  if slBits d 17 1 7 4 ≠ 0 then L.complete h 0x0105 0 17
  else
    let one := fun (L : Leaf) (m : Nat) =>
      if slBits d 17 1 m m = 1 then
        L.onMach m fun M => { M with
          tq := signed 32 (sl d (20 + 4 * m) 4), run := slBits d 17 1 (2 + m) (2 + m) == 1
          mot := sl d (28 + 2 * m) 2, reg := sl d (32 + 2 * m) 2 }
      else L
    let L := one (one L 0) 1
    ({ L with trc := { L.trc with lastDesc := L.count, timedOut := false } } : Leaf).complete h 0x0000

/-- TRACTION (R265, R266, R470): the descriptor is read and waits for the next seal. -/
def execTraction (l : LeafId) (d : Desc) (s : State) : Done :=
  onLeaf s l fun L => L.readDesc 0 0x20 d (fun L h => L.receive d.bytes h)

/-- SP_TIMEOUT (R266). -/
def execSpTimeout (l : LeafId) (s : State) : Done :=
  let L := s.leaf l
  let run := (List.range 4).any fun k => L.setState k == 2
  guarded s (run && decide (L.get TRC_CTRL_SP_TIMEOUT ≤ since L.count L.trc.lastDesc) && !L.trc.timedOut) <|
    let L := { L with trc := { L.trc with timedOut := true } }
    s.setLeaf l ((List.range 4).foldl (fun L k => L.raise TRC_SETFLT_SP_TIMEOUT k) L)

/-- OVERCURRENT_RETRY (R274, R275). -/
def execOvercurrentRetry (l : LeafId) (set : Fin 4) (s : State) : Done :=
  let L := s.leaf l
  let S := L.tset set
  guarded s (S.ocWait && !S.ocHeld && safeState (L.setState set) &&
      S.ocAt.any fun c => decide (1600 ≤ since L.count c)) <|
    let L := L.onSet set fun S => { S with ocWait := false }
    s.setLeaf l (if (L.causes set).isEmpty then L.leaveSafe set else L)

/-- OBS_WINDOW_END (R278). -/
def execObsWindowEnd (l : LeafId) (m : Fin 2) (s : State) : Done :=
  let L := s.leaf l
  guarded s ((L.tmach m).obsFirst.any fun c => decide (320000 ≤ since L.count c)) <|
    s.setLeaf l ((L.onMach m fun M => { M with obsFirst := none }).put TRC_MSTAT_OBS_WIN 0 m)

/-- SYNC_TIMEOUT (R281): the shift sequence is told. -/
def execSyncTimeout (l : LeafId) (s : State) : Done :=
  let L := s.leaf l
  guarded s (L.trc.phase == 3 && decide (L.trc.syncRun < 160) && decide (40000 ≤ since L.count L.trc.syncFrom)) <|
    s.setLeaf l { L with trc := { L.trc with syncLate := true } }

/-- PROBE_COMPLETE (R196): the result references the count, or the probe is repeated once, or PROBE_FAIL is set. -/
def execProbeComplete (l : LeafId) (port : Fin 2) (ratio100 polarity100 : Nat) (count : BitVec 32) (s : State) : Done :=
  let L := s.leaf l
  let P := pick L.pos port
  let ok := decide (100 + L.get POS_OBS_PROBE_RATIO port ≤ ratio100) && decide (3 ≤ polarity100)
  guarded s (P.probe.any fun c => decide (24 ≤ since L.count c)) <| s.setLeaf l <|
    if ok then
      let L := (L.onPos port fun P => { P with pos := count, ref := 0, probe := none, probeTries := 0 }).refUp port 1
      -- the sets that waited for the reference go to RUN (R271)
      let L := L.chooseSource port
      let go := fun (L : Leaf) (k : Nat) =>
        if L.setState k == 1 && (L.tmach port).run && L.get POS_STAT_SRC port != 0 && (L.causes k).isEmpty then
          L.startExit k else L
      go (go L (2 * port.val)) (2 * port.val + 1)
    else if P.probeTries = 0 then L.onPos port fun P => { P with probe := some L.count, probeTries := 1 }
    else (L.stick POS_FLT_PROBE_FAIL port).onPos port fun P => { P with probe := none, probeTries := 0 }

/-- A write of 1s to TRC_SETFLT (R275, R290): causes a rule clears only after DISABLED stay otherwise. -/
def Leaf.clearSetFlt (L : Leaf) (s : Nat) (value : Word) : Leaf :=
  let off := L.setState s == 0
  let locked : Word := 0b11000#64
  let m := if off then value else value &&& ~~~ locked
  let L := L.setWord TRC_SETFLT s (L.word TRC_SETFLT s &&& ~~~ m)
  L.onSet s fun S => { S with
    ocHeld := S.ocHeld && !(m.getLsbD 3), ocWait := S.ocWait && !(m.getLsbD 3)
    ocAt := if m.getLsbD 3 && S.ocHeld then none else S.ocAt
    neutHeld := S.neutHeld && !(m.getLsbD 4 && !L.on (SNS_FLT_NEUT.bit s)) }

end Sys2Proof.Machine
end

