-- ==== Sys2Proof/Machine/Thermal.lean ====
section
/-! DEFINITION. Temperature sensing and the thermal models (R399 to R419): samples and supervision of the sensors, the
two-node model of each deck switch, and the estimates that feed derating. -/

namespace Sys2Proof.Machine

open Sys2Proof

def Leaf.tsensor (L : Leaf) (i : Nat) : TSensor := pick L.thm.sensors i

def Leaf.onSensor (L : Leaf) (i : Nat) (f : TSensor → TSensor) : Leaf :=
  { L with thm := { L.thm with sensors := alter L.thm.sensors i f } }

def Leaf.onSwitch (L : Leaf) (i : Nat) (f : Sw → Sw) : Leaf :=
  { L with thm := { L.thm with switches := alter L.thm.switches i f } }

/-- The class of a sensor (R399). -/
def Leaf.sensorClass (L : Leaf) (i : Nat) : Nat :=
  if i < 12 then 0 else if i < 60 then 1 else if i < 63 then 2 else if i < 67 then 3
  else if L.on THM_NTC_CLASS (i - 67) then 5 else 4

/-- The readable range of a sensor, 1/16 °C (R399). -/
def readable (i : Nat) : Int × Int :=
  if i < 12 then (-880, 2800) else if i < 63 then (-880, 3040) else if i < 67 then (-880, 2400) else (-800, 2560)

/-- A reading taken into the period being formed (R401). -/
def Leaf.readSensor (L : Leaf) (i : Nat) (t : Int) : Leaf :=
  let (lo, hi) := readable i
  if lo ≤ t ∧ t ≤ hi then L.onSensor i fun S => { S with sum := S.sum + t, n := S.n + 1 }
  else L.onSensor i fun S => { S with bad := true }

/-- An NTC input's temperature in 1/16 °C, `none` where it is open, short or HK_FAIL stands (R400). -/
def Leaf.ntcTemp (L : Leaf) (i : Nat) : Option Int :=
  let m := L.get SNS_HK_MEAN8 i
  if 8 * 4088 ≤ m ∨ m ≤ 8 * 8 ∨ L.sns.hkFailed then none
  else
    let rho : Rat := (m : Rat) / 32768
    let r : Rat := 4990 * rho / (1 - rho)
    let r25 : Rat := 10 * (L.get THM_NTC_R25 i : Rat)
    let x : Rat := 1 / (29815 / 100) + Config.ln (r / r25) / (L.get THM_NTC_B i : Rat)
    some (Config.rnd ((1 / x - 27315 / 100) * 16))

/-- Readings of a course taken at a seal (R399 to R401). -/
def Leaf.sealThermal (L : Leaf) (inp : SealIn) : Leaf :=
  let L := (List.range 12).foldl (fun L i => match inp.dieTemps[i]? with
    | some t => L.readSensor i t
    | none => L) L
  let L := (List.range 48).foldl (fun L c =>
    if (pick L.gst c).fresh then L.readSensor (12 + c) (16 * ((stb (pick L.gst c).body 87 80 : Int) - 64)) else L) L
  let L := (List.range 3).foldl (fun L a => match pick L.thm.act a with
    | some t => L.readSensor (60 + a) (16 * t)
    | none => L) L
  let L := (List.range 4).foldl (fun L h => match inp.housing[h]? with
    | some t => L.readSensor (63 + h) t
    | none => L) L
  let L := (List.range 16).foldl (fun L i =>
    if !L.on THM_NTC_EN i then L
    else match L.ntcTemp i with
      | some t => L.readSensor (67 + i) t
      | none => L.onSensor (67 + i) fun S => { S with bad := true }) L
  { L with thm := { L.thm with
      act := Vector.replicate 3 none
      die := (List.range 12).map fun i => (inp.dieTemps[i]?).getD (L.thm.die.getD i 400) } }

/-! ### Supervision -/

/-- Whether a sensor is monitored (R400, R401). -/
def Leaf.monitored (L : Leaf) (i : Nat) : Bool :=
  if 12 ≤ i ∧ i < 60 then decide (2 ≤ L.get GCH_STAT_STATE (i - 12))
  else if 67 ≤ i then L.on THM_NTC_EN (i - 67) else true

/-- The neighbours a sensor's list names (R422). -/
def Leaf.neighbours (L : Leaf) (i : Nat) : List Nat :=
  (List.range 4).filterMap fun k =>
    let n := L.get ⟨THM_NBR, 8 * k + 7, 8 * k⟩ i
    if n < 83 ∧ n ≠ i then some n else none

/-- The sample of a period: `none` where it is out of range (R401, R402). -/
def TSensor.sample (S : TSensor) : Option Int :=
  if S.bad || S.n == 0 then none else some (Config.rnd ((S.sum : Rat) / (S.n : Rat)))

/-- A sensor marked broken (R402, R403): its bit, its state, BROKEN. -/
def Leaf.breakSensor (L : Leaf) (i : Nat) : Leaf :=
  let L := (L.stick (THM_FLT_FLAGS.bit 8)).put THM_TEMP_STATE 3 i
  if i < 64 then L.stick ⟨THM_BRK0, i, i⟩ else L.stick ⟨THM_BRK1, i - 64, i - 64⟩

/-- Samples of the healthy neighbours of a sensor in this period (R403). -/
def Leaf.nbrSamples (L : Leaf) (now : List (Option Int)) (i : Nat) : List Int :=
  (L.neighbours i).filterMap fun n =>
    if L.sensorBroken n || !L.monitored n then none else (now[n]?).getD none

/-- The range and neighbour checks of a sensor (R402 to R404). -/
def Leaf.checkSensor (L : Leaf) (now : List (Option Int)) (i : Nat) : Leaf :=
  let st := L.get THM_TEMP_STATE i
  let cls := L.sensorClass i
  let nb := L.on THM_CLASS_POLICY cls
  let ns := L.nbrSamples now i
  let med := if 2 ≤ ns.length then some (median ns) else none
  let sample := (now[i]?).getD none
  let L := match sample with
    | none =>
      let L := L.onSensor i fun S => { S with okRun := 0 }
      if st = 3 ∨ st = 4 then L else if st = 1 then L.breakSensor i else L.put THM_TEMP_STATE 1 i
    | some t =>
      let far := match med with
        | some m => decide (240 < ratAbs ((t : Rat) - m))
        | none => false
      let L := L.onSensor i fun S => { S with okRun := if far then 0 else S.okRun + 1 }
      if st = 3 ∨ st = 4 then L
      else
        let L := if st = 1 then L.bump THM_CNT_TRANS else L
        let dev := nb && far
        let run := (L.tsensor i).devRun
        let L := if !dev && decide (0 < run) then L.bump THM_CNT_NBR_DEV else L
        let L := L.onSensor i fun S => { S with devRun := if dev then run + 1 else 0 }
        if dev && decide (100 ≤ run + 1) then L.breakSensor i
        else L.put THM_TEMP_STATE (if dev then 2 else 0) i
  if L.sensorBroken i then
    let hot := Int.ofNat (16 * L.get THM_CLASS_ABS_TRIP cls) - 1024
    let replaced := nb && decide (2 ≤ ns.length)
    let L := if nb && !replaced then L.stick (THM_FLT_FLAGS.bit 10) else L
    let u := if replaced then (ns.foldl max (ns.headD 0)) + 80 else hot
    (L.onSensor i fun S => { S with used := u, devRun := 0 }).put THM_TEMP_STATE (if replaced then 3 else 4) i
  else match sample with
    | some t => L.onSensor i fun S => { S with used := t }
    | none => L

/-- The action of a trip when it begins and while it stands (R406): `partner` says that the other leaf is LEAD or FOLLOW
and aligned. -/
def Leaf.tripAction (L : Leaf) (i : Nat) (partner : Bool) (begins : Bool) : Leaf :=
  let cls := L.sensorClass i
  let f := THM_FLT_FLAGS.bit (min cls 4)
  let L := if begins then (if cls = 3 then L.raise f else L.stick f) else L
  if cls = 0 then
    if partner then { L with crs := { L.crs with roleAt := some (L.count + 1, .out) } }
    else L.bitEvent f 0 (bit (!begins))
  else L

/-- Warnings, rises and trips of a sensor (R405, R406). -/
def Leaf.judgeSensor (L : Leaf) (partner : Bool) (i : Nat) (sample : Option Int) : Leaf :=
  let cls := L.sensorClass i
  let broken := L.sensorBroken i
  let S := L.tsensor i
  let last := match sample with
    | some t => (t :: S.last).take 11
    | none => S.last
  let count := if broken then 0 else min 4095 (L.get THM_TEMP_SAMPLES i + bit sample.isSome)
  let armed := !broken && decide (64 ≤ count)
  let L := L.onSensor i fun S => { S with last := last }
  let L := (L.put THM_TEMP_SAMPLES count i).put THM_TEMP_ARMED (bit armed) i
  let L := (L.put THM_TEMP_USED (satSigned 16 S.used) i).put THM_TEMP_SAMPLE
    (satSigned 16 (sample.getD (signed 16 (L.get THM_TEMP_SAMPLE i)))) i
  -- °C/s from 1/16 °C over 0.1 s
  let rise : Option Rat := if armed && sample.isSome then
      (last[10]?).map fun o => (((last.headD 0) - o : Int) : Rat) * 10 / 16 else none
  let lim := fun (f : Fld) => Int.ofNat (16 * L.get f cls) - 1024
  let warn := sample.any fun t => decide (lim THM_CLASS_ABS_WARN ≤ t)
  let rWarn := rise.any fun r => decide ((L.get THM_CLASS_RISE_WARN cls : Rat) ≤ r)
  let exceeds := decide (lim THM_CLASS_ABS_TRIP ≤ S.used)
  let rOver := rise.any fun r => decide ((L.get THM_CLASS_RISE_TRIP cls : Rat) ≤ r)
  let L := if warn && !L.on (THM_FLT_FLAGS.bit 6) then L.raise (THM_FLT_FLAGS.bit 6) else L
  let L := if rWarn && !L.on (THM_FLT_FLAGS.bit 7) then L.raise (THM_FLT_FLAGS.bit 7) else L
  let run := if exceeds || rOver then S.overRun + 1 else 0
  let calm := decide (S.used + 80 ≤ lim THM_CLASS_ABS_TRIP) && !rWarn
  let rel := if S.trip && calm then S.relRun + 1 else 0
  let L := L.onSensor i fun S => { S with overRun := run, relRun := rel }
  if S.trip then
    if 10 ≤ rel then L.onSensor i fun S => { S with trip := false, relRun := 0 } else L.tripAction i partner false
  else if 2 ≤ run then
    let L := (L.bump THM_CNT_TRIPS).onSensor i fun S => { S with trip := true, relRun := 0 }
    let L := if rOver then L.stick (THM_FLT_FLAGS.bit 5) else L
    L.tripAction i partner true
  else if run = 0 ∧ S.overRun = 1 then L.bump THM_CNT_TRANS
  else L

/-- The stage group of a channel (R412). -/
def stageGroup (c : Nat) : Nat :=
  if c < 24 then 0 else if c < 32 then 1 else if c < 38 then 2 else if c < 42 then 3 else if c < 46 then 4 else 5

/-- The bias group of a channel (R210). -/
def biasGroup (c : Nat) : Nat := ((List.range 11).find? fun g => (groupChans g).contains c).getD 0

/-- DSAT_TC of a channel, 0 while its sensor is broken (R411). -/
def Leaf.dsatTc (L : Leaf) (c : Nat) : Nat :=
  if L.sensorBroken (12 + c) then 0 else L.get (THM_DSAT_DSAT_TC.at 8 (stageGroup c))

/-- The coefficient written to a channel by MAINT WRITE item 4 (R411). -/
def Leaf.sendDsat (L : Leaf) (c : Nat) : Leaf := L.maint c (after L.count 1) 1 4 (L.dsatTc c)

/-- The summary of THM_STAT (R421). -/
def Leaf.thermalSummary (L : Leaf) : Leaf :=
  let n := fun (p : Nat → Bool) => ((List.range 83).filter p).length
  (L.put THM_STAT_HOT_N (n fun i => L.get THM_TEMP_STATE i == 4)).put THM_STAT_BROKEN_N (n L.sensorBroken) |>.put
    THM_STAT_FB (bit (L.thm.fb.toList.any fun b => b)) |>.put THM_STAT_XO_SRC (if L.sensorBroken 10 then 127 else 10)

/-- All samples of a period (R401 to R406). -/
def Leaf.sampleSensors (L : Leaf) (partner : Bool) : Leaf :=
  let was := (List.range 48).map fun c => L.sensorBroken (12 + c)
  let now := (List.range 83).map fun i => if L.monitored i then (L.tsensor i).sample else none
  let L := (List.range 83).foldl (fun L i =>
    if L.monitored i then
      let L := if L.get THM_TEMP_STATE i = 5 then
          -- an NTC enable restarts the count (R405)
          let L := if 67 ≤ i then (L.put THM_TEMP_SAMPLES 0 i).onSensor i fun S => { S with last := [] } else L
          L.put THM_TEMP_STATE 0 i
        else L
      (L.checkSensor now i).judgeSensor partner i ((now[i]?).getD none)
    else if L.sensorBroken i then L else L.put THM_TEMP_STATE 5 i) L
  let L := (List.range 83).foldl (fun L i => L.onSensor i fun S => { S with sum := 0, n := 0, bad := false }) L
  let L := (List.zipIdx was).foldl (fun L x => if x.1 != L.sensorBroken (12 + x.2) then L.sendDsat x.2 else L) L
  ({ L with thm := { L.thm with sampledAt := L.count } } : Leaf).thermalSummary

/-- Differences in broken or trip state between the leaves (R408): block code 12, index the sensor. -/
def Leaf.differThermal (L P : Leaf) : Leaf :=
  (List.range 71).foldl (fun L k =>
    let i := 12 + k
    let S := L.tsensor i
    if L.sensorBroken i == P.sensorBroken i && S.trip == (P.tsensor i).trip then
      L.onSensor i fun S => { S with differs := none }
    else match S.differs with
      | none => L.onSensor i fun S => { S with differs := some L.count }
      | some c =>
        if 1600 < since L.count c ∧ since L.count c ≤ 3200 then
          L.differEvent 12 i (L.word THM_TEMP i).toNat (P.word THM_TEMP i).toNat c
        else L) L

/-! ### Switch models -/

/-- TJ_MAX of the stage of a channel (R418; log entry 13). -/
def Leaf.stageTjMax (L : Leaf) (c : Nat) : Nat :=
  match stageGroup c with
  | 0 => L.get TRC_SETLIM_TJ_MAX (c / 6)
  | 1 => L.get THM_DER_LEG_END
  | 4 => L.get THM_DER_AUX_END
  | 5 => L.get THM_DER_CHOP_MAX
  | _ => L.get CHG_CTRL_TJ_MAX

/-- The reference temperature of a switch, °C (R414). -/
def Leaf.tref (L : Leaf) (c : Nat) : Rat :=
  let m := L.get (THM_MAP_NTC.at 5 (biasGroup c))
  if 16 ≤ m then ((L.tsensor (67 + m % 16)).used : Rat) / 16
  else
    let h := (List.range 4).map fun k => (L.tsensor (63 + k)).used
    ((h.foldl max (h.headD 0) : Int) : Rat) / 16

/-- Both nodes of a switch seeded (R415). -/
def Leaf.seedSwitch (L : Leaf) (c : Nat) : Leaf :=
  let own : Rat := ((L.tsensor (12 + c)).used : Rat) / 16
  let t := (if L.sensorBroken (12 + c) then L.tref c else max (L.tref c) own) + 10
  L.onSwitch c fun S => { S with tj := t, tc := t }

/-- Seeding at BOOT and at a start that finds no leaf to mirror from (R415). -/
def Leaf.seedSwitches (L : Leaf) : Leaf :=
  (((List.range 48).foldl (fun L c => L.seedSwitch c) L).put THM_STAT_SEEDED 1).put THM_STAT_MIRRORED 0

/-- The current port of a channel and its full scale in amperes (R413). -/
def Leaf.switchPort (L : Leaf) (c : Nat) : Nat × Rat :=
  match stageGroup c with
  | 0 => (3 * (c / 6) + c % 6 / 2, Config.phaseAmps (c / 6))
  | 1 => (15 + (c - 24) / 2, L.get LNK_SCALE_FS_ILEG)
  | 2 => (19 + (c - 32) / 2, L.get CHG_SCALE_FS_IAC)
  | 3 => (25, L.get CHG_SCALE_FS_ILLC)
  | 4 => (29, if L.vLink = 0 then 0 else L.get LNK_ASCALE_FS_IAUX * ((L.get LNK_AUX_AUX_SET : Rat) / 10) / L.vLink)
  | _ => (30, L.get LNK_SCALE_FS_ICHOP)

/-- The loss of the last course (R413): ticks the channel was on, and its edges. -/
def Leaf.switchLoss (L : Leaf) (c onTicks edges : Nat) : Rat :=
  let (p, fs) := L.switchPort c
  let g := stageGroup c
  let S := pick L.thm.switches c
  if L.portValid p then
    let r := (pick L.sns.ports p).record
    let i2 : Rat := (r.sumsq : Rat) / 40 / ((2 ^ 30 : Nat) : Rat) * fs * fs
    let i : Rat := ratAbs (q31 r.mean) * fs
    let ron : Rat := (L.get THM_MODB_RON25 g : Rat) / 100000
    let alpha : Rat := (L.get THM_MODB_ALPHA g : Rat) / 10000
    let esw : Rat := (L.get THM_MODB_ESW g : Rat) / 100000000
    (onTicks : Rat) / 4000 * i2 * ron * (1 + alpha * (S.tj - 25)) +
      (edges : Rat) * esw * i * L.vLink / (max 1 (L.get THM_MODB_VREF g) : Nat) * 160000
  else S.p

/-- The estimate a switch feeds derating with, °C (R417, R418). -/
def Leaf.estimate (L : Leaf) (c : Nat) : Rat :=
  let own : Rat := ((L.tsensor (12 + c)).used : Rat) / 16
  let t := if pick L.thm.fb (c / 4) then own + L.get THM_CTRL_FB_MARGIN else (pick L.thm.switches c).tj
  let m := L.get (THM_MAP_NTC.at 5 (biasGroup c))
  let trip := (L.tsensor (12 + c)).trip || (decide (16 ≤ m) && (L.tsensor (67 + m % 16)).trip)
  if trip then max t (L.stageTjMax c) else t

/-- The highest estimate of some channels. -/
def Leaf.hottest (L : Leaf) (cs : List Nat) : Rat := cs.foldl (fun t c => max t (L.estimate c)) (-64)

/-- A factor that falls from 1 at `a` to 0 at `b` (R418). -/
def derate (a b t : Rat) : Rat := if a < b then clampRat 0 1 ((b - t) / (b - a)) else if t < b then 1 else 0

/-- The derating factor of leg `j` (R418). -/
def Leaf.legFactor (L : Leaf) (j : Nat) : Rat :=
  derate (L.get THM_DER_LEG_START) (L.get THM_DER_LEG_END) (L.hottest [24 + 2 * j, 25 + 2 * j])

/-- The derating factor of AUX_IMAX (R418). -/
def Leaf.auxFactor (L : Leaf) : Rat :=
  derate (L.get THM_DER_AUX_START) (L.get THM_DER_AUX_END) (L.hottest [42, 43, 44, 45])

/-- The chopper is at CHOP_MAX (R418). -/
def Leaf.chopHot (L : Leaf) : Bool := decide ((L.get THM_DER_CHOP_MAX : Rat) ≤ L.hottest [46, 47])

/-- The estimates of a switch and of its set shown (R286, R422). -/
def Leaf.showEstimate (L : Leaf) (c : Nat) : Leaf :=
  let v := fun (t : Rat) => (clampInt 0 255 (Config.rnd t + 64)).toNat
  let L := L.put (THM_TJ_TJ.at 8 (c % 8)) (v (L.estimate c)) (c / 8)
  if c < 24 then L.put TRC_SETSTAT_TJ (v (L.hottest (setChans (c / 6)))) (c / 6) else L

/-- The two-node model of a switch over a course (R412). -/
def Leaf.stepSwitch (L : Leaf) (c onTicks edges : Nat) : Leaf :=
  if L.get GCH_CFG_MODE c = 0 then L
  else
    let g := stageGroup c
    let p := L.switchLoss c onTicks edges
    let rjc : Rat := (L.get THM_MODA_RJC g : Rat) / 4096
    let rca : Rat := (L.get THM_MODA_RCA g : Rat) / 4096
    let tauJ : Rat := (max 1 (L.get THM_MODA_TAU_J g) : Nat) / (10000 : Rat)
    let tauC : Rat := (max 1 (L.get THM_MODA_TAU_C g) : Nat) / (100 : Rat)
    let dt : Rat := 1 / 160000
    let S := pick L.thm.switches c
    let tj := S.tj + dt / tauJ * (p * rjc - (S.tj - S.tc))
    let tc := S.tc + dt / tauC * ((if rjc = 0 then 0 else (tj - S.tc) * rca / rjc) - (S.tc - L.tref c))
    L.onSwitch c fun S => { S with tj := tj, tc := tc, p := p }

/-- A switch thermal-model block in a course in which its outputs are valid (R412 to R418). -/
def Leaf.modelBlock (L : Leaf) (g : Nat) (work : Nat → Nat × Nat) : Leaf :=
  let cs := (List.range 4).map (4 * g + ·)
  let good := pick L.thm.goodRun g + 1
  let L := { L with thm := { L.thm with
    badRun := L.thm.badRun.setIfInBounds g 0, goodRun := L.thm.goodRun.setIfInBounds g good } }
  let L :=
    if pick L.thm.fb g then
      if 160 ≤ good then
        let L := cs.foldl (fun L c =>
          let t := max (pick L.thm.switches c).tj (((L.tsensor (12 + c)).used : Rat) / 16 + L.get THM_CTRL_FB_MARGIN)
          L.onSwitch c fun S => { S with tj := t, tc := t }) L
        { L with thm := { L.thm with fb := L.thm.fb.setIfInBounds g false } }
      else L
    else cs.foldl (fun L c => L.stepSwitch c (work c).1 (work c).2) L
  (cs.foldl (fun L c => L.showEstimate c) L).thermalSummary

/-- A switch thermal-model block invalid under R39 (R417). -/
def Leaf.modelInvalid (L : Leaf) (g : Nat) : Leaf :=
  let bad := pick L.thm.badRun g + 1
  let L := { L with thm := { L.thm with
    badRun := L.thm.badRun.setIfInBounds g bad, goodRun := L.thm.goodRun.setIfInBounds g 0 } }
  if 16 ≤ bad ∧ pick L.thm.fb g = false then
    let L := { L with thm := { L.thm with fb := L.thm.fb.setIfInBounds g true } }
    let L := (L.stick (THM_FLT_FLAGS.bit 9)).bump THM_CNT_FB_ENTRIES
    ((List.range 4).foldl (fun L k => L.showEstimate (4 * g + k)) L).thermalSummary
  else L

/-! ### Commands -/

/-- THERMAL_SAMPLE (R400 to R406, R408, R411). -/
def execThermalSample (l : LeafId) (s : State) : Done :=
  let L := s.leaf l
  let P := s.leaf l.other
  guarded s (L.role != .boot && decide (1600 ≤ since L.count L.thm.sampledAt)) <|
    let L := L.sampleSensors (s.partnerAligned l && P.carrying)
    s.setLeaf l (if L.carrying && P.carrying then L.differThermal P else L)

/-- A broken sensor returned to health by a write of 1 to its bit, or the write discarded with an event (R407). -/
def Leaf.clearBroken (L : Leaf) (i : Nat) (who : Nat) : Leaf :=
  let S := L.tsensor i
  let f : Fld := if i < 64 then ⟨THM_BRK0, i, i⟩ else ⟨THM_BRK1, i - 64, i - 64⟩
  if !L.sensorBroken i then L.put f 0
  else if 100 ≤ S.okRun then
    let L := (L.put f 0).put THM_TEMP_STATE 0 i |>.put THM_TEMP_SAMPLES 0 i |>.put THM_TEMP_ARMED 0 i
    let L := L.onSensor i fun S => { S with last := [], devRun := 0, overRun := 0, used := (S.last.head?).getD S.used }
    (if 12 ≤ i ∧ i < 60 then L.sendDsat (i - 12) else L).thermalSummary
  else L.discard (f.reg.addr 0) who (2 ^ f.lo)

/-- BROKEN_CLEAR (R407). -/
def execBrokenClear (l : LeafId) (sensor : Fin 83) (who : Ident) (s : State) : Done :=
  onLeaf s l fun L => L.clearBroken sensor who.val

/-- Every sensor returned to health by a leaf restart (R407), its rise count restarted (R405). -/
def Leaf.healSensors (L : Leaf) : Leaf :=
  let L := (L.setWord THM_BRK0 0 0).setWord THM_BRK1 0 0
  ((List.range 83).foldl (fun L i =>
    let L := if L.get THM_TEMP_STATE i = 5 then L else L.put THM_TEMP_STATE 0 i
    ((L.put THM_TEMP_SAMPLES 0 i).put THM_TEMP_ARMED 0 i).onSensor i fun S => { used := S.used }) L).thermalSummary

end Sys2Proof.Machine
end

