-- ==== Sys2Proof/Machine/Link.lean ====
section
/-! DEFINITION. The link guard and the auxiliary converter (R292 to R315): inputs, ladder, contactors, converter and
leg states, the loops and their edges, chopper, ceilings, and the commands of the chapter. -/

namespace Sys2Proof.Machine

open Sys2Proof

def Leaf.onLnk (L : Leaf) (f : Lnk → Lnk) : Leaf := { L with lnk := f L.lnk }
def Leaf.onLeg (L : Leaf) (j : Nat) (f : LnkLeg → LnkLeg) : Leaf :=
  L.onLnk fun K => { K with legs := alter K.legs j f }
def Leaf.leg (L : Leaf) (j : Nat) : LnkLeg := pick L.lnk.legs j

/-- Converter, contactor and leg states (R299, R300, R302). -/
def Leaf.conv (L : Leaf) : Nat := L.get LNK_STAT_CONV
def Leaf.con (L : Leaf) : Nat := L.get LNK_STAT_CON
def Leaf.legState (L : Leaf) (j : Nat) : Nat := L.get (LNK_LEG_STATE.at 16 j)

/-- The full scale of a link-guard port. -/
def Leaf.lnkScale (L : Leaf) (p : Nat) : Rat :=
  if p = 12 then L.get LNK_SCALE_FS_LINK else if p = 13 then L.get LNK_SCALE_FS_BATT
  else if p = 14 then L.get LNK_SCALE_FS_IBATT else if p = 30 then L.get LNK_SCALE_FS_ICHOP
  else L.get LNK_SCALE_FS_ILEG

/-- The ports of R293. -/
def lnkPorts : List Nat := [12, 13, 14, 15, 16, 17, 18, 30]

/-- Mean of a port in its unit: the last valid one (R293). -/
def Leaf.lnkMean (L : Leaf) (p : Nat) : Rat := q31 ((kvFind L.lnk.means p).getD 0) * L.lnkScale p

/-- MAX of a port in its unit: the last valid one (R293). -/
def Leaf.lnkMax (L : Leaf) (p : Nat) : Rat :=
  (((kvFind L.lnk.maxes p).getD 0 : Int) : Rat) / 32768 * L.lnkScale p

def Leaf.vBatt (L : Leaf) : Rat := L.lnkMean 13
def Leaf.iBatt (L : Leaf) : Rat := L.lnkMean 14
def Leaf.iLeg (L : Leaf) (j : Nat) : Rat := L.lnkMean (15 + j)

/-- A threshold of the ladder in volts (R307). -/
def Leaf.ovVolts (L : Leaf) (f : Fld) : Rat := (L.get f : Rat) * L.get LNK_CTRL_LINK_MAX / 1000

/-- The converter moved to a state (R300). -/
def Leaf.moveConv (L : Leaf) (st : Nat) : Leaf :=
  if L.conv = st then L else (L.put LNK_STAT_CONV st).stageChanged 4

/-- The contactors moved to a state (R302). -/
def Leaf.moveCon (L : Leaf) (st : Nat) : Leaf :=
  if L.con = st then L
  else ((L.put LNK_STAT_CON st).onLnk fun K => { K with conFrom := L.count, matchRun := 0, lowRun := 0 })

/-- A leg moved to a state (R299). -/
def Leaf.moveLeg (L : Leaf) (j st : Nat) : Leaf :=
  if L.legState j = st then L else (L.put (LNK_LEG_STATE.at 16 j) st).stageChanged 5

/-- The converter stopped (R294, R300): SAFE_OFF from RUN, or from STANDBY while I_tot ramps. -/
def Leaf.stopConv (L : Leaf) : Leaf :=
  if L.conv = 2 ∨ (L.conv = 1 ∧ L.lnk.ramping = true) then
    (L.moveConv 3).onLnk fun K => { K with ramping := false, runNew := false, iTot := 0 }
  else L

/-- All three contactors opened in one course, and the converter stopped (R302, R304). -/
def Leaf.dropContactors (L : Leaf) : Leaf :=
  if L.con = 0 then L
  else (L.moveCon 0).stopConv.onLnk fun K => { K with plus := false, minus := false, pre := false, minusAt := none }

/-- A crash (R304): contactors opened, the OV_ASC demand raised, a discharge asked for. -/
def Leaf.crash (L : Leaf) : Leaf :=
  let L := (L.stick LNK_FLT_CRASH).onLnk fun K => { K with crash := true, dischReq := true }
  L.dropContactors.stopConv.put LNK_STAT_DEMAND 1

/-- Legs that run (R295). -/
def Leaf.nRun (L : Leaf) : Nat := ((List.range 4).filter fun j => L.legState j == 1).length

/-- ILEG_MAX of a leg, derated (R418). -/
def Leaf.legMax (L : Leaf) (j : Nat) : Rat := (L.get LNK_LIM_ILEG_MAX : Rat) * L.legFactor j

/-- n_run × ILEG_MAX with each leg's own derating (R295, R418). -/
def Leaf.legSum (L : Leaf) : Rat :=
  (List.range 4).foldl (fun a j => if L.legState j = 1 then a + L.legMax j else a) 0

/-- The discharge capability (R295). -/
def Leaf.disCap (L : Leaf) : Rat :=
  if L.vBatt < L.get LNK_LIM_BATT_MIN then 0
  else
    let c := min (L.get LNK_LIM_IBATT_DIS : Rat) L.legSum
    if L.lnk.disCeil = 0 then c else min c L.lnk.disCeil

/-- The charger ceiling of R330; `none` where it is not applied. -/
def Leaf.chargerCeil (L : Leaf) : Option Rat :=
  match L.get CHG_STAT_STATE with
  | 4 => some 10
  | 5 => some (L.was.chg.iTgt + 10)
  | 6 => some (L.was.chg.iTgt + 10)
  | _ => none

/-- The charge capability but for the charger ceiling (R295, R330). -/
def Leaf.chgCapOther (L : Leaf) : Rat :=
  if (L.get LNK_LIM_BATT_MAX : Rat) < L.vBatt then 0
  else
    let c := min (L.get LNK_LIM_IBATT_CHG : Rat) L.legSum
    if L.lnk.chgCeil = 0 then c else min c L.lnk.chgCeil

/-- The charge capability (R295). -/
def Leaf.chgCap (L : Leaf) : Rat :=
  match L.chargerCeil with
  | some x => min L.chgCapOther x
  | none => L.chgCapOther

/-! ### The parts of the link guard's course (R293) -/

/-- Step 1: means and maxima taken, the last valid ones kept, runs of invalid and of valid courses counted. Answers
whether any input of this course is invalid. -/
def Leaf.lnkInputs (L : Leaf) : Leaf × Bool :=
  let bad := lnkPorts.filter fun p => !L.portValid p
  let L := lnkPorts.foldl (fun L p => match L.meanOf p with
    | some m => L.onLnk fun K => { K with
        means := kvPut K.means p m, maxes := kvPut K.maxes p (L.maxOf p) }
    | none => L) L
  let guarded := bad.any fun p => p != 30
  let L := L.onLnk fun K => { K with
    badRun := if guarded then K.badRun + 1 else 0
    goodRun := if guarded then 0 else K.goodRun + 1
    bad12 := if bad.contains 12 then K.bad12 + 1 else 0 }
  let L := if 2 ≤ L.lnk.badRun ∧ L.lnk.senseBad = false then
      ((L.stick LNK_FLT_SENSE).onLnk fun K => { K with senseBad := true }).stopConv
    else if L.lnk.senseBad && decide (160 ≤ L.lnk.goodRun) then L.onLnk fun K => { K with senseBad := false }
    else L
  -- battery outside its window
  let out := L.portValid 13 && (decide (L.vBatt < L.get LNK_LIM_BATT_MIN) ||
    decide ((L.get LNK_LIM_BATT_MAX : Rat) < L.vBatt))
  (if out then L.stick LNK_FLT_BATT_WIN else L, !bad.isEmpty)

/-- The highest level in force (R323). -/
def Leaf.ladderLevel (L : Leaf) : Nat :=
  let K := L.lnk
  if K.hwSeen then 4 else if K.asc then 3 else if K.regen then 2 else if K.chop then 1 else 0

/-- Step 2: the ladder (R307). -/
def Leaf.ladder (L : Leaf) : Leaf :=
  let v := L.vLink
  let top := L.lnkMax 12
  let below := decide (v < L.ovVolts LNK_OV_OV_CHOP_ON)
  let run := if below then L.lnk.belowRun + 1 else 0
  let rel := decide (160 ≤ run)
  let reach := fun (f : Fld) => decide (L.ovVolts f ≤ top)
  let regenHit := reach LNK_OV_OV_REGEN
  let ascHit := reach LNK_OV_OV_ASC
  let hw := (List.range 48).any fun c => stb (pick L.gst c).body 103 103 == 1
  let K := L.lnk
  let L := if regenHit && !K.regen then (L.stick LNK_FLT_OV_REGEN).bump LNK_CNT_LADDER else L
  let L := if ascHit && !K.asc then (L.stick LNK_FLT_OV_ASC).bump LNK_CNT_LADDER else L
  let L := if hw && !K.hwSeen then (L.stick LNK_FLT_OV_HW).bump LNK_CNT_LADDER else L
  let regen := regenHit || (K.regen && !rel)
  let L := L.onLnk fun K => { K with
    belowRun := run
    chop := reach LNK_OV_OV_CHOP_ON || (K.chop && !decide (v < L.ovVolts LNK_OV_OV_CHOP_OFF))
    regen := regen
    asc := ascHit || (K.asc && !rel)
    hwSeen := hw
    rs := if regen then 0 else min 1 (K.rs + 1 / 1600) }
  (L.put LNK_STAT_LADDER L.ladderLevel).put LNK_STAT_DEMAND (bit (L.lnk.asc || L.lnk.crash))

/-- The precharge match of R302. -/
def Leaf.prechargeMatch (L : Leaf) : Bool :=
  let v := L.vLink
  let b := L.vBatt
  let st := L.get CHG_STAT_STATE
  let held := decide (4 ≤ st) && decide (st ≤ 6) && L.conv != 2
  decide (ratAbs (v - b) ≤ b / 20) || (decide (b * 105 / 100 < v) && held && decide (ratAbs L.iBatt ≤ 2))

/-- Step 3: the contactor state machine's counts, and a battery declared lost (R302, R305, R306). -/
def Leaf.contactors (L : Leaf) : Leaf :=
  let sum := (List.range 4).foldl (fun a j => a + L.iLeg j) 0
  let lost := L.conv == 2 && L.con == 3 && decide (20 ≤ ratAbs (L.vBatt - L.lnk.battPrev)) && decide (50 ≤ ratAbs sum) &&
    decide (ratAbs L.iBatt < ratAbs sum / 10)
  let L := if lost then
      (((L.stick LNK_FLT_BATT_LOST).moveCon 4).stopConv).onLnk fun K => { K with battLost := true }
    else L
  let con := L.con
  let m := con == 1 && L.prechargeMatch
  let low := con == 4 && decide (ratAbs L.iBatt ≤ 20)
  let L := L.onLnk fun K => { K with
    matchRun := if m then K.matchRun + 1 else 0
    lowRun := if low then K.lowRun + 1 else 0
    battPrev := L.vBatt }
  -- a discharge starts once every set whose ASC flag is set conducts in ASC or is LOST
  let ready := (List.range 4).all fun s => !L.ascFlag s || (decide (4 ≤ L.setState s) && decide (L.setState s ≤ 6))
  if L.lnk.dischReq && ready then
    (L.put LNK_STAT_DISCH 1).onLnk fun K => { K with dischReq := false, dischFrom := some L.count }
  else L

/-- A value in parts of a full scale, as Q1.31. -/
def toFs (x fs : Rat) : Int :=
  if fs = 0 then 0 else clampInt qMin qMax (Config.rnd (x / fs * ((2 ^ 31 : Nat) : Rat)))

/-- The target of the effective setpoint (R295). -/
def Leaf.vsetTarget (L : Leaf) : Rat :=
  let host := L.lnk.vHost.getD (L.get LNK_CTRL_LINK_SET)
  min (max host (L.vBatt + L.get LNK_CTRL_LINK_HEAD)) (L.ovVolts LNK_OV_OV_CHOP_OFF - 20)

/-- Step 4: the battery-current reference I_tot (R295, R300). `bad` says that an input instance 0 depends on is invalid. -/
def Leaf.formTotal (L : Leaf) (bad : Bool) : Leaf :=
  let fsV : Rat := L.get LNK_SCALE_FS_LINK
  let fsI : Rat := L.get LNK_SCALE_FS_IBATT
  let dis := L.disCap
  let chg := L.chgCap
  let K := L.lnk
  let t := L.vsetTarget
  let vset := if K.vset < t then min t (K.vset + 1 / 2) else max t (K.vset - 1 / 2)
  let L := L.onLnk fun K => { K with vset := vset }
  let hold := fun (L : Leaf) (i : Rat) => (L.runLoop 4 0 (toFs vset fsV) (toFs L.vLink fsV) qMin qMax (some (toFs i fsI))).1
  if L.conv = 2 then
    if K.asc then (hold L (-chg)).onLnk fun K => { K with iTot := -chg }
    else if L.on LNK_STAT_MODE then
      let i := clampRat (-chg) dis K.ibattRef
      (hold L i).onLnk fun K => { K with iTot := i }
    else if bad then
      let (L, y) := L.repeatLoop 4 0
      L.onLnk fun K => { K with iTot := q31 y * fsI }
    else
      let (L, y) := L.runLoop 4 0 (toFs vset fsV) (toFs L.vLink fsV) (toFs (-chg) fsI) (toFs dis fsI) none
      L.onLnk fun K => { K with iTot := clampRat (-chg) dis (q31 y * fsI) }
  else if K.ramping then
    let step : Rat := (L.get LNK_CTRL_IRAMP : Rat) / 10
    let i := if ratAbs K.iTot ≤ step then 0 else if 0 < K.iTot then K.iTot - step else K.iTot + step
    (hold L i).onLnk fun K => { K with iTot := i, ramping := decide (i ≠ 0) }
  else (hold L L.iBatt).onLnk fun K => { K with iTot := 0 }

/-- The frames of a channel that is off: the off level placed in the course of the stop (R294). -/
def Leaf.sendOff (L : Leaf) (chan tick : Nat) (entry : Bool) : Leaf :=
  L.sendPair chan false tick [if entry then (4, L.guardTick tick, false) else (2, 0, false)] [(2, 0, false)]

/-- Step 5: one leg (R294, R297 to R299). -/
def Leaf.runLeg (L : Leaf) (tick : Nat) (anyBad bad12 : Bool) (j : Nat) : Leaf :=
  let low := 24 + 2 * j
  let live := L.legState j == 1 && (L.conv == 2 || L.lnk.ramping)
  let fs : Rat := L.get LNK_SCALE_FS_ILEG
  let K := L.leg j
  let n := L.nRun
  let mx := L.legMax j
  let share := if n = 0 then 0 else L.lnk.iTot / (n : Nat) + (pick L.was.lnk.legs j).trim
  let part : Rat := match K.rampAt with
    | some c => if 160 ≤ since L.count c then 1 else (since L.count c : Rat) / 160
    | none => 1
  let ref := clampRat (-mx) mx (share * part)
  let ratio : Rat := if L.vLink = 0 then 0 else L.vBatt / L.vLink
  if live then
    let bad := bad12 || !L.portValid (15 + j)
    let (L, y) := if bad then L.repeatLoop 4 (1 + j)
      else L.runLoop 4 (1 + j) (toFs ref fs) (toFs (L.iLeg j) fs) (toFs (-ratio) 1) (toFs (1 - ratio) 1) none
    let duty := if anyBad then K.duty else clampRat 0 1 (ratio + q31 y)
    let (lo, hi) := legEdges 16000 (L.get LNK_LIM_DEAD_D) duty (-ref) ((L.get LNK_LIM_ILEG_MAX : Rat) / 32)
    let k := courseInPeriod L.count 4 j
    let k1 := courseInPeriod (L.count + 1) 4 j
    -- a leg that starts turns its low side on first (R256)
    let start := if K.on then [] else [(3, L.guardTick tick, true)]
    let L := (L.sendPair low false tick (start ++ inCourse k lo) (inCourse k1 lo)).sendPair (low + 1) false tick
      (inCourse k hi) (inCourse k1 hi)
    L.onLeg j fun K => { K with duty := duty, on := true }
  else
    let (L, _) := L.runLoop 4 (1 + j) 0 (toFs (L.iLeg j) fs) qMin qMax (some 0)
    let L := (L.sendOff low tick K.on).sendOff (low + 1) tick K.on
    L.onLeg j fun K => { K with duty := 0, on := false }

/-- The chopper channels in use (R309). -/
def Leaf.chopChans (L : Leaf) : List Nat := if L.on LNK_CHOP_DUAL then [46, 47] else [46]

/-- The expected chopper current, A (R309). -/
def Leaf.chopExpected (L : Leaf) : Rat :=
  if L.get LNK_CHOP_R_BRAKE = 0 then 0 else L.vLink * 1000 / L.get LNK_CHOP_R_BRAKE

/-- The chopper found faulty (R310). -/
def Leaf.failChopper (L : Leaf) : Leaf :=
  if L.on LNK_FLT_CHOP_FAIL then L
  else (L.stick LNK_FLT_CHOP_FAIL).onLnk fun K => { K with retested := false, chopBad := 0 }

/-- The conditions under which the chopper-test block chooses its course (R311). -/
def Leaf.wantRetest (L : Leaf) : Bool :=
  L.on LNK_FLT_CHOP_FAIL && !L.lnk.retested && L.lnk.retest.isNone && L.on POS_STAT_STILL 0 && L.on POS_STAT_STILL 1 &&
    decide (400 ≤ L.vLink) && decide (L.vLink ≤ L.ovVolts LNK_OV_OV_CHOP_OFF) && !L.on GCH_BG_FLT 10

/-- The outcome of a retest, read in the course after it (R311). -/
def Leaf.judgeRetest (L : Leaf) : Leaf :=
  if L.lnk.retest.any fun t => decide (t + 1 = L.count) then
    let pass := decide (L.chopExpected * 4 / 10 ≤ L.lnkMean 30)
    if L.lnk.retestVoid then L.onLnk fun K => { K with retest := none, retestVoid := false }
    else if pass then
      ((L.put LNK_FLT_CHOP_FAIL 0).bump LNK_CNT_CHOP_TRANS).onLnk fun K => { K with retest := none, retested := false }
    else L.onLnk fun K => { K with retest := none, retested := true }
  else L

/-- Step 6: the chopper (R294, R308 to R311). -/
def Leaf.runChopper (L : Leaf) (tick : Nat) (anyBad : Bool) : Leaf :=
  let was := L.on LNK_STAT_CHOP_ON
  let full := was && decide (2 ≤ L.lnk.chopOnRun)
  let bad := full && !anyBad &&
    (decide (L.lnkMean 30 < L.chopExpected / 10) || decide (2 ≤ L.vLink - L.lnk.vPrev))
  let L := L.judgeRetest
  let L := L.onLnk fun K => { K with chopBad := if bad then K.chopBad + 1 else 0, vPrev := L.vLink }
  let L := if 2 ≤ L.lnk.chopBad then L.failChopper else L
  let want := L.on LNK_CHOP_EN && !L.on LNK_FLT_CHOP_FAIL && decide (L.lnk.bad12 < 2) &&
    (L.lnk.chop || L.on LNK_STAT_DISCH)
  let on := if anyBad && decide (L.lnk.bad12 < 2) && !L.on LNK_FLT_CHOP_FAIL then was else want
  let L := (L.put LNK_STAT_CHOP_ON (bit on)).onLnk fun K => { K with chopOnRun := if on then K.chopOnRun + 1 else 0 }
  let here := L.lnk.retest.any fun t => decide (t = L.count)
  let next := L.wantRetest || L.lnk.retest.any fun t => decide (t = L.count + 1)
  let L := if here && L.lnk.chop then L.onLnk fun K => { K with retestVoid := true } else L
  L.chopChans.foldl (fun L c =>
    let now := if on != was then (4, L.guardTick tick, on) else (2, 0, on)
    let L := if here && !L.lnk.chop then L else L.sendNow c false tick [now]
    if next then L else L.sendNext c false [(2, 0, on)]) L

/-- The charger's mean output power P_CO, W (R141, R301). -/
def Leaf.updatePco (L : Leaf) : Leaf :=
  let st := L.get CHG_STAT_STATE
  if 3 ≤ st ∧ st ≤ 6 then
    let P := pick L.sns.paccs 1
    if P.flags % 2 = 1 then
      let fs : Rat := (L.get CHG_SCALE_FS_ICO : Rat) * L.get CHG_SCALE_FS_VCO
      L.onLnk fun K => { K with pCo := (P.psum : Rat) / 40 / ((2 ^ 30 : Nat) : Rat) * fs }
    else L
  else L.onLnk fun K => { K with pCo := 0 }

/-- Power of the auxiliary output, W (R301, R647). -/
def Leaf.pAux (L : Leaf) : Rat :=
  q31 ((L.meanOf 28).getD 0) * L.get LNK_ASCALE_FS_VAUX / 10 * (q31 ((L.meanOf 29).getD 0) * L.get LNK_ASCALE_FS_IAUX)

/-- P_CH (R301, R418). -/
def Leaf.pChopper (L : Leaf) : Rat :=
  if L.on LNK_CHOP_EN && !L.on LNK_FLT_CHOP_FAIL && !L.chopHot && decide (L.get LNK_CHOP_R_BRAKE ≠ 0) then
    let v := L.ovVolts LNK_OV_OV_CHOP_ON
    v * v * 1000 / L.get LNK_CHOP_R_BRAKE
  else 0

/-- Step 7: what the link guard publishes (R301, R304, R308, R323 to R325). -/
def Leaf.publishLink (L : Leaf) : Leaf :=
  let L := L.updatePco
  let run := L.conv == 2
  let dis := if run then L.disCap else 0
  let chg := if run then L.chgCap else 0
  let b := L.vBatt
  let mot := (95 / 100 : Rat) * b * dis + L.lnk.pCo - L.pAux
  let reg := (95 / 100 : Rat) * (b * chg + L.pChopper) + L.pAux - L.lnk.pCo
  let mot := if L.lnk.crash then 0 else max 0 mot
  let reg := if 2 ≤ L.lnk.bad12 then 0 else if L.lnk.crash then L.pChopper else max 0 reg
  let L := L.onLnk fun K => { K with pMot := mot, pReg := reg, iChg := chg }
  let u := fun (n : Nat) (x : Rat) => min (2 ^ n - 1) (Config.rnd x).toNat
  let L := L.put LNK_POW_P_MOT (u 16 (mot / 100)) |>.put LNK_POW_P_REG (u 16 (reg / 100)) |>.put LNK_POW_V_AUX
    (u 16 (q31 ((L.meanOf 28).getD 0) * L.get LNK_ASCALE_FS_VAUX * 10)) |>.put LNK_POW_I_AUX
    (u 16 (q31 ((L.meanOf 29).getD 0) * L.get LNK_ASCALE_FS_IAUX * 10))
  let L := L.put LNK_MEAS_V_LINK (u 16 (L.vLink * 10)) |>.put LNK_MEAS_V_BATT (u 16 (b * 10)) |>.put LNK_MEAS_I_BATT
    (satSigned 16 (Config.rnd (L.iBatt * 10))) |>.put LNK_MEAS_I_CHOP (u 16 (L.lnkMean 30 * 10))
  let L := (List.range 4).foldl (fun L j =>
    L.put (LNK_LEG_CURRENT.at 16 j) (satSigned 13 (Config.rnd (L.iLeg j)))) L
  (L.put LNK_STAT_RS (u 8 (L.lnk.rs * 255))).put LNK_STAT_VSET (u 10 L.lnk.vset)

/-- The keyed block of the link guard in a course, its outputs handed over at `tick` (R293 to R311). -/
def Leaf.runLink (L : Leaf) (tick : Nat) : Leaf :=
  let L := L.clearProbe 4
  let (L, anyBad) := L.lnkInputs
  let bad12 := !L.portValid 12 || !L.portValid 13
  let L := L.ladder.contactors.formTotal bad12
  let L := (List.range 4).foldl (fun L j => L.runLeg tick anyBad bad12 j) L
  (L.runChopper tick anyBad).publishLink

/-! ### At the seal -/

/-- What a leaf sees of a channel pair: without bias, LATCHED, in WAIT, and ready (FALLBACK or RUN). -/
structure PairSeen where
  bias : Bool
  latched : Bool
  wait : Bool
  ready : Bool

def Leaf.seePair (L : Leaf) (low group : Nat) : PairSeen :=
  let a := L.get GCH_STAT_STATE low
  let b := L.get GCH_STAT_STATE (low + 1)
  { bias := L.on GCH_BG_FLT group || a == 1 || b == 1
    latched := decide (5 ≤ a) || decide (5 ≤ b)
    wait := a == 4 || b == 4
    ready := (a == 2 || a == 3) && (b == 2 || b == 3) }

/-- The states of a leg at a boundary (R299, R314). -/
def Leaf.sealLeg (L : Leaf) (j : Nat) : Leaf :=
  let P := L.seePair (24 + 2 * j) (4 + j)
  let st := L.legState j
  let K := L.leg j
  -- one readmission without a recurrence within 10 s was transient
  let L := if K.readmitted.any fun c => decide (1600000 ≤ since L.count c) then
      (L.bump LNK_CNT_LEG_TRANS).onLeg j fun K => { K with readmitted := none, shareAt := none }
    else L
  if P.bias then (if st = 4 then L else L.moveLeg j 4)
  else if st = 4 then L.moveLeg j 0
  else if P.latched then L.moveLeg j 3
  else if K.shareOut then L.moveLeg j 3
  else if P.wait then
    if st = 2 then L else L.moveLeg j 2
  else if st = 2 then
    if P.ready then
      ((L.moveLeg j 1).bump LNK_CNT_LEG_TRANS).onLeg j fun K => { K with rampAt := some L.count }
    else L
  else if st = 3 then L.moveLeg j 0
  else if st = 0 ∧ L.on LNK_CTRL_EN = true ∧ P.ready = true then L.moveLeg j 1
  else if st = 1 ∧ L.on LNK_CTRL_EN = false then L.moveLeg j 0
  else L

/-- The causes that keep the converter off (R300). -/
def Leaf.convCause (L : Leaf) : Bool :=
  L.lnk.hvilOpen || L.lnk.crash || L.con != 3 || L.lnk.senseBad || L.nRun == 0

/-- The converter's states at a boundary (R300). -/
def Leaf.sealConv (L : Leaf) : Leaf :=
  let cause := L.convCause
  let L := if cause then L.stopConv else L
  let st := L.conv
  if st = 0 then (if L.on LNK_CTRL_EN then L.moveConv 1 else L)
  else if st ≠ 2 ∧ L.on LNK_CTRL_EN = false ∧ L.lnk.ramping = false then L.moveConv 0
  else if st = 1 then
    if L.lnk.runNew && !cause then
      (L.moveConv 2).onLnk fun K => { K with runNew := false, ramping := false, vset := L.vLink }
    else L
  else if st = 2 then
    if L.lnk.runFlag then L else (L.moveConv 1).onLnk fun K => { K with ramping := true, runNew := false }
  else if st = 3 ∧ cause = false then (L.moveConv 1).onLnk fun K => { K with runNew := false }
  else L

/-- A CLOSE flag with its conditions (R302): `carry` is module state CARRY. -/
def Leaf.close (L : Leaf) (carry : Bool) : Leaf :=
  let b := L.vBatt
  if carry && L.con == 0 && !L.lnk.hvilOpen && !L.lnk.crash && !L.on LNK_STAT_PRE_LOCK &&
      decide ((L.get LNK_LIM_BATT_MIN : Rat) ≤ b) && decide (b ≤ L.get LNK_LIM_BATT_MAX) then
    (L.moveCon 1).onLnk fun K => { K with minusAt := none }
  else L

/-- An OPEN flag (R302). -/
def Leaf.openCon (L : Leaf) : Leaf :=
  if 1 ≤ L.con ∧ L.con ≤ 3 then (L.moveCon 4).stopConv else L

/-- A LINK descriptor used at a seal (R296). -/
def Leaf.useLink (L : Leaf) (carry : Bool) (h : Hdr) (d : Slot) : Leaf :=
  let fl := sl d 17 1
  let vs : Rat := (sl d 18 2 : Rat) / 10
  if fl / 128 % 2 = 1 ∨ (fl / 4 % 2 = 1 ∧ fl / 8 % 2 = 1) then L.complete h 0x0105 0 17
  else if vs < 700 ∨ 950 < vs ∨ L.ovVolts LNK_OV_OV_CHOP_OFF - 20 < vs then L.complete h 0x0105 0 18
  else
    let run := fl / 2 % 2 == 1
    let standby := L.conv == 1
    let L := (L.put LNK_STAT_MODE (fl % 2)).onLnk fun K => { K with
      runFlag := run, runNew := if run then (K.runNew || standby) else false
      auxFlag := fl / 64 % 2 == 1, vHost := some vs
      ibattRef := (signed 32 (sl d 20 4) : Rat) / 16, disCeil := sl d 24 2, chgCeil := sl d 26 2, refAt := L.count }
    let L := if fl / 16 % 2 = 1 then L.crash else L
    let L := if fl / 4 % 2 = 1 then L.close carry else L
    let L := if fl / 8 % 2 = 1 then L.openCon else L
    let L := if fl / 32 % 2 = 1 ∧ L.con = 0 ∧ L.on LNK_STAT_DISCH = false then L.onLnk fun K => { K with dischReq := true }
      else L
    L.complete h 0x0000

/-- The link part of a seal, before the descriptors are used (R299, R300, R302, R304, R310, R315). -/
def Leaf.sealLink (L : Leaf) (inp : SealIn) : Leaf :=
  -- main− and precharge close at the boundary after PRECHARGE began
  let L := if L.con = 1 then L.onLnk fun K => { K with minus := true, pre := true } else L
  let L := L.onLnk fun K => { K with hvilRun := if inp.hvil then 0 else K.hvilRun + 1 }
  let L := (List.range 4).foldl (fun L j => L.sealLeg j) L
  let L := if L.on LNK_CHOP_EN && L.on GCH_BG_FLT 10 then L.failChopper else L
  let d := fun (L : Leaf) (k mine hi lo : Nat) =>
    let (L, x) := differStep L inp 9 k mine hi lo (pick L.lnk.differs k)
    L.onLnk fun K => { K with differs := K.differs.setIfInBounds k x }
  let st := (L.word LNK_STAT).toNat
  d (d (d L 0 st 63 61) 1 st 60 58) 2 (L.word LNK_FLT).toNat 1 1

/-! ### Leg blocks and the auxiliary converter -/

/-- The block of a leg's trim (R298). -/
def Leaf.legBlock (L : Leaf) (j : Nat) : Leaf :=
  let n := L.nRun
  if L.legState j ≠ 1 ∨ n = 0 then L.onLeg j fun K => { K with trim := 0, atLimit := 0 }
  else
    let mean := (List.range 4).foldl (fun a k => if L.legState k = 1 then a + L.iLeg k else a) 0 / (n : Nat)
    let diff := mean - L.iLeg j
    let mx : Rat := L.get LNK_LIM_ILEG_MAX
    let t := clampRat (-(mx / 20)) (mx / 20) ((L.leg j).trim + diff / 256)
    let held := decide (ratAbs t = mx / 20) && decide (mx * 15 / 100 < ratAbs diff)
    L.onLeg j fun K => { K with trim := t, atLimit := if held then K.atLimit + 1 else 0 }

/-- The auxiliary converter's channels in RUN (R313). -/
def Leaf.auxPairs (L : Leaf) : Bool := [42, 43, 44, 45].all fun c => L.get GCH_STAT_STATE c == 3

/-- Edges of an auxiliary leg in a course of a period, shifted by `s` (R312). -/
def auxEdges (dead s k : Nat) (high : Bool) : List (Nat × Bool) :=
  let ev := if high then [(dead, true), (4000, false)] else [(0, false), (4000 + dead, true)]
  let at_ := ev.map fun e => ((e.1 + s) % 8000, e.2)
  let here := at_.filter fun e => e.1 / 4000 == k
  match here with
  | [a, b] => if a.1 ≤ b.1 then [(a.1 % 4000, a.2), (b.1 % 4000, b.2)] else [(b.1 % 4000, b.2), (a.1 % 4000, a.2)]
  | l => l.map fun e => (e.1 % 4000, e.2)

/-- The auxiliary converter stopped by a fault (R314). -/
def Leaf.auxFault (L : Leaf) (f : Fld) : Leaf :=
  let again := L.lnk.auxFaultAt.any fun c => decide (since L.count c ≤ 160000)
  ((L.stick f).put LNK_STAT_AUX_RUN 0).onLnk fun K => { K with
    auxStop := some L.count, auxHeld := K.auxHeld || again, auxFaultAt := some L.count, auxOvRun := 0, auxShortRun := 0 }

/-- The auxiliary converter's loops and faults, in the first of its fill blocks (R313, R314). -/
def Leaf.auxBlock (L : Leaf) (block : Nat) : Leaf :=
  let L := L.clearProbe block
  let v := q31 ((L.meanOf 28).getD 0) * L.get LNK_ASCALE_FS_VAUX / 10
  let fsV : Rat := (L.get LNK_ASCALE_FS_VAUX : Rat) / 10
  let fsI : Rat := L.get LNK_ASCALE_FS_IAUX
  let set : Rat := (L.get LNK_AUX_AUX_SET : Rat) / 10
  -- pairs and bias
  let a := L.seePair 42 9
  let b := L.seePair 44 9
  let gone := a.bias || b.bias || a.latched || b.latched
  let L := if gone then L.stick LNK_FLT_AUX_LOST else L
  let pairBad := gone || a.wait || b.wait
  let ran := L.on LNK_STAT_AUX_RUN
  let L := if ran && pairBad then (L.put LNK_STAT_AUX_RUN 0).onLnk fun K => { K with auxPair := true } else L
  -- a restart with no recurrence within 1 s
  let L := if (L.lnk.auxFaultAt.any fun c => decide (160000 < since L.count c)) && !L.lnk.auxHeld && L.on LNK_STAT_AUX_RUN then
      (L.bump LNK_CNT_AUX_TRANS).onLnk fun K => { K with auxFaultAt := none }
    else L
  -- start and stop
  let want := L.on LNK_AUX_AUX_EN && L.lnk.auxFlag && L.auxPairs && L.lnk.auxStop.isNone && !L.lnk.auxHeld && !pairBad
  let vl := L.vLink
  let vmin : Rat := L.get LNK_AUX_AUX_VLMIN
  let L :=
    if L.on LNK_STAT_AUX_RUN then
      if want && decide (vmin - 30 ≤ vl) then L else L.put LNK_STAT_AUX_RUN 0
    else if want && decide (vmin ≤ vl) then
      let L := if L.lnk.auxPair then L.bump LNK_CNT_AUX_TRANS else L
      (L.put LNK_STAT_AUX_RUN 1).onLnk fun K => { K with auxFrom := L.count, auxPair := false, shift := 0, shiftNext := 0 }
    else L
  let dead := L.get LNK_AUX_DEAD_X
  if L.on LNK_STAT_AUX_RUN then
    let part : Rat := min 1 ((since L.count L.lnk.auxFrom : Rat) / 1600)
    let imax := (L.get LNK_AUX_AUX_IMAX : Rat) * L.auxFactor
    let (L, y0) := L.runLoop block 0 (toFs (set * part) fsV) ((L.meanOf 28).getD 0) 0 (toFs imax fsI) none
    let smax : Rat := ((4000 - 2 * dead : Nat) : Rat) / 4000
    let (L, y1) := L.runLoop block 1 y0 ((L.meanOf 29).getD 0) 0 (toFs smax 1) none
    let next := (clampInt 0 ((4000 - 2 * dead : Nat) : Int) (Config.rnd (q31 y1 * 4000))).toNat
    let atMax := decide (toFs imax fsI ≤ y0)
    let ov := decide ((L.get LNK_AUX_AUX_OV : Rat) / 10 < v)
    let short := decide (v < set / 2) && atMax
    let L := L.onLnk fun K => { K with
      shiftNext := next
      auxOvRun := if ov then K.auxOvRun + 1 else 0, auxShortRun := if short then K.auxShortRun + 1 else 0 }
    if 2 ≤ L.lnk.auxOvRun then L.auxFault LNK_FLT_AUX_OV
    else if 16000 ≤ L.lnk.auxShortRun then L.auxFault LNK_FLT_AUX_SHORT
    else L
  else
    let (L, _) := L.runLoop block 0 0 0 qMin qMax (some 0)
    (L.runLoop block 1 0 0 qMin qMax (some 0)).1

/-- The frames of the auxiliary converter for the next course, in the second of its fill blocks (R312, R313): off frames
while it does not run. -/
def Leaf.auxFrames (L : Leaf) : Leaf :=
  let k1 := (L.count.toNat + 1) % 2
  let dead := L.get LNK_AUX_DEAD_X
  let send := fun (L : Leaf) (c : Nat) (es : List (Nat × Bool)) =>
    L.emitFor 1 (.gate c (courseBody 0 false (tagOf (after L.count 1)) es))
  -- a new shift takes effect only at the start of a period
  let L := if k1 = 0 then L.onLnk fun K => { K with shift := K.shiftNext } else L
  if L.on LNK_STAT_AUX_RUN then
    let s := L.lnk.shift
    let L := send (send L 42 (auxEdges dead 0 k1 false)) 43 (auxEdges dead 0 k1 true)
    send (send L 44 (auxEdges dead s k1 false)) 45 (auxEdges dead s k1 true)
  else [42, 43, 44, 45].foldl (fun L c => send L c [(0, false)]) L

/-! ### Settings and flags -/

/-- The order of the ladder's thresholds (R308). -/
def ovOrder (w : Word) : Bool :=
  let g := fun (f : Fld) => fieldOf w f.hi f.lo
  decide (g LNK_OV_OV_CHOP_OFF + 10 ≤ g LNK_OV_OV_CHOP_ON) && decide (g LNK_OV_OV_CHOP_ON + 10 ≤ g LNK_OV_OV_REGEN) &&
    decide (g LNK_OV_OV_REGEN + 10 ≤ g LNK_OV_OV_ASC) && decide (g LNK_OV_OV_ASC + 10 ≤ g LNK_OV_OV_HW) &&
    decide (g LNK_OV_OV_HW ≤ 1000)

/-- EN = 1 with R_BRAKE = 0 is refused (R309). -/
def chopOk (w : Word) : Bool :=
  !(fieldOf w LNK_CHOP_EN.hi LNK_CHOP_EN.lo == 1 && fieldOf w LNK_CHOP_R_BRAKE.hi LNK_CHOP_R_BRAKE.lo == 0)

/-- FT_HI of SP12 as the plinth sets it (R308). -/
def Leaf.setFtLink (L : Leaf) : Leaf :=
  let fs := L.get LNK_SCALE_FS_LINK
  let x : Rat := if fs = 0 then 0 else L.ovVolts LNK_OV_OV_HW / fs * 512
  L.put SNS_PCFG_FT_HI (satSigned 10 (Config.rnd x)) 12

/-- A write of 1s to LNK_FLT (R303, R311, R314, R326): CHOP_FAIL clears only as R311 gives; OPEN_BLOCKED, SENSE and the
others clear at once. `workshop` is module state WORKSHOP. -/
def Leaf.clearLnkFlt (L : Leaf) (workshop : Bool) (value : Word) : Leaf :=
  let m := value &&& ~~~ 2#64
  let L := if value.getLsbD 1 && workshop && L.on LNK_FLT_CHOP_FAIL then L.onLnk fun K => { K with retested := false }
    else L
  let L := L.setWord LNK_FLT 0 (L.word LNK_FLT &&& ~~~ m)
  let L := if value.getLsbD 2 then (L.put LNK_STAT_PRE_LOCK 0).onLnk fun K => { K with timeouts := 0 } else L
  let L := if value.getLsbD 9 then
      (List.range 4).foldl (fun L j => L.onLeg j fun K =>
        if K.shareLast then { K with shareOut := false, shareLast := false, shareAt := none, readmitted := none } else K) L
    else L
  if value.getLsbD 12 || value.getLsbD 13 then L.onLnk fun K => { K with auxHeld := false } else L

/-! ### Commands -/

/-- LINK (R296): the descriptor is read and waits for the next seal. -/
def execLink (l : LeafId) (d : Desc) (s : State) : Done :=
  onLeaf s l fun L => L.readDesc 0 0x30 d (fun L h => L.receive d.bytes h)

/-- DISCHARGE_END (R305). -/
def execDischargeEnd (l : LeafId) (s : State) : Done :=
  let L := s.leaf l
  let low := decide (L.vLink < 60)
  guarded s (L.on LNK_STAT_DISCH && (low || L.lnk.dischFrom.any fun c => decide (320000 ≤ since L.count c))) <|
    let L := (L.put LNK_STAT_DISCH 0).onLnk fun K => { K with dischFrom := none }
    s.setLeaf l (if low then L else L.stick LNK_FLT_DISCH_TIMEOUT)

/-- BATT_REF_TIMEOUT (R296). -/
def execBattRefTimeout (l : LeafId) (s : State) : Done :=
  let L := s.leaf l
  guarded s (L.on LNK_STAT_MODE && decide (L.get TRC_CTRL_SP_TIMEOUT < since L.count L.lnk.refAt)) <|
    s.setLeaf l ((L.put LNK_STAT_MODE 0).event 0x0709 0 (Config.rnd (L.lnk.vset * 10)).toNat)

/-- PRECHARGE_MATCH (R302, R303). -/
def execPrechargeMatch (l : LeafId) (s : State) : Done :=
  let L := s.leaf l
  guarded s (L.con == 1 && decide (16 ≤ L.lnk.matchRun)) <|
    s.setLeaf l ((L.moveCon 2).onLnk fun K => { K with plus := true })

/-- PRE_TIMEOUT (R302, R303): two in a row lock the precharge. -/
def execPreTimeout (l : LeafId) (s : State) : Done :=
  let L := s.leaf l
  guarded s (L.con == 1 && decide (L.lnk.matchRun < 16) && decide (320000 ≤ since L.count L.lnk.conFrom)) <|
    let L := ((L.moveCon 0).stick LNK_FLT_PRE_TIMEOUT).onLnk fun K => { K with
      minus := false, pre := false, timeouts := K.timeouts + 1 }
    s.setLeaf l (if 2 ≤ L.lnk.timeouts then L.put LNK_STAT_PRE_LOCK 1 else L)

/-- OVERLAP_ELAPSED (R302, R303). -/
def execOverlapElapsed (l : LeafId) (s : State) : Done :=
  let L := s.leaf l
  guarded s (L.con == 2 && decide (L.get LNK_CON_OVERLAP ≤ since L.count L.lnk.conFrom)) <|
    s.setLeaf l ((L.moveCon 3).onLnk fun K => { K with pre := false, timeouts := 0 })

/-- OPENING_CURRENT_LOW (R302). -/
def execOpeningCurrentLow (l : LeafId) (s : State) : Done :=
  let L := s.leaf l
  guarded s (L.con == 4 && decide (16 ≤ L.lnk.lowRun)) <|
    s.setLeaf l (((L.moveCon 0).put LNK_FLT_OPEN_BLOCKED 0).onLnk fun K => { K with
      plus := false, pre := false, minusAt := some (after L.count 1600), blockedAt := none })

/-- MAIN_MINUS_OPEN (R302). -/
def execMainMinusOpen (l : LeafId) (s : State) : Done :=
  let L := s.leaf l
  guarded s (L.con == 0 && L.lnk.minusAt.any fun c => decide (since L.count c < 2 ^ 47)) <|
    s.setLeaf l (L.onLnk fun K => { K with minus := false, minusAt := none })

/-- OPEN_BLOCKED (R302): the bit with its event, and the event again every 160,000 courses. -/
def execOpenBlocked (l : LeafId) (s : State) : Done :=
  let L := s.leaf l
  guarded s (L.con == 4 && decide (L.lnk.lowRun < 16) && decide (320000 ≤ since L.count L.lnk.conFrom) &&
      !(L.lnk.blockedAt.any fun c => decide (since L.count c < 160000))) <|
    let L := if L.lnk.blockedAt.isSome then L.bitEvent LNK_FLT_OPEN_BLOCKED 0 1 else L.raise LNK_FLT_OPEN_BLOCKED
    s.setLeaf l (L.onLnk fun K => { K with blockedAt := some L.count })

/-- HVIL_OPEN (R304): the signal has been missing for 16 courses. -/
def execHvilOpen (l : LeafId) (s : State) : Done :=
  let L := s.leaf l
  guarded s (decide (16 ≤ L.lnk.hvilRun) && !L.lnk.hvilOpen) <|
    s.setLeaf l (((L.stick LNK_FLT_HVIL).onLnk fun K => { K with hvilOpen := true }).dropContactors.stopConv)

/-- HVIL_CLOSED (R304). -/
def execHvilClosed (l : LeafId) (s : State) : Done :=
  let L := s.leaf l
  guarded s (decide (L.lnk.hvilRun = 0) && L.lnk.hvilOpen) <|
    s.setLeaf l (L.onLnk fun K => { K with hvilOpen := false })

/-- CHOPPER_RETEST (R311): the test frames for the next course; the link guard sends none for it. -/
def execChopperRetest (l : LeafId) (s : State) : Done :=
  let L := s.leaf l
  guarded s L.wantRetest <|
    let t := L.count + 1
    let L := L.onLnk fun K => { K with retest := some t, retestVoid := false }
    s.setLeaf l (L.chopChans.foldl (fun L c =>
      (L.emit (.gate c (courseBody 0 false (tagOf t) [(400, true), (3600, false)]))).placeNext c
        [(0, 400, true), (1, 3600, false)]) L)

/-- CHOP_FAIL_CLEAR (R311): in WORKSHOP a new retest is owed; elsewhere the bit stays. -/
def execChopFailClear (l : LeafId) (_who : Ident) (s : State) : Done :=
  let L := s.leaf l
  guarded s (s.mode == .workshop && L.on LNK_FLT_CHOP_FAIL) <|
    s.setLeaf l (L.onLnk fun K => { K with retested := false })

/-- SHARE (R298): the leg goes to OUT; a recurrence after its readmission lasts. -/
def execShare (l : LeafId) (leg : Fin 4) (s : State) : Done :=
  let L := s.leaf l
  guarded s (L.legState leg == 1 && decide (160000 ≤ (L.leg leg).atLimit)) <|
    let L := (L.moveLeg leg 3).stick LNK_FLT_SHARE
    s.setLeaf l (L.onLeg leg fun K => { K with
      shareOut := true, shareLast := K.readmitted.isSome, shareAt := some L.count, atLimit := 0, trim := 0 })

/-- LEG_READMIT (R298). -/
def execLegReadmit (l : LeafId) (leg : Fin 4) (s : State) : Done :=
  let L := s.leaf l
  let K := L.leg leg
  guarded s (L.legState leg == 3 && K.shareOut && !K.shareLast &&
      K.shareAt.any fun c => decide (160000 ≤ since L.count c)) <|
    s.setLeaf l ((L.moveLeg leg 0).onLeg leg fun K => { K with shareOut := false, readmitted := some L.count })

/-- AUX_RESTART (R314). -/
def execAuxRestart (l : LeafId) (s : State) : Done :=
  let L := s.leaf l
  guarded s (!L.lnk.auxHeld && L.lnk.auxStop.any fun c => decide (16000 ≤ since L.count c)) <|
    s.setLeaf l (L.onLnk fun K => { K with auxStop := none })

end Sys2Proof.Machine
end

