-- ==== Sys2Proof/Machine/Ledger.lean ====
section
/-! DEFINITION. The energy ledger and the battery history (R532 to R563): metering, records and their chain, sessions,
signatures and stores, the BMS map, hours and days, the grade report, and the service requests. -/

namespace Sys2Proof.Machine

open Sys2Proof

def Leaf.onLdg (L : Leaf) (f : Ldg → Ldg) : Leaf := { L with ldg := f L.ldg }
def Leaf.onHis (L : Leaf) (f : His → His) : Leaf := { L with his := f L.his }
def ldgFlag (k : Nat) : Fld := LDG_FLT_FLAGS.bit k
def hisFlag (k : Nat) : Fld := HIS_FLT_FLAGS.bit k

/-- The counter E0 to E3 of the leaf, units of 2^-16 J (R534). -/
def Leaf.energy (L : Leaf) (k : Nat) : Nat := L.get LDG_E_COUNT k
def Leaf.energies (L : Leaf) : List Nat := (List.range 4).map L.energy

/-! ### Metering -/

/-- One counter raised by an energy in joules, its unrounded remainder kept (R534). -/
def Leaf.addEnergy (L : Leaf) (k : Nat) (joules : Rat) : Leaf :=
  let x := pick L.ldg.rem_ k + joules * 65536
  let n := x.floor.toNat
  (L.put LDG_E_COUNT ((L.energy k + n) % 2 ^ 64) k).onLdg fun G => { G with rem_ := G.rem_.setIfInBounds k (x - (n : Rat)) }

/-- The energy of a window of a product accumulator, J (R532). -/
def Leaf.windowJ (L : Leaf) (p : Nat) : Rat :=
  let fs : Rat := match p with
    | 0 => (L.get LNK_SCALE_FS_BATT : Rat) * L.get LNK_SCALE_FS_IBATT
    | 1 => (L.get CHG_SCALE_FS_VCO : Rat) * L.get CHG_SCALE_FS_ICO
    | _ => (L.get LNK_ASCALE_FS_VAUX : Rat) / 10 * L.get LNK_ASCALE_FS_IAUX
  ((pick L.sns.paccs p).win.sum : Rat) * fs / ((2 ^ 30 : Nat) : Rat) * 15625 / 100000000000

/-- The auxiliary output is metered (R532). -/
def Leaf.auxMetered (L : Leaf) : Bool :=
  L.on SNS_PACC_ENABLE 2 && L.get SNS_PACC_SRC_A 2 == 28 && L.get SNS_PACC_SRC_B 2 == 29 && L.get SNS_PACC_WIN 2 == 1599

/-- A window of P0 that ended in the course before this seal, taken into the counters (R533). -/
def Leaf.meterWindow (L : Leaf) : Leaf :=
  let w0 := (pick L.sns.paccs 0).win
  let nv := w0.n
  let vm : Rat := if L.ldg.wN = 0 then 0 else L.ldg.wSum / (L.ldg.wN : Nat)
  let L := L.onLdg fun G => { G with
    gap := G.gap + (1600 - nv), sat := G.sat || w0.sat || (pick L.sns.paccs 1).win.sat, wSum := 0, wN := 0
    auxUnmetered := G.auxUnmetered || !L.auxMetered }
  if nv = 0 then L
  else
    let ppm := fun (f : Fld) => 1 + (signed 16 (L.get f) : Rat) / 1000000
    let ofs : Rat := (signed 16 (L.get LDG_CAL_OFS_I) : Rat) / 100
    let eb := L.windowJ 0 * ppm LDG_CAL_GAIN_V * ppm LDG_CAL_GAIN_I + ofs * vm / 100
    let st := L.get CHG_STAT_STATE
    let ec := max 0 (L.windowJ 1)
    let L :=
      if 0 < eb then L.addEnergy 0 eb
      else
        let into := -eb
        let c := if decide (4 ≤ st) && decide (st ≤ 6) then min into ec else 0
        (L.addEnergy 2 c).addEnergy 1 (into - c)
    let ea := L.windowJ 2
    let L := if L.auxMetered && decide (0 < ea) then L.addEnergy 3 ea else L
    let charge := L.get LDG_SESS_KIND == 2
    L.onLdg fun G => { G with
      sessE := if charge then G.sessE + ec * 65536 else G.sessE
      trail := G.trail ++ [(L.count, L.energies)] }

/-- Metering at a seal (R532, R533). -/
def Leaf.sealLedger (L : Leaf) : Leaf :=
  let v := (L.meanOf 13).map fun m => q31 m * L.get LNK_SCALE_FS_BATT
  let lim := (Config.rnd (L.chg.iLim * 10)).toNat
  let st := (pick L.sns.ports 13).record.flags.getLsbD 3 || (pick L.sns.ports 14).record.flags.getLsbD 3
  let L := L.onLdg fun G => { G with
    standin := G.standin || st
    wSum := G.wSum + v.getD 0, wN := G.wN + bit v.isSome
    vSum := G.vSum + v.getD 0, vN := G.vN + bit v.isSome
    sessLim := max G.sessLim lim }
  let L := L.put LDG_STAT_WRITER (bit (L.role == .lead))
  if (pick L.sns.paccs 0).win.last + 1 = L.count ∧ L.count ≠ 0 then L.meterWindow else L

/-! ### Records -/

/-- Bytes 0 to 191 of a record from byte offset, width and value. -/
def recBytes (l : List (Nat × Nat × Nat)) : BitVec 1536 :=
  BitVec.ofNat 1536 (l.foldl (fun a p => a + ((p.2.2 % 2 ^ (8 * p.2.1)) <<< (8 * p.1))) 0)

/-- A field of a record. -/
def lrField (r : LRec) (off w : Nat) : Nat := (r.head.toNat >>> (8 * off)) % 2 ^ (8 * w)
def lrRecno (r : LRec) : Nat := lrField r 8 8
def lrTyp (r : LRec) : Nat := lrField r 1 1
def lrEnergies (r : LRec) : List Nat := (List.range 4).map fun k => lrField r (44 + 8 * k) 8

/-- Types that are signed (R541). -/
def signedType (t : Nat) : Bool := [2, 4, 5, 6, 8, 9, 0x0B, 0x0C].contains t

/-- The digest of a record (R542). -/
def lrDigest (r : LRec) : BitVec 256 := sha256 (bytesOf r.head.toNat 0 192)

/-- FLAGS of a record the leaf writes (R540). -/
def Leaf.recFlags (L : Leaf) (typ : Nat) (unclean : Bool) : Nat :=
  let G := L.ldg
  bit (signedType typ) + 2 * bit (L.on ASH_STAT_TAINT) + 4 * bit (decide (0 < G.gap)) + 8 * bit G.timeValid +
    16 * bit unclean + 32 * bit (G.auxUnmetered || !L.auxMetered) + 64 * bit G.sat + 128 * bit G.standin +
    256 * bit (L.on LDG_STAT_TEST_KEY)

/-- A record put into the ring as the newest of the chain (R539, R542, R545). -/
def Leaf.storeRecord (L : Leaf) (r : LRec) (pending : Bool) : Leaf :=
  let n := (lrRecno r)
  let L := (L.put LDG_HEAD_RECNO n).bump LDG_CNT_RECORDS
  let L := if signedType (lrTyp r) then L.put LDG_CAPST_RECNO n else L
  let L := L.put LDG_STAT_FREE (L.get LDG_STAT_FREE - 1) |>.put LDG_STAT_ARCH_LAG (min 65535 (L.get LDG_STAT_ARCH_LAG + 1))
  let L := if pending then L.bump LDG_STAT_SIGN_PENDING else L
  L.onLdg fun G => { G with
    ring := G.ring ++ [{ rec_ := r, pending := pending }]
    lastDigest := (lrDigest r), chainE := (lrEnergies r) }

/-- A record written by the LEAD leaf (R538 to R545): none with no slot free, no MINUTE with fewer than 64 free.
`recno`, `prev` and `energies` are those of the chain but for a GENESIS. -/
def Leaf.writeRecordAs (L : Leaf) (typ : Nat) (unclean : Bool) (recno : Nat) (prev : BitVec 256)
    (extra : List (Nat × Nat × Nat)) : Leaf :=
  let free := L.get LDG_STAT_FREE
  if L.role != .lead then L
  else if free = 0 then L.stick (ldgFlag 2)
  else if typ = 1 ∧ free < 64 then L
  else
    let G := L.ldg
    let L := if 0 < G.gap then L.stick (ldgFlag 7) else L
    let vm := if G.vN = 0 then 0 else (Config.rnd (G.vSum / (G.vN : Nat) * 10)).toNat
    let head := recBytes ([(0, 1, 1), (1, 1, typ), (2, 2, L.recFlags typ unclean), (4, 4, L.get LDG_SESS_SESSION),
      (8, 8, recno), (16, 6, L.count.toNat), (22, 1, bit (L.on LDG_STAT_TEST_KEY)), (23, 1, L.id.num),
      (24, 4, L.get CRS_EPOCH_EPOCH), (28, 6, G.gptp), (36, 8, L.get LDG_PACK_PACK_ID), (44, 8, L.energy 0),
      (52, 8, L.energy 1), (60, 8, L.energy 2), (68, 8, L.energy 3), (76, 4, min G.gap (2 ^ 32 - 1)), (80, 2, min vm 65535),
      (160, 32, digestLE prev)] ++ extra)
    let L := L.storeRecord { head := head, sig := 0 } (signedType typ)
    L.onLdg fun G => { G with
      gap := 0, vSum := 0, vN := 0, sat := false, standin := false, auxUnmetered := false }

/-- The next record of the chain. -/
def Leaf.writeRecord (L : Leaf) (typ : Nat) (extra : List (Nat × Nat × Nat) := []) (unclean : Bool := false) : Leaf :=
  L.writeRecordAs typ unclean (L.get LDG_HEAD_RECNO + 1) L.ldg.lastDigest extra

/-- A session closed with its end reason (R537, R541). -/
def Leaf.closeSession (L : Leaf) (endReason : Nat) : Leaf :=
  let kind := L.get LDG_SESS_KIND
  if kind = 0 ∨ L.role ≠ .lead then L
  else
    let equiv := (Config.rnd (L.chg.equiv / 160000)).toNat
    let charge : List (Nat × Nat × Nat) := if kind = 2 then
        [(88, 8, L.ldg.sessE.floor.toNat), (96, 4, equiv), (100, 2, min 65535 L.ldg.sessLim)] else []
    let L := L.writeRecord 4 ([(84, 1, kind), (85, 1, endReason)] ++ charge)
    (L.put LDG_SESS_KIND 0).put LDG_SESS_SESSION 0

/-- A session opened, 1 drive or 2 charge, with the generation one higher (R537). -/
def Leaf.openSession (L : Leaf) (kind : Nat) : Leaf :=
  if L.role != .lead then L
  else
    let g := (L.ldg.gen + 1) % 2 ^ 32
    let L := (L.put LDG_SESS_SESSION g).put LDG_SESS_KIND kind
    let L := L.onLdg fun G => { G with gen := g, sessE := 0, sessLim := 0 }
    L.writeRecord 3 [(84, 1, kind)]

/-- A charge session opens: the drive session in force closes at the same course (R537). -/
def Leaf.openCharge (L : Leaf) : Leaf :=
  if L.get LDG_SESS_KIND = 2 then L else (L.closeSession 0).openSession 2

/-- A charge session closes: a drive session opens again (R537). -/
def Leaf.closeCharge (L : Leaf) (endReason : Nat) : Leaf :=
  if L.get LDG_SESS_KIND = 2 then (L.closeSession endReason).openSession 1 else L

/-- The TAKEOVER record of a new LEAD leaf (R443, R538). -/
def Leaf.recordTakeover (L : Leaf) (former cause : Nat) : Leaf :=
  L.writeRecord 6 [(84, 1, former), (85, 1, cause), (88, 8, L.ldg.lastRx)]

/-- The METROLOGY record of a committed change (R538, R541). -/
def Leaf.recordMetrology (L : Leaf) (calBefore packBefore : Nat) : Leaf :=
  L.writeRecord 9 [(84, 8, calBefore), (92, 8, (L.word LDG_CAL).toNat), (100, 8, packBefore),
    (108, 2, L.get LNK_SCALE_FS_BATT), (110, 2, L.get LNK_SCALE_FS_IBATT), (112, 2, L.get CHG_SCALE_FS_VCO),
    (114, 2, L.get CHG_SCALE_FS_ICO), (116, 2, L.get LNK_ASCALE_FS_VAUX), (118, 2, L.get LNK_ASCALE_FS_IAUX)]

/-- The UPDATE record (R538, R541): security and feature versions of leaf 0 and leaf 1. -/
def Leaf.recordUpdate (L : Leaf) (s0 f0 s1 f1 : Nat) (confirm : Bool) : Leaf :=
  L.writeRecord 0x0A [(84, 4, s0), (88, 4, f0), (92, 4, s1), (96, 4, f1), (100, 1, bit confirm)]

/-- The PARK record (R538). -/
def Leaf.recordPark (L : Leaf) : Leaf := L.writeRecord 8

/-- A carry word brought up to date (R544). -/
def Leaf.writeCarry (L : Leaf) : Leaf :=
  let w : CarryWord := { energies := L.energies, gap := L.ldg.gap, recno := L.get LDG_HEAD_RECNO, course := L.count }
  L.onLdg fun G =>
    if G.carryNextB then { G with carryB := w, carryNextB := false, carryAt := L.count }
    else { G with carryA := w, carryNextB := true, carryAt := L.count }

/-- The BOOT record, or a GENESIS where no verified chain is held (R547). `ok` says that the leaf's chain verified;
`highest` is the highest RECNO found. -/
def Leaf.recordBoot (L : Leaf) (ok : Bool) (highest : Nat) (unclean : Bool) (epochBefore : Nat) : Leaf :=
  let L := if unclean then L.stick (ldgFlag 1) else L
  let empty := L.ldg.ring.isEmpty && L.ldg.archive.isEmpty
  if ok && !empty then
    -- the energy the carry words hold beyond the last record
    let w := if L.ldg.carryA.recno = L.get LDG_HEAD_RECNO ∧ L.ldg.carryB.recno ≠ L.get LDG_HEAD_RECNO then L.ldg.carryA
      else if L.ldg.carryB.recno = L.get LDG_HEAD_RECNO ∧ L.ldg.carryA.recno ≠ L.get LDG_HEAD_RECNO then L.ldg.carryB
      else if isAfter L.ldg.carryA.course.toNat L.ldg.carryB.course.toNat 48 then L.ldg.carryB else L.ldg.carryA
    let used := decide (w.recno = L.get LDG_HEAD_RECNO)
    let L := (List.range 4).foldl (fun L k =>
      L.put LDG_E_COUNT (max (L.ldg.chainE.getD k 0) (if used then w.energies.getD k 0 else 0)) k) L
    let last := L.get LDG_HEAD_RECNO
    L.writeRecord 7 [(84, 1, bit used), (88, 8, last), (96, 4, epochBefore)] unclean
  else
    let reason := if empty then 1 else if highest = 0 then 2 else 3
    let prev := if empty then 0 else L.ldg.lastDigest
    let L := L.stick (ldgFlag 0)
    let L := (List.range 4).foldl (fun L k => L.put LDG_E_COUNT (if empty then 0 else L.ldg.chainE.getD k 0) k) L
    L.writeRecordAs 5 unclean (highest + 1) 0 [(84, 1, reason), (88, 8, highest), (96, 32, digestLE prev)]

/-- A record the FOLLOW leaf receives: stored unchanged, its own totals kept on, and its interval energies compared
(R443, R536, R546). -/
def Leaf.takeRecord (L : Leaf) (r : LRec) : Leaf :=
  if (lrRecno r) ≤ L.get LDG_HEAD_RECNO then L
  else
    let at_ := BitVec.ofNat 48 ((lrField r 16 6))
    let G := L.ldg
    let mine := ((G.trail.filter fun t => !(isAfter at_.toNat t.1.toNat 48)).getLast?.map (·.2)).getD G.base
    let step := fun (a : Leaf × Bool) (k : Nat) =>
      let own := mine.getD k 0 - G.base.getD k 0
      let theirs := (lrEnergies r).getD k 0 - G.chainE.getD k 0
      let diff := if own ≤ theirs then theirs - own else own - theirs
      if decide (L.get LDG_CTRL_XCHK_PCT * theirs + 3600 * 65536 * 10000 < 10000 * diff) && (lrTyp r) != 5 then
        ((a.1.differEvent 16 k own theirs at_).bump LDG_CNT_XCHK, true)
      else a
    let (L, bad) := (List.range 4).foldl step (L, false)
    let L := if bad && G.xchkRun then L.stick (ldgFlag 6) else L
    -- totals: those of the record plus what was metered since
    let L := (List.range 4).foldl (fun L k =>
      L.put LDG_E_COUNT (((lrEnergies r).getD k 0 + (L.energy k - mine.getD k 0)) % 2 ^ 64) k) L
    let shift := fun (es : List Nat) => (List.range 4).map fun k => (lrEnergies r).getD k 0 + (es.getD k 0 - mine.getD k 0)
    let L := L.storeRecord r false
    let L := if (lrTyp r) = 3 then (L.put LDG_SESS_SESSION ((lrField r 4 4))).put LDG_SESS_KIND ((lrField r 84 1))
      else if (lrTyp r) = 4 then (L.put LDG_SESS_SESSION 0).put LDG_SESS_KIND 0 else L
    L.onLdg fun G => { G with
      xchkRun := bad, base := (lrEnergies r), lastRx := (lrRecno r), gen := max G.gen ((lrField r 4 4))
      trail := (G.trail.filter fun t => isAfter at_.toNat t.1.toNat 48).map fun t => (t.1, shift t.2)
      gap := 0, vSum := 0, vN := 0, sat := false, standin := false, auxUnmetered := false }

/-- A superseded record archived apart from the chain (R548). -/
def Leaf.takeSuperseded (L : Leaf) (r : LRec) : Leaf :=
  (L.stick (ldgFlag 8)).onLdg fun G => { G with superseded := G.superseded ++ [r] }

/-! ### Battery history -/

/-- The course-count value of a BMS quantity that has arrived and is not stale (R555). -/
def Leaf.bms (L : Leaf) (qty idx : Nat) : Option Int :=
  let k := 1024 * qty + idx
  if L.his.stale.contains k then none else (kvFind L.his.bms k).map (·.1)

/-- All values of a per-cell or per-sensor quantity. -/
def Leaf.bmsAll (L : Leaf) (qty : Nat) : List (Nat × Int) :=
  L.his.bms.filterMap fun e =>
    if e.1 / 1024 = qty ∧ L.his.stale.contains e.1 = false then some (e.1 % 1024, e.2.1) else none

def maxInt (l : List Int) : Option Int := l.foldl (fun a x => some (match a with
  | none => x
  | some y => max x y)) none
def minInt (l : List Int) : Option Int := l.foldl (fun a x => some (match a with
  | none => x
  | some y => min x y)) none

/-- The hottest cell, 0.01 °C. -/
def Leaf.hottestCell (L : Leaf) : Option Int := maxInt ((L.bmsAll 6).map (·.2))

/-- A residence count raised. -/
def His.count (H : His) (off : Nat) : His := { H with bins := kvPut H.bins off ((kvFind H.bins off).getD 0 + 1) }

/-- A bin index held within a number of bins. -/
def binOf (n : Nat) (x : Rat) : Nat := (clampInt 0 ((n : Int) - 1) x.floor).toNat

/-- A cell's statistics over the seconds of an hour: minimum, maximum, sum, count. -/
def His.stat (H : His) (k : Nat) (v : Int) : His :=
  { H with stats := kvPut H.stats k (match kvFind H.stats k with
      | none => (v, v, v, 1)
      | some (a, b, s, n) => (min a v, max b v, s + v, n + 1)) }

/-- What a course adds to the hour (R555 to R557). -/
def Leaf.sealHistory (L : Leaf) : Leaf :=
  match L.meanOf 14, L.meanOf 13 with
  | some mi, some mv =>
    let i := q31 mi * L.get LNK_SCALE_FS_IBATT
    let v := q31 mv * L.get LNK_SCALE_FS_BATT
    let lo : Rat := L.get LNK_LIM_BATT_MIN
    let hi : Rat := L.get LNK_LIM_BATT_MAX
    let ah := ratAbs i / (160000 * 3600)
    let vb := if lo < hi then binOf 256 ((v - lo) / (hi - lo) * 256) else 0
    let H := (L.his.count (256 + 4 * binOf 256 ((q31 mi + 1) * 128))).count (1280 + 4 * vb)
    let inn := if i < 0 then ah else 0
    let out := if i < 0 then 0 else ah
    let H : His := { H with
      ahIn := H.ahIn + inn, ahOut := H.ahOut + out, hourIn := H.hourIn + inn, hourOut := H.hourOut + out
      dayIn := H.dayIn + inn, dayOut := H.dayOut + out }
    let seeded := L.on HIS_STAT_SEEDED
    let stale := L.on HIS_STAT_STALE
    let H : His := { H with unseeded := H.unseeded || !seeded, wasStale := H.wasStale || (seeded && stale) }
    let soc := L.bms 1 0
    let hot := L.hottestCell
    let H : His := match seeded, soc, hot with
      | true, some s, some t =>
        let tb := binOf 128 ((t : Rat) / 100 + 40)
        let sb := binOf 100 ((s : Rat) / 100)
        let H : His := (((H.count (2304 + 4 * tb)).count (2816 + 4 * sb)).count
          (3328 + 4 * (16 * binOf 16 ((s : Rat) / 625) + binOf 16 (((t : Rat) / 100 + 40) / 8))))
        let cold := minInt ((L.bmsAll 6).map (·.2))
        let vs := (L.bmsAll 5).map (·.2)
        let spread := (maxInt vs).getD 0 - (minInt vs).getD 0
        let mx := fun (a : Option Int) (x : Int) => some (match a with
          | none => x
          | some y => max x y)
        let mn := fun (a : Option Int) (x : Int) => some (match a with
          | none => x
          | some y => min x y)
        let H : His := { H with
          socMin := mn H.socMin s, socMax := mx H.socMax s, hot := mx H.hot t
          cold := mn H.cold (cold.getD t), spread := max H.spread spread, hourN := H.hourN + 1
          hourStress := H.hourStress + bit (decide (9000 < s) && decide (3500 < t)) }
        H
      | _, _, _ => H
    -- the per-cell part counts seconds
    let H : His := if L.count.toNat % 160000 = 0 ∧ seeded = true then
        let H : His := (L.bmsAll 5).foldl (fun (H : His) c =>
          (H.count (16384 + 256 * c.1 + 2 * binOf 64 (((c.2 : Rat) - 2500) / 10))).stat (2 * c.1) c.2) H
        (L.bmsAll 6).foldl (fun (H : His) c =>
          (H.count (16384 + 256 * c.1 + 128 + 2 * binOf 32 (((c.2 : Rat) / 100 + 40) / 4))).stat (2 * c.1 + 1) c.2) H
      else H
    -- resistance: the window of 160 courses before a change of more than 5% of RSTEP
    let rstep : Rat := L.get HIS_CTRL_RSTEP
    let jump := match H.recent with
      | (p, _) :: _ => decide (rstep / 20 < ratAbs (i - p))
      | [] => false
    let H : His := if jump && H.step.isNone && decide (160 ≤ H.recent.length) then
        let is := H.recent.map (·.1)
        let n : Rat := 160
        let mxI := is.foldl max (is.headD 0)
        let mnI := is.foldl min (is.headD 0)
        { H with step := some (L.count, is.foldl (· + ·) 0 / n, (H.recent.map (·.2)).foldl (· + ·) 0 / n,
            decide (mxI - mnI ≤ rstep / 20)) }
      else H
    { L with his := { H with recent := ((i, v) :: H.recent).take 160 } }
  | _, _ => L.onHis fun H => { H with recent := [] }

/-- The registers of the history (R563). -/
def Leaf.showHistory (L : Leaf) : Leaf :=
  let cap := L.get HIS_CTRL_CAP_AH
  let H := L.his
  let efc := if cap = 0 then 0 else ((H.ahIn + H.ahOut) / (2 * cap : Nat)).floor.toNat
  L.put HIS_STAT_EFC (min 65535 efc) |>.put HIS_STAT_DAYS (min 16383 H.days.length) |>.put HIS_STAT_HOURS H.hours.length
    |>.put HIS_CUM_AH_IN (H.ahIn * 10).floor.toNat |>.put HIS_CUM_AH_OUT (H.ahOut * 10).floor.toNat

/-- The median of numbers. -/
def medianNat (l : List Nat) : Nat := (Config.rnd (median (l.map Int.ofNat))).toNat

/-- The flags of an hour (R556). -/
def His.hourFlags (H : His) (partialHour taint : Bool) : Nat :=
  bit partialHour + 2 * bit H.unseeded + 4 * bit H.wasStale + 8 * bit taint

/-- Bytes of a history partition of 40 GiB. -/
def hisPartition : Nat := 40 * 2 ^ 30

/-- An hour record closed (R556). -/
def Leaf.closeHour (L : Leaf) (partialHour : Bool) : Leaf :=
  let H := L.his
  let cells := L.get HIS_CTRL_CELLS
  let taint := L.on ASH_STAT_TAINT
  let header := Config.hourHeader ([(H.hours.length : Int), (H.from_.toNat : Int), (L.count.toNat : Int),
    (L.get CRS_EPOCH_EPOCH : Int), (L.ldg.gptp : Int), (H.hourFlags partialHour taint : Int), (cells : Int)] ++
    L.energies.map Int.ofNat ++ [(H.hourIn * 10000).floor, (H.hourOut * 10000).floor])
  let summary := Config.hourSummary [((H.hourIn + H.hourOut) * 10000).floor, H.socMin.getD 0, H.socMax.getD 0,
    H.hot.getD 0, H.cold.getD 0, H.spread]
  let w := fun (off : Nat) => if off < 16384 then 4 else 2
  let bins := (H.bins.filter fun b => decide (b.1 < 16384 + 256 * cells)).map fun b => (b.1, w b.1, b.2)
  let ests := (List.zipIdx H.estimates).map fun e => (4352 + 8 * e.2, 8, e.1.toNat)
  let chs := (List.zipIdx (H.changes.take 512)).map fun e => (8448 + 8 * e.2, 8, e.1.1 + (e.1.2 <<< 48))
  let stats := (List.range cells).map fun k =>
    let f := fun (j : Nat) => match kvFind H.stats j with
      | some (a, b, s, n) => [a, b, s / max 1 (n : Int)]
      | none => []
    (16384 + 256 * k + 192, 32, (Config.cellStats (f (2 * k) ++ f (2 * k + 1))).toNat)
  let hour : Hour := { index := H.hours.length, len := 16384 + 256 * cells
                       items := [(0, 256, header.toNat), (12544, 3840, summary)] ++ bins ++ ests ++ chs ++ stats
                       flagged := H.unseeded || H.wasStale, seeded := !H.unseeded, stress := H.hourStress }
  let used := H.hours.foldl (fun a h => a + h.len) 0
  let full := decide (hisPartition < used + hour.len)
  let L := if full then L.stick (hisFlag 2) else L
  (L.onHis fun H => { H with
    hours := if full then H.hours else H.hours ++ [hour]
    dayHours := H.dayHours + 1, dayFlagged := H.dayFlagged + bit hour.flagged
    taintHours := H.taintHours + bit taint, faultChanges := H.faultChanges + H.changes.length
    from_ := L.count, bins := [], estimates := [], changes := [], stats := [], unseeded := false, wasStale := false
    hourIn := 0, hourOut := 0, socMin := none, socMax := none, hot := none, cold := none, spread := 0, hourN := 0
    hourStress := 0, closedAt := some L.count }).showHistory

/-- 32 bytes of a content given as byte offset, width and value, from byte `32 i`. -/
def itemsChunk (items : List (Nat × Nat × Nat)) (i : Nat) : Nat :=
  (items.foldl (fun a p =>
    if p.1 < 32 * i + 32 ∧ 32 * i < p.1 + p.2.1 then
      let v := p.2.2 % 2 ^ (8 * p.2.1)
      a + (if 32 * i ≤ p.1 then v <<< (8 * (p.1 - 32 * i)) else v >>> (8 * (32 * i - p.1)))
    else a) 0) % 2 ^ 256

/-- The bytes of an hour record. -/
def Hour.bytes (h : Hour) : List Nat :=
  (List.range (h.len / 32)).flatMap fun i => bytesOf (itemsChunk h.items i) 0 32

/-- The numbers of a day summary, and its 256 bytes (R558; log entry 15). -/
def dayNumbers (d : DaySum) : List Int :=
  [(d.day : Int), d.ahIn, d.ahOut, d.efc, match d.res with
    | some r => (r : Int)
    | none => -1, d.steps, d.hours, d.flagged, match d.soh with
    | some r => (r : Int)
    | none => -1]
def daySumBytes (d : DaySum) : BitVec 2048 := Config.daySummary (dayNumbers d)

/-- A tie unit sent, with the next sequence (R431, R432). Units that need an acknowledgement are kept. -/
def Leaf.sendUnit (L : Leaf) (typ : Nat) (payload : List Nat) (ack : Bool := false) : Leaf :=
  if L.cut then L
  else
    let q := L.tie.txSeq + 1
    let u : Unacked := { typ := typ, seq := q, sent := L.count, payload := payload }
    { L with
      out := L.out ++ [.tie typ q payload]
      tie := { L.tie with txSeq := q, unacked := if ack then L.tie.unacked ++ [u] else L.tie.unacked } }

/-- A history day closed (R558): the LEAD leaf sends and anchors it. -/
def Leaf.closeDay (L : Leaf) : Leaf :=
  let H := L.his
  let cap := L.get HIS_CTRL_CAP_AH
  let efc := if cap = 0 then 0 else ((H.ahIn + H.ahOut) * 100 / (2 * cap : Nat)).floor.toNat
  let d : DaySum := { day := H.days.length, ahIn := (H.dayIn * 10).floor.toNat, ahOut := (H.dayOut * 10).floor.toNat
                      efc := efc, res := if H.dayRes.isEmpty then none else some (medianNat H.dayRes)
                      steps := H.dayRes.length, hours := H.dayHours, flagged := H.dayFlagged
                      soh := (L.bms 2 0).map Int.toNat }
  let hs := (H.hours.reverse.take H.dayHours).reverse
  let dig := sha256 (hs.flatMap Hour.bytes ++ bytesOf (daySumBytes d).toNat 0 256)
  let L := (L.onHis fun H => { H with
    days := H.days ++ [d], dayHours := 0, dayFlagged := 0, dayRes := [], dayIn := 0, dayOut := 0, dayDigest := dig }).showHistory
  if L.role != .lead then L
  else
    let L := L.sendUnit 0x17 [d.day, dig.toNat, (daySumBytes d).toNat]
    L.writeRecord 0x0B [(84, 4, d.day), (88, 32, digestLE dig), (120, 4, d.hours), (124, 1, L.id.num)]

/-- The LEAD leaf's digest at the FOLLOW leaf (R558). -/
def Leaf.takeDigest (L : Leaf) (d : DaySum) : Leaf :=
  let L := L.onHis fun H => { H with baseDay := some d }
  match L.his.days.find? fun x => x.day == d.day with
  | none => L
  | some m =>
    let far := fun (a b : Nat) =>
      let diff := if a ≤ b then b - a else a - b
      decide (b * 5 < 1000 * diff)
    if far m.ahIn d.ahIn || far m.ahOut d.ahOut then L.raise (hisFlag 4) else L

/-- A day summary taken as the base of the cumulative values at a takeover (R558). -/
def Leaf.historyTakeover (L : Leaf) : Leaf :=
  match L.his.baseDay with
  | none => L
  | some d =>
    let cap : Rat := L.get HIS_CTRL_CAP_AH
    let total := (d.efc : Rat) / 100 * 2 * cap
    (L.onHis fun H => if cap = 0 then H else { H with
      ahOut := total / 2 + H.dayOut, ahIn := total / 2 + H.dayIn, baseDay := none }).showHistory

/-- A frame field by its map entry (R554): start bit and length in the byte order named. -/
def mapRaw (e : MapEntry) (data : List Byte) : Int :=
  let bitAt := fun (k : Nat) => ((data.getD (k / 8) 0).getLsbD (k % 8)).toNat
  let raw := if e.big then
      -- big-endian: the start bit is the most significant; the next bit lies below it, then in the next byte
      ((List.range e.len).foldl (fun (a : Nat × Nat) _ =>
        (2 * a.1 + bitAt a.2, if a.2 % 8 = 0 then a.2 + 15 else a.2 - 1)) (0, e.start)).1
    else (List.range e.len).foldl (fun a k => a + (bitAt (e.start + k)) * 2 ^ k) 0
  if e.sgn then signed e.len raw else raw

/-- The decoded value: raw × SCALE + OFFSET. -/
def mapValue (e : MapEntry) (data : List Byte) : Int := Config.rnd ((mapRaw e data * e.scale : Int) / (65536 : Rat)) + e.offset

/-- A map is admissible (R554): quantity codes, cell indexes, lengths. -/
def mapOk (cells : Nat) (m : List MapEntry) : Bool :=
  decide (m.length ≤ 1024) && m.all fun e =>
    decide (1 ≤ e.qty) && decide (e.qty ≤ 7) && decide (1 ≤ e.len) && decide (e.len ≤ 32) &&
      (decide (e.qty < 5) || decide (6 < e.qty) || decide (e.idx < cells)) && decide (e.start + e.len ≤ 512)

/-- STALE and SEEDED from what has arrived (R555). -/
def Leaf.judgeBms (L : Leaf) : Leaf :=
  let have_ := fun (q : Nat) => L.his.bms.any fun e => e.1 / 1024 == q
  let L := if have_ 1 && have_ 5 then L.put HIS_STAT_SEEDED 1 else L
  L.put HIS_STAT_STALE (bit (!L.his.stale.isEmpty || !have_ 1))

/-- A frame from RXQ0 of CAN0 taken by the map (R554, R555). -/
def Leaf.bmsFrame (L : Leaf) (ide : Bool) (id : Nat) (data : List Byte) : Leaf :=
  let es := L.his.map.filter fun e => e.id == id && e.ide == ide && decide (e.start + e.len ≤ 8 * data.length)
  if es.isEmpty then L
  else
    let L := es.foldl (fun L e =>
      let k := 1024 * e.qty + (if e.qty = 5 ∨ e.qty = 6 then e.idx else 0)
      let v := mapValue e data
      let old := (kvFind L.his.bms k).map (·.1)
      L.onHis fun H => { H with
        bms := kvPut H.bms k (v, L.count), stale := H.stale.filter (· != k)
        changes := if e.qty = 7 ∧ old ≠ some v ∧ H.changes.length < 512 then
            H.changes ++ [(L.count.toNat, unsigned 16 v)] else H.changes }) L
    (L.bump HIS_CNT_MAP_FRAMES).judgeBms

/-- A quantity stale (R555). -/
def Leaf.markStale (L : Leaf) (k : Nat) : Leaf :=
  if L.his.stale.contains k then L
  else ((L.bump HIS_CNT_STALE_EVENTS).stick (hisFlag 0)).onHis fun H => { H with stale := k :: H.stale }

/-- Every quantity stale: a lasting loss of CAN0 (R518, R555). -/
def Leaf.allStale (L : Leaf) : Leaf :=
  ((L.his.bms.foldl (fun L e => L.markStale e.1) L).stick (hisFlag 0)).judgeBms

/-! ### The grade report -/

/-- A qualified day (R559). -/
def dayQualified (d : DaySum) : Bool := decide (3 ≤ d.steps) && decide (20 + d.flagged ≤ d.hours)

/-- Criteria of the grade (R559): resistance growth in 0.01%, state of health in 0.01%, stress time in 0.01%, fault
changes, coverage in 0.01%; `none` where the history is ungraded. -/
def Leaf.gradeCriteria (L : Leaf) : Option (Int × Int × Int × Nat × Int) :=
  let H := L.his
  let q := H.days.filter dayQualified
  let rs := q.filterMap (·.res)
  let hours := H.hours.length
  let good := (H.hours.filter fun h => !h.flagged).length
  let cover : Int := if hours = 0 then 0 else (good * 10000 / hours : Nat)
  if q.length < 200 ∨ cover < 5000 then none
  else
    let a := median ((rs.take 100).map Int.ofNat)
    let b := median ((rs.reverse.take 100).map Int.ofNat)
    let growth := if a = 0 then 0 else Config.rnd ((b - a) / a * 10000)
    let seeded := H.hours.filter (·.seeded)
    let st := seeded.foldl (fun a h => a + h.stress) 0
    let stress : Int := if seeded.isEmpty then 0 else (st * 10000 / (seeded.length * 576000000) : Nat)
    some (growth, ((L.bms 2 0).getD 0), stress, H.faultChanges, cover)

/-- The grade: 1 A, 2 B, 3 C, 4 D, 0 U (R559). -/
def gradeOf : Option (Int × Int × Int × Nat × Int) → Nat
  | none => 0
  | some (g, h, st, f, c) =>
    if g ≤ 2000 ∧ 8500 ≤ h ∧ st ≤ 500 ∧ f = 0 ∧ 9800 ≤ c then 1
    else if g ≤ 4000 ∧ 8000 ≤ h ∧ st ≤ 1000 ∧ f ≤ 10 ∧ 9500 ≤ c then 2
    else if g ≤ 7000 ∧ 7000 ≤ h ∧ st ≤ 2000 ∧ f ≤ 100 ∧ 9000 ≤ c then 3 else 4

/-- The report's 1,024 bytes (R559; log entry 15). -/
def Leaf.report (L : Leaf) : BitVec 8192 :=
  let H := L.his
  let c := L.gradeCriteria
  let cs : List Int := match c with
    | none => []
    | some (g, h, st, f, v) => [g, h, st, (f : Int), v]
  Config.gradeReport (cs ++ [(gradeOf c : Int), ((H.days.head?.map (·.day)).getD 0 : Nat), ((H.days.getLast?.map (·.day)).getD 0 : Nat),
    (H.hours.length : Int), (H.ahIn * 10).floor, (H.ahOut * 10).floor, (L.get HIS_STAT_EFC : Int)] ++
    L.energies.map Int.ofNat ++ [(L.get LDG_HEAD_RECNO : Int), (H.taintHours : Int)])

/-! ### Service requests -/

/-- A record of the chain the leaf holds and can read (R545). -/
def Leaf.findRecord (L : Leaf) (n : Nat) : Option LRec :=
  if L.ldg.lost.contains n then none
  else match L.ldg.ring.find? fun r => lrRecno r.rec_ == n with
    | some r => some r.rec_
    | none => L.ldg.archive.find? fun r => (lrRecno r) == n

/-- 32 bytes of a record. -/
def recChunk (r : LRec) (i : Nat) : Nat := ((r.head.toNat + (r.sig.toNat <<< 1536)) >>> (256 * i)) % 2 ^ 256

/-- Hours of a history request. -/
def Leaf.hoursOf (L : Leaf) (first count : Nat) : List Hour :=
  L.his.hours.filter fun h => decide (first ≤ h.index) && decide (h.index < first + count)

/-- Length of a response (R550). -/
def Leaf.svcLen (L : Leaf) : SvcKind → Nat
  | .records _ n => 256 * n
  | .status => 104
  | .keys => 4 + Config.certLen 0 + Config.certLen 1
  | .superseded f n => 256 * ((L.ldg.superseded.drop f).take n).length
  | .history f n days => if days then 256 * ((L.his.days.drop f).take n).length
      else (L.hoursOf f n).foldl (fun a h => a + h.len) 0
  | .grade => 1024

/-- LEDGER_STATUS (R550). -/
def Leaf.statusBytes (L : Leaf) : Nat :=
  let head := L.findRecord (L.get LDG_HEAD_RECNO)
  let es := (head.map lrEnergies).getD [0, 0, 0, 0]
  let at_ := (head.map fun r => (lrField r 16 6)).getD 0
  [(0, (L.word LDG_HEAD).toNat), (8, (L.word LDG_CAPST).toNat), (16, (L.word LDG_SESS).toNat),
    (24, (L.word LDG_STAT).toNat), (32, es.getD 0 0), (40, es.getD 1 0), (48, es.getD 2 0), (56, es.getD 3 0),
    (64, digestLE L.ldg.lastDigest), (96, at_)].foldl (fun a p => a + (p.2 <<< (8 * p.1))) 0

/-- Byte `k` of the two certificates with their lengths (R550). -/
def certAt (k : Nat) : Nat :=
  let n := Config.certLen 0
  if k < 2 then Config.certLen 0 / 256 ^ k % 256 else if k < 2 + n then Config.certByte 0 (k - 2)
  else if k < 4 + n then Config.certLen 1 / 256 ^ (k - 2 - n) % 256 else Config.certByte 1 (k - 4 - n)

/-- 32 bytes of a response (R550, R551). -/
def Leaf.svcChunk (L : Leaf) (i : Nat) : SvcKind → Nat
  | .records f _ => match L.findRecord (f + i / 8) with
    | some r => recChunk r (i % 8)
    | none => 2 ^ 256 - 1
  | .status => (L.statusBytes >>> (256 * i)) % 2 ^ 256
  | .keys => (List.range 32).foldl (fun a k => a + (certAt (32 * i + k) <<< (8 * k))) 0
  | .superseded f _ => match (L.ldg.superseded.drop f)[i / 8]? with
    | some r => recChunk r (i % 8)
    | none => 0
  | .history f n days =>
    if days then match (L.his.days.drop f)[i / 8]? with
      | some d => ((daySumBytes d).toNat >>> (256 * (i % 8))) % 2 ^ 256
      | none => 0
    else
      ((L.hoursOf f n).foldl (fun (a : Nat × Nat) h =>
        let k := h.len / 32
        (if a.1 ≤ i ∧ i < a.1 + k then itemsChunk h.items (i - a.1) else a.2, a.1 + k) |> fun p => (p.2, p.1)) (0, 0)).2
  | .grade => (L.report.toNat >>> (256 * i)) % 2 ^ 256

/-- One part of a response: bytes 16 to 63 of its entry (R551). -/
def svcPart (r : SvcReq) (used : Nat) (refused last : Bool) (chunk : Nat) : BitVec 384 :=
  body [(16, 1, 1), (17, 1, r.op), (18, 2, r.hdr.tag), (20, 4, r.hdr.dseq.toNat), (24, 4, r.part),
    (28, 2, used + (bit refused <<< 14) + (bit last <<< 15)), (32, 32, chunk)]

/-- A part answered: an OR9 entry, or a datagram to the sender (R551, R552). -/
def Leaf.answerPart (L : Leaf) (r : SvcReq) (b : BitVec 384) : Leaf :=
  match r.net with
  | none => L.produce { ring := 9, isLocal := true, course := L.count, body := b }
  | some (port, _, _) => L.emitHost (.eth port 48 b.toNat)

/-- A class 3 slice of the services: the head request goes on by one part, at shedding level 0 (R543, R550, R551). -/
def Leaf.serveRequests (L : Leaf) : Leaf :=
  if L.get ASH_STAT_SHED ≠ 0 then L
  else match L.svc.queue with
    | [] => L
    | r :: rest =>
      if r.net.isNone && decide (64 ≤ queued L.hre.locQ 9) then L
      else
        let len := L.svcLen r.kind
        let n := (len + 31) / 32
        let last := decide (n ≤ r.part + 1)
        let used := if last then len - 32 * r.part else 32
        let L := L.answerPart r (svcPart r used false last (L.svcChunk r.part r.kind))
        { L with svc := { L.svc with queue := if last then rest else { r with part := r.part + 1 } :: rest } }

/-- A request accepted from IR2 (R480, R550): the LEAD leaf queues it, the FOLLOW leaf keeps what it consumed. -/
def Leaf.acceptSvc (L : Leaf) (h : Hdr) (op : Nat) (k : SvcKind) : Leaf :=
  if L.role == .lead then { L with svc := { L.svc with queue := L.svc.queue ++ [{ hdr := h, op := op, kind := k }] } }
  else { L with svc := { L.svc with consumed := L.svc.consumed ++ [h] } }

/-- Refused at a takeover (R480). -/
def Leaf.refuseConsumed (L : Leaf) : Leaf :=
  let L := L.svc.consumed.foldl (fun L h => L.complete h 0x0301) L
  { L with svc := { L.svc with consumed := [] } }

/-- The kind of a request, or the code and the byte of its refusal (R550). -/
def svcKindOf (op : Nat) (d : Slot) : Except (Nat × Nat) SvcKind :=
  match op with
  | 0x80 => let n := sl d 32 4
    if n = 0 ∨ 65536 < n then .error (0x0105, 32) else .ok (.records (sl d 24 8) n)
  | 0x81 => .ok .status
  | 0x82 => .ok .keys
  | 0x83 => .ok (.superseded (sl d 24 8) (sl d 32 4))
  | 0x84 => let n := sl d 28 2
    if n = 0 ∨ 24 < n then .error (0x0105, 28) else .ok (.history (sl d 24 4) n (slBits d 30 1 0 0 == 1))
  | 0x85 => .ok .grade
  | _ => .error (0x0104, 16)

/-- What a leaf does with a request of IR2 that passed R470. -/
def Leaf.svcDesc (op : Nat) (d : Slot) (L : Leaf) (h : Hdr) : Leaf :=
  match svcKindOf op d with
  | .ok k => L.acceptSvc h op k
  | .error (c, off) => if L.role == .lead then L.complete h c 0 off else L

/-- READ_RECORDS (R545, R550): of the records named, `oneBad` have one archive copy uncorrectable and `bothBad` both. -/
def execReadRecords (l : LeafId) (d : Desc) (oneBad bothBad : List Nat) (s : State) : Done :=
  onLeaf s l fun L => L.readDesc 2 0x80 d fun L h =>
    let arch := fun (n : Nat) => L.ldg.archive.any fun r => (lrRecno r) == n
    let L := if oneBad.any arch then L.stick (ldgFlag 3) else L
    let lost := bothBad.filter arch
    let L := if lost.isEmpty then L
      else (L.stick (ldgFlag 4)).onLdg fun G => { G with lost := G.lost ++ lost }
    Leaf.svcDesc 0x80 d.bytes L h

/-- LEDGER_STATUS (R550). -/
def execLedgerStatus (l : LeafId) (d : Desc) (s : State) : Done :=
  onLeaf s l fun L => L.readDesc 2 0x81 d (Leaf.svcDesc 0x81 d.bytes)

/-- GET_KEYS (R550). -/
def execGetKeys (l : LeafId) (d : Desc) (s : State) : Done :=
  onLeaf s l fun L => L.readDesc 2 0x82 d (Leaf.svcDesc 0x82 d.bytes)

/-- READ_SUPERSEDED (R550). -/
def execReadSuperseded (l : LeafId) (d : Desc) (s : State) : Done :=
  onLeaf s l fun L => L.readDesc 2 0x83 d (Leaf.svcDesc 0x83 d.bytes)

/-- READ_HISTORY (R550). -/
def execReadHistory (l : LeafId) (d : Desc) (s : State) : Done :=
  onLeaf s l fun L => L.readDesc 2 0x84 d (Leaf.svcDesc 0x84 d.bytes)

/-- A grade report asked for (R559): built after those asked for before it. -/
def Leaf.startGrade (L : Leaf) (r : SvcReq) : Leaf :=
  L.onHis fun H => { H with gradeAt := H.gradeAt.or (some L.count), gradeReqs := H.gradeReqs ++ [r] }

/-- GRADE (R550, R559). -/
def execGrade (l : LeafId) (d : Desc) (s : State) : Done :=
  onLeaf s l fun L => L.readDesc 2 0x85 d fun L h =>
    if L.role == .lead then L.startGrade { hdr := h, op := 0x85, kind := .grade }
    else { L with svc := { L.svc with consumed := L.svc.consumed ++ [h] } }

/-- GRADE_COMPLETE (R559): the report is returned and anchored. -/
def execGradeComplete (l : LeafId) (s : State) : Done :=
  let L := s.leaf l
  guarded s (L.his.gradeAt.isSome && decide (L.get ASH_STAT_SHED = 0)) <|
    let L : Leaf := { L with svc := { L.svc with queue := L.svc.queue ++ L.his.gradeReqs.take 1 } }
    let sha := sha256 (bytesOf L.report.toNat 0 1024)
    let L := L.writeRecord 0x0C [(84, 32, digestLE sha), (116, 1, gradeOf L.gradeCriteria)]
    s.setLeaf l (L.onHis fun H => { H with
      gradeReqs := H.gradeReqs.drop 1, gradeAt := if (H.gradeReqs.drop 1).isEmpty then none else some L.count })

/-- NET_SERVICE_REQUEST (R552): a datagram to the leaf's agent, its payload being bytes 16 to 63 of a descriptor. -/
def execNetServiceRequest (l : LeafId) (port mac ip udp : Nat) (bytes : Slot) (s : State) : Done :=
  onLeaf s l fun L =>
    if !L.on LDG_CTRL_NET_EN || udp != L.get LDG_CTRL_NET_PORT || !L.carrying then L
    else
      let op := opcode bytes
      let h : Hdr := { ring := 2, want := false, target := 0, tag := 0, dseq := 0, effect := 0 }
      let net := some (port, mac, ip)
      let refuse := fun (c : Nat) =>
        let r : SvcReq := { hdr := h, op := op, kind := .status, net := net }
        L.answerPart r (svcPart r 2 true true c)
      match svcKindOf op bytes with
      | .error (c, _) => refuse c
      | .ok .grade =>
        if L.role == .lead then L.startGrade { hdr := h, op := op, kind := .grade, net := net } else refuse 0x0201
      | .ok k => { L with svc := { L.svc with queue := L.svc.queue ++ [{ hdr := h, op := op, kind := k, net := net }] } }

/-- MINUTE (R538, R539): at course c with c mod 576,000,000 = 0 an HOUR record, else with c mod 9,600,000 = 0 a MINUTE. -/
def execMinute (l : LeafId) (s : State) : Done :=
  let L := s.leaf l
  let c := L.count.toNat
  guarded s (L.role == .lead && decide (c % 9600000 = 0) && L.ldg.minuteAt != some L.count) <|
    let L := L.writeRecord (if c % 576000000 = 0 then 2 else 1)
    s.setLeaf l (L.onLdg fun G => { G with minuteAt := some L.count })

/-- The oldest record that awaits its signature, changed. -/
def signFirst (f : LStored → LStored) : List LStored → List LStored
  | [] => []
  | r :: t => if r.pending then f r :: t else r :: signFirst f t

/-- SIGNATURE_COMPLETE (R543): a signature computed, and whether its check passes; once more after a failure, then the
capstone stays unsigned with SIG_FAILED. -/
def execSignatureComplete (l : LeafId) (sig : BitVec 512) (valid : Bool) (s : State) : Done :=
  let L := s.leaf l
  match L.ldg.ring.find? (·.pending) with
  | none => .next s
  | some r =>
    guarded s (decide (L.get ASH_STAT_SHED = 0) && L.role == .lead) <|
      let fin := fun (L : Leaf) (f : LStored → LStored) =>
        (L.put LDG_STAT_SIGN_PENDING (L.get LDG_STAT_SIGN_PENDING - 1)).onLdg fun G => { G with ring := signFirst f G.ring }
      s.setLeaf l <|
        if valid then
          let L := if r.retried then L.bump LDG_CNT_SIG_RETRY else L
          fin L fun x => { x with pending := false, rec_ := { x.rec_ with sig := sig } }
        else if r.retried then
          fin (L.stick (ldgFlag 5)) fun x => { x with
            pending := false, rec_ := { x.rec_ with head := x.rec_.head ||| (1#1536 <<< 25) } }
        else L.onLdg fun G => { G with ring := signFirst (fun x => { x with retried := true }) G.ring }

/-- CARRY_WORD_WRITE (R544): every 1,600 courses while awake. -/
def execCarryWordWrite (l : LeafId) (s : State) : Done :=
  let L := s.leaf l
  guarded s (decide (1600 ≤ since L.count L.ldg.carryAt)) <| s.setLeaf l L.writeCarry

/-- ARCHIVE_COMPLETE (R545): both copies of the oldest unarchived record have verified, and its slot is free. A capstone
that awaits its signature is not complete. -/
def execArchiveComplete (l : LeafId) (s : State) : Done :=
  let L := s.leaf l
  match L.ldg.ring with
  | [] => .next s
  | r :: rest =>
    guarded s (!r.pending) <|
      let L := L.put LDG_STAT_FREE (L.get LDG_STAT_FREE + 1) |>.put LDG_STAT_ARCH_LAG (L.get LDG_STAT_ARCH_LAG - 1)
      s.setLeaf l (L.onLdg fun G => { G with ring := rest, archive := G.archive ++ [r.rec_] })

/-- HISTORY_HOUR (R556, R558): at a course with c mod 576,000,000 = 0 an hour closes, and a day after every 24th. -/
def execHistoryHour (l : LeafId) (s : State) : Done :=
  let L := s.leaf l
  guarded s (decide (L.count.toNat % 576000000 = 0) && L.his.closedAt != some L.count) <|
    let L := L.closeHour false
    s.setLeaf l (if 24 ≤ L.his.dayHours then L.closeDay else L)

/-- BMS_STALE (R555). -/
def execBmsStale (l : LeafId) (qty : Fin 8) (idx : Fin 1024) (s : State) : Done :=
  let L := s.leaf l
  let k := 1024 * qty.val + idx.val
  guarded s ((kvFind L.his.bms k).any fun v => decide (16000 * L.get HIS_CTRL_MAP_TO ≤ since L.count v.2)) <|
    s.setLeaf l (L.markStale k).judgeBms

/-- RESISTANCE_STEP (R557): 1,600 courses after the change the post-window closes; a qualified estimate is stored. -/
def execResistanceStep (l : LeafId) (s : State) : Done :=
  let L := s.leaf l
  match L.his.step with
  | none => .next s
  | some (c0, iPre, vPre, ok) =>
    guarded s (decide (1600 ≤ since L.count c0)) <|
      let L := L.onHis fun H => { H with step := none }
      let is := L.his.recent.map (·.1)
      let n : Rat := 160
      let iPost := is.foldl (· + ·) 0 / n
      let vPost := (L.his.recent.map (·.2)).foldl (· + ·) 0 / n
      let rstep : Rat := L.get HIS_CTRL_RSTEP
      let flat := decide (is.foldl max (is.headD 0) - is.foldl min (is.headD 0) ≤ rstep / 20)
      let q := ok && flat && decide (is.length = 160) && decide (rstep ≤ ratAbs (iPost - iPre))
      s.setLeaf l <|
        if !q then L
        else
          let r := -(vPost - vPre) / (iPost - iPre)
          let micro := Config.rnd (r * 100000)
          let soc := L.bms 1 0
          let hot := L.hottestCell
          let L := L.bump HIS_CNT_R_EST
          let e := Config.resEntry [micro, (c0.toNat : Int), soc.getD 0xFF, hot.getD 0xFF]
          let inRange := (soc.any fun x => decide (4000 ≤ x) && decide (x ≤ 6000)) &&
            (hot.any fun x => decide (2000 ≤ x) && decide (x ≤ 3000))
          if 512 ≤ L.his.estimates.length then L.bump HIS_CNT_R_OVER
          else L.onHis fun H => { H with
            estimates := H.estimates ++ [e], dayRes := if inRange then H.dayRes ++ [micro.toNat] else H.dayRes }

end Sys2Proof.Machine
end

