-- ==== Sys2Proof/Machine/Charge.lean ====
section
/-! DEFINITION. The on-board charger (R327 to R353): pilot and cable, sessions and the stop sequence, the input search,
charge stages and the safety timer, the PFC and LLC blocks, and the commands of the chapter. -/

namespace Sys2Proof.Machine

open Sys2Proof

def Leaf.onChg (L : Leaf) (f : Chg → Chg) : Leaf := { L with chg := f L.chg }

/-- The session state (R342). -/
def Leaf.chgState (L : Leaf) : Nat := L.get CHG_STAT_STATE

/-- START, SUPPLY, CC or CV. -/
def Leaf.chgLive (L : Leaf) : Bool := decide (3 ≤ L.chgState) && decide (L.chgState ≤ 6)

/-- A condition of CHG_FLT: its bit and its event (R352). -/
def Leaf.chgFault (L : Leaf) (f : Fld) : Leaf := if L.on f then L else L.raise f

/-- The session moved to a state (R342). -/
def Leaf.moveChg (L : Leaf) (st : Nat) : Leaf :=
  if L.chgState = st then L
  else (((L.put CHG_STAT_STATE st).onChg fun C => { C with stateAt := L.count }).stageChanged 7).stageChanged 8

/-- S2 commanded (R340, R342). -/
def Leaf.closeS2 (L : Leaf) : Leaf := (L.put CHG_STAT_S2 1).onChg fun C => { C with s2OpenAt := none }
def Leaf.openS2 (L : Leaf) : Leaf := (L.put CHG_STAT_S2 0).onChg fun C => { C with s2OpenAt := none }

/-- PFC and LLC off from the next course. -/
def Leaf.chgOff (L : Leaf) : Leaf :=
  L.onChg fun C => { C with off := true, pfcOn := false, llcOn := false, pfcFrom := none, iCoRef := 0, iLim := 0 }

/-- The timer cleared (R349). -/
def Leaf.clearTimer (L : Leaf) : Leaf := L.onChg fun C => { C with equiv := 0, wall := 0, everCc := false }

/-- An end of the session (R342, R343): the state entered, its end reason, the ledger session closed. -/
def Leaf.endSession (L : Leaf) (st reason : Nat) : Leaf :=
  let L := ((L.moveChg st).put CHG_STAT_END reason).closeCharge reason
  let L := L.onChg fun C => { C with everCc := false, stopFrom := none, weak := 0, iTgt := 0 }
  let L := L.put CHG_SEARCH_SRCH 0
  if st = 1 then (L.clearTimer).onChg fun C => { C with counted := false } else L

/-- The stop sequence begun (R343): `to` and `reason` at its end. -/
def Leaf.stopSequence (L : Leaf) (dest reason : Nat) (s2 : Bool) : Leaf :=
  if L.chg.stopFrom.isSome then L
  else L.onChg fun C => { C with stopFrom := some L.count, stopLim := C.iLim, stopTo := dest, stopEnd := reason, stopS2 := s2 }

/-- A pause with S2 closed (R342, R353); a stop sequence that runs goes on to its end instead, with the output off. -/
def Leaf.pause (L : Leaf) (cause : Nat) : Leaf :=
  if L.chg.stopFrom.isSome then L.chgOff
  else (L.moveChg 7).chgOff.onChg fun C => { C with pauseCause := cause, pauseS2 := false, stopFrom := none }

/-! ### Limits and conditions -/

/-- HLC_IMAX is valid (R339). -/
def Leaf.hlcValid (L : Leaf) : Bool := L.chg.hlcAt.isSome

/-- The pilot limit, 0.1 A (R337). -/
def Leaf.pilotLimit (L : Leaf) : Nat :=
  if L.chg.hlcBand then (if L.hlcValid then L.chg.hlcLim else 0) else L.chg.pilotLim

/-- The search limit L in 0.1 A with the limit that binds (R346, R362). -/
def Leaf.searchLimit (L : Leaf) : Nat × Nat :=
  let less := fun (a b : Nat × Nat) => if b.1 < a.1 then b else a
  let c := (L.pilotLimit, 1)
  let c := less c (L.chg.cableLim, 2)
  let c := less c (L.get CHG_CTRL_CHG_IMAX, 3)
  let c := if L.hlcValid then less c (L.chg.hlcLim, 4) else c
  if L.get CHG_STAT_PHASES = 1 then less c (320, 5) else c

/-- A valid cable (R338). -/
def Leaf.cableOk (L : Leaf) : Bool := decide (1 ≤ L.get CHG_STAT_CABLE) && decide (L.get CHG_STAT_CABLE ≤ 4)

/-- The input is admissible (R342). -/
def Leaf.admissible (L : Leaf) : Bool :=
  L.on CHG_CTRL_EN && L.cableOk && decide (60 ≤ L.pilotLimit) && (!L.hlcValid || decide (60 ≤ L.chg.hlcLim)) &&
    !L.on CHG_FLT_LOCKED && !L.lnk.crash && !L.lnk.hvilOpen

/-- The battery is ready (R342). -/
def Leaf.battReady (L : Leaf) : Bool :=
  L.conv == 2 && !L.on LNK_STAT_MODE && L.con == 3 && L.on CHG_BATT_I_FAST && L.on CHG_BATT_V_CV

/-- The converter holds the link (R329). -/
def Leaf.convHolds (L : Leaf) : Bool := L.conv == 2 && !L.on LNK_STAT_MODE && L.con == 3

/-- V_CV in volts, I_FAST in amperes. -/
def Leaf.vCv (L : Leaf) : Rat := (L.get CHG_BATT_V_CV : Rat) / 10
def Leaf.iFast (L : Leaf) : Rat := (L.get CHG_BATT_I_FAST : Rat) / 10

/-- Into the pack (R329). -/
def Leaf.iChg (L : Leaf) : Rat := -L.iBatt

/-- The hottest estimate of the charger's channels (R329). -/
def Leaf.chgHot (L : Leaf) : Rat := L.hottest ((List.range 10).map (32 + ·))

/-- F_TH (R329). -/
def Leaf.fTh (L : Leaf) : Rat := derate (L.get CHG_CTRL_TJ_START) (L.get CHG_CTRL_TJ_MAX) L.chgHot

/-- Phases in use. -/
def Leaf.nPh (L : Leaf) : Nat := match L.get CHG_STAT_PHASES with
  | 3 => 3
  | 1 => 1
  | _ => 0

/-- P_lim (R329), W. -/
def Leaf.pLim (L : Leaf) : Rat := L.chg.eta * (L.nPh : Nat) * L.chg.vNow * L.chg.iLim * L.fTh

/-- Mean of a charger port in its unit (R358). -/
def Leaf.chgMean (L : Leaf) (p : Nat) (f : Fld) : Rat := q31 ((L.meanOf p).getD 0) * L.get f
def Leaf.vBus (L : Leaf) : Rat := L.chgMean (L.get CHG_CTRL_PFC_PORT) CHG_SCALE_FS_VPFC

/-! ### Entries -/

/-- Entry to START (R342, R345, R346): V0 taken, the search begun at 6 A. -/
def Leaf.enterStart (L : Leaf) : Leaf :=
  let L := if L.chg.counted then L else (L.bump CHG_CNT_SESSIONS).onChg fun C => { C with counted := true }
  let (lim, _) := L.searchLimit
  let L := ((L.moveChg 3).bump CHG_CNT_SEARCHES).put CHG_SEARCH_SRCH 1 |>.put CHG_SEARCH_BIND 0
  L.onChg fun C => { C with
    v0 := C.vNow, iLim := (min 60 lim : Nat) / (10 : Rat), searchAt := L.count, eta := 9 / 10, off := false, pfcOn := false
    pfcFrom := none, llcOn := false, sagFrom := none, pauseCause := 0 }

/-- Entry to CC, or to CV where the battery is at V_CV (R342). -/
def Leaf.enterStage (L : Leaf) : Leaf :=
  let L := L.openCharge
  let cv := decide (L.vCv ≤ L.vBatt)
  (L.moveChg (if cv then 6 else 5)).onChg fun C => { C with everCc := true, iTgt := L.iFast, llcOn := true, termFrom := none }

/-- REQUEST entered with S2 closed (R342). -/
def Leaf.enterRequest (L : Leaf) : Leaf := (L.moveChg 2).closeS2

/-- CHG_FLT conditions that end a session from the next course with S2 opened (R342, R353). -/
def Leaf.abortSession (L : Leaf) (st reason : Nat) (f : Fld) : Leaf := ((L.chgOff.openS2).endSession st reason).chgFault f

/-! ### The seal -/

/-- Whether the pairs GC32 to GC41 show a state. -/
def Leaf.chgPairs (L : Leaf) : PairSeen :=
  let ps := (List.range 5).map fun k => L.seePair (32 + 2 * k) 8
  { bias := ps.any (·.bias), latched := ps.any (·.latched), wait := ps.any (·.wait), ready := ps.all (·.ready) }

/-- The ports of R353. -/
def Leaf.chgPorts (L : Leaf) : List Nat :=
  [19, 20, 21, 22, 23, 24, 25, 26, 27, L.get CHG_CTRL_PFC_PORT, L.get CHG_CTRL_MID_PORT]

/-- Timers and I_LIM over a course (R343, R346, R349, R350). -/
def Leaf.chgTimers (L : Leaf) : Leaf :=
  let st := L.chgState
  let cap : Rat := (L.searchLimit.1 : Rat) / 10
  let L := L.onChg fun C => { C with
    iLim := match C.stopFrom with
      | some c => if 16000 ≤ since L.count c then 0 else min C.iLim (C.stopLim * (1 - (since L.count c : Rat) / 16000))
      | none => min C.iLim cap }
  let r := if L.iFast = 0 then 1 / 4 else clampRat (1 / 4) 1 (L.iChg / L.iFast)
  let stage := st == 5 || st == 6
  let L := if stage then (L.put CHG_TMR_RATIO (min 255 (Config.rnd (r * 128)).toNat)).onChg fun C => { C with
    equiv := C.equiv + r, everCc := true } else L
  let L := if L.chg.everCc then L.onChg fun C => { C with wall := C.wall + 1 } else L
  let hot := decide (L.fTh < 1) && (L.chgLive || st == 7)
  let L := if hot then L.onChg fun C => { C with thermAt := some L.count } else L
  let seen := L.chg.thermAt.any fun c => decide (since L.count c ≤ 96000000)
  L.put CHG_TMR_EQUIV (min (2 ^ 24 - 1) (L.chg.equiv / 160000).floor.toNat) |>.put CHG_TMR_WALL
    (min (2 ^ 24 - 1) (L.chg.wall / 160000)) |>.put CHG_TMR_THERM_SEEN (bit seen)

/-- Recovery of a pause whose cause is gone (R342, R353). -/
def Leaf.chgRecover (L : Leaf) (P : PairSeen) (valid : Bool) : Leaf :=
  if L.chgState ≠ 7 ∨ L.chg.stopFrom.isSome = true then L
  else match L.chg.pauseCause with
    | 1 => if P.ready then (L.enterStart).bump CHG_CNT_TRANS else L
    | 2 => if L.chgHot < (L.get CHG_CTRL_TJ_START : Rat) - 10 then L.enterStart else L
    | 3 => if valid && decide (160 ≤ L.chg.goodRun) then L.enterStart else L
    | 6 => if L.ash.fillRun = 0 then L.enterStart else L
    | 9 => if !L.chg.pilotBad && L.chg.pwm && decide (0 < L.pilotLimit) then
        (if L.chg.pauseS2 then L.enterRequest else L.enterStart) else L
    | _ => L

/-- The charger's part of a seal (R342 to R344, R348 to R353). -/
def Leaf.sealCharge (L : Leaf) (inp : SealIn) : Leaf :=
  let L := if L.chg.s2OpenAt.any fun c => c == L.count then L.openS2 else L
  let P := L.chgPairs
  let ports := L.chgPorts.all fun p => L.portValid p
  let L := L.onChg fun C => { C with
    badRun := if ports then 0 else C.badRun + 1, goodRun := if ports then C.goodRun + 1 else 0 }
  let stop := L.lnk.crash || L.lnk.hvilOpen
  -- crash or HVIL
  let L := if stop && !L.chg.stopSeen then (L.chgOff.openS2).endSession 9 11 else L
  let L := L.onChg fun C => { C with stopSeen := stop }
  -- bias and latched pairs
  let live := decide (2 ≤ L.chgState) && decide (L.chgState ≤ 7)
  let L := if L.on (GCH_BG_FLT) 8 then
      let L := if live then (L.chgOff.openS2).endSession 9 10 else L
      if L.on CHG_CTRL_EN then L.chgFault CHG_FLT_BIAS else L
    else if P.latched then
      let L := if live then (L.chgOff.openS2).endSession 9 10 else L
      if L.on CHG_CTRL_EN then L.chgFault CHG_FLT_PAIR else L
    else L
  -- internal pauses
  let L :=
    if L.chgLive then
      if P.wait then L.pause 1
      else if 2 ≤ L.chg.badRun then (L.pause 3).chgFault CHG_FLT_SENSE
      else if L.fTh = 0 then (L.pause 2).chgFault CHG_FLT_THERMAL
      else L
    else L
  let L := if L.chgState = 7 ∧ L.chg.pauseCause = 2 then L.chgFault CHG_FLT_THERMAL
    else if L.chgState = 7 ∧ L.chg.pauseCause = 3 ∧ ports = false then L.chgFault CHG_FLT_SENSE else L
  let L := if L.chg.pilotBad && L.cableOk then L.chgFault CHG_FLT_PILOT else L
  let L := L.chgRecover P ports
  -- the battery
  let s1 := L.chgState
  let L :=
    if s1 = 5 ∨ s1 = 6 then
      if L.lnk.battLost then
        ((L.moveChg 4).chgFault CHG_FLT_BATT_LOST).closeCharge 7 |>.onChg fun C => { C with iTgt := 0 }
      else if !L.battReady then ((L.moveChg 4).closeCharge 0).onChg fun C => { C with iTgt := 0 }
      else if s1 = 5 ∧ L.vCv ≤ L.vBatt then L.moveChg 6
      else L
    else L
  let L := L.onLnk fun K => { K with battLost := false }
  -- termination
  let term := L.chgState == 6 && decide (L.vCv - 2 ≤ L.vBatt) &&
    decide (L.iChg < (L.get CHG_BATT_TERM_N : Rat) / 64 * L.iFast)
  let L := L.onChg fun C => { C with termFrom := if term then some (C.termFrom.getD L.count) else none }
  -- overvoltage and overcurrent that did not recur
  let past := fun (x : Option Course) => x.any fun c => decide (160000 < since L.count c)
  let L := if past L.chg.pfcOvAt && L.chgState != 9 then
      (L.bump CHG_CNT_TRANS).onChg fun C => { C with pfcOvAt := none } else L
  let L := if past L.chg.llcOcAt && L.chgState != 9 then
      (L.bump CHG_CNT_TRANS).onChg fun C => { C with llcOcAt := none } else L
  let L := L.chgTimers
  let (L, d) := differStep L inp 10 0xFF (L.word CHG_STAT).toNat 63 60 L.chg.differs
  L.onChg fun C => { C with differs := d }

/-- What the registers show of the charger (R360 to R362). -/
def Leaf.showCharge (L : Leaf) : Leaf :=
  let C := L.chg
  let u := fun (n : Nat) (x : Rat) => min (2 ^ n - 1) (Config.rnd x).toNat
  let next := if L.get CHG_SEARCH_SRCH = 2 then (144000000 - since L.count C.holdAt) / 16000 else 0
  L.put CHG_STAT_HLC (bit L.hlcValid) |>.put CHG_STAT_I_TGT (u 12 (C.iTgt * 10)) |>.put CHG_STAT_P_IN (u 16 (C.pIn / 10))
    |>.put CHG_STAT_P_OUT (u 16 (L.lnk.pCo / 10)) |>.put CHG_PILOT_I_PILOT (min 1023 L.pilotLimit)
    |>.put CHG_PILOT_I_HLC (if L.hlcValid then min 1023 C.hlcLim else 0) |>.put CHG_SEARCH_I_LIM (u 10 (C.iLim * 10))
    |>.put CHG_SEARCH_L (min 1023 L.searchLimit.1) |>.put CHG_SEARCH_V0 (u 12 (C.v0 * 10)) |>.put CHG_SEARCH_V_NOW
    (u 12 (C.vNow * 10)) |>.put CHG_SEARCH_NEXT (min 16383 next)

/-! ### Fill blocks -/

/-- The charger block (R329, R330, R348): the reference of the LLC output current and the charge-stage target. -/
def Leaf.chargerBlock (L : Leaf) (block : Nat) : Leaf :=
  let L := L.clearProbe block
  let fI : Rat := L.get LNK_SCALE_FS_IBATT
  let fV : Rat := L.get LNK_SCALE_FS_LINK
  let st := L.chgState
  let full := Config.chgFull
  -- the CV instance and I_TGT
  let (L, yCv) := if st = 6 then
      L.runLoop block 2 (toFs L.vCv fV) (toFs L.vBatt fV) 0 (toFs L.iFast (full 2)) none
    else L.runLoop block 2 (toFs L.vCv fV) (toFs L.vBatt fV) qMin qMax (some (toFs L.iFast (full 2)))
  let want := if st = 5 then L.iFast else if st = 6 then q31 yCv * full 2 else 0
  let tgt := min want (max 0 L.chgCapOther)
  let L := L.onChg fun C => { C with iTgt := tgt }
  if !L.chgLive then
    let (L, _) := L.runLoop block 0 0 0 qMin qMax (some 0)
    let (L, _) := L.runLoop block 1 0 0 qMin qMax (some 0)
    (L.onChg fun C => { C with iCoRef := 0 }).showCharge
  else
    let iChg := L.iChg
    let load := L.was.lnk.pCo - L.vBatt * iChg
    let lim := L.pLim
    let vCo := L.chgMean 27 CHG_SCALE_FS_VCO
    let rs := L.was.lnk.rs
    let vset := L.was.lnk.vset
    let exceeds := decide (vset + 10 < L.vLink)
    let x := if exceeds then -(L.vLink - vset - 10) else tgt - iChg
    let now := L.chg.iCoRef
    let div := fun (a b : Rat) => if b = 0 then 0 else a / b
    let binds := decide (L.fTh < 1)
    let first := L.convHolds
    let L :=
      if first then
        let (L, y0) := L.runLoop block 0 (toFs x fI) 0 (toFs (-lim) (full 0)) (toFs lim (full 0)) none
        let (L, _) := L.runLoop block 1 (toFs vset fV) (toFs L.vLink fV) qMin qMax (some (toFs (div now rs) (full 1)))
        let pw := L.vBatt * tgt + load + q31 y0 * full 0
        let i := rs * div (min pw lim) vCo
        let bound := decide (lim < pw)
        ((L.put CHG_STAT_INPUT_LIM (bit bound)).put CHG_STAT_THERM_LIM (bit (bound && binds))).onChg fun C => { C with
          iCoRef := max 0 i }
      else
        let (L, y1) := L.runLoop block 1 (toFs vset fV) (toFs L.vLink fV) 0 (toFs (div lim vCo) (full 1)) none
        let held := div (now * vCo) rs - L.vBatt * tgt - load
        let (L, _) := L.runLoop block 0 (toFs x fI) 0 qMin qMax (some (toFs held (full 0)))
        ((L.put CHG_STAT_INPUT_LIM 0).put CHG_STAT_THERM_LIM
          (bit (binds && decide (toFs (div lim vCo) (full 1) ≤ y1)))).onChg fun C => { C with iCoRef := rs * (q31 y1 * full 1) }
    L.showCharge

/-- A pause for a PFC overvoltage or an LLC overcurrent, or the lasting stop (R353). -/
def Leaf.chgTrip (L : Leaf) (cause : Nat) (last : Option Course) (f : Fld) : Leaf :=
  if last.any fun c => decide (since L.count c ≤ 160000) then ((L.chgOff.openS2).endSession 9 10).chgFault f
  else L.pause cause

/-- The PFC's voltage block (R333): conductance, common offset, and the start of switching. -/
def Leaf.pfcVoltage (L : Leaf) (block : Nat) : Leaf :=
  let L := L.clearProbe block
  let fs : Rat := L.get CHG_SCALE_FS_VPFC
  let bus := L.vBus
  let mid := L.chgMean (L.get CHG_CTRL_MID_PORT) CHG_SCALE_FS_VPFC
  let set : Rat := L.get CHG_PWR_V_PFC
  let full := Config.chgFull
  if L.chgLive && !L.chg.off && decide (set + 60 < bus) then
    let last := L.chg.pfcOvAt
    (L.chgTrip 7 last CHG_FLT_PFC_OV).onChg fun C => { C with pfcOvAt := some L.count }
  else if L.chgLive && !L.chg.off then
    let charged := decide (9 / 10 * (2 * Config.sqrtR 2 * L.chg.v0) ≤ bus)
    let L := if !L.chg.pfcOn && charged then
        L.onChg fun C => { C with pfcOn := true, pfcFrom := some L.count, pfcStart := bus } else L
    if L.chg.pfcOn then
      let part : Rat := match L.chg.pfcFrom with
        | some c => min 1 ((since L.count c : Rat) / 16000)
        | none => 1
      let target := L.chg.pfcStart + (set - L.chg.pfcStart) * part
      let (L, y0) := L.runLoop block 0 (toFs target fs) (toFs bus fs) 0 qMax none
      let (L, y1) := L.runLoop block 1 (toFs (bus / 2) fs) (toFs mid fs) qMin qMax none
      L.onChg fun C => { C with g := q31 y0 * full 3, midOut := q31 y1 * full 4 }
    else L
  else
    let (L, _) := L.runLoop block 0 0 0 qMin qMax (some 0)
    let (L, _) := L.runLoop block 1 0 0 qMin qMax (some 0)
    L.onChg fun C => { C with g := 0, midOut := 0, pfcOn := false }

/-- A PFC leg's block (R333). -/
def Leaf.pfcLeg (L : Leaf) (block x : Nat) : Leaf :=
  let L := L.clearProbe block
  let low := 32 + 2 * x
  let k1 := (L.count.toNat + 1) % 2
  let send := fun (L : Leaf) (c : Nat) (es : List (Nat × Nat × Bool)) =>
    (L.emitFor 0 (.gate c (courseBody 0 false (tagOf (after L.count 1)) (frameEdges es)))).placeNext c es
  let used := decide (x = 0) || L.get CHG_STAT_PHASES == 3
  if L.was.chg.pfcOn && L.chgLive && !L.chg.off && used then
    let fI : Rat := L.get CHG_SCALE_FS_IAC
    let v := L.chgMean (22 + x) CHG_SCALE_FS_VAC
    let i := L.chgMean (19 + x) CHG_SCALE_FS_IAC
    let cap := 105 / 100 * Config.sqrtR 2 * L.chg.iLim * L.fTh
    let ref := clampRat (-cap) cap (L.was.chg.g * v) + L.was.chg.midOut
    let (L, y) := L.runLoop block 0 (toFs ref fI) (toFs i fI) qMin qMax none
    let bus := L.vBus
    let d := if bus = 0 then 1 / 2 else 1 / 2 + (v - q31 y * Config.chgFull 5) / bus
    -- a frame for the second course of a period carries the duty of its first
    let L := if k1 = 0 then L.onChg fun C => { C with
        duty := C.duty.setIfInBounds x (clampRat 0 1 d), iRef := C.iRef.setIfInBounds x ref } else L
    let (lo, hi) := legEdges 8000 (L.get CHG_PWR_DEAD_P) (pick L.chg.duty x) (pick L.chg.iRef x) (fI / 64)
    -- a leg that starts turns its low side on first (R256)
    let start := if L.wasHeld low then [(3, 0, true)] else []
    send (send L low (start ++ inCourse k1 lo)) (low + 1) (inCourse k1 hi)
  else
    let (L, _) := L.runLoop block 0 0 0 qMin qMax (some 0)
    let L := L.onChg fun C => { C with duty := C.duty.setIfInBounds x 0 }
    send (send L low [(2, 0, false)]) (low + 1) [(2, 0, false)]

/-- A CARRIER body (R217). -/
def carrierBody (enable : Bool) (tag : BitVec 16) (send period on phase : Nat) : BitVec 72 :=
  BitVec.ofNat 72 ((1 <<< 70) + (bit enable <<< 69) + (tag.toNat <<< 52) + ((send % 4096) <<< 40) + (period <<< 27) +
    (on <<< 14) + (phase <<< 1))

/-- The LLC block, its frames handed over at `tick` (R334, R335). -/
def Leaf.llcBlock (L : Leaf) (block tick : Nat) : Leaf :=
  let L := L.clearProbe block
  let fI : Rat := L.get CHG_SCALE_FS_ICO
  let ico := L.chgMean 26 CHG_SCALE_FS_ICO
  let peak : Rat := L.get CHG_PWR_LLC_IPK
  let fR : Rat := L.get CHG_SCALE_FS_ILLC
  let hi : Rat := (L.maxOf 25 : Rat) / 32768 * fR
  let lo : Rat := (L.minOf 25 : Rat) / 32768 * fR
  let oc := L.chgLive && L.chg.llcOn && (decide (peak < hi) || decide (peak < -lo))
  let L := if oc then
      let last := L.chg.llcOcAt
      (L.chgTrip 8 last CHG_FLT_LLC_OC).onChg fun C => { C with llcOcAt := some L.count }
    else L
  let run := L.chgLive && L.chg.llcOn && !L.chg.off
  let pmin := L.get CHG_PWR_LLC_PMIN
  let pmax := max pmin (L.get CHG_PWR_LLC_PMAX)
  let full := Config.chgFull 6
  let ref := L.was.chg.iCoRef
  let (L, y) := if run then L.runLoop block 0 (toFs ref fI) (toFs ico fI) (toFs pmin full) (toFs pmax full) none
    else L.runLoop block 0 0 0 qMin qMax (some (toFs pmin full))
  let period := clampNat pmin pmax (2 * (Config.rnd (q31 y * full / 2)).toNat)
  let last16 := (ico :: L.chg.lastIco).take 16
  let mean : Rat := last16.foldl (fun a b => a + b) 0 / ((max 1 last16.length : Nat) : Rat)
  let burst := decide (period ≤ pmin) && decide (ref < ico) && decide (ref < mean)
  let enable := run && decide (0 < ref) && !burst
  let L := L.onChg fun C => { C with period := period, lastIco := last16 }
  let h := period / 2
  let dl := L.get CHG_PWR_DEAD_L
  let f := fun (L : Leaf) (c phase : Nat) =>
    L.emitFor 0 (.gate c (carrierBody enable (tagOf L.count) tick period (h - dl) phase))
  f (f (f (f L 39 dl) 38 (h + dl)) 41 (h + dl)) 40 dl

/-- A charger block invalid under R86 (R342). -/
def Leaf.chargerInvalid (L : Leaf) : Leaf := if L.chgLive then L.pause 6 else L

/-! ### Descriptors -/

/-- Whether the session is to CHARGE (R342). -/
def Leaf.wantCharge (L : Leaf) (want : Bool) : Leaf := L.onChg fun C => { C with wantCharge := want }

/-- The flag CHARGE, used at a seal (R341, R342). -/
def Leaf.useStart (L : Leaf) (h : Hdr) : Leaf :=
  let st := L.chgState
  if st = 1 then
    if L.admissible then ((L.enterRequest).wantCharge true).complete h 0x0000 else L.complete h 0x0201
  else if st = 4 then
    let L := L.wantCharge true
    (if L.battReady then L.enterStage else L).complete h 0x0000
  else if 2 ≤ st ∧ st ≤ 7 then (L.wantCharge true).complete h 0x0000
  else L.complete h 0x0201

/-- The flag SUPPLY, used at a seal (R341, R342). -/
def Leaf.useSupply (L : Leaf) (h : Hdr) : Leaf :=
  let st := L.chgState
  if st = 1 then
    if L.admissible then ((L.enterRequest).wantCharge false).complete h 0x0000 else L.complete h 0x0201
  else if 2 ≤ st ∧ st ≤ 4 then (L.wantCharge false).complete h 0x0000
  else L.complete h 0x0201

/-- The flag that restarts a charge, used at a seal (R350). -/
def Leaf.useRestart (L : Leaf) (h : Hdr) : Leaf :=
  let cool := decide (L.chgHot < (L.get CHG_CTRL_TJ_START : Rat) - 20)
  let used := L.on CHG_TMR_RESTARTED
  let allowed := match L.chg.expiry with
    | 1 => cool && !used
    | 2 => !used
    | _ => true
  if L.chgState = 9 ∧ allowed = true ∧ L.admissible = true then
    let L := if L.chg.expiry = 0 then L else L.put CHG_TMR_RESTARTED 1
    (((L.clearTimer).enterRequest.wantCharge true).onChg fun C => { C with expiry := 0 }).complete h 0x0000
  else L.complete h 0x0201

/-- HLC_IMAX as a descriptor with the flag HLC gives it (R339). -/
def Leaf.takeHlc (L : Leaf) (d : Slot) : Leaf :=
  if sl d 17 1 / 16 % 2 = 1 then L.onChg fun C => { C with hlcLim := sl d 18 2, hlcAt := some L.count } else L

/-- A CHARGE descriptor used at a seal (R339, R341, R342, R350): its flags are CHARGE, SUPPLY, STOP and RESTART, at most one,
and HLC. -/
def Leaf.useCharge (L : Leaf) (h : Hdr) (d : Slot) : Leaf :=
  let fl := sl d 17 1
  let cmds := (List.range 4).filter fun k => fl / 2 ^ k % 2 = 1
  if 32 ≤ fl ∨ 1 < cmds.length then L.complete h 0x0105 0 17
  else
    let L := L.takeHlc d
    match cmds.head? with
    | some 0 => L.useStart h
    | some 1 => L.useSupply h
    | some 2 =>
      if 2 ≤ L.chgState ∧ L.chgState ≤ 7 then (L.stopSequence 1 2 true).complete h 0x0000 else L.complete h 0x0201
    | some 3 => L.useRestart h
    | _ => L.complete h 0x0000

/-- A CHARGE descriptor read by the command that bears its one flag; one with several flags is read by any of them. -/
def Leaf.chargeDesc (L : Leaf) (own : Nat) (d : Desc) : Leaf :=
  let fl := sl d.bytes 17 1 % 16
  let several := 1 < ((List.range 4).filter fun k => fl / 2 ^ k % 2 = 1).length
  if fl = own ∨ several ∨ opcode d.bytes ≠ 0x40 then L.readDesc 0 0x40 d (fun L h => L.receive d.bytes h) else L

/-! ### Commands -/

/-- CHARGE (R341, R342). -/
def execCharge (l : LeafId) (d : Desc) (s : State) : Done := onLeaf s l fun L => L.chargeDesc 1 d

/-- CHARGE_SUPPLY (R341, R342). -/
def execChargeSupply (l : LeafId) (d : Desc) (s : State) : Done := onLeaf s l fun L => L.chargeDesc 2 d

/-- CHARGE_STOP (R341, R342). -/
def execChargeStop (l : LeafId) (d : Desc) (s : State) : Done := onLeaf s l fun L => L.chargeDesc 4 d

/-- CHARGE_RESTART (R341, R350). -/
def execChargeRestart (l : LeafId) (d : Desc) (s : State) : Done := onLeaf s l fun L => L.chargeDesc 8 d

/-- HLC_REFRESH (R339, R341). -/
def execHlcRefresh (l : LeafId) (d : Desc) (s : State) : Done := onLeaf s l fun L => L.chargeDesc 0 d

/-- HLC_EXPIRY (R339). -/
def execHlcExpiry (l : LeafId) (s : State) : Done :=
  let L := s.leaf l
  guarded s (L.chg.hlcAt.any fun c => decide (160000 ≤ since L.count c)) <|
    let L := L.onChg fun C => { C with hlcAt := none }
    let L := if L.chg.hlcBand && L.chgLive then
        (L.stopSequence 7 0 true).onChg fun C => { C with pauseCause := 9, pauseS2 := true } else L
    s.setLeaf l L.showCharge

/-- The pilot limit of a duty in 0.1% (R337): the limit in 0.1 A, the high-level band, and whether it is invalid. -/
def pilotOf (duty : Nat) : Nat × Bool × Bool :=
  if duty < 30 ∨ (70 < duty ∧ duty < 80) ∨ 970 < duty then (0, false, true)
  else if duty ≤ 70 then (0, true, false)
  else if duty < 100 then (60, false, false)
  else if duty ≤ 850 then (duty * 6 / 10, false, false)
  else if duty ≤ 960 then ((duty - 640) * 25 / 10, false, false)
  else (800, false, false)

/-- The state code of a pilot by its plateaus (R336, R360). -/
def pilotClass (high low : Option Int) (cable : Bool) : Nat :=
  match high with
  | none =>
    match low with
    | some v => if -13000 ≤ v ∧ v ≤ -11000 then 5 else if cable then 6 else 0
    | none => if cable then 6 else 0
  | some v =>
    if 11000 ≤ v ∧ v ≤ 13000 then 0
    else if 8000 ≤ v ∧ v ≤ 10000 then 1
    else if 5000 ≤ v ∧ v ≤ 7000 then 2
    else if 2000 ≤ v ∧ v ≤ 4000 then 3
    else if v ≤ 1000 ∧ cable = false then 0
    else if -1000 ≤ v ∧ v ≤ 1000 then 4
    else 6

/-- PILOT_STATE (R336, R337, R342). -/
def execPilotState (l : LeafId) (p : PilotRx) (s : State) : Done :=
  let L := s.leaf l
  guarded s (decide (1600 ≤ p.courses)) <|
    let cable := L.cableOk
    let c := pilotClass p.high p.low cable
    let (lim, band, badDuty) := if p.pwm then pilotOf p.duty else (0, false, false)
    let freqOk := decide (980 ≤ p.hz) && decide (p.hz ≤ 1020)
    let diode := p.pwm && (p.low.all fun v => decide (-11000 < v))
    let bad := (c == 0 && cable) || c == 3 || c == 6 || (p.pwm && (badDuty || diode))
    let pwm := p.pwm && freqOk
    let L := L.put CHG_STAT_PILOT c |>.put CHG_PILOT_DUTY (min 4095 p.duty) |>.put CHG_PILOT_FREQ (min 4095 p.hz)
      |>.put CHG_PILOT_V_HIGH (min 255 ((p.high.getD 0).toNat / 100)) |>.put CHG_PILOT_V_LOW
      (min 255 ((p.low.getD 0).natAbs / 100))
    let L := L.onChg fun C => { C with
      pilotLim := if pwm then lim else 0, hlcBand := pwm && band, pilotBad := bad, pwm := pwm }
    let st := L.chgState
    let L :=
      if st = 0 then
        if cable && c == 1 && pwm && !bad then
          ((L.moveChg 1).chgFault CHG_FLT_PLUG).clearTimer.onChg fun C => { C with counted := false, weak := 0 }
        else L
      else if bad then L.abortSession 1 4 CHG_FLT_PILOT
      else if c = 0 ∨ c = 4 ∨ c = 5 then L.abortSession 0 4 CHG_FLT_PILOT
      else if L.chgLive && (!pwm || decide (L.pilotLimit = 0)) then
        (L.stopSequence 7 0 true).onChg fun C => { C with pauseCause := 9, pauseS2 := true }
      else L
    s.setLeaf l L.showCharge

/-- The cable code and its limit in 0.1 A from PP (R338). -/
def cableOf (ohm : Nat) : Nat × Nat :=
  if 4000 < ohm then (0, 0)
  else if 1100 ≤ ohm ∧ ohm ≤ 2000 then (1, 130)
  else if 500 ≤ ohm ∧ ohm ≤ 900 then (2, 200)
  else if 160 ≤ ohm ∧ ohm ≤ 300 then (3, 320)
  else if 60 ≤ ohm ∧ ohm ≤ 130 then (4, 630)
  else (5, 0)

/-- PROXIMITY_READING (R338, R342). -/
def execProximityReading (l : LeafId) (ohm courses : Nat) (s : State) : Done :=
  guarded s (decide (16000 ≤ courses)) <| s.on l fun L =>
    let (code, lim) := cableOf ohm
    let L := (L.put CHG_STAT_CABLE code).onChg fun C => { C with cableLim := lim }
    if code = 0 then
      let L := (L.put CHG_TMR_RESTARTED 0).onChg fun C => { C with expiry := 0 }
      if L.chgState = 0 then L
      else if L.chgState = 1 then ((L.chgOff.openS2).endSession 0 3)
      else L.abortSession 0 3 CHG_FLT_PP_LOST
    else if L.chgState = 0 ∧ 1 ≤ code ∧ code ≤ 4 ∧ L.get CHG_STAT_PILOT = 1 ∧ L.chg.pwm = true ∧ L.chg.pilotBad = false then
      ((L.moveChg 1).chgFault CHG_FLT_PLUG).clearTimer.onChg fun C => { C with counted := false, weak := 0 }
    else L

/-- A phase in range (R345). -/
def phaseOk (w : PhaseWin) : Bool :=
  decide (180000 ≤ w.vMv) && decide (w.vMv ≤ 265000) && decide (45000 ≤ w.mHz) && decide (w.mHz ≤ 65000)

/-- AC_WINDOW (R345 to R347, R353). -/
def execAcWindow (l : LeafId) (a b c : PhaseWin) (s : State) : Done :=
  let L := s.leaf l
  guarded s (!(L.chg.winAt.any fun x => decide (since L.count x < 16000))) <| s.setLeaf l <|
    let ws := [a, b, c]
    let phases := if ws.all phaseOk then 3
      else if phaseOk a && !phaseOk b && !phaseOk c && L.on CHG_CTRL_ONE_PH then 1 else 0
    let used := match (if L.chgState = 2 then phases else L.get CHG_STAT_PHASES) with
      | 3 => ws
      | 1 => [a]
      | _ => ws
    let vNow : Rat := ((used.map (·.vMv)).foldl min ((used.head?.map (·.vMv)).getD 0) : Nat) / (1000 : Rat)
    let pIn : Rat := (used.foldl (fun x w => x + w.vMv * w.iMa) 0 : Nat) / (1000000 : Rat)
    let eta := if pIn = 0 then L.chg.eta else clampRat (85 / 100) (99 / 100) (L.lnk.pCo / pIn)
    let L := L.onChg fun C => { C with win := ws, winAt := some L.count, vNow := vNow, pIn := pIn, eta := eta }
    let st := L.chgState
    let v0 := L.chg.v0
    let sag := decide (vNow < (1 - (L.get CHG_CTRL_SAG_LIM : Rat) / 100) * v0)
    let L := L.onChg fun C => { C with sagNow := sag }
    let L : Leaf :=
      if st = 2 then
        if phases ≠ 0 then (L.put CHG_STAT_PHASES phases).enterStart else L
      else if L.chgLive then
        if used.any fun w => decide ((w.vMv : Rat) / 1000 < v0 / 2) then
          (L.pause 4).onChg fun C => { C with lossAt := L.count }
        else if L.get CHG_SEARCH_SRCH = 2 ∧ sag = true then
          let L := (L.bump CHG_CNT_SAGS).bump CHG_CNT_SEARCHES |>.put CHG_SEARCH_SRCH 1
          L.onChg fun C => { C with iLim := (min 60 L.searchLimit.1 : Nat) / (10 : Rat), searchAt := L.count }
        else L
      else if decide (st = 7) && decide (L.chg.pauseCause = 4) && used.all phaseOk then (L.enterStart).bump CHG_CNT_TRANS
      else L
    -- a sag at 6 A that lasts
    let weak := sag && L.chgLive && decide (L.chg.iLim ≤ 6)
    (L.onChg fun C => { C with sagFrom := if weak then some (C.sagFrom.getD L.count) else none }).showCharge

/-- EVSE_TIMEOUT (R342, R353). -/
def execEvseTimeout (l : LeafId) (s : State) : Done :=
  let L := s.leaf l
  guarded s (decide (L.chgState = 2) && decide (800000 ≤ since L.count L.chg.stateAt)) <|
    s.setLeaf l (((L.openS2).endSession 1 0).chgFault CHG_FLT_EVSE_TIMEOUT)

/-- The bus has reached V_PFC at the end of its ramp (R333, R342). -/
def Leaf.busReady (L : Leaf) : Bool :=
  L.chg.pfcOn && (L.chg.pfcFrom.any fun c => decide (16000 ≤ since L.count c)) &&
    decide ((L.get CHG_PWR_V_PFC : Rat) ≤ L.vBus)

/-- PFC_BUS_READY (R342). -/
def execPfcBusReady (l : LeafId) (s : State) : Done :=
  let L := s.leaf l
  guarded s (decide (L.chgState = 3) && L.busReady && L.chg.stopFrom.isNone) <|
    s.setLeaf l <|
      if L.chg.wantCharge && L.battReady then L.enterStage
      else (L.moveChg 4).onChg fun C => { C with llcOn := true, iTgt := 0 }

/-- SEARCH_STEP (R346): every 40,000 courses in SEARCH. -/
def execSearchStep (l : LeafId) (s : State) : Done :=
  let L := s.leaf l
  guarded s (L.chgLive && decide (L.get CHG_SEARCH_SRCH = 1) && L.chg.stopFrom.isNone &&
      decide (40000 ≤ since L.count L.chg.searchAt)) <| s.setLeaf l <|
    let (lim, bind) := L.searchLimit
    let cap : Rat := (lim : Rat) / 10
    let C := L.chg
    let hold := fun (L : Leaf) (b : Nat) =>
      let L := if L.chg.weakTrans then (L.bump CHG_CNT_TRANS).onChg fun C => { C with weakTrans := false } else L
      ((L.put CHG_SEARCH_SRCH 2).put CHG_SEARCH_BIND b).onChg fun C => { C with holdAt := L.count }
    let used := match L.get CHG_STAT_PHASES with
      | 1 => C.win.take 1
      | _ => C.win
    let top : Rat := ((used.map (·.iMa)).foldl max 0 : Nat) / (1000 : Rat)
    let L := L.onChg fun C => { C with searchAt := L.count }
    let L :=
      if C.sagNow then hold ((L.bump CHG_CNT_SAGS).onChg fun C => { C with iLim := max 6 (C.iLim - 2) }) 6
      else if cap ≤ C.iLim then hold (L.onChg fun C => { C with iLim := cap }) bind
      else if C.iLim - 1 ≤ top then L.onChg fun C => { C with iLim := C.iLim + 1 }
      else L
    L.showCharge

/-- RESEARCH (R346). -/
def execResearch (l : LeafId) (s : State) : Done :=
  let L := s.leaf l
  guarded s (L.chgLive && decide (L.get CHG_SEARCH_SRCH = 2) && decide (144000000 ≤ since L.count L.chg.holdAt)) <|
    s.setLeaf l (((L.put CHG_SEARCH_SRCH 1).bump CHG_CNT_SEARCHES).onChg fun C => { C with searchAt := L.count })

/-- WEAK_SUPPLY (R347). -/
def execWeakSupply (l : LeafId) (s : State) : Done :=
  let L := s.leaf l
  guarded s (L.chgLive && L.chg.sagFrom.any fun c => decide (40000 ≤ since L.count c)) <| s.setLeaf l <|
    if L.chg.weak = 0 then
      (L.pause 5).onChg fun C => { C with weak := 1, weakAt := L.count, sagFrom := none, weakTrans := true }
    else ((L.chgFault CHG_FLT_SUPPLY_WEAK).stopSequence 9 9 true).onChg fun C => { C with sagFrom := none, weakTrans := false }

/-- WEAK_SUPPLY_PAUSE_END (R347). -/
def execWeakSupplyPauseEnd (l : LeafId) (s : State) : Done :=
  let L := s.leaf l
  guarded s (decide (L.chgState = 7) && decide (L.chg.pauseCause = 5) && decide (144000000 ≤ since L.count L.chg.weakAt)) <|
    s.setLeaf l L.enterStart

/-- TERMINATION (R348): the condition has held for 4,800,000 courses in CV. -/
def execTermination (l : LeafId) (s : State) : Done :=
  let L := s.leaf l
  guarded s (decide (L.chgState = 6) && L.chg.stopFrom.isNone &&
      L.chg.termFrom.any fun c => decide (4800000 ≤ since L.count c)) <|
    s.setLeaf l (L.stopSequence 8 1 true)

/-- The kind of an expiry: 1 thermal where F_TH was below 1 within 96,000,000 courses, else 2 plain (R350). -/
def Leaf.expiryKind (L : Leaf) : Nat := if L.chg.thermAt.any fun c => decide (since L.count c ≤ 96000000) then 1 else 2

/-- SAFETY_TIMER_EXPIRY (R349, R350). -/
def execSafetyTimerExpiry (l : LeafId) (s : State) : Done :=
  let L := s.leaf l
  let safe : Rat := (max 1 (L.get CHG_BATT_T_SAFE) : Nat) * (9600000 : Rat)
  guarded s (decide (5 ≤ L.chgState) && decide (L.chgState ≤ 7) && L.chg.stopFrom.isNone &&
      (decide (safe ≤ L.chg.equiv) || decide (4 * safe ≤ (L.chg.wall : Rat)))) <|
    let kind := L.expiryKind
    let L := (L.chgFault (if kind = 1 then CHG_FLT_TMR_THERMAL else CHG_FLT_TMR_PLAIN)).onChg fun C => { C with expiry := kind }
    let reason := if kind = 1 then 6 else 5
    s.setLeaf l <|
      if L.on CHG_TMR_RESTARTED then (L.chgFault CHG_FLT_LOCKED).stopSequence 10 reason true
      else L.stopSequence 9 reason true

/-- STOP_SEQUENCE_END (R343): I_LIM has reached 0. -/
def execStopSequenceEnd (l : LeafId) (s : State) : Done :=
  let L := s.leaf l
  guarded s (L.chg.stopFrom.isSome && decide (L.chg.iLim ≤ 0)) <|
    let C := L.chg
    let L := L.chgOff
    let L := if C.stopS2 then L.onChg fun C => { C with s2OpenAt := some (L.count + 1) } else L
    s.setLeaf l <|
      if C.stopTo = 7 then (L.moveChg 7).onChg fun C => { C with stopFrom := none }
      else
        let L := L.endSession C.stopTo C.stopEnd
        if C.stopTo = 8 then
          let L := L.chgFault CHG_FLT_DONE
          if L.on CHG_TMR_RESTARTED then L.bump CHG_CNT_TRANS else L
        else L

/-- AC_LOSS_TIMEOUT (R353). -/
def execAcLossTimeout (l : LeafId) (s : State) : Done :=
  let L := s.leaf l
  guarded s (decide (L.chgState = 7) && decide (L.chg.pauseCause = 4) && decide (800000 ≤ since L.count L.chg.lossAt)) <|
    s.setLeaf l (((L.chgOff.openS2).endSession 9 8).chgFault CHG_FLT_AC_LOSS)

/-- CHARGER_RESTART (R353): 16,000 courses after the fault. -/
def execChargerRestart (l : LeafId) (s : State) : Done :=
  let L := s.leaf l
  let at_ := match L.chg.pauseCause with
    | 7 => L.chg.pfcOvAt
    | 8 => L.chg.llcOcAt
    | _ => none
  guarded s (decide (L.chgState = 7) && at_.any fun c => decide (16000 ≤ since L.count c)) <| s.setLeaf l L.enterStart

/-- LOCKED cleared (R350). -/
def Leaf.unlockCharger (L : Leaf) : Leaf :=
  let L := L.put CHG_FLT_LOCKED 0
  if L.chgState = 10 then
    let L := L.onChg fun C => { C with expiry := 0 }
    if L.cableOk then L.endSession 1 0 else L.endSession 0 0
  else L

/-- UNLOCK (R350, R359): outside WORKSHOP discarded with an event. -/
def execUnlock (l : LeafId) (who : Ident) (s : State) : Done :=
  if s.mode == .workshop then .next (s.both Leaf.unlockCharger)
  else onLeaf s l fun L => L.discard (CHG_CMD.addr 0) who.val (2 ^ 63)

end Sys2Proof.Machine
end

