-- ==== Sys2Proof/Machine/Stage.lean ====
section
/-! DEFINITION. The actuator stages (R365 to R368, R378): their links and course marks, the frames they apply, the STATUS
frame, and what a stage does by itself. -/

namespace Sys2Proof.Machine

open Sys2Proof

def State.stage (s : State) (a : Nat) : Stage := pick s.stages a
def State.onStage (s : State) (a : Nat) (f : Stage → Stage) : State := { s with stages := alter s.stages a f }

/-- Fields of an actuator COURSE body (R367). -/
def abModeA (b : BitVec 72) (x : Nat) : Nat := fb b (51 - 2 * x) (50 - 2 * x)
def abModeB (b : BitVec 72) (x : Nat) : Nat := fb b (45 - 2 * x) (44 - 2 * x)
def abCt (b : BitVec 72) : Nat := fb b 39 28
def abLevel (b : BitVec 72) : Bool := fb b 27 27 == 1
def abEdges (b : BitVec 72) : List Nat := ([fb b 12 1, fb b 24 13]).take (fb b 26 25)

/-- The edges of a body with the level each leads to: every edge inverts the level (R367). -/
def abLevels (l0 : Bool) : List Nat → List (Nat × Bool)
  | [] => []
  | e :: t => (e, !l0) :: abLevels (!l0) t

/-- A body lies within R367: UPD and every other reserved bit 0, no mode 0b11, CT, and edges strictly rising. -/
def abOk (b : BitVec 72) : Bool :=
  fb b 69 68 == 0 && fb b 0 0 == 0 && ([0, 1, 2].all fun x => abModeA b x != 3 && abModeB b x != 3) &&
    (decide (abCt b < 4000) || abCt b == 0xFFF) && decide (fb b 26 25 ≤ 2) && risingBelow (abEdges b) &&
    (([fb b 12 1, fb b 24 13]).drop (fb b 26 25)).all (· == 0)

/-- Every phase floats. -/
def abFloats (b : BitVec 72) : Bool := [0, 1, 2].all fun x => abModeA b x == 0 && abModeB b x == 0

/-- An actuator COURSE body: modes from fine tick 0 and from CT, the level at tick 0 and the edges (R367). -/
def stageBody (tag : BitVec 16) (a b : List Nat) (ct : Nat) (l0 : Bool) (es : List Nat) : BitVec 72 :=
  let m := fun (l : List Nat) => 16 * l.getD 0 0 + 4 * l.getD 1 0 + l.getD 2 0
  BitVec.ofNat 72 ((tag.toNat <<< 52) + (m a <<< 46) + (m b <<< 40) + (ct <<< 28) + (bit l0 <<< 27) +
    ((es.take 2).length <<< 25) + (es.getD 1 0 <<< 13) + (es.getD 0 0 <<< 1))

/-- What a stage goes on driving in a course for which no frame came: its last modes and level. -/
def holdBody (b : BitVec 72) : BitVec 72 :=
  let m := [abModeB b 0, abModeB b 1, abModeB b 2]
  stageBody 0 m m 0xFFF (((abLevels (abLevel b) (abEdges b)).getLast?.map (·.2)).getD (abLevel b)) []

/-- ZC_WIN as the stage holds it, in fine ticks. -/
def Stage.zcWin (c : Stage) : Nat := 16 * fieldOf c.ctrl 55 48

/-- The PWM edges of the course that ends: the last on edge, and the tick of the sample 16 fine ticks before the off edge
whose on interval lasted at least ZC_WIN (R368). -/
def Stage.sample (c : Stage) : Option Nat × Option Nat :=
  (abLevels (abLevel c.body) (abEdges c.body)).foldl (fun (on, zc) e =>
    let t := 4000 * c.n + e.1
    if e.2 then (some t, zc)
    else match on with
      | some t0 => (none, if c.zcWin ≤ t - t0 then some (e.1 - 16) else zc)
      | none => (none, zc)) (c.onAt, none)

/-- The boundary between two courses of a stage (R366 to R368). -/
def Stage.boundary (c : Stage) : Stage :=
  let (on, zc) := c.sample
  let zc := if abFloats c.body || c.fallback || c.tripped then none else zc
  let fr := c.applied.filter fun a => a.course == c.n && a.kind == 0
  let supp : Nat := bit (fr.any fun a => a.link == .leaf0) + 2 * bit (fr.any fun a => a.link == .leaf1)
  let ended := BitVec.ofNat 128 ((3 <<< 126) + (c.cur.toNat <<< 110) + (supp <<< 108) + (bit c.fallback <<< 107) +
    (bit zc.isSome <<< 106) + (zc.getD 0 <<< 91) + (c.bstUv.toNat <<< 80) + (bit c.refresh <<< 79) + (bit c.hardOc <<< 77))
  let onEdge := fun (from_ : Nat) =>
    (abLevels (abLevel c.body) (abEdges c.body)).any fun e => e.2 && decide (from_ < e.1)
  let n := c.n + 1
  let next := c.applied.find? fun a => a.course == n && a.kind == 0
  let body := match next with
    | some a => a.body
    | none => holdBody c.body
  let acts := c.maint.filter fun m => decide (m.1 ≤ n)
  let write := fun (c : Stage) (m : Nat × Nat × Nat) => (match m.2.1 with
    | 0 => { c with ctrl := clampWord ACT_CTRL (setField c.ctrl 31 0 m.2.2) }
    | 1 => { c with ctrl := clampWord ACT_CTRL (setField c.ctrl 63 32 m.2.2) }
    | 2 => { c with cfg := clampWord ACT_CFG (setField c.cfg 31 0 m.2.2) }
    | _ => { c with cfg := clampWord ACT_CFG (setField c.cfg 63 32 m.2.2) } : Stage)
  let c : Stage :=
    { c with
      n := n, cur := c.cur + 1, due := true, ended := ended, onAt := on, bstUv := 0, refresh := false, hardOc := false
      applied := c.applied.filter fun a => decide (n ≤ a.course + 1)
      maint := c.maint.filter fun m => decide (n < m.1)
      body := if c.fallback && next.isNone then 0 else body
      fallback := c.fallback && next.isNone
      tripped := c.tripped && !(next.any fun a => abFloats a.body)
      blank := match c.blank with
        | some t => if onEdge t then none else some 0
        | none => none }
  acts.foldl write c

/-- A course mark on a stage's link, or its absence (R214, R367). -/
def State.stageMark (s : State) (a : Nat) (link : LeafId) (received : Bool) (low : Byte) : State :=
  s.onStage a fun c =>
    let c : Stage := { c with tb := alter c.tb link.num fun t => t.mark received low }
    let t := pick c.tb link.num
    if !t.lost && t.tag == c.cur + 1 then c.boundary else c

/-- COURSE_MARK (R214): the mark of a link's course on a gate channel, or, from 48, on an actuator stage (R367); the first
link whose count goes on takes the channel into the next course. -/
def execCourseMark (chan : Fin 51) (link : LeafId) (received : Bool) (low : Byte) (s : State) : Done :=
  let i := chan.val
  if 48 ≤ i then .next (s.stageMark (i - 48) link received low)
  else
    let s := s.onChan i fun c =>
      let c' := { c with tb := alter c.tb link.num fun t => t.mark received low }
      if (pick c'.tb link.num).lost then c'.mark (13 + link.num) else c'
    let c := s.chan i
    let t := pick c.tb link.num
    .next (if !t.lost && t.tag == c.cur + 1 then s.chanBoundary i else s)

/-- ACTUATOR_FRAME (R220, R221, R366, R367): the first valid COURSE frame for a course is applied and the duplicate
discarded; a MAINT WRITE acts at a boundary. -/
def execActuatorFrame (rx : StageRx) (s : State) : Done :=
  let a := rx.stage.val
  let c := s.stage a
  let t := pick c.tb rx.link.num
  let b := rx.body
  let tag := BitVec.ofNat 16 (fb b 67 52)
  let typ := fb b 71 70
  let write := typ == 2 && fb b 51 48 == 1 && decide (fb b 47 40 ≤ 3)
  let valid := !t.lost && rx.delim == 0xE7#8 && bodyCrc b == rx.crc.toNat && (tag == t.tag || tag == t.tag + 1) &&
    ((typ == 0 && abOk b) || write)
  let course := if tag == t.tag then c.n else c.n + 1
  let (kd, key) := keyOf b
  guarded s (valid && !(c.applied.any fun x => x.kind == kd && (kd == 0 || x.key == key) && x.course == course)) <|
    s.onStage a fun c =>
      let c : Stage := { c with
        applied := c.applied ++ [{ kind := kd, key := key, course := course, link := rx.link, body := b }]
        tb := alter c.tb rx.link.num fun t => { t with lastFrame := some c.n } }
      if write then
        let at_ := if course ≤ c.n then c.n + 1 else course
        { c with maint := c.maint ++ [(at_, fb b 47 40, fb b 31 0)] }
      else
        let c : Stage := { c with lastValid := some c.n }
        if course = c.n then { c with body := b, fallback := false, tripped := c.tripped && !abFloats b } else c

/-- A STATUS body as a leaf takes it: it waits for the next seal (R37). -/
def Leaf.takeStage (L : Leaf) (a : Nat) (b : BitVec 128) : Leaf :=
  { L with act := { L.act with actrs := alter L.act.actrs a fun A => { A with rx := b, fresh := true } } }

/-- ACTUATOR_STATUS (R368): the STATUS frame of the previous course, to the leaves whose link carried it. -/
def execActuatorStatus (stage : Fin 3) (ok0 ok1 : Bool) (m : StageMeas) (s : State) : Done :=
  let a := stage.val
  let s := if (s.stage a).due then s else s.onStage a Stage.boundary
  let c := s.stage a
  let zc := (c.ended.toNat >>> 106) % 2
  let b := c.ended ||| BitVec.ofNat 128 (((zc * m.read.toNat) <<< 103) + (m.iMean.toNat <<< 83) + (bit m.ilim <<< 78) +
    (m.temp.toNat <<< 69) + (m.vin.toNat <<< 61))
  let s := s.onStage a fun c => { c with due := false }
  let s := if ok0 then s.on .leaf0 fun L => L.takeStage a b else s
  .next (if ok1 then s.on .leaf1 fun L => L.takeStage a b else s)

/-- ACTUATOR_FALLBACK (R366): no valid frame has arrived for 2 courses. -/
def execActuatorFallback (stage : Fin 3) (s : State) : Done :=
  let c := s.stage stage
  let out := match c.lastValid with
    | some n => decide (n + 2 ≤ c.n)
    | none => true
  guarded s out (s.onStage stage fun c => { c with fallback := true, body := 0, blank := none, onAt := none })

/-- HARD_OVERCURRENT (R365, R377): the shunt above 40 A; the leaves take it from the STATUS frame. -/
def execHardOvercurrent (stage : Fin 3) (milliAmp : Nat) (s : State) : Done :=
  guarded s (decide (40000 < milliAmp)) <| s.onStage stage fun c => { c with tripped := true, hardOc := true }

/-- BOOTSTRAP_UNDERVOLTAGE (R365, R378): the high side of the phase in PWM off at once, a refresh pulse inserted. -/
def execBootstrapUndervoltage (stage : Fin 3) (phase : Fin 3) (tick : Fin 4000) (mv : Nat) (s : State) : Done :=
  let c := s.stage stage
  let m := if tick.val < abCt c.body then abModeA c.body phase else abModeB c.body phase
  guarded s (decide (mv < 8000)) <| s.onStage stage fun c =>
    let c : Stage := { c with bstUv := c.bstUv ||| (1#3 <<< (2 - phase.val)) }
    if m = 2 ∧ c.fallback = false ∧ c.tripped = false then { c with blank := some tick.val, refresh := true } else c

end Sys2Proof.Machine
end

