-- ==== Sys2Proof/Machine/Actuator.lean ====
section
/-! DEFINITION. The gearbox actuators as a leaf runs them (R366 to R391): commutation, moves, stage faults, the shift
sequence, the park lock, the pump, and the commands of the chapter. -/

namespace Sys2Proof.Machine

open Sys2Proof

def Leaf.onAct (L : Leaf) (f : Act → Act) : Leaf := { L with act := f L.act }
def Leaf.actr (L : Leaf) (a : Nat) : Actr := pick L.act.actrs a
def Leaf.onActr (L : Leaf) (a : Nat) (f : Actr → Actr) : Leaf := L.onAct fun A => { A with actrs := alter A.actrs a f }

/-- The state of an actuator (R375). -/
def Leaf.actState (L : Leaf) (a : Nat) : Nat := L.get ACT_CHSTAT_STATE a

/-- Bits of an actuator in ACT_FLT: 0 LOCK, 1 BOOT, 2 STAGE (R398). -/
def actFlt (a k : Nat) : Fld := ⟨ACT_FLT, 3 * a + k, 3 * a + k⟩

/-- Bits of a STATUS body (R368). -/
def Actr.st (A : Actr) (hi lo : Nat) : Nat := (A.status.toNat >>> lo) % 2 ^ (hi + 1 - lo)

/-- The actuator moved to a state (R375). -/
def Leaf.moveAct (L : Leaf) (a st : Nat) : Leaf :=
  (L.put ACT_CHSTAT_STATE st a).onActr a fun A => { A with stateAt := L.count }

/-- The shift code of ACT_STAT (R385, R386). -/
def Leaf.shiftCode (L : Leaf) : Nat := L.get ACT_STAT_SHIFT
def Leaf.shifting (L : Leaf) : Bool := decide (L.shiftCode ≠ 0)

/-- What the registers show of an actuator (R396, R397). -/
def Leaf.showAct (L : Leaf) (a : Nat) : Leaf :=
  let A := L.actr a
  let rate := if L.actState a = 4 ∧ A.sec ≠ 0 then min 65535 (640000000 / A.sec) else 0
  let L := L.put ACT_CHSTAT_DUTY (min 1023 (Config.rnd (A.duty * 1000)).toNat) a |>.put ACT_CHSTAT_RATE rate a
    |>.put ACT_CHSTAT_COUNT (satSigned 16 A.count) a
  if a = 0 then L.put ACT_STAT_DRUM_POS (satSigned 16 A.count) else L

/-! ### Positions -/

def Leaf.neutPos (L : Leaf) : Int := L.get ACT_DRUM_NEUT_POS
def Leaf.g2Pos (L : Leaf) : Int := L.get ACT_DRUM_G2_POS
def Leaf.gearTol (L : Leaf) : Int := L.get ACT_DRUM_GEAR_TOL
def Leaf.stopAhead (L : Leaf) : Int := L.get ACT_DRUM_STOP_AHEAD

/-- The end stop of a gear (R382). -/
def Leaf.gearPos (L : Leaf) (g : Nat) : Int := if g = 2 then L.g2Pos else 0

/-- The detent nearest to DRUM_POS: 1, 2, or 3 for neutral (R379, R386). -/
def Leaf.nearestDetent (L : Leaf) : Nat :=
  let p := (L.actr 0).count
  let d := fun (x : Int) => (p - x).natAbs
  let n := d L.neutPos
  if n ≤ d 0 ∧ n ≤ d L.g2Pos then 3 else if d L.g2Pos < d 0 then 2 else 1

/-- The settings value of R382 written at a completed stop. -/
def Leaf.saveDrum (L : Leaf) : Leaf :=
  let sec := [L.get ACT_CHSTAT_SECTOR 0, L.get ACT_CHSTAT_SECTOR 1, L.get ACT_CHSTAT_SECTOR 2]
  let v : ActSaved := ⟨L.get ACT_STAT_GEAR, (L.actr 0).count, L.get ACT_STAT_PARK, sec⟩
  if L.on ACT_STAT_REFERENCED then L.onAct fun A => { A with saved := some v } else L

/-- The settings value taken up after BOOT (R373, R382). -/
def Leaf.loadDrum (L : Leaf) : Leaf :=
  match L.act.saved with
  | none => L.put ACT_STAT_GEAR 0 |>.put ACT_STAT_REFERENCED 0
  | some v =>
    let L := L.put ACT_STAT_GEAR v.gear |>.put ACT_STAT_REFERENCED 1 |>.put ACT_STAT_PARK (if v.park = 3 then 0 else v.park)
    let L := (List.range 3).foldl (fun L a => L.put ACT_CHSTAT_SECTOR (v.sectors.getD a 0) a) L
    let L := L.onActr 0 fun A => { A with count := v.pos }
    let L := L.onActr 1 fun A => { A with count := if v.park = 2 then (L.get ACT_DRUM_PARK_TRAVEL : Int) else 0 }
    (L.showAct 0).showAct 1

/-- DRUM_POS is no longer known (R382). -/
def Leaf.loseDrum (L : Leaf) : Leaf :=
  (L.put ACT_STAT_REFERENCED 0 |>.put ACT_STAT_GEAR 0).onAct fun A => { A with saved := none }

/-! ### Moves -/

/-- A move commanded (R373, R375): kind 1 to a count, 2 into an end stop, 3 REFERENCE, 4 the pump. -/
def Leaf.startMove (L : Leaf) (a kind : Nat) (target : Int) : Leaf :=
  let A := L.actr a
  let dir : Int := if kind = 3 then -1 else if kind = 4 then 1 else if target < A.count then -1 else 1
  (L.onActr a fun A => { A with
    kind := kind, dir := dir, target := target, duty := 0, prev := none, zcLast := none, sampled := false, found := false
    run := 0, sec := 0, step := 0, comm := none }).moveAct a 2

/-- The target count less STOP_AHEAD in the direction of travel has been reached (R374). -/
def Leaf.nearTarget (L : Leaf) (a : Nat) : Bool :=
  let A := L.actr a
  decide ((A.target - A.count) * A.dir ≤ L.stopAhead)

/-- The count lies within GEAR_TOL of the end position (R374). -/
def Leaf.atEnd (L : Leaf) (a : Nat) : Bool :=
  let A := L.actr a
  decide (((A.count - A.target).natAbs : Int) ≤ L.gearTol)

/-- Every phase floats and the sector is remembered (R374, R375). -/
def Leaf.rest (L : Leaf) (a : Nat) : Leaf :=
  ((L.onActr a fun A => { A with kind := 0, duty := 0, comm := none }).moveAct a 1).showAct a

/-! ### The shift sequence -/

/-- The phase of the traction side (R281). -/
def Leaf.tracPhase (L : Leaf) (p : Nat) : Leaf :=
  let L : Leaf := { L with trc := { L.trc with
    phase := p, syncFrom := if p = 3 then L.count else L.trc.syncFrom, syncRun := if p = 3 then 0 else L.trc.syncRun
    syncLate := false } }
  L.showSync

/-- The ratio of a gear; 0 where there is none. -/
def Leaf.ratio (L : Leaf) (g : Nat) : Rat :=
  if g = 1 then (L.get ACT_SHIFT_RATIO1 : Rat) / 100 else if g = 2 then (L.get ACT_SHIFT_RATIO2 : Rat) / 100 else 0

/-- Speed of the gearbox input in rpm: of the first machine with an angle source (R384, R389). -/
def Leaf.inputRpm (L : Leaf) : Option Rat :=
  if L.on POS_STAT_SRC 0 then some (L.rpm 0) else if L.on POS_STAT_SRC 1 then some (L.rpm 1) else none

/-- A vehicle speed in 0.01 km/h as rpm of the output shaft (R389). -/
def Leaf.wheelRpm (L : Leaf) (v : Rat) : Option Rat :=
  let c := L.get ACT_SHIFT_WHEEL_CIRC
  if c = 0 then none else some (v * 10000 / (60 * c))

/-- VSPEED while it is valid (R381). -/
def Leaf.vspeed (L : Leaf) : Option Int :=
  if L.act.vspeedAt.any fun c => decide (since L.count c < 160000) then some L.act.vspeed else none

/-- The output-shaft speed in rpm (R385): from the engaged ratio, or from neutral the value of the seal that began
TO_NEUTRAL, advanced by the change of VSPEED. -/
def Leaf.outputRpm (L : Leaf) : Rat :=
  let g := L.get ACT_STAT_GEAR
  let r := L.ratio g
  if (g = 1 ∨ g = 2) ∧ r ≠ 0 then (L.inputRpm.getD 0) / r
  else match L.act.outV, L.vspeed with
    | some v0, some v => L.act.outSpeed + (L.wheelRpm ((v - v0 : Int) : Rat)).getD 0
    | _, _ => L.act.outSpeed

/-- The gear SYNC drives towards. -/
def Leaf.syncGear (L : Leaf) : Nat := if L.shiftCode = 6 then L.act.prevGear else L.act.shiftTo

/-- n_t (R281). -/
def Leaf.syncTarget (L : Leaf) : Rat := L.outputRpm * L.ratio L.syncGear

/-- The shift sequence ends: completed, returned or failed (R381, R385, R386). -/
def Leaf.endShift (L : Leaf) (code : Nat) : Leaf :=
  let g := L.get ACT_STAT_GEAR
  let L := (L.put ACT_STAT_SHIFT 0).put ACT_STAT_PAST_PNR 0
  let L := L.onAct fun A => { A with retStep := 0, retAsked := false, engFrom := none, noA0 := false }
  if code = 0x070A then
    let t := min 65535 (since L.count L.act.shiftAt / 16)
    ((L.put ACT_STAT_SHIFT_T t).bump ACT_CNT_SHIFTS).event code g t
  else L.event code g

/-- A gear is engaged: GEAR, and what it clears (R385 to R387). -/
def Leaf.engage (L : Leaf) (g : Nat) : Leaf :=
  (L.put ACT_STAT_GEAR g |>.put ACT_STAT_NEUTRAL_HELD 0).saveDrum

/-- A return that cannot finish (R386): GEAR takes the detent nearest to DRUM_POS. -/
def Leaf.failReturn (L : Leaf) : Leaf :=
  let g := L.nearestDetent
  let L := L.onActr 0 fun A => { A with count := if g = 3 then L.neutPos else L.gearPos g }
  let L := ((L.put ACT_STAT_GEAR g).showAct 0).saveDrum
  let L := if g = 3 then (((L.put ACT_STAT_NEUTRAL_HELD 1).stick ACT_FLT_SHIFT_FAIL).tracPhase 2) else L.tracPhase 5
  L.endShift 0x070C

/-- The return of a shift goes on from where the drum stands (R386). -/
def Leaf.stepReturn (L : Leaf) : Leaf :=
  let g := L.act.prevGear
  let step := fun (L : Leaf) (k : Nat) => L.onAct fun A => { A with retStep := k }
  if L.actState 0 = 7 then (if L.act.retStep = 3 then L else L.failReturn)
  else match L.act.retStep with
    | 0 =>
      -- the drum still in the previous gear, at neutral, or between
      let busy := decide (2 ≤ L.actState 0) && decide (L.actState 0 ≤ 4)
      if L.get ACT_STAT_GEAR = g ∧ (L.actr 0).count = L.gearPos g then
        (step (if busy then L.rest 0 else L) 3).tracPhase 5
      else if L.actState 0 = 6 ∨ L.actState 0 = 5 then step L 4
      else if L.get ACT_STAT_GEAR = 3 ∧ (((L.actr 0).count - L.neutPos).natAbs : Int) ≤ L.gearTol then
        (step (if busy then L.rest 0 else L) 1).tracPhase 3
      else ((step L 2).tracPhase 4).startMove 0 2 (L.gearPos g)
    | 1 =>
      if L.trc.syncLate then L.failReturn
      else if 160 ≤ L.trc.syncRun then ((step L 2).tracPhase 4).startMove 0 2 (L.gearPos g)
      else L
    | 3 => if L.trc.phase = 0 then L.endShift 0x070B else L
    | 4 => if L.actState 0 = 1 ∨ L.actState 0 = 4 then ((step L 2).tracPhase 4).startMove 0 2 (L.gearPos g) else L
    | _ => L

/-- The shift sequence in A0's block of a course (R385, R386). -/
def Leaf.stepShift (L : Leaf) : Leaf :=
  match L.shiftCode with
  | 1 =>
    if L.trc.phase = 2 then
      let L := L.onAct fun A => { A with outSpeed := L.outputRpm, outV := L.vspeed }
      (L.put ACT_STAT_SHIFT 2).startMove 0 1 L.neutPos
    else L
  | 3 =>
    if 160 ≤ L.trc.syncRun then
      ((L.put ACT_STAT_SHIFT 4).tracPhase 4).startMove 0 2 (L.gearPos L.act.shiftTo)
    else L
  | 4 =>
    let p := (L.actr 0).count
    let o : Int := L.get ACT_DRUM_PNR_OFS
    let past := if L.act.shiftTo = 2 then decide (L.neutPos + o < p) else decide (p < L.neutPos - o)
    if past then L.put ACT_STAT_PAST_PNR 1 else L
  | 5 => if L.trc.phase = 0 then L.endShift 0x070A else L
  | 6 => L.stepReturn
  | _ => L

/-- A lasting A0 fault (R386 to R388): past the point of no return the hold begins; a move outside a shift that was under
way leaves the drum unknown. -/
def Leaf.lostA0 (L : Leaf) (moving : Bool) : Leaf :=
  if L.shiftCode = 4 ∧ L.on ACT_STAT_PAST_PNR = true then L.onAct fun A => { A with engFrom := some L.count }
  else if !L.shifting && moving then L.loseDrum
  else L

/-! ### Faults of a stage -/

/-- A lasting fault: FAULT, in the safe posture (R375, R379). -/
def Leaf.lastActFault (L : Leaf) (a : Nat) : Leaf :=
  let moving := decide ((L.actr a).kind ≠ 0)
  let L := ((L.onActr a fun A => { A with kind := 0, duty := 0, comm := none, vin := false }).moveAct a 7).showAct a
  if a = 0 then L.lostA0 moving else if a = 1 ∧ moving = true then L.put ACT_STAT_PARK 0 else L

/-- A locked rotor, a hard overcurrent or an overtemperature (R377): WAIT, or FAULT on a recurrence within 160,000
courses. `k` is the bit of ACT_FLT; a lasting A2 fault posts its event (R390). -/
def Leaf.actFault (L : Leaf) (a k : Nat) : Leaf :=
  let st := L.actState a
  if st = 0 ∨ st = 7 ∨ st = 6 then L
  else if (L.actr a).faultAt.any fun c => decide (since L.count c ≤ 160000) then
    let L := (L.lastActFault a).onActr a fun A => { A with faultAt := none }
    if a = 2 then L.raise (actFlt a k) else L.stick (actFlt a k)
  else ((L.onActr a fun A => { A with duty := 0, comm := none, faultAt := some L.count, vin := false }).moveAct a 6).showAct a

/-- STATUS frames latched at the seal, and the stage temperatures (R37, R368, R410). -/
def Leaf.latchStages (L : Leaf) : Leaf :=
  (List.range 3).foldl (fun L a =>
    let A := L.actr a
    let L := L.onActr a fun A => { A with
      status := if A.fresh then A.rx else A.status, latched := A.fresh, fresh := false }
    if !A.fresh then L
    else
      let A := L.actr a
      let L : Leaf := { L with thm := { L.thm with
        act := L.thm.act.setIfInBounds a (some (16 * ((A.st 76 69 : Int) - 64))) } }
      L.put ACT_CHSTAT_I_MEAN (A.st 90 83) a |>.put ACT_CHSTAT_TEMP (A.st 76 69) a) L

/-- What the leaf does with a latched STATUS frame (R366, R377, R378, R380). -/
def Leaf.judgeStage (L : Leaf) (a : Nat) : Leaf :=
  let A := L.actr a
  -- faults that did not recur
  let L := if A.faultAt.any fun c => decide (160000 < since L.count c) then
      (L.bump ACT_CNT_TRANS).onActr a fun A => { A with faultAt := none } else L
  let L := if A.bstAt.any fun c => decide (16000 < since L.count c) then
      (L.bump ACT_CNT_TRANS).onActr a fun A => { A with bstAt := none } else L
  if !A.latched then L
  else
    let L := if A.st 79 79 = 1 then L.bump ACT_CNT_REFRESH else L
    let L := if A.st 77 77 = 1 ∨ 214 < A.st 76 69 then L.actFault a 2 else L
    let live := decide (L.actState a ≠ 0) && decide (L.actState a ≠ 7)
    let L := if A.st 82 80 ≠ 0 ∧ live = true then
        if A.bstAt.any fun c => decide (since L.count c ≤ 16000) then
          let L := (L.lastActFault a).onActr a fun A => { A with bstAt := none }
          if a = 2 then L.raise (actFlt a 1) else L.stick (actFlt a 1)
        else L.onActr a fun A => { A with bstAt := some L.count }
      else L
    -- no valid frame at A0 during a shift
    if a = 0 ∧ A.st 107 107 = 1 ∧ L.shifting = true ∧ L.actState 0 ≠ 7 then
      (L.lastActFault 0).onActr 0 fun A => { A with byFallback := true }
    else if a = 0 ∧ A.st 107 107 = 0 ∧ A.byFallback = true ∧ L.actState 0 = 7 then
      (L.moveAct 0 1).onActr 0 fun A => { A with byFallback := false }
    else L

/-- ACT_VIN on HK19 (R376): 40.96 V full scale. -/
def Leaf.sealVin (L : Leaf) (inp : SealIn) : Leaf :=
  match inp.hk.getD 19 none with
  | none => L
  | some code =>
    let mv := hkMv (code % 4096) 40960
    let out := decide (mv < 17000) || decide (33000 < mv)
    let inside := decide (18000 ≤ mv) && decide (mv ≤ 32000)
    let bad := L.act.vinBad
    let L := L.onAct fun A => { A with
      vinBad := if out then A.vinBad + 1 else 0
      vinFrom := if inside then some (A.vinFrom.getD L.count) else none }
    if out && decide (bad + 1 = 2) then
      let L := (L.stick ACT_FLT_VIN).onAct fun A => { A with vinStop := true }
      (List.range 3).foldl (fun L a =>
        if 2 ≤ L.actState a ∧ L.actState a ≤ 5 then
          ((L.onActr a fun A => { A with duty := 0, comm := none, vin := true }).moveAct a 6).showAct a
        else L) L
    else if !out && decide (bad = 1) then L.bump ACT_CNT_TRANS
    else L

/-- The actuators' part of a seal (R376 to R380). -/
def Leaf.sealActuators (L : Leaf) (inp : SealIn) : Leaf :=
  let L := L.sealVin inp
  let L := ((L.judgeStage 0).judgeStage 1).judgeStage 2
  -- frames to A0 wait until the partner's shift ends
  let L := match inp.partner.find? fun x => x.1 == 11 && x.2.1 == 0xFF with
    | some (_, _, v) => if v >>> 59 % 8 = 0 then L.onAct fun A => { A with noA0 := false } else L
    | none => L
  let L := (List.range 3).foldl (fun L a =>
    let (L, d) := differStep L inp 11 a (L.word ACT_CHSTAT a).toNat 63 61 (L.actr a).differs
    L.onActr a fun A => { A with differs := d }) L
  let (L, d) := differStep L inp 11 0xFF (L.word ACT_STAT).toNat 63 59 L.act.differs
  L.onAct fun A => { A with differs := d }

/-! ### Commutation -/

/-- Phase in PWM, phase low side on, floating phase of a sector (R369). -/
def pwmPhase (s : Nat) : Nat := s / 2 % 3
def lowPhase (s : Nat) : Nat := [1, 2, 2, 0, 0, 1].getD s 0
def floatPhase (s : Nat) : Nat := [2, 1, 0, 2, 1, 0].getD s 0

/-- Modes of phases u, v, w in a sector. -/
def sectorModes (s : Nat) : List Nat :=
  (List.range 3).map fun x => if x = pwmPhase s then 2 else if x = lowPhase s then 1 else 0

/-- The next sector in a direction. -/
def nextSector (s : Nat) (dir : Int) : Nat := if dir < 0 then (s + 5) % 6 else (s + 1) % 6

/-- The reading of the floating phase after its expected change: falling in even sectors, rising in odd ones (R369). -/
def expectedLevel (s : Nat) : Nat := s % 2

/-- A commutation: the next sector, the count, and the search for the next zero crossing (R369, R371). -/
def Leaf.commutate (L : Leaf) (a : Nat) : Leaf :=
  let A := L.actr a
  (L.put ACT_CHSTAT_SECTOR (nextSector (L.get ACT_CHSTAT_SECTOR a) A.dir) a).onActr a fun A => { A with
    count := A.count + A.dir, lastComm := L.count, comm := none, prev := none, sampled := false
    run := if A.found then A.run else 0, found := false }

/-- The fine time of a tick of a course. -/
def Leaf.fineOfTag (L : Leaf) (tag tick : Nat) : Fine :=
  let d : Int := signed 16 (tag + 2 ^ 16 - L.count.toNat % 2 ^ 16)
  fineAt (L.count + BitVec.ofInt 48 d) tick

/-- The rule of R371 on the sample of the latched STATUS frame: the crossing, S, and the commutation placed. -/
def Leaf.zeroCrossing (L : Leaf) (a : Nat) : Leaf :=
  let A := L.actr a
  if !A.latched || A.st 106 106 != 1 then L
  else
    let sec := L.get ACT_CHSTAT_SECTOR a
    let reading := (A.st 105 103 >>> (2 - floatPhase sec)) % 2
    let t := L.fineOfTag (A.st 125 110) (A.st 102 91)
    let L' := L.onActr a fun A => { A with prev := some (t, reading), sampled := true }
    if !A.sampled then L'
    else match A.prev with
      | none => L'
      | some (p, was) =>
        if A.found || reading != expectedLevel sec || was == reading then L'
        else
          let half := (t - p).toNat / 2
          let zc := t - BitVec.ofNat 32 half
          let S := match A.zcLast with
            | some z => (zc - z).toNat
            | none => 0
          -- 30 degrees later, from the start of this course in fine ticks
          let ahead : Int := signed 32 ((zc + BitVec.ofNat 32 (S / 2)) - fineAt L.count 0).toNat
          let place := L.actState a == 4 || decide (1 ≤ A.run)
          let late := decide (ahead < 4000)
          let comm := if A.zcLast.isNone then none
            else if late then some (after L.count 1, 0)
            else some (after L.count (ahead.toNat / 4000), ahead.toNat % 4000)
          let L' := L'.onActr a fun A => { A with
            found := true, zcLast := some zc, sec := if S = 0 then A.sec else S, run := A.run + 1
            comm := if place then comm else A.comm }
          if place && late && comm.isSome then L'.bump ACT_CNT_LATE_COMM else L'

/-- The duty of the coming period (R370, R372 to R374, R390). -/
def Leaf.actDutyStep (L : Leaf) (a block : Nat) : Leaf :=
  let A := L.actr a
  let st := L.actState a
  let floor : Rat := (16 * L.get ACT_CTRL_ZC_WIN : Nat) / (32000 : Rat)
  let window := A.kind == 2 && L.nearTarget a
  let free := clampRat 0 (975 / 1000) (Config.actDuty st A.duty (A.st 90 83) (4 * L.get ACT_CFG_ALIGN_I a))
  let L := L.put ⟨ACT_STAT, 51 + a, 51 + a⟩ 0
  if st = 2 then L.onActr a fun A => { A with duty := free }
  else if st = 3 then L.onActr a fun A => { A with duty := free }
  else if st ≠ 4 then L.onActr a fun A => { A with duty := 0 }
  else
    let rpm : Rat := if A.sec = 0 then 0 else (640000000 : Rat) / A.sec * 60 / (6 * L.get ACT_CFG_POLE_PAIRS a)
    let (L, want) :=
      if a = 2 then
        let q := fun (x : Rat) => clampInt qMin qMax (Config.rnd (x / 65536 * ((2 ^ 31 : Nat) : Rat)))
        let (L, y) := L.runLoop block 0 (q L.act.pump) (q rpm) 0 qMax none
        (L, clampRat 0 (975 / 1000) (q31 y))
      else if window then (L, (L.get ACT_CFG_GEAR_D a : Rat) / 256)
      else (L, free)
    let short := A.sec != 0 && decide (A.sec < 26 * 4000)
    let tooShort := A.sec != 0 && decide (A.sec < 24 * 4000)
    let d := if tooShort then A.duty - 1 / 64 else if short then min want A.duty else want
    let low := decide (d < floor)
    let d := min (975 / 1000) (if low then floor else d)
    (L.put ⟨ACT_STAT, 51 + a, 51 + a⟩ (bit (low || tooShort || (short && decide (A.duty < want))))).onActr a fun A =>
      { A with duty := d }

/-- A forced step of START (R373): each step is a commutation and holds its sector for the step's duration. -/
def Leaf.stepDuration (L : Leaf) (a i : Nat) : Nat :=
  let n := L.get ACT_CFG_START_N a
  let p0 := 16 * L.get ACT_CFG_START_P0 a
  let p1 := 4 * L.get ACT_CFG_START_P1 a
  if i ≤ 1 then p0 else if n ≤ i then p1 else Config.startStep p0 p1 n i

/-- The start has failed: step START_N is over without two zero crossings (R373). -/
def Leaf.startFailed (L : Leaf) (a : Nat) : Bool :=
  let A := L.actr a
  L.actState a == 3 && decide (L.get ACT_CFG_START_N a ≤ A.step) &&
    decide (L.stepDuration a A.step ≤ since L.count A.stepAt)

/-- The frame of an actuator for the following course (R367, R369, R370, R374). -/
def Leaf.sendStage (L : Leaf) (a : Nat) : Leaf :=
  let A := L.actr a
  let st := L.actState a
  let next := after L.count 1
  let sec := L.get ACT_CHSTAT_SECTOR a
  let send := fun (b : BitVec 72) => if a = 0 ∧ L.act.noA0 = true then L else L.emitFor (2 + a) (.act a b)
  if st = 5 then send (stageBody (tagOf next) [1, 1, 1] [1, 1, 1] 0xFFF false [])
  else if st < 2 ∨ 4 < st ∨ L.act.vinStop = true then send (stageBody (tagOf next) [0, 0, 0] [0, 0, 0] 0xFFF false [])
  else
    let k := courseInPeriod next 8 (3 * a)
    let half : Int := Config.rnd (A.duty * 16000)
    let es : List (Int × Bool) := if half ≤ 0 then [] else [(16000 - half, true), (16000 + half, false)]
    let here := (inCourse k es).map (·.2.1)
    let a0 : Int := ((4000 * k : Nat) : Int)
    let level := decide (16000 - half < a0) && decide (a0 ≤ 16000 + half) && decide (0 < half)
    let ct := match A.comm with
      | some (c, t) => if c = next then t else 0xFFF
      | none => 0xFFF
    let modes := sectorModes sec
    let after_ := if ct = 0xFFF then modes else sectorModes (nextSector sec A.dir)
    send (stageBody (tagOf next) modes after_ ct level here)

/-- An actuator's fill block (R369 to R374, R385, R390); outside CARRY it sends no frame (R366). -/
def Leaf.actuatorBlock (L : Leaf) (a block : Nat) (carry : Bool) : Leaf :=
  let L := L.clearProbe block
  -- the commutation sent for this course takes place in it
  let L := if (L.actr a).comm.any fun c => decide (c.1 = L.count) then L.commutate a else L
  let st := L.actState a
  let L := if st = 3 ∨ st = 4 then L.zeroCrossing a else L
  let L :=
    if L.actState a = 3 then
      let A := L.actr a
      if 2 ≤ A.run then (L.moveAct a 4).onActr a fun A => { A with run := 0 }
      else if decide (A.step < L.get ACT_CFG_START_N a) && (decide (A.step = 0) ||
          decide (L.stepDuration a A.step ≤ since L.count A.stepAt)) then
        (L.onActr a fun A => { A with step := A.step + 1, stepAt := L.count, comm := some (after L.count 1, 0) })
      else L
    else L
  let L := if courseInPeriod (L.count + 1) 8 (3 * a) = 0 then L.actDutyStep a block else L
  -- the pump below three zero crossings in 16,000 courses, and at setpoint 0
  let L :=
    if a = 2 ∧ 2 ≤ L.actState 2 ∧ L.actState 2 ≤ 4 then
      let slow := L.actState 2 == 4 && decide (16000 < 3 * since L.count (L.actr 2).lastComm)
      if L.act.pump = 0 ∨ slow = true then L.rest 2 else L
    else L
  let L := if a = 0 then L.stepShift else L
  (if carry then L.sendStage a else L).showAct a

/-- A write of ACT_CTRL or ACT_CFG reaches the stage in MAINT frames (R367). -/
def Leaf.configStage (L : Leaf) (a : Nat) : Leaf :=
  let next := after L.count 1
  let w := fun (L : Leaf) (item : Nat) (v : Nat) => L.emit (.act a (maintBody (tagOf next) 1 item v))
  let c := (L.word ACT_CTRL).toNat
  let f := (L.word ACT_CFG a).toNat
  w (w (w (w L 0 (c % 2 ^ 32)) 1 (c / 2 ^ 32)) 2 (f % 2 ^ 32)) 3 (f / 2 ^ 32)

/-- EN committed (R375): 1 ends DISABLED; 0 ends FAULT and IDLE. -/
def Leaf.commitActEn (L : Leaf) (a : Nat) (en : Bool) : Leaf :=
  let st := L.actState a
  if en && st == 0 then (L.moveAct a 1).showAct a
  else if !en && (st == 7 || st == 1) then
    (L.moveAct a 0).onActr a fun A => { A with faultAt := none, bstAt := none, byFallback := false }
  else L

/-! ### Requests -/

/-- An actuator whose stage sensor has tripped refuses new moves (R406). -/
def Leaf.actHot (L : Leaf) (a : Nat) : Bool := (L.tsensor (60 + a)).trip

/-- A SHIFT request (R384, R386). -/
def Leaf.useShift (L : Leaf) (h : Hdr) (target : Nat) : Leaf :=
  let refuse := L.complete h 0x0201
  if target ≠ 1 ∧ target ≠ 2 then L.complete h 0x0105 0 18
  else if L.shifting then
    if L.shiftCode ≠ 6 ∧ L.shiftCode ≠ 5 ∧ L.on ACT_STAT_PAST_PNR = false ∧ target = L.act.prevGear ∧ target ≠ L.act.shiftTo then
      (L.onAct fun A => { A with retAsked := true }).complete h 0x0000
    else refuse
  else
    let g := L.get ACT_STAT_GEAR
    let zero := L.get ACT_DRUM_NEUT_POS = 0 ∨ L.get ACT_DRUM_G2_POS = 0 ∨ L.get ACT_SHIFT_RATIO1 = 0 ∨ L.get ACT_SHIFT_RATIO2 = 0
    let n := ratAbs (L.outputRpm * L.ratio target)
    let fast := [0, 1].any fun m =>
      let mx := L.get POS_OBS_SPD_MAX m
      decide (mx ≠ 0) && decide ((95 : Rat) / 100 * mx < n)
    if L.actState 0 ≠ 1 ∨ L.on ACT_STAT_REFERENCED = false ∨ target = g ∨ L.get ACT_STAT_PARK ≠ 1 ∨ zero ∨ fast = true ∨
        L.actHot 0 = true then
      refuse
    else
      let L := L.onAct fun A => { A with
        shiftTo := target, prevGear := if g = 3 then A.prevGear else g, shiftAt := L.count, retStep := 0, retAsked := false
        engFrom := none }
      let L := L.put ACT_STAT_PAST_PNR 0
      (if g = 3 then (L.put ACT_STAT_SHIFT 3).tracPhase 3 else (L.put ACT_STAT_SHIFT 1).tracPhase 1).complete h 0x0000

/-- The larger of the two estimates of the output-shaft speed, where each is available (R389). -/
def Leaf.parkSpeed (L : Leaf) : Option Rat :=
  let g := L.get ACT_STAT_GEAR
  let r := L.ratio g
  let a := if r = 0 then none else L.inputRpm.map fun n => ratAbs n / r
  let b := L.vspeed.bind fun v => L.wheelRpm (v.natAbs : Rat)
  match a, b with
  | some x, some y => some (max x y)
  | some x, none => some x
  | none, y => y

/-- Park moves (R389). -/
def Leaf.usePark (L : Leaf) (h : Hdr) (engage : Bool) : Leaf :=
  let refuse := L.complete h 0x0201
  if L.actState 1 ≠ 1 ∨ L.actHot 1 = true then refuse
  else if engage then
    let limit := L.wheelRpm (10 * L.get ACT_SHIFT_PARK_SPD : Nat)
    let slow := match L.parkSpeed, limit with
      | some v, some l => decide (v < l)
      | _, _ => false
    let still := [0, 1].all fun m => decide (L.hostRequest m = 0)
    if slow && still && !L.shifting then
      ((L.put ACT_STAT_PARK 3).startMove 1 2 (L.get ACT_DRUM_PARK_TRAVEL)).complete h 0x0000
    else refuse
  else ((L.put ACT_STAT_PARK 3).startMove 1 1 0).complete h 0x0000

/-- REFERENCE (R383). -/
def Leaf.useReference (L : Leaf) (h : Hdr) : Leaf :=
  if L.on POS_STAT_STILL 0 && L.on POS_STAT_STILL 1 && decide (L.get ACT_STAT_PARK = 2) && !L.shifting &&
      decide (L.actState 0 = 1) && !L.actHot 0 then
    (L.startMove 0 3 0).complete h 0x0000
  else L.complete h 0x0201

/-- The pump setpoint (R381, R390). -/
def Leaf.usePump (L : Leaf) (rpm : Nat) : Leaf :=
  let L := L.onAct fun A => { A with pump := rpm }
  let slow := decide (rpm * (6 * L.get ACT_CFG_POLE_PAIRS 2) * 16000 < 3 * 60 * 160000)
  if rpm = 0 ∨ slow = true then
    (if 2 ≤ L.actState 2 ∧ L.actState 2 ≤ 4 then L.rest 2 else L)
  else if L.actState 2 = 1 ∧ L.actHot 2 = false then L.startMove 2 4 0
  else L

/-- VSPEED and PUMP as a descriptor with their flags gives them (R381). -/
def Leaf.takeSpeeds (L : Leaf) (d : Slot) : Leaf :=
  let fl := sl d 17 1
  let L := if fl / 16 % 2 = 1 then
      L.onAct fun A => { A with vspeed := signed 16 (sl d 22 2), vspeedAt := some L.count } else L
  if fl / 8 % 2 = 1 then L.usePump (sl d 20 2) else L

/-- An ACTUATOR descriptor used at a seal (R381). -/
def Leaf.useActuator (L : Leaf) (h : Hdr) (d : Slot) : Leaf :=
  let fl := sl d 17 1
  let cmds := [0, 1, 2, 5].filter fun k => fl / 2 ^ k % 2 = 1
  if 64 ≤ fl ∨ 1 < cmds.length then L.complete h 0x0105 0 17
  else
    let L := L.takeSpeeds d
    match cmds with
    | [0] => L.useShift h (sl d 18 1)
    | [1] => L.usePark h true
    | [2] => L.usePark h false
    | [5] => L.useReference h
    | _ => L.complete h 0x0000

/-- An ACTUATOR descriptor read by the command that bears its one request flag; one with several is read by any. -/
def Leaf.actuatorDesc (L : Leaf) (own : Nat) (d : Desc) : Leaf :=
  let fl := sl d.bytes 17 1
  let req := fl % 8 + (fl / 32 % 2) * 32
  let several := 1 < ([0, 1, 2, 5].filter fun k => fl / 2 ^ k % 2 = 1).length
  if req = own ∨ several ∨ opcode d.bytes ≠ 0x50 then L.readDesc 0 0x50 d (fun L h => L.receive d.bytes h) else L

/-! ### Commands -/

/-- SHIFT (R381, R384). -/
def execShift (l : LeafId) (d : Desc) (s : State) : Done := onLeaf s l fun L => L.actuatorDesc 1 d

/-- PARK_ENGAGE (R381, R389). -/
def execParkEngage (l : LeafId) (d : Desc) (s : State) : Done := onLeaf s l fun L => L.actuatorDesc 2 d

/-- PARK_RELEASE (R381, R389). -/
def execParkRelease (l : LeafId) (d : Desc) (s : State) : Done := onLeaf s l fun L => L.actuatorDesc 4 d

/-- REFERENCE (R381, R383). -/
def execReference (l : LeafId) (d : Desc) (s : State) : Done := onLeaf s l fun L => L.actuatorDesc 32 d

/-- ACTUATOR (R381, R390). -/
def execActuator (l : LeafId) (d : Desc) (s : State) : Done := onLeaf s l fun L => L.actuatorDesc 0 d

/-- ALIGN_DONE (R373, R375). -/
def execAlignDone (l : LeafId) (a : Fin 3) (s : State) : Done :=
  let L := s.leaf l
  guarded s (decide (L.actState a = 2) && decide (16 * L.get ACT_CFG_ALIGN_T a ≤ since L.count (L.actr a).stateAt)) <|
    s.setLeaf l ((L.moveAct a 3).onActr a fun A => { A with step := 0, stepAt := L.count, run := 0, lastComm := L.count })

/-- LOCKED_ROTOR (R373, R375, R377): a failed start, or no commutation for LOCK_T courses outside an end-stop window. -/
def execLockedRotor (l : LeafId) (a : Fin 3) (s : State) : Done :=
  let L := s.leaf l
  let A := L.actr a
  let window := (A.kind == 2 && L.nearTarget a && L.atEnd a) || A.kind == 3
  guarded s (L.startFailed a || (decide (L.actState a = 4) && !window &&
      decide (L.get ACT_CTRL_LOCK_T ≤ since L.count A.lastComm))) <|
    s.setLeaf l (L.actFault a 0)

/-- An actuator resumes: its move from ALIGN, or IDLE where none is under way (R375). -/
def Leaf.resume (L : Leaf) (a : Nat) : Leaf :=
  let A := L.actr a
  let L := L.onActr a fun A => { A with vin := false }
  if A.kind = 0 then L.moveAct a 1 else L.startMove a A.kind A.target

/-- ACT_WAIT_EXPIRY (R375). -/
def execActWaitExpiry (l : LeafId) (a : Fin 3) (s : State) : Done :=
  let L := s.leaf l
  let A := L.actr a
  guarded s (decide (L.actState a = 6) && !A.vin && !L.act.vinStop &&
      decide (L.get ACT_CTRL_LOCK_WAIT ≤ since L.count A.stateAt)) <|
    s.setLeaf l (L.resume a)

/-- A move has come to rest (R374, R382, R385, R389). -/
def Leaf.stopped (L : Leaf) (a : Nat) : Leaf :=
  let A := L.actr a
  let L := (L.onActr a fun A => { A with count := A.target }).rest a
  if a = 0 then
    if L.shiftCode = 2 then
      (((L.put ACT_STAT_GEAR 3).saveDrum).put ACT_STAT_SHIFT 3).tracPhase 3
    else L.saveDrum
  else if a = 1 then
    let park := if A.target = 0 then 1 else 2
    ((L.put ACT_STAT_PARK park).saveDrum).event 0x070D park
  else L

/-- MOVE_END (R374, R375): the braking point, and 1,600 courses later the rest. -/
def execMoveEnd (l : LeafId) (a : Fin 3) (s : State) : Done :=
  let L := s.leaf l
  let A := L.actr a
  if decide (L.actState a = 4) && decide (A.kind = 1) && L.nearTarget a then
    .next (s.setLeaf l (((L.onActr a fun A => { A with duty := 0, comm := none }).moveAct a 5).showAct a))
  else guarded s (decide (L.actState a = 5) && decide (1600 ≤ since L.count A.stateAt)) (s.setLeaf l (L.stopped a))

/-- END_STOP_ARRIVAL (R374, R382, R383, R385). -/
def execEndStopArrival (l : LeafId) (a : Fin 3) (s : State) : Done :=
  let L := s.leaf l
  let A := L.actr a
  let into := A.kind == 2 && L.nearTarget a && L.atEnd a
  guarded s (decide (L.actState a = 4) && (into || A.kind == 3) &&
      decide (16 * L.get ACT_CTRL_END_T ≤ since L.count A.lastComm)) <| s.setLeaf l <|
    if a = 0 then
      let L := (L.onActr 0 fun A => { A with count := A.target }).rest 0
      let L := L.put ACT_STAT_GEAR_DOUBT 0
      if A.kind = 3 then (L.put ACT_STAT_REFERENCED 1).engage 1
      else if L.shiftCode = 4 then ((L.engage L.act.shiftTo).put ACT_STAT_SHIFT 5).tracPhase 5
      else if L.shiftCode = 6 then
        ((L.engage L.act.prevGear).onAct fun A => { A with retStep := 3 }).tracPhase 5
      else L.saveDrum
    else L.stopped a

/-- ACT_VIN_RESTORED (R376): inside 18.0 to 32.0 V for 16,000 courses. -/
def execActVinRestored (l : LeafId) (s : State) : Done :=
  let L := s.leaf l
  guarded s (L.act.vinStop && L.act.vinFrom.any fun c => decide (16000 ≤ since L.count c)) <|
    let L := L.onAct fun A => { A with vinStop := false }
    s.setLeaf l ((List.range 3).foldl (fun L a =>
      if L.actState a = 6 ∧ (L.actr a).vin = true then L.resume a else L) L)

/-- SHIFT_RETURN (R386): before the point of no return, SYNC not reached, a lasting A0 fault, or the host's request. -/
def execShiftReturn (l : LeafId) (s : State) : Done :=
  let L := s.leaf l
  let running := decide (1 ≤ L.shiftCode) && decide (L.shiftCode ≤ 4) && !L.on ACT_STAT_PAST_PNR
  guarded s (running && ((decide (L.shiftCode = 3) && L.trc.syncLate) || decide (L.actState 0 = 7) || L.act.retAsked)) <|
    let L := (((L.put ACT_STAT_SHIFT 6).stick ACT_FLT_SHIFT_RET).bump ACT_CNT_RETURNS).onAct fun A =>
      { A with retStep := 0, retAsked := false }
    s.setLeaf l ({ L with trc := { L.trc with syncLate := false } } : Leaf).stepReturn

/-- ENGAGE_HOLD_EXPIRY (R387): the drum left to the mechanism, ENG_T × 160 courses after a lasting A0 fault past the
point of no return. -/
def execEngageHoldExpiry (l : LeafId) (s : State) : Done :=
  let L := s.leaf l
  guarded s (decide (L.shiftCode = 4) && L.act.engFrom.any fun c => decide (160 * L.get ACT_SHIFT_ENG_T ≤ since L.count c)) <|
    let g := L.act.shiftTo
    let L := (L.onActr 0 fun A => { A with count := L.gearPos g }).showAct 0
    let L := (L.engage g).put ACT_STAT_GEAR_DOUBT 1
    s.setLeaf l (((L.onAct fun A => { A with engFrom := none }).put ACT_STAT_SHIFT 5).tracPhase 5)

end Sys2Proof.Machine
end

