-- ==== Sys2Proof/Machine/Mailbox.lean ====
section
/-! DEFINITION. Mailboxes and lock registers (R489 to R504). An access takes effect when it reaches the block. -/

namespace Sys2Proof.Machine

open Sys2Proof

/-- The identities that reach a leaf (R489). -/
def reaches (l : LeafId) (who : Nat) : Bool :=
  match who with
  | 1 => l == .leaf0
  | 2 => l == .leaf1
  | 3 => l == .leaf0
  | 4 => l == .leaf1
  | 5 => true
  | 6 => true
  | 7 => true
  | _ => false

/-- The keystone's identity on a leaf. -/
def keystoneId (l : LeafId) : Nat := 3 + l.num

/-- The codes of MBX_STAT.STATE (R503). -/
def Leaf.mbState (L : Leaf) (c : Nat) : Nat := L.get MBX_STAT_STATE c
def Leaf.mbSender (L : Leaf) (c : Nat) : Nat := L.get MBX_STAT_SENDER c

/-- A party of a channel: one of the two identities bound (R490). -/
def Leaf.party (L : Leaf) (c who : Nat) : Bool :=
  let a := L.get MBX_BIND_ID_A c
  let b := L.get MBX_BIND_ID_B c
  decide (a ≠ 0) && decide (b ≠ 0) && (who == a || who == b)

/-- The party that is not the sender. -/
def Leaf.receiver (L : Leaf) (c : Nat) : Nat :=
  if L.mbSender c = L.get MBX_BIND_ID_A c then L.get MBX_BIND_ID_B c else L.get MBX_BIND_ID_A c

/-- A channel moved to a state, with the course of the change and its bit in MBX_FULLSUM (R494, R503). -/
def Leaf.mbMove (L : Leaf) (c st sender : Nat) : Leaf :=
  L.put MBX_STAT_STATE st c |>.put MBX_STAT_SENDER sender c |>.put MBX_STAT_COURSE L.count.toNat c
    |>.put (MBX_FULLSUM_FULL.bit c) (bit (decide (st = 2))) |>.put MBX_ACK_VALID (bit (decide (st = 3))) c

/-- A write refused by R492. -/
def Leaf.collide (L : Leaf) (c : Nat) : Leaf := L.bump MBX_CNT_COLLIDE c

/-- An access to a channel: by an identity outside the pair it is discarded and counted (R490). -/
def Leaf.mbAccess (L : Leaf) (l : LeafId) (c who : Nat) (f : Leaf → Leaf) : Leaf :=
  if !reaches l who then L else if L.party c who then f L else L.bump MBX_CNT_UNBOUND c

/-- A register value after a write of 8 bytes, or of 4 bytes to one half; other sizes end with Completer Abort (R10). -/
def mergeWrite (old value : Word) (size : Nat) (high : Bool) : Word :=
  if size = 8 then value
  else if size = 4 then (if high then setField old 63 32 value.toNat else setField old 31 0 value.toNat)
  else old

/-- MESSAGE_WORD_WRITE (R490, R492). -/
def execMessageWordWrite (l : LeafId) (chan : Fin 32) (w : Fin 16) (size : Nat) (high : Bool) (value : Word) (who : Ident)
    (s : State) : Done :=
  guarded s (decide (size = 4) || decide (size = 8)) <| s.on l fun L => L.mbAccess l chan who fun L =>
    let c := chan.val
    let i := 16 * c + w.val
    let put := fun (L : Leaf) => L.setWord MBX_MSG i (mergeWrite (L.word MBX_MSG i) value size high)
    let mine := L.mbSender c == who.val
    match L.mbState c with
    | 0 => put (L.mbMove c 1 who)
    | 1 => if mine then put L else L.collide c
    | 2 => if mine then L.collide c else put L
    | _ => if mine then put (L.mbMove c 1 who) else L.collide c

/-- A post of `len` words by a party (R492, R493): FULL, LEN taken, and words beyond LEN undefined. -/
def State.postWords (s : State) (l : LeafId) (c len who : Nat) : State :=
  let s := s.on l fun L => (L.mbMove c 2 who).put MBX_STAT_LEN len c
  ((List.range 16).filter fun w => decide (len ≤ w)).foldl (fun s w =>
    let (v, s) := s.take
    s.on l fun L => L.setWord MBX_MSG (16 * c + w) (BitVec.ofNat 64 v)) s

/-- POST (R490, R492, R493, R503). -/
def execPost (l : LeafId) (chan : Fin 32) (len : Fin 32) (who : Ident) (s : State) : Done :=
  let L := s.leaf l
  let c := chan.val
  if !(reaches l who && L.party c who) then onLeaf s l fun L => L.mbAccess l c who id
  else
    let mine := L.mbSender c == who.val
    let st := L.mbState c
    let allowed := decide (len.val ≤ 16) && (decide (st = 0) || (mine && (decide (st = 1) || decide (st = 3))))
    .next (if allowed then s.postWords l c len who else s.on l fun L => L.collide c)

/-- CANCEL (R490, R492). -/
def execCancel (l : LeafId) (chan : Fin 32) (who : Ident) (s : State) : Done :=
  onLeaf s l fun L => L.mbAccess l chan who fun L =>
    if L.mbState chan = 1 ∧ L.mbSender chan = who.val then L.mbMove chan 0 0 else L.collide chan

/-- RELEASE (R490, R492). -/
def execRelease (l : LeafId) (chan : Fin 32) (who : Ident) (s : State) : Done :=
  onLeaf s l fun L => L.mbAccess l chan who fun L =>
    if L.mbState chan = 3 ∧ L.mbSender chan = who.val then L.mbMove chan 0 0 else L.collide chan

/-- An acknowledgement taken: REPLIED, CODE and RLEN (R492). -/
def Leaf.reply (L : Leaf) (c code rlen : Nat) : Leaf :=
  (L.mbMove c 3 (L.mbSender c)).put MBX_ACK_CODE code c |>.put MBX_ACK_RLEN rlen c

/-- MBX_ACK (R490, R492, R493). -/
def execMbxAck (l : LeafId) (chan : Fin 32) (code : BitVec 16) (rlen : Fin 32) (who : Ident) (s : State) : Done :=
  onLeaf s l fun L => L.mbAccess l chan who fun L =>
    if L.mbState chan = 2 ∧ L.mbSender chan ≠ who.val ∧ rlen.val ≤ 16 then L.reply chan code.toNat rlen else L.collide chan

/-- ACK_TIMEOUT (R492, R495, R498). -/
def execAckTimeout (l : LeafId) (chan : Fin 32) (s : State) : Done :=
  let L := s.leaf l
  let tmo := L.get MBX_BIND_TMO chan
  guarded s (decide (L.mbState chan = 2) && decide (tmo ≠ 0) &&
      decide (1600 * tmo ≤ since L.count (BitVec.ofNat 48 (L.get MBX_STAT_COURSE chan)))) <|
    s.setLeaf l ((L.reply chan 0xFF02 0).bump MBX_CNT_TIMEOUTS chan)

/-- CLAIM_LAPSE (R492): 160,000 courses in CLAIMED or REPLIED. -/
def execClaimLapse (l : LeafId) (chan : Fin 32) (s : State) : Done :=
  let L := s.leaf l
  guarded s ((decide (L.mbState chan = 1) || decide (L.mbState chan = 3)) &&
      decide (160000 ≤ since L.count (BitVec.ofNat 48 (L.get MBX_STAT_COURSE chan)))) <|
    s.setLeaf l ((L.mbMove chan 0 0).bump MBX_CNT_LAPSED chan)

/-- A master lost on a leaf (R496, R501): its channels, then its locks. -/
def Leaf.masterLost (L : Leaf) (who : Nat) : Leaf :=
  let L := (List.range 32).foldl (fun L c =>
    if !L.party c who || L.mbState c == 0 then L
    else if L.mbSender c = who then (L.mbMove c 0 0).bump MBX_CNT_LAPSED c
    else if L.mbState c = 2 then L.reply c 0xFF01 0
    else L) L
  (List.range 16).foldl (fun L k =>
    if L.get LOCK_OWNER k = who then (L.put LOCK_OWNER 0 k).bump LOCK_CNT_FORCED else L) L

/-- MASTER_LOST (R496, R501). -/
def execMasterLost (l : LeafId) (who : Ident) (s : State) : Done :=
  guarded s (reaches l who) <| s.on l fun L => L.masterLost who

/-- The keystone's answer to a message: the spec gives no service opcode, so every opcode is unknown (R497, R498). -/
def Leaf.answerMail (L : Leaf) (c : Nat) : Leaf :=
  let w := L.word MBX_MSG (16 * c)
  let code := if fieldOf w 63 32 = 0 then 0x0001 else 0x0003
  (L.setWord MBX_MSG (16 * c) (setField 0 31 16 (fieldOf w 31 16))).reply c code 1

/-- MAILBOX_SCAN (R497): at the close of every sixteenth course. -/
def execMailboxScan (l : LeafId) (s : State) : Done :=
  let L := s.leaf l
  guarded s (L.computing && decide (L.count.toNat % 16 = 0)) <| s.setLeaf l <|
    (List.range 32).foldl (fun L c =>
      if L.mbState c = 2 ∧ L.receiver c = keystoneId l then L.answerMail c else L) L

/-- BIND_WRITE (R490, R491). -/
def execBindWrite (l : LeafId) (chan : Fin 32) (value : Word) (who : Ident) (s : State) : Done :=
  let a := fieldOf value 2 0
  let b := fieldOf value 5 3
  let pair := decide (a < b) && reaches l a && reaches l b
  guarded s (reaches l who) <| s.on l fun L =>
    if who.val = hostId l ∧ s.setup = true ∧ L.on MBX_TBL_LOCKED = false ∧ (pair = true ∨ (a = 0 ∧ b = 0)) then
      L.put MBX_BIND_ID_A a chan |>.put MBX_BIND_ID_B b chan |>.put MBX_BIND_TMO (fieldOf value 15 8) chan
    else L.bump MBX_CNT_UNBOUND chan

/-- The binding table locked (R491). -/
def Leaf.lockTable (L : Leaf) : Leaf := L.put MBX_TBL_LOCKED 1 |>.put MBX_TBL_LOCK 1

/-- TABLE_LOCK (R491). -/
def execTableLock (l : LeafId) (who : Ident) (s : State) : Done := guarded s (reaches l who) (s.on l Leaf.lockTable)

/-- The default bindings (R491). -/
def defaultBind (l : LeafId) (c : Nat) : Nat × Nat :=
  let k := keystoneId l
  if c < 8 then (hostId l, k) else if c < 12 then (k, 5) else if c < 16 then (k, 6) else if c < 28 then (0, 0) else (k, 7)

/-- The binding table, as the settings hold it or by default (R491): reloaded, unlocked, channels idle, locks free. -/
def Leaf.loadBinds (L : Leaf) (table : Option (List Word)) : Leaf :=
  let L := (List.range 32).foldl (fun L c =>
    let w := match table with
      | some t => t.getD c 0
      | none =>
        let (a, b) := defaultBind L.id c
        setField (setField 0 2 0 a) 5 3 b
    ((L.setWord MBX_BIND c w).setWord MBX_STAT c 0).setWord MBX_ACK c 0) L
  let L := (List.range 16).foldl (fun L k => L.put LOCK_OWNER 0 k) L
  (L.setWord MBX_TBL 0 0).setWord MBX_FULLSUM 0 0

/-- LOCK_READ (R499). -/
def execLockRead (l : LeafId) (k : Fin 16) (size : Nat) (high : Bool) (who : Ident) (s : State) : Done :=
  let L := s.leaf l
  let owner := L.get LOCK_OWNER k
  if !reaches l who then .next s
  else if size ≠ 4 ∧ size ≠ 8 then .next { s with readData := none }
  else if size = 4 ∧ high = true then .next { s with readData := some 0 }
  else
    let s : State := { s with readData := some (BitVec.ofNat 64 owner) }
    .next <| s.setLeaf l <|
      if owner = 0 then (L.put LOCK_OWNER who k).bump LOCK_CNT_ACQUIRED
      else if owner = who.val then L else L.bump LOCK_CNT_CONTENDED

/-- LOCK_RELEASE (R500): every write of a lock register. -/
def execLockRelease (l : LeafId) (k : Fin 16) (value : Word) (who : Ident) (s : State) : Done :=
  guarded s (reaches l who) <| s.on l fun L =>
    let owner := L.get LOCK_OWNER k
    if owner = who.val ∧ owner ≠ 0 ∧ fieldOf value 2 0 = who.val then L.put LOCK_OWNER 0 k else L.bump LOCK_CNT_MISUSE

end Sys2Proof.Machine
end

