-- ==== Sys2Proof/Machine/Can.lean ====
section
/-! DEFINITION. The CAN controllers and the voice of the four buses (R505 to R518). -/

namespace Sys2Proof.Machine

open Sys2Proof

def Leaf.onNet (L : Leaf) (f : Net → Net) : Leaf := { L with net := f L.net }
def Leaf.bus (L : Leaf) (b : Nat) : CanBus := pick L.net.can b
def Leaf.onBus (L : Leaf) (b : Nat) (f : CanBus → CanBus) : Leaf := L.onNet fun N => { N with can := alter N.can b f }
def canFlag (k : Nat) : Fld := CAN_FLT_FLAGS.bit k

/-- The controllers run in READY, WORKSHOP and CARRY (R506), in a leaf whose plinth runs. -/
def State.canRuns (s : State) (l : LeafId) (b : Nat) : Bool :=
  (s.mode == .ready || s.mode == .workshop || s.mode == .carry) && (s.leaf l).computing &&
    fieldOf ((s.leaf l).bus b).cfg 63 63 == 1

/-- Error state: 0 active, 1 passive, 2 bus-off, 3 recovering or integrating (R529). -/
def Leaf.eState (L : Leaf) (b : Nat) : Nat := L.get CAN_STAT_ESTATE b

/-- What CAN_STAT shows of buffers, queues and held frames (R529). -/
def Leaf.showBus (L : Leaf) (b : Nat) : Leaf :=
  let B := L.bus b
  let t : Nat := bit (pick B.txb 0).isSome + 2 * bit (pick B.txb 1).isSome + 4 * bit (pick B.txb 2).isSome
  L.put CAN_STAT_TXB t b |>.put CAN_STAT_RXQ0 (min 16 (pick B.rxq 0).length) b
    |>.put CAN_STAT_RXQ1 (min 16 (pick B.rxq 1).length) b |>.put CAN_STAT_HOLD (min 15 B.hold.length) b

/-- Data bytes of a DLC (ISO 11898-1). -/
def dlcBytes (fdf : Bool) (dlc : Nat) : Nat :=
  if dlc ≤ 8 then dlc else if !fdf then 8 else [12, 16, 20, 24, 32, 48, 64].getD (dlc - 9) 64

/-- Bytes as a number, the first lowest. -/
def bytesNat (l : List Byte) : Nat := l.foldr (fun b a => b.toNat + 256 * a) 0

/-- An entry of OR4 to OR7, LOCAL (R512, R513). -/
def Leaf.canEntry (L : Leaf) (b : Nat) (fields : List (Nat × Nat × Nat)) : Leaf :=
  L.produce { ring := 4 + b, isLocal := true, course := L.count, body := body fields }

/-! ### Error states -/

/-- A change of error state with its bus-state entry (R513, R517). -/
def Leaf.setEState (L : Leaf) (b st : Nat) (fine : Fine) : Leaf :=
  if L.eState b = st then L
  else
    let L := L.put CAN_STAT_ESTATE st b
    L.canEntry b [(16, 1, 4), (17, 1, b), (18, 1, st), (20, 4, fine.toNat),
      (24, 4, L.get CAN_STAT_TEC b + (L.get CAN_STAT_REC b <<< 16))]

/-! ### Transmitting -/

/-- The arbitration field of a frame, its first bit highest; the lower wins. -/
def TxFrame.arb (f : TxFrame) : Nat :=
  if f.ide then ((f.id >>> 18) <<< 21) + (1 <<< 20) + (1 <<< 19) + ((f.id % 2 ^ 18) <<< 1) + bit f.rtr
  else ((f.id % 2 ^ 11) <<< 21) + (bit f.rtr <<< 20)

/-- The buffer that goes first among those a test admits (R514). -/
def CanBus.first (B : CanBus) (want : TxFrame → Bool) : Option Nat :=
  let c := (List.range 3).filter fun k => (pick B.txb k).any want
  if fieldOf B.cfg 60 60 = 1 then c.head?
  else c.foldl (fun a k => match a with
    | none => some k
    | some j => if ((pick B.txb k).map TxFrame.arb).getD 0 < ((pick B.txb j).map TxFrame.arb).getD 0 then some k else a) none

/-- The buffers that may be the one sent now: the choice made when the last frame ended, or, after a lost arbitration or
an error, the choice among all (R514). -/
def CanBus.mayGo (B : CanBus) (k : Nat) : Bool := B.first (fun f => !f.late) == some k || B.first (fun _ => true) == some k

/-- A frame loaded into its buffer. -/
def CanBus.load (B : CanBus) (k : Nat) (f : TxFrame) : CanBus :=
  let busy := (List.range 3).any fun j => (pick B.txb j).isSome
  { B with txb := B.txb.setIfInBounds k (some { f with late := busy }) }

/-- A buffer freed: the next held frame for it loads (R515). -/
def CanBus.free (B : CanBus) (k : Nat) : CanBus :=
  let B := { B with txb := B.txb.setIfInBounds k none }
  match B.hold.find? fun h => h.1 == k with
  | some h => { B.load k h.2 with hold := B.hold.erase h }
  | none => B

/-- A buffer's frame sent, or marked sent: the transmit-done entry, and every waiting frame takes part again (R514,
R515). -/
def Leaf.txDone (L : Leaf) (b k : Nat) (fine : Fine) : Leaf :=
  match pick (L.bus b).txb k with
  | none => L
  | some f =>
    let L := (L.onBus b fun B =>
      let B := B.free k
      { B with txb := B.txb.map fun x => x.map fun g => { g with late := false } }).bump CAN_CNT_TX_FRAMES b
    let flags : Nat := bit f.ide + 2 * bit f.fdf + 4 * bit f.brs + 16 * bit f.rtr
    (L.canEntry b [(16, 1, 3), (17, 1, b + 16 * k), (18, 1, flags), (19, 1, f.dlc), (20, 4, fine.toNat), (24, 4, f.id),
      (30, 2, f.tag), (32, 4, f.dseq.toNat)]).showBus b

/-- CAN_TRANSMIT_DONE (R514, R515). -/
def execCanTransmitDone (l : LeafId) (bus : Fin 4) (buf : Fin 3) (fine : Fine) (s : State) : Done :=
  let L := s.leaf l
  guarded s (s.canRuns l bus && decide (L.eState bus < 2) && (pick (L.bus bus).txb buf).isSome &&
      (!L.on CAN_STAT_VOICE_HELD bus || (L.bus bus).mayGo buf)) <|
    let f := pick (L.bus bus).txb buf
    let L := if L.on CAN_STAT_VOICE_HELD bus then
        L.emit (.can bus ((f.map (·.id)).getD 0) ((f.map (·.data)).getD [])) else L
    s.setLeaf l (L.txDone bus buf fine)

/-- A SEND taken with all its data (R514, R515). -/
def Leaf.takeSend (L : Leaf) (b : Nat) (h : Hdr) (d : Slot) (more : Nat) : Leaf :=
  let fl := sl d 18 1
  let k := sl d 17 1 % 4
  let dlc := sl d 19 1
  let fdf := fl / 2 % 2 == 1
  let n := dlcBytes fdf dlc
  let all := sl d 24 40 + (more <<< 320)
  let rtr := fl / 8 % 2 == 1
  let data := if rtr then [] else (bytesOf all 0 n).map (BitVec.ofNat 8)
  let f : TxFrame := { ide := fl % 2 == 1, fdf := fdf, brs := fl / 4 % 2 == 1, rtr := rtr, dlc := dlc, id := sl d 20 4 % 2 ^ 29, data := data, tag := h.tag, dseq := h.dseq }
  let B := L.bus b
  if L.eState b = 2 then L.complete h 0x0201
  else if (pick B.txb k).isNone then ((L.onBus b fun B => B.load k f).complete h 0x0000).showBus b
  else if B.hold.length < 8 then
    ((L.onBus b fun B => { B with hold := B.hold ++ [(k, f)] }).complete h 0x0000).showBus b
  else L.complete h 0x0201

/-- The refusals of R515. -/
def Leaf.sendBad (L : Leaf) (b : Nat) (d : Slot) : Option Nat :=
  let fl := sl d 18 1
  let k := sl d 17 1 % 4
  let fdf := fl / 2 % 2 == 1
  if k = 3 ∨ (b = 0 ∧ k ≠ 2) then some 17
  else if fdf && fieldOf (L.bus b).cfg 62 62 == 0 then some 18
  else if fl / 4 % 2 == 1 && !fdf then some 18
  else if fl / 8 % 2 == 1 && fdf then some 18
  else if (8 < sl d 19 1 ∧ fdf = false) ∨ 15 < sl d 19 1 then some 19
  else if 40 < dlcBytes fdf (sl d 19 1) ∧ fl / 16 % 2 = 0 then some 18
  else none

/-- A descriptor of IR4 to IR7 used (R515, R516); `inTx` tells whether the named buffer is in transmission. -/
def Leaf.useCan (L : Leaf) (h : Hdr) (d : Slot) (inTx : Bool) : Leaf :=
  let b := h.ring - 4
  let drop := fun (L : Leaf) => match (L.bus b).awaiting with
    | some (h0, _) => (L.onBus b fun B => { B with awaiting := none }).complete h0 0x0105 0 16
    | none => L
  match opcode d with
  | 0x60 =>
    let L := drop L
    match L.sendBad b d with
    | some off => L.complete h 0x0105 0 off
    | none =>
      if slBits d 18 1 4 4 = 1 then L.onBus b fun B => { B with awaiting := some (h, d) } else L.takeSend b h d 0
  | 0x61 =>
    match (L.bus b).awaiting with
    | none => L.complete h 0x0105 0 16
    | some (h0, d0) =>
      if h.dseq = h0.dseq + 1 then
        ((L.onBus b fun B => { B with awaiting := none }).takeSend b h0 d0 (sl d 24 24)).complete h 0x0000
      else (drop L).complete h 0x0105 0 4
  | _ =>
    let L := drop L
    let k := sl d 17 1 % 4
    if k = 3 ∨ (b = 0 ∧ k ≠ 2) then L.complete h 0x0105 0 17
    else
      let L := L.onBus b fun B => { B with hold := B.hold.filter fun x => x.1 != k }
      let L := if inTx then L.onBus b fun B => { B with
            txb := B.txb.setIfInBounds k ((pick B.txb k).map fun f => { f with aborted := true }) }
        else L.onBus b fun B => B.free k
      (L.complete h 0x0000).showBus b

/-- A descriptor of IR4 to IR7 is read and waits for the next seal (R37, R472). -/
def Leaf.canDesc (L : Leaf) (b op : Nat) (d : Desc) : Leaf :=
  L.readDesc (4 + b) op d (fun L h => L.receive d.bytes h)

/-- SEND (R515). -/
def execSend (l : LeafId) (bus : Fin 4) (d : Desc) (s : State) : Done := onLeaf s l fun L => L.canDesc bus 0x60 d

/-- SEND_CONT (R515). -/
def execSendCont (l : LeafId) (bus : Fin 4) (d : Desc) (s : State) : Done := onLeaf s l fun L => L.canDesc bus 0x61 d

/-- ABORT (R516). -/
def execAbort (l : LeafId) (bus : Fin 4) (d : Desc) (s : State) : Done := onLeaf s l fun L => L.canDesc bus 0x62 d

/-! ### Receiving -/

/-- Whether a filter pair takes a frame (R511). -/
def Leaf.pairTakes (L : Leaf) (b i : Nat) (f : CanRx) : Bool :=
  let k := 32 * b + i
  let n := if f.ide then 29 else 11
  let fmt := L.get CAN_MATCH_FMT k
  L.on CAN_MATCH_EN k &&
    decide (((f.id.toNat ^^^ L.get CAN_MATCH_ID k) &&& L.get CAN_MATCH_MASK k) % 2 ^ n = 0) &&
    (L.on CAN_MATCH_IDE k == f.ide) && (!f.rtr || L.on CAN_MATCH_RTR k) &&
    (decide (fmt = 0) || (decide (fmt = 1) && !f.fdf) || (decide (fmt = 2) && f.fdf))

/-- Heads taken from a queue, the shadow buffer's frame entering as a place frees (R512). -/
def CanBus.takeHeads (B : CanBus) (q n : Nat) : List (CanRx × Nat) × CanBus :=
  let all := pick B.rxq q
  let rest := all.drop n
  let room := decide (rest.length < 16)
  let rest' := if room then rest ++ (pick B.shadow q).toList else rest
  (all.take n, { B with rxq := B.rxq.setIfInBounds q rest'
                        shadow := if room then B.shadow.setIfInBounds q none else B.shadow })

/-- A frame into a receive queue or its shadow buffer (R512). -/
def Leaf.enqueue (L : Leaf) (b q : Nat) (x : CanRx × Nat) (reading : Bool) : Leaf :=
  let L := if reading then L else L.onBus b fun B => (B.takeHeads q 0).2
  let B := L.bus b
  if (pick B.rxq q).length < 16 ∧ reading = false then L.onBus b fun B => { B with rxq := alter B.rxq q (· ++ [x]) }
  else if (pick B.shadow q).isNone then L.onBus b fun B => { B with shadow := B.shadow.setIfInBounds q (some x) }
  else (L.stick (canFlag 1) b).bump CAN_CNT_RX_DROP b

/-- The crash frame of CAN0 (R304, R511). -/
def Leaf.crashFrame (L : Leaf) (f : CanRx) : Bool :=
  L.on LNK_CON_CRASH_CAN && decide (f.id.toNat = L.get LNK_CON_CRASH_ID) && decide (f.data.head? = some 0xA5#8)

/-- The buffer of the voiceless controller that a frame seen equals (R514). -/
def CanBus.seen (B : CanBus) (f : CanRx) : Option Nat :=
  (List.range 3).find? fun k => (pick B.txb k).any fun t =>
    t.ide == f.ide && t.id == f.id.toNat && t.fdf == f.fdf && t.dlc == f.dlc.val && t.rtr == f.rtr && t.data == f.data

/-- CAN_FRAME_RECEIVED (R509, R511 to R514, R527). -/
def execCanFrameReceived (l : LeafId) (bus : Fin 4) (f : CanRx) (reading : Bool) (s : State) : Done :=
  let b := bus.val
  let L := s.leaf l
  guarded s (s.canRuns l b && decide (L.eState b < 2)) <| s.setLeaf l <|
    let cfg := (L.bus b).cfg
    if f.fdf && fieldOf cfg 62 62 == 0 then
      if fieldOf cfg 61 61 = 1 then L.stick (canFlag 0) b else L.bump CAN_CNT_ERRORS b
    else
      let L := L.bump CAN_CNT_RX_FRAMES b
      let L := if b = 0 ∧ L.crashFrame f = true then L.onNet fun N => { N with crash := true } else L
      let L := if L.on CAN_STAT_VOICE_HELD b then L else
        match (L.bus b).seen f with
        | some k => L.txDone b k f.fine
        | none => L
      match (List.range 32).find? fun i => L.pairTakes b i f with
      | some i => (L.enqueue b (L.get CAN_MATCH_DEST (32 * b + i)) (f, i) reading).showBus b
      | none => L.bump CAN_CNT_RX_DROP b

/-- The entries of a received frame (R513). -/
def Leaf.frameEntries (L : Leaf) (b q : Nat) (x : CanRx × Nat) : Leaf :=
  let f := x.1
  let n := f.data.length
  let cont := decide (32 < n)
  let flags : Nat := bit f.ide + 2 * bit f.fdf + 4 * bit f.brs + 8 * bit f.esi + 16 * bit f.rtr + 32 * bit cont
  let L := L.canEntry b [(16, 1, 1), (17, 1, b + 4 * q), (18, 1, flags), (19, 1, f.dlc.val), (20, 4, f.fine.toNat),
    (24, 4, f.id.toNat), (28, 1, x.2), (29, 1, n), (32, 32, bytesNat (f.data.take 32))]
  if cont then L.canEntry b [(16, 1, 2), (17, 1, b), (20, 4, f.fine.toNat), (24, 32, bytesNat (f.data.drop 32))] else L

/-- The ring readers of a course: up to 4 frames of each bus, RXQ0 before RXQ1, and the keystone's reader of RXQ0 of CAN0
(R512, R554). -/
def Leaf.readQueues (L : Leaf) : Leaf :=
  (List.range 4).foldl (fun L b =>
    let read := fun (L : Leaf) (q n : Nat) (f : Leaf → CanRx × Nat → Leaf) =>
      let (xs, B) := (L.bus b).takeHeads q n
      xs.foldl f (L.onBus b fun _ => B)
    let L :=
      if b = 0 then
        let L := read L 0 4 fun L x => L.bmsFrame x.1.ide x.1.id.toNat x.1.data
        read L 1 4 fun L x => L.frameEntries 0 1 x
      else
        let n0 := min 4 (pick (L.bus b).rxq 0).length
        let L := read L 0 n0 fun L x => L.frameEntries b 0 x
        read L 1 (4 - n0) fun L x => L.frameEntries b 1 x
    L.showBus b) L

/-! ### Errors and bus-off -/

/-- ERROR_STATE_CHANGE (R507, R517, R527): the counters after errors on the bus; the controller without voice keeps
both at 0. A failed attempt removes a frame aborted in it (R516). -/
def execErrorStateChange (l : LeafId) (bus : Fin 4) (tec : BitVec 9) (rec : BitVec 8) (errors : Nat) (fine : Fine)
    (s : State) : Done :=
  let b := bus.val
  let L := s.leaf l
  guarded s (s.canRuns l b && decide (L.eState b < 2) && L.on CAN_STAT_VOICE_HELD b && decide (tec.toNat < 256)) <|
    let failed := decide (L.get CAN_STAT_TEC b < tec.toNat)
    let L := (L.bumpBy CAN_CNT_ERRORS errors b).put CAN_STAT_TEC tec.toNat b |>.put CAN_STAT_REC rec.toNat b
    let passive := decide (127 < tec.toNat) || decide (127 < rec.toNat)
    let L := if passive then L.stick (canFlag 2) b else L
    let L := L.setEState b (bit passive) fine
    let L := if failed then (List.range 3).foldl (fun L k =>
        if (pick (L.bus b).txb k).any fun f => f.aborted then L.onBus b fun B => B.free k else L) L else L
    s.setLeaf l (L.showBus b)

/-- BUS_OFF (R517, R518, R527). -/
def execBusOff (l : LeafId) (bus : Fin 4) (fine : Fine) (s : State) : Done :=
  let b := bus.val
  let L := s.leaf l
  guarded s (s.canRuns l b && decide (L.eState b ≠ 2) && L.on CAN_STAT_VOICE_HELD b) <|
    let again := (L.bus b).recAt.any fun c => decide (since L.count c ≤ 1600000)
    let L := (L.put CAN_STAT_TEC 256 b).setEState b 2 fine
    let L := L.stick (canFlag 3) b
    let L := L.onBus b fun B => { B with boAt := some L.count, recovering := false, recAt := none, lasting := B.lasting || again }
    let L := if again then L.raise (canFlag 4) b else L
    s.setLeaf l (if again && b == 0 then (L.event 0x070E).allStale else L)

/-- The recovery sequence begins (R517). -/
def Leaf.startRecovery (L : Leaf) (b : Nat) : Leaf :=
  (L.onBus b fun B => { B with recovering := true }).setEState b 3 L.fine

/-- A command register's bit taken from a committed IR1 write; the other bit of the write stays. -/
def Leaf.takeBit (L : Leaf) (off k : Nat) (other : List Nat) : Option Word × Leaf :=
  match L.crs.cmds.find? fun c => c.1.off == off && c.1.value.getLsbD k with
  | none => (none, L)
  | some c =>
    let rest := L.crs.cmds.erase c
    let keep := other.any fun j => c.1.value.getLsbD j
    let c' := ({ c.1 with value := setField c.1.value k k 0 }, c.2)
    (some c.1.value, { L with crs := { L.crs with cmds := if keep then rest ++ [c'] else rest } })

/-- RECOVER (R517, R529): directly in READY and WORKSHOP, through IR1 in CARRY. -/
def execRecover (l : LeafId) (bus : Fin 4) (direct : Bool) (s : State) : Done :=
  let b := bus.val
  let L := s.leaf l
  let go := fun (L : Leaf) =>
    if L.eState b = 2 then (L.onBus b fun B => { B with lasting := false }).startRecovery b else L
  if direct then
    if s.setup then .next (s.setLeaf l (go L))
    else .next (s.setLeaf l (L.discard (CAN_CMD.addr b) (hostId l) (2 ^ 63)))
  else
    match L.takeBit (CAN_CMD.addr b) 63 [62] with
    | (none, _) => .next s
    | (some _, L) => .next (s.setLeaf l (go L))

/-- CAN0_AUTO_RECOVER (R517). -/
def execCan0AutoRecover (l : LeafId) (s : State) : Done :=
  let L := s.leaf l
  let B := L.bus 0
  guarded s (decide (L.eState 0 = 2) && !B.lasting &&
      B.boAt.any fun c => decide (1600 * fieldOf B.cfg 51 44 ≤ since L.count c)) <|
    s.setLeaf l (L.startRecovery 0)

/-- RECOVERY_COMPLETE (R510, R517): 128 occurrences of 11 recessive bits after a bus-off, one after a change of timing. -/
def execRecoveryComplete (l : LeafId) (bus : Fin 4) (occurrences : Nat) (fine : Fine) (s : State) : Done :=
  let b := bus.val
  let L := s.leaf l
  let off := (L.bus b).recovering
  guarded s (decide (L.eState b = 3) && decide ((if off then 128 else 1) ≤ occurrences)) <|
    let L := if off then (L.put CAN_STAT_TEC 0 b).put CAN_STAT_REC 0 b else L
    let L := if off then L.onBus b fun B => { B with recovering := false, boAt := none, recAt := some L.count } else L
    s.setLeaf l (L.setEState b 0 fine)

/-- A bus-off that did not recur within 1,600,000 courses of its recovery (R517). -/
def Leaf.ageBusOff (L : Leaf) : Leaf :=
  (List.range 4).foldl (fun L b =>
    if (L.bus b).recAt.any fun c => decide (1600000 < since L.count c) then
      (L.bump CAN_CNT_BO_TRANS b).onBus b fun B => { B with recAt := none }
    else L) L

/-! ### Bit timing -/

/-- The whole-set checks of R509: nominal bit at least 80 clock periods, data bit at least 10 and no longer than it. -/
def canTimingOk (nbt dbt : Word) : Bool :=
  let n := fieldOf nbt 63 58 * (1 + fieldOf nbt 57 49 + fieldOf nbt 48 41)
  let d := fieldOf dbt 63 58 * (1 + fieldOf dbt 57 52 + fieldOf dbt 51 47)
  decide (80 ≤ n) && decide (10 ≤ d) && decide (d ≤ n)

/-- An SJW above its TSEG2 stored as TSEG2 (R509). -/
def canSjw (w : Word) (nominal : Bool) : Word :=
  if nominal then setField w 40 33 (min (fieldOf w 40 33) (fieldOf w 48 41))
  else setField w 46 42 (min (fieldOf w 46 42) (fieldOf w 51 47))

/-- BIT_TIMING_APPLY (R510): at the next bus idle; the controller then integrates. -/
def execBitTimingApply (l : LeafId) (bus : Fin 4) (s : State) : Done :=
  let b := bus.val
  let L := s.leaf l
  let B := L.bus b
  let cfg := L.word CAN_CFG b
  let nbt := L.word CAN_NBT b
  let dbt := L.word CAN_DBT b
  guarded s (decide (B.cfg ≠ cfg) || decide (B.nbt ≠ nbt) || decide (B.dbt ≠ dbt)) <|
    let L := L.onBus b fun B => { B with cfg := cfg, nbt := nbt, dbt := dbt }
    s.setLeaf l (if L.eState b = 2 ∨ fieldOf cfg 63 63 = 0 then L else L.setEState b 3 L.fine)

/-- TXD_DOMINANT_TIMEOUT (R505, R527). -/
def execTxdDominantTimeout (bus : Fin 4) (us : Nat) (s : State) : Done :=
  guarded s (decide (1000 ≤ us) && (pick s.xcvr bus).isSome) (s.both fun L => L.stick (canFlag 5) bus)

/-! ### Voice -/

/-- A leaf holds voice of a bus from now (R508). -/
def Leaf.setVoice (L : Leaf) (b : Nat) (holder : LeafId) : Leaf :=
  let mine := decide (holder = L.id)
  let L := L.put CAN_STAT_VOICE_LEAF holder.num b |>.put CAN_STAT_VOICE_HELD (bit mine) b
  if mine then L
  else
    let L := L.put CAN_STAT_TEC 0 b |>.put CAN_STAT_REC 0 b
    if L.eState b = 1 then L.setEState b 0 L.fine else L

/-- Moves of voice that take effect at this boundary (R508). -/
def Leaf.sealVoice (L : Leaf) : Leaf :=
  (List.range 4).foldl (fun L b =>
    match (L.bus b).voiceAt with
    | some (c, h) => if since L.count c < 2 ^ 47 then (L.setVoice b h).onBus b fun B => { B with voiceAt := none } else L
    | none => L) L

/-- A move of voice planned, and mirrored as a VOICE unit (R432, R508). -/
def Leaf.planVoice (L : Leaf) (b : Nat) (holder : LeafId) (at_ : Course) : Leaf :=
  (L.onBus b fun B => { B with voiceAt := some (at_, holder) }).sendUnit 0x16 [2 ^ b, holder.num, at_.toNat] true

/-- A leaf that can take voice by command (R508). -/
def State.mayVoice (s : State) (l : LeafId) : Bool := (s.leaf l).carrying && (s.leaf l).on CRS_STAT_ALIGNED

/-- VOICE (R508): directly in READY and WORKSHOP, at the next boundary; through IR1 in CARRY, at its effective course. -/
def execVoice (l : LeafId) (bus : Fin 4) (direct : Bool) (vleaf : LeafId) (s : State) : Done :=
  let b := bus.val
  let L := s.leaf l
  if direct then
    if s.setup then guarded s (s.mayVoice vleaf) (s.setLeaf l (L.planVoice b vleaf (L.count + 1)))
    else .next (s.setLeaf l (L.discard (CAN_CMD.addr b) (hostId l) (2 ^ 62 + (vleaf.num <<< 61))))
  else
    match L.takeBit (CAN_CMD.addr b) 62 [63] with
    | (none, _) => .next s
    | (some w, L) =>
      let h := if w.getLsbD 61 then LeafId.leaf1 else LeafId.leaf0
      .next (s.setLeaf l ((L.setVoice b h).sendUnit 0x16 [2 ^ b, h.num, L.count.toNat] true))

/-- Whether a leaf declares voice of a bus (R507). -/
def Leaf.declares (L : Leaf) (b : Nat) : Bool := L.sending && L.on CAN_STAT_VOICE_HELD b

/-- VOICE_DECLARATION (R506, R507). -/
def execVoiceDeclaration (bus : Fin 4) (s : State) : Done :=
  let b := bus.val
  let d0 := s.leaf0.declares b
  let d1 := s.leaf1.declares b
  let run := s.mode == .ready || s.mode == .workshop || s.mode == .carry
  let set := fun (s : State) (h : Option LeafId) => ({ s with xcvr := s.xcvr.setIfInBounds b h } : State)
  .next <|
    if !run then set s none
    else if d0 && d1 then s.both fun L => L.stick (canFlag 6) b
    else set s (if d0 then some .leaf0 else if d1 then some .leaf1 else none)

end Sys2Proof.Machine
end

