-- ==== Sys2Proof/Machine/Access.lean ====
section
/-! DEFINITION. The register map at work (R8 to R13): where an offset lies, what a settings value becomes when it is
stored, what the chapters tie to a change of it, and what a write with 1s clears. -/

namespace Sys2Proof.Machine

open Sys2Proof

/-! ### Offsets -/

/-- The member of a family of registers that lies at an offset. -/
def Reg.index (r : Reg) (off : Nat) : Option Nat :=
  if off < r.base then none
  else
    let d := off - r.base
    let q := if r.stride = 0 then 0 else d / r.stride
    let m := if r.stride = 0 then d else d % r.stride
    let k := if r.stride2 = 0 then 0 else m / r.stride2
    let i := q * r.inner + k
    if i < r.count ∧ k < r.inner ∧ r.addr i = off then some i else none

/-- The register at an offset: none where no register is assigned (R12). -/
def findReg (off : Nat) : Option (Reg × Nat) := allRegs.findSome? fun r => (r.index off).map fun i => (r, i)

/-- The block of an offset (R643): BAR0 blocks of 0x4000 bytes. -/
def blockOf (off : Nat) : Nat := off / 0x4000

/-- An offset of the HRE block (R485). -/
def inHre (off : Nat) : Bool := blockOf off == 3

/-- An offset lies in the BST block's diagnostic window (R608). -/
def inDiag (off : Nat) : Bool := off == BST_DADDR.base || off == BST_DDATA.base || off == BST_DCHK.base

/-- A register with a field of the access code. -/
def Reg.hasAcc (r : Reg) (a : Access) : Bool := r.fields.any fun f => f.acc == a

/-! ### Settings values -/

/-- A field whose writes have no effect in the register named: RO in this member of the family (R155, R168, R169, R249,
R488, R531). -/
def heldField (r : Reg) (i : Nat) (f : RField) : Bool :=
  if r == SNS_PCFG then
    let ft := decide (f.lo = SNS_PCFG_FT_EN.lo) || decide (f.lo = SNS_PCFG_FT_HI.lo) || decide (f.lo = SNS_PCFG_FT_LO.lo)
    ft && (decide (i = 12) || !(decide (i ≤ 18) || decide (i = 30)))
  else if r == SNS_PACC then decide (i ≤ 1)
  else if r == GCH_PROT then decide (i % 2 = 1)
  else if r == HRE_IRCFG then decide (10 ≤ i) && decide (f.lo = HRE_IRCFG_EN.lo)
  else if r == HRE_ORCFG then decide (10 ≤ i) && decide (f.lo = HRE_ORCFG_EN.lo)
  else if r == NET_PORT then decide (i = 2) && (f.hi == 63 || f.hi == 62 || f.hi == 28)
  else false

/-- The settings fields of a register replaced by those of a new value, each as the nearer limit of its range. -/
def mergeRws (r : Reg) (i : Nat) (old new : Word) : Word :=
  r.fields.foldl (fun w f =>
    if (f.acc == .rws || f.acc == .rw) && !heldField r i f then
      setField w f.hi f.lo (clampNat f.min f.max (fieldOf new f.hi f.lo))
    else w) old

/-- Field `f` of a word stored as at least field `g` and `d` more. -/
def raiseTo (f g : Fld) (d : Nat) (w : Word) : Word :=
  setField w f.hi f.lo (min f.max (max (fieldOf w f.hi f.lo) (fieldOf w g.hi g.lo + d)))

/-- A reserved code of a field stored as the code its chapter names. -/
def recode (f : Fld) (bad : Nat → Bool) (v : Nat) (w : Word) : Word :=
  if bad (fieldOf w f.hi f.lo) then setField w f.hi f.lo v else w

/-- A signed field stored as the nearer limit of its range. -/
def fitSigned (f : Fld) (lo hi : Int) (w : Word) : Word :=
  let n := f.hi + 1 - f.lo
  setField w f.hi f.lo (unsigned n (clampInt lo hi (signed n (fieldOf w f.hi f.lo))))

/-- Codes that stand for another, signed ranges, and limits between two fields of one register (R143, R169, R200, R248, R287,
R288, R322, R355, R357, R394, R421, R422, R510, R529, R531). -/
def Leaf.fitRws (L : Leaf) (r : Reg) (i : Nat) (old w : Word) : Word :=
  if r == POS_CFG then recode POS_CFG_Z_QUAL (· == 3) 1 w
  else if r == GCH_CFG then recode GCH_CFG_MODE (· == 3) 0 w
  else if r == CAN_MATCH then recode CAN_MATCH_FMT (· == 3) 0 w
  else if r == TRC_SETCFG then
    let w := recode TRC_SETCFG_PER (· == 3) 1 w
    let last := 4 * 2 ^ fieldOf w TRC_SETCFG_PER.hi TRC_SETCFG_PER.lo - 1
    recode TRC_SETCFG_PHASE (last < ·) last w
  else if r == THM_NBR then
    [0, 1, 2, 3].foldl (fun w k =>
      recode ⟨THM_NBR, 8 * k + 7, 8 * k⟩ (fun v => (decide (83 ≤ v) && decide (v < 0xFF)) || v == i) 0xFF w) w
  else if r == NET_PTP then fitSigned ⟨NET_PTP, 55, 48⟩ (-7) 0 (fitSigned ⟨NET_PTP, 47, 40⟩ (-3) 3 w)
  else if r == LNK_AUX then raiseTo LNK_AUX_AUX_OV LNK_AUX_AUX_SET 1 w
  else if r == CHG_PWR then raiseTo CHG_PWR_LLC_PMAX CHG_PWR_LLC_PMIN 0 w
  else if r == SNS_PCFG then
    let w := recode SNS_PCFG_REF (5 < ·) 0 w
    let lo := signed 10 (fieldOf w SNS_PCFG_FT_LO.hi SNS_PCFG_FT_LO.lo)
    let hi := signed 10 (fieldOf w SNS_PCFG_FT_HI.hi SNS_PCFG_FT_HI.lo)
    if lo < hi then w
    else setField w SNS_PCFG_FT_LO.hi SNS_PCFG_FT_LO.lo (fieldOf old SNS_PCFG_FT_LO.hi SNS_PCFG_FT_LO.lo)
  else if r == TRC_SETLIM then
    raiseTo TRC_SETLIM_TJ_MAX TRC_SETLIM_TJ_START 5 (raiseTo TRC_SETLIM_I_TRIP TRC_SETLIM_I_MAX 0x0800 w)
  else if r == CHG_CTRL then raiseTo CHG_CTRL_TJ_MAX CHG_CTRL_TJ_START 5 w
  else if r == THM_DER then raiseTo THM_DER_AUX_END THM_DER_AUX_START 5 (raiseTo THM_DER_LEG_END THM_DER_LEG_START 5 w)
  else if r == THM_CLASS then raiseTo THM_CLASS_ABS_TRIP THM_CLASS_ABS_WARN 1 w
  else if r == CAN_NBT then
    let w := canSjw w true
    if canTimingOk w (L.word CAN_DBT i) then w else old
  else if r == CAN_DBT then
    let w := canSjw w false
    if canTimingOk (L.word CAN_NBT i) w then w else old
  else if r == ACT_DRUM then
    let least := fieldOf w ACT_DRUM_NEUT_POS.hi ACT_DRUM_NEUT_POS.lo +
      2 * fieldOf w ACT_DRUM_PNR_OFS.hi ACT_DRUM_PNR_OFS.lo
    setField w ACT_DRUM_G2_POS.hi ACT_DRUM_G2_POS.lo
      (min ACT_DRUM_G2_POS.max (max (fieldOf w ACT_DRUM_G2_POS.hi ACT_DRUM_G2_POS.lo) least))
  else w

/-- The channel settings sent to a channel in MAINT WRITE frames, tagged with the course in which they take effect
(R218, R243). -/
def Leaf.configChan (L : Leaf) (n : Nat) (course : Course) : Leaf :=
  let c := (L.word GCH_CFG n).toNat
  let p := (L.word GCH_PROT (evenOf n)).toNat
  (((L.maint n course 1 0 (c % 2 ^ 32)).maint n course 1 1 (c / 2 ^ 32)).maint n course 1 2 (p % 2 ^ 32)).maint n course 1 3
    (p / 2 ^ 32)

/-- A settings register stored, with what the chapters tie to its change (R218, R271, R308, R375, R405, R470, R538).
`course` is the course from which the value holds. -/
def Leaf.storeRws (L : Leaf) (r : Reg) (i : Nat) (new : Word) (course : Course) : Leaf :=
  let old := L.word r i
  let w := L.fitRws r i old (mergeRws r i old new)
  if w = old then L
  else
    let calOld := (L.word LDG_CAL).toNat
    let packOld := (L.word LDG_PACK).toNat
    let L := L.setWord r i w
    let bitNew := fun (f : Fld) => fieldOf w f.hi f.lo
    let bitOld := fun (f : Fld) => fieldOf old f.hi f.lo
    if r == TRC_SETCFG then
      if bitNew TRC_SETCFG_EN = bitOld TRC_SETCFG_EN then L else L.commitEn i (bitNew TRC_SETCFG_EN == 1)
    else if r == GCH_CFG then L.configChan i course
    else if r == GCH_PROT then (L.configChan i course).configChan (i + 1) course
    else if r == LNK_OV then L.setFtLink
    else if r == LNK_SCALE then
      (L.setFtLink).recordMetrology calOld packOld
    else if r == LNK_ASCALE || r == CHG_SCALE || r == LDG_CAL || r == LDG_PACK then L.recordMetrology calOld packOld
    else if r == ACT_CTRL then
      (List.range 3).foldl (fun L a =>
        let f := ACT_CTRL_EN.bit a
        let L := L.configStage a
        if bitNew f = bitOld f then L else L.commitActEn a (bitNew f == 1)) L
    else if r == ACT_CFG then L.configStage i
    else if r == HRE_IRCFG then
      if bitNew HRE_IRCFG_EN = 1 ∧ bitOld HRE_IRCFG_EN = 0 then
        { L with hre := { L.hre with dseq := L.hre.dseq.setIfInBounds i none, moved := L.hre.moved.setIfInBounds i L.count } }
      else L
    else if r == THM_NTC then
      if bitNew THM_NTC_EN = 1 ∧ bitOld THM_NTC_EN = 0 then
        (L.put THM_TEMP_SAMPLES 0 (67 + i)).put THM_TEMP_ARMED 0 (67 + i)
      else L
    else L

/-- Why a settings register cannot take a value in the state the leaf is in: the code of R477 (R44, R255, R273, R308,
R309, R354, R357, R392, R510). -/
def Leaf.refuseRws (L : Leaf) (r : Reg) (i : Nat) (new : Word) : Option Nat :=
  let old := L.word r i
  let w := mergeRws r i old new
  if w = old then none
  else if r == TRC_SETCFG then (if L.refuseSetCfg i w then some 0x0201 else none)
  else if r == LNK_OV then (if ovOrder w then none else some 0x0105)
  else if r == LNK_CHOP then (if chopOk w then none else some 0x0105)
  else if r == CHG_PWR && fieldOf w CHG_PWR_LLC_IPK.hi CHG_PWR_LLC_IPK.lo == 0 && L.on CHG_CTRL_EN then some 0x0105
  else if r == CHG_CTRL && fieldOf w CHG_CTRL_EN.hi CHG_CTRL_EN.lo == 1 && L.get CHG_PWR_LLC_IPK == 0 then some 0x0105
  else if (r == CHG_CTRL || r == CHG_BATT || r == CHG_PWR || r == CHG_SCALE) && L.chgLive then some 0x0201
  else if (r == ACT_DRUM || r == ACT_SHIFT) && decide (L.get ACT_STAT_SHIFT ≠ 0) then some 0x0201
  else if r == CAN_NBT then (if canTimingOk w (L.word CAN_DBT i) then none else some 0x0105)
  else if r == CAN_DBT then (if canTimingOk (L.word CAN_NBT i) w then none else some 0x0105)
  else none

/-- The least EDGE_GUARD for a FOLLOW_SKEW in ns: 320 fine ticks and the skew, rounded up (R44). -/
def guardMin (skew : Nat) : Nat := 320 + (skew * 640 + 999) / 1000

/-- EDGE_GUARD and FOLLOW_SKEW agree (R44). -/
def Leaf.guardOk (L : Leaf) : Bool := decide (guardMin (L.get TIE_CTRL_FOLLOW_SKEW) ≤ L.get CRS_CTRL_EDGE_GUARD)

/-! ### Writes with an effect of their own -/

/-- A write to a W1C register: each 1 clears the bit, but where a chapter holds it (R13, R161, R350, R587). -/
def Leaf.clearOnes (L : Leaf) (r : Reg) (i : Nat) (value : Word) (workshop : Bool) : Leaf :=
  if r == TRC_SETFLT then L.clearSetFlt i value
  else if r == LNK_FLT then L.clearLnkFlt workshop (value &&& ~~~ 2#64)
  else
    let held : Word :=
      if r == SNS_FLT then
        (List.range 4).foldl (fun m s => if L.setState s = 0 then m else m ||| maskOf (6 + s) (6 + s)) 0#64
      else if r == CHG_FLT then maskOf CHG_FLT_LOCKED.hi CHG_FLT_LOCKED.lo
      else if r == UPD_FLT && L.upd.mixedAt.isSome then maskOf (UPD_FLT_FLAGS.bit 4).hi (UPD_FLT_FLAGS.bit 4).lo
      else 0
    let mask := r.fields.foldl (fun m f => if f.acc == .w1c then m ||| maskOf f.hi f.lo else m) (0#64)
    L.setWord r i (L.word r i &&& ~~~ (value &&& mask &&& ~~~ held))

/-- A register with a row of its own in the table of commands: a write to it is that command. -/
def ownRow (r : Reg) : Bool :=
  [HRE_CTRL, SNS_CMD, POS_CMD, POS_FLT, GCH_CMD, TIE_CMD, CHG_CMD, CAN_CMD, BST_CMD, BST_DCHK, ASH_DBG, THM_BRK0, THM_BRK1,
    SEC_STAT, MBX_BIND, MBX_TBL, MBX_MSG, MBX_POST, MBX_ACK, LOCK].contains r

end Sys2Proof.Machine
end

