-- ==== Sys2Proof/Machine/Blocks.lean ====
section
/-! DEFINITION. Block lists and settings generations: admission (R70), the fill queues (R72), and what a generation
loads (R578). -/

namespace Sys2Proof.Machine

open Sys2Proof

/-! ### Block lists -/

/-- A block runs in the courses of its period and phase (R69). -/
def blockRuns (b : FillBlock) (c : Nat) : Bool :=
  decide (0 < b.period) && decide ((c + 32 - b.phase % 32) % b.period = 0)

/-- A block inserted by descending bound; equal bounds keep their order. -/
def insertBound (b : FillBlock) : List FillBlock → List FillBlock
  | [] => [b]
  | x :: t => if x.bound < b.bound then b :: x :: t else x :: insertBound b t

/-- Blocks in order of descending bound (R72). -/
def byBound (l : List FillBlock) : List FillBlock := l.foldl (fun a b => insertBound b a) []

/-- The sum of bounds of a queue. -/
def sumBounds (q : List FillBlock) : Nat := q.foldl (fun a b => a + b.bound) 0

/-- The queue with the smallest sum of bounds, the lowest engine among equals. -/
def leastQueue : List (Nat × List FillBlock) → Option Nat
  | [] => none
  | (e, q) :: t => match leastQueue t with
    | none => some e
    | some e' =>
      let q' := ((t.find? fun x => x.1 == e').map (·.2)).getD []
      if sumBounds q ≤ sumBounds q' then some e else some e'

/-- A block added to the queue of an engine. -/
def addTo (e : Nat) (b : FillBlock) (qs : List (Nat × List FillBlock)) : List (Nat × List FillBlock) :=
  qs.map fun x => if x.1 = e then (e, x.2 ++ [b]) else x

/-- A queue in the order it is run: class 0 to 3, each in descending bound (R72). -/
def runOrder (q : List FillBlock) : List FillBlock :=
  [0, 1, 2, 3].flatMap fun c => q.filter fun b => b.cls.val == c

/-- The queues of R72: blocks by descending bound, each to the queue with the smallest sum. -/
def placeQueues (engines : List Nat) (blocks : List FillBlock) : List (Nat × List FillBlock) :=
  ((byBound blocks).foldl (fun qs b => match leastQueue qs with
    | some e => addTo e b qs
    | none => qs) (engines.map fun e => (e, []))).map fun x => (x.1, runOrder x.2)

/-- The courses of the pattern. -/
def pattern : List Nat := List.range 32

/-- The blocks of one course of the pattern. -/
def courseBlocks (blocks : List FillBlock) (c : Nat) : List FillBlock := blocks.filter fun b => blockRuns b c

/-- Sum of the bounds of classes 0 and 1 (R70). -/
def sum01 (l : List FillBlock) : Nat := sumBounds (l.filter fun b => decide (b.cls.val ≤ 1))

/-- The limits of R70 on a block list. The queue limit is taken with the 14 engines of the plan (R23). -/
def listOk (fillMax budget : Nat) (keyed : List Nat) (blocks : List FillBlock) : Bool :=
  keyed.all (fun b => decide (b ≤ 1440)) &&
  blocks.all (fun b => decide (b.bound ≤ fillMax) && [1, 2, 4, 8, 16, 32].contains b.period && decide (b.phase < b.period)) &&
  pattern.all fun c =>
    let l := courseBlocks blocks c
    decide (sumBounds l ≤ budget) && decide (sum01 l ≤ 30000) && decide (l.length ≤ 256) &&
      (placeQueues (List.range 14) l).all fun q => decide (q.2.length ≤ 32)

/-- The block list in force meets R70 under given limits. -/
def Leaf.blocksOk (L : Leaf) (fillMax budget : Nat) : Bool := listOk fillMax budget L.ash.keyedBounds L.ash.blocks

/-- The largest value over the pattern. -/
def maxOver (f : Nat → Nat) : Nat := pattern.foldl (fun m c => max m (f c)) 0

/-- PLAN_C01 and PLAN_FILL of a block list (R93). -/
def Leaf.showLoad (L : Leaf) : Leaf :=
  L.put ASH_LOAD_PLAN_C01 (maxOver fun c => sum01 (courseBlocks L.ash.blocks c)) |>.put ASH_LOAD_PLAN_FILL
    (maxOver fun c => sumBounds (courseBlocks L.ash.blocks c))

/-! ### Settings generations -/

/-- The settings a generation gives to a register: its preset, or the reset value. -/
def presetOf (g : Settings) (r : Reg) (i : Nat) : Word :=
  ((g.presets.find? fun p => p.1 == r.addr i).map (·.2)).getD (BitVec.ofNat 64 (r.resetAt i))

/-- A limit as a generation presets it, within the field's range. -/
def presetField (g : Settings) (f : Fld) : Nat :=
  fieldOf (mergeRws f.reg 0 (BitVec.ofNat 64 (f.reg.resetAt 0)) (presetOf g f.reg 0)) f.hi f.lo

/-- The keystone admits a generation's block list and tables (R70, R104, R264). -/
def admitSettings (g : Settings) : Bool :=
  listOk (presetField g ASH_CTRL_FILL_MAX) (presetField g ASH_CTRL_FILL_BUDGET) g.keyedBounds g.blocks &&
    g.coefs.all (fun t => admitTable t.2.2) && g.currents.all fun t => admitCurrent t.2

/-- Presets taken, each as a write of its register. -/
def Leaf.loadPresets (L : Leaf) (g : Settings) : Leaf :=
  g.presets.foldl (fun L p => match findReg p.1 with
    | some (r, i) => if r.hasAcc .rws then L.storeRws r i p.2 (L.count + 1) else L
    | none => L) L

/-- Coefficient tables, current tables and the block list of a generation. -/
def Leaf.loadTables (L : Leaf) (g : Settings) : Leaf :=
  let L := g.coefs.foldl (fun L t => L.loadTable (t.1 / 8) (t.1 % 8) t.2.1 t.2.2) L
  let L := (g.currents.filter fun t => decide (t.1 < 2)).foldl (fun L t =>
    (L.onMach t.1 fun M => { M with table := some t.2 }).put TRC_MSTAT_TAB_ID (ctWord t.2 0 2 % 256) t.1) L
  ({ L with ash := { L.ash with blocks := g.blocks, keyedBounds := g.keyedBounds } } : Leaf).showLoad

/-- The BMS map of a generation (R554): one that names what the pack has not is refused. -/
def Leaf.loadBms (L : Leaf) (g : Settings) : Leaf :=
  if mapOk (L.get HIS_CTRL_CELLS) g.bms then L.onHis fun H => { H with map := g.bms }
  else (L.onHis fun H => { H with map := [] }).raise (hisFlag 3)

/-- UPD_SET and UPD_SLOT as the flash stands (R587). -/
def Leaf.showUpd (L : Leaf) : Leaf :=
  let U := L.upd
  let gen := (U.current.map (·.gen)).getD 0
  let fmt := (U.current.map (·.fmt)).getD U.factory.fmt
  let L := L.put UPD_SET_GEN gen |>.put UPD_SET_FMT fmt |>.put UPD_SET_UNCONF (bit U.genUnconf)
    |>.put UPD_SET_SOURCE (bit U.source.isSome) |>.put UPD_SET_IMPORT (bit U.import_.isSome)
    |>.put UPD_SET_STAGED (bit U.staged.isSome)
  let a := pick U.slots 0
  let b := pick U.slots 1
  let L := L.put UPD_SLOT_ACTIVE U.active |>.put UPD_SLOT_TRIAL (bit U.trial) |>.put UPD_SLOT_VALID_A (bit a.valid)
    |>.put UPD_SLOT_VALID_B (bit b.valid) |>.put UPD_SLOT_MIRROR L.tie.mirrorFmt
    |>.put UPD_SLOT_SET_FMT (pick U.slots U.active).setFmt
  let v := fun (L : Leaf) (sec fea : Fld) (x : ImgSlot) =>
    L.put sec (if x.valid then x.secver else 0) |>.put fea (if x.valid then x.featver else 0)
  let L := v (v L UPD_VERA_SECVER UPD_VERA_FEATVER a) UPD_VERB_SECVER UPD_VERB_FEATVER b
  L.put UPD_FLOOR_FLOOR_P U.floorP |>.put UPD_FLOOR_FLOOR_S U.floorS

/-- The generation in force: CURRENT, or generation 0 of the image (R578). -/
def Leaf.inForce (L : Leaf) : Settings := L.upd.current.getD L.upd.factory

/-- A generation loaded before READY (R578): registers, tables, block list, BMS map and mailbox bindings. -/
def Leaf.loadSettings (L : Leaf) (g : Settings) : Leaf :=
  (((L.loadPresets g).loadTables g).loadBms g).loadBinds g.binds

/-- The RWS registers of another leaf taken over (R428, R446), but for those each leaf holds for itself (R461). -/
def Leaf.takeRegs (L P : Leaf) : Leaf :=
  allRegs.foldl (fun L r =>
    if !r.hasAcc .rws || r == HRE_SB_ADDR || r == HRE_NRX_ADDR || r == HRE_ORBASE then L
    else (List.range r.count).foldl (fun L i =>
      let w := r.fields.foldl (fun w f =>
        if f.acc == .rws then setField w f.hi f.lo (fieldOf (P.word r i) f.hi f.lo) else w) (L.word r i)
      if w = L.word r i then L else L.setWord r i w) L) L

/-- An instance with the tables and the active bank of the leaf that carries; its histories are its own (R22). -/
def Comp.takeTables (c p : Comp) : Comp :=
  if c.bank = p.bank ∧ c.active = p.active then c
  else
    { c with
      bank := p.bank, active := p.active, diffRun := 0, disarmed := 64, bankNext := p.bankNext
      form := match pick p.bank p.active with
        | some t => startForm t
        | none => .direct }

/-- Settings given by alignment: registers, tables and the plan of the leaf that carries (R51, R428, R446). -/
def Leaf.takeSettings (L P : Leaf) : Leaf :=
  let L := L.takeRegs P
  let L := { L with
    ash := { L.ash with blocks := P.ash.blocks, keyedBounds := P.ash.keyedBounds }
    cmp := { L.cmp with inst := P.cmp.inst.map fun (p : Nat × Comp) => (p.1, (L.inst (p.1 / 8) (p.1 % 8)).takeTables p.2) }
    his := { L.his with map := P.his.map } }
  let L := [0, 1].foldl (fun L m =>
    (L.onMach m fun M => { M with table := (pick P.trc.machs m).table }).put TRC_MSTAT_TAB_ID (P.get TRC_MSTAT_TAB_ID m) m) L
  (L.put CRS_PLAN_PLAN_GEN (P.get CRS_PLAN_PLAN_GEN)).put CRS_PLAN_PLAN_COURSE (P.get CRS_PLAN_PLAN_COURSE) |>.showLoad

end Sys2Proof.Machine
end

