-- ==== Sys2Proof/Machine/Capture.lean ====
section
/-! DEFINITION. Test signals, correlation and capture (R111 to R124): what a start needs, how a test and a capture run
from course to course, and the commands of the two that no plan commits. -/

namespace Sys2Proof.Machine

open Sys2Proof

/-! ### Tests -/

/-- The stage of an instance is in its active state (R113). -/
def Leaf.stageActive (L : Leaf) (block : Nat) : Bool :=
  match L.groupOf block with
  | 4 => L.get LNK_STAT_CONV == 2
  | 5 => L.get LNK_STAT_CONV == 2
  | 6 => L.on LNK_STAT_AUX_RUN
  | 7 => decide (3 ≤ L.get CHG_STAT_STATE) && decide (L.get CHG_STAT_STATE ≤ 6)
  | 8 => decide (4 ≤ L.get CHG_STAT_STATE) && decide (L.get CHG_STAT_STATE ≤ 6)
  | 9 => match L.ash.blocks.find? fun b => b.id == block with
    | some { kind := .actuator a, .. } => decide (2 ≤ L.get ACT_CHSTAT_STATE a) && decide (L.get ACT_CHSTAT_STATE a ≤ 4)
    | _ => false
  | 10 => true
  | s => L.get TRC_SETSTAT_STATE s == 2

/-- The limit of a point (R127). -/
def Leaf.pointLimit (L : Leaf) (p : Nat) : Nat :=
  match p with
  | 0 => L.get ASH_TS_LIM_LIM_REF
  | 1 => L.get ASH_TS_LIM_LIM_ERR
  | 2 => L.get ASH_TS_LIM_LIM_OUT
  | _ => L.get ASH_TS_LIM_LIM_FBK

/-- The courses of one correlation window, and the increment it runs at (R115). -/
def windowOf (k inc : Nat) : Nat × Nat :=
  let m := if inc = 0 then 0 else (k * 2 ^ 32 + inc / 2) / inc
  (m, if m = 0 then inc else (k * 2 ^ 32 + m / 2) / m)

/-- The largest number of `n` bits whose half-open rounding interval begins at or below the `m`-th root of `v`: the
`m`-th root rounded to the nearest integer. -/
def rootNear (m v : Nat) : Nat → Nat → Nat
  | 0, r => r
  | n + 1, r => rootNear m v n (if (2 * (r + 2 ^ n) - 1) ^ m ≤ 2 ^ m * v then r + 2 ^ n else r)

/-- Point `p` of `n` of a sweep: increments spaced logarithmically from `a` to `b`, the nearest integer (R115). -/
def sweepInc (a b p n : Nat) : Nat := rootNear (n - 1) (a ^ (n - 1 - p) * b ^ p) 31 0

/-- The increments of a test: its own, or those of its sweep (R115). -/
def pointInc (d : Slot) (p : Nat) : Nat :=
  let n := sl d 48 1
  if tdSweep d && decide (1 < n) then sweepInc (tdInc d) (tdInc2 d) p n else tdInc d

/-- A sine increment within R112. -/
def incOk (i : Nat) : Bool := decide (2684 ≤ i) && decide (i ≤ 2 ^ 29)

/-- The fields of a TEST_START that are out of range (R112, R115, R122): the byte offset. -/
def testField (d : Slot) : Option Nat :=
  if 3 < sl d 17 1 then some 17
  else if 4 < tdWave d then some 18
  else
    let wave :=
      match tdWave d with
      | 0 => incOk (tdInc d) && (!tdSweep d || incOk (tdInc2 d))
      | 1 => decide (1 ≤ tdInc d) && decide (tdInc d ≤ 65536)
      | 2 => true
      | 3 => decide (7 ≤ tdInc d / 256 % 256) && decide (tdInc d / 256 % 256 ≤ 15)
      | _ => incOk (tdInc d) && incOk (tdInc2 d) && decide (1 ≤ sl d 44 4) && decide (sl d 44 4 ≤ 2 ^ 24)
    if !wave then some 36
    else if tdCorrelate d && tdWave d != 0 then some 19
    else if tdCorrelate d && !(decide (1 ≤ tdK d) && decide (tdK d ≤ 4096) && decide (tdS d ≤ 4096) &&
        decide ((windowOf (tdK d) (tdInc d)).1 ≤ 2 ^ 24) &&
        (!tdSweep d || decide ((windowOf (tdK d) (tdInc2 d)).1 ≤ 2 ^ 24))) then some 44
    else if tdSweep d && !(tdCorrelate d && decide (1 ≤ sl d 48 1) && decide (sl d 48 1 ≤ 64)) then some 48
    else none

/-- Why a TEST_START is refused: code and byte offset (R113, R114). `mode` is the module's. -/
def Leaf.refuseTest (L : Leaf) (mode : Mode) (d : Slot) : Option (Nat × Nat) :=
  let slot := sl d 17 1
  let busy := fun s => decide (1 ≤ L.get (tsState s)) && decide (L.get (tsState s) ≤ 5)
  match testField d with
  | some o => some (0x0105, o)
  | none =>
    if busy slot then some (0x0201, 17)
    else if (List.range 4).any fun s => busy s && tdBlock (pick L.cmp.tests s).desc == tdBlock d &&
        tdInst (pick L.cmp.tests s).desc == tdInst d then some (0x0201, 19)
    else if L.pointLimit (tdPoint d) * 2 ^ 15 < (tdAmp d).natAbs then some (0x0105, 32)
    else if !L.stageActive (tdBlock d) then some (0x0206, 20)
    else match mode with
      | .workshop => none
      | .carry => if L.on (ASH_TS_PERMIT_PERMIT.bit (4 * L.groupOf (tdBlock d) + tdPoint d)) then none else some (0x0206, 19)
      | _ => some (0x0206, 19)

/-- A test begun at its course (R113 to R115). -/
def Leaf.beginTest (L : Leaf) (d : Slot) : Leaf :=
  let s := sl d 17 1
  let (m, inc) := windowOf (tdK d) (pointInc d 0)
  let t : Test :=
    { desc := d, start := L.count, inc := if tdCorrelate d then inc else tdInc d, phaseAt := L.count, window := m }
  let L := { L with cmp := { L.cmp with tests := L.cmp.tests.setIfInBounds s t } }
  L.put (tsState s) 2 |>.put (tsAbort s) 0 |>.put (tsPoint s) 0

/-- A test accepted and waiting for its course. -/
def Leaf.pendTest (L : Leaf) (d : Slot) : Leaf := L.put (tsState (sl d 17 1)) 1 |>.put (tsAbort (sl d 17 1)) 0

/-- A TEST_STOP at its course: the ramp down begins (R113, R114). -/
def Leaf.stopTest (L : Leaf) (s : Nat) : Leaf :=
  let st := L.get (tsState s)
  if 2 ≤ st ∧ st ≤ 4 then
    let L := { L with cmp := { L.cmp with tests := alter L.cmp.tests s fun t => { t with downAt := some L.count } } }
    L.put (tsState s) 5 |>.put (tsAbort s) 1
  else if st = 1 then L.put (tsState s) 7 |>.put (tsAbort s) 1 else L

/-- The courses of S settling periods at the increment in use. -/
def settleLen (t : Test) : Nat := if t.inc = 0 then 0 else (tdS t.desc * 2 ^ 32 + t.inc - 1) / t.inc

/-- A test at the start of a course: ramp up, settling, correlating, ramp down, done (R113, R115, R129). -/
def Leaf.stepTest (L : Leaf) (s : Nat) : Leaf :=
  let t := pick L.cmp.tests s
  let r := tdRamp t.desc
  let n := since L.count t.start
  match L.get (tsState s) with
  | 2 => if r ≤ n then
      let L := L.put (tsState s) 3
      { L with cmp := { L.cmp with tests := alter L.cmp.tests s fun t => { t with winFrom := after t.start (r + settleLen t) } } }
    else L
  | 3 => if tdCorrelate t.desc && L.count == t.winFrom then L.put (tsState s) 4 else L
  | 5 => if t.downAt.any fun c => decide (r ≤ since L.count c) then
      (if L.get (tsAbort s) = 1 then L.put (tsState s) 7 else L.put (tsState s) 6)
    else L
  | _ => L

/-- A correlation result on OR3 (R123). -/
def Leaf.postResult (L : Leaf) (s : Nat) (sums : List Int) (rep failed shed : Bool) : Leaf :=
  let t := pick L.cmp.tests s
  let w := fun k => unsigned 64 (sums.getD k 0)
  let fl := bit (!failed && !shed) + 2 * bit rep + 4 * bit failed + 8 * bit shed + 512 * L.get (tsPoint s) + 32768 * L.id.num
  let mhz := (t.inc * 160000 * 1000 + 2 ^ 31) / 2 ^ 32
  let g := fun k => sums.getD k 0
  L.produce
    { ring := 3, isLocal := false, course := L.count
      body := body [(16, 1, 0x10), (17, 1, s), (18, 2, fl), (20, 4, mhz), (24, 8, w 0), (32, 8, w 1), (40, 8, w 2),
        (48, 8, w 3), (56, 4, Config.ratioMag (g 0) (g 1) (g 2) (g 3)), (60, 4, Config.ratioPhase (g 0) (g 1) (g 2) (g 3))] }

/-- A correlation that shedding stops posts its result so marked (R114, R123); the sums it has reached are open (log
entry 46). -/
def State.shedResult (s : State) (l : LeafId) (slot : Nat) : State :=
  if (s.leaf l).get (tsState slot) = 4 then
    let (a, s) := s.take
    let (b, s) := s.take
    let (c, s) := s.take
    let (d, s) := s.take
    s.on l fun L => L.postResult slot [a, b, c, d] (pick L.cmp.tests slot).repeated false true
  else s

/-- The tests of a leaf at the start of a course; level 2 of shedding stops them (R114). -/
def State.sealTests (s : State) (l : LeafId) : State :=
  if 2 ≤ (s.leaf l).get ASH_STAT_SHED then
    ((List.range 4).foldl (fun s k => s.shedResult l k) s).on l fun L =>
      ((List.range 4).foldl (fun L k => L.stepTest k) L).abortTests (fun _ => true) 3
  else s.on l fun L => (List.range 4).foldl (fun L k => L.stepTest k) L

/-- CORRELATION_WINDOW_END (R115, R117): the window's result, its repeat, or its failure; then the next point. -/
def execCorrelationWindowEnd (l : LeafId) (slot : Fin 4) (ia qa ib qb : Int) (lost : Bool) (s : State) : Done :=
  let L := s.leaf l
  let t := pick L.cmp.tests slot
  let next := L.count
  guarded s (decide (L.get (tsState slot) = 4) && decide (t.window ≤ since next t.winFrom)) <| s.setLeaf l <|
    let setT := fun (L : Leaf) (f : Test → Test) => ({ L with cmp := { L.cmp with tests := alter L.cmp.tests slot f } } : Leaf)
    if lost then
      if t.repeated then
        ((L.postResult slot [ia, qa, ib, qb] true true false).put (tsState slot) 7).put (tsAbort slot) 5
      else setT L fun t => { t with winFrom := next, repeated := true }
    else
      let L := L.postResult slot [ia, qa, ib, qb] t.repeated false false
      let p := L.get (tsPoint slot) + 1
      let points := if tdSweep t.desc then sl t.desc 48 1 else 1
      if p < points then
        let (m, inc) := windowOf (tdK t.desc) (pointInc t.desc p)
        let ph := (t.phase + t.inc * since next t.phaseAt) % 2 ^ 32
        let L := setT L fun t =>
          { t with inc := inc, phase := ph, phaseAt := next, window := m, repeated := false }
        let t := pick L.cmp.tests slot
        ((setT L fun t' => { t' with winFrom := after next (settleLen t) }).put (tsPoint slot) p).put (tsState slot) 3
      else (setT L fun t => { t with downAt := some next }).put (tsState slot) 5

/-! ### Captures -/

/-- The state of a capture slot (R130). -/
def capState (s : Nat) : Fld := ASH_CAP_STAT_SLOT.bit 0 |> fun f => { f with hi := f.lo + 4 * s + 3, lo := f.lo + 4 * s }

/-- Fields of a CAPTURE_START (R122). -/
def cdTrig (d : Slot) : Nat := slBits d 18 1 7 4
def cdChans (d : Slot) : Nat := slBits d 18 1 3 0
def cdMean (d : Slot) : Bool := slBits d 19 1 0 0 == 1
def cdStream (d : Slot) : Bool := slBits d 19 1 1 1 == 1
def cdDram (d : Slot) : Bool := slBits d 19 1 2 2 == 1
def cdSpill (d : Slot) : Bool := slBits d 19 1 3 3 == 1
def cdEvery (d : Slot) : Nat := sl d 20 2 + 1
def cdPre (d : Slot) : Nat := sl d 22 1
def cdRows (d : Slot) : Nat := sl d 32 4
def cdSel (d : Slot) (j : Nat) : Nat := sl d (40 + 2 * j) 2

/-- The MiB a capture's buffer takes (R119). -/
def capMib (d : Slot) : Nat := if cdDram d then (cdRows d * cdChans d * 4 + 2 ^ 20 - 1) / 2 ^ 20 else 0

/-- A capture is under way in the slot. -/
def Leaf.capBusy (L : Leaf) (s : Nat) : Bool := [1, 2, 3, 6].contains (L.get (capState s))

/-- Why a CAPTURE_START is refused (R118 to R120). -/
def Leaf.refuseCapture (L : Leaf) (d : Slot) : Option (Nat × Nat) :=
  let slot := sl d 17 1
  if 3 < slot then some (0x0105, 17)
  else if cdChans d = 0 ∨ 12 < cdChans d ∨ 4 < cdTrig d then some (0x0105, 18)
  else if !(cdStream d || cdDram d) || (cdSpill d && !cdDram d) || decide (16 ≤ sl d 19 1) then some (0x0105, 19)
  else if cdStream d && decide (10 * cdEvery d < cdChans d) then some (0x0105, 20)
  else if 15 < cdPre d then some (0x0105, 22)
  else if 11 < sl d 23 1 ∨ (3 ≤ cdTrig d ∧ cdChans d ≤ sl d 23 1) then some (0x0105, 23)
  else if cdRows d = 0 then some (0x0105, 32)
  else if L.capBusy slot then some (0x0201, 17)
  else if !cdSpill d && decide (L.get ASH_CAP_STAT_FREE_MIB < capMib d) then some (0x0205, 32)
  else none

/-- A status entry of a slot (R123). -/
def Leaf.postCapture (L : Leaf) (s : Nat) : Leaf :=
  let C := pick L.cmp.caps s
  L.produce
    { ring := 3, isLocal := false, course := L.count
      body := body [(16, 1, 0x03), (17, 1, s), (18, 2, 32 * L.id.num + 4096 * L.get (capState s)), (20, 4, C.rows),
        (24, 6, (C.triggered.getD 0).toNat), (32, 4, L.get ASH_CAP_STAT_LOST)] }

def Leaf.onCap (L : Leaf) (s : Nat) (f : Capture → Capture) : Leaf :=
  { L with cmp := { L.cmp with caps := alter L.cmp.caps s f } }

/-- A slot moved to a state, with its status entry. -/
def Leaf.moveCap (L : Leaf) (s st : Nat) : Leaf := (L.put (capState s) st).postCapture s

/-- A capture set up: its buffer allocated, armed for its trigger (R119, R120). -/
def Leaf.armCapture (L : Leaf) (d : Slot) : Leaf :=
  let s := sl d 17 1
  let old := (pick L.cmp.caps s).mib
  let free := L.get ASH_CAP_STAT_FREE_MIB + old
  let mib := min (capMib d) free
  let L := L.put ASH_CAP_STAT_FREE_MIB (free - mib)
  let L := { L with cmp := { L.cmp with
    caps := L.cmp.caps.setIfInBounds s { desc := d, start := L.count, mib := mib }
    buffers := L.cmp.buffers.setIfInBounds s []
    spill := L.cmp.spill.setIfInBounds s [] } }
  L.moveCap s (if 0 < cdPre d ∧ 2 ≤ cdTrig d then 2 else 1)

/-- A capture triggered in this course (R120). -/
def Leaf.triggerCapture (L : Leaf) (s : Nat) : Leaf :=
  let L := L.onCap s fun C => { C with
    triggered := some L.count, start := if cdTrig C.desc ≤ 1 then L.count else C.start }
  L.moveCap s 3

/-- The value of a channel in this course (R118): a probe, a sense record, a position, or an output time, which reaches the
capture with the command. -/
def Leaf.capValue (L : Leaf) (sel : Nat) (time : Nat) : Int :=
  let item := sel / 64 % 256
  let sub := sel % 64
  match sel / 16384 % 4 with
  | 0 => ((kvFind L.cmp.probes item).getD []).getD sub 0
  | 1 =>
    let r := (pick L.sns.ports item).record
    match sub with
    | 0 => r.mean
    | 1 => r.lo
    | _ => r.hi
  | 2 => if sub = 0 then (((pick L.pos item).pos).toNat : Int) else (((pick L.pos item).edgeFine).toNat : Int)
  | _ => time

/-- Samples of one row sent as a stream entry of up to ten (R121, R123). -/
def Leaf.streamChunk (L : Leaf) (kind s first : Nat) (vs : List Int) : Leaf :=
  let items := (List.range vs.length).map fun i => (24 + 4 * i, 4, unsigned 32 (vs.getD i 0))
  L.produce
    { ring := 3, isLocal := false, course := L.count
      body := body ([(16, 1, kind), (17, 1, s), (18, 2, vs.length + 32 * L.id.num), (20, 4, first % 2 ^ 32)] ++ items) }

/-- A row streamed: lost where the queue is full (R121). -/
def Leaf.streamRow (L : Leaf) (s : Nat) (row : List Int) : Leaf :=
  let C := pick L.cmp.caps s
  let one := fun (L : Leaf) (first : Nat) (vs : List Int) =>
    if vs.isEmpty then L
    else if 64 ≤ (L.hre.comQ.filter fun e => e.ring == 3 && e.kind == 1).length then (L.bumpBy ASH_CAP_STAT_LOST vs.length).postCapture s
    else L.streamChunk 1 s first vs
  let L := one (one L C.sampleNo (row.take 10)) (C.sampleNo + 10) (row.drop 10)
  L.onCap s fun C => { C with sampleNo := C.sampleNo + row.length }

/-- Rows the buffer and the spill partition hold (R119). -/
def bufferRows (C : Capture) : Nat := C.mib * 2 ^ 20 / (4 * max 1 (cdChans C.desc))
def spillRows (C : Capture) : Nat := 8 * 2 ^ 30 / (4 * max 1 (cdChans C.desc))

/-- A row stored in DRAM, or in spill once the buffer is full; before the trigger only the newest are kept (R119, R120). -/
def Leaf.storeRow (L : Leaf) (s : Nat) (row : List Int) : Leaf :=
  let C := pick L.cmp.caps s
  let keep := cdRows C.desc * cdPre C.desc / 16
  let buf := pick L.cmp.buffers s
  let spl := pick L.cmp.spill s
  if L.get (capState s) = 2 then
    let b := buf ++ [row]
    { L with cmp := { L.cmp with buffers := L.cmp.buffers.setIfInBounds s (b.drop (b.length - keep)) } }
  else if buf.length < bufferRows C then
    { L with cmp := { L.cmp with buffers := L.cmp.buffers.setIfInBounds s (buf ++ [row]) } }
  else if cdSpill C.desc && decide (spl.length < spillRows C) then
    { L with cmp := { L.cmp with spill := L.cmp.spill.setIfInBounds s (spl ++ [row]) } }
  else L.moveCap s (if cdSpill C.desc then 8 else 4)

/-- CAPTURE_ROW (R118, R119): the capture block runs in a course; a row forms every D courses, of the course's values or of
the means of the D courses that end in it. -/
def execCaptureRow (l : LeafId) (slot : Fin 4) (times : List Int) (s : State) : Done :=
  let L := s.leaf l
  let C := pick L.cmp.caps slot
  let d := C.desc
  let st := L.get (capState slot)
  guarded s (L.computing && (decide (st = 2) || decide (st = 3)) && decide (L.get ASH_STAT_SHED < 2)) <| s.setLeaf l <|
    let vs := (List.range (cdChans d)).map fun j => L.capValue (cdSel d j) (times.getD j 0).toNat
    let sums := if C.sums.isEmpty then vs else List.zipWith (fun a b => a + b) C.sums vs
    let n := C.n + 1
    let L := L.onCap slot fun C => { C with sums := sums, n := n }
    if since L.count C.start % cdEvery d = 0 then
      let row : List Int := if cdMean d then sums.map (fun (v : Int) => Config.rnd ((v : Rat) / ((n : Nat) : Rat))) else vs
      let L := L.onCap slot fun C => { C with sums := [], n := 0 }
      let L := if cdStream d && st == 3 then L.streamRow slot row else L
      let L := if cdDram d then L.storeRow slot row else L
      if L.get (capState slot) = 3 then
        let L := L.onCap slot fun C => { C with rows := C.rows + 1 }
        let pre := if 2 ≤ cdTrig d then cdRows d * cdPre d / 16 else 0
        if cdRows d ≤ (pick L.cmp.caps slot).rows + pre then L.moveCap slot 5 else L
      else L
    else L

/-- CAPTURE_TRIGGER (R120): a level or an event, judged by each leaf on its own values; `event` is the code with the
SUBJECT above it. -/
def execCaptureTrigger (l : LeafId) (slot : Fin 4) (value : Int) (event : Nat) (s : State) : Done :=
  let L := s.leaf l
  let C := pick L.cmp.caps slot
  let st := L.get (capState slot)
  let d := C.desc
  let th := signed 32 (sl d 24 4)
  let fires := match cdTrig d with
    | 2 => event % 2 ^ 16 == sl d 24 2 && (sl d 26 6 == 0 || event / 2 ^ 16 == sl d 26 6)
    | 3 => C.last.any (fun p => decide (p < th)) && decide (th ≤ value)
    | 4 => C.last.any (fun p => decide (th < p)) && decide (value ≤ th)
    | _ => false
  guarded s (L.computing && (decide (st = 1) || decide (st = 2))) <| s.setLeaf l <|
    let L := L.onCap slot fun C => { C with last := some value }
    if fires then L.triggerCapture slot else L

/-- A capture stopped: its buffer stays until the slot's next start (R122). -/
def Leaf.stopCapture (L : Leaf) (s : Nat) : Leaf := if [1, 2, 3, 4, 6, 8].contains (L.get (capState s)) then L.moveCap s 7 else L

/-- CAPTURE_STOP (R122), used at its receipt. -/
def execCaptureStop (l : LeafId) (d : Desc) (s : State) : Done :=
  onLeaf s l fun L => L.readDesc 3 0x02 d fun L h =>
    let slot := sl d.bytes 17 1
    if 3 < slot then L.complete h 0x0105 0 17
    else (L.stopCapture slot).complete h 0x0000

/-- CAPTURE_READ (R121, R122): rows of a stored capture are to be read out on OR3. -/
def execCaptureRead (l : LeafId) (d : Desc) (s : State) : Done :=
  onLeaf s l fun L => L.readDesc 3 0x03 d fun L h =>
    let slot := sl d.bytes 17 1
    if 3 < slot then L.complete h 0x0105 0 17
    else
      let stored := (pick L.cmp.buffers slot).length + (pick L.cmp.spill slot).length
      let first := sl d.bytes 20 4
      let n := sl d.bytes 24 4
      if [0, 1, 2, 3, 6].contains (L.get (capState slot)) then L.complete h 0x0201 0 17
      else if stored < first + n ∨ n = 0 then L.complete h 0x0105 0 20
      else
        let L := { L with cmp := { L.cmp with readout := some (slot, first, n) } }
        (L.moveCap slot 6).complete h 0x0000

/-- One course of readout, where OR3 has nothing else to carry (R121). -/
def Leaf.stepReadout (L : Leaf) : Leaf :=
  match L.cmp.readout with
  | none => L
  | some (s, r, n) =>
    if 0 < queued L.hre.comQ 3 then L
    else
      let C := pick L.cmp.caps s
      let buf := pick L.cmp.buffers s
      let row := if r < buf.length then buf.getD r [] else (pick L.cmp.spill s).getD (r - buf.length) []
      let k := r * max 1 (cdChans C.desc)
      let L := L.streamChunk 2 s k (row.take 10)
      let L := if row.length ≤ 10 then L else L.streamChunk 2 s (k + 10) (row.drop 10)
      if n ≤ 1 then ({ L with cmp := { L.cmp with readout := none } } : Leaf).moveCap s 5
      else { L with cmp := { L.cmp with readout := some (s, r + 1, n - 1) } }

/-- Captures of trigger 1 whose course has come (R120). -/
def Leaf.sealCaptures (L : Leaf) : Leaf :=
  (List.range 4).foldl (fun L s =>
    let C := pick L.cmp.caps s
    if L.get (capState s) = 1 ∧ cdTrig C.desc = 1 ∧ sl C.desc 24 6 = L.count.toNat then L.triggerCapture s else L) L

end Sys2Proof.Machine
end

