-- ==== Sys2Proof/Machine/Plan.lean ====
section
/-! DEFINITION. Changes at course boundaries (R50 to R52, R460): what the LEAD leaf refuses, the window of a change, its
mirror and acknowledgement, its commit, and its effect at its course. -/

namespace Sys2Proof.Machine

open Sys2Proof

/-! ### Conditions on the module -/

/-- A leaf has been LEAD, or FOLLOW within ±25 ns for the last 1,600 courses (R425, R572, R606). -/
def Leaf.fit (L : Leaf) : Bool :=
  !L.cut && (L.role == .lead || (L.role == .follow && L.on CRS_STAT_ALIGNED && decide (1600 ≤ L.tie.within)))

/-- The conditions of a swap (R425). -/
def State.swapOk (s : State) : Bool :=
  match s.leadId, s.followId with
  | some a, some b =>
    (s.leaf b).fit && (s.leaf b).get TIE_STAT_UNJOINED == 0 && (s.leaf a).get ACT_STAT_SHIFT == 0 &&
      (s.leaf b).get ACT_STAT_SHIFT == 0
  | _, _ => false

/-- An image update is unconfirmed (UPD_SLOT.PENDING); a settings generation is. -/
def State.updOpen (s : State) : Bool := s.leaf0.upd.trial || s.leaf1.upd.trial
def State.genOpen (s : State) : Bool := s.leaf0.upd.genUnconf || s.leaf1.upd.genUnconf

/-- The image a leaf runs, and the one its other slot holds (R567). -/
def Leaf.running (L : Leaf) : ImgSlot := pick L.upd.slots L.upd.active
def Leaf.idleSlot (L : Leaf) : ImgSlot := pick L.upd.slots (1 - L.upd.active)

/-- The leaves are mixed (R575). -/
def State.mixed (s : State) : Bool := s.leaf0.running.digest != s.leaf1.running.digest

/-- The cause of a restart that a full BIST brings, as `Tie.cause` holds it. -/
def causeBist : Nat := 8

/-- A restart onto a new image or a full BIST is pending or runs in a leaf (R606). -/
def Leaf.underWork (L : Leaf) : Bool :=
  (L.tie.cause == causeBist && (L.role == .restart || L.role == .align || L.crs.roleAt.isSome)) || L.upd.newStart ||
    (L.crs.changes ++ L.crs.due).any fun c => match c.what with
      | .writes ws => ws.any fun w => (w.off == UPD_CMD.base && w.value.getLsbD 63) || (w.off == BST_CMD.base && w.value.getLsbD 63)
      | _ => false

/-- ACTIVATE of a leaf is refused (R572). -/
def State.refuseActivate (s : State) (l : LeafId) : Bool :=
  let L := s.leaf l
  let P := s.leaf l.other
  let second := P.upd.trial && !L.upd.trial && P.running.digest == L.idleSlot.digest
  !L.idleSlot.valid || decide (L.idleSlot.secver < L.upd.floorP) || (s.updOpen && !second) || s.genOpen ||
    L.upd.import_.isSome || P.upd.import_.isSome || !P.fit || (L.role == .lead && !s.swapOk)

/-- CONFIRM is refused (R576). -/
def State.refuseConfirm (s : State) : Bool :=
  let sameImg := s.leaf0.upd.trial && s.leaf1.upd.trial && !s.mixed
  let sameGen := s.leaf0.upd.genUnconf && s.leaf1.upd.genUnconf &&
    decide ((s.leaf0.upd.current.map (·.gen)) = (s.leaf1.upd.current.map (·.gen)))
  !((sameImg || sameGen) && (match s.followId with
    | some f => s.leadId.isSome && (s.leaf f).on CRS_STAT_ALIGNED
    | none => false))

/-- An item of a generation that differs from CURRENT may not change in the state the leaf is in (R582). -/
def Leaf.itemsHeld (L : Leaf) (g : Settings) : Bool :=
  (g.presets.any fun p => match findReg p.1 with
    | some (r, i) => r.hasAcc .rws && (L.refuseRws r i p.2).isSome
    | none => false) ||
  (g.currents.any fun t =>
    decide ((pick L.trc.machs t.1).table ≠ some t.2) &&
      !(decide (L.get TRC_SETSTAT_STATE (2 * t.1) ≤ 1) && decide (L.get TRC_SETSTAT_STATE (2 * t.1 + 1) ≤ 1))) ||
  !admitSettings g

/-- SET_APPLY is refused (R575, R582). -/
def State.refuseSetApply (s : State) : Bool :=
  s.updOpen || (match s.leadId with
    | some l => match (s.leaf l).upd.staged with
      | some g => s.mode == .carry && (s.mixed || (s.leaf l).itemsHeld g)
      | none => true
    | none => true)

/-- A full BIST of a leaf is refused (R606). -/
def State.refuseFull (s : State) (l : LeafId) : Bool :=
  s.leaf0.underWork || s.leaf1.underWork ||
    (s.mode == .carry && (!(s.leaf l.other).fit || ((s.leaf l).role == .lead && !s.swapOk)))

/-- The safe-state authority of a channel's stage permits CLEAR (R234, R276, R299, R353). -/
def State.mayClear (s : State) (l : LeafId) (n : Nat) : Bool :=
  let L := s.leaf l
  let up := s.mode == .ready || s.mode == .workshop || s.mode == .carry
  if n < 24 then
    let two := decide (6 ≤ L.get GCH_STAT_STATE n) && decide (L.get GCH_STAT_STATE n ≤ 7)
    up && L.on POS_STAT_STILL (n / 12) && (!two || s.mode == .workshop)
  else if n < 32 then up && !(L.conv == 2)
  else if n < 42 then up && !L.chgLive
  else up

/-! ### What is refused -/

/-- The set-up values of a leaf (R9): its RWS registers, but for those each leaf holds for itself (R461). -/
def Leaf.setupWords (L : Leaf) : List Word :=
  (allRegs.filter fun r => r.hasAcc .rws && r != HRE_SB_ADDR && r != HRE_NRX_ADDR && r != HRE_ORBASE).flatMap fun r =>
    (List.range r.count).map fun i =>
      L.word r i &&& r.fields.foldl (fun m f => if f.acc == .rws then m ||| maskOf f.hi f.lo else m) 0

/-- The set-up values of the leaves agree (R9). -/
def State.setupAgrees (s : State) : Bool := s.leaf0.setupWords == s.leaf1.setupWords

/-- The set-up digests are not known to agree (R595): with a leaf in FOLLOW, its SETUP unit has not matched. -/
def State.setupDiffers (s : State) (l : LeafId) : Bool :=
  s.followId.isSome && !((s.leaf l).tie.setupSeen == some true && s.setupAgrees)

/-- Every stage of a leaf is DISABLED and its contactors are open (R5, R612). -/
def Leaf.stagesOff (L : Leaf) : Bool :=
  ((List.range 4).all fun k => L.get TRC_SETSTAT_STATE k == 0) && L.get LNK_STAT_CONV == 0 && !L.on LNK_STAT_AUX_RUN &&
    L.get LNK_STAT_CON == 0 && !L.chgLive && (List.range 3).all fun a => L.get ACT_CHSTAT_STATE a == 0

/-- The command registers written through IR1 (R460). -/
def routed (r : Reg) : Bool := [GLB_CMD, TIE_CMD, UPD_CMD, BST_CMD, POS_CMD, CAN_CMD, GCH_CMD].contains r

/-- Why a command register cannot be written so: 0x0105 or 0x0201 (R425, R508, R572 to R582, R597, R606, R234). `last` says
that the change is about to be committed. -/
def State.refuseCmd (s : State) (l : LeafId) (r : Reg) (v : Word) (last : Bool) : Option Nat :=
  let b := fun k => v.getLsbD k
  let refuse := fun (c : Bool) => if c then some 0x0201 else none
  if r == GLB_CMD then
    if b 61 then some 0x0201
    else if !last then none
    else if b 63 then
      let run := fun (L : Leaf) => !L.carrying || L.on HRE_CTRL_RUN
      refuse (!(s.mode == .ready && run s.leaf0 && run s.leaf1 && (s.leaf l).guardOk) || s.setupDiffers l)
    else if b 62 then
      let off := fun (L : Leaf) => !L.carrying || L.stagesOff
      refuse (!(s.mode == .carry && off s.leaf0 && off s.leaf1))
    else none
  else if r == TIE_CMD then refuse (b 63 && !s.swapOk)
  else if r == UPD_CMD then
    let n := ([63, 62, 61, 60].filter b).length
    if 1 < n then some 0x0105
    else if b 63 then refuse (s.refuseActivate (if b 59 then .leaf1 else .leaf0))
    else if b 62 then refuse s.refuseConfirm
    else if b 61 then refuse (!(s.updOpen || s.genOpen))
    else if b 60 then refuse s.refuseSetApply
    else none
  else if r == BST_CMD then refuse (b 63 && s.refuseFull (if b 62 then .leaf1 else .leaf0))
  else if r == CAN_CMD then
    let h := if b 61 then LeafId.leaf1 else .leaf0
    refuse (b 62 && !((s.leaf h).carrying && (s.leaf h).on CRS_STAT_ALIGNED))
  else if r == GCH_CMD then
    let n := fieldOf v 5 0
    refuse (b 63 && decide (n < 48) && !s.mayClear l n)
  else none

/-- The settings an IR1 write leads to: (old AND NOT MASK) OR (VALUE AND MASK) (R460). -/
def Leaf.masked (L : Leaf) (r : Reg) (i : Nat) (w : RegW) : Word := (L.word r i &&& ~~~ w.mask) ||| (w.value &&& w.mask)

/-- A write whose mask reaches a named field that IR1 may not set (R645). -/
def strayMask (r : Reg) (mask : Word) : Bool := r.fields.any fun f => f.acc != .rws && (maskOf f.hi f.lo &&& mask) != 0

/-- Why one write of a REG_WRITE is refused: code and offset (R459, R460, R645, R44, R70). -/
def State.refuseWrite (s : State) (l : LeafId) (w : RegW) (last : Bool) : Option (Nat × Nat) :=
  let L := s.leaf l
  match findReg w.off with
  | none => some (0x0204, w.off)
  | some (r, i) =>
    if inHre w.off then some (0x0204, w.off)
    else if routed r then (s.refuseCmd l r (w.value &&& w.mask) last).map fun c => (c, w.off)
    else if !r.hasAcc .rws || ((r == LDG_CAL || r == LDG_PACK) && s.mode != .workshop) ||
        strayMask r w.mask then some (0x0204, w.off)
    else
      let v := mergeRws r i (L.word r i) (L.masked r i w)
      let f := fun (x : Fld) => fieldOf v x.hi x.lo
      if r == TIE_CTRL && s.mode == .carry && decide (L.get CRS_CTRL_EDGE_GUARD < guardMin (f TIE_CTRL_FOLLOW_SKEW)) then
        some (0x0105, w.off)
      else if r == CRS_CTRL && s.mode == .carry && decide (f CRS_CTRL_EDGE_GUARD < guardMin (L.get TIE_CTRL_FOLLOW_SKEW)) then
        some (0x0105, w.off)
      else if r == ASH_CTRL && s.mode == .carry && !L.blocksOk (f ASH_CTRL_FILL_MAX) (f ASH_CTRL_FILL_BUDGET) then
        some (0x0105, w.off)
      else (L.refuseRws r i (L.masked r i w)).map fun c => (c, w.off)

/-- The change a descriptor asks for, or its refusal (R122, R460). -/
def readChange (d : Slot) : Except (Nat × Nat) ChangeWhat :=
  let w := fun (o : Nat) => ({ off := sl d o 4 % 2 ^ 20, mask := BitVec.ofNat 64 (sl d (o + 4) 8)
                               value := BitVec.ofNat 64 (sl d (o + 12) 8) } : RegW)
  match opcode d with
  | 0x08 =>
    match sl d 17 1 with
    | 1 => .ok (.writes [w 24])
    | 2 => .ok (.writes [w 24, w 44])
    | _ => .error (0x0105, 17)
  | 0x09 =>
    if 7 < sl d 18 1 then .error (0x0105, 18)
    else if 3 < sl d 19 1 then .error (0x0105, 19)
    else .ok (.table (sl d 17 1) (sl d 18 1) (sl d 19 1))
  | 0x10 => .ok (.testStart d)
  | 0x11 => if 3 < sl d 17 1 then .error (0x0105, 17) else .ok (.testStop (sl d 17 1))
  | _ => .ok (.captureStart d)

/-- Why a change is refused in the state the module is in. -/
def State.refuseChange (s : State) (l : LeafId) (w : ChangeWhat) (last : Bool) : Option (Nat × Nat) :=
  match w with
  | .writes ws => ws.findSome? fun w => s.refuseWrite l w last
  | .table _ _ _ => none
  | .testStart d => if last then none else (s.leaf l).refuseTest s.mode d
  | .testStop _ => none
  | .captureStart d => if last then none else (s.leaf l).refuseCapture d

/-- The course a change names: of the header on IR1, of bytes 24 to 29 on IR3, but none for a stop (R50, R122). -/
def namedCourse (d : Slot) : Nat :=
  match opcode d with
  | 0x08 => sl d 8 6
  | 0x09 => sl d 8 6
  | 0x11 => 0
  | _ => sl d 24 6

/-- A CAPTURE_START whose trigger each leaf judges for itself takes effect like an immediate start (R120). -/
def changeCourse (d : Slot) : Nat := if opcode d = 1 ∧ 2 ≤ cdTrig d then 0 else namedCourse d

/-! ### Decision, mirror, commit -/

/-- CRS_PEND from the accepted changes (R65). -/
def Leaf.showPend (L : Leaf) : Leaf :=
  match L.crs.changes with
  | [] => L.setWord CRS_PEND 0 0
  | c :: t =>
    let e := t.foldl (fun (e : Course) x => if isAfter x.effect.toNat e.toNat 48 then x.effect else e) c.effect
    L.put CRS_PEND_PENDING 1 |>.put CRS_PEND_PEND_COURSE e.toNat

/-- A leaf's list of accepted changes altered. -/
def Leaf.onChanges (L : Leaf) (f : List Change → List Change) : Leaf :=
  ({ L with crs := { L.crs with changes := f L.crs.changes } } : Leaf).showPend

/-- The ring number a change has that came by a direct write and not by a descriptor (R573). -/
def directRing : Nat := 0xFF

/-- A decision on a change told to host software: a completion of both leaves, or the event of a refused direct write. -/
def State.answer (s : State) (l : LeafId) (h : Hdr) (code : Nat) (effect detail : Nat := 0) : State :=
  if h.ring = directRing then
    if code < 0x0100 then s else s.on l fun L => L.discard detail (hostId l) 0
  else s.completeBoth h code effect detail

/-- The same descriptor. -/
def sameDesc (a b : Hdr) : Bool := a.ring == b.ring && a.dseq == b.dseq

/-- A descriptor for which a decision has reached the leaf. -/
def Leaf.decided (L : Leaf) (h : Hdr) : Leaf :=
  { L with crs := { L.crs with undecided := L.crs.undecided.filter fun u => !sameDesc u.1 h } }

/-- Effects an accepted change has at once: a test waits in its slot. -/
def Leaf.noteChange (L : Leaf) (c : Change) : Leaf :=
  match c.what with
  | .testStart d => L.pendTest d
  | _ => L

/-- A change that holds the carry command (R595). -/
def ChangeWhat.carries (w : ChangeWhat) : Bool :=
  match w with
  | .writes ws => ws.any fun w => w.off == GLB_CMD.base && (w.value &&& w.mask).getLsbD 63
  | _ => false

/-- A change that applies a settings generation (R582). -/
def ChangeWhat.applies (w : ChangeWhat) : Bool :=
  match w with
  | .writes ws => ws.any fun w => w.off == UPD_CMD.base && (w.value &&& w.mask).getLsbD 60
  | _ => false

/-- What a refusal leaves behind: a generation refused becomes CURRENT at the next BOOT (R582), and GLB_STAT tells whether
the last carry command was refused on digest (R595). -/
def State.noteRefused (s : State) (l : LeafId) (w : ChangeWhat) : State :=
  let s := if w.applies then
      s.both fun L => { L with upd := { L.upd with atBoot := L.upd.atBoot || L.upd.staged.isSome } }
    else s
  if w.carries then
    let diff := bit (s.setupDiffers l && (s.leaf l).tie.setupSeen.isSome)
    s.both fun L => ({ L with tie := { L.tie with setupSeen := none } } : Leaf).put GLB_STAT_SETUP_DIFF diff
  else s

/-- The SETUP unit a leaf sends at the host carry command (R432). -/
def Leaf.sendSetup (L : Leaf) (w : ChangeWhat) : Leaf := if w.carries then L.sendUnit 0x18 [] else L

/-- A change accepted by the deciding leaf: kept, and mirrored as a CHANGE unit where a leaf is FOLLOW (R51). -/
def State.accept (s : State) (l : LeafId) (h : Hdr) (bytes : Slot) (e : Course) (w : ChangeWhat) : State :=
  let alone := match s.followId with
    | some f => f == l
    | none => true
  let c : Change := { effect := e, what := w, acked := alone, hdr := h }
  let s := s.on l fun L => (L.onChanges (· ++ [c])).noteChange c
  if alone then s
  else s.on l fun L =>
    (L.sendUnit 0x12 [h.ring, h.dseq.toNat, h.tag, bit h.want, e.toNat, bytes.toNat] true).sendSetup w

/-- A change decided by the leaf that is LEAD, with `f` the course of its receipt (R50, R51). -/
def State.decideChange (s : State) (l : LeafId) (h : Hdr) (bytes : Slot) (f : Course) : State :=
  let s := s.both fun L => L.decided h
  let lead := (s.leaf l).get CRS_CTRL_COMMIT_LEAD
  let e := changeCourse bytes
  let ec : Course := if e = 0 then after f lead else BitVec.ofNat 48 e
  let d := (distance f.toNat ec.toNat 48).getD (-1)
  match readChange bytes with
  | .error (c, o) => s.answer l h c 0 o
  | .ok w =>
    match s.refuseChange l w false with
    | some (c, o) => (s.noteRefused l w).answer l h c 0 o
    | none =>
      if d < (lead : Int) ∨ (2 ^ 24 : Int) < d then
        (s.both fun L => if L.carrying then L.bump CRS_LATE_COMMIT_REFUSE else L).answer l h 0x0202
      else s.accept l h bytes ec w

/-- Two leaves' copies of one descriptor differ in content (R51). -/
def Leaf.copyDiffers (L : Leaf) (h : Hdr) : Leaf := L.differEvent 3 h.ring h.dseq.toNat h.dseq.toNat L.count

/-- A change descriptor read by a leaf: the LEAD leaf decides; the FOLLOW leaf keeps what no decision has reached
(R51, R442). -/
def State.takeChange (s : State) (l : LeafId) (ring op : Nat) (d : Desc) : State :=
  let L := s.leaf l
  if L.canRead ring && (pick L.hre.retry ring).isNone && !otherRow ring op d then
    match L.checkDesc ring d false with
    | (L, none) => s.setLeaf l L
    | (L, some h) =>
      let s := s.setLeaf l L
      if opcode d.bytes ≠ op then s.setLeaf l (L.complete h 0x0104 0 16)
      else if L.role = .lead then s.decideChange l h d.bytes L.count
      else
        let h := { h with ring := ring }
        match L.crs.changes.find? fun c => sameDesc c.hdr h with
        | some c =>
          let same := match readChange d.bytes with
            | .ok w => decide (w = c.what)
            | .error _ => false
          if same then s else s.setLeaf l (L.copyDiffers h)
        | none =>
          let P := s.leaf l.other
          let seen := (pick P.hre.dseq ring).any fun q => !isAfter q.toNat h.dseq.toNat 32
          if P.role == .lead && seen then s
          else s.setLeaf l { L with crs := { L.crs with undecided := L.crs.undecided ++ [(h, d.bytes, L.count)] } }
  else s

/-- REG_WRITE (R460). -/
def execRegWrite (l : LeafId) (d : Desc) (s : State) : Done := .next (s.takeChange l 1 0x08 d)

/-- TABLE_SWITCH (R108, R460). -/
def execTableSwitch (l : LeafId) (d : Desc) (s : State) : Done := .next (s.takeChange l 1 0x09 d)

/-- TEST_START (R113, R114). -/
def execTestStart (l : LeafId) (d : Desc) (s : State) : Done := .next (s.takeChange l 3 0x10 d)

/-- TEST_STOP (R114), committed like a start. -/
def execTestStop (l : LeafId) (d : Desc) (s : State) : Done := .next (s.takeChange l 3 0x11 d)

/-- CAPTURE_START (R118 to R120). -/
def execCaptureStart (l : LeafId) (d : Desc) (s : State) : Done := .next (s.takeChange l 3 0x01 d)

/-- A receive lane counts as up: it is, and no LOST unit makes the leaf act as if it were not (R430, R433). -/
def Leaf.laneOk (L : Leaf) (k : Nat) : Bool := (pick L.tie.lanes k).up && !L.tie.lostActing

/-- A receive lane counts as up. -/
def Leaf.tieOk (L : Leaf) : Bool := L.laneOk 0 || L.laneOk 1

/-- A unit taken from a lane: up, checked, and new by its sequence (R430, R431). -/
def Leaf.takeUnit (L : Leaf) (rx : Rx) : Option Leaf :=
  let fresh := match L.tie.rxSeq with
    | none => true
    | some q => isAfter q.toNat rx.seq.toNat 32
  if L.laneOk rx.lane && rx.crcOk && fresh then
    some { L with tie := { L.tie with rxSeq := some rx.seq } }
  else none

/-- A unit that requires it acknowledged (R432). -/
def Leaf.ackUnit (L : Leaf) (typ : Nat) (rx : Rx) : Leaf := L.sendUnit 0x13 [typ, rx.seq.toNat]

/-- CHANGE (R51): the accepted change and its E reach the FOLLOW leaf, which acknowledges it. -/
def execChange (l : LeafId) (rx : Rx) (c : ChangeRx) (s : State) : Done :=
  match (s.leaf l).takeUnit rx with
  | none => .next s
  | some L =>
    if L.role ≠ .follow then .next (s.setLeaf l L)
    else
      let h : Hdr := { hdrOf c.bytes with tag := c.tag, dseq := c.dseq, want := c.want, effect := c.effect }
      match readChange c.bytes with
      | .error _ => .next (s.setLeaf l (L.ackUnit 0x12 rx))
      | .ok w =>
        let L := match L.crs.undecided.find? fun u => sameDesc u.1 h with
          | some u => if u.2.1 = c.bytes then L else L.copyDiffers h
          | none => L
        let ch : Change := { effect := c.effect, what := w, acked := true, hdr := h }
        .next (s.setLeaf l (((((L.decided h).onChanges (· ++ [ch])).noteChange ch).ackUnit 0x12 rx).sendSetup w))

/-- CHANGE_WITHDRAW (R51): at the close of E − 2 without an acknowledgement. -/
def execChangeWithdraw (dseq : BitVec 32) (s : State) : Done :=
  match s.leadId with
  | none => .next s
  | some l =>
    let L := s.leaf l
    match L.crs.changes.find? fun c => c.hdr.dseq == dseq && !c.acked with
    | none => .next s
    | some c =>
      guarded s (decide (3584 ≤ L.tick) && s.followId.isSome && !isAfter (L.count + 2).toNat c.effect.toNat 48) <|
        (s.both fun L =>
          let L := L.onChanges fun cs => cs.filter fun x => !sameDesc x.hdr c.hdr
          let L := match c.what with
            | .testStart d => L.put (tsState (sl d 17 1)) 0
            | _ => L
          if L.carrying then L.bump CRS_LATE_COMMIT_REFUSE else L).answer l c.hdr 0x0203

/-- A change of the course plan: a settings generation brings a block list with it (R66, R582). -/
def planChange (c : Change) : Bool := c.what.applies

/-- Plan changes before settings changes, each in ring order (R52). -/
def planFirst (cs : List Change) : List Change := cs.filter planChange ++ cs.filter fun c => !planChange c

/-- A command committed that cannot be carried out at its course, among those that name it: of CONFIRM and REVERT the
REVERT stands (R577). -/
def confirmAgainstRevert (all : List Change) (c : Change) : Bool :=
  let has := fun (k : Nat) (c : Change) => match c.what with
    | .writes ws => ws.any fun w => w.off == UPD_CMD.base && (w.value &&& w.mask).getLsbD k
    | _ => false
  has 62 c && all.any (has 61)

/-- PLAN_COMMIT (R52): the changes that name the next course become fixed, in every leaf that computes. -/
def execPlanCommit (s : State) : Done :=
  match s.leadId with
  | none => .next s
  | some l =>
    let L := s.leaf l
    let next := L.count + 1
    let alone := s.followId.isNone
    let now := planFirst (L.crs.changes.filter fun c => c.effect == next && (c.acked || alone))
    let gone := fun (s : State) (c : Change) => s.both fun L => L.onChanges fun cs => cs.filter fun x => !sameDesc x.hdr c.hdr
    .next <| now.foldl (fun s c =>
      let s := gone s c
      let code := if confirmAgainstRevert now c then some (0x0201, UPD_CMD.base) else s.refuseChange l c.what true
      match code with
      | some (k, o) => (s.noteRefused l c.what).answer l c.hdr k 0 o
      | none =>
        let s := if c.what.carries then
            s.both fun L => ({ L with tie := { L.tie with setupSeen := none } } : Leaf).put GLB_STAT_SETUP_DIFF 0
          else s
        (s.both fun L => if L.computing then { L with crs := { L.crs with due := L.crs.due ++ [c] } } else L).answer l c.hdr 0x0001
          next.toNat) s

/-- A command written through IR1, waiting for the command that carries it out. -/
def Leaf.queueCmd (L : Leaf) (h : Hdr) (w : RegW) : Leaf := { L with crs := { L.crs with cmds := L.crs.cmds ++ [(w, h)] } }

/-- A committed change at its course, a TEST in it discarded with an event (R52, R108, R113, R120, R245, R460). -/
def Leaf.applyChange (L : Leaf) (c : Change) : Leaf :=
  match c.what with
  | .writes ws => ws.foldl (fun L w => match findReg w.off with
    | some (r, i) =>
      if r == GCH_CMD && (w.value &&& w.mask).getLsbD 62 then
        let v := w.value &&& w.mask
        let L := if v.getLsbD 63 then L.queueCmd c.hdr { w with value := setField v 62 62 0 } else L
        L.discardEvent w.off 0 1 w.value.toNat w.mask.toNat
      else if routed r then L.queueCmd c.hdr { w with value := w.value &&& w.mask }
      else L.storeRws r i (L.masked r i w) L.count
    | none => L) L
  | .table b i k =>
    let L := L.setInst b i ((L.inst b i).switch k)
    { L with tie := { L.tie with exempt := L.tie.exempt.setIfInBounds (L.groupOf b) (after L.count 32) } }
  | .testStart d =>
    let L := L.beginTest d
    { L with tie := { L.tie with exempt := L.tie.exempt.setIfInBounds (L.groupOf (tdBlock d)) (after L.count 32) } }
  | .testStop k => L.stopTest k
  | .captureStart d =>
    let L := L.armCapture d
    if cdTrig d = 0 then L.triggerCapture (sl d 17 1) else L

/-- The changes of this course, in the order of R52. -/
def Leaf.applyDue (L : Leaf) : Leaf :=
  let due := L.crs.due
  due.foldl (fun L c => L.applyChange c) ({ L with crs := { L.crs with due := [] } } : Leaf)

/-- A command that both leaves hold for this course, taken from both: its value. -/
def State.takeModule (s : State) (off k : Nat) (others : List Nat) : Option Word × State :=
  let (a, L0) := s.leaf0.takeBit off k others
  let (b, L1) := s.leaf1.takeBit off k others
  (a.or b, { s with leaf0 := L0, leaf1 := L1 })

/-- A direct write to a command register that acts for the module (R573): offered as a change by the LEAD leaf. -/
def State.offerDirect (s : State) (l : LeafId) (off : Nat) (value : Word) : State :=
  match s.leadId with
  | none => s
  | some m =>
    let L := s.leaf m
    let h : Hdr := { ring := directRing, want := false, target := 0, tag := 0
                     dseq := BitVec.ofNat 32 (s.fresh + L.crs.changes.length), effect := 0 }
    let w : ChangeWhat := .writes [{ off := off, mask := BitVec.ofNat 64 (2 ^ 64 - 1), value := value }]
    match s.refuseChange m w false with
    | some _ => (s.noteRefused m w).on l fun L => L.discard off (hostId l) value.toNat
    | none => s.accept m h 0 (after L.count (L.get CRS_CTRL_COMMIT_LEAD)) w

end Sys2Proof.Machine
end

