-- ==== Sys2Proof/Machine/Roles.lean ====
section
/-! DEFINITION. The roles of the leaves (R423 to R429): a leaf falls silent, leaves its role, takes over, restarts and
comes back. A move of role is decided in one course and takes effect at the seal of the course it names. -/

namespace Sys2Proof.Machine

open Sys2Proof

/-! ### Causes -/

/-- What moves a role, as `Tie.cause` holds it: 1 to 5 the causes of R26, 6 R429, and the causes that send no SILENT
unit: 7 an image, 8 a full BIST, 10 a leaf held at fault or a swap, 11 the host link. -/
def causeOut : Nat := 6
def causeImage : Nat := 7
def causeHeld : Nat := 10
def causeLink : Nat := 11

/-- A move of role named for a course. -/
def Leaf.planRole (L : Leaf) (c : Course) (r : Role) (cause : Nat) : Leaf :=
  { L with crs := { L.crs with roleAt := some (c, r) }, tie := { L.tie with cause := cause } }

/-- The boundary a decision names: at fine tick 3,840 or later the one after the next (R427). -/
def namedAt (c : Course) (tick : Nat) : Course := after c (if 3840 ≤ tick then 2 else 1)

/-- The silence circuit cuts every output path and sends SILENT with a cause code on both lanes (R427, R432). -/
def Leaf.cutOff (L : Leaf) (cause tick : Nat) : Leaf :=
  let q := L.tie.txSeq + 1
  { L with
    cut := true
    tick := max L.tick tick
    out := L.out ++ [Out.tie 0x02 q [cause]]
    tie := { L.tie with txSeq := q } }

/-- A second silence within 60 s of reaching FOLLOW after a restart is lasting (R424). -/
def Leaf.silentAgain (L : Leaf) : Bool :=
  L.tie.silenceRestart && L.tie.followAt.any fun c => decide (since L.count c < 9600000)

/-- A stream discarded with its leaf (R570): STREAM_LOST, the state shown idle. -/
def Leaf.loseStream (L : Leaf) : Leaf :=
  if L.upd.stream.isNone then L
  else (({ L with upd := { L.upd with stream := none } } : Leaf).put UPD_STRM_STATE 0).raise (UPD_FLT_FLAGS.bit 6)

/-- The rotation step of a leaf that leaves its role is abandoned (R151). -/
def Leaf.dropStep (L : Leaf) : Leaf :=
  match L.sns.step with
  | none => L
  | some st => ((L.serve st.port (some st.conv) false).put SNS_CONV_STATE 0 st.conv |>.put SNS_CONV_STATE 1 st.spare
      |>.put SNS_CONV_PORT 63 st.spare).stepOver

/-- A leaf falls silent (R26, R427): its outputs stop at once, and it enters RESTART, or OUT where the cause is lasting. -/
def Leaf.goSilent (L : Leaf) (cause tick : Nat) : Leaf :=
  if L.cut || !L.computing then L
  else
    let r := if L.silentAgain then Role.out else .restart
    ((L.abortTests (fun _ => true) 4).cutOff cause tick).planRole (namedAt L.count tick) r cause

/-- A leaf enters RESTART at the next boundary without a silence of R26: a LEAD leaf hands its role over at that boundary
(R86, R440). -/
def State.planRestart (s : State) (l : LeafId) : State :=
  let L := s.leaf l
  let at_ := namedAt L.count L.tick
  let s := s.setLeaf l ((L.abortTests (fun _ => true) 4).planRole at_ .restart causeHeld)
  if L.role == .lead && (s.leaf l.other).role == .follow then
    s.on l.other fun P => P.planRole at_ .lead causeHeld
  else s

/-! ### What a restart keeps -/

/-- State of an engine in ASH_ENG: 0 fill, 1 bonded, 2 in self-test, 3 retired (R92). -/
def engState (e : Nat) : Fld := ⟨ASH_ENG, 2 * e + 1, 2 * e⟩

/-- Offsets a leaf restart leaves alone (R601): the HRE block with its link, position units, ledger unit, mailboxes and
locks, the channel states, the boot count, the session and the addresses. -/
def keptOffset (off : Nat) : Bool :=
  [3, 5, 16].contains (blockOf off) || decide (0x10_0000 ≤ off) ||
    [CRS_EPOCH.base, GCH_LATCH.base, SEC_STAT.base, NET_MACH.base, NET_MACA.base, THM_XO.base, THM_REFTC.base].contains off ||
    (match findReg off with
     | some (r, _) => r == GCH_STAT || r == GCH_BG
     | none => false)

/-- The history a restart keeps: closed hours and days, and what is counted on from them; the hour being formed is lost
(R447). -/
def His.kept (H : His) (now : Course) : His :=
  { from_ := now, hours := H.hours, days := H.days, ahIn := H.ahIn, ahOut := H.ahOut, baseDay := H.baseDay
    dayDigest := H.dayDigest, closedAt := H.closedAt }

/-- A leaf at the start of its restart (R601): what the table names is kept, all else is as after reset. -/
def Leaf.resetForRestart (L : Leaf) : Leaf :=
  let engines := (List.range 24).filter fun e => L.get (engState e) == 3
  let convs := (List.range 40).filter fun n => L.get SNS_CONV_STATE n == 3
  let locked := L.get CHG_FLT_LOCKED
  let taint := L.get ASH_STAT_TAINT
  let N : Leaf := {
    id := L.id, role := L.role, count := L.count, tick := L.tick, out := L.out
    regs := L.regs.filter fun p => keptOffset p.1
    pos := L.pos, gst := L.gst, ldg := L.ldg
    crs := { pll := L.crs.pll, compAt := L.crs.compAt, cap := L.crs.cap }
    hre := { L.hre with comQ := [], locQ := [], rxq := [], reading := false, arrived := none, missing := 0 }
    his := L.his.kept L.count
    net := { fdb := L.net.fdb, downAt := L.net.downAt }
    act := { saved := L.act.saved }
    upd := { L.upd with stream := none }
    bst := { badSegs := L.bst.badSegs, spares := L.bst.spares, halted := L.bst.halted }
    tie := {
      cause := L.tie.cause, restartAt := L.count, txSeq := L.tie.txSeq, mirrorFmt := L.tie.mirrorFmt, held := L.tie.held } }
  let N := engines.foldl (fun N e => N.put (engState e) 3) N
  let N := convs.foldl (fun N n => (N.retireConv n).1) N
  ((((N.put CHG_FLT_LOCKED locked).put ASH_STAT_TAINT taint).put BST_MEM_SPARES_USED
    (L.bst.spares.toList.foldl (fun a b => a + b) 0)).put CRS_STAT_COUNT_VALID 1).put CRS_STAT_TB_LOCK 1

/-! ### Entering a role -/

/-- The partner shows a leaf's state where a lane carries it (R428, R453, R455). -/
def State.tellPartner (s : State) (l : LeafId) (code : Nat) : State :=
  s.on l.other fun P =>
    if P.tieOk then
      let P := P.put TIE_STAT_PARTNER code
      if code = 4 then P.raise TIE_FLT_PARTNER_OUT else P
    else P

/-- The masters a leaf takes with it when it enters RESTART or OUT: its keystone, and the agent (R496). -/
def Leaf.loseMasters (L : Leaf) : Leaf := (L.masterLost (keystoneId L.id)).masterLost 6

/-- A leaf enters RESTART (R423, R445). `tries` counts the attempts that have failed. -/
def State.enterRestart (s : State) (l : LeafId) (tries : Nat) : State :=
  let L := s.leaf l
  let lost := L.upd.stream.isSome
  let N := L.loseMasters.resetForRestart
  let N : Leaf := { N with tie := { N.tie with
    restartTry := tries, silenceRestart := decide (1 ≤ L.tie.cause) && decide (L.tie.cause ≤ 5) } }
  let full := decide (L.tie.cause = causeBist) && decide (tries = 0)
  let N : Leaf := { N with bst := { N.bst with fullAt := if full then some L.count else none } }
  let N := N.put BST_STAT_BUSY (bit N.bst.fullAt.isSome)
  let N := (N.setRole .restart).showUpd
  let N := if lost then N.raise (UPD_FLT_FLAGS.bit 6) else N
  (s.setLeaf l N).tellPartner l 2

/-- A leaf enters OUT (R423, R429). -/
def State.enterOut (s : State) (l : LeafId) : State :=
  let L := ((s.leaf l).loseMasters.loseStream.dropStep).setRole .out
  let L : Leaf := { L with
    cut := false
    tie := { L.tie with followAt := none }
    crs := { L.crs with changes := [], due := [], cmds := [], undecided := [] } }
  (s.setLeaf l (L.showPend.put CRS_STAT_ALIGNED 0)).tellPartner l 4

/-- A leaf becomes LEAD: aligned with itself, its offset 0, its inputs no longer freed of their mean (R61, R62, R438). -/
def Leaf.lead (L : Leaf) : Leaf :=
  let L := (L.setRole .lead).put CRS_STAT_ALIGNED 1 |>.put CRS_ALIGN_OFS 0 |>.put CRS_STAT_COUNT_VALID 1
    |>.put TIE_STAT_ISOLATED 0
  { L with
    cut := false
    cmp := { L.cmp with inst := L.cmp.inst.map fun p => (p.1, { p.2 with xs := [] }) }
    tie := { L.tie with restartTry := 0 } }

/-- Stages a new LEAD leaf had not joined, started from their idle state (R442, R380). -/
def Leaf.startUnjoined (L : Leaf) : Leaf :=
  let un := fun k => L.on (TIE_STAT_UNJOINED.bit k)
  let L := if un 0 then (L.chgOff.openS2).endSession (if L.cableOk then 1 else 0) 10 else L
  let L := if un 1 then (L.put LNK_STAT_AUX_RUN 0).onLnk fun K => { K with auxFrom := L.count, shift := 0, shiftNext := 0 } else L
  let L := [0, 1, 2].foldl (fun L a => if un (2 + a) then L.moveAct a 1 else L) L
  let L := if L.act.noA0 then L.lostA0 true else L
  L.put TIE_STAT_UNJOINED 0

/-- Takeover by the FOLLOW leaf (R442). -/
def State.takeOver (s : State) (l : LeafId) : State :=
  let cause := (s.leaf l).tie.cause
  let s := s.on l fun L =>
    let L := (L.lead.bump TIE_CNT_TAKEOVERS).raise TIE_FLT_TAKEOVER
    let L := [0, 1, 2, 3].foldl (fun L b => L.setVoice b l) L
    ((L.recordTakeover l.other.num cause).refuseConsumed.historyTakeover).startUnjoined
  let s := s.on l.other fun P => [0, 1, 2, 3].foldl (fun P b => P.setVoice b l) P
  (s.leaf l).crs.undecided.foldl (fun s u => s.decideChange l u.1 u.2.1 u.2.2) s

/-- A leaf that finds no other leaf carrying becomes LEAD in its safe states (R423). -/
def State.leadAlone (s : State) (l : LeafId) : State :=
  s.on l fun L =>
    let L := [0, 1, 2, 3].foldl (fun L b => L.setVoice b l) L.lead
    (L.put TIE_STAT_UNJOINED 0).put TIE_STAT_PARTNER 4

/-- Which stages run in the leaf that carries, so that a leaf that joins leaves them unjoined (R446): charger, auxiliary,
A0 to A2. -/
def Leaf.runningStages (P : Leaf) : Nat :=
  bit (decide (2 ≤ P.chgState)) + 2 * bit (P.on LNK_STAT_AUX_RUN) + 4 * bit (decide (2 ≤ P.actState 0)) +
    8 * bit (decide (2 ≤ P.actState 1)) + 16 * bit (decide (2 ≤ P.actState 2))

/-- The torque of the current references of a machine's sets, from which its limiter starts (R282): the reference the
leaf has computed so far. -/
def Leaf.startLimiters (L : Leaf) : Leaf :=
  [0, 1].foldl (fun L m => L.onMach m fun M => { M with req := L.torqueEst m, sync := 0 }) L

/-- A leaf in ALIGN becomes FOLLOW (R446): settings, input rings and unjoined stages as the LEAD leaf has them (R444). -/
def State.joinFollow (s : State) (l : LeafId) : State :=
  let P := s.leaf l.other
  let restarted := (s.leaf l).upd.newStart && (s.leaf l).upd.trial
  let s := s.on l fun L =>
    let L := ((L.takeSettings P).setRole .follow).put CRS_STAT_ALIGNED 1 |>.put TIE_STAT_UNJOINED P.runningStages
    let L := L.startLimiters
    let L := (List.range 32).foldl (fun L r => L.put HRE_IRCFG_CONS (P.get HRE_IRCFG_CONS r) r) L
    let L := [0, 1, 2, 3].foldl (fun L b => L.setVoice b (if P.on CAN_STAT_VOICE_HELD b then P.id else L.id)) L
    let L := if decide (P.get ACT_STAT_SHIFT ≠ 0) then L.onAct fun A => { A with noA0 := true } else L
    let L := if L.tie.cause = causeBist ∧ L.tie.restartTry = 0 then L.bump BST_CNT_FULL else L
    let L := if restarted then L.bump UPD_CNT_ACTIVATIONS else L
    { L with
      cut := false
      crs := { L.crs with undecided := [] }
      hre := { L.hre with dseq := P.hre.dseq, tlmLast := P.hre.tlmLast, retry := Vector.replicate 32 none, rxq := [], comQ := []
                          moved := Vector.replicate 32 L.count }
      upd := { L.upd with newStart := false }
      tie := { L.tie with
        followAt := some L.count, restartTry := 0, within := max L.tie.within 1600
        held := L.tie.held.map fun h => { h with joined := h.joined.or (some L.count) } } }
  s.tellPartner l 1

/-- A LEAD leaf becomes FOLLOW (R423): the other leaf's boundaries are the measure from now on. -/
def Leaf.follow (L : Leaf) : Leaf :=
  let L := (L.setRole .follow).put CRS_STAT_ALIGNED 1
  { L with tie := { L.tie with within := 0, beyond := 0, keyedSeen := true, thermalSeen := true } }

/-- Voice of every bus the former LEAD leaf held moves with a swap (R508), mirrored as a VOICE unit. -/
def State.moveVoice (s : State) (former new : LeafId) : State :=
  (List.range 4).foldl (fun s b =>
    if (s.leaf former).on CAN_STAT_VOICE_HELD b then
      (s.both fun L => L.setVoice b new).on new fun L => L.sendUnit 0x16 [2 ^ b, new.num, L.count.toNat] true
    else s) s

/-- The roles exchanged: the former LEAD leaf is FOLLOW from now (R423, R425). -/
def State.swapRoles (s : State) (former new : LeafId) : State :=
  let s := (s.on former Leaf.follow).on new Leaf.lead
  let s := (s.on former fun L => L.put TIE_STAT_PARTNER 0).on new fun L => L.put TIE_STAT_PARTNER 1
  s.moveVoice former new

/-- A move of role at the boundary it names. -/
def State.applyRole (s : State) (l : LeafId) : State :=
  let L := s.leaf l
  match L.crs.roleAt with
  | none => s
  | some (c, r) =>
    if isAfter L.count.toNat c.toNat 48 then s
    else
      let s := s.setLeaf l { L with crs := { L.crs with roleAt := none } }
      match r with
      | .restart => s.enterRestart l 0
      | .out => s.enterOut l
      | .lead =>
        if L.role == .follow then
          if L.tie.cause ≤ 6 then s.takeOver l
          else
            let s := s.on l Leaf.lead
            s.moveVoice l.other l
        else s.leadAlone l
      | .follow =>
        if L.role == .lead then
          let s := s.on l Leaf.follow
          if L.tie.cause = causeLink then s.on l Leaf.planOut else s
        else if (s.leaf l.other).carrying && !(s.leaf l.other).cut then s.joinFollow l
        else s.leadAlone l
      | _ => s

/-- Unjoined stages of a FOLLOW leaf joined as they pass through their idle state (R446): as the LEAD leaf runs them. -/
def Leaf.joinIdle (L P : Leaf) : Leaf :=
  if L.role == .follow && P.role == .lead then
    L.put TIE_STAT_UNJOINED (L.get TIE_STAT_UNJOINED &&& P.runningStages)
  else L

/-! ### Commands -/

/-- LEAF_SILENCE (R26, R427): a cause of R26, 1 to 5, at a fine tick. -/
def execLeafSilence (l : LeafId) (cause : Fin 6) (tick : Fin 4000) (s : State) : Done :=
  let L := s.leaf l
  guarded s (cause.val != 0 && L.computing && !L.cut) (s.setLeaf l (L.goSilent cause tick))

/-- SILENT_RECEIVED (R425, R429, R442). `tick` is the fine tick at which the silence was decided. -/
def execSilentReceived (l : LeafId) (cause : Fin 7) (tick : Fin 4000) (s : State) : Done :=
  let L := s.leaf l
  guarded s (cause.val != 0 && L.computing && !L.cut && L.tieOk) <| s.setLeaf l <|
    if L.role == .follow then
      L.planRole (if cause.val = causeOut then L.count + 2 else namedAt L.count tick) .lead cause
    else if cause.val = causeOut then (L.put TIE_STAT_PARTNER 4).raise TIE_FLT_PARTNER_OUT
    else L.put TIE_STAT_PARTNER 2

/-- OUT_ENTRY (R429): at fine tick 3,840 of the course before the named boundary. -/
def execOutEntry (l : LeafId) (s : State) : Done :=
  let L := s.leaf l
  let due := match L.crs.roleAt with
    | some (c, .out) => c == L.count + 1
    | _ => false
  guarded s (due && L.carrying && !L.cut && decide (L.tick ≤ 3840)) <| s.setLeaf l <|
    let L := (L.abortTests (fun _ => true) 4).cutOff causeOut 3840
    { L with tie := { L.tie with cause := causeOut } }

/-- SWAP (R425): at the effective course of a committed TIE_CMD.SWAP; withdrawn where a leaf has fallen silent. -/
def execSwap (s : State) : Done :=
  match s.takeModule TIE_CMD.base 63 [62], s.leadId, s.followId with
  | (some _, t), some a, some b => .next (if (s.leaf a).cut || (s.leaf b).cut then t else t.swapRoles a b)
  | (some _, t), _, _ => .next t
  | (none, _), _, _ => .next s

/-- The leaf in OUT enters RESTART (R452). A leaf that BOOT left out starts as after a reset. -/
def State.rejoin (s : State) (l : LeafId) : State :=
  let s := s.on l fun L => { L with tie := { L.tie with cause := 0 }, cut := false }
  s.enterRestart l 0

/-- REJOIN (R452, R455): written to either leaf, it reaches the leaf that is OUT over the tie link. -/
def execRejoin (viaLeaf : LeafId) (direct : Bool) (who : Ident) (s : State) : Done :=
  let off := TIE_CMD.base
  let out := if (s.leaf viaLeaf).role == .out then some viaLeaf
    else if (s.leaf viaLeaf.other).role == .out then some viaLeaf.other else none
  let act := fun (s : State) => match out with
    | some o => s.rejoin o
    | none => s.on viaLeaf fun L => L.discard off who.val (2 ^ 62)
  if direct then
    if s.setup then .next (act s)
    else if s.mode == .carry then .next (s.on viaLeaf fun L => L.discard off who.val (2 ^ 62))
    else .next s
  else
    match s.takeModule off 62 [63] with
    | (some _, t) => .next (act t)
    | (none, _) => .next s

/-- RESTART_WINDOW_END (R424): 60 s as FOLLOW without falling silent again; the first silence was transient. -/
def execRestartWindowEnd (l : LeafId) (s : State) : Done :=
  let L := s.leaf l
  guarded s (L.carrying && L.tie.silenceRestart && L.tie.followAt.any fun c => decide (9600000 ≤ since L.count c)) <|
    s.setLeaf l (({ L with tie := { L.tie with silenceRestart := false, followAt := none } } : Leaf).bump TIE_CNT_RESTARTS)

/-- The host link is lost for good (R444, R472): down, or without doorbell completions, for 16 courses; or an input ring
stalled for 16,000 courses. -/
def Leaf.linkLost (L : Leaf) : Bool :=
  decide (16 ≤ L.hre.missing) || (L.hre.downAt.any fun c => decide (16 ≤ since L.count c)) ||
    (List.range 10).any fun r => L.on HRE_IRCFG_EN r && decide ((L.waiting r).getD 0 ≠ 0) &&
      decide (16000 ≤ since L.count (pick L.hre.moved r))

/-- HOST_LINK_LOST (R423, R444): the leaf enters OUT; a LEAD leaf with an aligned FOLLOW leaf first swaps. -/
def execHostLinkLost (l : LeafId) (s : State) : Done :=
  let L := s.leaf l
  let P := s.leaf l.other
  guarded s (L.sending && L.linkLost && L.crs.roleAt.isNone) <|
    let s := s.on l fun L => L.masterLost (hostId l)
    let s := if P.on HRE_STAT_LINK_UP && P.carrying then s.on l.other fun P => P.raise TIE_FLT_HOST_LINK else s
    if L.role == .lead && P.role == .follow && P.on CRS_STAT_ALIGNED then
      let at_ := namedAt L.count L.tick
      (s.on l fun L => L.planRole at_ .follow causeLink).on l.other fun P => P.planRole at_ .lead causeHeld
    else s.on l Leaf.planOut

end Sys2Proof.Machine
end

