-- ==== Sys2Proof/Machine/Arbiter.lean ====
section
/-! DEFINITION. The output arbiter (R17, R426, R599, R628 to R631): which leaf it takes as LEAD, and the level of each
shared output. Outputs 0 to 2 are the coils main+, main− and precharge, 3 to 5 FAULT_N, READY_N and CHG_INT_N (asserted),
6 the S2 switch. -/

namespace Sys2Proof.Machine

open Sys2Proof

/-- What a leaf commands on an output in this course (R302, R340, R352, R599). -/
def State.commandOf (s : State) (l : LeafId) (k : Nat) : Bool :=
  let L := s.leaf l
  match k with
  | 0 => L.lnk.plus
  | 1 => L.lnk.minus
  | 2 => L.lnk.pre
  | 3 => L.get TIE_STAT_PARTNER == 4 || L.on (BST_FLT_FLAGS.bit 0) || L.on (BST_FLT_FLAGS.bit 1)
  | 4 => s.mode == .ready || s.mode == .workshop || s.mode == .carry
  | 5 => L.word CHG_FLT &&& L.word CHG_IEN != 0
  | _ => L.on CHG_STAT_S2

/-- The level of an output with no command: its resistor-set state (R16, R629, R631). A coil held by 10 kΩ stays as it was
while VLV is present; hold never closes one. -/
def State.idleLevel (s : State) (k : Nat) : Bool :=
  if k < 3 then strapBand (pick s.arb.coilOhm k) == 1 && (pick s.arb.outs k).level && s.pins.vlv
  else if k < 6 then pick s.arb.lineLink (k - 3)
  else false

/-- The level of an output for a command: a coil needs VLV, and is off once its driver has turned off (R630). -/
def State.drivenLevel (s : State) (k : Nat) (cmd : Bool) : Bool :=
  if k < 3 then cmd && s.pins.vlv && !(pick s.arb.coilOff k) else cmd

/-- An output driven for a leaf, or left to its resistor-set state; a coil's DEF resistance outside the bands is reported
(R631). -/
def State.driveOut (s : State) (k : Nat) (src : Option LeafId) : State :=
  let o := pick s.arb.outs k
  let level := match src with
    | some l => s.drivenLevel k (pick o.cmd l.num)
    | none => s.idleLevel k
  let odd := src.isNone && decide (k < 3) && decide (2 ≤ strapBand (pick s.arb.coilOhm k))
  { s with arb := { s.arb with
    outs := s.arb.outs.setIfInBounds k { o with src := src, level := level }
    coilFault := if odd then alter s.arb.coilFault k fun f => f ||| 0x10 else s.arb.coilFault } }

/-- Every shared output at its resistor-set state, no leaf's command kept, leaf 0 taken as LEAD until the first declaration
(R5, R426, R600). -/
def State.idleOutputs (s : State) : State :=
  let s := (List.range 7).foldl (fun s k => s.driveOut k none) s
  { s with arb := { s.arb with
    outs := s.arb.outs.map fun o => { o with age := #v[2, 2], cmd := #v[false, false], differ := false }
    lead := .leaf0
    coilOff := Vector.replicate 3 false } }

/-- The commands of a course reach the arbiter; a driver that turned off is on again once its coil is commanded off. -/
def State.takeCommands (s : State) : State :=
  let outs := Vector.ofFn fun (k : Fin 7) =>
    let o := pick s.arb.outs k
    let put := fun (o : ArbOut) (l : LeafId) =>
      if (s.leaf l).sending then
        ({ o with cmd := o.cmd.setIfInBounds l.num (s.commandOf l k), age := o.age.setIfInBounds l.num 0 } : ArbOut)
      else { o with age := alter o.age l.num fun a => min 2 (a + 1) }
    let o := put (put o .leaf0) .leaf1
    { o with differ := pick o.age 0 == 0 && pick o.age 1 == 0 && (pick o.cmd 0 != pick o.cmd 1) }
  let off := Vector.ofFn fun (k : Fin 3) =>
    let o := pick outs k.val
    let wanted := (pick o.age 0 < 2 && pick o.cmd 0) || (pick o.age 1 < 2 && pick o.cmd 1)
    pick s.arb.coilOff k && wanted
  { s with arb := { s.arb with outs := outs, coilOff := off } }

/-- ROLE_DECLARATION (R17, R426): once a course. Outputs whose LEAD command is fresh follow it; the others stand until
their fall-back. -/
def execRoleDeclaration (s : State) : Done :=
  if s.mode == .off || s.mode == .park || s.pins.resetN then .next s.idleOutputs
  else
    let s := s.takeCommands
    let claims := fun (l : LeafId) => (s.leaf l).sending && (s.leaf l).role == .lead
    let a := claims .leaf0
    let b := claims .leaf1
    let lead := if a && !b then .leaf0 else if b && !a then .leaf1 else s.arb.lead
    let s := { s with arb := { s.arb with lead := lead } }
    let s := if a && b then
        s.both fun L => L.stick TIE_FLT_ROLE_CONFLICT
      else s
    let s := (List.range 7).foldl (fun s k =>
      if pick (pick s.arb.outs k).age lead.num < 2 then s.driveOut k (some lead) else s) s
    -- with neither leaf passed, FAULT_N is asserted (R5, R599)
    let s := if s.pins.bootDead then
        { s with arb := { s.arb with outs := alter s.arb.outs 3 fun o => { o with level := true, src := none } } }
      else s
    let outs := s.arb.outs.toList
    let differ := outs.any (·.differ)
    .next <| s.both fun L =>
      let other := outs.any fun o => o.src == some L.id.other
      { L with tie := { L.tie with hOther := L.tie.hOther + bit other, hDiffer := L.tie.hDiffer + bit differ } }

/-- ARBITER_FALLBACK (R17, R631): no command for the output has come from the LEAD leaf for 2 courses. -/
def execArbiterFallback (output : Fin 7) (s : State) : Done :=
  let o := pick s.arb.outs output
  let lead := s.arb.lead
  guarded s (decide (2 ≤ pick o.age lead.num)) <|
    s.driveOut output (if pick o.age lead.other.num < 2 then some lead.other else none)

/-- COIL_LIMIT_TIMEOUT (R630): a driver that stays in limit for 250 ms turns off and reports. -/
def execCoilLimitTimeout (coil : Fin 3) (ms : Nat) (s : State) : Done :=
  let o := pick s.arb.outs coil
  guarded s (o.level && decide (250 ≤ ms))
    { s with arb := { s.arb with
      coilOff := s.arb.coilOff.setIfInBounds coil true
      outs := s.arb.outs.setIfInBounds coil { o with level := false } } }

/-- COIL_DRIVER_FAULT (R447, R630): 0 a switch failed open, 1 a switch failed short, 2 open load, found with the coil on,
3 a short, found with the coil off. No coil's state changes; the fault is reported. -/
def execCoilDriverFault (coil : Fin 3) (kind : Fin 4) (s : State) : Done :=
  let on := (pick s.arb.outs coil).level
  guarded s ((kind.val != 2 || on) && (kind.val != 3 || !on))
    { s with arb := { s.arb with coilFault := alter s.arb.coilFault coil fun f => f ||| BitVec.ofNat 5 (2 ^ kind.val) } }

end Sys2Proof.Machine
end

