-- ==== Sys2Proof/Machine/Ashlar.lean ====
section
/-! DEFINITION. The ashlar engines (R66 to R88): the engine map, the fill queues at work, shedding, mismatches of a pair,
hand-overs, self-test and retirement, and debug splits. -/

namespace Sys2Proof.Machine

open Sys2Proof

/-! ### The engine map -/

def Leaf.onAsh (L : Leaf) (f : Ash → Ash) : Leaf := { L with ash := f L.ash }
def Leaf.eng (L : Leaf) (e : Nat) : Engine := pick L.ash.engines e
def Leaf.onEng (L : Leaf) (e : Nat) (f : Engine → Engine) : Leaf := L.onAsh fun A => { A with engines := alter A.engines e f }
def Leaf.pairx (L : Leaf) (p : Nat) : PairX := pick L.ash.pairs p
def Leaf.onPair (L : Leaf) (p : Nat) (f : PairX → PairX) : Leaf := L.onAsh fun A => { A with pairs := alter A.pairs p f }

/-- Engines in a state of R92. -/
def Leaf.enginesIn (L : Leaf) (st : Nat) : List Nat := (List.range 24).filter fun e => L.get (engState e) == st

/-- The position that runs a keyed block: bonded, and not incoming (R79). -/
def Leaf.posOf (L : Leaf) (block : Nat) : Option Nat :=
  (List.range 8).find? fun p => L.on ASH_PAIR_VALID p && L.get ASH_PAIR_BLOCK p == block && L.get ASH_PAIR_ROLE p != 1

/-- The position an engine is bonded in. -/
def Leaf.bondOf (L : Leaf) (e : Nat) : Option Nat :=
  (List.range 8).find? fun p => L.on ASH_PAIR_VALID p && (L.get ASH_PAIR_ENG_A p == e || L.get ASH_PAIR_ENG_B p == e)

/-- The counts ASH_STAT shows. -/
def Leaf.showAsh (L : Leaf) : Leaf :=
  let retired := (L.enginesIn 3).length
  L.put ASH_STAT_FILL_N (L.enginesIn 0).length |>.put ASH_STAT_RETIRED retired
    |>.put ASH_STAT_PAIRS ((List.range 8).filter fun p => L.on ASH_PAIR_VALID p).length
    |>.put ASH_STAT_DEGRADED (bit (decide (3 ≤ retired)))

/-- The queues laid over the engines now in fill state (R72). -/
def Leaf.layQueues (L : Leaf) (blocks : List FillBlock) : Leaf :=
  let qs := placeQueues (L.enginesIn 0) blocks
  L.onAsh fun A => { A with engines := Vector.ofFn fun e =>
    { pick A.engines e.val with queue := ((qs.find? fun q => q.1 == e.val).map (·.2)).getD [] } }

/-- The engine map has changed: its generation, and the blocks not yet started placed anew (R66, R72). -/
def Leaf.mapChanged (L : Leaf) : Leaf :=
  let open_ := L.ash.engines.toList.flatMap fun e => e.queue
  ((L.put ASH_STAT_MAP_GEN ((L.get ASH_STAT_MAP_GEN + 1) % 2 ^ 16)).showAsh).layQueues open_

/-- The level in force: that of R85, or the floor of R75 or R84. -/
def Leaf.showShed (L : Leaf) : Leaf :=
  L.put ASH_STAT_SHED (max L.ash.base (if L.ash.floorHand || L.ash.floorRetired then 2 else 0))

/-- The map a leaf starts with: the lowest sound engines bonded for the five keyed blocks, the others in fill state, all
of them just tested (R23, R83). -/
def Leaf.bootEngines (L : Leaf) : Leaf :=
  let sound := (List.range 24).filter fun e => L.get (engState e) != 3
  let L := L.onAsh fun A => { A with
    engines := Vector.ofFn fun _ => { tested := L.count, passed := L.count }
    pairs := Vector.replicate 8 default
    testEnd := L.count }
  let L := (List.range 5).foldl (fun L b =>
    match sound[2 * b]?, sound[2 * b + 1]? with
    | some a, some c =>
      ((L.setWord ASH_PAIR b 0).put ASH_PAIR_VALID 1 b |>.put ASH_PAIR_BLOCK b b |>.put ASH_PAIR_ENG_A a b
        |>.put ASH_PAIR_ENG_B c b).put (engState a) 1 |>.put (engState c) 1
    | _, _ => L) L
  L.mapChanged

/-! ### A course of fill work -/

/-- The blocks of a course that the shedding level lets run (R71): class 1 in alternate courses at level 3. -/
def keptBlocks (level : Nat) (course : Nat) (blocks : List FillBlock) : List FillBlock :=
  let ones := (blocks.filter fun b => b.cls.val == 1).map (·.id)
  blocks.filter fun b =>
    match b.cls.val with
    | 0 => true
    | 1 => decide (level < 3) || (ones.findIdx? fun i => i == b.id).any fun k => k % 2 == course % 2
    | 2 => decide (level < 2)
    | _ => decide (level < 1)

/-- The engines at a seal (R69, R71, R72, R79, R85, R87): the shedding level, the roles of a hand-over, a split that was
named, and the blocks of the course in their queues, the head of each started. -/
def Leaf.sealAsh (L : Leaf) (partner : Bool) : Leaf :=
  let A := L.ash
  let base := if A.shedNext then max A.base (min (A.base + 1) (L.get ASH_CTRL_SHED_MAX)) else A.base
  let retired := (L.enginesIn 3).length
  let L := L.onAsh fun A => { A with
    base := base, shedNext := false, invalid := [], rerun := [], keyedOver := false, fillOver := false
    floorRetired := (decide (4 ≤ retired) && !partner) || (decide (retired = 3) && A.testing.isSome) }
  let L := L.showShed
  -- four or more engines retired (R84)
  let L := if 4 ≤ retired then
      if partner then (if L.crs.roleAt.isNone then L.planOut else L)
      else if 1600 ≤ since L.count L.ash.eventAt then
        (L.eventAgain 0x0705 retired).onAsh fun A => { A with eventAt := L.count }
      else L
    else L
  -- the outgoing pair of a hand-over in E - 1
  let L := match L.ash.hand with
    | some h => if h.effect = L.count + 1 then L.put ASH_PAIR_ROLE 2 h.oldPos else L
    | none => L
  let L := (List.range 8).foldl (fun L p =>
    let X := L.pairx p
    let L := if X.splitNext.isSome then L.put ASH_STAT_TAINT 1 else L
    L.onPair p fun X => { X with
      agreed := false, rerun := false, stopped := false, split := X.splitNext.or X.split, splitNext := none }) L
  let level := L.get ASH_STAT_SHED
  let due := courseBlocks L.ash.blocks L.count.toNat
  let slices := L.ash.carried.filter fun b => !(due.any fun x => x.id == b.id)
  let all := due ++ slices
  let run := keptBlocks level L.count.toNat all
  let L := L.layQueues run
  let held := all.filter fun b => b.cls.val == 3 && !(run.any fun x => x.id == b.id)
  (L.onAsh fun A => { A with
    carried := held
    engines := A.engines.map fun E => { E with running := E.queue.head?, queue := E.queue.drop 1 } }).showAsh

/-- The partner carries, aligned (R84, R86, R604). -/
def State.partnerCarries (s : State) (l : LeafId) : Bool :=
  let P := s.leaf l.other
  P.sending && P.on CRS_STAT_ALIGNED

/-- Waiting hand-overs in the order of their table (R79). -/
def insertTrigger (t : Trigger) : List Trigger → List Trigger
  | [] => [t]
  | x :: r => if t.order < x.order then t :: x :: r else x :: insertTrigger t r

/-- A hand-over wanted, unless one for the block waits or runs. -/
def Leaf.wantHandover (L : Leaf) (order block : Nat) : Leaf :=
  if (L.ash.waiting.any fun t => t.block == block) || (L.ash.hand.any fun h => h.block == block) then L
  else L.onAsh fun A => { A with waiting := insertTrigger ⟨order, block, L.count⟩ A.waiting }

/-- KEYED_DEADLINE (R38, R86): fine tick 2,688. The outputs of a block that has not agreed are discarded. -/
def execKeyedDeadline (l : LeafId) (s : State) : Done :=
  let L := s.leaf l
  guarded s (L.computing && !L.ash.keyedOver && !L.ash.fillOver) <|
    let L := ({ L with tick := max L.tick 2688 } : Leaf).onAsh fun A => { A with keyedOver := true }
    let miss := fun (a : Leaf × Bool) (b : Nat) =>
      let L := a.1
      match L.posOf b with
      | none => a
      | some p =>
        if (L.pairx p).agreed then (L.onAsh fun A => { A with missRun := A.missRun.setIfInBounds b 0 }, a.2)
        else
          let L := (L.bump CRS_LATE_KEY_LATE).put ASH_PAIR_DONE_LAST 0xFFF p
          let run := pick L.ash.missRun b + 1
          let L := L.onAsh fun A => { A with missRun := A.missRun.setIfInBounds b run }
          let again := (pick L.ash.replacedAt b).any fun c => decide (since L.count c < 160000)
          if run < 2 then (L, a.2)
          else if again then
            if s.partnerCarries l then (L, true)
            else if run = 2 ∨ 1600 ≤ since L.count L.ash.eventAt then
              ((L.bitEvent CRS_LATE_KEY_LATE 0 (bit (decide (2 < run)))).onAsh fun A => { A with eventAt := L.count }, a.2)
            else (L, a.2)
          else (L.wantHandover 1 b, a.2)
    let (L, restart) := (List.range 5).foldl miss (L, false)
    let s := s.setLeaf l L
    if restart && L.carrying then s.planRestart l else s

/-- An invalid fill block of class 0 in its course, and in 16 courses in a row reported to the authority of its function
(R86, R353, R417). -/
def Leaf.judgeInvalid (L : Leaf) (b : FillBlock) : Leaf :=
  let run := (kvFind L.ash.badRun b.id).getD 0 + 1
  let L := L.onAsh fun A => { A with badRun := kvPut A.badRun b.id run }
  match b.kind with
  | .switchModel g => L.modelInvalid g
  | .pfc _ => if run = 16 then L.chargerInvalid else L
  | .llc _ => if run = 16 then L.chargerInvalid else L
  | .pilot => if run = 16 then L.chargerInvalid else L
  | _ => L

/-- FILL_DEADLINE (R39, R85, R86): fine tick 3,584. -/
def execFillDeadline (l : LeafId) (s : State) : Done :=
  let L := s.leaf l
  guarded s (L.computing && !L.ash.fillOver) <| s.setLeaf l <|
    let open_ := L.ash.engines.toList.flatMap fun e => e.running.toList ++ e.queue
    let bad := L.ash.blocks.filter fun b => L.ash.invalid.contains b.id || open_.any fun x => x.id == b.id
    let again := L.ash.rerun.filter fun i => open_.any fun b => b.id == i
    let L := ({ L with tick := max L.tick 3584 } : Leaf).onAsh fun A => { A with keyedOver := true, fillOver := true }
    let L := L.bumpBy CRS_LATE_FILL_LATE open_.length
    -- a rerun of R25 that misses the deadline
    let L := again.foldl (fun L i => L.event 0x0702 i) L
    let L := bad.foldl (fun L b => L.judgeInvalid b) L
    let run := if bad.isEmpty then 0 else L.ash.fillRun + 1
    L.onAsh fun A => { A with
      invalid := bad.map (·.id)
      carried := A.carried ++ open_.filter fun b => b.cls.val == 3
      badRun := A.badRun.filter fun p => bad.any fun b => b.id == p.1
      fillRun := if 2 ≤ run then 0 else run
      shedNext := A.shedNext || decide (2 ≤ run)
      lastBad := if bad.isEmpty then A.lastBad else L.count
      engines := A.engines.map fun E => { E with running := none, queue := [] } }

/-- SHEDDING_DECAY (R85): 1,600 courses with no fill output invalid. -/
def execSheddingDecay (l : LeafId) (s : State) : Done :=
  let L := s.leaf l
  guarded s (L.computing && decide (0 < L.ash.base) && decide (1600 ≤ since L.count L.ash.lastBad)) <| s.setLeaf l
    (L.onAsh fun A => { A with base := A.base - 1, lastBad := L.count }).showShed

/-- The next block an engine starts: the head of its own queue. -/
def Engine.next (E : Engine) : Engine := { E with running := E.queue.head?, queue := E.queue.drop 1 }

/-- The queue a thief takes from (R73): the largest sum of bounds not started, the lowest engine among equals. -/
def Leaf.richest (L : Leaf) (thief : Nat) : Option Nat :=
  ((L.enginesIn 0).filter fun e => e != thief && !(L.eng e).queue.isEmpty).foldl (fun b e => match b with
    | none => some e
    | some m => if sumBounds (L.eng m).queue < sumBounds (L.eng e).queue then some e else some m) none

/-- STEAL (R73). -/
def execSteal (l : LeafId) (thief : Fin 24) (s : State) : Done :=
  let L := s.leaf l
  let E := L.eng thief
  let go := L.computing && !L.ash.fillOver && L.get (engState thief) == 0 && E.running.isNone && E.queue.isEmpty
  match L.richest thief with
  | none => .next s
  | some t =>
    guarded s go <| s.setLeaf l <|
      let q := (L.eng t).queue
      ((L.onEng t fun E => { E with queue := q.dropLast }).onEng thief fun E => { E with running := q.getLast? }).bump
        ASH_STEAL_STEALS

/-- CYCLE_GUARD_STOP (R68): of a keyed block, or of the fill block an engine runs. -/
def execCycleGuardStop (l : LeafId) (e : Fin 24) (s : State) : Done :=
  let L := s.leaf l
  let E := L.eng e
  match L.bondOf e, E.running with
  | some p, _ =>
    guarded s (L.computing && L.get ASH_PAIR_ROLE p != 1 && !(L.pairx p).agreed && !(L.pairx p).stopped &&
        !L.ash.keyedOver) <| s.setLeaf l
      ((L.bump ASH_CNT_GUARD_STOP).onPair p fun X => { X with stopped := true, rerun := false })
  | none, some b =>
    guarded s (L.computing && !L.ash.fillOver) <| s.setLeaf l
      (((L.bump ASH_CNT_GUARD_STOP).onAsh fun A => { A with invalid := A.invalid ++ [b.id] }).onEng e Engine.next)
  | none, none => .next s

/-! ### Mismatches -/

/-- A window of 160,000 courses in which something is counted. -/
def windowCount (now start : Course) (n : Nat) : Nat × Course := if since now start < 160000 then (n + 1, start) else (1, now)

/-- A lasting mismatch: the leaf falls silent, a hand-over is abandoned (R78, R80). -/
def Leaf.pairLasting (L : Leaf) (tick : Nat) : Leaf := (L.onAsh fun A => { A with hand := none }).goSilent 2 tick

/-- PAIR_MISMATCH (R76 to R78): the comparator finds a mismatch, or a second read of an input differed too. -/
def execPairMismatch (l : LeafId) (pos : Fin 8) (tick : Fin 4000) (inputTwice : Bool) (s : State) : Done :=
  let L := s.leaf l
  let X := L.pairx pos
  guarded s (L.computing && L.on ASH_PAIR_VALID pos && L.get ASH_PAIR_ROLE pos != 1 && X.split.isNone && !X.agreed &&
      !X.stopped && !L.ash.keyedOver) <| s.setLeaf l <|
    if inputTwice || X.rerun then L.pairLasting tick else L.onPair pos fun X => { X with rerun := true }

/-- PAIR_RERUN_COMPLETE (R78): in agreement, and the mismatch was transient, or with a recurrence. -/
def execPairRerunComplete (l : LeafId) (pos : Fin 8) (tick : Fin 4000) (recurs : Bool) (s : State) : Done :=
  let L := s.leaf l
  let X := L.pairx pos
  guarded s (L.computing && L.on ASH_PAIR_VALID pos && X.rerun) <| s.setLeaf l <|
    if recurs then L.pairLasting tick
    else
      let (n, from_) := windowCount L.count X.mismFrom X.misms
      let L := (L.bump ASH_CNT_MISM_TRANS).bump ASH_PAIR_MISM_T pos
      let L := L.onPair pos fun X => { X with rerun := false, misms := n, mismFrom := from_ }
      if L.get ASH_CTRL_MISM_LIM ≤ n then L.wantHandover 2 (L.get ASH_PAIR_BLOCK pos) else L

/-- A corrected error in an engine's local memory (R25, R79). -/
def Leaf.correctedEngine (L : Leaf) (e : Nat) : Leaf :=
  let (n, from_) := windowCount L.count (L.eng e).errFrom (L.eng e).errs
  let L := L.onEng e fun E => { E with errs := n, errFrom := from_ }
  match L.bondOf e with
  | some p => if L.get ASH_CTRL_CE_LIM ≤ n then L.wantHandover 3 (L.get ASH_PAIR_BLOCK p) else L
  | none => L

/-- The record of a DRAM store that an address holds is discarded, with an event (R25): which record it is, the spec
leaves open (log entry 18). -/
def Leaf.discardDram (L : Leaf) (what addr : Nat) : Leaf :=
  let k := Config.dramRecord addr
  let cut := fun (v : Vector (List (List Int)) 4) => alter v (k % 4) fun rows => rows.eraseIdx (k / 4)
  let L := match what with
    | 1 => { L with cmp := { L.cmp with buffers := cut L.cmp.buffers } }
    | 2 => { L with his := { L.his with hours := L.his.hours.eraseIdx k } }
    | 3 => { L with cmp := { L.cmp with spill := cut L.cmp.spill } }
    | _ => L
  L.event 0x0703 what addr

/-- A fill block hit by an uncorrectable error: rerun once on another engine in the course, at the head of the queue with
the smallest sum of bounds not started (R25, R74). -/
def Leaf.rerunBlock (L : Leaf) (e : Nat) : Leaf :=
  match (L.eng e).running with
  | none => L
  | some b =>
    let L := L.onEng e Engine.next
    if L.ash.rerun.contains b.id then
      (L.onAsh fun A => { A with invalid := A.invalid ++ [b.id] }).event 0x0702 b.id
    else
      let qs := ((L.enginesIn 0).filter fun x => x != e).map fun x => (x, (L.eng x).queue)
      match leastQueue qs with
      | none => (L.onAsh fun A => { A with invalid := A.invalid ++ [b.id] }).event 0x0702 b.id
      | some t =>
        let L := L.onAsh fun A => { A with rerun := A.rerun ++ [b.id] }
        L.onEng t fun E => if E.running.isNone then { E with running := some b } else { E with queue := b :: E.queue }

/-- A memory error as R25 handles it: a single-bit error corrected and counted, an uncorrectable one by its location. -/
def Leaf.memoryError (L : Leaf) (loc : ErrLoc) (single : Bool) : Leaf :=
  if single then
    let L := { L with tie := { L.tie with hEcc := L.tie.hEcc + 1 } }
    match loc with
    | .engineMemory e => L.correctedEngine e
    | _ => L
  else
    match loc with
    | .keystoneSram => L.goSilent 3 L.tick
    | .gateScheduler => L.goSilent 3 L.tick
    | .ringStore => L.goSilent 3 L.tick
    | .engineMemory e => if (L.bondOf e).isSome then L.goSilent 3 L.tick else if L.computing then L.rerunBlock e else L
    | .dram what addr => L.discardDram what addr
    | .flash => L
    | .ledgerStore => L

/-- UNCORRECTABLE_ERROR (R25); `single` marks a single-bit error. -/
def execUncorrectableError (l : LeafId) (loc : ErrLoc) (single : Bool) (s : State) : Done :=
  onLeaf s l fun L => L.memoryError loc single

/-! ### Hand-over -/

/-- The fill engine whose last passing self-test is most recent, the lowest number among equals (R79). -/
def Leaf.freshest (L : Leaf) (l : List Nat) : Option Nat :=
  l.foldl (fun b e => match b with
    | none => some e
    | some m => if isAfter (L.eng m).passed.toNat (L.eng e).passed.toNat 48 then some e else some m) none

/-- A position released. -/
def Leaf.freePos (L : Leaf) (p : Nat) : Leaf := (L.setWord ASH_PAIR p 0).onPair p fun _ => {}

/-- HANDOVER_START (R75, R79): at the boundary that starts E − 3. -/
def execHandoverStart (l : LeafId) (s : State) : Done :=
  let L := s.leaf l
  let fill := (L.enginesIn 0).filter fun e => !(L.eng e).due
  match L.ash.waiting, L.freshest fill, (List.range 8).find? fun p => !L.on ASH_PAIR_VALID p with
  | t :: rest, some a, some new =>
    match L.freshest (fill.filter fun e => e != a), L.posOf t.block with
    | some b, some old =>
      let left := fill.length - 2
      guarded s (L.computing && L.ash.hand.isNone && decide (1 ≤ since L.count t.decided) &&
          (decide (11 ≤ left) || t.order != 5)) <| s.setLeaf l <|
        let L := (L.setWord ASH_PAIR new 0).put ASH_PAIR_VALID 1 new |>.put ASH_PAIR_ROLE 1 new
          |>.put ASH_PAIR_BLOCK t.block new |>.put ASH_PAIR_ENG_A (min a b) new |>.put ASH_PAIR_ENG_B (max a b) new
        let L := (L.put (engState a) 1).put (engState b) 1
        let h : Handover := { effect := after L.count 3, block := t.block, order := t.order, oldPos := old, newPos := new
                              verified := false, copied := false }
        ((L.onAsh fun A => { A with waiting := rest, hand := some h, floorHand := decide (left < 11) }).showShed).mapChanged
    | _, _ => .next s
  | _, _, _ => .next s

/-- A course has come. -/
def reached (now c : Course) : Bool := !isAfter now.toNat c.toNat 48

/-- HANDOVER_DIGEST_CHECK (R79, R80): in E − 2; a failure withdraws the hand-over, tests both engines and starts again. -/
def execHandoverDigestCheck (l : LeafId) (ok : Bool) (s : State) : Done :=
  let L := s.leaf l
  match L.ash.hand with
  | none => .next s
  | some h =>
    guarded s (L.computing && reached (L.count + 2) h.effect && !h.verified) <| s.setLeaf l <|
      if ok then L.onAsh fun A => { A with hand := some { h with verified := true } }
      else
        let test := fun (L : Leaf) (e : Nat) => (L.put (engState e) 2).onEng e fun E => { E with due := true }
        let L := test (test L (L.get ASH_PAIR_ENG_A h.newPos)) (L.get ASH_PAIR_ENG_B h.newPos)
        (((L.freePos h.newPos).onAsh fun A => { A with
          hand := none, floorHand := false, waiting := insertTrigger ⟨h.order, h.block, L.count⟩ A.waiting }).showShed).mapChanged

/-- HANDOVER_STATE_COPY (R79, R80): at the close of E − 1 the committed state is copied. A block's committed state is held
under the block, so the copy is the state itself, whatever the outgoing pair did in E − 1. -/
def execHandoverStateCopy (l : LeafId) (s : State) : Done :=
  let L := s.leaf l
  match L.ash.hand with
  | none => .next s
  | some h =>
    guarded s (L.computing && reached (L.count + 1) h.effect && decide (3584 ≤ L.tick) && h.verified && !h.copied) <|
      s.setLeaf l (L.onAsh fun A => { A with hand := some { h with copied := true } })

/-- An engine released from a pair: to fill state, or to self-test where one is due (R79, R81). -/
def Leaf.releaseEngine (L : Leaf) (e : Nat) (test : Bool) : Leaf :=
  let due := test || (L.eng e).due
  (L.put (engState e) (if due then 2 else 0)).onEng e fun E => { E with due := due, queue := [], running := none }

/-- HANDOVER_COMPLETE (R79, R81): at E. -/
def execHandoverComplete (l : LeafId) (s : State) : Done :=
  let L := s.leaf l
  match L.ash.hand with
  | none => .next s
  | some h =>
    guarded s (L.computing && reached L.count h.effect && h.copied) <| s.setLeaf l <|
      let a := L.get ASH_PAIR_ENG_A h.oldPos
      let b := L.get ASH_PAIR_ENG_B h.oldPos
      let replaced := decide (h.order ≤ 4)
      let L := ((L.freePos h.oldPos).releaseEngine a replaced).releaseEngine b replaced
      let L := (L.put ASH_PAIR_ROLE 0 h.newPos).bump ASH_CNT_HANDOVERS
      ((L.onAsh fun A => { A with
        hand := none, floorHand := false, missRun := A.missRun.setIfInBounds h.block 0
        replacedAt := if h.order = 1 then A.replacedAt.setIfInBounds h.block (some L.count) else A.replacedAt }).showShed).mapChanged

/-! ### Self-test -/

/-- The engine whose last test is oldest, the lowest number among equals (R82). -/
def Leaf.stalest (L : Leaf) (l : List Nat) : Option Nat :=
  l.foldl (fun b e => match b with
    | none => some e
    | some m => if isAfter (L.eng e).tested.toNat (L.eng m).tested.toNat 48 then some e else some m) none

/-- A test step begins on an engine that is out of fill state. -/
def Leaf.startTest (L : Leaf) (e : Nat) : Leaf := L.onAsh fun A => { A with testing := some (e, L.count) }

/-- ENGINE_SELF_TEST_STEP (R75, R81, R82, R84): engines owed a test after a hand-over first, then rotation. -/
def execEngineSelfTestStep (l : LeafId) (s : State) : Done :=
  let L := s.leaf l
  let retired := (L.enginesIn 3).length
  let gap := decide (L.get ASH_CTRL_BIST_GAP ≤ since L.count L.ash.testEnd)
  guarded s (L.computing && L.ash.testing.isNone) <| s.setLeaf l <|
    match (L.enginesIn 2).head? with
    | some e => L.startTest e
    | none =>
      if !gap || decide (4 ≤ retired) then L
      else
        match L.stalest ((List.range 24).filter fun e => L.get (engState e) != 3) with
        | none => L
        | some e =>
          if L.get (engState e) = 1 then
            match L.bondOf e with
            | some p => (L.onEng e fun E => { E with due := true }).wantHandover 5 (L.get ASH_PAIR_BLOCK p)
            | none => L
          else if 12 ≤ (L.enginesIn 0).length ∨ retired = 3 then
            let L := (L.put (engState e) 2).startTest e
            -- the block it runs is started anew by another engine
            let L := match (L.eng e).running with
              | some b => L.onEng e fun E => { E with running := none, queue := b :: E.queue }
              | none => L
            ((L.onAsh fun A => { A with floorRetired := A.floorRetired || decide (retired = 3) }).showShed).mapChanged
          else L

/-- The result of a self-test shown (R602, R607). -/
def Leaf.showTest (L : Leaf) (unit : Nat) (signature expected : Word) : Leaf :=
  ((L.setWord BST_SIG 0 signature).setWord BST_EXP 0 expected).put BST_STAT_PASS (bit (signature == expected))
    |>.put BST_STAT_UNIT unit |>.put BST_STAT_COURSE L.count.toNat

/-- An engine retired (R83), and what its count brings (R84). -/
def Leaf.retireEngine (L : Leaf) (e : Nat) (partner : Bool) : Leaf :=
  let L := ((L.put (engState e) 3).onEng e fun _ => { tested := L.count }).mapChanged
  let n := (L.enginesIn 3).length
  if n = 3 then L.bitEvent ASH_STAT_DEGRADED
  else if n < 4 then L
  else if partner then L.planOut
  else ((L.onAsh fun A => { A with floorRetired := true, eventAt := L.count }).showShed).event 0x0705 n

/-- ENGINE_SELF_TEST_COMPLETE (R82, R83): 144 courses of test; a failure is repeated once. -/
def execEngineSelfTestComplete (l : LeafId) (signature expected : Word) (s : State) : Done :=
  let L := s.leaf l
  match L.ash.testing with
  | none => .next s
  | some (e, start) =>
    guarded s (L.computing && decide (144 ≤ since L.count start)) <| s.setLeaf l <|
      let L := L.showTest 4 signature expected
      let ended := fun (L : Leaf) => L.onAsh fun A => { A with testing := none, testEnd := L.count, floorRetired := false }
      if signature = expected then
        let L := if (L.eng e).repeating then L.bump BST_CNT_TRANS else L
        (((ended L).put (engState e) 0).onEng e fun E =>
          { E with tested := L.count, passed := L.count, repeating := false, due := false }).showShed.mapChanged
      else if (L.eng e).repeating then ((ended L).showShed).retireEngine e (s.partnerCarries l)
      else (L.startTest e).onEng e fun E => { E with repeating := true }

/-! ### Debug splits -/

/-- A write of ASH_DBG is accepted (R87): on EV in every state, on AQ in READY and WORKSHOP under the DEBUG right. -/
def State.mayDebug (s : State) : Bool := s.variantEv || (s.setup && s.sec.who != 0 && s.sec.rights.getLsbD 1)

/-- A write of ASH_DBG that is not accepted: in CARRY on AQ with an event (R87). -/
def State.refuseDebug (s : State) (l : LeafId) (value : Nat) (who : Nat) : State :=
  if s.mode == .carry then s.on l fun L => L.discard ASH_DBG.base who value else s

/-- SPLIT (R87, R88). -/
def execSplit (l : LeafId) (pos : Fin 8) (side : Bool) (who : Ident) (s : State) : Done :=
  let value := 2 ^ 15 + pos.val * 2 ^ 12 + bit side * 2 ^ 11
  if s.mayDebug then
    onLeaf s l fun L =>
      let L := L.put ASH_DBG_SPLIT 1 |>.put ASH_DBG_POS pos |>.put ASH_DBG_SIDE (bit side)
      if L.on ASH_PAIR_VALID pos then L.onPair pos fun X => { X with splitNext := some side } else L
  else .next (s.refuseDebug l value who)

/-- END_SPLIT (R88): a replacement hand-over to two other engines. -/
def execEndSplit (l : LeafId) (pos : Fin 8) (who : Ident) (s : State) : Done :=
  if s.mayDebug then
    onLeaf s l fun L =>
      let L := L.put ASH_DBG_SPLIT 0 |>.put ASH_DBG_POS pos
      if (L.pairx pos).split.isSome then L.wantHandover 4 (L.get ASH_PAIR_BLOCK pos) else L
  else .next (s.refuseDebug l (pos.val * 2 ^ 12) who)

end Sys2Proof.Machine
end

