-- ==== Sys2Proof/Machine/Ether.lean ====
section
/-! DEFINITION. The Ethernet switch and the network time of a leaf (R519 to R527). -/

namespace Sys2Proof.Machine

open Sys2Proof

def netFlag (k : Nat) : Fld := NET_FLT_FLAGS.bit k

/-! ### Switching -/

/-- The VLAN and the priority of a frame that enters on a port (R521). -/
def Leaf.vlanOf (L : Leaf) (port : Nat) (f : EthFrame) : Nat × Nat :=
  match f.tag with
  | some t => (if t.toNat % 4096 = 0 then L.get NET_PORT_PVID port else t.toNat % 4096, t.toNat >>> 13)
  | none => (L.get NET_PORT_PVID port, L.get NET_PORT_DEF_PRI port)

/-- The VLAN entry of a VID (R521). -/
def Leaf.vlanEntry (L : Leaf) (vid : Nat) : Option Nat :=
  (List.range 64).find? fun v => L.on NET_VLAN_VALID v && L.get NET_VLAN_VID v == vid

/-- A port belongs to a VLAN, and frames of it leave there untagged. -/
def Leaf.member (L : Leaf) (vid port : Nat) : Bool := (L.vlanEntry vid).any fun v => L.on (NET_VLAN_MEMBER.bit port) v
def Leaf.untag (L : Leaf) (vid port : Nat) : Bool := (L.vlanEntry vid).any fun v => L.on (NET_VLAN_UNTAG.bit port) v

/-- A frame dropped and counted. -/
def Leaf.dropEth (L : Leaf) : Leaf := L.bump NET_CNT_DROPS

/-- A source address learnt (R520). -/
def Leaf.learn (L : Leaf) (src : BitVec 48) (port : Nat) : Leaf :=
  if !L.on NET_CTRL_LEARN || src.getLsbD 40 then L
  else
    let known := L.net.fdb.any fun e => e.1 == src
    if known then L.onNet fun N => { N with fdb := N.fdb.map fun e => if e.1 == src then (src, port, L.count) else e }
    else if 1024 ≤ L.net.fdb.length then L.stick (netFlag 4)
    else
      let L := L.onNet fun N => { N with fdb := N.fdb ++ [(src, port, L.count)] }
      L.put NET_STAT_FDB_USED L.net.fdb.length

/-- A frame leaves on E0 or E1: the link up, the VLAN's member; tagged or not as the VLAN says (R519, R521). -/
def Leaf.egress (L : Leaf) (vid port : Nat) (f : EthFrame) : Leaf :=
  if !L.member vid port then L
  else if !(L.on NET_PORT_EN port && L.on NET_PORT_LINK port) then L.dropEth
  else
    let len := (if f.tag.isSome then f.len - 4 else f.len) + (if L.untag vid port then 0 else 4)
    { L with out := L.out ++ [.eth port len f.content] }

/-- The stream of a frame (R524). -/
def Leaf.streamOf (L : Leaf) (vid : Nat) (f : EthFrame) : Option Nat :=
  (List.range 16).find? fun k => L.on NET_STRM_EN k && L.get NET_STRM_VID k == vid &&
    L.get NET_STRM_MAC k == (if L.on NET_STRM_ID_TYPE k then f.src.toNat else f.dst.toNat)

/-- The vector recovery algorithm of IEEE 802.1CB on a frame of stream `k` (R524): whether it passes. A frame without a
sequence number is discarded. -/
def Leaf.recoverStream (L : Leaf) (k : Nat) (f : EthFrame) : Bool × Leaf :=
  let R := pick L.net.recov k
  let n := L.get NET_CTRL_HIST
  let put := fun (L : Leaf) (r : Recov) => L.onNet fun N => { N with recov := N.recov.setIfInBounds k r }
  match f.rtag with
  | none => (false, L.bump NET_SCNT_DISCARDED k)
  | some q =>
    let seq := q.toNat
    let d : Int := signed 16 (seq + 2 ^ 16 - R.seq)
    let fresh : Recov := { takeAny := false, seq := seq, history := [true], last := L.count }
    if R.takeAny then (true, (put L fresh).bump NET_SCNT_PASSED k)
    else if (n : Int) ≤ d ∨ d ≤ -(n : Int) then (false, (L.bump NET_SCNT_ROGUE k).bump NET_SCNT_DISCARDED k)
    else if d ≤ 0 then
      let i := (-d).toNat
      if R.history.getD i false then (false, L.bump NET_SCNT_DISCARDED k)
      else
        let h := (List.range n).map fun j => if j = i then true else R.history.getD j false
        (true, ((put L { R with history := h, last := L.count }).bump NET_SCNT_OUT_OF_ORDER k).bump NET_SCNT_PASSED k)
    else
      let h := (true :: (List.replicate (d.toNat - 1) false ++ R.history)).take n
      let L := put L { R with seq := seq, history := h, last := L.count }
      (true, (if d = 1 then L else L.bump NET_SCNT_OUT_OF_ORDER k).bump NET_SCNT_PASSED k)

/-- An OR8 entry (R522), LOCAL; a frame beyond its queue is dropped and counted. -/
def Leaf.toHost (L : Leaf) (port vid pcp : Nat) (f : EthFrame) (fine : Fine) : Leaf :=
  let st := L.streamOf vid f
  let (pass, L) := match st with
    | some k => L.recoverStream k f
    | none => (true, L)
  if !pass then L
  else
    let len := (if f.tag.isSome then f.len - 4 else f.len) - 4 - (if st.isSome ∧ f.rtag.isSome then 6 else 0)
    let flags : Nat := bit st.isSome + 2 * bit f.tag.isSome
    let full := decide (64 ≤ queued L.hre.locQ 8)
    let L := L.produce { ring := 8, isLocal := true, course := L.count
                         frame := some (len, f.content)
                         body := body [(16, 1, 1), (17, 1, port), (18, 1, flags), (19, 1, pcp), (20, 4, fine.toNat), (24, 2, len),
                           (26, 2, (f.tag.map (·.toNat)).getD 0), (28, 1, st.getD 0xFF), (30, 2, (f.rtag.map (·.toNat)).getD 0)] }
    if !L.ringOpen 8 then L
    else if full then L.dropEth.stick (netFlag 3) else L.bump NET_CNT_RX_OR8

/-- A multicast address listed in NET_MCAST (R520). -/
def Leaf.listed (L : Leaf) (dst : BitVec 48) : Bool :=
  (List.range 8).any fun k => L.on NET_MCAST_VALID k && L.get NET_MCAST_MAC k == dst.toNat

def broadcast : BitVec 48 := 0xFFFFFFFFFFFF
def ptpAddress : BitVec 48 := 0x0180C200000E

/-- A frame of VLAN `vid` that entered on `port` goes where its address says (R519 to R521): E2 only where the leaf has it
open. -/
def Leaf.relay (L : Leaf) (port vid pcp : Nat) (f : EthFrame) (fine : Fine) : Leaf :=
  let open2 := L.computing && decide (port ≠ 2) && L.member vid 2
  let others := (List.range 2).filter fun p => p != port
  let flood := fun (L : Leaf) => others.foldl (fun L p => L.egress vid p f) L
  if f.dst = ptpAddress ∧ f.etype = 0x88F7#16 then L
  else if f.dst.toNat = L.get NET_MACH_MAC then (if open2 then L.toHost port vid pcp f fine else L.dropEth)
  else if f.dst.toNat = L.get NET_MACA_MAC then L
  else if f.dst = broadcast ∨ f.dst.getLsbD 40 = true then
    let L := if open2 && (f.dst == broadcast || L.listed f.dst) then L.toHost port vid pcp f fine else L
    flood L
  else match L.net.fdb.find? fun e => e.1 == f.dst with
    | some e => if e.2.1 = port then L else if e.2.1 = 2 then L else L.egress vid e.2.1 f
    | none => flood L

/-- ETH_FRAME_RECEIVED (R519 to R522, R524, R527). -/
def execEthFrameReceived (l : LeafId) (port : Fin 2) (f : EthFrame) (fine : Fine) (s : State) : Done :=
  let L := s.leaf l
  let p := port.val
  guarded s (L.on NET_PORT_EN p && L.on NET_PORT_LINK p) <| s.setLeaf l <|
    if !f.fcsOk || decide (1522 < f.len) then (L.stick (netFlag 0)).bump NET_CNT_FCS_ERR
    else
      let (vid, pcp) := L.vlanOf p f
      if L.on NET_PORT_ING_FILT p && !L.member vid p then L.dropEth
      else (L.learn f.src p).relay p vid pcp f fine

/-- ADDRESS_AGE_OUT (R520): AGE seconds of 160,000 courses. -/
def execAddressAgeOut (l : LeafId) (mac : BitVec 48) (s : State) : Done :=
  let L := s.leaf l
  let old := fun (e : BitVec 48 × Nat × Course) => e.1 == mac && decide (160000 * L.get NET_CTRL_AGE ≤ since L.count e.2.2)
  guarded s (L.net.fdb.any old) <|
    let L := L.onNet fun N => { N with fdb := N.fdb.filter fun e => !old e }
    s.setLeaf l (L.put NET_STAT_FDB_USED L.net.fdb.length)

/-- STREAM_RECOVERY_RESET (R524): RESET ms of 160 courses after the last frame taken. -/
def execStreamRecoveryReset (l : LeafId) (stream : Fin 16) (s : State) : Done :=
  let L := s.leaf l
  let R := pick L.net.recov stream
  guarded s (!R.takeAny && decide (160 * L.get NET_CTRL_RESET ≤ since L.count R.last)) <|
    s.setLeaf l ((L.onNet fun N => { N with recov := N.recov.setIfInBounds stream {} }).bump NET_SCNT_RESETS stream)

/-! ### Sending -/

/-- A buffer reference of IR8 and IR9 (R471): length and 4 KiB boundary. -/
def bufferOk (addr len most : Nat) : Bool :=
  decide (len ≤ most) && decide (1 ≤ len) && decide (addr / 4096 = (addr + len - 1) / 4096)

/-- NET_SEND (R471, R523): the descriptor and its buffer are read; the frame waits for the next seal. -/
def execNetSend (l : LeafId) (d : Desc) (f : EthFrame) (bufOk : Bool) (s : State) : Done :=
  onLeaf s l fun L => L.readDesc 8 0x70 d fun L h =>
    let len := sl d.bytes 32 4
    if !bufferOk (sl d.bytes 24 8) len 1536 then L.complete h 0x0106 0 24
    else
      let L : Leaf := { L with hre := { L.hre with readBytes := L.hre.readBytes + len } }
      if !bufOk then L.complete h 0x0302
      else (L.receive d.bytes h).onNet fun N => { N with bufs := N.bufs ++ [(h.dseq, { f with len := len + 4, fcsOk := true })] }

/-- An IR8 SEND used (R523): by the LEAD leaf, or by both with an R-TAG. -/
def Leaf.useNet (L : Leaf) (h : Hdr) (d : Slot) : Leaf :=
  let stream := slBits d 17 1 0 0 == 1
  match L.net.bufs.find? fun b => b.1 == h.dseq with
  | none => L
  | some b =>
    let L := L.onNet fun N => { N with bufs := N.bufs.filter fun x => x.1 != h.dseq }
    if 2 ≤ sl d 17 1 then L.complete h 0x0105 0 17
    else if stream && decide (16 ≤ sl d 18 1) then L.complete h 0x0105 0 18
    else
      let f := b.2
      let f := if stream then { f with rtag := some (BitVec.ofNat 16 h.dseq.toNat), len := f.len + 6 } else f
      let L := if stream || L.role == .lead then
          let (vid, pcp) := L.vlanOf 2 f
          ((L.learn f.src 2).relay 2 vid pcp f 0).bump NET_CNT_TX_IR8
        else L
      L.complete h 0x0000

/-! ### Links -/

/-- ETH_LINK_DOWN (R527). -/
def execEthLinkDown (l : LeafId) (port : Fin 2) (s : State) : Done :=
  let L := s.leaf l
  let p := port.val
  guarded s (L.on NET_PORT_LINK p) <|
    s.setLeaf l (((L.put NET_PORT_LINK 0 p).onNet fun N => { N with downAt := N.downAt.setIfInBounds p (some L.count) }).raise
      (netFlag (1 + p)))

/-- ETH_LINK_UP (R527): a loss shorter than 1 s was transient. -/
def execEthLinkUp (l : LeafId) (port : Fin 2) (s : State) : Done :=
  let L := s.leaf l
  let p := port.val
  guarded s (!L.on NET_PORT_LINK p) <|
    let brief := (pick L.net.downAt p).any fun c => decide (since L.count c < 160000)
    s.setLeaf l ((L.put NET_PORT_LINK 1 p).onNet fun N => { N with
      downAt := N.downAt.setIfInBounds p none, linkTrans := N.linkTrans + bit brief })

/-- The event of a link that stays down, every 160,000 courses (R527). -/
def Leaf.ageLinks (L : Leaf) : Leaf :=
  (List.range 2).foldl (fun L p =>
    match pick L.net.downAt p with
    | some c => if since L.count c ≠ 0 ∧ since L.count c % 160000 = 0 then L.bitEvent (netFlag (1 + p)) 0 1 else L
    | none => L) L

/-! ### Network time -/

/-- The gPTP time of a boundary in nanoseconds (R526). -/
def Leaf.gptpAt (L : Leaf) (c : Course) : Rat :=
  let N := L.net
  let ticks : Int := ((since c N.baseCourse : Nat) : Int) * 4000 - N.baseTick
  N.baseNs + N.rate * ((ticks : Rat) * (25 / 16))

/-- PTP_MESSAGE (R525, R526). -/
def execPtpMessage (l : LeafId) (port : Fin 2) (m : PtpRx) (s : State) : Done :=
  let L := s.leaf l
  let p := port.val
  guarded s (L.on NET_PORT_EN p && L.on NET_PORT_LINK p && L.on NET_PORT_PTP_EN p) <|
    let L := L.put NET_STAT_PTP_E0 m.roles.1 |>.put NET_STAT_PTP_E1 m.roles.2
    s.setLeaf l <|
      if m.sync then
        (L.onNet fun N => { N with
          gmChanged := N.gmChanged || N.gm != m.gm, gm := m.gm, syncAt := some L.count, baseCourse := m.at_
          baseTick := m.tick.val, baseNs := m.ns, rate := (m.rate.toNat : Rat) / ((2 ^ 30 : Nat) : Rat) }).put NET_STAT_SYNC 1
      else L

/-- TIME_REPORT (R526): at the boundary of every course c with c mod 1,600 = 0. -/
def execTimeReport (l : LeafId) (s : State) : Done :=
  let L := s.leaf l
  guarded s (L.computing && decide (L.count.toNat % 1600 = 0) && decide (L.get NET_PTPC_COURSE ≠ L.count.toNat)) <|
    let now := L.gptpAt L.count
    let ns := (Config.rnd now).toNat
    let sec := ns / 1000000000 % 2 ^ 48
    let frac := ns % 1000000000
    let ratio := min (2 ^ 32 - 1) (Config.rnd ((now - L.net.lastNs) / 10000000 * ((2 ^ 30 : Nat) : Rat))).toNat
    let sync : Nat := bit (L.on NET_STAT_SYNC)
    let changed : Nat := bit L.net.gmChanged
    let L := L.put NET_PTPC_SYNC sync |>.put NET_PTPC_GM_CHANGE changed |>.put NET_PTPC_COURSE L.count.toNat
      |>.put NET_PTPS_SEC sec |>.put NET_PTPN_RATIO ratio |>.put NET_PTPN_NS frac
    let L := L.eventEntry 0x0200 (sync + 2 * changed + 4 * l.num) sec (frac + (ratio <<< 32) + (L.net.gm.toNat <<< 64))
    let L := L.onNet fun N => { N with gmChanged := false, lastNs := now }
    s.setLeaf l { L with ldg := { L.ldg with gptp := sec, timeValid := sync == 1 } }

/-- GM_LOST (R526, R527): no Sync for 60,000 courses. -/
def execGmLost (l : LeafId) (s : State) : Done :=
  let L := s.leaf l
  guarded s (L.on NET_STAT_SYNC && L.net.syncAt.all fun c => decide (60000 ≤ since L.count c)) <|
    s.setLeaf l ((L.put NET_STAT_SYNC 0).stick (netFlag 5))

end Sys2Proof.Machine
end

