-- ==== Sys2Proof/Machine/Update.lean ====
section
/-! DEFINITION. Images and settings generations (R564 to R585): streams on IR9, verification, and the commands that take
up, confirm and revert an image or a generation. -/

namespace Sys2Proof.Machine

open Sys2Proof

def updFlag (k : Nat) : Fld := UPD_FLT_FLAGS.bit k
def Leaf.onUpd (L : Leaf) (f : Upd → Upd) : Leaf := { L with upd := f L.upd }

/-- Slot `i` replaced. -/
def Leaf.setSlot (L : Leaf) (i : Nat) (x : ImgSlot) : Leaf :=
  (L.onUpd fun U => { U with slots := U.slots.setIfInBounds i x }).showUpd

/-! ### The header (R565, R566) -/

/-- A field of a header. -/
def hf (h : BitVec 2560) (off w : Nat) : Nat := (h.toNat >>> (8 * off)) % 2 ^ (8 * w)

/-- Settings, not personality. -/
def hfSettings (h : BitVec 2560) : Bool := hf h 4 1 == 2
/-- A settings image of a TA-2412. -/
def hfOld (h : BitVec 2560) : Bool := hfSettings h && hf h 6 2 == 1
/-- SHA-256 of the integrator key carried. -/
def hfKey (h : BitVec 2560) : BitVec 256 := sha256 (bytesOf h.toNat 192 64)

/-- The checks of R566 in their order: the byte of the first that fails. -/
def Leaf.failedCheck (L : Leaf) (ev : Bool) (h : BitVec 2560) (sigOk csigOk payloadOk : Bool) : Option Nat :=
  let U := L.upd
  let s := hfSettings h
  let fmt := hf h 6 2
  let dev := hf h 56 2
  let run := (pick U.slots U.active).setFmt
  let inForce := (U.current.map (·.fmt)).getD U.factory.fmt
  let floor := if s then U.floorS else U.floorP
  let most := if s then 33554432 else 100663296
  let checks : List (Bool × Nat) := [
    (hf h 0 4 == 0x57545653, 0),
    (s || (hf h 4 1 == 1 && dev == 0x4824), 4),
    ((!(hf h 5 1).testBit 1 || ev) && ((hf h 5 1).testBit 0 || U.ikey.isNone), 5),
    (if s then (fmt == 1 && dev == 0x2412) || (decide (2 ≤ fmt) && decide (fmt ≤ run)) else fmt == 1, 6),
    (hfOld h || decide (floor ≤ hf h 8 4), 8),
    (decide (hf h 16 8 ≤ most), 16),
    (dev == (if s && fmt == 1 then 0x2412 else 0x4824), 56),
    (s || decide (inForce ≤ hf h 58 2), 58),
    (s || (decide (hf h 60 1 ≤ L.tie.mirrorFmt) && decide (L.tie.mirrorFmt ≤ hf h 61 1)), 60),
    (sigOk, 128),
    (U.ikey.all fun k => hfKey h == k, 192),
    (U.ikey.isNone || csigOk, 256),
    (payloadOk, 24)]
  (checks.find? fun c => !c.1).map (·.2)

/-! ### Streams -/

/-- Streams show their state (R587). -/
def Leaf.showStream (L : Leaf) (st : Nat) : Leaf := L.put UPD_STRM_STATE st

/-- STREAM_OPEN accepted (R569, R570): the header taken, the slot it goes to marked invalid. -/
def Leaf.openStream (L : Leaf) (h : Hdr) (kind : Nat) (header : BitVec 2560) : Leaf :=
  let L := L.onUpd fun U => { U with stream := some { header := header, kind := kind, target := h.target } }
  let L := L.put UPD_STRM_STATE 1 |>.put UPD_STRM_KIND kind |>.put UPD_STRM_DETAIL 0x3FF |>.put UPD_STRM_BYTES 0
  let L := if kind = 1 then L.setSlot (1 - L.upd.active) {} else L
  L.complete h 0x0000

/-- STREAM_OPEN (R471, R569, R570). -/
def execStreamOpen (l : LeafId) (d : Desc) (header : BitVec 2560) (bufOk : Bool) (s : State) : Done :=
  onLeaf s l fun L => L.readDesc 9 0x90 d fun L h =>
    let kind := sl d.bytes 17 1
    let len := sl d.bytes 32 4
    if kind ≠ 1 ∧ kind ≠ 2 then L.complete h 0x0105 0 17
    else if kind = 2 ∧ h.target ≠ 0 then L.complete h 0x0105 0 1
    else if !bufferOk (sl d.bytes 24 8) len 4096 || len != 320 then L.complete h 0x0106 0 24
    else if L.upd.stream.isSome then L.complete h 0x0105 0 16
    else if kind = 1 ∧ s.updOpen = true then L.complete h 0x0201
    else if kind = 2 ∧ hfOld header = true ∧ L.upd.source.isSome then L.complete h 0x0201
    else
      let L : Leaf := { L with hre := { L.hre with readBytes := L.hre.readBytes + len } }
      if bufOk then L.openStream h kind header else L.complete h 0x0302

/-- STREAM_DATA (R471, R569, R570). -/
def execStreamData (l : LeafId) (d : Desc) (bufOk : Bool) (s : State) : Done :=
  onLeaf s l fun L => L.readDesc 9 0x91 d fun L h =>
    let len := sl d.bytes 32 4
    if !bufferOk (sl d.bytes 24 8) len 4096 then L.complete h 0x0106 0 24
    else match L.upd.stream with
      | none => L.complete h 0x0201
      | some st =>
        if st.closedAt.isSome then L.complete h 0x0201
        else if sl d.bytes 36 8 ≠ L.get UPD_STRM_BYTES then L.complete h 0x0105 0 36
        else
          let L : Leaf := { L with hre := { L.hre with readBytes := L.hre.readBytes + len } }
          if bufOk then (L.put UPD_STRM_BYTES (L.get UPD_STRM_BYTES + len)).complete h 0x0000 else L.complete h 0x0302

/-- STREAM_CLOSE (R571): verification starts. -/
def execStreamClose (l : LeafId) (d : Desc) (s : State) : Done :=
  onLeaf s l fun L => L.readDesc 9 0x92 d fun L h =>
    match L.upd.stream with
    | none => L.complete h 0x0201
    | some st =>
      if st.closedAt.isSome then L.complete h 0x0201
      else ((L.onUpd fun U => { U with stream := some { st with closedAt := some L.count } }).showStream 2).complete h 0x0000

/-- STREAM_ABORT (R569). -/
def execStreamAbort (l : LeafId) (d : Desc) (s : State) : Done :=
  onLeaf s l fun L => L.readDesc 9 0x93 d fun L h =>
    if L.upd.stream.isNone then L.complete h 0x0201
    else ((L.onUpd fun U => { U with stream := none }).showStream 0).complete h 0x0000

/-- The event of a verification (R571, R649). -/
def Leaf.verifyEvent (L : Leaf) (kind detail : Nat) (bad : Bool) : Leaf :=
  L.event 0x0300 (kind + (bit bad <<< 8) + (detail <<< 16))

/-- The number of the next generation loaded: one above the last (R579). -/
def Upd.nextGen (U : Upd) : Nat :=
  [U.current, U.previous, U.staged].foldl (fun a g => max a ((g.map (·.gen)).getD 0)) U.genTop + 1

/-- A generation brought to the format the running image reads (R583, R584): the original of a TA-2412 is kept. -/
def Leaf.stage (L : Leaf) (h : BitVec 2560) (content : Settings) : Leaf :=
  let fmt := (pick L.upd.slots L.upd.active).setFmt
  let n := L.upd.nextGen
  let g : Settings := { content with gen := n, secver := hf h 8 4, fmt := fmt }
  (L.onUpd fun U => { U with
    staged := some g, atBoot := false, genTop := n
    import_ := if hfOld h then some { content with secver := hf h 8 4, fmt := 1 } else U.import_ }).showUpd

/-- VERIFY_COMPLETE (R566, R571): the outcome of the signature checks and of the payload digest, and what a settings
payload holds, as the leaf found them. -/
def execVerifyComplete (l : LeafId) (sigOk csigOk payloadOk : Bool) (content : Settings) (s : State) : Done :=
  let L := s.leaf l
  match L.upd.stream with
  | none => .next s
  | some st =>
    guarded s st.closedAt.isSome <| s.setLeaf l <|
      let L := L.onUpd fun U => { U with stream := none }
      match L.failedCheck s.variantEv st.header sigOk csigOk payloadOk with
      | some detail =>
        (((L.showStream 4).put UPD_STRM_DETAIL detail).raise (updFlag 0)).verifyEvent st.kind detail true
      | none =>
        let h := st.header
        let L := ((L.showStream 3).put UPD_STRM_DETAIL 0x3FF).bump UPD_CNT_STREAMS
        let L := if hfSettings h then L.stage h content
          else L.setSlot (1 - L.upd.active)
            { valid := true, secver := hf h 8 4, featver := hf h 12 4, setFmt := hf h 58 2, mirMin := hf h 60 1
              mirMax := hf h 61 1, digest := hf h 24 32 }
        L.verifyEvent st.kind 0x3FF false

/-! ### Slots at boot and restart -/

/-- A slot can be started from: its image verified, at or above the floor (R566, R576). -/
def Upd.bootable (U : Upd) (i : Nat) (verified : Bool) : Bool :=
  verified && (pick U.slots i).valid && decide (U.floorP ≤ (pick U.slots i).secver)

/-- The plinth chooses a slot (R567): ACTIVE, else the other with SLOT_ERR; neither is a failure. -/
def Leaf.bootSlot (L : Leaf) (okA okB : Bool) : Leaf × Bool :=
  let ok := fun (i : Nat) => L.upd.bootable i (if i = 0 then okA else okB)
  if ok L.upd.active then (L, true)
  else if ok (1 - L.upd.active) then
    (((L.onUpd fun U => { U with active := 1 - U.active }).raise (updFlag 5)).showUpd, true)
  else (L, false)

/-- The settings restored at a revert, automatic or not: SOURCE is CURRENT again (R568, R583). -/
def Leaf.restoreSource (L : Leaf) : Leaf :=
  (L.onUpd fun U => { U with current := U.source.or U.current, source := none }).showUpd

/-- Migration at the first start of an image that reads a higher format (R583). -/
def Leaf.migrate (L : Leaf) : Leaf :=
  let fmt := (pick L.upd.slots L.upd.active).setFmt
  match L.upd.current with
  | none => L
  | some g =>
    if g.fmt < fmt then
      (L.onUpd fun U => { U with source := U.source.or (some g), current := some { g with fmt := fmt } }).showUpd
    else L

/-! ### Commands committed on IR1 -/

/-- A leaf restarts on its other slot from the next course, without a SILENT unit (R572). -/
def Leaf.switchSlot (L : Leaf) (trial : Bool) : Leaf :=
  let L := (L.onUpd fun U => { U with active := 1 - U.active, trial := trial, newStart := true }).showUpd
  ((L.abortTests (fun _ => true) 4).planRole (L.count + 1) .restart causeImage)

/-- The leaf that is to restart made FOLLOW first, where it is LEAD and can swap. -/
def State.yieldLead (s : State) (l : LeafId) : State :=
  match s.leadId, s.followId with
  | some a, some b => if a = l then s.swapRoles a b else s
  | _, _ => s

/-- ACTIVATE (R572, R573): at its effective course. -/
def execActivate (s : State) : Done :=
  match s.takeModule UPD_CMD.base 63 [62, 61, 60] with
  | (none, _) => .next s
  | (some w, t) =>
    let l := if w.getLsbD 59 then LeafId.leaf1 else .leaf0
    .next ((t.yieldLead l).on l fun L => L.switchSlot true)

/-- The UPDATE record of the LEAD leaf: versions of both leaves (R538, R541). -/
def State.recordVersions (s : State) (confirm : Bool) : State :=
  let a := s.leaf0.running
  let b := s.leaf1.running
  match s.leadId with
  | some l => s.on l fun L => L.recordUpdate a.secver a.featver b.secver b.featver confirm
  | none => s

/-- CONFIRM (R576). -/
def execConfirm (s : State) : Done :=
  match s.takeModule UPD_CMD.base 62 [63, 61, 60] with
  | (none, _) => .next s
  | (some _, t) =>
    let t := t.recordVersions true
    .next <| t.both fun L => (L.onUpd fun U => { U with
      floorP := if U.trial then max U.floorP (pick U.slots U.active).secver else U.floorP
      floorS := if U.genUnconf then max U.floorS ((U.current.map (·.secver)).getD 0) else U.floorS
      trial := false, genUnconf := false, source := none, import_ := none }).showUpd

/-- Both leaves take a generation as CURRENT at this course (R582): a block list that differs is a change of the plan. -/
def Leaf.applyGeneration (L : Leaf) (g : Settings) : Leaf :=
  let differs := decide (g.blocks ≠ L.ash.blocks)
  let L := ((L.loadPresets g).loadTables g).loadBms g
  let L := if L.on MBX_TBL_LOCKED then L else L.loadBinds g.binds
  if differs then
    L.put CRS_PLAN_PLAN_GEN ((L.get CRS_PLAN_PLAN_GEN + 1) % 2 ^ 16) |>.put CRS_PLAN_PLAN_COURSE L.count.toNat
  else L

/-- The generation in force announced to the partner (R432). -/
def Leaf.sendSettings (L : Leaf) : Leaf := L.sendUnit 0x15 [L.inForce.gen, L.inForce.digest] true

/-- The next leaf of a revert restarts on its former slot (R577): the FOLLOW leaf first, the LEAD leaf after a swap. -/
def State.revertLeaf (s : State) (l : LeafId) : State :=
  (s.yieldLead l).on l fun L =>
    let L := (L.onUpd fun U => { U with reverting := false }).bump UPD_CNT_REVERTS
    L.restoreSource.switchSlot false

/-- REVERT (R577): of an image, one leaf at a time; of a generation, in both leaves at once. -/
def execRevert (s : State) : Done :=
  match s.takeModule UPD_CMD.base 61 [63, 62, 60] with
  | (none, _) => .next s
  | (some _, t) =>
    let t := t.both fun L =>
      match L.upd.genUnconf, L.upd.previous with
      | true, some g =>
        ((L.onUpd fun U => { U with
          current := some g, previous := none, genUnconf := false, import_ := none }).applyGeneration g).showUpd.bump UPD_CNT_REVERTS
      | _, _ => L
    let t := t.both fun L => if L.upd.trial then L.onUpd fun U => { U with reverting := true } else L
    .next <| match t.followId with
      | some f => if (t.leaf f).upd.trial then t.revertLeaf f else t
      | none => t

/-- A revert goes on with the other leaf once the first is FOLLOW again and the swap conditions hold (R572, R577). -/
def State.continueRevert (s : State) (l : LeafId) : State :=
  let L := s.leaf l
  if L.upd.reverting && L.crs.roleAt.isNone && (L.role == .follow || (L.role == .lead && s.swapOk)) then s.revertLeaf l
  else s

/-- SET_APPLY (R582): STAGED is CURRENT, the former CURRENT PREVIOUS. -/
def execSetApply (s : State) : Done :=
  match s.takeModule UPD_CMD.base 60 [63, 62, 61] with
  | (none, _) => .next s
  | (some _, t) =>
    let t := t.both fun L =>
      match L.upd.staged with
      | none => L
      | some g =>
        ((L.onUpd fun U => { U with
          current := some g, previous := U.current, staged := none, atBoot := false, genUnconf := true }).applyGeneration g).showUpd
    .next <| match t.leadId with
      | some l => t.on l Leaf.sendSettings
      | none => t

/-- What UPD_SLOT, UPD_MIX show of both leaves (R575, R587). -/
def Leaf.sealUpd (L : Leaf) (mixed open_ : Bool) : Leaf :=
  let L := L.put UPD_SLOT_MIXED (bit mixed) |>.put UPD_SLOT_PENDING (bit open_)
  if !mixed then
    if L.upd.mixedAt.isNone then L
    else (L.onUpd fun U => { U with mixedAt := none, mixEventAt := none }).setWord UPD_MIX 0 0
  else
    let from_ := L.upd.mixedAt.getD L.count
    (L.onUpd fun U => { U with mixedAt := some from_ }).put UPD_MIX_SECONDS (min 65535 (since L.count from_ / 160000))
      |>.put UPD_MIX_SINCE from_.toNat

/-- MIX_LONG (R575): the mixed interval exceeds MIX_WARN seconds; the event again every 160,000 courses. -/
def execMixLong (l : LeafId) (s : State) : Done :=
  let L := s.leaf l
  let long := L.upd.mixedAt.any fun c => decide (160000 * L.get UPD_CTRL_MIX_WARN < since L.count c)
  let due := L.upd.mixEventAt.all fun c => decide (160000 ≤ since L.count c)
  guarded s (long && due) <| s.setLeaf l <|
    let again := bit L.upd.mixEventAt.isSome
    ((L.put (updFlag 4) 1).bitEvent (updFlag 4) 0 again).onUpd fun U => { U with mixEventAt := some L.count }

/-- ENROL (R564, R610): the digest of the integrator key, in WORKSHOP under the ENROL right. -/
def execEnrol (keyDigest : BitVec 256) (who : Ident) (s : State) : Done :=
  guarded s (s.mode == .workshop && s.sec.who != 0 && s.sec.who == who.val && s.sec.rights.getLsbD 3) <|
    s.both fun L => ((L.onUpd fun U => { U with ikey := some keyDigest }).put SEC_STAT_IKEY 1).raise (SEC_FLT_FLAGS.bit 2)

end Sys2Proof.Machine
end

