-- ==== Sys2Proof/Machine/Restart.lean ====
section
/-! DEFINITION. Restart and alignment of a leaf (R423, R445, R446, R567, R568). -/

namespace Sys2Proof.Machine

open Sys2Proof

/-- The addresses a leaf's switch carries (R520, R531): those written at production (R613), else the part's own. -/
def Leaf.setMacs (L : Leaf) : Leaf :=
  let L := if L.on NET_MACH_MAC then L else L.put NET_MACH_MAC (Config.macHost L.id.num).toNat
  if L.on NET_MACA_MAC then L else L.put NET_MACA_MAC (Config.macAgent L.id.num).toNat

/-- The outcome of a start's tests: engines retired, converters calibrated or retired, comparators masked (R83, R147,
R157). -/
def Leaf.applyStart (L : Leaf) (engines : List (Fin 24)) (cal : List CalRes) (ft : List (Fin 36)) : Leaf :=
  let L := engines.foldl (fun L e => L.put (engState e) 3) L
  let L := cal.foldl (fun L r => (L.calJudge r).1) L
  ft.foldl (fun L (p : Fin 36) =>
    ({ L with sns := { L.sns with comps := alter L.sns.comps p.val fun C => { C with masked := true } } } : Leaf).raise
      SNS_FLT_FT_FAIL) L

/-- A leaf at the end of its start: engines mapped, converters calibrated, sensors returned, settings of the generation in
force loaded (R83, R146, R407, R578). -/
def Leaf.startUp (L : Leaf) : Leaf :=
  let g := L.inForce
  let L := ((L.loadPresets g).loadTables g).loadBms g
  let L := (L.bootEngines.healSensors.setMacs.loadDrum).setFtLink
  let L : Leaf := { L.beginWindows with sns := { L.beginWindows.sns with stepEnd := L.count } }
  (L.put SNS_STAT_CAL_DONE 1 |>.put CRS_STAT_COUNT_VALID 1 |>.put CRS_STAT_TB_LOCK 1 |>.put CRS_STAT_COMP_ACTIVE 1).showUpd

/-- Tests that run, or wait, in the leaf that carries: a leaf that joins continues each from the running count (R112). -/
def Leaf.takeTests (L P : Leaf) : Leaf :=
  [0, 1, 2, 3].foldl (fun L k =>
    let st := P.get (tsState k)
    if 1 ≤ st ∧ st ≤ 5 then
      let L := { L with cmp := { L.cmp with tests := L.cmp.tests.setIfInBounds k (pick P.cmp.tests k) } }
      L.put (tsState k) st |>.put (tsAbort k) (P.get (tsAbort k)) |>.put (tsPoint k) (P.get (tsPoint k))
    else L) L

/-- A leaf enters ALIGN (R446): it takes the plan and the settings of the leaf that carries, and computes. -/
def State.enterAlign (s : State) (l : LeafId) : State :=
  let P := s.leaf l.other
  let s := s.on l fun L =>
    let L := ({ L with count := P.count } : Leaf)
    let L := ((L.takeSettings P).takeTests P).beginWindows.setRole .align
    { L with tie := { L.tie with
      alignAt := L.count, wantSet := none, probeAt := none, settingsDone := false, ledgerDone := false, doneAt := none, residualOk := 0, seriesFail := 0
      setData := [], within := 0, beyond := 0, keyedSeen := false, thermalSeen := false, partnerLanes := false } }
  let s := s.on l fun L => L.put THM_STAT_SEEDED 0 |>.put THM_STAT_MIRRORED 0
  s.tellPartner l 3

/-- A restart, or an alignment, has failed (R423, R568): repeated once on the same slot; a second failure of a trial start
reverts to the other slot and restarts once more; any further failure puts the leaf in OUT. -/
def State.failRestart (s : State) (l : LeafId) : State :=
  let L := s.leaf l
  match L.tie.restartTry with
  | 0 => s.enterRestart l 1
  | 1 =>
    if L.upd.trial then
      let s := s.on l fun L => ((L.onUpd fun U => { U with
        active := 1 - U.active, trial := false, newStart := false }).restoreSource)
      (s.enterRestart l 2).on l fun L => (L.raise (updFlag 1)).bump UPD_CNT_REVERTS
    else (s.enterOut l).on l fun L => L.raise TIE_FLT_RESTART_FAIL
  | _ => (s.enterOut l).on l fun L => L.raise TIE_FLT_RESTART_FAIL

/-- The settings of the image a restart starts for the first time are brought to a higher format (R583). -/
def Leaf.mustMigrate (L : Leaf) : Bool :=
  L.upd.newStart && L.upd.current.any fun g => decide (g.fmt < (pick L.upd.slots L.upd.active).setFmt)

/-- A leaf is to become LEAD at a boundary it has named. -/
def Leaf.toLead (L : Leaf) : Bool := L.crs.roleAt.any fun p => p.2 == .lead

/-- A leaf in ALIGN that finds no other leaf in LEAD or FOLLOW becomes LEAD at the next boundary (R423). -/
def State.alignAlone (s : State) (l : LeafId) : State :=
  let L := s.leaf l
  let P := s.leaf l.other
  let free := L.crs.roleAt.all fun p => p.2 == .follow
  if L.role == .align && free && !P.carrying && !P.toLead then s.on l fun L => L.planRole (L.count + 1) .lead 0
  else s

/-- RESTART_COMPLETE (R423, R445, R567, R583): the steps have run, within 2.0 s, with what they found. -/
def execRestartComplete (l : LeafId) (r : StartRes) (s : State) : Done :=
  let L := s.leaf l
  guarded s (L.role == .restart && L.bst.fullAt.isNone && !L.bst.halted && decide (since L.count L.tie.restartAt ≤ 320000)) <|
    let (L, ok) := L.bootSlot r.imageA r.imageB
    if !ok then (s.setLeaf l L).enterOut l
    else if L.mustMigrate && !r.migrateOk then (s.setLeaf l (L.raise (updFlag 2))).failRestart l
    else
      let new := L.upd.newStart
      let L := ((if new then L.migrate else L).applyStart r.enginesBad r.cal r.ftBad).startUp
      let s := s.setLeaf l L
      if (s.leaf l.other).carrying || (s.leaf l.other).toLead then
        let s := s.enterAlign l
        if new then s.recordVersions false else s
      else s.on l fun L => (L.seedSwitches).planRole (L.count + 1) .lead 0

/-- RESTART_TIMEOUT (R423, R568): a step fails, or 320,000 courses pass. -/
def execRestartTimeout (l : LeafId) (stepFailed : Bool) (s : State) : Done :=
  let L := s.leaf l
  guarded s (L.role == .restart && !L.bst.halted && L.bst.fullAt.isNone &&
    (stepFailed || decide (320000 ≤ since L.count L.tie.restartAt))) (s.failRestart l)

/-- The partner's sets in RUN whose machine this leaf has not yet found an index of, after its unit was reset (R197). -/
def State.indexOwed (s : State) (l : LeafId) : Bool :=
  let P := s.leaf l.other
  [0, 1].any fun m =>
    (pick (s.leaf l).pos m).wasReset && (P.get TRC_SETSTAT_STATE (2 * m) == 2 || P.get TRC_SETSTAT_STATE (2 * m + 1) == 2)

/-- ALIGN_EXIT (R446): the exit conditions hold and the LEAD leaf names the course. -/
def execAlignExit (l : LeafId) (s : State) : Done :=
  let L := s.leaf l
  match s.leadId with
  | none => .next s
  | some m =>
    let lead := s.leaf m
    guarded s (m != l && L.role == .align && L.crs.roleAt.isNone && decide (1600 ≤ L.tie.within) && L.tie.settingsDone &&
        L.tie.ledgerDone && decide (2 ≤ L.tie.residualOk) && !s.indexOwed l) <|
      s.on l fun L => L.planRole (after lead.count (lead.get CRS_CTRL_COMMIT_LEAD)) .follow L.tie.cause

/-- ALIGN_TIMEOUT (R423, R446): 32,000 courses after the transfers, or 40,000 courses of transfers. -/
def execAlignTimeout (l : LeafId) (s : State) : Done :=
  let L := s.leaf l
  let late := match L.tie.doneAt with
    | some c => decide (32000 ≤ since L.count c)
    | none => decide (40000 ≤ since L.count L.tie.alignAt)
  guarded s (L.role == .align && L.crs.roleAt.isNone && late) (s.failRestart l)

end Sys2Proof.Machine
end

