-- ==== Sys2Proof/Machine/Tie.lean ====
section
/-! DEFINITION. The tie link (R430 to R446, R574, R581, R595): its lanes, the units a leaf takes and sends, the mirror of
the keyed state and of the switch models, alignment, divergence, health records. -/

namespace Sys2Proof.Machine

open Sys2Proof

/-- The tie link of a leaf altered. -/
def Leaf.onTie (L : Leaf) (f : Tie → Tie) : Leaf := { L with tie := f L.tie }

/-- FOLLOW or ALIGN: a leaf that takes the LEAD leaf's marks and mirrors. -/
def Leaf.taking (L : Leaf) : Bool := L.role == .follow || L.role == .align

/-! ### Lanes -/

/-- TIE_STAT.LANES (R453). -/
def Leaf.showLanes (L : Leaf) : Leaf :=
  L.put ⟨TIE_STAT, 57, 54⟩ (bit (L.laneOk 0) + 2 * bit (L.laneOk 1) + 12 * bit L.tie.partnerLanes)

/-- Both receive lanes gone while the partner carried (R435): a FOLLOW leaf is isolated until the evidence is read, a
LEAD leaf waits to report its partner; units that wait for an acknowledgement are dropped. -/
def Leaf.tieGone (L : Leaf) : Leaf :=
  if L.tieOk then L
  else
    let L := L.onTie fun T => { T with unacked := [], slow := [], partnerLanes := false }
    if L.carrying && L.crs.roleAt.isNone && L.tie.isolatedAt.isNone && [0, 1, 3].contains (L.get TIE_STAT_PARTNER) then
      let L := L.onTie fun T => { T with isolatedAt := some L.count }
      if L.role == .follow then L.put TIE_STAT_ISOLATED 1 else L
    else L

/-- A receive lane marked lost (R430). -/
def Leaf.laneDown (L : Leaf) (k : Nat) : Leaf :=
  let L := L.onTie fun T => { T with lanes := alter T.lanes k fun n => { n with up := false, good := 0, missing := 0 } }
  let L := if L.computing then L.stick ⟨TIE_FLT, k, k⟩ else L
  L.tieGone.showLanes

/-- LANE_LOST (R430, R435): no signal for 1 µs, or two courses without a MARK. -/
def execLaneLost (l : LeafId) (lane : Fin 2) (noSignalNs : Nat) (s : State) : Done :=
  let n := pick (s.leaf l).tie.lanes lane
  guarded s (n.up && (decide (1000 ≤ noSignalNs) || decide (2 ≤ n.missing))) (s.on l fun L => L.laneDown lane)

/-- LANE_UP (R430, R449): 16 consecutive courses with valid MARKs; the loss of one lane was transient. -/
def execLaneUp (l : LeafId) (lane : Fin 2) (s : State) : Done :=
  let L := s.leaf l
  let n := pick L.tie.lanes lane
  guarded s (!n.up && decide (16 ≤ n.good)) <| s.setLeaf l <|
    let L := L.onTie fun T => { T with lanes := alter T.lanes lane fun n => { n with up := true, missing := 0 } }
    let L := if L.on ⟨TIE_FLT, lane.val, lane.val⟩ then L.bump ⟨TIE_CNT, 31, 16⟩ else L
    L.showLanes

/-- LOST (R433): from its course on the leaf acts as if its own lanes were lost. -/
def execLost (l : LeafId) (rx : Rx) (s : State) : Done :=
  let L := s.leaf l
  guarded s ((pick L.tie.lanes rx.lane).up && rx.crcOk) <| s.setLeaf l <|
    let L := L.onTie fun T => { T with
      lostActing := true, lostNow := true, lostRun := 0
      rxSeq := if T.rxSeq.any fun q => !isAfter q.toNat rx.seq.toNat 32 then T.rxSeq else some rx.seq }
    L.tieGone.showLanes

/-- The lanes at a seal (R430, R433): a course with or without a MARK counted, and the end of acting on LOST units. -/
def Leaf.sealLanes (L : Leaf) : Leaf :=
  let marked := (pick L.tie.lanes 0).marked || (pick L.tie.lanes 1).marked
  let L := L.onTie fun T =>
    let run := if T.lostActing && marked && !T.lostNow then T.lostRun + 1 else 0
    { T with
      lanes := T.lanes.map fun n => { n with
        good := if n.marked then n.good + 1 else 0
        missing := if n.marked then 0 else n.missing + 1
        marked := false }
      lostRun := run, lostNow := false, lostActing := T.lostActing && decide (run < 16) }
  L.showLanes

/-- A LEAD leaf that lost both lanes in course k reports its partner as OUT from course k + 3 (R435, R449). -/
def Leaf.sealGone (L : Leaf) : Leaf :=
  match L.tie.isolatedAt with
  | some k =>
    if L.role == .lead && decide (3 ≤ since L.count k) then
      (((L.onTie fun T => { T with isolatedAt := none }).put TIE_STAT_PARTNER 4).raise TIE_FLT_PARTNER_OUT).stick
        TIE_FLT_TIE_LOST
    else L
  | none => L

/-- ISOLATION_EVIDENCE (R435): at the seal of k + 3, the STATUS frames that describe course k + 1 of every channel in
RUN. -/
def execIsolationEvidence (l : LeafId) (s : State) : Done :=
  let L := s.leaf l
  match L.tie.isolatedAt with
  | none => .next s
  | some k =>
    let tag := (tagOf (k + 1)).toNat
    let alone := (List.range 48).all fun i =>
      let b := (pick L.gst i).body
      stb b 157 142 != tag || stb b 141 138 != 3 || stb b 137 136 == 1 + l.num
    guarded s (L.role == .follow && decide (3 ≤ since L.count k)) <|
      let s := s.setLeaf l (((L.onTie fun T => { T with isolatedAt := none, cause := 0 }).put TIE_STAT_ISOLATED 0).stick
        TIE_FLT_TIE_LOST)
      if alone then s.takeOver l |>.on l fun L => L.put TIE_STAT_PARTNER 4 else s.enterOut l

/-! ### MARK, PROBE, ECHO -/

/-- The MARK of a course (R431). -/
def Leaf.sendMark (L : Leaf) : Leaf :=
  if L.computing && !L.cut then
    let enc := fun (p : Nat) => (pick L.pos p).lines != 0 || (pick L.pos p).supplyBad
    let st := L.role.code + 8 * bit (L.role == .lead) + 16 * bit (L.laneOk 0 && L.laneOk 1) + 32 * bit (enc 0) +
      64 * bit (enc 1)
    { L with out := L.out ++ [.mark st (BitVec.ofNat 32 L.count.toNat)] }
  else L

/-- The offset of this leaf's boundary, as the LEAD leaf's MARK shows it (R434); `trim` is what the PLL takes. -/
def Leaf.takeOffset (L : Leaf) (m : MarkRx) (trim : Nat) : Leaf :=
  let mag := m.offsetPs.natAbs
  let ok := decide (mag ≤ 25000)
  let L := L.put CRS_ALIGN_OFS (satSigned 16 m.offsetPs) |>.keepMax ⟨CRS_ALIGN, 47, 32⟩ mag
    |>.put ⟨CRS_ALIGN, 31, 16⟩ (trim % 2 ^ 16) |>.put CRS_STAT_ALIGNED (bit ok)
  let L := if ok && L.tie.beyond == 1 then L.bump ⟨TIE_CNT, 31, 16⟩ else L
  let L := L.onTie fun T => { T with
    hOfs := max T.hOfs mag
    beyond := if ok then 0 else T.beyond + 1
    within := if ok then T.within + 1 else 0 }
  if L.role == .follow && (decide (2 ≤ L.tie.beyond) || m.count != BitVec.ofNat 32 L.count.toNat) then L.goSilent 5 3712
  else L

/-- HEAD (R432, R547). -/
def Leaf.sendHead (L : Leaf) : Leaf := L.sendUnit 0x1A [L.get LDG_HEAD_RECNO, L.ldg.lastDigest.toNat, L.get LDG_HEAD_RECNO, 1]

/-- The LEAD leaf at its partner's ALIGN entry: the mirror format both images speak, its settings and its ledger head
(R432, R446, R574). -/
def Leaf.greet (L P : Leaf) : Leaf :=
  let fmt := min L.running.mirMax P.running.mirMax
  let at_ := after L.count (L.get CRS_CTRL_COMMIT_LEAD)
  let L := L.onTie fun T => { T with mirNext := some (fmt, at_) }
  ((L.sendUnit 0x1D [fmt, at_.toNat] true).sendSettings).sendHead

/-- Findings of this leaf's position units held against the partner's MARKs of the same two courses (R176). -/
def Leaf.checkFindings (L : Leaf) (partnerOk : Bool) : Leaf :=
  [0, 1].foldl (fun L p =>
    let stands := (pick L.pos p).finding.any fun f => f.2 == L.count
    let healthy := !pick L.tie.partnerEnc p && !pick L.tie.partnerEncPrev p
    if stands && L.crs.roleAt.isNone && partnerOk && healthy then L.judgeFinding p true else L) L

/-- MARK (R430 to R434): of each course the first valid copy is taken; the LEAD leaf's gives the offset. -/
def execMark (l : LeafId) (m : MarkRx) (s : State) : Done :=
  let L := s.leaf l
  let P := s.leaf l.other
  let first := !((pick L.tie.lanes 0).marked || (pick L.tie.lanes 1).marked)
  let L := L.onTie fun T => { T with lanes := alter T.lanes m.lane fun n => { n with marked := true } }
  if !m.crcOk then .next s
  else if !first then .next (s.setLeaf l L)
  else
    let b := fun k => m.state.getLsbD k
    let opened := b 4 && !L.tie.partnerLanes
    let L := (L.put TIE_STAT_PARTNER (m.state.toNat % 8)).onTie fun T => { T with
      partnerLanes := b 4, partnerEncPrev := T.partnerEnc, partnerEnc := #v[b 5, b 6] }
    let L : Leaf := { L.showLanes with tick := max L.tick 3712 }
    let L := L.checkFindings (P.role == .lead || (P.role == .follow && P.on CRS_STAT_ALIGNED))
    let L := if !opened then L
      else if L.role == .lead && m.state.toNat % 8 == 3 then L.greet P
      else if L.role == .align then L.sendHead else L
    if L.taking && b 3 then
      let (v, s) := s.take
      .next (s.setLeaf l (L.takeOffset m v))
    else .next (s.setLeaf l L)

/-- PROBE (R434): at ALIGN entry and then every 160,000 courses; the partner answers with ECHO. -/
def execProbe (l : LeafId) (s : State) : Done :=
  let L := s.leaf l
  let due := match L.tie.probeAt with
    | none => true
    | some c => decide (160000 ≤ since L.count c)
  guarded s (L.taking && !L.cut && due && (L.role == .follow || L.tie.partnerLanes)) <|
    let s := s.setLeaf l ((L.sendUnit 0x04 [L.fine.toNat]).onTie fun T => { T with probeAt := some L.count })
    s.on l.other fun P => if P.computing && P.tieOk then P.sendUnit 0x05 [L.fine.toNat] else P

/-- ECHO (R434): half the round trip is the latency; above 4 ns of difference the slower lane is lost. -/
def execEcho (l : LeafId) (rx : Rx) (roundPs : Nat) (s : State) : Done :=
  let L := s.leaf l
  guarded s (L.taking && L.laneOk rx.lane && rx.crcOk && L.tie.probeAt.isSome) <| s.setLeaf l <|
    let L := L.onTie fun T => { T with lanes := alter T.lanes rx.lane fun n => { n with round := roundPs } }
    let lat := min (roundPs / 20) 0xFFFF
    let L := if rx.lane = 0 then L.put ⟨TIE_LAT, 63, 48⟩ lat else L.put ⟨TIE_LAT, 47, 32⟩ lat
    let a := (pick L.tie.lanes 0).round
    let b := (pick L.tie.lanes 1).round
    if a = 0 || b = 0 then L
    else if b + 4000 < a then L.laneDown 0 else if a + 4000 < b then L.laneDown 1 else L

/-! ### The mirror -/

/-- Histories of an instance in the order of R436. -/
def Comp.hist (c : Comp) : List Int := [c.x1, c.x2, c.x3, c.y1, c.y2, c.y3, c.w1, c.w2]

/-- Instances of a keyed block: id and iq of a set; link voltage and the four legs (R436). -/
def keyedInsts (b : Nat) : Nat := if b = 4 then 5 else 2

/-- The committed state of a keyed block as a KEYED unit carries it (R436). The stage state of the link guard holds its
converter state and, above it, its contactor state. -/
def Leaf.keyedRec (L : Leaf) (b : Nat) : KeyedRec :=
  let insts := (List.range (keyedInsts b)).map fun i => L.inst b i
  let T := pick L.trc.sets b
  { stage := if b = 4 then L.conv + 16 * L.con else L.get TRC_SETSTAT_STATE b
    forms := insts.map fun c => (c.active, c.form == .cascade)
    aux0 := if b = 4 then Config.rnd (L.lnk.vset * 10) else T.dId
    aux1 := if b = 4 then Config.rnd (L.lnk.rs * (2 ^ 31 : Nat)) else Config.rnd (T.vMag / Config.loopVolts b * (2 ^ 31 : Nat))
    hist := insts.map Comp.hist }

/-- An instance taken to the LEAD leaf's state (R436): histories moved by the difference, or replaced; bank and form
replaced. -/
def Comp.mirror (c : Comp) (form : Nat × Bool) (lead own : List Int) (whole : Bool) : Comp :=
  let v := fun (k : Nat) (now : Int) => if whole then lead.getD k 0 else satQ (now + (lead.getD k 0 - own.getD k 0))
  let plain := match pick c.bank form.1 with
    | some t => if startForm t == .shadow then Form.shadow else .direct
    | none => .direct
  { c with
    active := form.1, form := if form.2 then .cascade else plain
    x1 := v 0 c.x1, x2 := v 1 c.x2, x3 := v 2 c.x3, y1 := v 3 c.y1, y2 := v 4 c.y2, y3 := v 5 c.y3
    w1 := v 6 c.w1, w2 := v 7 c.w2 }

/-- The fields of a block beyond its instances (R436). -/
def Leaf.mirrorAux (L : Leaf) (b : Nat) (lead own : KeyedRec) (whole : Bool) : Leaf :=
  if b = 4 then L.onLnk fun K => { K with vset := (lead.aux0 : Rat) / 10, rs := (lead.aux1 : Rat) / (2 ^ 31 : Nat) }
  else { L with trc := { L.trc with sets := alter L.trc.sets b fun T => { T with
    dId := if whole then lead.aux0 else satQ (T.dId + (lead.aux0 - own.aux0))
    vMag := (lead.aux1 : Rat) / (2 ^ 31 : Nat) * Config.loopVolts b } } }

/-- The stage state of a block taken with the first unit of an alignment (R446). -/
def Leaf.mirrorStage (L : Leaf) (b : Nat) (lead : KeyedRec) : Leaf :=
  if b = 4 then L.put LNK_STAT_CONV (lead.stage % 16) |>.put LNK_STAT_CON (lead.stage / 16)
  else L.put TRC_SETSTAT_STATE lead.stage b

/-- A block's record applied: whole with the first unit of an alignment, or where the stage states differ (R436). -/
def Leaf.mirrorBlock (L : Leaf) (b : Nat) (lead own : KeyedRec) (first : Bool) : Leaf :=
  let whole := first || lead.stage != own.stage
  let L := (List.range (keyedInsts b)).foldl (fun L i =>
    L.setInst b i ((L.inst b i).mirror (lead.forms.getD i (0, false)) (lead.hist.getD i []) (own.hist.getD i []) whole)) L
  let L := L.mirrorAux b lead own whole
  if first then L.mirrorStage b lead else L

/-- The snapshots of a close, taken by both leaves (R436, R437). -/
def Leaf.takeSnaps (L : Leaf) : Leaf :=
  let L := if L.count.toNat % 16 = 0 then
      L.onTie fun T => { T with
        snap := (List.range 5).map L.keyedRec, snapAt := L.count - 1, keyedDue := L.taking, keyedRx := none }
    else L
  if L.count.toNat % 160 = 0 then
    let q := fun (v : Rat) => Config.rnd (v * (65536 : Nat))
    L.onTie fun T => { T with
      snapThermal := L.thm.switches.toList.map fun w => (q w.tj, q w.tc)
      thermalAt := L.count - 1, thermalDue := L.taking, thermalRx := none }
  else L

/-- The payload of a record of a KEYED unit. -/
def keyedWords (r : KeyedRec) : List Nat :=
  let u := unsigned 32
  r.stage :: r.forms.flatMap (fun f => [f.1, bit f.2]) ++ [u r.aux0, u r.aux1] ++ r.hist.flatMap (·.map u)

/-- Fallback of each switch as a THERMAL unit carries it (R437). -/
def Leaf.fallbacks (L : Leaf) : Nat :=
  (List.range 48).foldl (fun a i => a + bit (pick L.thm.fb (i / 4)) * 2 ^ i) 0

/-- The units that carry the LEAD leaf's snapshots (R432). -/
def Leaf.sendSnaps (L : Leaf) : Leaf :=
  if L.role != .lead then L
  else
    let L := if L.count.toNat % 16 = 0 then
        L.sendUnit 0x10 (L.tie.snapAt.toNat :: L.tie.snap.flatMap keyedWords) else L
    if L.count.toNat % 160 = 0 then
      L.sendUnit 0x11 (L.tie.thermalAt.toNat :: L.tie.snapThermal.flatMap (fun t => [unsigned 32 t.1, unsigned 32 t.2]) ++
        [L.fallbacks])
    else L

/-- KEYED (R436): a unit complete by fine tick 3,968 of course m + 1 is kept for the boundary. -/
def execKeyed (l : LeafId) (rx : Rx) (m : Course) (recs : List KeyedRec) (s : State) : Done :=
  match (s.leaf l).takeUnit rx with
  | none => .next s
  | some L =>
    .next (s.setLeaf l (if L.taking && m == L.tie.snapAt && L.count == m + 1 && decide (L.tick ≤ 3968) then
      L.onTie fun T => { T with keyedRx := some recs } else L))

/-- THERMAL (R437). -/
def execThermal (l : LeafId) (rx : Rx) (m : Course) (temps : List (Int × Int)) (fallback : BitVec 48) (s : State) : Done :=
  match (s.leaf l).takeUnit rx with
  | none => .next s
  | some L =>
    .next (s.setLeaf l (if L.taking && m == L.tie.thermalAt && L.count == m + 1 && decide (L.tick ≤ 3968) then
      L.onTie fun T => { T with thermalRx := some (temps, fallback) } else L))

/-- A mirror skipped (R436); in ALIGN none is counted before the first has come. -/
def Leaf.skipMirror (L : Leaf) (seen : Bool) (run : Nat) : Leaf :=
  if !seen then L
  else
    let L := (L.bump ⟨TIE_CNT, 15, 0⟩).onTie fun T => { T with hSkips := T.hSkips + 1 }
    if run + 1 = 2 then L.raise ⟨TIE_FLT, 3, 3⟩ else L

/-- Every |Δ| of y[n−1] of a unit lies within ALIGN_TOL (R446). -/
def Leaf.residualFits (L : Leaf) (recs : List KeyedRec) : Bool :=
  let tol := L.get ⟨TIE_CTRL, 25, 18⟩ * 2 ^ 19
  (List.range 5).all fun b => (List.range (keyedInsts b)).all fun i =>
    let y := fun (rs : List KeyedRec) => ((rs.getD b default).hist.getD i []).getD 3 0
    decide ((y recs - y L.tie.snap).natAbs ≤ tol)

/-- The KEYED unit of course m in force from course m + 2 (R436, R446). -/
def Leaf.applyKeyed (L : Leaf) : Leaf :=
  let T := L.tie
  if !(L.taking && T.keyedDue && L.count == T.snapAt + 2) then L
  else
    let L := L.onTie fun T => { T with keyedDue := false, keyedRx := none }
    match T.keyedRx with
    | none => (L.skipMirror T.keyedSeen T.skips).onTie fun U => { U with
        skips := if T.keyedSeen then T.skips + 1 else 0, residualOk := 0 }
    | some recs =>
      let first := !T.keyedSeen
      let ok := !first && L.residualFits recs
      let L := (List.range 5).foldl (fun L b =>
        L.mirrorBlock b (recs.getD b default) (T.snap.getD b default) first) L
      L.onTie fun U => { U with keyedSeen := true, skips := 0, residualOk := if ok then U.residualOk + 1 else 0 }

/-- The THERMAL unit of course m in force from course m + 2 (R416, R437, R446). -/
def Leaf.applyThermal (L : Leaf) : Leaf :=
  let T := L.tie
  if !(L.taking && T.thermalDue && L.count == T.thermalAt + 2) then L
  else
    let L := L.onTie fun T => { T with thermalDue := false, thermalRx := none }
    match T.thermalRx with
    | none => (L.skipMirror T.thermalSeen T.skipsThermal).onTie fun U => { U with
        skipsThermal := if T.thermalSeen then T.skipsThermal + 1 else 0 }
    | some (temps, fb) =>
      let L := (List.range 48).foldl (fun L i =>
        let t := temps.getD i (0, 0)
        let o := T.snapThermal.getD i (0, 0)
        let whole := !T.thermalSeen || fb.getLsbD i || pick L.thm.fb (i / 4)
        let v := fun (now : Rat) (a b : Int) =>
          let r : Rat := if whole then (a : Rat) / 65536 else now + ((a - b : Int) : Rat) / 65536
          clampRat (-32768) 32767 r
        { L with thm := { L.thm with
          switches := alter L.thm.switches i fun w => { w with tj := v w.tj t.1 o.1, tc := v w.tc t.2 o.2 } } }) L
      ((L.put THM_STAT_MIRRORED 1).put THM_STAT_SEEDED 1).onTie fun U => { U with thermalSeen := true, skipsThermal := 0 }

/-! ### Control units -/

/-- The change that a CHANGE unit mirrored, acknowledged (R51). -/
def Leaf.ackChange (L : Leaf) (u : Unacked) : Leaf :=
  if u.typ = 0x12 then
    L.onChanges fun cs => cs.map fun c =>
      if c.hdr.ring = u.payload.getD 0 0 ∧ c.hdr.dseq.toNat = u.payload.getD 1 0 then { c with acked := true } else c
  else L

/-- ACK (R432). -/
def execAck (l : LeafId) (rx : Rx) (typ : Nat) (seq : BitVec 32) (s : State) : Done :=
  match (s.leaf l).takeUnit rx with
  | none => .next s
  | some L =>
    let is := fun (u : Unacked) => u.typ == typ && u.seq == seq
    let L := match L.tie.unacked.find? is with
      | some u => L.ackChange u
      | none => L
    .next (s.setLeaf l (L.onTie fun T => { T with unacked := T.unacked.filter fun u => !is u }))

/-- Items 2 and 3 of R446 complete, with the course in which both are. -/
def Leaf.noteDone (L : Leaf) : Leaf :=
  if L.tie.settingsDone && L.tie.ledgerDone && L.tie.doneAt.isNone then L.onTie fun T => { T with doneAt := some L.count }
  else L

/-- The ledger of a leaf in ALIGN stands where its partner's head does (R446). -/
def Leaf.noteLedger (L : Leaf) : Leaf :=
  if L.role == .align && L.tie.partnerHead.any fun h => decide (h.1 ≤ L.get LDG_HEAD_RECNO) then
    (L.onTie fun T => { T with ledgerDone := true }).noteDone
  else L

/-- A LEDGER unit's words: the record and its signature. -/
def recWords (r : LRec) : List Nat := [r.head.toNat, r.sig.toNat]

/-- LEDGER (R443, R446, R546): a record that follows the last is stored and acknowledged; one already held is only
acknowledged. -/
def execLedger (l : LeafId) (rx : Rx) (rec : LRec) (s : State) : Done :=
  match (s.leaf l).takeUnit rx with
  | none => .next s
  | some L =>
    let head := L.get LDG_HEAD_RECNO
    .next <| s.setLeaf l <|
      if !L.taking || decide (head + 1 < lrRecno rec) then L
      else ((L.takeRecord rec).ackUnit 0x14 rx).noteLedger

/-- LEDGER_RESEND (R432): a LEDGER or SUPERSEDED unit unacknowledged for 16 courses. -/
def execLedgerResend (l : LeafId) (seq : BitVec 32) (s : State) : Done :=
  let L := s.leaf l
  match L.tie.unacked.find? fun u => u.seq == seq && (u.typ == 0x14 || u.typ == 0x1E) with
  | none => .next s
  | some u =>
    guarded s (L.computing && !L.cut && decide (16 ≤ since L.count u.sent)) <| s.setLeaf l <|
      (L.onTie fun T => { T with unacked := T.unacked.filter fun v => v.seq != seq }).sendUnit u.typ u.payload true

/-- SETTINGS (R432, R446, R583): in ALIGN compared with the generation in force, or with SOURCE; where it differs the
generation is requested. -/
def execSettings (l : LeafId) (rx : Rx) (gen : Nat) (digest : DigestId) (s : State) : Done :=
  match (s.leaf l).takeUnit rx with
  | none => .next s
  | some L =>
    let L := L.ackUnit 0x15 rx
    let same := (L.inForce.gen == gen && L.inForce.digest == digest) ||
      L.upd.source.any fun g => g.gen == gen && g.digest == digest
    .next <| s.setLeaf l <|
      if L.role != .align then L
      else if same then (L.onTie fun T => { T with settingsDone := true }).noteDone
      else (L.sendUnit 0x1B [1, gen]).onTie fun T => { T with wantSet := some (gen, digest), setData := [] }

/-- REQUEST (R432, R446): a generation as a SETDATA series, records as LEDGER units, superseded records as SUPERSEDED
units. -/
def execRequest (l : LeafId) (rx : Rx) (what : TieReq) (s : State) : Done :=
  match (s.leaf l).takeUnit rx with
  | none => .next s
  | some L =>
    .next <| s.setLeaf l <| match what with
      | .settings gen =>
        if L.inForce.gen = gen then
          L.onTie fun T => { T with slow := T.slow ++ [(0x1C, [gen, 0, L.inForce.digest, 1])] }
        else L
      | .ledger recno =>
        let head := L.get LDG_HEAD_RECNO
        (List.range (head + 1 - recno)).foldl (fun L k => match L.findRecord (recno + k) with
          | some r => L.sendUnit 0x14 (recWords r) true
          | none => L) L
      | .superseded =>
        L.onTie fun T => { T with slow := T.slow ++ L.ldg.superseded.map fun r => (0x1E, recWords r ++ [l.num]) }

/-- A generation taken from the partner as CURRENT (R446, R581). -/
def Leaf.takeGeneration (L P : Leaf) : Leaf :=
  let g := P.inForce
  ((L.onUpd fun U => { U with current := some g, previous := P.upd.previous, genUnconf := P.upd.genUnconf, genTop := max U.genTop P.upd.genTop }).applyGeneration
    g).showUpd

/-- SETDATA (R432, R446): the parts in order; the last is checked against the digest announced. -/
def execSetdata (l : LeafId) (rx : Rx) (gen off : Nat) (content : DigestId) (last : Bool) (s : State) : Done :=
  match (s.leaf l).takeUnit rx with
  | none => .next s
  | some L =>
    match L.tie.wantSet with
    | none => .next (s.setLeaf l (if last then L.ackUnit 0x1C rx else L))
    | some (g, d) =>
      let parts := L.tie.setData ++ [(off, content)]
      let L := L.onTie fun T => { T with setData := parts }
      if !last then .next (s.setLeaf l L)
      else
        let L := L.ackUnit 0x1C rx
        let whole := (List.range parts.length).all fun i => (parts.getD i (0, 0)).1 == 1000 * i
        if gen = g ∧ whole = true ∧ content = d then
          let L := (L.takeGeneration (s.leaf l.other)).onTie fun T => { T with
            wantSet := none, setData := [], settingsDone := true }
          .next (s.setLeaf l L.noteDone)
        else if L.tie.seriesFail = 0 then
          .next (s.setLeaf l ((L.sendUnit 0x1B [1, g]).onTie fun T => { T with seriesFail := 1, setData := [] }))
        else .next ((s.setLeaf l L).failRestart l)

/-- VOICE (R432, R508): the move taken for the course it names. -/
def execVoiceUnit (l : LeafId) (rx : Rx) (buses : BitVec 4) (holder : LeafId) (at_ : Course) (s : State) : Done :=
  match (s.leaf l).takeUnit rx with
  | none => .next s
  | some L =>
    let L := [0, 1, 2, 3].foldl (fun L b =>
      if !buses.getLsbD b then L
      else if isAfter L.count.toNat at_.toNat 48 then L.onBus b fun B => { B with voiceAt := some (at_, holder) }
      else L.setVoice b holder) L
    .next (s.setLeaf l (L.ackUnit 0x16 rx))

/-- DIGEST (R432, R558). -/
def execDigest (l : LeafId) (rx : Rx) (_dig : BitVec 256) (sum : DaySum) (s : State) : Done :=
  match (s.leaf l).takeUnit rx with
  | none => .next s
  | some L => .next (s.setLeaf l (L.takeDigest sum))

/-- SETUP (R9, R432, R595): the partner's set-up digest compared with the leaf's own. -/
def execSetup (l : LeafId) (rx : Rx) (s : State) : Done :=
  match (s.leaf l).takeUnit rx with
  | none => .next s
  | some L => .next (s.setLeaf l (L.onTie fun T => { T with setupSeen := some s.setupAgrees }))

/-- Records a leaf holds that its partner's chain does not (R548): superseded, kept apart, and sent to the partner. -/
def Leaf.dropSuperseded (L P : Leaf) : Leaf :=
  let gone := fun (r : LRec) => decide ((P.findRecord (lrRecno r)).map lrDigest ≠ some (lrDigest r)) &&
    !P.ldg.lost.contains (lrRecno r)
  let ring := L.ldg.ring.filter fun r => !gone r.rec_
  let archive := L.ldg.archive.filter fun r => !gone r
  let out := (L.ldg.archive.filter gone) ++ (L.ldg.ring.map (·.rec_)).filter gone
  if out.isEmpty then L
  else
    let last := (ring.map (·.rec_)).getLast?.or archive.getLast?
    let L := L.put LDG_HEAD_RECNO ((last.map lrRecno).getD 0) |>.put LDG_STAT_SIGN_PENDING ((ring.filter (·.pending)).length)
      |>.put LDG_STAT_FREE (L.get LDG_STAT_FREE + (L.ldg.ring.length - ring.length))
    let L := L.onLdg fun G => { G with
      ring := ring, archive := archive, superseded := G.superseded ++ out
      lastDigest := (last.map lrDigest).getD 0, chainE := (last.map lrEnergies).getD [0, 0, 0, 0] }
    (L.stick (ldgFlag 8)).onTie fun T => { T with slow := T.slow ++ out.map fun r => (0x1E, recWords r ++ [L.id.num]) }

/-- HEAD (R432, R446, R547, R548): in ALIGN the records beyond the leaf's own last are requested. -/
def execHead (l : LeafId) (rx : Rx) (recno : Nat) (_dig : BitVec 256) (_highest : Nat) (verified : Bool) (s : State) : Done :=
  match (s.leaf l).takeUnit rx with
  | none => .next s
  | some L =>
    let L := L.onTie fun T => { T with partnerHead := some (recno, verified) }
    if L.role != .align then .next (s.setLeaf l L)
    else
      let L := L.dropSuperseded (s.leaf l.other)
      let own := L.get LDG_HEAD_RECNO
      .next (s.setLeaf l (if recno ≤ own then L.noteLedger else L.sendUnit 0x1B [2, own + 1]))

/-- MIRFMT (R574): a leaf whose image cannot speak the format fails ALIGN. -/
def execMirfmt (l : LeafId) (rx : Rx) (fmt : Nat) (at_ : Course) (s : State) : Done :=
  match (s.leaf l).takeUnit rx with
  | none => .next s
  | some L =>
    let L := L.ackUnit 0x1D rx
    if L.role == .align && (decide (fmt < L.running.mirMin) || decide (L.running.mirMax < fmt)) then
      .next ((s.setLeaf l L).failRestart l)
    else .next (s.setLeaf l (L.onTie fun T => { T with mirNext := some (fmt, at_) }))

/-- SUPERSEDED (R432, R548). -/
def execSuperseded (l : LeafId) (rx : Rx) (rec : LRec) (_holder : LeafId) (s : State) : Done :=
  match (s.leaf l).takeUnit rx with
  | none => .next s
  | some L => .next (s.setLeaf l ((L.takeSuperseded rec).ackUnit 0x1E rx))

/-! ### What a leaf sends at a boundary -/

/-- The mirror format at the course it names (R574). -/
def Leaf.applyMirfmt (L : Leaf) : Leaf :=
  match L.tie.mirNext with
  | some (f, c) =>
    if isAfter L.count.toNat c.toNat 48 then L else (L.onTie fun T => { T with mirrorFmt := f, mirNext := none }).showUpd
  | none => L

/-- Records written since the last LEDGER unit, in order, up to the first capstone that waits for its signature (R443,
R546); with no partner to take them they are left to its alignment. -/
def Leaf.sendLedger (L : Leaf) : Leaf :=
  if L.role != .lead then L.onLdg fun G => { G with sent := L.get LDG_HEAD_RECNO }
  else
    let new := (L.ldg.ring.filter fun r => decide (L.ldg.sent < lrRecno r.rec_)).takeWhile fun r => !r.pending
    let there := L.tieOk && (L.get TIE_STAT_PARTNER == 1 || L.get TIE_STAT_PARTNER == 3)
    new.foldl (fun L r =>
      let L := if there then L.sendUnit 0x14 (recWords r.rec_) true else L
      L.onLdg fun G => { G with sent := lrRecno r.rec_ }) L

/-- At most one SETDATA or SUPERSEDED unit a course, none in a course of a KEYED or THERMAL unit (R432). -/
def Leaf.sendSlow (L : Leaf) : Leaf :=
  match L.tie.slow with
  | [] => L
  | (typ, words) :: t =>
    if L.count.toNat % 16 = 0 || !L.tieOk then L
    else (L.onTie fun T => { T with slow := t }).sendUnit typ words true

/-- What a leaf sends over the tie link in a course (R432, R433). -/
def Leaf.sealSend (L : Leaf) : Leaf :=
  if !L.computing || L.cut then L
  else
    let L := L.sendMark
    let L := if !(pick L.tie.lanes 0).up && !(pick L.tie.lanes 1).up then L.sendUnit 0x03 [] else L
    (L.sendSnaps.sendLedger).sendSlow

/-! ### Divergence -/

/-- The stage of a channel, as TIE_DIV.LAST_STAGE names it (R454). -/
def divStage (ch : Nat) : Nat :=
  if ch < 24 then ch / 6 else if ch < 32 then 4 else if ch < 42 then 5 else if ch < 46 then 6 else 7

/-- The stage groups whose state changes exempt a channel (R439). -/
def divGroups (ch : Nat) : List Nat :=
  if ch < 24 then [ch / 6] else if ch < 32 then [4, 5] else if ch < 42 then [7, 8] else if ch < 46 then [6] else [4]

/-- A stage fed by a keyed block (R439): the traction sets, the legs and the chopper. -/
def keyedStage (g : Nat) : Bool := decide (g ≤ 4) || g == 7

/-- The machine's speed lies where the leaves may differ in ASC alone (R439). -/
def Leaf.ascBand (L : Leaf) (m : Nat) : Bool :=
  let v := ratAbs (L.rpm m)
  let spd : Rat := ((L.get TRC_MACH_ASC_SPD m : Nat) : Rat)
  let hys : Rat := ((L.get TRC_MACH_ASC_HYST m * 10 : Nat) : Rat)
  decide (spd - hys - 100 ≤ v) && decide (v ≤ spd + 100)

/-- An accumulator course marked FIRST exempts every stage (R439). -/
def Leaf.noteFirst (L : Leaf) : Leaf :=
  let any := L.sns.ports.toList.any (fun p => p.record.flags.getLsbD 5) || L.sns.paccs.toList.any fun p => p.flags / 8 % 2 == 1
  if any then L.onTie fun T => { T with exempt := T.exempt.map fun _ => after L.count 31 } else L

/-- The course that a channel's last STATUS frame describes is divergent (R439). A frame with DIVS set does not say
whether N, L0 or ASC differed. -/
def Leaf.divergent (L P : Leaf) (ch : Nat) : Bool :=
  let b := (pick L.gst ch).body
  let at_ := L.count - 2
  let exempt := (divGroups ch).any fun g =>
    isAfter at_.toNat (pick L.tie.exempt g).toNat 48 || isAfter at_.toNat (pick P.tie.exempt g).toNat 48
  let limit := if keyedStage (divStage ch) then L.get ⟨TIE_CTRL, 53, 42⟩ else L.get ⟨TIE_CTRL, 41, 30⟩
  let band := decide (ch < 24) && L.ascBand (ch / 12)
  (pick L.gst ch).fresh && stb b 141 138 == 3 && stb b 137 136 == 3 && stb b 135 135 == 0 && stb b 121 118 == 0 &&
    !exempt && (decide (limit < stb b 133 122) || (stb b 134 134 == 1 && !band))

/-- Bits set of a channel's last 16 courses. -/
def ones16 (v : BitVec 16) : Nat := ((List.range 16).filter fun i => v.getLsbD i).length

/-- The STATUS frames of a course read for divergence (R439, R441, R454, R575): the leaf, and the stages now divergent. -/
def Leaf.readDiv (L P : Leaf) (mixed : Bool) : Leaf × List Nat :=
  let bad := (List.range 48).filter fun ch => L.divergent P ch
  let fresh := (List.range 48).filter fun ch => (pick L.gst ch).fresh
  let nodup := fresh.any fun ch => stb (pick L.gst ch).body 135 135 == 1
  let top := fresh.foldl (fun a ch => max a (stb (pick L.gst ch).body 133 122)) 0
  let div := Vector.ofFn fun (ch : Fin 48) =>
    ((pick L.tie.div ch.val) <<< 1) ||| BitVec.ofNat 16 (bit (bad.contains ch.val))
  let need := max 1 (L.get ⟨TIE_CTRL, 29, 26⟩)
  let exceeds := bad.filter fun ch => decide (need ≤ ones16 (pick div ch))
  let stages := (List.range 8).filter fun g => exceeds.any fun ch => divStage ch == g
  let L : Leaf := { L with gst := L.gst.map fun c => ({ c with fresh := false } : ChanStat) }
  let L := (L.bumpBy ⟨TIE_DIV, 15, 0⟩ bad.length).onTie fun T => { T with
    div := Vector.ofFn fun (ch : Fin 48) => if stages.contains (divStage ch.val) then 0 else pick div ch.val
    hDivCourses := T.hDivCourses + bad.length, hDivMax := max T.hDivMax top, hNodup := T.hNodup + bit nodup }
  let L := if mixed && !bad.isEmpty then L.bump UPD_CNT_MIX_DIV else L
  let L := stages.foldl (fun L g =>
    (L.put ⟨TIE_DIV, 63, 58⟩ ((exceeds.find? fun ch => divStage ch == g).getD 0) |>.put ⟨TIE_DIV, 57, 54⟩ g).bump
      ⟨TIE_DIV, 47, 32⟩) L
  (L, if mixed then [] else stages)

/-- A stage of a leaf held at fault has diverged again within 60 s of reaching FOLLOW (R440). -/
def Leaf.heldAgain (L : Leaf) (g : Nat) : Bool :=
  L.tie.held.any fun h => h.stage == g && h.joined.any fun c => decide (since L.count c < 9600000)

/-- The lasting event (R440): the leaf held at fault enters OUT. -/
def Leaf.heldLasting (L : Leaf) (g : Nat) : Leaf :=
  let L := L.onTie fun T => { T with held := T.held.filter fun h => h.stage != g }
  (L.raise (if keyedStage g then ⟨TIE_FLT, 4, 4⟩ else ⟨TIE_FLT, 5, 5⟩)).planOut

/-- A leaf held at fault for a stage enters RESTART (R440). -/
def State.hold (s : State) (l : LeafId) (g : Nat) : State :=
  let s := s.on l fun L => L.onTie fun T => { T with
    held := T.held.filter (fun h => h.stage != g) ++ [{ stage := g, leaf := l }] }
  s.planRestart l

/-- A divergent stage (R440): a keyed one holds the FOLLOW leaf, a fill one brings a check run in the LEAD leaf; a stage
that was held already is lasting. -/
def State.stageDiverges (s : State) (l : LeafId) (g : Nat) : State :=
  let L := s.leaf l
  let acts := if keyedStage g then L.role == .follow else L.role == .lead
  if !acts || L.crs.roleAt.isSome then s
  else if L.heldAgain g then s.on l fun L => L.heldLasting g
  else if (s.leaf l.other).heldAgain g then s.on l.other fun P => P.heldLasting g
  else if keyedStage g then s.hold l g
  else s.on l fun L => L.onTie fun T => { T with checks := if T.checks.contains g then T.checks else T.checks ++ [g] }

/-- Divergence at a seal (R439, R440). -/
def State.sealDiv (s : State) (l : LeafId) : State :=
  let (L, stages) := (s.leaf l).noteFirst.readDiv (s.leaf l.other) s.mixed
  stages.foldl (fun s g => s.stageDiverges l g) (s.setLeaf l L)

/-- Holds that have not recurred in 60 s were transient (R440). -/
def Leaf.sealHeld (L : Leaf) : Leaf :=
  let exceeds := fun (h : Held) => h.joined.any fun c => decide (9600000 ≤ since L.count c)
  let n := (L.tie.held.filter exceeds).length
  if n = 0 then L
  else (L.bumpBy ⟨TIE_CNT, 31, 16⟩ n).onTie fun T => { T with held := T.held.filter fun h => !exceeds h }

/-- CHECK (R440): the runs agree and the FOLLOW leaf is held at fault, or they do not and the LEAD leaf is, its role handed
over at the earliest course. -/
def execCheck (l : LeafId) (rx : Rx) (stage : Fin 11) (agree : Bool) (s : State) : Done :=
  match (s.leaf l).takeUnit rx with
  | none => .next s
  | some L =>
    let s := s.setLeaf l L
    if L.role != .follow then .next s else .next (s.hold (if agree then l else l.other) stage)

/-! ### Health records -/

/-- HEALTH_RECORD (R441, R454). -/
def execHealthRecord (l : LeafId) (s : State) : Done :=
  let L := s.leaf l
  let T := L.tie
  guarded s (L.computing && decide (1600 ≤ since L.count T.healthAt)) <| s.setLeaf l <|
    let st := L.role.code
    let pt := L.get TIE_STAT_PARTNER
    let taint := L.get ASH_STAT_TAINT
    let un := L.get TIE_STAT_UNJOINED
    let retired := ((List.range 24).filter fun e => L.get (engState e) == 3).length
    let convs := fun (k : Nat) => ((List.range 40).filter fun n => L.get SNS_CONV_STATE n == k).length
    let c16 := min 0xFFFF
    let L := L.produce { ring := 1, isLocal := true, course := L.count, body := body [
      (16, 2, 0x0100),
      (18, 1, st + 8 * pt + 64 * taint + 128 * bit (un != 0)),
      (19, 1, bit (L.laneOk 0) + 2 * bit (L.laneOk 1) + 4 * bit T.partnerLanes),
      (20, 6, L.count.toNat), (26, 2, c16 T.hOfs), (28, 2, T.hKey), (30, 2, T.hFill),
      (32, 1, L.get ASH_STAT_SHED + 4 * retired), (33, 1, convs 1 + 8 * min 31 (convs 3)),
      (34, 2, c16 T.hDivCourses), (36, 2, T.hDivMax), (38, 2, T.hNodup), (40, 2, T.hOther), (42, 2, T.hDiffer),
      (44, 4, T.hEcc), (48, 2, T.hSkips), (50, 2, un), (52, 4, L.get CRS_EPOCH_EPOCH)] }
    let L := L.put ⟨TIE_HEALTH, 63, 61⟩ st |>.put ⟨TIE_HEALTH, 60, 58⟩ pt |>.put ⟨TIE_HEALTH, 57, 57⟩ taint
      |>.put ⟨TIE_HEALTH, 47, 32⟩ (c16 T.hDivCourses) |>.put ⟨TIE_HEALTH, 31, 20⟩ (min 4095 T.hDivMax)
      |>.put ⟨TIE_HEALTH, 19, 4⟩ (c16 T.hOfs)
    L.onTie fun T => { T with
      healthAt := L.count, hOfs := 0, hDivCourses := 0, hDivMax := 0, hNodup := 0, hOther := 0, hDiffer := 0, hEcc := 0
      hSkips := 0, hKey := 0, hFill := 0 }

end Sys2Proof.Machine
end

