-- ==== Sys2Proof/Machine/Trip.lean ====
section
/-! DEFINITION. Fast trips (R19, R154, R155, R229, R240) and the clear of a gate channel (R234, R245). -/

namespace Sys2Proof.Machine

open Sys2Proof

/-- The pairs a port's comparator trips, by their even channels; SP12 trips all (R154). -/
def tripPairs (port : Nat) : List Nat :=
  if port < 12 then [6 * (port / 3) + 2 * (port % 3)]
  else if port = 12 then (List.range 24).map (2 * ·)
  else if port ≤ 14 then [24, 26, 28, 30]
  else if port ≤ 18 then [24 + 2 * (port - 15)]
  else if port = 30 then [46] else []

/-- The comparator of a port is armed and the input has left its window (R154, R155, R157). -/
def Leaf.tripped (L : Leaf) (port : Nat) (mv : Int) : Bool :=
  let C := pick L.sns.comps port
  let testing := C.testAt.any fun c => decide (since L.count c < 2)
  let hi := signed 10 (L.get SNS_PCFG_FT_HI port)
  let lo := signed 10 (L.get SNS_PCFG_FT_LO port)
  (port == 12 || L.on SNS_PCFG_FT_EN port) && !C.masked && !testing && (decide (hi * 4 < mv) || decide (mv < lo * 4))

/-- The buttress of a pair heeds a leaf's trip line (R19). -/
def State.pairHeeds (s : State) (e : Nat) (l : LeafId) : Bool := (s.chan e).heeds l || (s.chan (e + 1)).heeds l

/-- A fast trip as a leg fault of a pair: of the switch that is on, or of both (R229). -/
def State.tripLeg (s : State) (e tick : Nat) : State :=
  let on := [e, e + 1].filter fun i => (s.chan i).gate
  let bad := if on.isEmpty then [e, e + 1] else on
  s.legFault e bad (bad.map fun i => (i, 1)) ((s.chan e).fineOf tick)

/-- OV_HW on a pair (R240): one try; a channel in RUN or FALLBACK goes to WAIT with strap states, or latches with the last
try; a channel in another state keeps it. A trip that stands counts once. -/
def State.ovHw (s : State) (e tick : Nat) : State :=
  let a := s.chan e
  let b := s.chan (e + 1)
  if a.acc.fault.getLsbD 7 || (a.ovhw && (a.st == .wait || b.st == .wait)) then s
  else
    let moves := fun (c : Chan) => c.st == .run || c.st == .fallback
    let t := s.countTry e true
    let st := if (t.chan e).protField GCH_PROT_TRIES ≤ (t.chan e).tries then ChState.latched else .wait
    let put := fun (c was : Chan) => { c.mark 7 with
      st := if moves was then st else if was.st == .wait && st == .latched then .latched else was.st }
    let t := (t.onChan e fun c => { put c a with
      ovhw := a.ovhw || moves a || moves b, waitTill := if moves a || moves b then c.waitTill else a.waitTill }).onChan (e + 1) fun c => put c b
    t.settlePair e (a.fineOf tick)

/-- FAST_TRIP (R154, R229, R240): the input of a port as a leaf's comparator sees it, in mV. -/
def execFastTrip (l : LeafId) (port : Fin 36) (mv : Int) (tick : Fin 4000) (s : State) : Done :=
  let p := port.val
  guarded s ((s.leaf l).tripped p mv) <|
    (tripPairs p).foldl (fun s e =>
      if !s.pairHeeds e l then s else if p = 12 then s.ovHw e tick.val else s.tripLeg e tick.val) s

/-- CLEAR sent to a channel and its partner (R218, R234). -/
def Leaf.sendClear (L : Leaf) (n : Nat) : Leaf :=
  let at_ := after L.count 1
  (L.maint (evenOf n) at_ 4 0 0).maint (evenOf n + 1) at_ 4 0 0

/-- GCH_CLEAR (R234, R245): by a direct write in READY and WORKSHOP, through IR1 at its effective course. -/
def execGchClear (l : LeafId) (chan : Fin 64) (direct : Bool) (who : Ident) (s : State) : Done :=
  let L := s.leaf l
  let off := GCH_CMD.base
  let n := chan.val
  if direct then
    if s.setup && decide (n < 48) && s.mayClear l n then .next (s.setLeaf l (L.sendClear n))
    else guarded s (s.setup || s.mode == .carry) (s.setLeaf l (L.discard off who.val (2 ^ 63 + n)))
  else
    match L.takeBit off 63 [62] with
    | (none, _) => .next s
    | (some w, L) =>
      let n := fieldOf w 5 0
      .next (s.setLeaf l (if n < 48 then L.sendClear n else L.discardEvent off 0 1 w.toNat allOnes))

end Sys2Proof.Machine
end

