-- ==== Sys2Proof/Machine/Fill.lean ====
section
/-! DEFINITION. Blocks of a course that finish: a keyed block whose outputs agreed in its pair (R76), and a fill block on
its engine (R74). -/

namespace Sys2Proof.Machine

open Sys2Proof

/-- The fine time at which a block's first output is handed over (R45). -/
def Leaf.stampOut (L : Leaf) (block tick : Nat) : Leaf :=
  { L with cmp := { L.cmp with outAt := kvPut L.cmp.outAt block (fineAt L.count tick) } }

/-- A keyed block's work in a course (R67): the current loops of T0 to T3, or the link guard. -/
def Leaf.runKeyed (L : Leaf) (block tick : Nat) : Leaf := if block < 4 then L.runSet block tick else L.runLink tick

/-- The registers of a pair that has agreed its last output at `tick`, after `secondReads` second reads (R77, R93, R94,
R97). -/
def Leaf.noteAgreed (L : Leaf) (p tick secondReads : Nat) : Leaf :=
  let L := (L.bumpBy ASH_CNT_INPUT_DIS secondReads).bumpBy ASH_PAIR_INPUT_T secondReads p
  let L := (L.put ASH_PAIR_DONE_LAST tick p).keepMax ASH_PAIR_DONE_MAX tick p |>.keepMax ASH_LOAD_KEY_DONE_MAX tick
  { L with tie := { L.tie with hKey := max L.tie.hKey tick } }

/-- PAIR_OUTPUT_AGREED (R38, R76 to R78): the pair of a keyed block has every output agreed no later than fine tick 2,688;
the block's state is committed and its frames go to the gate scheduler. -/
def execPairOutputAgreed (l : LeafId) (block : Fin 5) (tick : Fin 4000) (secondReads : Nat) (s : State) : Done :=
  let L := s.leaf l
  match L.posOf block with
  | none => .next s
  | some p =>
    guarded s (L.computing && !L.ash.keyedOver && decide (96 ≤ tick.val) && decide (tick.val ≤ 2688) &&
        !(L.pairx p).agreed && !(L.pairx p).rerun && !(L.pairx p).stopped) <| s.setLeaf l <|
      let L : Leaf := { L with tick := max L.tick tick.val }
      let L := (L.noteAgreed p tick secondReads).onPair p fun X => { X with agreed := true }
      (L.stampOut block tick).runKeyed block tick

/-- The phase sum of a set checked (R158). -/
def Leaf.checkNeutral (L : Leaf) (set : Nat) : Leaf :=
  match L.setState set, L.meanOf (3 * set), L.meanOf (3 * set + 1), L.meanOf (3 * set + 2) with
  | 0, _, _, _ => L
  | _, some a, some b, some c =>
    let run := pick L.sns.neutRun set
    let set' := fun (n : Nat) (L : Leaf) => ({ L with sns := { L.sns with neutRun := L.sns.neutRun.setIfInBounds set n } } : Leaf)
    let n := max 1 (L.get SNS_CTRL_NEUT_N)
    if L.get SNS_CTRL_NEUT_LIM * 2 ^ 23 < (a + b + c).natAbs then
      let L := set' (run + 1) L
      if n ≤ run + 1 then L.stick (SNS_FLT_NEUT.bit set) else L
    else set' 0 (if 0 < run ∧ run < n then L.bump SNS_CNT_FT_TRANS else L)
  | _, _, _, _ => L

/-- The block of a kind with the lowest ID carries the kind's work where a block list has several alike. -/
def Leaf.leads (L : Leaf) (b : FillBlock) : Bool := L.ash.blocks.all fun x => x.kind != b.kind || decide (b.id ≤ x.id)

/-- One of the two check runs of a stage has finished (R440): `agree` says that it agrees with the first run of the
course. After the second the result is sent, and the leaf held at fault restarts. -/
def State.checkRunDone (s : State) (l : LeafId) (stage : Nat) (agree : Bool) : State :=
  let L := s.leaf l
  match L.tie.checkRun with
  | some (g, none) => if g = stage then s.setLeaf l (L.onTie fun T => { T with checkRun := some (g, some agree) }) else s
  | some (g, some before) =>
    if g = stage then
      s.setLeaf l ((L.onTie fun T => { T with checkRun := none }).sendUnit 0x19 [g, bit (agree && before)] true)
    else s
  | none => s

/-- The work of a fill block (R71, R74): what the chapters give the function. A block of metering, channel status, telemetry
or the pilot adds nothing here: its part is done at the seal and by the events of its inputs. -/
def State.runFill (s : State) (l : LeafId) (b : FillBlock) (tick : Nat) (agree : Bool) : State :=
  match b.kind with
  | .torqueSplit => s.on l fun L => (L.torqueSplit.syncLoop b.id L.syncTarget).showSync
  | .observer set =>
    -- the estimate is free (log entry 12); a machine's observer runs in the block of its lower set
    if set.val % 2 = 1 then s
    else
      let (angle, s) := s.take
      let (speed, s) := s.take
      let (residual, s) := s.take
      let (emf, s) := s.take
      s.on l fun L => L.observer (set.val / 2) (BitVec.ofNat 32 angle) (signed 32 speed) (residual % 65536) (emf % 2 == 1)
  | .position p => s.on l fun L => L.crossCheck p
  | .switchModel g => s.on l fun L => L.modelBlock g fun c => ((s.chan c).lastOn, (s.chan c).lastSw)
  | .legLoop j => s.on l fun L => L.legBlock j
  | .auxConverter part => s.on l fun L => if part = 0 then L.auxBlock b.id else L.auxFrames
  | .pfc phase => s.on l fun L => if phase.val < 3 then L.pfcLeg b.id phase else L.pfcVoltage b.id
  | .llc part => s.on l fun L => if part = 0 then L.chargerBlock b.id else L.llcBlock b.id tick
  | .pilot => s
  | .actuator a => s.on l fun L => L.actuatorBlock a b.id (s.mode == .carry)
  | .metering => s
  | .channelStatus => s
  | .senseCheck => s.on l fun L => if L.leads b then (List.range 4).foldl (fun L set => L.checkNeutral set) L else L
  | .frames => s.on l fun L => if L.leads b then L.readQueues else L
  | .telemetry => s
  | .capture => s.on l fun L => if L.leads b then L.stepReadout else L
  | .service => s.on l Leaf.serveRequests
  | .otherLoop => s
  | .checkRun stage => s.checkRunDone l stage agree

/-- FILL_BLOCK_COMPLETE (R39, R74): the engine's block has finished no later than fine tick 3,584; its outputs are sent,
and the engine takes the head of its own queue. -/
def execFillBlockComplete (l : LeafId) (e : Fin 24) (tick : Fin 4000) (agree : Bool) (s : State) : Done :=
  let L := s.leaf l
  match (L.eng e).running with
  | none => .next s
  | some b =>
    guarded s (L.computing && !L.ash.fillOver && decide (96 ≤ tick.val) && decide (tick.val ≤ 3584)) <|
      let L : Leaf := { L with tick := max L.tick tick.val }
      let L := (L.bump ASH_STEAL_BLOCKS).keepMax ASH_LOAD_FILL_DONE_MAX tick
      let L : Leaf := { L with tie := { L.tie with hFill := max L.tie.hFill tick.val } }
      ((s.setLeaf l ((L.onEng e Engine.next).stampOut b.id tick)).runFill l b tick agree)

end Sys2Proof.Machine
end

