-- ==== Sys2Proof/Machine/Rings.lean ====
section
/-! DEFINITION. The host link and its rings (R40, R41, R57, R457 to R481), and the compensation of the timebase (R31,
R409). -/

namespace Sys2Proof.Machine

open Sys2Proof

/-- The ring engine of a leaf altered. -/
def Leaf.onHre (L : Leaf) (f : Hre → Hre) : Leaf := { L with hre := f L.hre }

/-- The leaf's bus-master port carries requests: link up, Bus Master Enable set, not held idle (R427, R457). -/
def Leaf.master (L : Leaf) : Bool := L.on HRE_STAT_LINK_UP && L.on HRE_STAT_BME && !L.cut

/-- Values laid into a block of host memory: byte offset, width in bytes, value. -/
def laid (l : List (Nat × Nat × Nat)) : Nat := l.foldl (fun a p => a + ((p.2.2 % 2 ^ (8 * p.2.1)) <<< (8 * p.1))) 0

/-! ### Start and stop -/

/-- RING_ENGINE_RUN (R457, R486): in READY and WORKSHOP; the engine runs from the next course close, its vectors armed. -/
def execRingEngineRun (l : LeafId) (s : State) : Done :=
  let L := s.leaf l
  let w := 2 ^ 63
  if !s.setup then .next (if s.mode == .carry then s.setLeaf l (L.discard HRE_CTRL.base (hostId l) w) else s)
  else if L.word HRE_DB_ADDR = 0 ∨ L.word HRE_SB_ADDR = 0 then .next (s.setLeaf l (L.discard HRE_CTRL.base (hostId l) w))
  else
    .next <| s.setLeaf l <| (L.put HRE_CTRL_RUN 1).onHre fun H => { H with vec := H.vec.map fun v => { v with armSeen := none } }

/-- RING_ENGINE_STOP (R457, R486): indices kept. -/
def execRingEngineStop (l : LeafId) (s : State) : Done :=
  let L := s.leaf l
  if s.setup then .next (s.setLeaf l (L.put HRE_CTRL_RUN 0))
  else .next (if s.mode == .carry then s.setLeaf l (L.discard HRE_CTRL.base (hostId l) 0) else s)

/-- RUN taken at a course close; an engine that stops empties its queues, uncounted (R457, R475). -/
def Leaf.followRun (L : Leaf) : Leaf :=
  if L.on HRE_CTRL_RUN then L.put HRE_STAT_RUNNING 1
  else if !L.on HRE_STAT_RUNNING then L
  else (L.put HRE_STAT_RUNNING 0).onHre fun H => { H with comQ := [], locQ := [], reading := false }

/-- HOT_RESET (R457): in READY and WORKSHOP the HRE registers and the indices return to reset and the engine stops; in CARRY
the host link is lost; the host is lost as a master of the mailboxes (R496). `perst` tells a PERST# from an in-band hot reset; both act alike. -/
def execHotReset (l : LeafId) (_perst : Bool) (s : State) : Done :=
  if s.setup then
    .next <| s.on l fun L => ({ L with
      regs := L.regs.filter fun p => blockOf p.1 != 3
      hre := { crsRetry := L.hre.crsRetry } } : Leaf).masterLost (hostId l)
  else guarded s (s.mode == .carry) <| s.on l fun L =>
    (((L.masterLost (hostId l)).put HRE_STAT_LINK_UP 0).put HRE_STAT_BME 0).onHre fun H => { H with downAt := H.downAt.or (some L.count), reading := false }

/-- LINK_DOWN (R444, R457). -/
def execLinkDown (l : LeafId) (bmeCleared : Bool) (s : State) : Done :=
  onLeaf s l fun L =>
    let L := if bmeCleared then L.put HRE_STAT_BME 0 else L.put HRE_STAT_LINK_UP 0
    let L := L.onHre fun H => { H with reading := false }
    if s.mode == .carry then L.onHre fun H => { H with downAt := H.downAt.or (some L.count) } else L

/-- PCIE_LINK_UP (R444, R457): training completes or the link returns, with what the host has then set in configuration
space; a loss recovered within 16 courses is counted as transient. -/
def execPcieLinkUp (l : LeafId) (bme msix : Bool) (s : State) : Done :=
  onLeaf s l fun L =>
    let L := ((L.put HRE_STAT_LINK_UP 1).put HRE_STAT_BME (bit bme)).put HRE_STAT_MSIX (bit msix)
    match L.hre.downAt with
    | some c =>
      if !bme then L
      else if since L.count c < 16 then (L.bump ⟨TIE_CNT, 31, 16⟩).onHre fun H => { H with downAt := none }
      else if L.carrying then L
      else L.onHre fun H => { H with downAt := none }
    | none => L

/-! ### Vectors -/

/-- The ARM byte of a vector in the doorbell block in use (R462). -/
def Leaf.armByte (L : Leaf) (v : Nat) : Byte := BitVec.ofNat 8 (L.hre.door.toNat >>> (8 * (196 + v)))

/-- A vector's entry is masked (bit 96, PCIe Base 3.0). -/
def Vec.masked (v : Vec) : Bool := v.entry.getLsbD 96

/-- A vector meets its conditions but for the mask (R481). -/
def Leaf.vecDue (L : Leaf) (v : Nat) : Bool :=
  let V := pick L.hre.vec v
  let cnt := max 1 (L.get HRE_VEC_CNT v)
  let held := V.first.any fun c => decide (L.get HRE_VEC_HOLD v ≤ since L.count c)
  decide (0 < V.posted) && (decide (cnt ≤ V.posted) || held) && decide (V.armSeen ≠ some (L.armByte v))

/-- A vector fires (R481). -/
def Leaf.fireVec (L : Leaf) (v : Nat) : Leaf :=
  let L := L.emitHost (.msix v)
  let arm := L.armByte v
  L.onHre fun H => { H with vec := alter H.vec v fun V => { V with pending := false, posted := 0, first := none, armSeen := some arm } }

/-- The vectors at a course close: those that fire, and the leaf with the pending bits of those masked (R481). -/
def Leaf.judgeVecs (L : Leaf) : List Nat × Leaf :=
  if !L.on HRE_STAT_MSIX then ([], L)
  else
    let fire := (List.range 32).filter fun v =>
      !(pick L.hre.vec v).masked && ((pick L.hre.vec v).pending || L.vecDue v)
    let hold := (List.range 32).filter fun v => (pick L.hre.vec v).masked && L.vecDue v
    (fire, hold.foldl (fun L v => L.onHre fun H => { H with vec := alter H.vec v fun V => { V with pending := true } }) L)

/-! ### The status block -/

/-- The health summary (R465). -/
def State.healthSummary (s : State) (l : LeafId) : List (Nat × Nat × Nat) :=
  let L := s.leaf l
  let un := L.on TIE_STAT_UNJOINED
  let b17 := bit L.hre.dbLate + 2 * bit L.hre.stall + 4 * L.get ASH_STAT_SHED + 16 * L.get ASH_STAT_DEGRADED +
    32 * L.get TIE_STAT_ISOLATED + 64 * bit un + 128 * L.get SNS_FLT_FT_FAIL
  let set := fun (k : Nat) => (20 + k, 1, L.get TRC_SETSTAT_STATE k + 8 * L.get TRC_SETSTAT_CAUSE k +
    128 * L.get TRC_MSTAT_ASC_FLAG (k / 2))
  [(16, 1, L.role.code + 8 * L.get TIE_STAT_PARTNER + 64 * bit (L.role == .lead) + 128 * L.get ASH_STAT_TAINT),
   (17, 1, b17), (18, 1, s.mode.code), set 0, set 1, set 2, set 3,
   (24, 1, L.conv + 4 * L.con),
   (25, 1, L.get LNK_STAT_LADDER + 8 * L.get LNK_FLT_CHOP_FAIL + 16 * L.get LNK_FLT_BATT_LOST + 32 * bit L.lnk.crash +
     64 * bit L.lnk.hvilOpen),
   (26, 1, L.get CHG_STAT_STATE + 16 * L.get CHG_STAT_END),
   (27, 1, L.get ACT_STAT_GEAR + 4 * L.get ACT_STAT_SHIFT + 32 * L.get ACT_STAT_PARK + 128 * L.get ACT_STAT_GEAR_DOUBT),
   (28, 2, L.get ACT_CHSTAT_STATE 0 + 8 * L.get ACT_CHSTAT_STATE 1 + 64 * L.get ACT_CHSTAT_STATE 2),
   (32, 6, L.get GCH_LATCH_LATCHED), (38, 6, L.get GCH_FB_FALLBACK), (44, 2, L.get THM_FLT_FLAGS),
   (46, 2, L.get TRC_MSTAT_TQ_EST 0), (48, 2, L.get TRC_MSTAT_TQ_EST 1),
   (50, 2, L.get LNK_MEAS_V_LINK), (52, 2, L.get LNK_MEAS_I_BATT)]

/-- The status block of a course (R464). -/
def State.statusBlock (s : State) (l : LeafId) (fired : List Nat) : BitVec 2048 :=
  let L := s.leaf l
  let course := L.count.toNat + l.num * 2 ^ 48
  let irs := (List.range 32).map fun r => (64 + 2 * r, 2, L.get HRE_IRCFG_CONS r)
  let ors := (List.range 32).map fun r => (128 + 2 * r, 2, L.get HRE_ORCFG_PROD r)
  BitVec.ofNat 2048 <| laid <|
    [(0, 8, course), (8, 4, L.get CRS_EPOCH_EPOCH), (12, 4, L.hre.door.toNat >>> (8 * 192))] ++ s.healthSummary l ++ irs ++ ors ++
    [(192, 4, L.hre.irErr.toNat), (196, 4, L.hre.orDrop.toNat), (200, 4, fired.foldl (fun a v => a + 2 ^ v) 0), (248, 8, course)]

/-- DOORBELL_FETCH (R40, R464, R466, R481): at fine tick 3,584 the doorbell read is issued, the status block written, and
the vectors fired. -/
def execDoorbellFetch (l : LeafId) (s : State) : Done :=
  let L := s.leaf l
  guarded s (L.role != .boot && L.hre.fetchAt != some L.count) <|
    let L : Leaf := ({ L with tick := max L.tick 3584 } : Leaf).onHre fun H => { H with fetchAt := some L.count }
    let L := L.followRun
    if !L.on HRE_STAT_RUNNING || !L.master then
      s.setLeaf l (L.onHre fun H => { H with irErr := 0, orDrop := 0 })
    else
      let (fire, L) := L.judgeVecs
      let s := s.setLeaf l L
      let block := s.statusBlock l fire
      let L := (L.emitHost .doorbellRead).emitHost (.status block)
      let L := fire.foldl (fun L v => L.fireVec v) L
      s.setLeaf l (L.onHre fun H => { H with reading := true, irErr := 0, orDrop := 0 })

/-! ### The doorbell block -/

/-- A 16-bit index of a doorbell block. -/
def doorIndex (d : DoorbellBlock) (off : Nat) : Nat := (d.toNat >>> (8 * off)) % 2 ^ 16

/-- A doorbell read that has not come in time or has failed (R41, R463). -/
def Leaf.lateDoor (L : Leaf) : Leaf :=
  let L := (L.bump CRS_LATE_DB_LATE).onHre fun H => { H with reading := false, missing := H.missing + 1 }
  let run := L.crs.lateRun + 1
  let L : Leaf := { L with crs := { L.crs with lateRun := run } }
  if run = 2 then (L.event 0x0704).onHre fun H => { H with dbLate := true } else L

/-- A producer index of the block that is not acted on (R472): the distance from IR_CONS exceeds the ring, is STALE or is
negative. -/
def Leaf.overrun (L : Leaf) (d : DoorbellBlock) (r : Nat) : Bool :=
  L.on HRE_IRCFG_EN r && match distance (L.get HRE_IRCFG_CONS r) (doorIndex d (2 * r)) 16 with
    | some n => decide (n < 0) || decide (((2 ^ L.get HRE_IRCFG_LOG2SIZE r : Nat) : Int) < n)
    | none => true

/-- OVERRUN, its event again every 1,600 courses while it lasts (R472). -/
def Leaf.judgeOverrun (L : Leaf) (d : DoorbellBlock) : Leaf :=
  if !(List.range 10).any (L.overrun d) then L.onHre fun H => { H with overrunAt := none }
  else
    let L := L.stick HRE_ERR_OVERRUN
    match L.hre.overrunAt with
    | none => (L.bitEvent HRE_ERR_OVERRUN).onHre fun H => { H with overrunAt := some L.count }
    | some c =>
      if 1600 ≤ since L.count c then
        (L.bitEvent HRE_ERR_OVERRUN 0 1).onHre fun H => { H with overrunAt := some L.count }
      else L

/-- DOORBELL_COMPLETION (R41, R444, R463): in time by fine tick 3,968, for the next course; an error completion is late. -/
def execDoorbellCompletion (l : LeafId) (block : DoorbellBlock) (error : Bool) (s : State) : Done :=
  let L := s.leaf l
  guarded s (L.hre.reading && decide (L.tick ≤ 3968)) <| s.setLeaf l <|
    if error then (L.stick HRE_ERR_DB_READ).lateDoor
    else
      let L := if 0 < L.hre.missing ∧ L.hre.missing < 16 then L.bump ⟨TIE_CNT, 31, 16⟩ else L
      let L : Leaf := { L with crs := { L.crs with lateRun := 0 } }
      (L.judgeOverrun block).onHre fun H => { H with
        reading := false, arrived := some block, dbLate := false, missing := if H.missing < 16 then 0 else H.missing }

/-- DOORBELL_DEADLINE (R41): at fine tick 3,968. -/
def execDoorbellDeadline (l : LeafId) (s : State) : Done :=
  let L := s.leaf l
  guarded s (L.hre.reading && decide (L.tick ≤ 3968)) (s.setLeaf l ({ L with tick := 3968 } : Leaf).lateDoor)

/-- The doorbell values at a seal (R41, R463, R472): those of an on-time fetch taken, and where no descriptor is pending the
stall count of a ring begins anew. -/
def Leaf.sealRings (L : Leaf) : Leaf :=
  let L := match L.hre.arrived with
    | none => L
    | some d =>
      let L := (List.range 32).foldl (fun (L : Leaf) r =>
        let L := L.put HRE_IRCFG_PROD (doorIndex d (2 * r)) r
        L.put HRE_ORCFG_CONS (doorIndex d (64 + 64 * L.id.num + 2 * r)) r) L
      (L.put ⟨HRE_STAT, 31, 0⟩ (d.toNat >>> (8 * 192))).onHre fun H => { H with door := d, arrived := none }
  let idle := fun (r : Nat) => !L.on HRE_IRCFG_EN r || decide ((L.waiting r).getD 0 = 0)
  let stalled := (List.range 10).any fun r => !idle r && decide (1600 ≤ since L.count (pick L.hre.moved r))
  L.onHre fun H => { H with
    fetched := Vector.replicate 32 0, readBytes := 0, postedNow := 0
    moved := Vector.ofFn fun (r : Fin 32) => if idle r.val then L.count else pick H.moved r.val
    stall := H.stall && stalled }

/-- RING_STALL (R472): 1,600 courses with descriptors pending. -/
def execRingStall (l : LeafId) (ring : Fin 10) (s : State) : Done :=
  let L := s.leaf l
  guarded s (L.carrying && L.on HRE_IRCFG_EN ring && decide ((L.waiting ring).getD 0 ≠ 0) &&
      decide (1600 ≤ since L.count (pick L.hre.moved ring))) <|
    s.setLeaf l ((L.stick HRE_ERR_STALL).onHre fun H => { H with stall := true })

/-- LATE_COMPLETION (R458). -/
def execLateCompletion (l : LeafId) (s : State) : Done := onLeaf s l fun L => L.bump HRE_CNT_LATE_CPL

/-! ### Descriptors read a second time -/

/-- What a descriptor of a ring does once it is read: its row's effect (R460, R470). -/
def State.actOn (s : State) (l : LeafId) (ring : Nat) (d : Desc) (b : BufRead) : Done :=
  let op := opcode d.bytes
  let unknown := onLeaf s l fun L => L.readDesc ring 0 d fun L _ => L
  if !(ringOps ring).contains op then unknown
  else match ring with
  | 1 => .next (s.takeChange l 1 op d)
  | 2 =>
    match op with
    | 0x80 => execReadRecords l d b.oneBad b.bothBad s
    | 0x81 => execLedgerStatus l d s
    | 0x82 => execGetKeys l d s
    | 0x83 => execReadSuperseded l d s
    | 0x84 => execReadHistory l d s
    | _ => execGrade l d s
  | 3 =>
    match op with
    | 0x02 => execCaptureStop l d s
    | 0x03 => execCaptureRead l d s
    | _ => .next (s.takeChange l 3 op d)
  | 8 => execNetSend l d b.frame b.ok s
  | 9 =>
    match op with
    | 0x90 => execStreamOpen l d b.header b.ok s
    | 0x91 => execStreamData l d b.ok s
    | 0x92 => execStreamClose l d s
    | _ => execStreamAbort l d s
  | _ => onLeaf s l fun L => L.readDesc ring op d fun L h => L.receive d.bytes h

/-- DESCRIPTOR_RETRY (R470): the head descriptor of a ring read once more, in a later course; a second failure consumes it
with a LOCAL code, a good read goes on as a first one does. -/
def execDescriptorRetry (l : LeafId) (ring : Fin 10) (d : Desc) (b : BufRead) (s : State) : Done :=
  let L := s.leaf l
  let r := ring.val
  if !(L.canRead r && (pick L.hre.retry r).isSome && decide (pick L.hre.fetched r = 0)) then .next s
  else
    match L.checkDesc r d true with
    | (L, none) => .next (s.setLeaf l L)
    | (_, some _) => (s.setLeaf l (L.onHre fun H => { H with retry := H.retry.setIfInBounds r none })).actOn l r d b

/-! ### Output entries -/

/-- The order of R121 on OR3: status and results, stream data, readout; other rings have one order. -/
def OutEntry.rank (e : OutEntry) : Nat := if e.ring ≠ 3 then 0 else if e.kind = 1 then 1 else if e.kind = 2 then 2 else 0

/-- The entry a ring posts next in a course (R121, R475): the head of its COMMON queue if one may go, else of its LOCAL
queue. -/
def Leaf.nextEntry (L : Leaf) (r : Nat) : Option OutEntry :=
  let ready := fun (q : List OutEntry) => (q.find? fun e => e.ring == r).filter fun e => e.course != L.count
  let common := fun (k : Nat) => ready (L.hre.comQ.filter fun e => e.rank == k)
  (((common 0).or (common 1)).or (common 2)).or (ready L.hre.locQ)

/-- An entry taken out of its queue: the first of its ring and rank. -/
def Leaf.takeEntry (L : Leaf) (e : OutEntry) : Leaf :=
  let rm := fun (q : List OutEntry) => q.eraseP fun x => x.ring == e.ring && x.rank == e.rank
  L.onHre fun H => if e.isLocal then { H with locQ := rm H.locQ } else { H with comQ := rm H.comQ }

/-- The bytes of an output entry (R474). -/
def Leaf.entryBytes (L : Leaf) (e : OutEntry) (index : Nat) : Slot :=
  let flags := L.id.num + 2 * bit e.isLocal + 4 * phaseAt index (L.get HRE_ORCFG_LOG2SIZE e.ring)
  let v := laid [(0, 4, L.count.toNat), (4, 1, e.ring), (5, 1, flags), (6, 2, pick L.hre.dropped e.ring), (8, 6, e.course.toNat),
    (16, 48, e.body.toNat)]
  BitVec.ofNat 512 (v + (slotCrc (BitVec.ofNat 512 v) <<< 112))

/-- An entry counted for its ring's vector (R481). -/
def Leaf.countVec (L : Leaf) (r : Nat) : Leaf :=
  if !L.on HRE_ORCFG_VEC_EN r then L
  else L.onHre fun H => { H with vec := alter H.vec (L.get HRE_ORCFG_VEC r) fun V => { V with
    posted := V.posted + 1, first := V.first.or (some L.count) } }

/-- The frame of an OR8 entry, written to its slot of the data area before the entry (R479). -/
def Leaf.frameWrite (L : Leaf) (e : OutEntry) : List Out :=
  let slot := L.get HRE_ORCFG_PROD e.ring % 2 ^ L.get HRE_ORCFG_LOG2SIZE e.ring
  match e.frame with
  | some (len, content) => [.netData ((L.word HRE_NRX_ADDR).toNat + 2048 * slot) len content]
  | none => []

/-- OUTPUT_ENTRY_POST (R466, R474, R475): one entry of a ring a course. A COMMON entry that meets a full ring is dropped, a
LOCAL entry waits. -/
def execOutputEntryPost (l : LeafId) (ring : Fin 10) (s : State) : Done :=
  let L := s.leaf l
  let r := ring.val
  match L.nextEntry r with
  | none => .next s
  | some e =>
    let prod := L.get HRE_ORCFG_PROD r
    let full := decide ((prod + 2 ^ 16 - L.get HRE_ORCFG_CONS r) % 2 ^ 16 = 2 ^ L.get HRE_ORCFG_LOG2SIZE r)
    guarded s (L.sending && L.master && L.ringOpen r && !L.hre.postedNow.getLsbD r && decide (L.tick < 3584)) <|
      s.setLeaf l <|
        let mark := fun (L : Leaf) => L.onHre fun H => { H with postedNow := H.postedNow ||| (1#32 <<< r) }
        if full then (if e.isLocal then L else mark ((L.takeEntry e).dropEntry r))
        else
          let L := (L.frameWrite e).foldl Leaf.emitHost L |>.takeEntry e |>.emitHost (.entry r prod (L.entryBytes e prod))
          let L := (L.put HRE_ORCFG_PROD ((prod + 1) % 2 ^ 16) r).countVec r
          mark (L.onHre fun H => { H with dropped := H.dropped.setIfInBounds r 0 })

/-- Telemetry of a course (R478): the next block selected, with its probe values of its last completed course. -/
def Leaf.telemetry (L : Leaf) : Leaf :=
  if !L.carrying then L
  else
    let next := ((List.range 64).map fun k => (L.hre.tlmLast + 1 + k) % 64).find? fun b => (L.word HRE_TLM).getLsbD b
    match next with
    | none => L
    | some b =>
      let vs := ((kvFind L.cmp.probes b).getD []).take 10
      let missing := (List.range 10).foldl (fun a k => if k < vs.length then a else a + 2 ^ k) 0
      let at_ := ((kvFind L.cmp.outAt b).getD 0).toNat
      let items := (List.range vs.length).map fun k => (24 + 4 * k, 4, unsigned 32 (vs.getD k 0))
      (L.produce { ring := 0, isLocal := false, course := L.count
                   body := body ([(16, 1, 1), (17, 1, b), (18, 2, missing), (20, 4, at_)] ++ items) }).onHre fun H =>
        { H with tlmLast := b }

/-! ### The timebase -/

/-- CRS_COUNT_READ (R57, R58): the whole count and CRS_FINE captured at one fine tick; the high half of the capture read by
a following 32-bit read. -/
def execCrsCountRead (l : LeafId) (tick : Fin 4000) (size : Nat) (high : Bool) (s : State) : Done :=
  let L := s.leaf l
  if size ≠ 8 ∧ size ≠ 4 then .next { s with readData := none }
  else if size = 4 ∧ high = true then
    .next { s with readData := some (BitVec.ofNat 64 (L.crs.cap.toNat >>> 32)) }
  else
    let v := if size = 8 then L.count.toNat else L.count.toNat % 2 ^ 32
    let L : Leaf := { L with crs := { L.crs with cap := L.count }, tick := max L.tick tick.val }
    .next (({ s with readData := some (BitVec.ofNat 64 v) } : State).setLeaf l
      (L.setWord CRS_FINE_CAP 0 (BitVec.ofNat 64 (fineAt L.count tick.val).toNat)))

/-- The correction of R409 in 0.01 ppm, from S10 or, while it is broken, from the median of the healthy die sensors. -/
def Leaf.correction (L : Leaf) : Option Rat :=
  let sample := fun (i : Nat) => (pick L.thm.sensors i).last.head?
  let t : Option Rat := if L.sensorBroken 10 then
      (let l := (List.range 12).filterMap fun i => if L.sensorBroken i then none else sample i
       if l.isEmpty then none else some (median l))
    else (sample 10).map fun v => (v : Rat)
  t.map fun t =>
    let d : Rat := t / 16 - 25
    let c := fun (hi lo : Nat) => (signed 16 (fieldOf (L.word THM_XO) hi lo) : Rat)
    (c 63 48 / 1000 * d + c 47 32 / 100000 * (d * d) + c 31 16 / 10000000 * (d * d * d)) * 100

/-- TIMEBASE_COMPENSATION (R31, R32, R409): every 1,600 courses; the FOLLOW leaf adds its trim. Before the first sample the
correction stays. -/
def execTimebaseCompensation (l : LeafId) (s : State) : Done :=
  let L := s.leaf l
  guarded s (L.role != .boot && decide (1600 ≤ since L.count L.crs.compAt)) <| s.setLeaf l <|
    match L.correction with
    | none => { L with crs := { L.crs with compAt := L.count } }
    | some c =>
      let v := clampInt (-(2 ^ 15)) (2 ^ 15 - 1) (Config.rnd c)
      let trim := if L.taking then signed 16 (L.get ⟨CRS_ALIGN, 31, 16⟩) else 0
      (({ L with crs := { L.crs with compAt := L.count, pll := v + trim } } : Leaf).put ⟨THM_XO, 15, 0⟩ (unsigned 16 v)).put
        CRS_STAT_COMP_ACTIVE 1

end Sys2Proof.Machine
end

