-- ==== Sys2Proof/Machine/Startup.lean ====
section
/-! DEFINITION. The module states (R5, R588 to R600): supplies and wake, the boot sequence, READY, CARRY and WORKSHOP,
park and reset. -/

namespace Sys2Proof.Machine

open Sys2Proof

/-! ### Resets -/

/-- Offsets whose value stands in the ferroelectric store, in flash or in production values: no reset changes them
(R34, R544, R601, R613). -/
def storedOffset (off : Nat) : Bool :=
  [CRS_EPOCH.base, LDG_HEAD.base, LDG_CAPST.base, LDG_STAT.base, NET_MACH.base, NET_MACA.base, THM_XO.base,
    THM_REFTC.base].contains off || (List.range 4).any fun k => off == LDG_E.addr k

/-- A leaf after a module reset or a power cycle (R601): stores and flash kept, all else as at reset. -/
def Leaf.moduleReset (L : Leaf) : Leaf :=
  let locked := L.get CHG_FLT_LOCKED
  let prod := L.get SEC_STAT_PROD_LOCK
  let N : Leaf := {
    id := L.id, out := L.out
    regs := L.regs.filter fun p => storedOffset p.1
    ldg := { ring := L.ldg.ring, archive := L.ldg.archive, superseded := L.ldg.superseded, lastDigest := L.ldg.lastDigest
             sent := L.ldg.sent, chainE := L.ldg.chainE, gen := L.ldg.gen, carryA := L.ldg.carryA, carryB := L.ldg.carryB
             lost := L.ldg.lost, pub := L.ldg.pub }
    his := L.his.kept 0
    act := { saved := L.act.saved }
    upd := { L.upd with stream := none, reverting := false, mixedAt := none, mixEventAt := none }
    bst := { badSegs := L.bst.badSegs, spares := L.bst.spares } }
  ((N.put CHG_FLT_LOCKED locked).put SEC_STAT_PROD_LOCK prod).put SEC_STAT_IKEY (bit L.upd.ikey.isSome)
    |>.put BST_MEM_SPARES_USED (L.bst.spares.toList.foldl (fun a b => a + b) 0)

/-- Both leaves in reset, the shared outputs at their resistor-set states, the crash latch and the service session cleared
(R304, R600, R601). -/
def State.resetAll (s : State) (m : Mode) : State :=
  let s := { s.both Leaf.moduleReset with mode := m, sec := {}, xcvr := Vector.replicate 4 none }
  { s with
    arb := { s.arb with crash := false }
    pins := { s.pins with resetN := false, bootDead := false, idleFrom := none, armed := m == Mode.park } } |>.idleOutputs

/-- BOOT entered, with the wake cause of GLB_WAKE (R588, R600, R616). -/
def State.enterBoot (s : State) (cause : Nat) : State :=
  let s := s.resetAll .boot
  s.both fun L => L.put GLB_WAKE_CAUSE cause |>.put GLB_WAKE_UNCLEAN (bit s.pins.unclean)

/-! ### Supplies and wake -/

/-- SUPPLY_APPLIED (R5, R626). -/
def execSupplyApplied (s : State) : Done :=
  guarded s (s.mode == .off) { s.resetAll .park with pins := { s.pins with keep := true, resetN := false, armed := true } }

/-- WAKE (R5, R588). -/
def execWake (wakeMv heldUs vlvMv : Nat) (s : State) : Done :=
  let s' : State := { s with pins := { s.pins with wake := true, vlv := s.pins.vlv || decide (16000 < vlvMv) } }
  guarded s (decide (5000 < wakeMv) && decide (1000 ≤ heldUs))
    (if s.mode == .park && s.pins.armed && decide (16000 < vlvMv) then s'.enterBoot 1 else s')

/-- CP_WAKE (R5, R588): the filtered control pilot. -/
def execCpWake (cpMv heldUs vlvMv : Nat) (s : State) : Done :=
  guarded s (s.mode == .park && s.pins.armed && decide (1500 < cpMv) && decide (5000 ≤ heldUs) && decide (16000 < vlvMv))
    (({ s with pins := { s.pins with vlv := true } } : State).enterBoot 2)

/-- WAKE_RELEASE (R5): in CARRY an event, and nothing else. -/
def execWakeRelease (s : State) : Done :=
  let s := { s with pins := { s.pins with wake := false } }
  .next (if s.mode == .carry then s.both fun L => if L.carrying then L.event 0x0701 else L else s)

/-- The supplies fail: each leaf falls silent, and no PARK record is written (R427, R590). -/
def State.failSupplies (s : State) (m : Mode) : State :=
  let s := s.both fun L => if L.cut || !L.carrying then L else L.cutOff 4 L.tick
  let unclean := s.pins.unclean || !(s.mode == .off || s.mode == .park)
  { s.resetAll m with pins := { s.pins with
      vlv := false, wake := false, unclean := unclean, resetN := false, bootDead := false, idleFrom := none, armed := m == Mode.park } }

/-- SUPPLY_LOST (R5, R590). -/
def execSupplyLost (vlv0Mv vlv1Mv heldUs : Nat) (keep : Bool) (s : State) : Done :=
  let awake := !(s.mode == .off || s.mode == .park)
  guarded s (awake && decide (vlv0Mv < 15000) && decide (vlv1Mv < 15000) && decide (2000 ≤ heldUs))
    (({ s with pins := { s.pins with keep := keep } } : State).failSupplies (if keep then .park else .off))

/-- ALL_SUPPLIES_LOST (R5, R626). -/
def execAllSuppliesLost (s : State) : Done :=
  .next (({ s with pins := { s.pins with keep := false } } : State).failSupplies .off)

/-! ### RESET_N -/

/-- RESET_N_ASSERT (R5, R600): pulses shorter than 2 µs are ignored, of 10 µs or longer taken; between, the spec states
neither (log entry 4). While it is asserted the leaves are in reset and the outputs idle. -/
def execResetNAssert (ns : Nat) (s : State) : Done :=
  let (free, t) := s.take
  let s := if 2000 ≤ ns ∧ ns < 10000 then t else s
  let taken := decide (10000 ≤ ns) || (decide (2000 ≤ ns) && free % 2 == 1)
  guarded s (taken && s.mode != .off)
    (let r := s.resetAll .boot
     { r with pins := { r.pins with resetN := true } })

/-- RESET_N_RELEASE (R5, R600). -/
def execResetNRelease (vlvMv : Nat) (s : State) : Done :=
  guarded s s.pins.resetN
    (let up := decide (16000 < vlvMv)
     let s := { s with pins := { s.pins with vlv := up } }
     if up then s.enterBoot 3 else s.resetAll .park)

/-- RESET (R597): GLB_CMD.RESET written directly, in READY and WORKSHOP. -/
def execReset (_l : LeafId) (s : State) : Done :=
  guarded s s.setup (if s.pins.vlv then s.enterBoot 3 else s.resetAll .park)

/-! ### BOOT -/

/-- The settings a leaf boots with (R578, R581, R582): CURRENT, or PREVIOUS, or generation 0 with SET_CORRUPT; a generation
that SET_APPLY refused is CURRENT now. -/
def Leaf.bootSettings (L : Leaf) (r : BootLeaf) : Leaf :=
  let L := L.onUpd fun U => { U with factory := r.factory }
  let L := match r.settings.val with
    | 0 => L
    | 1 => L.onUpd fun U => { U with current := U.previous, previous := none }
    | _ => L.onUpd fun U => { U with current := none, previous := none }
  let L := if L.upd.atBoot && L.upd.staged.isSome then
      L.onUpd fun U => { U with
        current := U.staged, previous := U.current, staged := none, atBoot := false, genUnconf := true }
    else L
  if r.settings = 0 then L else L.raise (updFlag 3)

/-- A leaf through the steps of R592 up to the gate-channel self-test, in order: its state, and the step that put it in OUT. -/
def Leaf.bootSteps (L : Leaf) (ev : Bool) (r : BootLeaf) : Leaf × Option Nat :=
  let L := (L.put CRS_EPOCH_EPOCH ((L.get CRS_EPOCH_EPOCH + 1) % 2 ^ 32)).put SEC_STAT_DEBUG_OPEN (bit ev)
    |>.put LDG_STAT_TEST_KEY (bit ev)
  if !r.bist && !r.bistRepeat then (L, some 0)
  else
    let L := if r.bist then L else L.bump BST_CNT_TRANS
    let (L, ok) := L.bootSlot r.start.imageA r.start.imageB
    let L := L.bootSettings r
    if !ok || !admitSettings L.inForce then (L, some 1)
    else
      let L := ((L.migrate.applyStart r.start.enginesBad r.start.cal r.start.ftBad).startUp).loadBinds L.inForce.binds
      let L := L.put GLB_STAT_BOOT_FAIL (4 * bit (!r.start.enginesBad.isEmpty) +
        8 * bit ((List.range 40).any fun n => L.get SNS_CONV_STATE n == 3))
      if 8 < r.noStatus then (L, some 4) else (L.seedSwitches, none)

/-- The gate-channel self-test on a channel (R237, R241, R594): its latency, its strap, and the comparators that failed
twice; a channel on in a strap state has none tested. -/
def State.bootChan (s : State) (i : Nat) (b : BootChan) : State :=
  let c := s.chan i
  if !c.bias then s
  else
    let tb := c.tb.map fun t => { t with latency := b.latency }
    let strapOn := b.strap == 2
    let failed := if strapOn then 0 else b.failed
    let s := (s.setChan i { c with
      tb := tb, strap := b.strap.toNat, st := if c.st == .noBias then .fallback else c.st
      testFail := c.testFail ||| failed }).settlePair i (c.fineOf 0)
    if failed &&& 0x0F = 0 then s else s.latchPair (evenOf i)

/-- Records of the partner's verified chain that a leaf does not hold, taken before READY (R547). -/
def Leaf.takeChain (L P : Leaf) : Leaf :=
  let have_ := L.get LDG_HEAD_RECNO
  let all := (P.ldg.archive.map fun r => (r, false)) ++ P.ldg.ring.map fun r => (r.rec_, r.pending)
  (all.filter fun r => decide (have_ < lrRecno r.1)).foldl (fun L r => L.storeRecord r.1 r.2) L

/-- CRS_EPOCH of the newest record of the chain (R541). -/
def Leaf.lastEpoch (L : Leaf) : Nat :=
  match (L.ldg.archive ++ L.ldg.ring.map (·.rec_)).getLast? with
  | some r => lrField r 24 4
  | none => 0

/-- A leaf becomes LEAD at the end of BOOT (R423, R547): voice is its own, and the BOOT or GENESIS record is written. `P` is
the partner where MARKs came from it. -/
def State.bootLead (s : State) (l : LeafId) (r : BootLeaf) (p : Option BootLeaf) : State :=
  let P := s.leaf l.other
  let better := p.any fun q =>
    q.chainOk && (!r.chainOk || decide ((s.leaf l).get LDG_HEAD_RECNO < P.get LDG_HEAD_RECNO))
  let ok := r.chainOk || p.any (·.chainOk)
  let highest := max r.highest ((p.map (·.highest)).getD 0)
  let unclean := s.pins.unclean
  s.leadAlone l |>.on l fun L =>
    let L := if better then L.takeChain P else L
    L.recordBoot ok highest unclean L.lastEpoch

/-- A leaf that BOOT puts in OUT, with the step that failed (R592). -/
def State.bootOut (s : State) (l : LeafId) (step : Nat) : State :=
  let s := s.on l fun L => (L.setRole .out).put GLB_STAT_BOOT_FAIL (L.get GLB_STAT_BOOT_FAIL ||| 2 ^ step)
  s.on l.other fun P => P.put TIE_STAT_PARTNER 4

/-- The leaf LEAD0 prefers (R425), but for one whose timebase did not lock (R33) or that needs its partner's settings
generation (R581). -/
def State.bootFirst (s : State) (r0 r1 : BootLeaf) : LeafId :=
  let pref := if s.leaf0.on TIE_CTRL_LEAD0 then LeafId.leaf0 else .leaf1
  let lock := fun (l : LeafId) => match l with
    | .leaf0 => r0.tbLock
    | .leaf1 => r1.tbLock
  let gen := fun (l : LeafId) => (s.leaf l).inForce.gen
  if !lock pref && lock pref.other then pref.other
  else if r0.marks && r1.marks && decide (gen pref < gen pref.other) then pref.other else pref

/-- The end of the sequence with at least one leaf passed (R5, R592, R593). -/
def State.bootRoles (s : State) (r0 r1 : BootLeaf) (ok0 ok1 : Bool) : State :=
  let res := fun (l : LeafId) => match l with
    | .leaf0 => r0
    | .leaf1 => r1
  let both := ok0 && ok1
  let lead := if both then s.bootFirst r0 r1 else if ok0 then .leaf0 else .leaf1
  let meet := both && (res lead).marks && (res lead.other).marks
  let L := s.leaf lead
  let P := s.leaf lead.other
  let fmt := if meet then min L.running.mirMax P.running.mirMax else L.running.mirMax
  let s := s.both fun L => { L with tie := { L.tie with mirrorFmt := fmt } }
  let s := s.bootLead lead (res lead) (if meet then some (res lead.other) else none)
  let s := s.on lead Leaf.showUpd
  if !both then s
  else if !(res lead.other).marks then s
  else
    let differ := decide (L.inForce.gen = P.inForce.gen) && L.inForce.digest != P.inForce.digest
    let s := if differ then s.on lead fun L => L.differEvent 18 0xFF L.inForce.gen P.inForce.gen L.count else s
    let up := fun (L : Leaf) => { L with tie := { L.tie with lanes := L.tie.lanes.map fun n => { n with up := true } } }
    ((s.both up).enterAlign lead.other).on lead fun L => L.put TIE_STAT_PARTNER 3

/-- BOOT_COMPLETE (R5, R591 to R594). -/
def execBootComplete (r0 r1 : BootLeaf) (chans : Vector BootChan 48) (ms : Nat) (s : State) : Done :=
  guarded s (s.mode == .boot && !s.pins.bootDead && !s.pins.resetN) <|
    let (L0, f0) := s.leaf0.bootSteps s.variantEv r0
    let (L1, f1) := s.leaf1.bootSteps s.variantEv r1
    let s := { s with leaf0 := L0, leaf1 := L1 }
    let s := (List.range 48).foldl (fun s i => match chans[i]? with
      | some b => s.bootChan i b
      | none => s) s
    let s := match f0 with
      | some k => s.bootOut .leaf0 k
      | none => s
    let s := match f1 with
      | some k => s.bootOut .leaf1 k
      | none => s
    if f0.isSome && f1.isSome then { s with pins := { s.pins with bootDead := true } }
    else
      let s := s.bootRoles r0 r1 f0.isNone f1.isNone
      let s := (s.on .leaf0 fun L => L.put HRE_STAT_LINK_UP (bit r0.linkUp)).on .leaf1 fun L =>
        L.put HRE_STAT_LINK_UP (bit r1.linkUp)
      let s := s.both fun L =>
        ({ L with hre := { L.hre with crsRetry := false } } : Leaf).put GLB_STAT_READY_MS (min ms 1023)
      { s with mode := .ready, pins := { s.pins with unclean := false } }

/-- TIE_ABSENT_AT_BOOT (R593): no MARK came, and 3,200 courses more have passed. -/
def execTieAbsentAtBoot (courses : Nat) (s : State) : Done :=
  let wait := if s.leaf0.role == .boot then some LeafId.leaf0 else if s.leaf1.role == .boot then some .leaf1 else none
  match wait with
  | none => .next s
  | some l =>
    guarded s (decide (3200 ≤ courses) && (s.mode == .ready || s.mode == .carry || s.mode == .workshop)) <|
      if (s.leaf l.other).role == .lead && !(s.leaf l.other).cut then
        ((s.bootOut l 5).on l fun L => L.raise TIE_FLT_TIE_LOST)
      else s.leadAlone l

/-! ### READY, CARRY and WORKSHOP -/

/-- CARRY (R5, R595): at the effective course of the committed command. -/
def execCarry (s : State) : Done :=
  match s.takeModule GLB_CMD.base 63 [62, 61] with
  | (none, _) => .next s
  | (some _, t) =>
    if t.mode != .ready then .next t
    else
      let t := t.both Leaf.lockTable
      let t := match t.leadId with
        | some l => t.on l fun L => L.openSession 1
        | none => t
      .next { t with mode := .carry, pins := { t.pins with idleFrom := none } }

/-- LEAVE (R5, R596): at the effective course of the committed command. -/
def execLeave (s : State) : Done :=
  match s.takeModule GLB_CMD.base 62 [63, 61] with
  | (none, _) => .next s
  | (some _, t) =>
    if t.mode != .carry then .next t
    else
      let t := match t.leadId with
        | some l => t.on l fun L => L.closeSession 0
        | none => t
      .next { t with mode := .ready }

/-- A right of R610: of the open session, or on EV every one but PROD without a session (R611). -/
def State.right (s : State) (k : Nat) : Bool := (s.sec.who != 0 && s.sec.rights.getLsbD k) || (s.variantEv && k != 5)

/-- WORKSHOP_ENTRY (R5, R598). -/
def execWorkshopEntry (s : State) : Done :=
  guarded s (s.mode == .ready && s.right 0)
    { s with mode := .workshop, pins := { s.pins with idleFrom := none }
             sec := { s.sec with accessAt := s.leaf0.count } }

/-- WORKSHOP_EXIT (R5, R598). -/
def execWorkshopExit (s : State) : Done := guarded s (s.mode == .workshop) { s with mode := .ready }

/-! ### Park -/

/-- The leaves' capstones signed in record order with the signatures computed. -/
def Leaf.signAll (L : Leaf) (sigs : List (BitVec 512)) : Leaf :=
  sigs.foldl (fun L g =>
    if L.ldg.ring.any (·.pending) then
      (L.put LDG_STAT_SIGN_PENDING (L.get LDG_STAT_SIGN_PENDING - 1)).onLdg fun G => { G with
        ring := signFirst (fun x => { x with pending := false, rec_ := { x.rec_ with sig := g } }) G.ring }
    else L) L

/-- Records from the oldest on that are complete, archived. -/
def Leaf.archiveAll (L : Leaf) : Leaf :=
  let done := L.ldg.ring.takeWhile fun r => !r.pending
  let n := done.length
  (L.put LDG_STAT_FREE (L.get LDG_STAT_FREE + n) |>.put LDG_STAT_ARCH_LAG (L.get LDG_STAT_ARCH_LAG - n)).onLdg fun G =>
    { G with ring := G.ring.drop n, archive := G.archive ++ done.map (·.rec_) }

/-- PARK_ENTRY (R5, R589): with the signatures of the capstones that wait, the PARK record's last. -/
def execParkEntry (sigs : List (BitVec 512)) (s : State) : Done :=
  let idle := s.pins.idleFrom.any fun c => decide (160000 ≤ since s.leaf0.count c)
  guarded s (s.mode == .ready && !s.pins.wake && idle) <|
    let s := s.both fun L => if L.computing then (L.closeHour true).closeDay else L
    let s := match s.leadId with
      | none => s
      | some l =>
        let s := s.on l fun L => (L.recordPark).signAll sigs
        let L := s.leaf l
        match s.followId with
        | none => s
        | some f => s.on f fun P => P.takeChain L
    let s := s.both fun L => if L.computing then (L.archiveAll).writeCarry else L
    s.resetAll .park

end Sys2Proof.Machine
end

