-- ==== Sys2Proof/Machine/Service.lean ====
section
/-! DEFINITION. Self-test in service (R602 to R607), the diagnostic window (R608), and the service port (R609 to R613). -/

namespace Sys2Proof.Machine

open Sys2Proof

/-! ### Memories -/

/-- The memory a segment lies in: 0 keystone SRAM, 1 helper SRAM, 2 gate scheduler, 3 descriptor store, 4 ledger unit (R603). -/
def segMemory (seg : Nat) : Nat :=
  if seg < 512 then 0 else if seg < 576 then 1 else if seg < 640 then 2 else if seg < 672 then 3 else 4

/-- A segment that failed its repeat: mapped out to a spare, or none is left (R604). -/
def Leaf.mapOut (L : Leaf) (seg : Nat) (partner : Bool) : Leaf :=
  let m := segMemory seg
  let used := pick L.bst.spares m
  if used < 2 then
    (({ L with bst := { L.bst with
        badSegs := L.bst.badSegs ++ [seg], spares := L.bst.spares.setIfInBounds m (used + 1) } } : Leaf).bump
      BST_MEM_SPARES_USED).stick (BST_FLT_FLAGS.bit 0)
  else
    let L := L.raise (BST_FLT_FLAGS.bit 1)
    if partner then L.planOut else { L with bst := { L.bst with carriedOn := true, eventAt := L.count } }

/-- MEMORY_TEST_STEP (R602 to R604): 160 courses of a step that began MEM_GAP courses after the last one ended. -/
def execMemoryTestStep (l : LeafId) (pass passRepeat : Bool) (s : State) : Done :=
  let L := s.leaf l
  guarded s (L.computing && decide (L.get BST_CTRL_MEM_GAP + 160 ≤ since L.count L.bst.stepEnd)) <| s.setLeaf l <|
    let seg := L.get BST_MEM_SEG
    let next := (seg + 1) % 688
    let L := (L.bump BST_CNT_MEM_STEPS).put BST_STAT_PASS (bit (pass || passRepeat)) |>.put BST_STAT_UNIT 8
      |>.put BST_STAT_COURSE L.count.toNat |>.put BST_MEM_SEG next
    let L := if next = 0 then L.put BST_MEM_SWEEP_END L.count.toNat else L
    let L := { L with bst := { L.bst with stepEnd := L.count } }
    if pass then L
    else if passRepeat then L.bump BST_CNT_TRANS
    else if L.bst.badSegs.contains seg then L
    else L.mapOut seg (s.partnerCarries l)

/-- A leaf that carries on with a failed segment posts its event every 1,600 courses (R604). -/
def Leaf.sealBst (L : Leaf) : Leaf :=
  if L.bst.carriedOn && decide (1600 ≤ since L.count L.bst.eventAt) then
    ({ L with bst := { L.bst with eventAt := L.count } } : Leaf).bitEvent (BST_FLT_FLAGS.bit 1) 0 1
  else L

/-- SCRUB (R25, R605): a word read, of an SRAM or of the DRAM with the progress of its sweep in 1/256; what was found, if
anything: where, and whether a single bit. -/
def execScrub (l : LeafId) (found : Option (ErrLoc × Bool)) (dram : Bool) (sweep : Byte) (s : State) : Done :=
  let L := s.leaf l
  guarded s (L.computing || L.role == .out) <| s.setLeaf l <|
    let L := if dram then L.put BST_SCRUB_DRAM_PROG sweep.toNat else L
    match found with
    | none => L
    | some (loc, single) =>
      let L := if single then L.bump (if dram then BST_SCRUB_DRAM_CE else BST_SCRUB_SRAM_CE) else L
      L.memoryError loc single

/-! ### Full-leaf BIST -/

/-- A full BIST of a leaf begins (R606): a LEAD leaf swaps first, and the leaf leaves its role from the next course. -/
def State.startFull (s : State) (l : LeafId) : State :=
  (s.yieldLead l).on l fun L => (L.abortTests (fun _ => true) 4).planRole (L.count + 1) .restart causeBist

/-- FULL_BIST (R606). -/
def execFullBist (target : LeafId) (direct : Bool) (s : State) : Done :=
  if direct then
    if !s.setup then .next s
    else if s.refuseFull target then
      onLeaf s target fun L => L.discard BST_CMD.base (hostId target) (2 ^ 63 + 2 ^ 62 * target.num)
    else .next (s.startFull target)
  else
    match s.takeModule BST_CMD.base 63 [] with
    | (none, _) => .next s
    | (some w, t) => .next (t.startFull (if w.getLsbD 62 then .leaf1 else .leaf0))

/-- FULL_BIST_COMPLETE (R602, R606, R607): the tests end, 33,600 courses after they began. -/
def execFullBistComplete (l : LeafId) (r : BistRes) (s : State) : Done :=
  let L := s.leaf l
  guarded s (L.role == .restart && L.bst.fullAt.any fun c => decide (33600 ≤ since L.count c)) <|
    let other := r.failed.filter fun u => u.val != 0 && u.val != 4 && u.val != 7
    let L := (L.bumpBy BST_CNT_TRANS r.transient.length).showTest ((other.head?.map (·.val)).getD 7) r.signature r.expected
    let L := (L.put BST_STAT_PASS (bit r.failed.isEmpty)).put BST_STAT_BUSY 0
    let L := { L with bst := { L.bst with fullAt := none }, tie := { L.tie with restartAt := L.count } }
    if other.isEmpty then s.setLeaf l (L.applyStart r.enginesBad r.cal [])
    else
      let L := L.stick (BST_FLT_FLAGS.bit 2)
      let L := if other.any fun u => u.val == 1 || u.val == 2 then L.stick (BST_FLT_FLAGS.bit 3) else L
      let L := if other.any fun u => u.val == 6 then L.stick (BST_FLT_FLAGS.bit 4) else L
      (s.setLeaf l L).enterOut l

/-! ### Diagnostic window -/

/-- The diagnostic window responds (R608). -/
def State.mayDiag (s : State) : Bool := s.setup && s.right 2

/-- The word BST_DADDR names: space, engine, byte address (R616). -/
def Leaf.diagAddr (L : Leaf) : Nat × Nat × Nat :=
  (L.get BST_DADDR_SPACE, if L.get BST_DADDR_SPACE = 2 then L.get BST_DADDR_ENGINE else 0, L.get BST_DADDR_ADDR / 8 * 8)

/-- DIAG_READ (R608): the word and check byte as the memory holds them; one stored by an injection reads as stored. -/
def execDiagRead (l : LeafId) (data : Word) (check : Byte) (s : State) : Done :=
  if !s.mayDiag then .next { s with readData := some 0 }
  else
    let L := s.leaf l
    let (d, c) := ((L.bst.injected.find? fun p => p.1 == L.diagAddr).map (·.2)).getD (data, check)
    .next { s.setLeaf l ((L.setWord BST_DDATA 0 d).put BST_DCHK_CHECK c.toNat) with readData := some d }

/-- INJECT (R608): on EV in every state, on AQ in WORKSHOP. -/
def execInject (l : LeafId) (check : Byte) (s : State) : Done :=
  guarded s (s.variantEv || (s.mode == .workshop && s.right 2)) <| s.on l fun L =>
    let a := L.diagAddr
    let rest := L.bst.injected.filter fun p => p.1 != a
    ({ L with bst := { L.bst with injected := rest ++ [(a, (L.word BST_DDATA, check))] } } : Leaf).put BST_DCHK_CHECK check.toNat

/-! ### Service sessions -/

/-- GLB_ID of a leaf (R14). -/
def State.glbId (s : State) (l : LeafId) : Word :=
  BitVec.ofNat 64 (0x4824 + l.num * 2 ^ 16 + s.srev.toNat * 2 ^ 24 + bit s.variantEv * 2 ^ 32)

/-- The module is awake. -/
def State.awake (s : State) : Bool := !(s.mode == .off || s.mode == .park || s.pins.resetN)

/-- A message on J5. -/
def State.sayJ5 (s : State) (step : Nat) (content : List Nat) : State :=
  { s with leaf0 := { s.leaf0 with out := s.leaf0.out ++ [Out.j5 step content] } }

/-- SESSION_OPEN_REQUEST (R609): step 1. -/
def execSessionOpenRequest (nonce : BitVec 256) (serial : BitVec 128) (s : State) : Done :=
  guarded s (s.awake && s.sec.who == 0)
    (({ s with sec := { s.sec with nonce := some (nonce, s.leaf0.count) } } : State).sayJ5 1
      [nonce.toNat, (s.glbId .leaf0).toNat, (s.glbId .leaf1).toNat, serial.toNat])

/-- The authority a chain leads to is one the identity may use (R609). -/
def State.authorityOk (s : State) (a : AuthRx) : Bool :=
  match a.who.val with
  | 5 => a.authority.val == 0 || (a.authority.val == 1 && s.leaf0.upd.ikey.isSome)
  | 7 => a.authority.val == 2
  | _ => false

/-- The rights an identity may hold (R610, R613). -/
def State.allowedRights (s : State) (who : Nat) : BitVec 6 :=
  if who = 5 then 0x0F else if s.leaf0.on SEC_STAT_PROD_LOCK then 0x1F else 0x3F

/-- A failed attempt (R610): after three in a row a lockout, doubled by each further one. -/
def State.authFails (s : State) : State :=
  let n := s.sec.fails + 1
  let s := s.both fun L => (L.bump SEC_CNT_FAILS).stick (SEC_FLT_FLAGS.bit 0)
  let s := { s with sec := { s.sec with fails := n, nonce := none } }
  if n < 3 then s
  else
    let len := if s.sec.lockLen = 0 then 9600000 else min (2 * s.sec.lockLen) 576000000
    let s := { s with sec := { s.sec with lockLen := len, lockAt := some s.leaf0.count } }
    s.both fun L => (L.put SEC_STAT_LOCKOUT 1).stick (SEC_FLT_FLAGS.bit 1)

/-- AUTHENTICATION (R609, R610, R613): steps 2 and 3. -/
def execAuthentication (a : AuthRx) (s : State) : Done :=
  let now := s.leaf0.count
  let fresh := s.sec.nonce.any fun n => decide (since now n.2 < 9600000)
  guarded s (s.awake && s.sec.who == 0 && s.sec.lockAt.isNone) <|
    if fresh && a.chainOk && a.sigOk && s.authorityOk a then
      let rights := a.rights &&& a.certRights &&& s.allowedRights a.who
      let s := { s with sec := { s.sec with
        nonce := none, who := a.who.val, rights := rights, accessAt := now, fails := 0, lockLen := 0 } }
      let s := s.both fun L => ((L.put SEC_STAT_SESSION a.who.val).put SEC_STAT_RIGHTS rights.toNat
        |>.put SEC_STAT_SINCE L.count.toNat).bump SEC_CNT_SESSIONS
      s.sayJ5 3 [rights.toNat]
    else s.authFails

/-- AUTH_LOCKOUT_EXPIRY (R610). -/
def execAuthLockoutExpiry (s : State) : Done :=
  guarded s (s.sec.lockAt.any fun c => decide (s.sec.lockLen ≤ since s.leaf0.count c))
    (({ s with sec := { s.sec with lockAt := none } } : State).both fun L => L.put SEC_STAT_LOCKOUT 0)

/-- EXTEST and INTEST no longer loaded: the output paths carry again (R612). -/
def State.endScan (s : State) : State :=
  if s.sec.scan then
    { s with sec := { s.sec with scan := false } }.both fun L => { L with cut := L.cut && L.crs.roleAt.isSome }
  else s

/-- SESSION_END (R496, R598, R610): 0 on release, 1 on disconnection of J5, 2 after IDLE_T seconds without an access. -/
def execSessionEnd (cause : Fin 3) (s : State) : Done :=
  let idle := decide (s.leaf0.get SEC_CTRL_IDLE_T * 160000 ≤ since s.leaf0.count s.sec.accessAt)
  guarded s (s.sec.who != 0 && (cause.val != 2 || idle)) <|
    let who := s.sec.who
    let s := s.endScan
    let s := s.both fun L =>
      let L := if reaches L.id who then L.masterLost who else L
      L.put SEC_STAT_SESSION 0 |>.put SEC_STAT_RIGHTS 0
    { s with sec := { s.sec with who := 0, rights := 0 }, mode := if s.mode == .workshop then .ready else s.mode }

/-- DEBUG_HALT (R87, R611): of the keystone, or of an engine. -/
def execDebugHalt (l : LeafId) (keystone : Bool) (e : Fin 24) (s : State) : Done :=
  guarded s s.mayDebug <|
    let s := s.both fun L => L.put SEC_STAT_DBG_USED 1
    let L := s.leaf l
    let split := (L.bondOf e).any fun p => match (L.pairx p).split with
      | some false => L.get ASH_PAIR_ENG_A p == e.val
      | some true => L.get ASH_PAIR_ENG_B p == e.val
      | none => false
    let stops := keystone || ((L.bondOf e).isSome && !split)
    s.setLeaf l <|
      if s.mode == .carry && stops then
        { L.goSilent 1 L.tick with bst := { L.bst with halted := true } }
      else L

/-- DEBUG_RELEASE (R611): a leaf that the halt silenced restarts now. -/
def execDebugRelease (l : LeafId) (s : State) : Done :=
  let L := s.leaf l
  guarded s L.bst.halted <| s.setLeaf l
    { L with bst := { L.bst with halted := false }, tie := { L.tie with restartAt := L.count } }

/-- SCAN_INSTRUCTION (R612): EXTEST or INTEST loaded, or no longer. -/
def execScanInstruction (loaded : Bool) (s : State) : Done :=
  if loaded then
    guarded s (s.mode == .workshop && s.right 4 && s.leaf0.stagesOff && s.leaf1.stagesOff)
      (({ s with sec := { s.sec with scan := true } } : State).both fun L => { L with cut := true })
  else .next s.endScan

/-- The session of production (R613). -/
def State.producing (s : State) : Bool := s.sec.who == 7 && s.sec.rights.getLsbD 5

/-- KEY_GENERATE (R613): the public half is exported on J5. -/
def execKeyGenerate (l : LeafId) (pub : BitVec 512) (s : State) : Done :=
  guarded s s.producing ((s.on l fun L => L.onLdg fun G => { G with pub := pub }).sayJ5 4 [l.num, pub.toNat])

/-- PROD_LOCK (R613): production has ended, and its right with it. -/
def execProdLock (s : State) : Done :=
  guarded s s.producing
    (({ s with sec := { s.sec with rights := s.sec.rights &&& 0x1F } } : State).both fun L =>
      L.put SEC_STAT_PROD_LOCK 1 |>.put SEC_STAT_RIGHTS (s.sec.rights &&& 0x1F).toNat)

end Sys2Proof.Machine
end

