-- ==== Sys2Proof/Machine/Regs.lean ====
section
/-! DEFINITION. Reads and writes of the registers (R8 to R13, R643 to R646): what a BAR access does where no other row of
the table has it. An offset of BAR2 has 0x10_0000 added. -/

namespace Sys2Proof.Machine

open Sys2Proof

/-- An access by a tool on J5 is open (R611): under the DEBUG right of its session, or on EV, where a write needs READY or
WORKSHOP on AQ. -/
def State.toolMay (s : State) (who : Nat) (write : Bool) : Bool :=
  (s.variantEv || (s.sec.who == who && s.sec.rights.getLsbD 1)) && (!write || s.variantEv || s.setup)

/-- An access reaches the registers of a leaf (R489, R611): BAR2 is open to every identity that reaches the leaf, BAR0 to
the host, the leaf's own keystone and a tool. A leaf in full BIST shows GLB_ID and BST_STAT alone (R606). -/
def State.mayAccess (s : State) (l : LeafId) (off who : Nat) (write : Bool) : Bool :=
  s.awake && s.mode != .boot && reaches l who &&
    (decide (0x100000 ≤ off) || ((who != 6) && (!(who == 5 || who == 7) || s.toolMay who write)))

/-- An access of 8 bytes at an 8-byte aligned offset, or of 4 bytes to either half; any other is completed with Completer
Abort (R10). -/
def sizeOk (off size : Nat) : Bool := (size == 8 && off % 8 == 0) || (size == 4 && off % 4 == 0)

/-- The session's last access (R610). -/
def State.touch (s : State) (who : Nat) : State :=
  if who != 0 && s.sec.who == who then { s with sec := { s.sec with accessAt := s.leaf0.count } } else s

/-! ### Writes -/

/-- Registers that take 64-bit writes alone (R644). -/
def wholeOnly (r : Reg) : Bool := [HRE_DB_ADDR, HRE_SB_ADDR, HRE_NRX_ADDR, HRE_IRBASE, HRE_ORBASE].contains r

/-- The bits a write reaches. -/
def laneMask (off size : Nat) : Word := if size = 8 then maskOf 63 0 else if off % 8 = 4 then maskOf 63 32 else maskOf 31 0

/-- The value a write carries, at the bits it reaches. -/
def laneValue (off size : Nat) (value : Word) : Word :=
  if size = 8 then value else if off % 8 = 4 then value <<< 32 else value &&& maskOf 31 0

/-- Values set at production (R613). -/
def madeAtWorks (r : Reg) : Word :=
  if r == THM_XO then maskOf 63 16 else if r == THM_REFTC then maskOf 63 32
  else if r == NET_MACH || r == NET_MACA then maskOf 47 0 else 0

/-- A direct write of a settings register in READY or WORKSHOP (R9, R13, R549): LDG_CAL and LDG_PACK in WORKSHOP alone; a
value its chapter does not admit is discarded with an event. -/
def State.writeRws (s : State) (l : LeafId) (r : Reg) (i : Nat) (new : Word) (who : Nat) : State :=
  let L := s.leaf l
  let bad := ((r == LDG_CAL || r == LDG_PACK) && s.mode != .workshop) || (L.refuseRws r i new).isSome
  s.setLeaf l (if bad then L.discard (r.addr i) who new.toNat else L.storeRws r i new L.count)

/-- A direct write to UPD_CMD or TIE_CMD.SWAP, which acts for the module (R573, R586, R587, R450); GLB_CMD.CARRY and LEAVE
are written through IR1 alone (R595, R596). -/
def State.writeCmd (s : State) (l : LeafId) (r : Reg) (v : Word) (who : Nat) : State :=
  let n := ([63, 62, 61, 60].filter fun k => v.getLsbD k).length
  let mine := if r == GLB_CMD then v.getLsbD 63 || v.getLsbD 62 else if r == TIE_CMD then v.getLsbD 63 else decide (0 < n)
  if !mine then s
  else if r == GLB_CMD || s.mode == .carry then s.on l fun L => L.discard r.base who v.toNat
  else if r == UPD_CMD && decide (1 < n) then s
  else s.offerDirect l r.base v

/-- A write to a register under its access code (R13). -/
def State.writeReg (s : State) (l : LeafId) (r : Reg) (i off size : Nat) (value : Word) (who : Nat) : State :=
  let L := s.leaf l
  let lanes := laneMask off size
  let v := laneValue off size value
  let new := (L.word r i &&& ~~~ lanes) ||| (v &&& lanes)
  let works := madeAtWorks r
  if wholeOnly r && decide (size ≠ 8) then s
  else if r == GLB_CMD || r == UPD_CMD || r == TIE_CMD then s.writeCmd l r v who
  else if ownRow r then s
  else if works != 0 then
    if who = 7 ∧ s.producing = true ∧ L.on SEC_STAT_PROD_LOCK = false then
      s.setLeaf l (L.setWord r i ((L.word r i &&& ~~~ works) ||| (new &&& works)))
    else s
  else if r.hasAcc .w1c then s.setLeaf l (L.clearOnes r i v (s.mode == .workshop))
  else if r.hasAcc .rws then
    if s.setup then s.writeRws l r i new who
    else if s.mode == .carry then s.setLeaf l (L.discard (r.addr i) who v.toNat)
    else s
  else if r == BST_DADDR || r == BST_DDATA then (if s.mayDiag then s.setLeaf l (L.setWord r i (mergeRws r i (L.word r i) new)) else s)
  else s

/-- An entry of the MSI-X table written, 4 or 8 bytes (PCIe Base 3.0; R481, R644): a vector unmasked with its pending bit set
fires. -/
def Leaf.writeVec (L : Leaf) (off size : Nat) (value : Word) : Leaf :=
  let v := off % 0x1000 / 16
  let at_ := 8 * (off % 16)
  let w := if size = 8 then 64 else 32
  let V := pick L.hre.vec v
  let mask : BitVec 128 := BitVec.ofNat 128 (2 ^ w - 1) <<< at_
  let entry := (V.entry &&& ~~~ mask) ||| ((BitVec.ofNat 128 (value.toNat % 2 ^ w)) <<< at_ &&& mask)
  let L' := L.onHre fun H => { H with vec := alter H.vec v fun V => { V with entry := entry } }
  if V.masked && !(pick L'.hre.vec v).masked && V.pending && L.on HRE_STAT_MSIX then L'.fireVec v else L'

/-- REGISTER_WRITE (R10, R12, R13, R643 to R646). -/
def execRegisterWrite (l : LeafId) (a : RegAccess) (s : State) : Done :=
  if !s.mayAccess l a.off a.who true then .next s
  else if !sizeOk a.off a.size then .next { s with readData := none }
  else
    let s := s.touch a.who
    let tool := a.who.val == 5 || a.who.val == 7
    let s := if tool then s.both fun L => L.put SEC_STAT_DBG_USED 1 else s
    if (s.leaf l).bst.fullAt.isSome then .next s
    else if 0x10C000 ≤ a.off ∧ a.off < 0x10C200 then .next (s.on l fun L => L.writeVec a.off a.size a.value)
    else
      match findReg (a.off - a.off % 8) with
      | none => .next s
      | some (r, i) => .next (s.writeReg l r i a.off a.size a.value a.who)

/-! ### Reads -/

/-- A register of a mailbox channel, with the channel (R490, R502). -/
def channelOf (r : Reg) (i : Nat) : Option Nat :=
  if r == MBX_MSG then some (i / 16)
  else if [MBX_POST, MBX_STAT, MBX_ACK, MBX_BIND, MBX_CNT].contains r then some i else none

/-- The value a register reads as, where it is not the word that stands in the leaf (R14, R57, R58, R249, R608, R616). -/
def State.shown (s : State) (l : LeafId) (r : Reg) (i : Nat) : Word :=
  let L := s.leaf l
  let w := L.word r i
  if r == GLB_ID then s.glbId l
  else if r == GLB_STAT then setField w 63 61 s.mode.code
  else if r == CRS_COUNT then BitVec.ofNat 64 L.count.toNat
  else if r == CRS_FINE then BitVec.ofNat 64 L.fine.toNat
  else if r == GCH_PROT then
    let e := evenOf i
    let vdd := uvApplied (s.chan e) (s.chan (e + 1)) false
    let vee := uvApplied (s.chan e) (s.chan (e + 1)) true
    setField (setField (L.word GCH_PROT e) GCH_PROT_UV_VDD.hi GCH_PROT_UV_VDD.lo vdd) GCH_PROT_UV_VEE.hi GCH_PROT_UV_VEE.lo vee
  else if inDiag (r.addr i) && !s.mayDiag then 0
  else w

/-- The fields of a register cleared by a read of the bits `lanes` (R13). -/
def Leaf.clearRead (L : Leaf) (r : Reg) (i : Nat) (lanes : Word) : Leaf :=
  let mask := r.fields.foldl (fun m f =>
    if f.acc == .rc && maskOf f.hi f.lo &&& lanes != 0 then m ||| maskOf f.hi f.lo else m) (0#64)
  if mask = 0 then L else L.setWord r i (L.word r i &&& ~~~ mask)

/-- What a read of `size` bytes at an offset takes from a register's 64 bits. -/
def laneRead (off size : Nat) (w : Word) : Word :=
  if size = 8 then w else if off % 8 = 4 then w >>> 32 else w &&& maskOf 31 0

/-- An 8-byte word of the MSI-X table, or of the pending-bit array. -/
def Leaf.msixWord (L : Leaf) (off : Nat) : Word :=
  if 0x10D000 ≤ off then
    BitVec.ofNat 64 ((List.range 32).foldl (fun a v => if (pick L.hre.vec v).pending then a + 2 ^ v else a) 0)
  else BitVec.ofNat 64 ((pick L.hre.vec (off % 0x1000 / 16)).entry.toNat >>> (8 * (off % 16 / 8 * 8)))

/-- RC_READ (R10, R12, R13, R490, R606): a register read, its RC fields then cleared. Reads of CRS_COUNT, of the lock
registers and of BST_DDATA are rows of their own. -/
def execRcRead (l : LeafId) (off size : Nat) (who : Ident) (s : State) : Done :=
  let give := fun (s : State) (w : Word) => ({ s with readData := some (laneRead off size w) } : State)
  if !s.mayAccess l off who false then .next s
  else if !sizeOk off size then .next { s with readData := none }
  else
    let s := s.touch who
    let at_ := off - off % 8
    if (0x10C000 ≤ at_ ∧ at_ < 0x10C200) ∨ at_ = 0x10D000 then .next (give s ((s.leaf l).msixWord at_))
    else
      match findReg at_ with
      | none => .next (give s 0)
      | some (r, i) =>
        let hidden := (s.leaf l).bst.fullAt.isSome && decide (off < 0x100000) && r != GLB_ID && r != BST_STAT
        if hidden then .next (give s 0)
        else if [CRS_COUNT, LOCK, BST_DDATA].contains r then .next s
        else
          match channelOf r i with
          | some c =>
            if (s.leaf l).party c who then .next (give (s.on l fun L => L.clearRead r i (laneMask off size)) ((s.leaf l).word r i))
            else .next (give (s.on l fun L => L.bump MBX_CNT_UNBOUND c) 0)
          | none => .next (give (s.on l fun L => L.clearRead r i (laneMask off size)) (s.shown l r i))

end Sys2Proof.Machine
end

