-- ==== Sys2Proof/Machine/Seal.lean ====
section
/-! DEFINITION. The seal of a leaf (R36, R37): what happens at fine tick 0 of a course, in its order. -/

namespace Sys2Proof.Machine

open Sys2Proof

/-- The next course begins (R29, R30): its count, its fine tick, nothing sent in it yet. -/
def Leaf.nextCourse (L : Leaf) : Leaf := { L with count := L.count + 1, tick := 0, out := [] }

/-- A descriptor received in the last course is used (R37, R265, R296, R342, R381, R515, R523). -/
def Leaf.useDesc (L : Leaf) (carry : Bool) (inp : SealIn) (x : Hdr × Slot) : Leaf :=
  let (h, d) := x
  match h.ring with
  | 0 => match opcode d with
    | 0x20 => L.useTraction h d
    | 0x30 => L.useLink carry h d
    | 0x40 => L.useCharge h d
    | _ => L.useActuator h d
  | 8 => L.useNet h d
  | r => if 4 ≤ r ∧ r ≤ 7 then L.useCan h d (inp.canTx.contains (r - 4, sl d 17 1 % 4)) else L

/-- All descriptors that wait, in the order of their receipt. -/
def Leaf.useAll (L : Leaf) (carry : Bool) (inp : SealIn) : Leaf :=
  let q := L.hre.rxq
  q.foldl (fun L x => L.useDesc carry inp x) ({ L with hre := { L.hre with rxq := [] } } : Leaf)

/-- A crash seen by CAN frame since the last seal, or held by the arbiter's latch (R304, R511). -/
def Leaf.sealCrash (L : Leaf) (latched : Bool) : Leaf :=
  let seen := L.net.crash
  let L : Leaf := { L with net := { L.net with crash := false } }
  if seen || (latched && !L.lnk.crash) then L.crash else L

/-- The parts of a seal that no other leaf takes part in, once the mirrors and the changes of the course are in force:
readings, descriptors, and the stages in the order of the chapters. -/
def Leaf.sealStages (L : Leaf) (inp : SealIn) (carry crash : Bool) : Leaf :=
  let L := (L.sealLedger.sealThermal inp).sealCrash crash
  let L := (L.sealLink inp).useAll carry inp
  let L := L.sealConv.sealCharge inp
  let L := (L.sealTraction inp).sealActuators inp
  ((L.sealVoice.ageBusOff).ageLinks).sealHistory

/-- The blocks of a stage that no keyed block feeds (R439, R440). -/
def feeds (stage : Nat) : FillKind → Bool
  | .pfc _ => stage == 5
  | .llc _ => stage == 5
  | .auxConverter _ => stage == 6
  | .actuator a => stage == 8 + a.val
  | _ => false

/-- Class 3 blocks taken from a course until their bounds make room for `need` cycles; at least one. -/
def displace : List FillBlock → Nat → List FillBlock
  | [], _ => []
  | b :: r, need => b :: (if need ≤ b.bound then [] else displace r (need - b.bound))

/-- A check run owed (R440): in a course with class 3 blocks, two runs of what feeds the stage take their place, and the
displaced blocks are carried (R69). -/
def Leaf.placeCheck (L : Leaf) : Leaf :=
  if L.role != .lead then L.onTie fun T => { T with checks := [], checkRun := none }
  else
    let here := L.ash.engines.toList.flatMap fun e => e.running.toList ++ e.queue
    match L.tie.checks, here.filter fun b => b.cls.val == 3 with
    | g :: rest, b :: bs =>
      let bound := sumBounds ((courseBlocks L.ash.blocks L.count.toNat).filter fun b => feeds g b.kind)
      let out := displace (b :: bs) (2 * bound)
      let run : FillBlock := { id := 1000, kind := .checkRun (Fin.ofNat 11 g), bound := bound, cls := 3, period := 1, phase := 0 }
      let keep := here.filter fun b => !(out.any fun x => x.id == b.id)
      let L := L.layQueues (keep ++ [run, { run with id := 1001 }])
      let L := L.onAsh fun A => { A with
        carried := A.carried ++ out
        engines := A.engines.map fun E => { E with running := E.queue.head?, queue := E.queue.drop 1 } }
      (L.bump ⟨TIE_DIV, 31, 16⟩).onTie fun T => { T with checks := rest, checkRun := some (g, none) }
    | _, _ => L

/-- The condition of R589 as the last seals show it: READY, WAKE released, and CP in state A or without a pilot. -/
def State.sealIdle (s : State) : State :=
  let pilot := (s.leaf ((s.leadId).getD .leaf0)).get CHG_STAT_PILOT
  let idle := s.mode == .ready && !s.pins.wake && pilot == 0
  { s with pins := { s.pins with idleFrom := if idle then some (s.pins.idleFrom.getD s.leaf0.count) else none } }

/-- A leaf that computes at its seal (R36, R37): in ALIGN, FOLLOW or LEAD. -/
def State.sealComputing (s : State) (l : LeafId) (inp : SealIn) : State :=
  let carry := s.mode == .carry
  let (L, lost) := (s.leaf l).latchStages.sealSense inp
  let s := s.setLeaf l ((L.lostKeyed s l lost).sealPos inp (s.partnerAligned l))
  let s := s.on l fun L => (L.takeSnaps.applyKeyed).applyThermal.applyDue
  let s := s.on l fun L => L.sealStages inp carry s.arb.crash
  let s := { s with arb := { s.arb with crash := s.arb.crash || (s.leaf l).lnk.crash } }
  let s := (s.on l fun L => (L.sealUpd s.mixed s.updOpen).sealBst).continueRevert l
  let s := s.on l fun L => L.joinIdle (s.leaf l.other)
  let s := s.on l fun L => ((L.sealRings).sealAsh (s.partnerCarries l)).placeCheck
  let s := ((s.sealDiv l).on l Leaf.sealHeld).sealTests l
  s.on l fun L =>
    let L := (L.sealCaptures.telemetry).sealSend
    { L with was := { trc := L.trc, lnk := L.lnk, chg := L.chg } }

/-- SEAL (R29, R30, R36, R37, R423): the next course of a leaf begins. A leaf of a module in BOOT only counts; a leaf in
RESTART or OUT keeps its lanes and its ring engine. -/
def execSeal (l : LeafId) (inp : SealIn) (s : State) : Done :=
  guarded s s.awake <|
    let s := s.on l Leaf.nextCourse
    if s.mode == .boot then s
    else
      let s := ((s.on l Leaf.applyMirfmt).applyRole l).alignAlone l
      let s := s.on l fun L => L.sealLanes.sealGone
      let s := if (s.leaf l).computing then s.sealComputing l inp else s.on l Leaf.sealRings
      if l == .leaf0 then s.sealIdle else s

end Sys2Proof.Machine
end

