-- ==== Sys2Proof/Machine/Dispatch.lean ====
section
/-! DEFINITION. One arm per command: the meaning it has. -/

namespace Sys2Proof.Machine

open Sys2Proof

/-- The effect of a command on everything but the queue. -/
def exec (i : Instr) (s : State) : Host.Outcome State Fault Refusal :=
  match i with
  | .supplyApplied => Sys2Proof.Machine.execSupplyApplied s
  | .wake a0 a1 a2 => Sys2Proof.Machine.execWake a0 a1 a2 s
  | .cpWake a0 a1 a2 => Sys2Proof.Machine.execCpWake a0 a1 a2 s
  | .wakeRelease => Sys2Proof.Machine.execWakeRelease s
  | .bootComplete a0 a1 a2 a3 => Sys2Proof.Machine.execBootComplete a0 a1 a2 a3 s
  | .tieAbsentAtBoot a0 => Sys2Proof.Machine.execTieAbsentAtBoot a0 s
  | .parkEntry a0 => Sys2Proof.Machine.execParkEntry a0 s
  | .supplyLost a0 a1 a2 a3 => Sys2Proof.Machine.execSupplyLost a0 a1 a2 a3 s
  | .allSuppliesLost => Sys2Proof.Machine.execAllSuppliesLost s
  | .resetNAssert a0 => Sys2Proof.Machine.execResetNAssert a0 s
  | .resetNRelease a0 => Sys2Proof.Machine.execResetNRelease a0 s
  | .carry => Sys2Proof.Machine.execCarry s
  | .leave => Sys2Proof.Machine.execLeave s
  | .reset a0 => Sys2Proof.Machine.execReset a0 s
  | .workshopEntry => Sys2Proof.Machine.execWorkshopEntry s
  | .workshopExit => Sys2Proof.Machine.execWorkshopExit s
  | .registerWrite a0 a1 => Sys2Proof.Machine.execRegisterWrite a0 a1 s
  | .rcRead a0 a1 a2 a3 => Sys2Proof.Machine.execRcRead a0 a1 a2 a3 s
  | .crsCountRead a0 a1 a2 a3 => Sys2Proof.Machine.execCrsCountRead a0 a1 a2 a3 s
  | .seal a0 a1 => Sys2Proof.Machine.execSeal a0 a1 s
  | .keyedDeadline a0 => Sys2Proof.Machine.execKeyedDeadline a0 s
  | .fillDeadline a0 => Sys2Proof.Machine.execFillDeadline a0 s
  | .doorbellFetch a0 => Sys2Proof.Machine.execDoorbellFetch a0 s
  | .doorbellCompletion a0 a1 a2 => Sys2Proof.Machine.execDoorbellCompletion a0 a1 a2 s
  | .doorbellDeadline a0 => Sys2Proof.Machine.execDoorbellDeadline a0 s
  | .planCommit => Sys2Proof.Machine.execPlanCommit s
  | .timebaseCompensation a0 => Sys2Proof.Machine.execTimebaseCompensation a0 s
  | .pairOutputAgreed a0 a1 a2 a3 => Sys2Proof.Machine.execPairOutputAgreed a0 a1 a2 a3 s
  | .pairMismatch a0 a1 a2 a3 => Sys2Proof.Machine.execPairMismatch a0 a1 a2 a3 s
  | .pairRerunComplete a0 a1 a2 a3 => Sys2Proof.Machine.execPairRerunComplete a0 a1 a2 a3 s
  | .cycleGuardStop a0 a1 => Sys2Proof.Machine.execCycleGuardStop a0 a1 s
  | .fillBlockComplete a0 a1 a2 a3 => Sys2Proof.Machine.execFillBlockComplete a0 a1 a2 a3 s
  | .steal a0 a1 => Sys2Proof.Machine.execSteal a0 a1 s
  | .uncorrectableError a0 a1 a2 => Sys2Proof.Machine.execUncorrectableError a0 a1 a2 s
  | .sheddingDecay a0 => Sys2Proof.Machine.execSheddingDecay a0 s
  | .handoverStart a0 => Sys2Proof.Machine.execHandoverStart a0 s
  | .handoverDigestCheck a0 a1 => Sys2Proof.Machine.execHandoverDigestCheck a0 a1 s
  | .handoverStateCopy a0 => Sys2Proof.Machine.execHandoverStateCopy a0 s
  | .handoverComplete a0 => Sys2Proof.Machine.execHandoverComplete a0 s
  | .engineSelfTestStep a0 => Sys2Proof.Machine.execEngineSelfTestStep a0 s
  | .engineSelfTestComplete a0 a1 a2 => Sys2Proof.Machine.execEngineSelfTestComplete a0 a1 a2 s
  | .split a0 a1 a2 a3 => Sys2Proof.Machine.execSplit a0 a1 a2 a3 s
  | .endSplit a0 a1 a2 => Sys2Proof.Machine.execEndSplit a0 a1 a2 s
  | .tableSwitch a0 a1 => Sys2Proof.Machine.execTableSwitch a0 a1 s
  | .testStart a0 a1 => Sys2Proof.Machine.execTestStart a0 a1 s
  | .testStop a0 a1 => Sys2Proof.Machine.execTestStop a0 a1 s
  | .correlationWindowEnd a0 a1 a2 a3 a4 a5 a6 => Sys2Proof.Machine.execCorrelationWindowEnd a0 a1 a2 a3 a4 a5 a6 s
  | .captureStart a0 a1 => Sys2Proof.Machine.execCaptureStart a0 a1 s
  | .captureStop a0 a1 => Sys2Proof.Machine.execCaptureStop a0 a1 s
  | .captureRead a0 a1 => Sys2Proof.Machine.execCaptureRead a0 a1 s
  | .captureTrigger a0 a1 a2 a3 => Sys2Proof.Machine.execCaptureTrigger a0 a1 a2 a3 s
  | .captureRow a0 a1 a2 => Sys2Proof.Machine.execCaptureRow a0 a1 a2 s
  | .selfcal a0 a1 => Sys2Proof.Machine.execSelfcal a0 a1 s
  | .selfcalComplete a0 a1 => Sys2Proof.Machine.execSelfcalComplete a0 a1 s
  | .recalStepStart a0 => Sys2Proof.Machine.execRecalStepStart a0 s
  | .recalFirstOverlap a0 a1 a2 a3 => Sys2Proof.Machine.execRecalFirstOverlap a0 a1 a2 a3 s
  | .recalSecondOverlap a0 a1 a2 a3 => Sys2Proof.Machine.execRecalSecondOverlap a0 a1 a2 a3 s
  | .recalStepEnd a0 => Sys2Proof.Machine.execRecalStepEnd a0 s
  | .fastTrip a0 a1 a2 a3 => Sys2Proof.Machine.execFastTrip a0 a1 a2 a3 s
  | .ftTest a0 a1 a2 => Sys2Proof.Machine.execFtTest a0 a1 a2 s
  | .supplyHalf a0 a1 a2 a3 => Sys2Proof.Machine.execSupplyHalf a0 a1 a2 a3 s
  | .quadratureError a0 a1 => Sys2Proof.Machine.execQuadratureError a0 a1 s
  | .index a0 a1 a2 a3 a4 => Sys2Proof.Machine.execIndex a0 a1 a2 a3 a4 s
  | .indexMissing a0 a1 => Sys2Proof.Machine.execIndexMissing a0 a1 s
  | .uvwEdge a0 a1 a2 a3 a4 => Sys2Proof.Machine.execUvwEdge a0 a1 a2 a3 a4 s
  | .arm a0 a1 a2 => Sys2Proof.Machine.execArm a0 a1 a2 s
  | .probeComplete a0 a1 a2 a3 a4 => Sys2Proof.Machine.execProbeComplete a0 a1 a2 a3 a4 s
  | .posFltClear a0 a1 a2 a3 => Sys2Proof.Machine.execPosFltClear a0 a1 a2 a3 s
  | .courseMark a0 a1 a2 a3 => Sys2Proof.Machine.execCourseMark a0 a1 a2 a3 s
  | .courseFrame a0 => Sys2Proof.Machine.execCourseFrame a0 s
  | .carrierFrame a0 => Sys2Proof.Machine.execCarrierFrame a0 s
  | .maintNop a0 => Sys2Proof.Machine.execMaintNop a0 s
  | .maintWrite a0 => Sys2Proof.Machine.execMaintWrite a0 s
  | .maintRead a0 => Sys2Proof.Machine.execMaintRead a0 s
  | .maintTest a0 a1 a2 => Sys2Proof.Machine.execMaintTest a0 a1 a2 s
  | .maintClear a0 => Sys2Proof.Machine.execMaintClear a0 s
  | .maintLower a0 => Sys2Proof.Machine.execMaintLower a0 s
  | .gateEdge a0 a1 => Sys2Proof.Machine.execGateEdge a0 a1 s
  | .statusFrame a0 a1 a2 a3 a4 a5 => Sys2Proof.Machine.execStatusFrame a0 a1 a2 a3 a4 a5 s
  | .frameAbsenceTimeout a0 a1 => Sys2Proof.Machine.execFrameAbsenceTimeout a0 a1 s
  | .partnerOffReport a0 a1 => Sys2Proof.Machine.execPartnerOffReport a0 a1 s
  | .ilkStall a0 a1 => Sys2Proof.Machine.execIlkStall a0 a1 s
  | .desaturation a0 a1 a2 a3 => Sys2Proof.Machine.execDesaturation a0 a1 a2 a3 s
  | .softTurnOffEnd a0 a1 a2 a3 => Sys2Proof.Machine.execSoftTurnOffEnd a0 a1 a2 a3 s
  | .undervoltage a0 a1 a2 a3 a4 => Sys2Proof.Machine.execUndervoltage a0 a1 a2 a3 a4 s
  | .overtemperature a0 a1 a2 => Sys2Proof.Machine.execOvertemperature a0 a1 a2 s
  | .overtemperatureRelease a0 a1 a2 => Sys2Proof.Machine.execOvertemperatureRelease a0 a1 a2 s
  | .waitExpiry a0 a1 => Sys2Proof.Machine.execWaitExpiry a0 a1 s
  | .ovHwRelease a0 a1 => Sys2Proof.Machine.execOvHwRelease a0 a1 s
  | .tryWindowEnd a0 => Sys2Proof.Machine.execTryWindowEnd a0 s
  | .groupLoss a0 a1 a2 => Sys2Proof.Machine.execGroupLoss a0 a1 a2 s
  | .biasRestored a0 a1 a2 a3 => Sys2Proof.Machine.execBiasRestored a0 a1 a2 a3 s
  | .strapRead a0 a1 a2 => Sys2Proof.Machine.execStrapRead a0 a1 a2 s
  | .gateTestStep a0 => Sys2Proof.Machine.execGateTestStep a0 s
  | .gchClear a0 a1 a2 a3 => Sys2Proof.Machine.execGchClear a0 a1 a2 a3 s
  | .gchTest a0 a1 a2 => Sys2Proof.Machine.execGchTest a0 a1 a2 s
  | .traction a0 a1 => Sys2Proof.Machine.execTraction a0 a1 s
  | .spTimeout a0 => Sys2Proof.Machine.execSpTimeout a0 s
  | .overcurrentRetry a0 a1 => Sys2Proof.Machine.execOvercurrentRetry a0 a1 s
  | .obsWindowEnd a0 a1 => Sys2Proof.Machine.execObsWindowEnd a0 a1 s
  | .syncTimeout a0 => Sys2Proof.Machine.execSyncTimeout a0 s
  | .link a0 a1 => Sys2Proof.Machine.execLink a0 a1 s
  | .dischargeEnd a0 => Sys2Proof.Machine.execDischargeEnd a0 s
  | .battRefTimeout a0 => Sys2Proof.Machine.execBattRefTimeout a0 s
  | .prechargeMatch a0 => Sys2Proof.Machine.execPrechargeMatch a0 s
  | .preTimeout a0 => Sys2Proof.Machine.execPreTimeout a0 s
  | .overlapElapsed a0 => Sys2Proof.Machine.execOverlapElapsed a0 s
  | .openingCurrentLow a0 => Sys2Proof.Machine.execOpeningCurrentLow a0 s
  | .mainMinusOpen a0 => Sys2Proof.Machine.execMainMinusOpen a0 s
  | .openBlocked a0 => Sys2Proof.Machine.execOpenBlocked a0 s
  | .hvilOpen a0 => Sys2Proof.Machine.execHvilOpen a0 s
  | .chopperRetest a0 => Sys2Proof.Machine.execChopperRetest a0 s
  | .chopFailClear a0 a1 => Sys2Proof.Machine.execChopFailClear a0 a1 s
  | .share a0 a1 => Sys2Proof.Machine.execShare a0 a1 s
  | .legReadmit a0 a1 => Sys2Proof.Machine.execLegReadmit a0 a1 s
  | .auxRestart a0 => Sys2Proof.Machine.execAuxRestart a0 s
  | .charge a0 a1 => Sys2Proof.Machine.execCharge a0 a1 s
  | .chargeSupply a0 a1 => Sys2Proof.Machine.execChargeSupply a0 a1 s
  | .chargeStop a0 a1 => Sys2Proof.Machine.execChargeStop a0 a1 s
  | .chargeRestart a0 a1 => Sys2Proof.Machine.execChargeRestart a0 a1 s
  | .hlcRefresh a0 a1 => Sys2Proof.Machine.execHlcRefresh a0 a1 s
  | .hlcExpiry a0 => Sys2Proof.Machine.execHlcExpiry a0 s
  | .pilotState a0 a1 => Sys2Proof.Machine.execPilotState a0 a1 s
  | .proximityReading a0 a1 a2 => Sys2Proof.Machine.execProximityReading a0 a1 a2 s
  | .acWindow a0 a1 a2 a3 => Sys2Proof.Machine.execAcWindow a0 a1 a2 a3 s
  | .evseTimeout a0 => Sys2Proof.Machine.execEvseTimeout a0 s
  | .pfcBusReady a0 => Sys2Proof.Machine.execPfcBusReady a0 s
  | .searchStep a0 => Sys2Proof.Machine.execSearchStep a0 s
  | .research a0 => Sys2Proof.Machine.execResearch a0 s
  | .weakSupply a0 => Sys2Proof.Machine.execWeakSupply a0 s
  | .weakSupplyPauseEnd a0 => Sys2Proof.Machine.execWeakSupplyPauseEnd a0 s
  | .termination a0 => Sys2Proof.Machine.execTermination a0 s
  | .safetyTimerExpiry a0 => Sys2Proof.Machine.execSafetyTimerExpiry a0 s
  | .stopSequenceEnd a0 => Sys2Proof.Machine.execStopSequenceEnd a0 s
  | .acLossTimeout a0 => Sys2Proof.Machine.execAcLossTimeout a0 s
  | .chargerRestart a0 => Sys2Proof.Machine.execChargerRestart a0 s
  | .unlock a0 a1 => Sys2Proof.Machine.execUnlock a0 a1 s
  | .shift a0 a1 => Sys2Proof.Machine.execShift a0 a1 s
  | .parkEngage a0 a1 => Sys2Proof.Machine.execParkEngage a0 a1 s
  | .parkRelease a0 a1 => Sys2Proof.Machine.execParkRelease a0 a1 s
  | .reference a0 a1 => Sys2Proof.Machine.execReference a0 a1 s
  | .actuator a0 a1 => Sys2Proof.Machine.execActuator a0 a1 s
  | .actuatorFrame a0 => Sys2Proof.Machine.execActuatorFrame a0 s
  | .actuatorStatus a0 a1 a2 a3 => Sys2Proof.Machine.execActuatorStatus a0 a1 a2 a3 s
  | .actuatorFallback a0 => Sys2Proof.Machine.execActuatorFallback a0 s
  | .alignDone a0 a1 => Sys2Proof.Machine.execAlignDone a0 a1 s
  | .lockedRotor a0 a1 => Sys2Proof.Machine.execLockedRotor a0 a1 s
  | .actWaitExpiry a0 a1 => Sys2Proof.Machine.execActWaitExpiry a0 a1 s
  | .moveEnd a0 a1 => Sys2Proof.Machine.execMoveEnd a0 a1 s
  | .endStopArrival a0 a1 => Sys2Proof.Machine.execEndStopArrival a0 a1 s
  | .hardOvercurrent a0 a1 => Sys2Proof.Machine.execHardOvercurrent a0 a1 s
  | .bootstrapUndervoltage a0 a1 a2 a3 => Sys2Proof.Machine.execBootstrapUndervoltage a0 a1 a2 a3 s
  | .actVinRestored a0 => Sys2Proof.Machine.execActVinRestored a0 s
  | .shiftReturn a0 => Sys2Proof.Machine.execShiftReturn a0 s
  | .engageHoldExpiry a0 => Sys2Proof.Machine.execEngageHoldExpiry a0 s
  | .thermalSample a0 => Sys2Proof.Machine.execThermalSample a0 s
  | .brokenClear a0 a1 a2 => Sys2Proof.Machine.execBrokenClear a0 a1 a2 s
  | .leafSilence a0 a1 a2 => Sys2Proof.Machine.execLeafSilence a0 a1 a2 s
  | .silentReceived a0 a1 a2 => Sys2Proof.Machine.execSilentReceived a0 a1 a2 s
  | .outEntry a0 => Sys2Proof.Machine.execOutEntry a0 s
  | .swap => Sys2Proof.Machine.execSwap s
  | .rejoin a0 a1 a2 => Sys2Proof.Machine.execRejoin a0 a1 a2 s
  | .restartComplete a0 a1 => Sys2Proof.Machine.execRestartComplete a0 a1 s
  | .restartTimeout a0 a1 => Sys2Proof.Machine.execRestartTimeout a0 a1 s
  | .alignExit a0 => Sys2Proof.Machine.execAlignExit a0 s
  | .alignTimeout a0 => Sys2Proof.Machine.execAlignTimeout a0 s
  | .mark a0 a1 => Sys2Proof.Machine.execMark a0 a1 s
  | .laneLost a0 a1 a2 => Sys2Proof.Machine.execLaneLost a0 a1 a2 s
  | .laneUp a0 a1 => Sys2Proof.Machine.execLaneUp a0 a1 s
  | .lost a0 a1 => Sys2Proof.Machine.execLost a0 a1 s
  | .isolationEvidence a0 => Sys2Proof.Machine.execIsolationEvidence a0 s
  | .probe a0 => Sys2Proof.Machine.execProbe a0 s
  | .echo a0 a1 a2 => Sys2Proof.Machine.execEcho a0 a1 a2 s
  | .keyed a0 a1 a2 a3 => Sys2Proof.Machine.execKeyed a0 a1 a2 a3 s
  | .thermal a0 a1 a2 a3 a4 => Sys2Proof.Machine.execThermal a0 a1 a2 a3 a4 s
  | .change a0 a1 a2 => Sys2Proof.Machine.execChange a0 a1 a2 s
  | .changeWithdraw a0 => Sys2Proof.Machine.execChangeWithdraw a0 s
  | .ack a0 a1 a2 a3 => Sys2Proof.Machine.execAck a0 a1 a2 a3 s
  | .ledger a0 a1 a2 => Sys2Proof.Machine.execLedger a0 a1 a2 s
  | .ledgerResend a0 a1 => Sys2Proof.Machine.execLedgerResend a0 a1 s
  | .settings a0 a1 a2 a3 => Sys2Proof.Machine.execSettings a0 a1 a2 a3 s
  | .voiceUnit a0 a1 a2 a3 a4 => Sys2Proof.Machine.execVoiceUnit a0 a1 a2 a3 a4 s
  | .digest a0 a1 a2 a3 => Sys2Proof.Machine.execDigest a0 a1 a2 a3 s
  | .setup a0 a1 => Sys2Proof.Machine.execSetup a0 a1 s
  | .check a0 a1 a2 a3 => Sys2Proof.Machine.execCheck a0 a1 a2 a3 s
  | .head a0 a1 a2 a3 a4 a5 => Sys2Proof.Machine.execHead a0 a1 a2 a3 a4 a5 s
  | .request a0 a1 a2 => Sys2Proof.Machine.execRequest a0 a1 a2 s
  | .setdata a0 a1 a2 a3 a4 a5 => Sys2Proof.Machine.execSetdata a0 a1 a2 a3 a4 a5 s
  | .mirfmt a0 a1 a2 a3 => Sys2Proof.Machine.execMirfmt a0 a1 a2 a3 s
  | .superseded a0 a1 a2 a3 => Sys2Proof.Machine.execSuperseded a0 a1 a2 a3 s
  | .healthRecord a0 => Sys2Proof.Machine.execHealthRecord a0 s
  | .roleDeclaration => Sys2Proof.Machine.execRoleDeclaration s
  | .arbiterFallback a0 => Sys2Proof.Machine.execArbiterFallback a0 s
  | .hostLinkLost a0 => Sys2Proof.Machine.execHostLinkLost a0 s
  | .hotReset a0 a1 => Sys2Proof.Machine.execHotReset a0 a1 s
  | .linkDown a0 a1 => Sys2Proof.Machine.execLinkDown a0 a1 s
  | .ringEngineRun a0 => Sys2Proof.Machine.execRingEngineRun a0 s
  | .ringEngineStop a0 => Sys2Proof.Machine.execRingEngineStop a0 s
  | .descriptorRetry a0 a1 a2 a3 => Sys2Proof.Machine.execDescriptorRetry a0 a1 a2 a3 s
  | .lateCompletion a0 => Sys2Proof.Machine.execLateCompletion a0 s
  | .ringStall a0 a1 => Sys2Proof.Machine.execRingStall a0 a1 s
  | .outputEntryPost a0 a1 => Sys2Proof.Machine.execOutputEntryPost a0 a1 s
  | .regWrite a0 a1 => Sys2Proof.Machine.execRegWrite a0 a1 s
  | .readRecords a0 a1 a2 a3 => Sys2Proof.Machine.execReadRecords a0 a1 a2 a3 s
  | .ledgerStatus a0 a1 => Sys2Proof.Machine.execLedgerStatus a0 a1 s
  | .getKeys a0 a1 => Sys2Proof.Machine.execGetKeys a0 a1 s
  | .readSuperseded a0 a1 => Sys2Proof.Machine.execReadSuperseded a0 a1 s
  | .readHistory a0 a1 => Sys2Proof.Machine.execReadHistory a0 a1 s
  | .grade a0 a1 => Sys2Proof.Machine.execGrade a0 a1 s
  | .gradeComplete a0 => Sys2Proof.Machine.execGradeComplete a0 s
  | .netServiceRequest a0 a1 a2 a3 a4 a5 => Sys2Proof.Machine.execNetServiceRequest a0 a1 a2 a3 a4 a5 s
  | .messageWordWrite a0 a1 a2 a3 a4 a5 a6 => Sys2Proof.Machine.execMessageWordWrite a0 a1 a2 a3 a4 a5 a6 s
  | .post a0 a1 a2 a3 => Sys2Proof.Machine.execPost a0 a1 a2 a3 s
  | .cancel a0 a1 a2 => Sys2Proof.Machine.execCancel a0 a1 a2 s
  | .release a0 a1 a2 => Sys2Proof.Machine.execRelease a0 a1 a2 s
  | .mbxAck a0 a1 a2 a3 a4 => Sys2Proof.Machine.execMbxAck a0 a1 a2 a3 a4 s
  | .ackTimeout a0 a1 => Sys2Proof.Machine.execAckTimeout a0 a1 s
  | .claimLapse a0 a1 => Sys2Proof.Machine.execClaimLapse a0 a1 s
  | .masterLost a0 a1 => Sys2Proof.Machine.execMasterLost a0 a1 s
  | .mailboxScan a0 => Sys2Proof.Machine.execMailboxScan a0 s
  | .bindWrite a0 a1 a2 a3 => Sys2Proof.Machine.execBindWrite a0 a1 a2 a3 s
  | .tableLock a0 a1 => Sys2Proof.Machine.execTableLock a0 a1 s
  | .lockRead a0 a1 a2 a3 a4 => Sys2Proof.Machine.execLockRead a0 a1 a2 a3 a4 s
  | .lockRelease a0 a1 a2 a3 => Sys2Proof.Machine.execLockRelease a0 a1 a2 a3 s
  | .canFrameReceived a0 a1 a2 a3 => Sys2Proof.Machine.execCanFrameReceived a0 a1 a2 a3 s
  | .send a0 a1 a2 => Sys2Proof.Machine.execSend a0 a1 a2 s
  | .sendCont a0 a1 a2 => Sys2Proof.Machine.execSendCont a0 a1 a2 s
  | .abort a0 a1 a2 => Sys2Proof.Machine.execAbort a0 a1 a2 s
  | .canTransmitDone a0 a1 a2 a3 => Sys2Proof.Machine.execCanTransmitDone a0 a1 a2 a3 s
  | .voice a0 a1 a2 a3 => Sys2Proof.Machine.execVoice a0 a1 a2 a3 s
  | .voiceDeclaration a0 => Sys2Proof.Machine.execVoiceDeclaration a0 s
  | .errorStateChange a0 a1 a2 a3 a4 a5 => Sys2Proof.Machine.execErrorStateChange a0 a1 a2 a3 a4 a5 s
  | .busOff a0 a1 a2 => Sys2Proof.Machine.execBusOff a0 a1 a2 s
  | .recover a0 a1 a2 => Sys2Proof.Machine.execRecover a0 a1 a2 s
  | .can0AutoRecover a0 => Sys2Proof.Machine.execCan0AutoRecover a0 s
  | .recoveryComplete a0 a1 a2 a3 => Sys2Proof.Machine.execRecoveryComplete a0 a1 a2 a3 s
  | .bitTimingApply a0 a1 => Sys2Proof.Machine.execBitTimingApply a0 a1 s
  | .txdDominantTimeout a0 a1 => Sys2Proof.Machine.execTxdDominantTimeout a0 a1 s
  | .ethFrameReceived a0 a1 a2 a3 => Sys2Proof.Machine.execEthFrameReceived a0 a1 a2 a3 s
  | .netSend a0 a1 a2 a3 => Sys2Proof.Machine.execNetSend a0 a1 a2 a3 s
  | .ethLinkDown a0 a1 => Sys2Proof.Machine.execEthLinkDown a0 a1 s
  | .addressAgeOut a0 a1 => Sys2Proof.Machine.execAddressAgeOut a0 a1 s
  | .ptpMessage a0 a1 a2 => Sys2Proof.Machine.execPtpMessage a0 a1 a2 s
  | .timeReport a0 => Sys2Proof.Machine.execTimeReport a0 s
  | .gmLost a0 => Sys2Proof.Machine.execGmLost a0 s
  | .minute a0 => Sys2Proof.Machine.execMinute a0 s
  | .signatureComplete a0 a1 a2 => Sys2Proof.Machine.execSignatureComplete a0 a1 a2 s
  | .carryWordWrite a0 => Sys2Proof.Machine.execCarryWordWrite a0 s
  | .archiveComplete a0 => Sys2Proof.Machine.execArchiveComplete a0 s
  | .historyHour a0 => Sys2Proof.Machine.execHistoryHour a0 s
  | .bmsStale a0 a1 a2 => Sys2Proof.Machine.execBmsStale a0 a1 a2 s
  | .resistanceStep a0 => Sys2Proof.Machine.execResistanceStep a0 s
  | .streamOpen a0 a1 a2 a3 => Sys2Proof.Machine.execStreamOpen a0 a1 a2 a3 s
  | .streamData a0 a1 a2 => Sys2Proof.Machine.execStreamData a0 a1 a2 s
  | .streamClose a0 a1 => Sys2Proof.Machine.execStreamClose a0 a1 s
  | .streamAbort a0 a1 => Sys2Proof.Machine.execStreamAbort a0 a1 s
  | .verifyComplete a0 a1 a2 a3 a4 => Sys2Proof.Machine.execVerifyComplete a0 a1 a2 a3 a4 s
  | .activate => Sys2Proof.Machine.execActivate s
  | .confirm => Sys2Proof.Machine.execConfirm s
  | .revert => Sys2Proof.Machine.execRevert s
  | .setApply => Sys2Proof.Machine.execSetApply s
  | .mixLong a0 => Sys2Proof.Machine.execMixLong a0 s
  | .memoryTestStep a0 a1 a2 => Sys2Proof.Machine.execMemoryTestStep a0 a1 a2 s
  | .scrub a0 a1 a2 a3 => Sys2Proof.Machine.execScrub a0 a1 a2 a3 s
  | .fullBist a0 a1 => Sys2Proof.Machine.execFullBist a0 a1 s
  | .fullBistComplete a0 a1 => Sys2Proof.Machine.execFullBistComplete a0 a1 s
  | .diagRead a0 a1 a2 => Sys2Proof.Machine.execDiagRead a0 a1 a2 s
  | .inject a0 a1 => Sys2Proof.Machine.execInject a0 a1 s
  | .sessionOpenRequest a0 a1 => Sys2Proof.Machine.execSessionOpenRequest a0 a1 s
  | .authentication a0 => Sys2Proof.Machine.execAuthentication a0 s
  | .sessionEnd a0 => Sys2Proof.Machine.execSessionEnd a0 s
  | .debugHalt a0 a1 a2 => Sys2Proof.Machine.execDebugHalt a0 a1 a2 s
  | .scanInstruction a0 => Sys2Proof.Machine.execScanInstruction a0 s
  | .enrol a0 a1 => Sys2Proof.Machine.execEnrol a0 a1 s
  | .keyGenerate a0 a1 => Sys2Proof.Machine.execKeyGenerate a0 a1 s
  | .prodLock => Sys2Proof.Machine.execProdLock s
  | .coilLimitTimeout a0 a1 => Sys2Proof.Machine.execCoilLimitTimeout a0 a1 s
  | .encoderEdge a0 a1 a2 a3 a4 => Sys2Proof.Machine.execEncoderEdge a0 a1 a2 a3 a4 s
  | .windingLoss a0 a1 => Sys2Proof.Machine.execWindingLoss a0 a1 s
  | .biasSourceChange a0 a1 a2 a3 a4 => Sys2Proof.Machine.execBiasSourceChange a0 a1 a2 a3 a4 s
  | .hvilClosed a0 => Sys2Proof.Machine.execHvilClosed a0 s
  | .ethLinkUp a0 a1 => Sys2Proof.Machine.execEthLinkUp a0 a1 s
  | .pcieLinkUp a0 a1 a2 => Sys2Proof.Machine.execPcieLinkUp a0 a1 a2 s
  | .restartWindowEnd a0 => Sys2Proof.Machine.execRestartWindowEnd a0 s
  | .authLockoutExpiry => Sys2Proof.Machine.execAuthLockoutExpiry s
  | .debugRelease a0 => Sys2Proof.Machine.execDebugRelease a0 s
  | .streamRecoveryReset a0 a1 => Sys2Proof.Machine.execStreamRecoveryReset a0 a1 s
  | .coilDriverFault a0 a1 => Sys2Proof.Machine.execCoilDriverFault a0 a1 s

end Sys2Proof.Machine
end

