-- ==== Sys2Proof/Laws/Lists.lean ====
section
/-! SUPPORT. What a fold over a list keeps. -/

namespace Sys2Proof.Machine

/-- A property that every step of a fold keeps holds at its end. -/
theorem foldl_keeps {α β : Type} (P : α → Prop) (f : α → β → α) (h : ∀ a b, P a → P (f a b)) (l : List β) (a : α) (ha : P a) :
    P (l.foldl f a) := by
  induction l generalizing a with
  | nil => exact ha
  | cons b t ih => exact ih (f a b) (h a b ha)

/-- A view that no step of a fold changes is as it was at its end. -/
theorem foldl_same {α β γ : Type} (v : α → γ) (f : α → β → α) (h : ∀ a b, v (f a b) = v a) (l : List β) (a : α) :
    v (l.foldl f a) = v a :=
  foldl_keeps (fun x => v x = v a) f (fun x b hx => (h x b).trans hx) l a rfl

end Sys2Proof.Machine
end

