-- ==== Sys2Proof/Laws/Fields.lean ====
section
/-! SUPPORT. Reading a register or a field after one was replaced: the same one gives what was put there, another is as
before. -/

namespace Sys2Proof.Machine

open Sys2Proof

theorem maskOf_getLsbD (hi lo k : Nat) :
    (maskOf hi lo).getLsbD k = (decide (k < 64) && decide (lo ≤ k) && decide (k < lo + (hi + 1 - lo))) := by
  unfold maskOf
  generalize hi + 1 - lo = n
  have e : decide (k - lo < n) = decide (k < lo + n) ∨ ¬ lo ≤ k := by
    by_cases h : lo ≤ k
    · left; congr 1; simp; omega
    · exact .inr h
  rcases e with e | e
  · by_cases h64 : k < 64 <;> by_cases hlo : lo ≤ k
    · have : k - lo < 64 := by omega
      rw [BitVec.getLsbD_shiftLeft, BitVec.getLsbD_ofNat, Nat.testBit_two_pow_sub_one, e]
      simp [h64, hlo, this]
    · simp [BitVec.getLsbD_shiftLeft, hlo, Nat.not_le.mp hlo]
    · simp [BitVec.getLsbD_shiftLeft, h64]
    · simp [BitVec.getLsbD_shiftLeft, h64]
  · simp [BitVec.getLsbD_shiftLeft, e, Nat.not_le.mp e]

theorem setField_getLsbD (w : Word) (hi lo v k : Nat) :
    (setField w hi lo v).getLsbD k =
      if k < 64 ∧ lo ≤ k ∧ k < lo + (hi + 1 - lo) then v.testBit (k - lo) else w.getLsbD k := by
  unfold setField
  by_cases h64 : k < 64
  · have hd : k - lo < 64 := by omega
    rw [BitVec.getLsbD_or, BitVec.getLsbD_and, BitVec.getLsbD_not, BitVec.getLsbD_and, maskOf_getLsbD,
      BitVec.getLsbD_shiftLeft, BitVec.getLsbD_ofNat]
    generalize hi + 1 - lo = n
    by_cases hlo : lo ≤ k <;> by_cases hk : k < lo + n <;> simp [h64, hlo, hk, hd]
  · have : 64 ≤ k := by omega
    simp [h64, BitVec.getLsbD_of_ge _ _ this]

theorem fieldOf_testBit (w : Word) (hi lo k : Nat) :
    (fieldOf w hi lo).testBit k = (decide (k < hi + 1 - lo) && w.getLsbD (lo + k)) := by
  simp [fieldOf, Nat.testBit_mod_two_pow, Nat.testBit_shiftRight, BitVec.testBit_toNat]

/-- The field put is the field read. -/
theorem fieldOf_setField_same (w : Word) (hi lo v : Nat) (h : hi < 64) :
    fieldOf (setField w hi lo v) hi lo = v % 2 ^ (hi + 1 - lo) := by
  apply Nat.eq_of_testBit_eq
  intro k
  rw [fieldOf_testBit, setField_getLsbD, Nat.testBit_mod_two_pow]
  by_cases hk : k < hi + 1 - lo
  · have h1 : lo + k < 64 ∧ lo ≤ lo + k ∧ lo + k < lo + (hi + 1 - lo) := by omega
    simp [hk, h1]
  · simp [hk]

/-- Bits apart from the field put are as before. -/
theorem fieldOf_setField_other (w : Word) (hi lo v hi' lo' : Nat) (h : hi < lo' ∨ hi' < lo) :
    fieldOf (setField w hi lo v) hi' lo' = fieldOf w hi' lo' := by
  apply Nat.eq_of_testBit_eq
  intro k
  rw [fieldOf_testBit, fieldOf_testBit, setField_getLsbD]
  by_cases hk : k < hi' + 1 - lo'
  · have h1 : ¬ (lo' + k < 64 ∧ lo ≤ lo' + k ∧ lo' + k < lo + (hi + 1 - lo)) := by omega
    simp [h1]
  · simp [hk]

theorem kvFind_kvPut_same {α : Type} (l : List (Nat × α)) (a : Nat) (v : α) : kvFind (kvPut l a v) a = some v := by
  induction l with
  | nil => simp [kvPut, kvFind]
  | cons p t ih =>
    obtain ⟨k, w⟩ := p
    by_cases h1 : a = k
    · simp [kvPut, kvFind, h1]
    · by_cases h2 : a < k <;> simp [kvPut, kvFind, h1, h2, ih]

theorem kvFind_kvPut_other {α : Type} (l : List (Nat × α)) (a b : Nat) (v : α) (h : b ≠ a) :
    kvFind (kvPut l a v) b = kvFind l b := by
  induction l with
  | nil => simp [kvPut, kvFind, h]
  | cons p t ih =>
    obtain ⟨k, w⟩ := p
    by_cases h1 : a = k
    · subst h1; simp [kvPut, kvFind, h]
    · by_cases h2 : a < k
      · simp only [kvPut, h1, h2, kvFind, h, if_true, if_false]
        by_cases h3 : b < a
        · have : b ≠ k := by omega
          have : b < k := by omega
          simp [*]
        · simp [h3]
      · simp only [kvPut, h1, h2, kvFind, if_false, ih]

@[simp] theorem Leaf.word_setWord (L : Leaf) (r : Reg) (i : Nat) (w : Word) : (L.setWord r i w).word r i = w := by
  simp [Leaf.word, Leaf.setWord, kvFind_kvPut_same]

theorem Leaf.word_setWord_other (L : Leaf) (r r' : Reg) (i i' : Nat) (w : Word) (h : r'.addr i' ≠ r.addr i) :
    (L.setWord r i w).word r' i' = L.word r' i' := by
  simp [Leaf.word, Leaf.setWord, kvFind_kvPut_other _ _ _ _ h]

/-- A field put, read back. -/
theorem Leaf.get_put (L : Leaf) (f : Fld) (v i : Nat) (h : f.hi < 64) :
    (L.put f v i).get f i = v % 2 ^ (f.hi + 1 - f.lo) := by
  simp [Leaf.get, Leaf.put, fieldOf_setField_same, h]

/-- Another field of the same register, after a field was put. -/
theorem Leaf.get_put_field (L : Leaf) (f g : Fld) (v i : Nat) (hr : g.reg = f.reg) (h : f.hi < g.lo ∨ g.hi < f.lo) :
    (L.put f v i).get g i = L.get g i := by
  simp [Leaf.get, Leaf.put, hr, fieldOf_setField_other _ _ _ _ _ _ h]

/-- A field of another register, after a field was put. -/
theorem Leaf.get_put_other (L : Leaf) (f g : Fld) (v i j : Nat) (h : g.reg.addr j ≠ f.reg.addr i) :
    (L.put f v i).get g j = L.get g j := by
  simp [Leaf.get, Leaf.put, Leaf.word_setWord_other _ _ _ _ _ _ h]

/-- Another register, after a field was put. -/
theorem Leaf.word_put_other (L : Leaf) (f : Fld) (r : Reg) (v i j : Nat) (h : r.addr j ≠ f.reg.addr i) :
    (L.put f v i).word r j = L.word r j := by
  simp [Leaf.put, Leaf.word_setWord_other _ _ _ _ _ _ h]

/-- The fields of a register depend on the register alone. -/
theorem Leaf.get_word (L L' : Leaf) (f : Fld) (i : Nat) (h : L'.word f.reg i = L.word f.reg i) : L'.get f i = L.get f i := by
  simp [Leaf.get, h]

/-- Registers are all a leaf's fields depend on. -/
theorem Leaf.get_regs (L L' : Leaf) (f : Fld) (i : Nat) (h : L'.regs = L.regs) : L'.get f i = L.get f i := by
  simp [Leaf.get, Leaf.word, h]

end Sys2Proof.Machine
end

