-- ==== Sys2Proof/Laws/State.lean ====
section
/-! SUPPORT. What an update of the state leaves: one lemma for each field and each update. -/

namespace Sys2Proof.Machine

open Sys2Proof

@[simp] theorem Leaf.setWord_id (L : Leaf) (r : Reg) (i : Nat) (w : Word) : (L.setWord r i w).id = L.id := rfl
@[simp] theorem Leaf.setWord_role (L : Leaf) (r : Reg) (i : Nat) (w : Word) : (L.setWord r i w).role = L.role := rfl
@[simp] theorem Leaf.setWord_count (L : Leaf) (r : Reg) (i : Nat) (w : Word) : (L.setWord r i w).count = L.count := rfl
@[simp] theorem Leaf.setWord_tick (L : Leaf) (r : Reg) (i : Nat) (w : Word) : (L.setWord r i w).tick = L.tick := rfl
@[simp] theorem Leaf.setWord_cut (L : Leaf) (r : Reg) (i : Nat) (w : Word) : (L.setWord r i w).cut = L.cut := rfl
@[simp] theorem Leaf.setWord_out (L : Leaf) (r : Reg) (i : Nat) (w : Word) : (L.setWord r i w).out = L.out := rfl
@[simp] theorem Leaf.setWord_crs (L : Leaf) (r : Reg) (i : Nat) (w : Word) : (L.setWord r i w).crs = L.crs := rfl
@[simp] theorem Leaf.setWord_ash (L : Leaf) (r : Reg) (i : Nat) (w : Word) : (L.setWord r i w).ash = L.ash := rfl
@[simp] theorem Leaf.setWord_cmp (L : Leaf) (r : Reg) (i : Nat) (w : Word) : (L.setWord r i w).cmp = L.cmp := rfl
@[simp] theorem Leaf.setWord_sns (L : Leaf) (r : Reg) (i : Nat) (w : Word) : (L.setWord r i w).sns = L.sns := rfl
@[simp] theorem Leaf.setWord_pos (L : Leaf) (r : Reg) (i : Nat) (w : Word) : (L.setWord r i w).pos = L.pos := rfl
@[simp] theorem Leaf.setWord_gst (L : Leaf) (r : Reg) (i : Nat) (w : Word) : (L.setWord r i w).gst = L.gst := rfl
@[simp] theorem Leaf.setWord_upd0 (L : Leaf) (r : Reg) (i : Nat) (w : Word) : (L.setWord r i w).upd0 = L.upd0 := rfl
@[simp] theorem Leaf.setWord_rot (L : Leaf) (r : Reg) (i : Nat) (w : Word) : (L.setWord r i w).rot = L.rot := rfl
@[simp] theorem Leaf.setWord_trc (L : Leaf) (r : Reg) (i : Nat) (w : Word) : (L.setWord r i w).trc = L.trc := rfl
@[simp] theorem Leaf.setWord_lnk (L : Leaf) (r : Reg) (i : Nat) (w : Word) : (L.setWord r i w).lnk = L.lnk := rfl
@[simp] theorem Leaf.setWord_chg (L : Leaf) (r : Reg) (i : Nat) (w : Word) : (L.setWord r i w).chg = L.chg := rfl
@[simp] theorem Leaf.setWord_was (L : Leaf) (r : Reg) (i : Nat) (w : Word) : (L.setWord r i w).was = L.was := rfl
@[simp] theorem Leaf.setWord_act (L : Leaf) (r : Reg) (i : Nat) (w : Word) : (L.setWord r i w).act = L.act := rfl
@[simp] theorem Leaf.setWord_thm (L : Leaf) (r : Reg) (i : Nat) (w : Word) : (L.setWord r i w).thm = L.thm := rfl
@[simp] theorem Leaf.setWord_tie (L : Leaf) (r : Reg) (i : Nat) (w : Word) : (L.setWord r i w).tie = L.tie := rfl
@[simp] theorem Leaf.setWord_hre (L : Leaf) (r : Reg) (i : Nat) (w : Word) : (L.setWord r i w).hre = L.hre := rfl
@[simp] theorem Leaf.setWord_net (L : Leaf) (r : Reg) (i : Nat) (w : Word) : (L.setWord r i w).net = L.net := rfl
@[simp] theorem Leaf.setWord_ldg (L : Leaf) (r : Reg) (i : Nat) (w : Word) : (L.setWord r i w).ldg = L.ldg := rfl
@[simp] theorem Leaf.setWord_his (L : Leaf) (r : Reg) (i : Nat) (w : Word) : (L.setWord r i w).his = L.his := rfl
@[simp] theorem Leaf.setWord_svc (L : Leaf) (r : Reg) (i : Nat) (w : Word) : (L.setWord r i w).svc = L.svc := rfl
@[simp] theorem Leaf.setWord_upd (L : Leaf) (r : Reg) (i : Nat) (w : Word) : (L.setWord r i w).upd = L.upd := rfl
@[simp] theorem Leaf.setWord_bst (L : Leaf) (r : Reg) (i : Nat) (w : Word) : (L.setWord r i w).bst = L.bst := rfl

@[simp] theorem Leaf.put_id (L : Leaf) (f : Fld) (v i : Nat) : (L.put f v i).id = L.id := rfl
@[simp] theorem Leaf.put_role (L : Leaf) (f : Fld) (v i : Nat) : (L.put f v i).role = L.role := rfl
@[simp] theorem Leaf.put_count (L : Leaf) (f : Fld) (v i : Nat) : (L.put f v i).count = L.count := rfl
@[simp] theorem Leaf.put_tick (L : Leaf) (f : Fld) (v i : Nat) : (L.put f v i).tick = L.tick := rfl
@[simp] theorem Leaf.put_cut (L : Leaf) (f : Fld) (v i : Nat) : (L.put f v i).cut = L.cut := rfl
@[simp] theorem Leaf.put_out (L : Leaf) (f : Fld) (v i : Nat) : (L.put f v i).out = L.out := rfl
@[simp] theorem Leaf.put_crs (L : Leaf) (f : Fld) (v i : Nat) : (L.put f v i).crs = L.crs := rfl
@[simp] theorem Leaf.put_ash (L : Leaf) (f : Fld) (v i : Nat) : (L.put f v i).ash = L.ash := rfl
@[simp] theorem Leaf.put_cmp (L : Leaf) (f : Fld) (v i : Nat) : (L.put f v i).cmp = L.cmp := rfl
@[simp] theorem Leaf.put_sns (L : Leaf) (f : Fld) (v i : Nat) : (L.put f v i).sns = L.sns := rfl
@[simp] theorem Leaf.put_pos (L : Leaf) (f : Fld) (v i : Nat) : (L.put f v i).pos = L.pos := rfl
@[simp] theorem Leaf.put_gst (L : Leaf) (f : Fld) (v i : Nat) : (L.put f v i).gst = L.gst := rfl
@[simp] theorem Leaf.put_upd0 (L : Leaf) (f : Fld) (v i : Nat) : (L.put f v i).upd0 = L.upd0 := rfl
@[simp] theorem Leaf.put_rot (L : Leaf) (f : Fld) (v i : Nat) : (L.put f v i).rot = L.rot := rfl
@[simp] theorem Leaf.put_trc (L : Leaf) (f : Fld) (v i : Nat) : (L.put f v i).trc = L.trc := rfl
@[simp] theorem Leaf.put_lnk (L : Leaf) (f : Fld) (v i : Nat) : (L.put f v i).lnk = L.lnk := rfl
@[simp] theorem Leaf.put_chg (L : Leaf) (f : Fld) (v i : Nat) : (L.put f v i).chg = L.chg := rfl
@[simp] theorem Leaf.put_was (L : Leaf) (f : Fld) (v i : Nat) : (L.put f v i).was = L.was := rfl
@[simp] theorem Leaf.put_act (L : Leaf) (f : Fld) (v i : Nat) : (L.put f v i).act = L.act := rfl
@[simp] theorem Leaf.put_thm (L : Leaf) (f : Fld) (v i : Nat) : (L.put f v i).thm = L.thm := rfl
@[simp] theorem Leaf.put_tie (L : Leaf) (f : Fld) (v i : Nat) : (L.put f v i).tie = L.tie := rfl
@[simp] theorem Leaf.put_hre (L : Leaf) (f : Fld) (v i : Nat) : (L.put f v i).hre = L.hre := rfl
@[simp] theorem Leaf.put_net (L : Leaf) (f : Fld) (v i : Nat) : (L.put f v i).net = L.net := rfl
@[simp] theorem Leaf.put_ldg (L : Leaf) (f : Fld) (v i : Nat) : (L.put f v i).ldg = L.ldg := rfl
@[simp] theorem Leaf.put_his (L : Leaf) (f : Fld) (v i : Nat) : (L.put f v i).his = L.his := rfl
@[simp] theorem Leaf.put_svc (L : Leaf) (f : Fld) (v i : Nat) : (L.put f v i).svc = L.svc := rfl
@[simp] theorem Leaf.put_upd (L : Leaf) (f : Fld) (v i : Nat) : (L.put f v i).upd = L.upd := rfl
@[simp] theorem Leaf.put_bst (L : Leaf) (f : Fld) (v i : Nat) : (L.put f v i).bst = L.bst := rfl

@[simp] theorem Leaf.bumpBy_id (L : Leaf) (f : Fld) (v i : Nat) : (L.bumpBy f v i).id = L.id := rfl
@[simp] theorem Leaf.bumpBy_role (L : Leaf) (f : Fld) (v i : Nat) : (L.bumpBy f v i).role = L.role := rfl
@[simp] theorem Leaf.bumpBy_count (L : Leaf) (f : Fld) (v i : Nat) : (L.bumpBy f v i).count = L.count := rfl
@[simp] theorem Leaf.bumpBy_tick (L : Leaf) (f : Fld) (v i : Nat) : (L.bumpBy f v i).tick = L.tick := rfl
@[simp] theorem Leaf.bumpBy_cut (L : Leaf) (f : Fld) (v i : Nat) : (L.bumpBy f v i).cut = L.cut := rfl
@[simp] theorem Leaf.bumpBy_out (L : Leaf) (f : Fld) (v i : Nat) : (L.bumpBy f v i).out = L.out := rfl
@[simp] theorem Leaf.bumpBy_crs (L : Leaf) (f : Fld) (v i : Nat) : (L.bumpBy f v i).crs = L.crs := rfl
@[simp] theorem Leaf.bumpBy_ash (L : Leaf) (f : Fld) (v i : Nat) : (L.bumpBy f v i).ash = L.ash := rfl
@[simp] theorem Leaf.bumpBy_cmp (L : Leaf) (f : Fld) (v i : Nat) : (L.bumpBy f v i).cmp = L.cmp := rfl
@[simp] theorem Leaf.bumpBy_sns (L : Leaf) (f : Fld) (v i : Nat) : (L.bumpBy f v i).sns = L.sns := rfl
@[simp] theorem Leaf.bumpBy_pos (L : Leaf) (f : Fld) (v i : Nat) : (L.bumpBy f v i).pos = L.pos := rfl
@[simp] theorem Leaf.bumpBy_gst (L : Leaf) (f : Fld) (v i : Nat) : (L.bumpBy f v i).gst = L.gst := rfl
@[simp] theorem Leaf.bumpBy_upd0 (L : Leaf) (f : Fld) (v i : Nat) : (L.bumpBy f v i).upd0 = L.upd0 := rfl
@[simp] theorem Leaf.bumpBy_rot (L : Leaf) (f : Fld) (v i : Nat) : (L.bumpBy f v i).rot = L.rot := rfl
@[simp] theorem Leaf.bumpBy_trc (L : Leaf) (f : Fld) (v i : Nat) : (L.bumpBy f v i).trc = L.trc := rfl
@[simp] theorem Leaf.bumpBy_lnk (L : Leaf) (f : Fld) (v i : Nat) : (L.bumpBy f v i).lnk = L.lnk := rfl
@[simp] theorem Leaf.bumpBy_chg (L : Leaf) (f : Fld) (v i : Nat) : (L.bumpBy f v i).chg = L.chg := rfl
@[simp] theorem Leaf.bumpBy_was (L : Leaf) (f : Fld) (v i : Nat) : (L.bumpBy f v i).was = L.was := rfl
@[simp] theorem Leaf.bumpBy_act (L : Leaf) (f : Fld) (v i : Nat) : (L.bumpBy f v i).act = L.act := rfl
@[simp] theorem Leaf.bumpBy_thm (L : Leaf) (f : Fld) (v i : Nat) : (L.bumpBy f v i).thm = L.thm := rfl
@[simp] theorem Leaf.bumpBy_tie (L : Leaf) (f : Fld) (v i : Nat) : (L.bumpBy f v i).tie = L.tie := rfl
@[simp] theorem Leaf.bumpBy_hre (L : Leaf) (f : Fld) (v i : Nat) : (L.bumpBy f v i).hre = L.hre := rfl
@[simp] theorem Leaf.bumpBy_net (L : Leaf) (f : Fld) (v i : Nat) : (L.bumpBy f v i).net = L.net := rfl
@[simp] theorem Leaf.bumpBy_ldg (L : Leaf) (f : Fld) (v i : Nat) : (L.bumpBy f v i).ldg = L.ldg := rfl
@[simp] theorem Leaf.bumpBy_his (L : Leaf) (f : Fld) (v i : Nat) : (L.bumpBy f v i).his = L.his := rfl
@[simp] theorem Leaf.bumpBy_svc (L : Leaf) (f : Fld) (v i : Nat) : (L.bumpBy f v i).svc = L.svc := rfl
@[simp] theorem Leaf.bumpBy_upd (L : Leaf) (f : Fld) (v i : Nat) : (L.bumpBy f v i).upd = L.upd := rfl
@[simp] theorem Leaf.bumpBy_bst (L : Leaf) (f : Fld) (v i : Nat) : (L.bumpBy f v i).bst = L.bst := rfl

@[simp] theorem Leaf.bump_id (L : Leaf) (f : Fld) (i : Nat) : (L.bump f i).id = L.id := rfl
@[simp] theorem Leaf.bump_role (L : Leaf) (f : Fld) (i : Nat) : (L.bump f i).role = L.role := rfl
@[simp] theorem Leaf.bump_count (L : Leaf) (f : Fld) (i : Nat) : (L.bump f i).count = L.count := rfl
@[simp] theorem Leaf.bump_tick (L : Leaf) (f : Fld) (i : Nat) : (L.bump f i).tick = L.tick := rfl
@[simp] theorem Leaf.bump_cut (L : Leaf) (f : Fld) (i : Nat) : (L.bump f i).cut = L.cut := rfl
@[simp] theorem Leaf.bump_out (L : Leaf) (f : Fld) (i : Nat) : (L.bump f i).out = L.out := rfl
@[simp] theorem Leaf.bump_crs (L : Leaf) (f : Fld) (i : Nat) : (L.bump f i).crs = L.crs := rfl
@[simp] theorem Leaf.bump_ash (L : Leaf) (f : Fld) (i : Nat) : (L.bump f i).ash = L.ash := rfl
@[simp] theorem Leaf.bump_cmp (L : Leaf) (f : Fld) (i : Nat) : (L.bump f i).cmp = L.cmp := rfl
@[simp] theorem Leaf.bump_sns (L : Leaf) (f : Fld) (i : Nat) : (L.bump f i).sns = L.sns := rfl
@[simp] theorem Leaf.bump_pos (L : Leaf) (f : Fld) (i : Nat) : (L.bump f i).pos = L.pos := rfl
@[simp] theorem Leaf.bump_gst (L : Leaf) (f : Fld) (i : Nat) : (L.bump f i).gst = L.gst := rfl
@[simp] theorem Leaf.bump_upd0 (L : Leaf) (f : Fld) (i : Nat) : (L.bump f i).upd0 = L.upd0 := rfl
@[simp] theorem Leaf.bump_rot (L : Leaf) (f : Fld) (i : Nat) : (L.bump f i).rot = L.rot := rfl
@[simp] theorem Leaf.bump_trc (L : Leaf) (f : Fld) (i : Nat) : (L.bump f i).trc = L.trc := rfl
@[simp] theorem Leaf.bump_lnk (L : Leaf) (f : Fld) (i : Nat) : (L.bump f i).lnk = L.lnk := rfl
@[simp] theorem Leaf.bump_chg (L : Leaf) (f : Fld) (i : Nat) : (L.bump f i).chg = L.chg := rfl
@[simp] theorem Leaf.bump_was (L : Leaf) (f : Fld) (i : Nat) : (L.bump f i).was = L.was := rfl
@[simp] theorem Leaf.bump_act (L : Leaf) (f : Fld) (i : Nat) : (L.bump f i).act = L.act := rfl
@[simp] theorem Leaf.bump_thm (L : Leaf) (f : Fld) (i : Nat) : (L.bump f i).thm = L.thm := rfl
@[simp] theorem Leaf.bump_tie (L : Leaf) (f : Fld) (i : Nat) : (L.bump f i).tie = L.tie := rfl
@[simp] theorem Leaf.bump_hre (L : Leaf) (f : Fld) (i : Nat) : (L.bump f i).hre = L.hre := rfl
@[simp] theorem Leaf.bump_net (L : Leaf) (f : Fld) (i : Nat) : (L.bump f i).net = L.net := rfl
@[simp] theorem Leaf.bump_ldg (L : Leaf) (f : Fld) (i : Nat) : (L.bump f i).ldg = L.ldg := rfl
@[simp] theorem Leaf.bump_his (L : Leaf) (f : Fld) (i : Nat) : (L.bump f i).his = L.his := rfl
@[simp] theorem Leaf.bump_svc (L : Leaf) (f : Fld) (i : Nat) : (L.bump f i).svc = L.svc := rfl
@[simp] theorem Leaf.bump_upd (L : Leaf) (f : Fld) (i : Nat) : (L.bump f i).upd = L.upd := rfl
@[simp] theorem Leaf.bump_bst (L : Leaf) (f : Fld) (i : Nat) : (L.bump f i).bst = L.bst := rfl

@[simp] theorem Leaf.onAsh_id (L : Leaf) (f : Ash → Ash) : (L.onAsh f).id = L.id := rfl
@[simp] theorem Leaf.onAsh_regs (L : Leaf) (f : Ash → Ash) : (L.onAsh f).regs = L.regs := rfl
@[simp] theorem Leaf.onAsh_role (L : Leaf) (f : Ash → Ash) : (L.onAsh f).role = L.role := rfl
@[simp] theorem Leaf.onAsh_count (L : Leaf) (f : Ash → Ash) : (L.onAsh f).count = L.count := rfl
@[simp] theorem Leaf.onAsh_tick (L : Leaf) (f : Ash → Ash) : (L.onAsh f).tick = L.tick := rfl
@[simp] theorem Leaf.onAsh_cut (L : Leaf) (f : Ash → Ash) : (L.onAsh f).cut = L.cut := rfl
@[simp] theorem Leaf.onAsh_out (L : Leaf) (f : Ash → Ash) : (L.onAsh f).out = L.out := rfl
@[simp] theorem Leaf.onAsh_crs (L : Leaf) (f : Ash → Ash) : (L.onAsh f).crs = L.crs := rfl
@[simp] theorem Leaf.onAsh_ash (L : Leaf) (f : Ash → Ash) : (L.onAsh f).ash = f L.ash := rfl
@[simp] theorem Leaf.onAsh_cmp (L : Leaf) (f : Ash → Ash) : (L.onAsh f).cmp = L.cmp := rfl
@[simp] theorem Leaf.onAsh_sns (L : Leaf) (f : Ash → Ash) : (L.onAsh f).sns = L.sns := rfl
@[simp] theorem Leaf.onAsh_pos (L : Leaf) (f : Ash → Ash) : (L.onAsh f).pos = L.pos := rfl
@[simp] theorem Leaf.onAsh_gst (L : Leaf) (f : Ash → Ash) : (L.onAsh f).gst = L.gst := rfl
@[simp] theorem Leaf.onAsh_upd0 (L : Leaf) (f : Ash → Ash) : (L.onAsh f).upd0 = L.upd0 := rfl
@[simp] theorem Leaf.onAsh_rot (L : Leaf) (f : Ash → Ash) : (L.onAsh f).rot = L.rot := rfl
@[simp] theorem Leaf.onAsh_trc (L : Leaf) (f : Ash → Ash) : (L.onAsh f).trc = L.trc := rfl
@[simp] theorem Leaf.onAsh_lnk (L : Leaf) (f : Ash → Ash) : (L.onAsh f).lnk = L.lnk := rfl
@[simp] theorem Leaf.onAsh_chg (L : Leaf) (f : Ash → Ash) : (L.onAsh f).chg = L.chg := rfl
@[simp] theorem Leaf.onAsh_was (L : Leaf) (f : Ash → Ash) : (L.onAsh f).was = L.was := rfl
@[simp] theorem Leaf.onAsh_act (L : Leaf) (f : Ash → Ash) : (L.onAsh f).act = L.act := rfl
@[simp] theorem Leaf.onAsh_thm (L : Leaf) (f : Ash → Ash) : (L.onAsh f).thm = L.thm := rfl
@[simp] theorem Leaf.onAsh_tie (L : Leaf) (f : Ash → Ash) : (L.onAsh f).tie = L.tie := rfl
@[simp] theorem Leaf.onAsh_hre (L : Leaf) (f : Ash → Ash) : (L.onAsh f).hre = L.hre := rfl
@[simp] theorem Leaf.onAsh_net (L : Leaf) (f : Ash → Ash) : (L.onAsh f).net = L.net := rfl
@[simp] theorem Leaf.onAsh_ldg (L : Leaf) (f : Ash → Ash) : (L.onAsh f).ldg = L.ldg := rfl
@[simp] theorem Leaf.onAsh_his (L : Leaf) (f : Ash → Ash) : (L.onAsh f).his = L.his := rfl
@[simp] theorem Leaf.onAsh_svc (L : Leaf) (f : Ash → Ash) : (L.onAsh f).svc = L.svc := rfl
@[simp] theorem Leaf.onAsh_upd (L : Leaf) (f : Ash → Ash) : (L.onAsh f).upd = L.upd := rfl
@[simp] theorem Leaf.onAsh_bst (L : Leaf) (f : Ash → Ash) : (L.onAsh f).bst = L.bst := rfl

@[simp] theorem Leaf.onNet_id (L : Leaf) (f : Net → Net) : (L.onNet f).id = L.id := rfl
@[simp] theorem Leaf.onNet_regs (L : Leaf) (f : Net → Net) : (L.onNet f).regs = L.regs := rfl
@[simp] theorem Leaf.onNet_role (L : Leaf) (f : Net → Net) : (L.onNet f).role = L.role := rfl
@[simp] theorem Leaf.onNet_count (L : Leaf) (f : Net → Net) : (L.onNet f).count = L.count := rfl
@[simp] theorem Leaf.onNet_tick (L : Leaf) (f : Net → Net) : (L.onNet f).tick = L.tick := rfl
@[simp] theorem Leaf.onNet_cut (L : Leaf) (f : Net → Net) : (L.onNet f).cut = L.cut := rfl
@[simp] theorem Leaf.onNet_out (L : Leaf) (f : Net → Net) : (L.onNet f).out = L.out := rfl
@[simp] theorem Leaf.onNet_crs (L : Leaf) (f : Net → Net) : (L.onNet f).crs = L.crs := rfl
@[simp] theorem Leaf.onNet_ash (L : Leaf) (f : Net → Net) : (L.onNet f).ash = L.ash := rfl
@[simp] theorem Leaf.onNet_cmp (L : Leaf) (f : Net → Net) : (L.onNet f).cmp = L.cmp := rfl
@[simp] theorem Leaf.onNet_sns (L : Leaf) (f : Net → Net) : (L.onNet f).sns = L.sns := rfl
@[simp] theorem Leaf.onNet_pos (L : Leaf) (f : Net → Net) : (L.onNet f).pos = L.pos := rfl
@[simp] theorem Leaf.onNet_gst (L : Leaf) (f : Net → Net) : (L.onNet f).gst = L.gst := rfl
@[simp] theorem Leaf.onNet_upd0 (L : Leaf) (f : Net → Net) : (L.onNet f).upd0 = L.upd0 := rfl
@[simp] theorem Leaf.onNet_rot (L : Leaf) (f : Net → Net) : (L.onNet f).rot = L.rot := rfl
@[simp] theorem Leaf.onNet_trc (L : Leaf) (f : Net → Net) : (L.onNet f).trc = L.trc := rfl
@[simp] theorem Leaf.onNet_lnk (L : Leaf) (f : Net → Net) : (L.onNet f).lnk = L.lnk := rfl
@[simp] theorem Leaf.onNet_chg (L : Leaf) (f : Net → Net) : (L.onNet f).chg = L.chg := rfl
@[simp] theorem Leaf.onNet_was (L : Leaf) (f : Net → Net) : (L.onNet f).was = L.was := rfl
@[simp] theorem Leaf.onNet_act (L : Leaf) (f : Net → Net) : (L.onNet f).act = L.act := rfl
@[simp] theorem Leaf.onNet_thm (L : Leaf) (f : Net → Net) : (L.onNet f).thm = L.thm := rfl
@[simp] theorem Leaf.onNet_tie (L : Leaf) (f : Net → Net) : (L.onNet f).tie = L.tie := rfl
@[simp] theorem Leaf.onNet_hre (L : Leaf) (f : Net → Net) : (L.onNet f).hre = L.hre := rfl
@[simp] theorem Leaf.onNet_net (L : Leaf) (f : Net → Net) : (L.onNet f).net = f L.net := rfl
@[simp] theorem Leaf.onNet_ldg (L : Leaf) (f : Net → Net) : (L.onNet f).ldg = L.ldg := rfl
@[simp] theorem Leaf.onNet_his (L : Leaf) (f : Net → Net) : (L.onNet f).his = L.his := rfl
@[simp] theorem Leaf.onNet_svc (L : Leaf) (f : Net → Net) : (L.onNet f).svc = L.svc := rfl
@[simp] theorem Leaf.onNet_upd (L : Leaf) (f : Net → Net) : (L.onNet f).upd = L.upd := rfl
@[simp] theorem Leaf.onNet_bst (L : Leaf) (f : Net → Net) : (L.onNet f).bst = L.bst := rfl

@[simp] theorem Leaf.onChg_id (L : Leaf) (f : Chg → Chg) : (L.onChg f).id = L.id := rfl
@[simp] theorem Leaf.onChg_regs (L : Leaf) (f : Chg → Chg) : (L.onChg f).regs = L.regs := rfl
@[simp] theorem Leaf.onChg_role (L : Leaf) (f : Chg → Chg) : (L.onChg f).role = L.role := rfl
@[simp] theorem Leaf.onChg_count (L : Leaf) (f : Chg → Chg) : (L.onChg f).count = L.count := rfl
@[simp] theorem Leaf.onChg_tick (L : Leaf) (f : Chg → Chg) : (L.onChg f).tick = L.tick := rfl
@[simp] theorem Leaf.onChg_cut (L : Leaf) (f : Chg → Chg) : (L.onChg f).cut = L.cut := rfl
@[simp] theorem Leaf.onChg_out (L : Leaf) (f : Chg → Chg) : (L.onChg f).out = L.out := rfl
@[simp] theorem Leaf.onChg_crs (L : Leaf) (f : Chg → Chg) : (L.onChg f).crs = L.crs := rfl
@[simp] theorem Leaf.onChg_ash (L : Leaf) (f : Chg → Chg) : (L.onChg f).ash = L.ash := rfl
@[simp] theorem Leaf.onChg_cmp (L : Leaf) (f : Chg → Chg) : (L.onChg f).cmp = L.cmp := rfl
@[simp] theorem Leaf.onChg_sns (L : Leaf) (f : Chg → Chg) : (L.onChg f).sns = L.sns := rfl
@[simp] theorem Leaf.onChg_pos (L : Leaf) (f : Chg → Chg) : (L.onChg f).pos = L.pos := rfl
@[simp] theorem Leaf.onChg_gst (L : Leaf) (f : Chg → Chg) : (L.onChg f).gst = L.gst := rfl
@[simp] theorem Leaf.onChg_upd0 (L : Leaf) (f : Chg → Chg) : (L.onChg f).upd0 = L.upd0 := rfl
@[simp] theorem Leaf.onChg_rot (L : Leaf) (f : Chg → Chg) : (L.onChg f).rot = L.rot := rfl
@[simp] theorem Leaf.onChg_trc (L : Leaf) (f : Chg → Chg) : (L.onChg f).trc = L.trc := rfl
@[simp] theorem Leaf.onChg_lnk (L : Leaf) (f : Chg → Chg) : (L.onChg f).lnk = L.lnk := rfl
@[simp] theorem Leaf.onChg_chg (L : Leaf) (f : Chg → Chg) : (L.onChg f).chg = f L.chg := rfl
@[simp] theorem Leaf.onChg_was (L : Leaf) (f : Chg → Chg) : (L.onChg f).was = L.was := rfl
@[simp] theorem Leaf.onChg_act (L : Leaf) (f : Chg → Chg) : (L.onChg f).act = L.act := rfl
@[simp] theorem Leaf.onChg_thm (L : Leaf) (f : Chg → Chg) : (L.onChg f).thm = L.thm := rfl
@[simp] theorem Leaf.onChg_tie (L : Leaf) (f : Chg → Chg) : (L.onChg f).tie = L.tie := rfl
@[simp] theorem Leaf.onChg_hre (L : Leaf) (f : Chg → Chg) : (L.onChg f).hre = L.hre := rfl
@[simp] theorem Leaf.onChg_net (L : Leaf) (f : Chg → Chg) : (L.onChg f).net = L.net := rfl
@[simp] theorem Leaf.onChg_ldg (L : Leaf) (f : Chg → Chg) : (L.onChg f).ldg = L.ldg := rfl
@[simp] theorem Leaf.onChg_his (L : Leaf) (f : Chg → Chg) : (L.onChg f).his = L.his := rfl
@[simp] theorem Leaf.onChg_svc (L : Leaf) (f : Chg → Chg) : (L.onChg f).svc = L.svc := rfl
@[simp] theorem Leaf.onChg_upd (L : Leaf) (f : Chg → Chg) : (L.onChg f).upd = L.upd := rfl
@[simp] theorem Leaf.onChg_bst (L : Leaf) (f : Chg → Chg) : (L.onChg f).bst = L.bst := rfl

@[simp] theorem Leaf.onLdg_id (L : Leaf) (f : Ldg → Ldg) : (L.onLdg f).id = L.id := rfl
@[simp] theorem Leaf.onLdg_regs (L : Leaf) (f : Ldg → Ldg) : (L.onLdg f).regs = L.regs := rfl
@[simp] theorem Leaf.onLdg_role (L : Leaf) (f : Ldg → Ldg) : (L.onLdg f).role = L.role := rfl
@[simp] theorem Leaf.onLdg_count (L : Leaf) (f : Ldg → Ldg) : (L.onLdg f).count = L.count := rfl
@[simp] theorem Leaf.onLdg_tick (L : Leaf) (f : Ldg → Ldg) : (L.onLdg f).tick = L.tick := rfl
@[simp] theorem Leaf.onLdg_cut (L : Leaf) (f : Ldg → Ldg) : (L.onLdg f).cut = L.cut := rfl
@[simp] theorem Leaf.onLdg_out (L : Leaf) (f : Ldg → Ldg) : (L.onLdg f).out = L.out := rfl
@[simp] theorem Leaf.onLdg_crs (L : Leaf) (f : Ldg → Ldg) : (L.onLdg f).crs = L.crs := rfl
@[simp] theorem Leaf.onLdg_ash (L : Leaf) (f : Ldg → Ldg) : (L.onLdg f).ash = L.ash := rfl
@[simp] theorem Leaf.onLdg_cmp (L : Leaf) (f : Ldg → Ldg) : (L.onLdg f).cmp = L.cmp := rfl
@[simp] theorem Leaf.onLdg_sns (L : Leaf) (f : Ldg → Ldg) : (L.onLdg f).sns = L.sns := rfl
@[simp] theorem Leaf.onLdg_pos (L : Leaf) (f : Ldg → Ldg) : (L.onLdg f).pos = L.pos := rfl
@[simp] theorem Leaf.onLdg_gst (L : Leaf) (f : Ldg → Ldg) : (L.onLdg f).gst = L.gst := rfl
@[simp] theorem Leaf.onLdg_upd0 (L : Leaf) (f : Ldg → Ldg) : (L.onLdg f).upd0 = L.upd0 := rfl
@[simp] theorem Leaf.onLdg_rot (L : Leaf) (f : Ldg → Ldg) : (L.onLdg f).rot = L.rot := rfl
@[simp] theorem Leaf.onLdg_trc (L : Leaf) (f : Ldg → Ldg) : (L.onLdg f).trc = L.trc := rfl
@[simp] theorem Leaf.onLdg_lnk (L : Leaf) (f : Ldg → Ldg) : (L.onLdg f).lnk = L.lnk := rfl
@[simp] theorem Leaf.onLdg_chg (L : Leaf) (f : Ldg → Ldg) : (L.onLdg f).chg = L.chg := rfl
@[simp] theorem Leaf.onLdg_was (L : Leaf) (f : Ldg → Ldg) : (L.onLdg f).was = L.was := rfl
@[simp] theorem Leaf.onLdg_act (L : Leaf) (f : Ldg → Ldg) : (L.onLdg f).act = L.act := rfl
@[simp] theorem Leaf.onLdg_thm (L : Leaf) (f : Ldg → Ldg) : (L.onLdg f).thm = L.thm := rfl
@[simp] theorem Leaf.onLdg_tie (L : Leaf) (f : Ldg → Ldg) : (L.onLdg f).tie = L.tie := rfl
@[simp] theorem Leaf.onLdg_hre (L : Leaf) (f : Ldg → Ldg) : (L.onLdg f).hre = L.hre := rfl
@[simp] theorem Leaf.onLdg_net (L : Leaf) (f : Ldg → Ldg) : (L.onLdg f).net = L.net := rfl
@[simp] theorem Leaf.onLdg_ldg (L : Leaf) (f : Ldg → Ldg) : (L.onLdg f).ldg = f L.ldg := rfl
@[simp] theorem Leaf.onLdg_his (L : Leaf) (f : Ldg → Ldg) : (L.onLdg f).his = L.his := rfl
@[simp] theorem Leaf.onLdg_svc (L : Leaf) (f : Ldg → Ldg) : (L.onLdg f).svc = L.svc := rfl
@[simp] theorem Leaf.onLdg_upd (L : Leaf) (f : Ldg → Ldg) : (L.onLdg f).upd = L.upd := rfl
@[simp] theorem Leaf.onLdg_bst (L : Leaf) (f : Ldg → Ldg) : (L.onLdg f).bst = L.bst := rfl

@[simp] theorem Leaf.onHis_id (L : Leaf) (f : His → His) : (L.onHis f).id = L.id := rfl
@[simp] theorem Leaf.onHis_regs (L : Leaf) (f : His → His) : (L.onHis f).regs = L.regs := rfl
@[simp] theorem Leaf.onHis_role (L : Leaf) (f : His → His) : (L.onHis f).role = L.role := rfl
@[simp] theorem Leaf.onHis_count (L : Leaf) (f : His → His) : (L.onHis f).count = L.count := rfl
@[simp] theorem Leaf.onHis_tick (L : Leaf) (f : His → His) : (L.onHis f).tick = L.tick := rfl
@[simp] theorem Leaf.onHis_cut (L : Leaf) (f : His → His) : (L.onHis f).cut = L.cut := rfl
@[simp] theorem Leaf.onHis_out (L : Leaf) (f : His → His) : (L.onHis f).out = L.out := rfl
@[simp] theorem Leaf.onHis_crs (L : Leaf) (f : His → His) : (L.onHis f).crs = L.crs := rfl
@[simp] theorem Leaf.onHis_ash (L : Leaf) (f : His → His) : (L.onHis f).ash = L.ash := rfl
@[simp] theorem Leaf.onHis_cmp (L : Leaf) (f : His → His) : (L.onHis f).cmp = L.cmp := rfl
@[simp] theorem Leaf.onHis_sns (L : Leaf) (f : His → His) : (L.onHis f).sns = L.sns := rfl
@[simp] theorem Leaf.onHis_pos (L : Leaf) (f : His → His) : (L.onHis f).pos = L.pos := rfl
@[simp] theorem Leaf.onHis_gst (L : Leaf) (f : His → His) : (L.onHis f).gst = L.gst := rfl
@[simp] theorem Leaf.onHis_upd0 (L : Leaf) (f : His → His) : (L.onHis f).upd0 = L.upd0 := rfl
@[simp] theorem Leaf.onHis_rot (L : Leaf) (f : His → His) : (L.onHis f).rot = L.rot := rfl
@[simp] theorem Leaf.onHis_trc (L : Leaf) (f : His → His) : (L.onHis f).trc = L.trc := rfl
@[simp] theorem Leaf.onHis_lnk (L : Leaf) (f : His → His) : (L.onHis f).lnk = L.lnk := rfl
@[simp] theorem Leaf.onHis_chg (L : Leaf) (f : His → His) : (L.onHis f).chg = L.chg := rfl
@[simp] theorem Leaf.onHis_was (L : Leaf) (f : His → His) : (L.onHis f).was = L.was := rfl
@[simp] theorem Leaf.onHis_act (L : Leaf) (f : His → His) : (L.onHis f).act = L.act := rfl
@[simp] theorem Leaf.onHis_thm (L : Leaf) (f : His → His) : (L.onHis f).thm = L.thm := rfl
@[simp] theorem Leaf.onHis_tie (L : Leaf) (f : His → His) : (L.onHis f).tie = L.tie := rfl
@[simp] theorem Leaf.onHis_hre (L : Leaf) (f : His → His) : (L.onHis f).hre = L.hre := rfl
@[simp] theorem Leaf.onHis_net (L : Leaf) (f : His → His) : (L.onHis f).net = L.net := rfl
@[simp] theorem Leaf.onHis_ldg (L : Leaf) (f : His → His) : (L.onHis f).ldg = L.ldg := rfl
@[simp] theorem Leaf.onHis_his (L : Leaf) (f : His → His) : (L.onHis f).his = f L.his := rfl
@[simp] theorem Leaf.onHis_svc (L : Leaf) (f : His → His) : (L.onHis f).svc = L.svc := rfl
@[simp] theorem Leaf.onHis_upd (L : Leaf) (f : His → His) : (L.onHis f).upd = L.upd := rfl
@[simp] theorem Leaf.onHis_bst (L : Leaf) (f : His → His) : (L.onHis f).bst = L.bst := rfl

@[simp] theorem Leaf.onLnk_id (L : Leaf) (f : Lnk → Lnk) : (L.onLnk f).id = L.id := rfl
@[simp] theorem Leaf.onLnk_regs (L : Leaf) (f : Lnk → Lnk) : (L.onLnk f).regs = L.regs := rfl
@[simp] theorem Leaf.onLnk_role (L : Leaf) (f : Lnk → Lnk) : (L.onLnk f).role = L.role := rfl
@[simp] theorem Leaf.onLnk_count (L : Leaf) (f : Lnk → Lnk) : (L.onLnk f).count = L.count := rfl
@[simp] theorem Leaf.onLnk_tick (L : Leaf) (f : Lnk → Lnk) : (L.onLnk f).tick = L.tick := rfl
@[simp] theorem Leaf.onLnk_cut (L : Leaf) (f : Lnk → Lnk) : (L.onLnk f).cut = L.cut := rfl
@[simp] theorem Leaf.onLnk_out (L : Leaf) (f : Lnk → Lnk) : (L.onLnk f).out = L.out := rfl
@[simp] theorem Leaf.onLnk_crs (L : Leaf) (f : Lnk → Lnk) : (L.onLnk f).crs = L.crs := rfl
@[simp] theorem Leaf.onLnk_ash (L : Leaf) (f : Lnk → Lnk) : (L.onLnk f).ash = L.ash := rfl
@[simp] theorem Leaf.onLnk_cmp (L : Leaf) (f : Lnk → Lnk) : (L.onLnk f).cmp = L.cmp := rfl
@[simp] theorem Leaf.onLnk_sns (L : Leaf) (f : Lnk → Lnk) : (L.onLnk f).sns = L.sns := rfl
@[simp] theorem Leaf.onLnk_pos (L : Leaf) (f : Lnk → Lnk) : (L.onLnk f).pos = L.pos := rfl
@[simp] theorem Leaf.onLnk_gst (L : Leaf) (f : Lnk → Lnk) : (L.onLnk f).gst = L.gst := rfl
@[simp] theorem Leaf.onLnk_upd0 (L : Leaf) (f : Lnk → Lnk) : (L.onLnk f).upd0 = L.upd0 := rfl
@[simp] theorem Leaf.onLnk_rot (L : Leaf) (f : Lnk → Lnk) : (L.onLnk f).rot = L.rot := rfl
@[simp] theorem Leaf.onLnk_trc (L : Leaf) (f : Lnk → Lnk) : (L.onLnk f).trc = L.trc := rfl
@[simp] theorem Leaf.onLnk_lnk (L : Leaf) (f : Lnk → Lnk) : (L.onLnk f).lnk = f L.lnk := rfl
@[simp] theorem Leaf.onLnk_chg (L : Leaf) (f : Lnk → Lnk) : (L.onLnk f).chg = L.chg := rfl
@[simp] theorem Leaf.onLnk_was (L : Leaf) (f : Lnk → Lnk) : (L.onLnk f).was = L.was := rfl
@[simp] theorem Leaf.onLnk_act (L : Leaf) (f : Lnk → Lnk) : (L.onLnk f).act = L.act := rfl
@[simp] theorem Leaf.onLnk_thm (L : Leaf) (f : Lnk → Lnk) : (L.onLnk f).thm = L.thm := rfl
@[simp] theorem Leaf.onLnk_tie (L : Leaf) (f : Lnk → Lnk) : (L.onLnk f).tie = L.tie := rfl
@[simp] theorem Leaf.onLnk_hre (L : Leaf) (f : Lnk → Lnk) : (L.onLnk f).hre = L.hre := rfl
@[simp] theorem Leaf.onLnk_net (L : Leaf) (f : Lnk → Lnk) : (L.onLnk f).net = L.net := rfl
@[simp] theorem Leaf.onLnk_ldg (L : Leaf) (f : Lnk → Lnk) : (L.onLnk f).ldg = L.ldg := rfl
@[simp] theorem Leaf.onLnk_his (L : Leaf) (f : Lnk → Lnk) : (L.onLnk f).his = L.his := rfl
@[simp] theorem Leaf.onLnk_svc (L : Leaf) (f : Lnk → Lnk) : (L.onLnk f).svc = L.svc := rfl
@[simp] theorem Leaf.onLnk_upd (L : Leaf) (f : Lnk → Lnk) : (L.onLnk f).upd = L.upd := rfl
@[simp] theorem Leaf.onLnk_bst (L : Leaf) (f : Lnk → Lnk) : (L.onLnk f).bst = L.bst := rfl

@[simp] theorem Leaf.onHre_id (L : Leaf) (f : Hre → Hre) : (L.onHre f).id = L.id := rfl
@[simp] theorem Leaf.onHre_regs (L : Leaf) (f : Hre → Hre) : (L.onHre f).regs = L.regs := rfl
@[simp] theorem Leaf.onHre_role (L : Leaf) (f : Hre → Hre) : (L.onHre f).role = L.role := rfl
@[simp] theorem Leaf.onHre_count (L : Leaf) (f : Hre → Hre) : (L.onHre f).count = L.count := rfl
@[simp] theorem Leaf.onHre_tick (L : Leaf) (f : Hre → Hre) : (L.onHre f).tick = L.tick := rfl
@[simp] theorem Leaf.onHre_cut (L : Leaf) (f : Hre → Hre) : (L.onHre f).cut = L.cut := rfl
@[simp] theorem Leaf.onHre_out (L : Leaf) (f : Hre → Hre) : (L.onHre f).out = L.out := rfl
@[simp] theorem Leaf.onHre_crs (L : Leaf) (f : Hre → Hre) : (L.onHre f).crs = L.crs := rfl
@[simp] theorem Leaf.onHre_ash (L : Leaf) (f : Hre → Hre) : (L.onHre f).ash = L.ash := rfl
@[simp] theorem Leaf.onHre_cmp (L : Leaf) (f : Hre → Hre) : (L.onHre f).cmp = L.cmp := rfl
@[simp] theorem Leaf.onHre_sns (L : Leaf) (f : Hre → Hre) : (L.onHre f).sns = L.sns := rfl
@[simp] theorem Leaf.onHre_pos (L : Leaf) (f : Hre → Hre) : (L.onHre f).pos = L.pos := rfl
@[simp] theorem Leaf.onHre_gst (L : Leaf) (f : Hre → Hre) : (L.onHre f).gst = L.gst := rfl
@[simp] theorem Leaf.onHre_upd0 (L : Leaf) (f : Hre → Hre) : (L.onHre f).upd0 = L.upd0 := rfl
@[simp] theorem Leaf.onHre_rot (L : Leaf) (f : Hre → Hre) : (L.onHre f).rot = L.rot := rfl
@[simp] theorem Leaf.onHre_trc (L : Leaf) (f : Hre → Hre) : (L.onHre f).trc = L.trc := rfl
@[simp] theorem Leaf.onHre_lnk (L : Leaf) (f : Hre → Hre) : (L.onHre f).lnk = L.lnk := rfl
@[simp] theorem Leaf.onHre_chg (L : Leaf) (f : Hre → Hre) : (L.onHre f).chg = L.chg := rfl
@[simp] theorem Leaf.onHre_was (L : Leaf) (f : Hre → Hre) : (L.onHre f).was = L.was := rfl
@[simp] theorem Leaf.onHre_act (L : Leaf) (f : Hre → Hre) : (L.onHre f).act = L.act := rfl
@[simp] theorem Leaf.onHre_thm (L : Leaf) (f : Hre → Hre) : (L.onHre f).thm = L.thm := rfl
@[simp] theorem Leaf.onHre_tie (L : Leaf) (f : Hre → Hre) : (L.onHre f).tie = L.tie := rfl
@[simp] theorem Leaf.onHre_hre (L : Leaf) (f : Hre → Hre) : (L.onHre f).hre = f L.hre := rfl
@[simp] theorem Leaf.onHre_net (L : Leaf) (f : Hre → Hre) : (L.onHre f).net = L.net := rfl
@[simp] theorem Leaf.onHre_ldg (L : Leaf) (f : Hre → Hre) : (L.onHre f).ldg = L.ldg := rfl
@[simp] theorem Leaf.onHre_his (L : Leaf) (f : Hre → Hre) : (L.onHre f).his = L.his := rfl
@[simp] theorem Leaf.onHre_svc (L : Leaf) (f : Hre → Hre) : (L.onHre f).svc = L.svc := rfl
@[simp] theorem Leaf.onHre_upd (L : Leaf) (f : Hre → Hre) : (L.onHre f).upd = L.upd := rfl
@[simp] theorem Leaf.onHre_bst (L : Leaf) (f : Hre → Hre) : (L.onHre f).bst = L.bst := rfl

@[simp] theorem Leaf.onTie_id (L : Leaf) (f : Tie → Tie) : (L.onTie f).id = L.id := rfl
@[simp] theorem Leaf.onTie_regs (L : Leaf) (f : Tie → Tie) : (L.onTie f).regs = L.regs := rfl
@[simp] theorem Leaf.onTie_role (L : Leaf) (f : Tie → Tie) : (L.onTie f).role = L.role := rfl
@[simp] theorem Leaf.onTie_count (L : Leaf) (f : Tie → Tie) : (L.onTie f).count = L.count := rfl
@[simp] theorem Leaf.onTie_tick (L : Leaf) (f : Tie → Tie) : (L.onTie f).tick = L.tick := rfl
@[simp] theorem Leaf.onTie_cut (L : Leaf) (f : Tie → Tie) : (L.onTie f).cut = L.cut := rfl
@[simp] theorem Leaf.onTie_out (L : Leaf) (f : Tie → Tie) : (L.onTie f).out = L.out := rfl
@[simp] theorem Leaf.onTie_crs (L : Leaf) (f : Tie → Tie) : (L.onTie f).crs = L.crs := rfl
@[simp] theorem Leaf.onTie_ash (L : Leaf) (f : Tie → Tie) : (L.onTie f).ash = L.ash := rfl
@[simp] theorem Leaf.onTie_cmp (L : Leaf) (f : Tie → Tie) : (L.onTie f).cmp = L.cmp := rfl
@[simp] theorem Leaf.onTie_sns (L : Leaf) (f : Tie → Tie) : (L.onTie f).sns = L.sns := rfl
@[simp] theorem Leaf.onTie_pos (L : Leaf) (f : Tie → Tie) : (L.onTie f).pos = L.pos := rfl
@[simp] theorem Leaf.onTie_gst (L : Leaf) (f : Tie → Tie) : (L.onTie f).gst = L.gst := rfl
@[simp] theorem Leaf.onTie_upd0 (L : Leaf) (f : Tie → Tie) : (L.onTie f).upd0 = L.upd0 := rfl
@[simp] theorem Leaf.onTie_rot (L : Leaf) (f : Tie → Tie) : (L.onTie f).rot = L.rot := rfl
@[simp] theorem Leaf.onTie_trc (L : Leaf) (f : Tie → Tie) : (L.onTie f).trc = L.trc := rfl
@[simp] theorem Leaf.onTie_lnk (L : Leaf) (f : Tie → Tie) : (L.onTie f).lnk = L.lnk := rfl
@[simp] theorem Leaf.onTie_chg (L : Leaf) (f : Tie → Tie) : (L.onTie f).chg = L.chg := rfl
@[simp] theorem Leaf.onTie_was (L : Leaf) (f : Tie → Tie) : (L.onTie f).was = L.was := rfl
@[simp] theorem Leaf.onTie_act (L : Leaf) (f : Tie → Tie) : (L.onTie f).act = L.act := rfl
@[simp] theorem Leaf.onTie_thm (L : Leaf) (f : Tie → Tie) : (L.onTie f).thm = L.thm := rfl
@[simp] theorem Leaf.onTie_tie (L : Leaf) (f : Tie → Tie) : (L.onTie f).tie = f L.tie := rfl
@[simp] theorem Leaf.onTie_hre (L : Leaf) (f : Tie → Tie) : (L.onTie f).hre = L.hre := rfl
@[simp] theorem Leaf.onTie_net (L : Leaf) (f : Tie → Tie) : (L.onTie f).net = L.net := rfl
@[simp] theorem Leaf.onTie_ldg (L : Leaf) (f : Tie → Tie) : (L.onTie f).ldg = L.ldg := rfl
@[simp] theorem Leaf.onTie_his (L : Leaf) (f : Tie → Tie) : (L.onTie f).his = L.his := rfl
@[simp] theorem Leaf.onTie_svc (L : Leaf) (f : Tie → Tie) : (L.onTie f).svc = L.svc := rfl
@[simp] theorem Leaf.onTie_upd (L : Leaf) (f : Tie → Tie) : (L.onTie f).upd = L.upd := rfl
@[simp] theorem Leaf.onTie_bst (L : Leaf) (f : Tie → Tie) : (L.onTie f).bst = L.bst := rfl

@[simp] theorem Leaf.onUpd_id (L : Leaf) (f : Upd → Upd) : (L.onUpd f).id = L.id := rfl
@[simp] theorem Leaf.onUpd_regs (L : Leaf) (f : Upd → Upd) : (L.onUpd f).regs = L.regs := rfl
@[simp] theorem Leaf.onUpd_role (L : Leaf) (f : Upd → Upd) : (L.onUpd f).role = L.role := rfl
@[simp] theorem Leaf.onUpd_count (L : Leaf) (f : Upd → Upd) : (L.onUpd f).count = L.count := rfl
@[simp] theorem Leaf.onUpd_tick (L : Leaf) (f : Upd → Upd) : (L.onUpd f).tick = L.tick := rfl
@[simp] theorem Leaf.onUpd_cut (L : Leaf) (f : Upd → Upd) : (L.onUpd f).cut = L.cut := rfl
@[simp] theorem Leaf.onUpd_out (L : Leaf) (f : Upd → Upd) : (L.onUpd f).out = L.out := rfl
@[simp] theorem Leaf.onUpd_crs (L : Leaf) (f : Upd → Upd) : (L.onUpd f).crs = L.crs := rfl
@[simp] theorem Leaf.onUpd_ash (L : Leaf) (f : Upd → Upd) : (L.onUpd f).ash = L.ash := rfl
@[simp] theorem Leaf.onUpd_cmp (L : Leaf) (f : Upd → Upd) : (L.onUpd f).cmp = L.cmp := rfl
@[simp] theorem Leaf.onUpd_sns (L : Leaf) (f : Upd → Upd) : (L.onUpd f).sns = L.sns := rfl
@[simp] theorem Leaf.onUpd_pos (L : Leaf) (f : Upd → Upd) : (L.onUpd f).pos = L.pos := rfl
@[simp] theorem Leaf.onUpd_gst (L : Leaf) (f : Upd → Upd) : (L.onUpd f).gst = L.gst := rfl
@[simp] theorem Leaf.onUpd_upd0 (L : Leaf) (f : Upd → Upd) : (L.onUpd f).upd0 = L.upd0 := rfl
@[simp] theorem Leaf.onUpd_rot (L : Leaf) (f : Upd → Upd) : (L.onUpd f).rot = L.rot := rfl
@[simp] theorem Leaf.onUpd_trc (L : Leaf) (f : Upd → Upd) : (L.onUpd f).trc = L.trc := rfl
@[simp] theorem Leaf.onUpd_lnk (L : Leaf) (f : Upd → Upd) : (L.onUpd f).lnk = L.lnk := rfl
@[simp] theorem Leaf.onUpd_chg (L : Leaf) (f : Upd → Upd) : (L.onUpd f).chg = L.chg := rfl
@[simp] theorem Leaf.onUpd_was (L : Leaf) (f : Upd → Upd) : (L.onUpd f).was = L.was := rfl
@[simp] theorem Leaf.onUpd_act (L : Leaf) (f : Upd → Upd) : (L.onUpd f).act = L.act := rfl
@[simp] theorem Leaf.onUpd_thm (L : Leaf) (f : Upd → Upd) : (L.onUpd f).thm = L.thm := rfl
@[simp] theorem Leaf.onUpd_tie (L : Leaf) (f : Upd → Upd) : (L.onUpd f).tie = L.tie := rfl
@[simp] theorem Leaf.onUpd_hre (L : Leaf) (f : Upd → Upd) : (L.onUpd f).hre = L.hre := rfl
@[simp] theorem Leaf.onUpd_net (L : Leaf) (f : Upd → Upd) : (L.onUpd f).net = L.net := rfl
@[simp] theorem Leaf.onUpd_ldg (L : Leaf) (f : Upd → Upd) : (L.onUpd f).ldg = L.ldg := rfl
@[simp] theorem Leaf.onUpd_his (L : Leaf) (f : Upd → Upd) : (L.onUpd f).his = L.his := rfl
@[simp] theorem Leaf.onUpd_svc (L : Leaf) (f : Upd → Upd) : (L.onUpd f).svc = L.svc := rfl
@[simp] theorem Leaf.onUpd_upd (L : Leaf) (f : Upd → Upd) : (L.onUpd f).upd = f L.upd := rfl
@[simp] theorem Leaf.onUpd_bst (L : Leaf) (f : Upd → Upd) : (L.onUpd f).bst = L.bst := rfl

@[simp] theorem Leaf.onAct_id (L : Leaf) (f : Act → Act) : (L.onAct f).id = L.id := rfl
@[simp] theorem Leaf.onAct_regs (L : Leaf) (f : Act → Act) : (L.onAct f).regs = L.regs := rfl
@[simp] theorem Leaf.onAct_role (L : Leaf) (f : Act → Act) : (L.onAct f).role = L.role := rfl
@[simp] theorem Leaf.onAct_count (L : Leaf) (f : Act → Act) : (L.onAct f).count = L.count := rfl
@[simp] theorem Leaf.onAct_tick (L : Leaf) (f : Act → Act) : (L.onAct f).tick = L.tick := rfl
@[simp] theorem Leaf.onAct_cut (L : Leaf) (f : Act → Act) : (L.onAct f).cut = L.cut := rfl
@[simp] theorem Leaf.onAct_out (L : Leaf) (f : Act → Act) : (L.onAct f).out = L.out := rfl
@[simp] theorem Leaf.onAct_crs (L : Leaf) (f : Act → Act) : (L.onAct f).crs = L.crs := rfl
@[simp] theorem Leaf.onAct_ash (L : Leaf) (f : Act → Act) : (L.onAct f).ash = L.ash := rfl
@[simp] theorem Leaf.onAct_cmp (L : Leaf) (f : Act → Act) : (L.onAct f).cmp = L.cmp := rfl
@[simp] theorem Leaf.onAct_sns (L : Leaf) (f : Act → Act) : (L.onAct f).sns = L.sns := rfl
@[simp] theorem Leaf.onAct_pos (L : Leaf) (f : Act → Act) : (L.onAct f).pos = L.pos := rfl
@[simp] theorem Leaf.onAct_gst (L : Leaf) (f : Act → Act) : (L.onAct f).gst = L.gst := rfl
@[simp] theorem Leaf.onAct_upd0 (L : Leaf) (f : Act → Act) : (L.onAct f).upd0 = L.upd0 := rfl
@[simp] theorem Leaf.onAct_rot (L : Leaf) (f : Act → Act) : (L.onAct f).rot = L.rot := rfl
@[simp] theorem Leaf.onAct_trc (L : Leaf) (f : Act → Act) : (L.onAct f).trc = L.trc := rfl
@[simp] theorem Leaf.onAct_lnk (L : Leaf) (f : Act → Act) : (L.onAct f).lnk = L.lnk := rfl
@[simp] theorem Leaf.onAct_chg (L : Leaf) (f : Act → Act) : (L.onAct f).chg = L.chg := rfl
@[simp] theorem Leaf.onAct_was (L : Leaf) (f : Act → Act) : (L.onAct f).was = L.was := rfl
@[simp] theorem Leaf.onAct_act (L : Leaf) (f : Act → Act) : (L.onAct f).act = f L.act := rfl
@[simp] theorem Leaf.onAct_thm (L : Leaf) (f : Act → Act) : (L.onAct f).thm = L.thm := rfl
@[simp] theorem Leaf.onAct_tie (L : Leaf) (f : Act → Act) : (L.onAct f).tie = L.tie := rfl
@[simp] theorem Leaf.onAct_hre (L : Leaf) (f : Act → Act) : (L.onAct f).hre = L.hre := rfl
@[simp] theorem Leaf.onAct_net (L : Leaf) (f : Act → Act) : (L.onAct f).net = L.net := rfl
@[simp] theorem Leaf.onAct_ldg (L : Leaf) (f : Act → Act) : (L.onAct f).ldg = L.ldg := rfl
@[simp] theorem Leaf.onAct_his (L : Leaf) (f : Act → Act) : (L.onAct f).his = L.his := rfl
@[simp] theorem Leaf.onAct_svc (L : Leaf) (f : Act → Act) : (L.onAct f).svc = L.svc := rfl
@[simp] theorem Leaf.onAct_upd (L : Leaf) (f : Act → Act) : (L.onAct f).upd = L.upd := rfl
@[simp] theorem Leaf.onAct_bst (L : Leaf) (f : Act → Act) : (L.onAct f).bst = L.bst := rfl

@[simp] theorem State.setLeaf_mode (s : State) (l : LeafId) (L : Leaf) : (s.setLeaf l L).mode = s.mode := by cases l <;> rfl
@[simp] theorem State.setLeaf_pending (s : State) (l : LeafId) (L : Leaf) : (s.setLeaf l L).pending = s.pending := by cases l <;> rfl
@[simp] theorem State.setLeaf_readData (s : State) (l : LeafId) (L : Leaf) : (s.setLeaf l L).readData = s.readData := by cases l <;> rfl
@[simp] theorem State.setLeaf_fresh (s : State) (l : LeafId) (L : Leaf) : (s.setLeaf l L).fresh = s.fresh := by cases l <;> rfl
@[simp] theorem State.setLeaf_variantEv (s : State) (l : LeafId) (L : Leaf) : (s.setLeaf l L).variantEv = s.variantEv := by cases l <;> rfl
@[simp] theorem State.setLeaf_srev (s : State) (l : LeafId) (L : Leaf) : (s.setLeaf l L).srev = s.srev := by cases l <;> rfl
@[simp] theorem State.setLeaf_pins (s : State) (l : LeafId) (L : Leaf) : (s.setLeaf l L).pins = s.pins := by cases l <;> rfl
@[simp] theorem State.setLeaf_chans (s : State) (l : LeafId) (L : Leaf) : (s.setLeaf l L).chans = s.chans := by cases l <;> rfl
@[simp] theorem State.setLeaf_groups (s : State) (l : LeafId) (L : Leaf) : (s.setLeaf l L).groups = s.groups := by cases l <;> rfl
@[simp] theorem State.setLeaf_stages (s : State) (l : LeafId) (L : Leaf) : (s.setLeaf l L).stages = s.stages := by cases l <;> rfl
@[simp] theorem State.setLeaf_xcvr (s : State) (l : LeafId) (L : Leaf) : (s.setLeaf l L).xcvr = s.xcvr := by cases l <;> rfl
@[simp] theorem State.setLeaf_sec (s : State) (l : LeafId) (L : Leaf) : (s.setLeaf l L).sec = s.sec := by cases l <;> rfl
@[simp] theorem State.setLeaf_arb (s : State) (l : LeafId) (L : Leaf) : (s.setLeaf l L).arb = s.arb := by cases l <;> rfl
@[simp] theorem State.on_mode (s : State) (l : LeafId) (f : Leaf → Leaf) : (s.on l f).mode = s.mode := by cases l <;> rfl
@[simp] theorem State.on_pending (s : State) (l : LeafId) (f : Leaf → Leaf) : (s.on l f).pending = s.pending := by cases l <;> rfl
@[simp] theorem State.on_readData (s : State) (l : LeafId) (f : Leaf → Leaf) : (s.on l f).readData = s.readData := by cases l <;> rfl
@[simp] theorem State.on_fresh (s : State) (l : LeafId) (f : Leaf → Leaf) : (s.on l f).fresh = s.fresh := by cases l <;> rfl
@[simp] theorem State.on_variantEv (s : State) (l : LeafId) (f : Leaf → Leaf) : (s.on l f).variantEv = s.variantEv := by cases l <;> rfl
@[simp] theorem State.on_srev (s : State) (l : LeafId) (f : Leaf → Leaf) : (s.on l f).srev = s.srev := by cases l <;> rfl
@[simp] theorem State.on_pins (s : State) (l : LeafId) (f : Leaf → Leaf) : (s.on l f).pins = s.pins := by cases l <;> rfl
@[simp] theorem State.on_chans (s : State) (l : LeafId) (f : Leaf → Leaf) : (s.on l f).chans = s.chans := by cases l <;> rfl
@[simp] theorem State.on_groups (s : State) (l : LeafId) (f : Leaf → Leaf) : (s.on l f).groups = s.groups := by cases l <;> rfl
@[simp] theorem State.on_stages (s : State) (l : LeafId) (f : Leaf → Leaf) : (s.on l f).stages = s.stages := by cases l <;> rfl
@[simp] theorem State.on_xcvr (s : State) (l : LeafId) (f : Leaf → Leaf) : (s.on l f).xcvr = s.xcvr := by cases l <;> rfl
@[simp] theorem State.on_sec (s : State) (l : LeafId) (f : Leaf → Leaf) : (s.on l f).sec = s.sec := by cases l <;> rfl
@[simp] theorem State.on_arb (s : State) (l : LeafId) (f : Leaf → Leaf) : (s.on l f).arb = s.arb := by cases l <;> rfl
@[simp] theorem State.both_mode (s : State) (f : Leaf → Leaf) : (s.both f).mode = s.mode := rfl
@[simp] theorem State.both_leaf0 (s : State) (f : Leaf → Leaf) : (s.both f).leaf0 = f s.leaf0 := rfl
@[simp] theorem State.both_leaf1 (s : State) (f : Leaf → Leaf) : (s.both f).leaf1 = f s.leaf1 := rfl
@[simp] theorem State.both_pending (s : State) (f : Leaf → Leaf) : (s.both f).pending = s.pending := rfl
@[simp] theorem State.both_readData (s : State) (f : Leaf → Leaf) : (s.both f).readData = s.readData := rfl
@[simp] theorem State.both_fresh (s : State) (f : Leaf → Leaf) : (s.both f).fresh = s.fresh := rfl
@[simp] theorem State.both_variantEv (s : State) (f : Leaf → Leaf) : (s.both f).variantEv = s.variantEv := rfl
@[simp] theorem State.both_srev (s : State) (f : Leaf → Leaf) : (s.both f).srev = s.srev := rfl
@[simp] theorem State.both_pins (s : State) (f : Leaf → Leaf) : (s.both f).pins = s.pins := rfl
@[simp] theorem State.both_chans (s : State) (f : Leaf → Leaf) : (s.both f).chans = s.chans := rfl
@[simp] theorem State.both_groups (s : State) (f : Leaf → Leaf) : (s.both f).groups = s.groups := rfl
@[simp] theorem State.both_stages (s : State) (f : Leaf → Leaf) : (s.both f).stages = s.stages := rfl
@[simp] theorem State.both_xcvr (s : State) (f : Leaf → Leaf) : (s.both f).xcvr = s.xcvr := rfl
@[simp] theorem State.both_sec (s : State) (f : Leaf → Leaf) : (s.both f).sec = s.sec := rfl
@[simp] theorem State.both_arb (s : State) (f : Leaf → Leaf) : (s.both f).arb = s.arb := rfl

@[simp] theorem State.leaf_setLeaf (s : State) (l : LeafId) (L : Leaf) : (s.setLeaf l L).leaf l = L := by cases l <;> rfl

theorem State.leaf_setLeaf_other (s : State) (l m : LeafId) (L : Leaf) (h : m ≠ l) : (s.setLeaf l L).leaf m = s.leaf m := by
  cases l <;> cases m <;> first | rfl | exact absurd rfl h

@[simp] theorem State.leaf_on (s : State) (l : LeafId) (f : Leaf → Leaf) : (s.on l f).leaf l = f (s.leaf l) := by
  cases l <;> rfl

theorem State.leaf_on_other (s : State) (l m : LeafId) (f : Leaf → Leaf) (h : m ≠ l) : (s.on l f).leaf m = s.leaf m := by
  cases l <;> cases m <;> first | rfl | exact absurd rfl h

@[simp] theorem State.leaf_both (s : State) (l : LeafId) (f : Leaf → Leaf) : (s.both f).leaf l = f (s.leaf l) := by
  cases l <;> rfl

@[simp] theorem State.setLeaf_leaf (s : State) (l : LeafId) : s.setLeaf l (s.leaf l) = s := by cases l <;> rfl

@[simp] theorem State.setLeaf_setLeaf (s : State) (l : LeafId) (L L' : Leaf) : (s.setLeaf l L).setLeaf l L' = s.setLeaf l L' := by
  cases l <;> rfl

/-- A command on one leaf changes that leaf alone. -/
theorem State.on_eq (s : State) (l : LeafId) (f : Leaf → Leaf) : s.on l f = s.setLeaf l ((s.on l f).leaf l) := by
  cases l <;> rfl

end Sys2Proof.Machine
end

