-- ==== Sys2Proof/Laws/Reports.lean ====
section
/-! SUPPORT. What an entry, an event, a named bit and a completion can change: the queues of the ring engine, and the
registers HRE_CNT and HRE_ERR. -/

namespace Sys2Proof.Machine

open Sys2Proof

/-- Everything an entry for an output ring changes. -/
theorem Leaf.produce_parts (L : Leaf) (e : OutEntry) :
    L.produce e = { L with regs := (L.produce e).regs, hre := (L.produce e).hre } := by
  unfold Leaf.produce
  split
  · rfl
  · split <;> split <;> rfl

theorem Leaf.produce_word (L : Leaf) (e : OutEntry) (r : Reg) (i : Nat) (h1 : r.addr i ≠ HRE_CNT.addr 0)
    (h2 : r.addr i ≠ HRE_ERR.addr 0) : (L.produce e).word r i = L.word r i := by
  have drop : ∀ (L : Leaf) (n : Nat), (L.dropEntry n).word r i = L.word r i := by
    intro L n
    unfold Leaf.dropEntry
    rw [Leaf.word_put_other _ _ _ _ _ _ (by exact h2)]
    unfold Leaf.bump Leaf.bumpBy
    rw [Leaf.word_put_other _ _ _ _ _ _ (by exact h1)]
    rfl
  unfold Leaf.produce
  split
  · rfl
  · split <;> split <;> first | exact drop _ _ | rfl

/-- Everything an event changes. -/
theorem Leaf.event_parts (L : Leaf) (code subj detail : Nat) :
    L.event code subj detail =
      { L with regs := (L.event code subj detail).regs, hre := (L.event code subj detail).hre } :=
  L.produce_parts _

theorem Leaf.event_word (L : Leaf) (code subj detail : Nat) (r : Reg) (i : Nat) (h1 : r.addr i ≠ HRE_CNT.addr 0)
    (h2 : r.addr i ≠ HRE_ERR.addr 0) : (L.event code subj detail).word r i = L.word r i :=
  L.produce_word _ r i h1 h2

theorem Leaf.bitEvent_word (L : Leaf) (f : Fld) (i rep : Nat) (r : Reg) (j : Nat) (h1 : r.addr j ≠ HRE_CNT.addr 0)
    (h2 : r.addr j ≠ HRE_ERR.addr 0) : (L.bitEvent f i rep).word r j = L.word r j :=
  L.produce_word _ r j h1 h2

/-- Everything a named bit with its event changes. -/
theorem Leaf.raise_parts (L : Leaf) (f : Fld) (i : Nat) :
    L.raise f i = { L with regs := (L.raise f i).regs, hre := (L.raise f i).hre } := by
  unfold Leaf.raise Leaf.bitEvent Leaf.eventEntry
  rw [Leaf.produce_parts]
  rfl

theorem Leaf.raise_word (L : Leaf) (f : Fld) (i : Nat) (r : Reg) (j : Nat) (h1 : r.addr j ≠ HRE_CNT.addr 0)
    (h2 : r.addr j ≠ HRE_ERR.addr 0) (h : r.addr j ≠ f.reg.addr i) : (L.raise f i).word r j = L.word r j := by
  unfold Leaf.raise
  rw [Leaf.bitEvent_word _ _ _ _ _ _ h1 h2, Leaf.word_put_other _ _ _ _ _ _ h]

/-- A named bit raised reads 1. -/
theorem Leaf.get_raise (L : Leaf) (f : Fld) (i : Nat) (h1 : f.reg.addr i ≠ HRE_CNT.addr 0)
    (h2 : f.reg.addr i ≠ HRE_ERR.addr 0) (hb : f.hi < 64) (hf : f.lo ≤ f.hi) : (L.raise f i).get f i = 1 := by
  unfold Leaf.raise
  rw [Leaf.get_word _ _ _ _ (Leaf.bitEvent_word _ _ _ _ _ _ h1 h2), Leaf.get_put _ _ _ _ hb]
  apply Nat.mod_eq_of_lt
  have : 2 ^ 1 ≤ 2 ^ (f.hi + 1 - f.lo) := Nat.pow_le_pow_right (by decide) (by omega)
  omega

/-- Everything a completion changes. -/
theorem Leaf.complete_parts (L : Leaf) (h : Hdr) (code effect detail : Nat) :
    L.complete h code effect detail =
      { L with regs := (L.complete h code effect detail).regs, hre := (L.complete h code effect detail).hre } := by
  unfold Leaf.complete
  split
  · rfl
  · split
    · rw [Leaf.produce_parts]
    · rw [Leaf.produce_parts]; rfl

end Sys2Proof.Machine
end

