-- ==== Sys2Proof/Laws/Startup.lean ====
section
/-! SUPPORT. What a module reset and an entry into BOOT do. -/

namespace Sys2Proof.Machine

open Sys2Proof

/-- An output driven or left idle changes the arbiter alone, and neither resistors nor links. -/
theorem State.driveOut_parts (s : State) (k : Nat) (src : Option LeafId) :
    s.driveOut k src = { s with arb := (s.driveOut k src).arb } := rfl

theorem State.driveOut_fixed (s : State) (k : Nat) (src : Option LeafId) :
    (s.driveOut k src).arb.coilOhm = s.arb.coilOhm ∧ (s.driveOut k src).arb.lineLink = s.arb.lineLink := ⟨rfl, rfl⟩

/-- The state without its arbiter: what `driveOut` and `idleOutputs` leave. -/
def State.noArb (s : State) : State := { s with arb := {} }

theorem State.idleOutputs_noArb (s : State) : s.idleOutputs.noArb = s.noArb := by
  have h : ((List.range 7).foldl (fun s k => s.driveOut k none) s).noArb = s.noArb :=
    foldl_same State.noArb (fun s k => s.driveOut k none) (fun _ _ => rfl) _ s
  unfold State.idleOutputs
  generalize (List.range 7).foldl (fun s k => s.driveOut k none) s = x at h ⊢
  exact h

theorem State.idleOutputs_fixed (s : State) :
    s.idleOutputs.arb.coilOhm = s.arb.coilOhm ∧ s.idleOutputs.arb.lineLink = s.arb.lineLink := by
  have h := foldl_keeps (fun x : State => x.arb.coilOhm = s.arb.coilOhm ∧ x.arb.lineLink = s.arb.lineLink)
    (fun s k => s.driveOut k none) (fun _ _ h => h) (List.range 7) s ⟨rfl, rfl⟩
  unfold State.idleOutputs
  generalize (List.range 7).foldl (fun s k => s.driveOut k none) s = x at h ⊢
  exact h

/-- Every output at its resistor-set state: the arbiter alone has changed. -/
theorem State.idleOutputs_parts (s : State) : s.idleOutputs = { s with arb := s.idleOutputs.arb } := by
  have h := s.idleOutputs_noArb
  generalize s.idleOutputs = t at h
  cases s; cases t
  simp only [State.noArb, State.mk.injEq] at h ⊢
  simp [h]

/-- Everything a module reset does (R304, R600, R601). -/
theorem State.resetAll_parts (s : State) (m : Mode) :
    s.resetAll m = { s with
      mode := m, leaf0 := s.leaf0.moduleReset, leaf1 := s.leaf1.moduleReset, sec := {}, xcvr := Vector.replicate 4 none
      pins := { s.pins with resetN := false, bootDead := false, idleFrom := none, armed := m == Mode.park }
      arb := (s.resetAll m).arb } := by
  unfold State.resetAll
  rw [State.idleOutputs_parts]
  rfl

@[simp] theorem State.resetAll_mode (s : State) (m : Mode) : (s.resetAll m).mode = m := by rw [State.resetAll_parts]
@[simp] theorem State.resetAll_pins (s : State) (m : Mode) : (s.resetAll m).pins =
    { s.pins with resetN := false, bootDead := false, idleFrom := none, armed := m == Mode.park } := by
  rw [State.resetAll_parts]
@[simp] theorem State.resetAll_sec (s : State) (m : Mode) : (s.resetAll m).sec = {} := by rw [State.resetAll_parts]
@[simp] theorem State.resetAll_leaf (s : State) (m : Mode) (l : LeafId) : (s.resetAll m).leaf l = (s.leaf l).moduleReset := by
  rw [State.resetAll_parts]; cases l <;> rfl
@[simp] theorem State.resetAll_leaf0 (s : State) (m : Mode) : (s.resetAll m).leaf0 = s.leaf0.moduleReset :=
  s.resetAll_leaf m .leaf0
@[simp] theorem State.resetAll_leaf1 (s : State) (m : Mode) : (s.resetAll m).leaf1 = s.leaf1.moduleReset :=
  s.resetAll_leaf m .leaf1

/-- BOOT entered: its cause stands in GLB_WAKE of both leaves (R588). -/
theorem State.enterBoot_cause (s : State) (c : Nat) (l : LeafId) (h : c < 4) :
    ((s.enterBoot c).leaf l).get GLB_WAKE_CAUSE = c := by
  unfold State.enterBoot
  simp only [State.leaf_both]
  rw [Leaf.get_put_field _ GLB_WAKE_UNCLEAN GLB_WAKE_CAUSE _ _ rfl (by decide), Leaf.get_put _ _ _ _ (by decide)]
  exact Nat.mod_eq_of_lt h

/-- Each leaf where BOOT is entered: as a module reset leaves it, but for GLB_WAKE. -/
theorem State.enterBoot_leaf (s : State) (c : Nat) (l : LeafId) :
    (s.enterBoot c).leaf l = { (s.leaf l).moduleReset with regs := ((s.enterBoot c).leaf l).regs } := by
  unfold State.enterBoot
  simp only [State.leaf_both, State.resetAll_leaf]
  rfl

@[simp] theorem State.enterBoot_mode (s : State) (c : Nat) : (s.enterBoot c).mode = .boot := by simp [State.enterBoot]
@[simp] theorem State.enterBoot_pins (s : State) (c : Nat) : (s.enterBoot c).pins =
    { s.pins with resetN := false, bootDead := false, idleFrom := none, armed := false } := by
  simp [State.enterBoot]
@[simp] theorem State.enterBoot_sec (s : State) (c : Nat) : (s.enterBoot c).sec = {} := by simp [State.enterBoot]

end Sys2Proof.Machine
end

