-- ==== Sys2Proof/Safety.lean ====
section
/-! DEFINITION. The terms in which claims are made: a command that completes, and what a command leaves as it was. -/

namespace Sys2Proof.Machine

open Sys2Proof

/-- The command completes, and the state it leaves is as `P` says. -/
def Completes (c : Instr) (s : State) (P : State → Prop) : Prop := ∃ t, exec c s = .next t ∧ P t

/-- Of the module, leaf `l` alone has changed. -/
def OnlyLeaf (l : LeafId) (s t : State) : Prop := t = s.setLeaf l (t.leaf l)

/-- Of the module, the two leaves alone have changed. -/
def OnlyLeaves (s t : State) : Prop := t = { s with leaf0 := t.leaf0, leaf1 := t.leaf1 }

/-- Of the module, the gate channels alone have changed. -/
def OnlyChans (s t : State) : Prop := t = { s with chans := t.chans }

/-- Of the module, the pair of gate channel `i` alone has changed. -/
def OnlyPair (i : Nat) (s t : State) : Prop := OnlyChans s t ∧ ∀ j, evenOf j ≠ evenOf i → t.chan j = s.chan j

/-- A frame that a gate channel applies (R219 to R221): its link is up, its delimiter, its CRC and its fields hold, its tag is
that of the channel's present course (`next` false) or of the next one, and no frame of its key has been applied for that
course. -/
def Heard (s : State) (rx : GateRx) (next : Bool) : Prop :=
  (pick (s.chan rx.chan).tb rx.link.num).lost = false ∧ rx.delim = 0xE7#8 ∧ bodyCrc rx.body = rx.crc.toNat ∧
    fieldsOk rx.body = true ∧
    BitVec.ofNat 16 (fb rx.body 67 52) = (pick (s.chan rx.chan).tb rx.link.num).tag + (if next then 1 else 0) ∧
    ∀ a ∈ (s.chan rx.chan).applied, a.course = (s.chan rx.chan).n + (if next then 1 else 0) → a.kind ≠ (keyOf rx.body).1

/-- The entry a channel keeps of a frame it has applied. -/
def State.appliedBy (s : State) (rx : GateRx) (next : Bool) : Applied :=
  { kind := (keyOf rx.body).1, key := (keyOf rx.body).2, course := (s.chan rx.chan).n + (if next then 1 else 0),
    link := rx.link, body := rx.body }

/-- A frame whose delimiter or CRC does not hold, on a link that is up. -/
def Damaged (s : State) (rx : GateRx) : Prop :=
  (pick (s.chan rx.chan).tb rx.link.num).lost = false ∧ (rx.delim ≠ 0xE7#8 ∨ bodyCrc rx.body ≠ rx.crc.toNat)

/-- A tie unit that a leaf takes (R431, R432): its lane is in use, its CRC holds, and its sequence number is after that of the
unit taken last. -/
def NewUnit (L : Leaf) (rx : Rx) : Prop :=
  L.laneOk rx.lane = true ∧ rx.crcOk = true ∧ ∀ q, L.tie.rxSeq = some q → isAfter q.toNat rx.seq.toNat 32 = true

/-- The unit that acknowledges unit `rx` of type `typ` (R432). -/
def ackOf (L : Leaf) (typ : Nat) (rx : Rx) : Out := .tie 0x13 (L.tie.txSeq + 1) [typ, rx.seq.toNat]

/-- Every register of a leaf is as it was, but for those at the offsets listed. -/
def KeepsRegs (L L' : Leaf) (but : List Nat) : Prop := ∀ off, off ∉ but → kvFind L'.regs off = kvFind L.regs off

/-- The registers an output entry can write: a dropped entry is counted in HRE_CNT and shown in HRE_ERR (R475). -/
def reportRegs : List Nat := [HRE_CNT.addr 0, HRE_ERR.addr 0]

/-- A queue of output entries that has at most grown at its end. -/
def Grown {α : Type} (q q' : List α) : Prop := ∃ more, q' = q ++ more

/-- A leaf reads the head descriptor of a ring and the checks of R470 pass: `L'` is the leaf after them, `h` the header its
opcode's effect goes on with. -/
def Reads (L : Leaf) (ring op : Nat) (d : Desc) (L' : Leaf) (h : Hdr) : Prop :=
  L.canRead ring = true ∧ pick L.hre.retry ring = none ∧ opcode d.bytes = op ∧ L.checkDesc ring d false = (L', some h)

/-- A descriptor whose bytes are whole and in turn: read, with its CRC, its PHASE, its ring, and no target. -/
def Sound (L : Leaf) (ring : Nat) (d : Desc) : Prop :=
  d.readOk = true ∧ slotCrc d.bytes = sl d.bytes 14 2 ∧
    slBits d.bytes 1 1 0 0 = phaseAt (L.get HRE_IRCFG_CONS ring) (L.get HRE_IRCFG_LOG2SIZE ring) ∧
    (hdrOf d.bytes).ring = ring ∧ (hdrOf d.bytes).target = 0

/-- What the ordering code, the silicon and the integrator fix (R14, R629, R631): GLB_ID.VARIANT and GLB_ID.SREV, the
resistances at the COIL_x_DEF pins, and the links of FAULT_N, READY_N and CHG_INT_N. -/
structure Fixed where
  variantEv : Bool
  srev : BitVec 8
  coilOhm : Vector Nat 3
  lineLink : Vector Bool 3
  deriving DecidableEq, Repr

/-- What is fixed of a module. -/
def State.fixed (s : State) : Fixed :=
  { variantEv := s.variantEv, srev := s.srev, coilOhm := s.arb.coilOhm, lineLink := s.arb.lineLink }

end Sys2Proof.Machine
end

