-- ==== Sys2Proof/Certificates/Slice0/Obligations.lean ====
section
/-! DEFINITION. The statements about the model. Each says in its docstring which rules of the spec it formalises. -/

open Sys2Proof Sys2Proof.Machine

/-- A step takes the command at the front of the queue and executes it on the state with the queue's rest. -/
def Obligations.step_runs_front_command : Prop :=
  ∀ (c : Instr) (rest : List Instr) (s : State),
    step { s with pending := c :: rest } = exec c { s with pending := rest }

/-- With nothing waiting the block idles: the model's choice (log entry 3). -/
def Obligations.step_idles_on_empty_queue : Prop :=
  ∀ s : State, s.pending = [] → step s = .next s

/-- Whatever the command, a step completes, leaves the queue's rest as it stood, and leaves what the part's ordering code, its
silicon and the integrator fix. Where the spec leaves a choice the statement rests on the model's readings of log entry 2. -/
def Obligations.step_keeps_queue_and_fixed_values : Prop :=
  ∀ (c : Instr) (rest : List Instr) (s : State), s.pending = c :: rest →
    ∃ t, step s = .next t ∧ t.pending = rest ∧ t.fixed = s.fixed

/-- At reset the module is in BOOT, no command waits, and every register of both leaves reads the reset value of its table row
(R601, R616); a leaf is neither carrying nor sends anything. Where the spec leaves a choice the statement rests on the model's
readings of log entry 1. -/
def Obligations.reset_registers : Prop :=
  State.reset.mode = .boot ∧ State.reset.pending = [] ∧
  ∀ l : LeafId, (State.reset.leaf l).role = .boot ∧ (State.reset.leaf l).out = [] ∧
    ∀ (r : Reg) (i : Nat), (State.reset.leaf l).word r i = BitVec.ofNat 64 (r.resetAt i)

/-- Supplies (R5, R588, R590, R626): the module leaves OFF for PARK when a supply comes, wakes from PARK on WAKE or the
control pilot with the cause in GLB_WAKE, and falls back to PARK or OFF when the supplies go; a release of WAKE changes no
module state. Where the spec leaves a choice the statement rests on the model's readings of log entry 34. -/
def Obligations.supplies_and_wake : Prop :=
  (∀ s : State, s.mode = .off →
    Completes .supplyApplied s fun t => t.mode = .park ∧ t.pins.armed = true) ∧
  (∀ (s : State) (wakeMv us vlvMv : Nat), s.mode = .park → s.pins.armed = true → 5000 < wakeMv → 1000 ≤ us → 16000 < vlvMv →
    Completes (.wake wakeMv us vlvMv) s fun t =>
      t.mode = .boot ∧ t.pins.wake = true ∧ ∀ l, (t.leaf l).get GLB_WAKE_CAUSE = 1 ∧ (t.leaf l).role = .boot) ∧
  (∀ (s : State) (cpMv us vlvMv : Nat), s.mode = .park → s.pins.armed = true → 1500 < cpMv → 5000 ≤ us → 16000 < vlvMv →
    Completes (.cpWake cpMv us vlvMv) s fun t => t.mode = .boot ∧ ∀ l, (t.leaf l).get GLB_WAKE_CAUSE = 2) ∧
  (∀ s : State, Completes .wakeRelease s fun t =>
    t.pins = { s.pins with wake := false } ∧ t.mode = s.mode ∧ ∀ l, (t.leaf l).role = (s.leaf l).role) ∧
  (∀ (s : State) (v0 v1 us : Nat) (keep : Bool), s.mode ≠ .off → s.mode ≠ .park → v0 < 15000 → v1 < 15000 → 2000 ≤ us →
    Completes (.supplyLost v0 v1 us keep) s fun t =>
      t.mode = (if keep then .park else .off) ∧ t.pins.unclean = true ∧ t.pins.vlv = false ∧
        ∀ l, (t.leaf l).ldg.ring = (s.leaf l).ldg.ring) ∧
  (∀ s : State, Completes .allSuppliesLost s fun t =>
    t.mode = .off ∧ t.pins.keep = false ∧ ∀ l, (t.leaf l).ldg.ring = (s.leaf l).ldg.ring)

/-- Resets (R597, R600, R601): RESET_N holds the module in reset and on its release, or at the host's RESET in READY or
WORKSHOP, BOOT begins with cause 3; the stores and the flash of both leaves keep what they held, and the leaves keep no role.
A pulse shorter than 2 µs changes nothing. Where the spec leaves a choice the statement rests on the model's readings of log
entries 2, 30 and 34. -/
def Obligations.resets_boot_and_keep_stores : Prop :=
  (∀ (s : State) (ns : Nat), s.mode ≠ .off → 10000 ≤ ns →
    Completes (.resetNAssert ns) s fun t => t.mode = .boot ∧ t.pins.resetN = true ∧
      ∀ l, (t.leaf l).role = .boot ∧ (t.leaf l).ldg.archive = (s.leaf l).ldg.archive ∧
        (t.leaf l).upd.slots = (s.leaf l).upd.slots) ∧
  (∀ (s : State) (ns : Nat), ns < 2000 → exec (.resetNAssert ns) s = .next s) ∧
  (∀ (s : State) (vlvMv : Nat), s.pins.resetN = true → 16000 < vlvMv →
    Completes (.resetNRelease vlvMv) s fun t => t.mode = .boot ∧ t.pins.resetN = false ∧
      ∀ l, (t.leaf l).get GLB_WAKE_CAUSE = 3) ∧
  (∀ (s : State) (l : LeafId), s.mode = .ready ∨ s.mode = .workshop → s.pins.vlv = true →
    Completes (.reset l) s fun t => t.mode = .boot ∧ t.sec = {} ∧
      ∀ m, (t.leaf m).get GLB_WAKE_CAUSE = 3 ∧ (t.leaf m).role = .boot ∧ (t.leaf m).bst.spares = (s.leaf m).bst.spares ∧
        (t.leaf m).ldg.superseded = (s.leaf m).ldg.superseded ∧ (t.leaf m).upd.current = (s.leaf m).upd.current)

/-- BOOT ends in READY where a leaf passes its steps, and with neither the module stays in BOOT, dead (R5, R592, R599); a leaf
whose partner sent no MARK waits 3,200 courses and then carries alone (R593). Where the spec leaves a choice the statement
rests on the model's readings of log entry 31. -/
def Obligations.boot_ends : Prop :=
  (∀ (s : State) (r0 r1 : BootLeaf) (ch : Vector BootChan 48) (ms : Nat),
    s.mode = .boot → s.pins.bootDead = false → s.pins.resetN = false →
    (s.leaf0.bootSteps s.variantEv r0).2 = none ∨ (s.leaf1.bootSteps s.variantEv r1).2 = none →
    Completes (.bootComplete r0 r1 ch ms) s fun t => t.mode = .ready ∧ t.pins.unclean = false ∧
      ∀ l, (t.leaf l).hre.crsRetry = false ∧ (t.leaf l).get GLB_STAT_READY_MS = min ms 1023) ∧
  (∀ (s : State) (r0 r1 : BootLeaf) (ch : Vector BootChan 48) (ms : Nat),
    s.mode = .boot → s.pins.bootDead = false → s.pins.resetN = false →
    r0.bist = false → r0.bistRepeat = false → r1.bist = false → r1.bistRepeat = false →
    Completes (.bootComplete r0 r1 ch ms) s fun t => t.mode = .boot ∧ t.pins.bootDead = true ∧
      ∀ l, (t.leaf l).role = .out) ∧
  (∀ (s : State) (courses : Nat), s.mode = .ready → 3200 ≤ courses → s.leaf0.role = .boot → s.leaf1.role ≠ .lead →
    Completes (.tieAbsentAtBoot courses) s fun t => t.leaf0.role = .lead ∧ t.leaf0.get TIE_STAT_PARTNER = 4)

/-- The carry command, the leave command and WORKSHOP move the module between READY, CARRY and WORKSHOP (R5, R595, R596,
R598), and leave the fixed values, the channels and the pins but for the idle time as they were; a leaf's role does not
change. Where the spec leaves a choice the statement rests on the model's readings of log entries 23 and 36. -/
def Obligations.module_states : Prop :=
  (∀ s : State, s.mode = .ready → (s.takeModule GLB_CMD.base 63 [62, 61]).1.isSome →
    Completes .carry s fun t => t.mode = .carry ∧ t.pins.idleFrom = none ∧ OnlyLeaves s { t with mode := s.mode, pins := s.pins } ∧
      ∀ l, (t.leaf l).role = (s.leaf l).role) ∧
  (∀ s : State, s.mode = .carry → (s.takeModule GLB_CMD.base 62 [63, 61]).1.isSome →
    Completes .leave s fun t => t.mode = .ready ∧ OnlyLeaves s { t with mode := s.mode } ∧
      ∀ l, (t.leaf l).role = (s.leaf l).role) ∧
  (∀ s : State, s.mode = .ready → s.right 0 = true →
    Completes .workshopEntry s fun t => t.mode = .workshop ∧ t.leaf0 = s.leaf0 ∧ t.leaf1 = s.leaf1 ∧ t.chans = s.chans) ∧
  (∀ s : State, s.mode = .workshop →
    exec .workshopExit s = .next { s with mode := .ready }) ∧
  (∀ (s : State) (sigs : List (BitVec 512)) (c : Course), s.mode = .ready → s.pins.wake = false →
    s.pins.idleFrom = some c → 160000 ≤ since s.leaf0.count c →
    Completes (.parkEntry sigs) s fun t => t.mode = .park ∧ t.pins.armed = true ∧ t.pins.idleFrom = none ∧
      ∀ l, (t.leaf l).role = .boot)

/-- Register accesses (R10, R12): an access of another size or alignment ends with Completer Abort and changes nothing; an
unassigned offset reads 0; a register with no field that a read clears reads as it is shown and stays. Where the spec leaves a
choice the statement rests on the model's readings of log entries 26 and 27. -/
def Obligations.register_reads : Prop :=
  (∀ (s : State) (l : LeafId) (a : RegAccess), s.mayAccess l a.off a.who true = true → sizeOk a.off a.size = false →
    exec (.registerWrite l a) s = .next { s with readData := none }) ∧
  (∀ (s : State) (l : LeafId) (off size : Nat) (who : Ident), s.mayAccess l off who false = true → sizeOk off size = false →
    exec (.rcRead l off size who) s = .next { s with readData := none }) ∧
  (∀ (s : State) (l : LeafId) (off size : Nat) (who : Ident), s.mayAccess l off who false = true → sizeOk off size = true →
    findReg (off - off % 8) = none → ¬ (0x10C000 ≤ off - off % 8 ∧ off - off % 8 < 0x10C200) → off - off % 8 ≠ 0x10D000 →
    Completes (.rcRead l off size who) s fun t => t.readData = some 0 ∧ t.leaf0 = s.leaf0 ∧ t.leaf1 = s.leaf1) ∧
  (∀ (s : State) (l : LeafId) (off : Nat) (who : Ident) (r : Reg) (i : Nat), s.mayAccess l off who false = true →
    off % 8 = 0 → ¬ (0x10C000 ≤ off ∧ off < 0x10C200) → off ≠ 0x10D000 → findReg off = some (r, i) →
    (s.leaf l).bst.fullAt = none → r ∉ [CRS_COUNT, LOCK, BST_DDATA] → channelOf r i = none → r.hasAcc .rc = false →
    Completes (.rcRead l off 8 who) s fun t =>
      t.readData = some (s.shown l r i) ∧ t.leaf0 = s.leaf0 ∧ t.leaf1 = s.leaf1)

/-- The settings registers with no other effect of a write. -/
def plainSetting (r : Reg) : Bool :=
  r.hasAcc .rws && !r.hasAcc .w1c && !ownRow r && madeAtWorks r == 0 &&
    !([TRC_SETCFG, GCH_CFG, GCH_PROT, LNK_OV, LNK_SCALE, LNK_ASCALE, CHG_SCALE, LDG_CAL, LDG_PACK, ACT_CTRL, ACT_CFG, HRE_IRCFG,
      THM_NTC].contains r)

/-- A settings register is written directly in READY and WORKSHOP (R13): each settings field takes the value written or the
nearer limit of its range, fitted to the other fields; no other register changes. In CARRY the write is discarded: no register
changes but the two that count a dropped entry. Where the spec leaves a choice the statement rests on the model's readings of
log entry 28. -/
def Obligations.settings_writes : Prop :=
  (∀ (s : State) (l : LeafId) (a : RegAccess) (r : Reg) (i : Nat), s.mode = .ready ∨ s.mode = .workshop →
    s.mayAccess l a.off a.who true = true → a.who.val = hostId l → a.size = 8 → a.off % 8 = 0 →
    ¬ (0x10C000 ≤ a.off ∧ a.off < 0x10C200) → findReg a.off = some (r, i) → (s.leaf l).bst.fullAt = none →
    plainSetting r = true → (s.leaf l).refuseRws r i a.value = none →
    Completes (.registerWrite l a) s fun t =>
      OnlyLeaf l { s with sec := t.sec } t ∧
      (t.leaf l).word r i = (s.leaf l).fitRws r i ((s.leaf l).word r i) (mergeRws r i ((s.leaf l).word r i) a.value) ∧
      t.leaf l = { s.leaf l with regs := (t.leaf l).regs } ∧ KeepsRegs (s.leaf l) (t.leaf l) [r.addr i]) ∧
  (∀ (s : State) (l : LeafId) (a : RegAccess) (r : Reg) (i : Nat), s.mode = .carry →
    s.mayAccess l a.off a.who true = true → a.who.val = hostId l → a.size = 8 → a.off % 8 = 0 →
    ¬ (0x10C000 ≤ a.off ∧ a.off < 0x10C200) → findReg a.off = some (r, i) → (s.leaf l).bst.fullAt = none →
    plainSetting r = true →
    Completes (.registerWrite l a) s fun t =>
      OnlyLeaf l { s with sec := t.sec } t ∧ KeepsRegs (s.leaf l) (t.leaf l) reportRegs ∧
      t.leaf l = { s.leaf l with regs := (t.leaf l).regs, hre := (t.leaf l).hre }) ∧
  (∀ (r : Reg) (i : Nat) (f : RField) (old new : Word), r ∈ allRegs → f ∈ r.fields → f.acc = .rws → heldField r i f = false →
    fieldOf (mergeRws r i old new) f.hi f.lo = clampNat f.min f.max (fieldOf new f.hi f.lo)) ∧
  (∀ (r : Reg) (i : Nat) (f : RField) (old new : Word), r ∈ allRegs → f ∈ r.fields → f.acc ≠ .rws → f.acc ≠ .rw →
    fieldOf (mergeRws r i old new) f.hi f.lo = fieldOf old f.hi f.lo)

/-- A mailbox channel (R490, R492, R493, R495 to R498, R503): a party claims an idle channel by writing a word, posts it, the
other party acknowledges it with a code and words of reply, and the sender releases it, or cancels while it is claimed; an
identity outside the pair changes nothing and is counted; a message not acknowledged in its time is answered 0xFF02, a claim
or a reply held for 160,000 courses lapses, a lost master's claims are freed and what was posted to it is answered 0xFF01, and
the keystone answers a message posted to it. Where the spec leaves a choice the statement rests on the model's readings of log
entry 85. -/
def Obligations.mailbox : Prop :=
  (∀ (s : State) (l : LeafId) (c : Fin 32) (w : Fin 16) (high : Bool) (v : Word) (who : Ident),
    reaches l who = true → (s.leaf l).party c who = true → (s.leaf l).mbState c = 0 →
    Completes (.messageWordWrite l c w 8 high v who) s fun t => OnlyLeaf l s t ∧
      (t.leaf l).mbState c = 1 ∧ (t.leaf l).mbSender c = who ∧ (t.leaf l).word MBX_MSG (16 * c + w) = v) ∧
  (∀ (s : State) (l : LeafId) (c : Fin 32) (w : Fin 16) (high : Bool) (v : Word) (who : Ident),
    reaches l who = true → (s.leaf l).party c who = true → (s.leaf l).mbState c = 1 → (s.leaf l).mbSender c ≠ who →
    exec (.messageWordWrite l c w 8 high v who) s = .next (s.on l fun L => L.bump MBX_CNT_COLLIDE c)) ∧
  (∀ (s : State) (l : LeafId) (c : Fin 32) (w : Fin 16) (high : Bool) (v : Word) (who : Ident),
    reaches l who = true → (s.leaf l).party c who = false →
    exec (.messageWordWrite l c w 8 high v who) s = .next (s.on l fun L => L.bump MBX_CNT_UNBOUND c)) ∧
  (∀ (s : State) (l : LeafId) (c len : Fin 32) (who : Ident), reaches l who = true → (s.leaf l).party c who = true →
    (s.leaf l).mbState c = 1 → (s.leaf l).mbSender c = who → len.val ≤ 16 →
    Completes (.post l c len who) s fun t => OnlyLeaf l { s with fresh := t.fresh } t ∧
      (t.leaf l).mbState c = 2 ∧ (t.leaf l).mbSender c = who ∧ (t.leaf l).get MBX_STAT_LEN c = len ∧
      (t.leaf l).get (MBX_FULLSUM_FULL.bit c) = 1 ∧
      ∀ w : Fin 16, w.val < len.val → (t.leaf l).word MBX_MSG (16 * c + w) = (s.leaf l).word MBX_MSG (16 * c + w)) ∧
  (∀ (s : State) (l : LeafId) (c rlen : Fin 32) (code : BitVec 16) (who : Ident), reaches l who = true →
    (s.leaf l).party c who = true → (s.leaf l).mbState c = 2 → (s.leaf l).mbSender c ≠ who → rlen.val ≤ 16 →
    Completes (.mbxAck l c code rlen who) s fun t => OnlyLeaf l s t ∧ (t.leaf l).mbState c = 3 ∧
      (t.leaf l).mbSender c = (s.leaf l).mbSender c ∧ (t.leaf l).get MBX_ACK_CODE c = code.toNat ∧
      (t.leaf l).get MBX_ACK_RLEN c = rlen ∧ (t.leaf l).get MBX_ACK_VALID c = 1) ∧
  (∀ (s : State) (l : LeafId) (c : Fin 32) (who : Ident), reaches l who = true →
    (s.leaf l).party c who = true → (s.leaf l).mbState c = 3 → (s.leaf l).mbSender c = who →
    Completes (.release l c who) s fun t => OnlyLeaf l s t ∧ (t.leaf l).mbState c = 0 ∧ (t.leaf l).get MBX_ACK_VALID c = 0) ∧
  (∀ (s : State) (l : LeafId) (c : Fin 32) (who : Ident), reaches l who = true →
    (s.leaf l).party c who = true → (s.leaf l).mbState c = 1 → (s.leaf l).mbSender c = who →
    Completes (.cancel l c who) s fun t => OnlyLeaf l s t ∧ (t.leaf l).mbState c = 0) ∧
  (∀ (s : State) (l : LeafId) (c : Fin 32), (s.leaf l).mbState c = 2 → (s.leaf l).get MBX_BIND_TMO c ≠ 0 →
    1600 * (s.leaf l).get MBX_BIND_TMO c ≤ since (s.leaf l).count (BitVec.ofNat 48 ((s.leaf l).get MBX_STAT_COURSE c)) →
    Completes (.ackTimeout l c) s fun t => OnlyLeaf l s t ∧ (t.leaf l).mbState c = 3 ∧ (t.leaf l).get MBX_ACK_CODE c = 0xFF02 ∧
      (t.leaf l).get MBX_ACK_RLEN c = 0 ∧
      (t.leaf l).get MBX_CNT_TIMEOUTS c = min ((s.leaf l).get MBX_CNT_TIMEOUTS c + 1) MBX_CNT_TIMEOUTS.max) ∧
  (∀ (s : State) (l : LeafId) (c : Fin 32), (s.leaf l).mbState c = 1 ∨ (s.leaf l).mbState c = 3 →
    160000 ≤ since (s.leaf l).count (BitVec.ofNat 48 ((s.leaf l).get MBX_STAT_COURSE c)) →
    Completes (.claimLapse l c) s fun t => OnlyLeaf l s t ∧ (t.leaf l).mbState c = 0 ∧
      (t.leaf l).get MBX_CNT_LAPSED c = min ((s.leaf l).get MBX_CNT_LAPSED c + 1) MBX_CNT_LAPSED.max) ∧
  (∀ (s : State) (l : LeafId) (who : Ident), reaches l who = true →
    Completes (.masterLost l who) s fun t => OnlyLeaf l s t ∧
      (∀ c : Fin 32, (s.leaf l).party c who = true → (s.leaf l).mbState c ≠ 0 → (s.leaf l).mbSender c = who →
        (t.leaf l).mbState c = 0) ∧
      (∀ c : Fin 32, (s.leaf l).party c who = true → (s.leaf l).mbState c = 2 → (s.leaf l).mbSender c ≠ who →
        (t.leaf l).mbState c = 3 ∧ (t.leaf l).get MBX_ACK_CODE c = 0xFF01) ∧
      (∀ c : Fin 32, (s.leaf l).party c who = false → (t.leaf l).mbState c = (s.leaf l).mbState c) ∧
      (∀ k : Fin 16, (s.leaf l).get LOCK_OWNER k = who → (t.leaf l).get LOCK_OWNER k = 0)) ∧
  (∀ (s : State) (l : LeafId), (s.leaf l).computing = true → (s.leaf l).count.toNat % 16 = 0 →
    Completes (.mailboxScan l) s fun t => OnlyLeaf l s t ∧ ∀ c : Fin 32, (s.leaf l).mbState c = 2 →
      ((s.leaf l).receiver c = keystoneId l → (t.leaf l).mbState c = 3 ∧ (t.leaf l).get MBX_ACK_RLEN c = 1) ∧
      ((s.leaf l).receiver c ≠ keystoneId l → (t.leaf l).mbState c = 2))

/-- The binding table and the locks (R490, R491, R499 to R501): the host binds a pair while the table is open and in READY or
WORKSHOP; once locked the table takes no more; a free lock is acquired by the identity that reads it, an owned one is not, and
its owner's own value frees it. Where the spec leaves a choice the statement rests on the model's readings of log entry 85. -/
def Obligations.bindings_and_locks : Prop :=
  (∀ (s : State) (l : LeafId) (c : Fin 32) (v : Word) (who : Ident), who.val = hostId l → s.setup = true →
    (s.leaf l).get MBX_TBL_LOCKED = 0 → fieldOf v 2 0 < fieldOf v 5 3 → reaches l (fieldOf v 2 0) = true →
    reaches l (fieldOf v 5 3) = true →
    Completes (.bindWrite l c v who) s fun t => OnlyLeaf l s t ∧ (t.leaf l).get MBX_BIND_ID_A c = fieldOf v 2 0 ∧
      (t.leaf l).get MBX_BIND_ID_B c = fieldOf v 5 3 ∧ (t.leaf l).get MBX_BIND_TMO c = fieldOf v 15 8 ∧
      KeepsRegs (s.leaf l) (t.leaf l) [MBX_BIND.addr c]) ∧
  (∀ (s : State) (l : LeafId) (c : Fin 32) (v : Word) (who : Ident), reaches l who = true → (s.leaf l).get MBX_TBL_LOCKED = 1 →
    exec (.bindWrite l c v who) s = .next (s.on l fun L => L.bump MBX_CNT_UNBOUND c)) ∧
  (∀ (s : State) (l : LeafId) (who : Ident), reaches l who = true →
    Completes (.tableLock l who) s fun t => OnlyLeaf l s t ∧ (t.leaf l).get MBX_TBL_LOCKED = 1 ∧
      KeepsRegs (s.leaf l) (t.leaf l) [MBX_TBL.addr 0]) ∧
  (∀ (s : State) (l : LeafId) (k : Fin 16) (high : Bool) (who : Ident), reaches l who = true → (s.leaf l).get LOCK_OWNER k = 0 →
    Completes (.lockRead l k 8 high who) s fun t => t.readData = some 0 ∧ (t.leaf l).get LOCK_OWNER k = who) ∧
  (∀ (s : State) (l : LeafId) (k : Fin 16) (high : Bool) (who : Ident), reaches l who = true → (s.leaf l).get LOCK_OWNER k ≠ 0 →
    (s.leaf l).get LOCK_OWNER k ≠ who →
    Completes (.lockRead l k 8 high who) s fun t => t.readData = some (BitVec.ofNat 64 ((s.leaf l).get LOCK_OWNER k)) ∧
      (t.leaf l).get LOCK_OWNER k = (s.leaf l).get LOCK_OWNER k) ∧
  (∀ (s : State) (l : LeafId) (k : Fin 16) (v : Word) (who : Ident), reaches l who = true → who.val ≠ 0 →
    (s.leaf l).get LOCK_OWNER k = who → fieldOf v 2 0 = who →
    Completes (.lockRelease l k v who) s fun t => OnlyLeaf l s t ∧ (t.leaf l).get LOCK_OWNER k = 0 ∧
      KeepsRegs (s.leaf l) (t.leaf l) [LOCK.addr k]) ∧
  (∀ (s : State) (l : LeafId) (k : Fin 16) (v : Word) (who : Ident), reaches l who = true →
    (s.leaf l).get LOCK_OWNER k ≠ who →
    Completes (.lockRelease l k v who) s fun t => OnlyLeaf l s t ∧
      (t.leaf l).get LOCK_OWNER k = (s.leaf l).get LOCK_OWNER k)

/-- The checks of a descriptor, in their order (R470): a read that failed, a wrong CRC and a wrong PHASE are retried once,
each with its own sticky bit, and the ring does not move; a sound descriptor is consumed, IR_CONS advancing by one, and its
DSEQ must follow the last one's, else it is refused 0x0103. Where the spec leaves a choice the statement rests on the model's
readings of log entry 82. -/
def Obligations.descriptor_checks : Prop :=
  (∀ (L : Leaf) (ring : Nat) (d : Desc), ring < 10 → d.readOk = false →
    (L.checkDesc ring d false).2 = none ∧ (L.checkDesc ring d false).1.get HRE_ERR_DESC_READ = 1 ∧
      pick (L.checkDesc ring d false).1.hre.retry ring = some 2 ∧
      (L.checkDesc ring d false).1.get HRE_IRCFG_CONS ring = L.get HRE_IRCFG_CONS ring) ∧
  (∀ (L : Leaf) (ring : Nat) (d : Desc), ring < 10 → d.readOk = true → slotCrc d.bytes ≠ sl d.bytes 14 2 →
    (L.checkDesc ring d false).2 = none ∧ (L.checkDesc ring d false).1.get HRE_ERR_CRC = 1 ∧
      pick (L.checkDesc ring d false).1.hre.retry ring = some 0 ∧
      (L.checkDesc ring d false).1.get HRE_IRCFG_CONS ring = L.get HRE_IRCFG_CONS ring) ∧
  (∀ (L : Leaf) (ring : Nat) (d : Desc), ring < 10 → d.readOk = true → slotCrc d.bytes = sl d.bytes 14 2 →
    slBits d.bytes 1 1 0 0 ≠ phaseAt (L.get HRE_IRCFG_CONS ring) (L.get HRE_IRCFG_LOG2SIZE ring) →
    (L.checkDesc ring d false).2 = none ∧ (L.checkDesc ring d false).1.get HRE_ERR_PHASE = 1 ∧
      pick (L.checkDesc ring d false).1.hre.retry ring = some 1) ∧
  (∀ (L : Leaf) (ring : Nat) (d : Desc), ring < 10 → Sound L ring d →
    (∀ q, pick L.hre.dseq ring = some q → (hdrOf d.bytes).dseq = q + 1) →
    (L.checkDesc ring d false).2 = some (hdrOf d.bytes) ∧
      (L.checkDesc ring d false).1.get HRE_IRCFG_CONS ring = (L.get HRE_IRCFG_CONS ring + 1) % 2 ^ 16 ∧
      pick (L.checkDesc ring d false).1.hre.dseq ring = some (hdrOf d.bytes).dseq ∧
      (L.checkDesc ring d false).1.hre.readBytes = L.hre.readBytes + 64) ∧
  (∀ (L : Leaf) (ring : Nat) (d : Desc) (q : BitVec 32), ring < 10 → Sound L ring d → pick L.hre.dseq ring = some q →
    (hdrOf d.bytes).dseq ≠ q + 1 →
    (L.checkDesc ring d false).2 = none ∧ (L.checkDesc ring d false).1.get HRE_ERR_DSEQ = 1 ∧
      (L.checkDesc ring d false).1.get HRE_IRCFG_CONS ring = (L.get HRE_IRCFG_CONS ring + 1) % 2 ^ 16)

/-- The commands that read a descriptor of IR0 or of IR4 to IR7, with the ring and the opcode of each, and the request flags
that make the descriptor theirs (R265, R296, R341, R381, R515, R516). -/
def waitingDesc : Instr → Option (LeafId × Desc × Nat × Nat × Bool)
  | .traction l d => some (l, d, 0, 0x20, true)
  | .link l d => some (l, d, 0, 0x30, true)
  | .charge l d => some (l, d, 0, 0x40, sl d.bytes 17 1 % 16 == 1)
  | .chargeSupply l d => some (l, d, 0, 0x40, sl d.bytes 17 1 % 16 == 2)
  | .chargeStop l d => some (l, d, 0, 0x40, sl d.bytes 17 1 % 16 == 4)
  | .chargeRestart l d => some (l, d, 0, 0x40, sl d.bytes 17 1 % 16 == 8)
  | .hlcRefresh l d => some (l, d, 0, 0x40, sl d.bytes 17 1 % 16 == 0)
  | .shift l d => some (l, d, 0, 0x50, sl d.bytes 17 1 == 1)
  | .parkEngage l d => some (l, d, 0, 0x50, sl d.bytes 17 1 == 2)
  | .parkRelease l d => some (l, d, 0, 0x50, sl d.bytes 17 1 == 4)
  | .reference l d => some (l, d, 0, 0x50, sl d.bytes 17 1 == 32)
  | .actuator l d => some (l, d, 0, 0x50, sl d.bytes 17 1 == 0)
  | .send l b d => some (l, d, 4 + b, 0x60, true)
  | .sendCont l b d => some (l, d, 4 + b, 0x61, true)
  | .abort l b d => some (l, d, 4 + b, 0x62, true)
  | _ => none

/-- The request flags of an ACTUATOR descriptor: SHIFT, PARK_ENGAGE, PARK_RELEASE, REFERENCE (R381). -/
def actRequest (d : Slot) : Nat := sl d 17 1 % 8 + sl d 17 1 / 32 % 2 * 32

/-- A sound descriptor of IR0 or of a CAN ring is taken into the leaf and waits there for the next seal (R37, R472): nothing
else of the module changes. At the seal TRACTION gives the requests of the machines it marks valid, and LINK the references,
ceilings and flags of the link guard, a crash, an opening or a closing (R265, R296, R302, R304); CHARGE and SUPPLY ask for a
session, STOP begins the stop sequence, RESTART starts anew after DONE or an expiry, HLC gives the limit (R339, R341 to R343,
R350); SHIFT begins the shift, PARK moves the park lock, REFERENCE the drum, and the speeds are taken (R381 to R389); SEND
fills a free buffer, waits for its SEND_CONT or is held, and ABORT clears what is held for its buffer (R515, R516). Where the
spec leaves a choice the statement rests on the model's readings of log entries 22, 65, 68 and 86. -/
def Obligations.descriptor_waits_for_seal : Prop :=
  (∀ (c : Instr) (s : State) (l : LeafId) (d : Desc) (ring op : Nat) (L : Leaf) (h : Hdr),
    waitingDesc c = some (l, d, ring, op, true) → Reads (s.leaf l) ring op d L h →
    Completes c s fun t => OnlyLeaf l s t ∧ t.leaf l = { L with hre := { L.hre with rxq := L.hre.rxq ++ [(h, d.bytes)] } }) ∧
  (∀ (L : Leaf) (carry : Bool) (inp : SealIn) (h : Hdr) (d : Slot), L.hre.rxq = [(h, d)] →
    L.useAll carry inp = ({ L with hre := { L.hre with rxq := [] } } : Leaf).useDesc carry inp (h, d)) ∧
  (∀ (L : Leaf) (carry : Bool) (inp : SealIn) (h : Hdr) (d : Slot) (m : Fin 2), h.ring = 0 → opcode d = 0x20 →
    slBits d 17 1 7 4 = 0 →
    (slBits d 17 1 m m = 1 → (L.useDesc carry inp (h, d)).tmach m = { L.tmach m with
      tq := signed 32 (sl d (20 + 4 * m) 4), run := slBits d 17 1 (2 + m) (2 + m) == 1
      mot := sl d (28 + 2 * m) 2, reg := sl d (32 + 2 * m) 2 }) ∧
    (slBits d 17 1 m m = 0 → (L.useDesc carry inp (h, d)).tmach m = L.tmach m) ∧
    (L.useDesc carry inp (h, d)).trc.lastDesc = L.count ∧ (L.useDesc carry inp (h, d)).trc.timedOut = false) ∧
  (∀ (L : Leaf) (carry : Bool) (inp : SealIn) (h : Hdr) (d : Slot), h.ring = 0 → opcode d = 0x30 →
    slBits d 17 1 7 7 = 0 → slBits d 17 1 3 2 ≠ 3 → (700 : Rat) ≤ (sl d 18 2 : Rat) / 10 → (sl d 18 2 : Rat) / 10 ≤ 950 →
    (sl d 18 2 : Rat) / 10 ≤ L.ovVolts LNK_OV_OV_CHOP_OFF - 20 →
    (L.useDesc carry inp (h, d)).lnk.vHost = some ((sl d 18 2 : Rat) / 10) ∧
    (L.useDesc carry inp (h, d)).lnk.ibattRef = (signed 32 (sl d 20 4) : Rat) / 16 ∧
    (L.useDesc carry inp (h, d)).lnk.disCeil = sl d 24 2 ∧ (L.useDesc carry inp (h, d)).lnk.chgCeil = sl d 26 2 ∧
    (L.useDesc carry inp (h, d)).lnk.refAt = L.count ∧
    (L.useDesc carry inp (h, d)).lnk.auxFlag = (slBits d 17 1 6 6 == 1) ∧
    (L.useDesc carry inp (h, d)).get LNK_STAT_MODE = slBits d 17 1 0 0 ∧
    (slBits d 17 1 4 3 = 0 → (L.useDesc carry inp (h, d)).lnk.runFlag = (slBits d 17 1 1 1 == 1)) ∧
    (slBits d 17 1 4 4 = 1 → (L.useDesc carry inp (h, d)).lnk.crash = true ∧
      (L.useDesc carry inp (h, d)).get LNK_FLT_CRASH = 1 ∧ (L.useDesc carry inp (h, d)).get LNK_STAT_DEMAND = 1) ∧
    (slBits d 17 1 4 3 = 1 → 1 ≤ L.con → L.con ≤ 3 → (L.useDesc carry inp (h, d)).con = 4) ∧
    (slBits d 17 1 4 2 = 1 → carry = true → L.con = 0 → L.lnk.hvilOpen = false → L.lnk.crash = false →
      L.on LNK_STAT_PRE_LOCK = false → (L.get LNK_LIM_BATT_MIN : Rat) ≤ L.vBatt → L.vBatt ≤ L.get LNK_LIM_BATT_MAX →
      (L.useDesc carry inp (h, d)).con = 1)) ∧
  (∀ (L : Leaf) (carry : Bool) (inp : SealIn) (h : Hdr) (d : Slot), h.ring = 0 → opcode d = 0x40 → sl d 17 1 < 32 →
    (sl d 17 1 % 16 = 1 ∨ sl d 17 1 % 16 = 2 → L.chgState = 1 → (L.takeHlc d).admissible = true →
      (L.useDesc carry inp (h, d)).chgState = 2 ∧
        (L.useDesc carry inp (h, d)).chg.wantCharge = (sl d 17 1 % 16 == 1) ∧
        (L.useDesc carry inp (h, d)).get CHG_STAT_S2 = 1) ∧
    (sl d 17 1 % 16 = 1 ∨ sl d 17 1 % 16 = 2 → L.chgState = 1 → (L.takeHlc d).admissible = false →
      L.useDesc carry inp (h, d) = (L.takeHlc d).complete h 0x0201) ∧
    (sl d 17 1 % 16 = 4 → 2 ≤ L.chgState → L.chgState ≤ 7 → L.chg.stopFrom = none →
      (L.useDesc carry inp (h, d)).chg.stopFrom = some L.count ∧ (L.useDesc carry inp (h, d)).chg.stopTo = 1 ∧
        (L.useDesc carry inp (h, d)).chg.stopLim = L.chg.iLim ∧ (L.useDesc carry inp (h, d)).chgState = L.chgState) ∧
    (sl d 17 1 % 16 = 8 → L.chgState = 9 → L.chg.expiry = 0 → (L.takeHlc d).admissible = true →
      (L.useDesc carry inp (h, d)).chgState = 2 ∧ (L.useDesc carry inp (h, d)).chg.wantCharge = true ∧
        (L.useDesc carry inp (h, d)).chg.equiv = 0) ∧
    (sl d 17 1 = 16 → (L.useDesc carry inp (h, d)).chg.hlcLim = sl d 18 2 ∧
      (L.useDesc carry inp (h, d)).chg.hlcAt = some L.count ∧ (L.useDesc carry inp (h, d)).chgState = L.chgState)) ∧
  (∀ (L : Leaf) (carry : Bool) (inp : SealIn) (h : Hdr) (d : Slot), h.ring = 0 → opcode d = 0x50 → sl d 17 1 < 64 →
    (actRequest d = 0 → (slBits d 17 1 4 4 = 1 → (L.useDesc carry inp (h, d)).act.vspeed = signed 16 (sl d 22 2) ∧
        (L.useDesc carry inp (h, d)).act.vspeedAt = some L.count) ∧
      (slBits d 17 1 3 3 = 1 → (L.useDesc carry inp (h, d)).act.pump = sl d 20 2)) ∧
    (actRequest d = 1 → sl d 18 1 ≠ 1 → sl d 18 1 ≠ 2 →
      L.useDesc carry inp (h, d) = (L.takeSpeeds d).complete h 0x0105 0 18) ∧
    (actRequest d = 1 → sl d 18 1 = 1 ∨ sl d 18 1 = 2 → L.shifting = false → L.actState 0 ≠ 1 →
      L.useDesc carry inp (h, d) = (L.takeSpeeds d).complete h 0x0201) ∧
    (actRequest d = 1 → sl d 18 1 = 1 ∨ sl d 18 1 = 2 → L.shifting = false → L.actState 0 = 1 →
      L.on ACT_STAT_REFERENCED = true → sl d 18 1 ≠ L.get ACT_STAT_GEAR → L.get ACT_STAT_PARK = 1 →
      L.on ACT_DRUM_NEUT_POS = true → L.on ACT_DRUM_G2_POS = true → L.on ACT_SHIFT_RATIO1 = true → L.on ACT_SHIFT_RATIO2 = true →
      (∀ m : Fin 2, L.get POS_OBS_SPD_MAX m = 0 ∨
        ratAbs ((L.takeSpeeds d).outputRpm * L.ratio (sl d 18 1)) ≤ (95 : Rat) / 100 * L.get POS_OBS_SPD_MAX m) →
      (L.useDesc carry inp (h, d)).get ACT_STAT_SHIFT = (if L.get ACT_STAT_GEAR = 3 then 3 else 1) ∧
        (L.useDesc carry inp (h, d)).act.shiftTo = sl d 18 1 ∧ (L.useDesc carry inp (h, d)).get ACT_STAT_PAST_PNR = 0) ∧
    (∀ v w : Rat, actRequest d = 2 → (L.takeSpeeds d).actState 1 = 1 → (L.takeSpeeds d).parkSpeed = some v →
      L.wheelRpm ((10 * L.get ACT_SHIFT_PARK_SPD : Nat) : Rat) = some w → v < w →
      (∀ m : Fin 2, L.hostRequest m = 0) → L.shifting = false →
      (L.useDesc carry inp (h, d)).get ACT_STAT_PARK = 3 ∧ (L.useDesc carry inp (h, d)).actState 1 = 2) ∧
    (actRequest d = 4 → (L.takeSpeeds d).actState 1 = 1 →
      (L.useDesc carry inp (h, d)).get ACT_STAT_PARK = 3 ∧ (L.useDesc carry inp (h, d)).actState 1 = 2) ∧
    (actRequest d = 2 → (L.takeSpeeds d).actState 1 ≠ 1 → L.useDesc carry inp (h, d) = (L.takeSpeeds d).complete h 0x0201) ∧
    (actRequest d = 32 → L.on POS_STAT_STILL 0 = true → L.on POS_STAT_STILL 1 = true → L.get ACT_STAT_PARK = 2 →
      L.shifting = false → L.actState 0 = 1 →
      ((L.useDesc carry inp (h, d)).actr 0).kind = 3 ∧ (L.useDesc carry inp (h, d)).actState 0 = 2)) ∧
  (∀ (L : Leaf) (carry : Bool) (inp : SealIn) (h : Hdr) (d : Slot) (b : Fin 4) (k : Fin 3), h.ring = 4 + b →
    sl d 17 1 % 4 = k → (b = 0 → k = 2) → (L.bus b).awaiting = none →
    (opcode d = 0x60 → L.sendBad b d = none → slBits d 18 1 4 4 = 0 → L.eState b ≠ 2 → pick (L.bus b).txb k = none →
      ∃ f : TxFrame, pick ((L.useDesc carry inp (h, d)).bus b).txb k = some f ∧ f.id = sl d 20 4 % 2 ^ 29 ∧ f.dlc = sl d 19 1 ∧
        f.tag = h.tag ∧ f.dseq = h.dseq) ∧
    (opcode d = 0x60 → L.sendBad b d = none → slBits d 18 1 4 4 = 1 →
      ((L.useDesc carry inp (h, d)).bus b).awaiting = some (h, d)) ∧
    (opcode d = 0x60 → L.sendBad b d = none → slBits d 18 1 4 4 = 0 → L.eState b = 2 →
      L.useDesc carry inp (h, d) = L.complete h 0x0201) ∧
    (opcode d = 0x61 → L.useDesc carry inp (h, d) = L.complete h 0x0105 0 16) ∧
    (opcode d = 0x62 → inp.canTx = [] → ∀ x ∈ ((L.useDesc carry inp (h, d)).bus b).hold, x.1 ≠ k)) ∧
  (∀ (L : Leaf) (carry : Bool) (inp : SealIn) (h h0 : Hdr) (d d0 : Slot) (b : Fin 4) (k : Fin 3), h.ring = 4 + b →
    sl d0 17 1 % 4 = k → (L.bus b).awaiting = some (h0, d0) → opcode d = 0x61 → h.dseq = h0.dseq + 1 → L.eState b ≠ 2 →
    pick (L.bus b).txb k = none →
    ((L.useDesc carry inp (h, d)).bus b).awaiting = none ∧
      ∃ f : TxFrame, pick ((L.useDesc carry inp (h, d)).bus b).txb k = some f ∧ f.id = sl d0 20 4 % 2 ^ 29 ∧ f.dlc = sl d0 19 1)

/-- Frames of a CAN bus (R507, R511, R512, R514, R515): the first filter pair that takes a frame names its queue; it joins
the queue, behind the frame of the shadow buffer, while there is room, waits in the shadow buffer where there is none, and
is dropped and counted where that is taken too; the controller with voice that ends its transmission has put the frame on
the bus, and its buffer takes the next frame held for it; the transceiver follows the one leaf that declares voice. Where
the spec leaves a choice the statement rests on the model's readings of log entry 86. -/
def Obligations.can_frames : Prop :=
  (∀ (s : State) (l : LeafId) (b : Fin 4) (f : CanRx) (i : Nat), s.canRuns l b = true → (s.leaf l).eState b < 2 →
    f.fdf = false → b.val ≠ 0 → (s.leaf l).on CAN_STAT_VOICE_HELD b = true →
    ((List.range 32).find? fun i => (s.leaf l).pairTakes b i f) = some i →
    (pick ((s.leaf l).bus b).rxq ((s.leaf l).get CAN_MATCH_DEST (32 * b + i))).length +
      (pick ((s.leaf l).bus b).shadow ((s.leaf l).get CAN_MATCH_DEST (32 * b + i))).toList.length < 16 →
    Completes (.canFrameReceived l b f false) s fun t => OnlyLeaf l s t ∧
      pick ((t.leaf l).bus b).rxq ((s.leaf l).get CAN_MATCH_DEST (32 * b + i)) =
        pick ((s.leaf l).bus b).rxq ((s.leaf l).get CAN_MATCH_DEST (32 * b + i)) ++
          (pick ((s.leaf l).bus b).shadow ((s.leaf l).get CAN_MATCH_DEST (32 * b + i))).toList ++ [(f, i)] ∧
      pick ((t.leaf l).bus b).shadow ((s.leaf l).get CAN_MATCH_DEST (32 * b + i)) = none ∧
      t.leaf l = { s.leaf l with regs := (t.leaf l).regs, net := (t.leaf l).net } ∧
      KeepsRegs (s.leaf l) (t.leaf l) [CAN_STAT.addr b, CAN_CNT.addr b]) ∧
  (∀ (s : State) (l : LeafId) (b : Fin 4) (f : CanRx) (i : Nat), s.canRuns l b = true → (s.leaf l).eState b < 2 →
    f.fdf = false → b.val ≠ 0 → (s.leaf l).on CAN_STAT_VOICE_HELD b = true →
    ((List.range 32).find? fun i => (s.leaf l).pairTakes b i f) = some i →
    16 ≤ (pick ((s.leaf l).bus b).rxq ((s.leaf l).get CAN_MATCH_DEST (32 * b + i))).length +
      (pick ((s.leaf l).bus b).shadow ((s.leaf l).get CAN_MATCH_DEST (32 * b + i))).toList.length →
    (pick ((s.leaf l).bus b).rxq ((s.leaf l).get CAN_MATCH_DEST (32 * b + i))).length < 16 ∨
      pick ((s.leaf l).bus b).shadow ((s.leaf l).get CAN_MATCH_DEST (32 * b + i)) = none →
    Completes (.canFrameReceived l b f false) s fun t => OnlyLeaf l s t ∧
      pick ((t.leaf l).bus b).rxq ((s.leaf l).get CAN_MATCH_DEST (32 * b + i)) =
        pick ((s.leaf l).bus b).rxq ((s.leaf l).get CAN_MATCH_DEST (32 * b + i)) ++
          (pick ((s.leaf l).bus b).shadow ((s.leaf l).get CAN_MATCH_DEST (32 * b + i))).toList ∧
      pick ((t.leaf l).bus b).shadow ((s.leaf l).get CAN_MATCH_DEST (32 * b + i)) = some (f, i) ∧
      KeepsRegs (s.leaf l) (t.leaf l) [CAN_STAT.addr b, CAN_CNT.addr b]) ∧
  (∀ (s : State) (l : LeafId) (b : Fin 4) (f : CanRx) (i : Nat), s.canRuns l b = true → (s.leaf l).eState b < 2 →
    f.fdf = false → b.val ≠ 0 → (s.leaf l).on CAN_STAT_VOICE_HELD b = true →
    ((List.range 32).find? fun i => (s.leaf l).pairTakes b i f) = some i →
    16 ≤ (pick ((s.leaf l).bus b).rxq ((s.leaf l).get CAN_MATCH_DEST (32 * b + i))).length →
    pick ((s.leaf l).bus b).shadow ((s.leaf l).get CAN_MATCH_DEST (32 * b + i)) ≠ none →
    Completes (.canFrameReceived l b f false) s fun t => OnlyLeaf l s t ∧ (t.leaf l).bus b = (s.leaf l).bus b ∧
      (t.leaf l).get (canFlag 1) b = 1 ∧ (t.leaf l).get CAN_CNT_RX_DROP b =
        min ((s.leaf l).get CAN_CNT_RX_DROP b + 1) CAN_CNT_RX_DROP.max) ∧
  (∀ (s : State) (l : LeafId) (f : CanRx), s.canRuns l 0 = true → (s.leaf l).eState 0 < 2 → f.fdf = false →
    (s.leaf l).crashFrame f = true →
    Completes (.canFrameReceived l 0 f false) s fun t => (t.leaf l).net.crash = true) ∧
  (∀ (s : State) (l : LeafId) (b : Fin 4) (k : Fin 3) (fine : Fine) (f : TxFrame), s.canRuns l b = true →
    (s.leaf l).eState b < 2 → pick ((s.leaf l).bus b).txb k = some f → (s.leaf l).on CAN_STAT_VOICE_HELD b = true →
    ((s.leaf l).bus b).mayGo k = true → (s.leaf l).sending = true → ((s.leaf l).bus b).hold = [] →
    Completes (.canTransmitDone l b k fine) s fun t => OnlyLeaf l s t ∧
      (t.leaf l).out = (s.leaf l).out ++ [.can b f.id f.data] ∧ pick ((t.leaf l).bus b).txb k = none ∧
      (t.leaf l).get CAN_CNT_TX_FRAMES b = min ((s.leaf l).get CAN_CNT_TX_FRAMES b + 1) CAN_CNT_TX_FRAMES.max) ∧
  (∀ (s : State) (l v : LeafId) (b : Fin 4), s.setup = true → s.mayVoice v = true →
    Completes (.voice l b true v) s fun t => OnlyLeaf l s t ∧
      ((t.leaf l).bus b).voiceAt = some ((s.leaf l).count + 1, v)) ∧
  (∀ (s : State) (b : Fin 4), s.mode = .ready ∨ s.mode = .workshop ∨ s.mode = .carry →
    s.leaf0.declares b = true → s.leaf1.declares b = false →
    exec (.voiceDeclaration b) s = .next { s with xcvr := s.xcvr.setIfInBounds b (some .leaf0) }) ∧
  (∀ (s : State) (b : Fin 4), s.mode = .ready ∨ s.mode = .workshop ∨ s.mode = .carry →
    s.leaf0.declares b = true → s.leaf1.declares b = true →
    Completes (.voiceDeclaration b) s fun t => t.xcvr = s.xcvr ∧ OnlyLeaves s t ∧ ∀ l, (t.leaf l).get (canFlag 6) b = 1) ∧
  (∀ (s : State) (b : Fin 4), s.leaf0.declares b = false → s.leaf1.declares b = false →
    Completes (.voiceDeclaration b) s fun t => pick t.xcvr b = none ∧ t.leaf0 = s.leaf0 ∧ t.leaf1 = s.leaf1) ∧
  (∀ (s : State) (b : Fin 4) (us : Nat), 1000 ≤ us → pick s.xcvr b ≠ none →
    Completes (.txdDominantTimeout b us) s fun t => OnlyLeaves s t ∧ ∀ l, (t.leaf l).get (canFlag 5) b = 1)

/-- Errors of a CAN controller with voice (R517, R518): its counters as the bus gives them, passive above 127, bus-off, and
the way back by command, by the timer of CAN0, and through 128 occurrences; a change of bit timing takes the controller off
the bus until it has integrated (R510). Where the spec leaves a choice the statement rests on the model's readings of log
entry 86. -/
def Obligations.can_error_states : Prop :=
  (∀ (s : State) (l : LeafId) (b : Fin 4) (tec : BitVec 9) (rec : BitVec 8) (n : Nat) (fine : Fine), s.canRuns l b = true →
    (s.leaf l).eState b < 2 → (s.leaf l).on CAN_STAT_VOICE_HELD b = true → tec.toNat < 256 →
    Completes (.errorStateChange l b tec rec n fine) s fun t => OnlyLeaf l s t ∧ (t.leaf l).get CAN_STAT_TEC b = tec.toNat ∧
      (t.leaf l).get CAN_STAT_REC b = rec.toNat ∧
      (t.leaf l).eState b = (if 127 < tec.toNat ∨ 127 < rec.toNat then 1 else 0)) ∧
  (∀ (s : State) (l : LeafId) (b : Fin 4) (fine : Fine), s.canRuns l b = true → (s.leaf l).eState b ≠ 2 →
    (s.leaf l).on CAN_STAT_VOICE_HELD b = true →
    Completes (.busOff l b fine) s fun t => OnlyLeaf l s t ∧ (t.leaf l).eState b = 2 ∧ (t.leaf l).get (canFlag 3) b = 1 ∧
      ((t.leaf l).bus b).boAt = some (s.leaf l).count) ∧
  (∀ (s : State) (l : LeafId) (b : Fin 4), s.setup = true → (s.leaf l).eState b = 2 →
    Completes (.recover l b true) s fun t => OnlyLeaf l s t ∧ (t.leaf l).eState b = 3 ∧ ((t.leaf l).bus b).recovering = true) ∧
  (∀ (s : State) (l : LeafId) (c : Course), (s.leaf l).eState 0 = 2 → ((s.leaf l).bus 0).lasting = false →
    ((s.leaf l).bus 0).boAt = some c → 1600 * fieldOf ((s.leaf l).bus 0).cfg 51 44 ≤ since (s.leaf l).count c →
    Completes (.can0AutoRecover l) s fun t => OnlyLeaf l s t ∧ (t.leaf l).eState 0 = 3) ∧
  (∀ (s : State) (l : LeafId) (b : Fin 4) (n : Nat) (fine : Fine), (s.leaf l).eState b = 3 →
    ((s.leaf l).bus b).recovering = true → 128 ≤ n →
    Completes (.recoveryComplete l b n fine) s fun t => OnlyLeaf l s t ∧ (t.leaf l).eState b = 0 ∧
      (t.leaf l).get CAN_STAT_TEC b = 0 ∧ (t.leaf l).get CAN_STAT_REC b = 0) ∧
  (∀ (s : State) (l : LeafId) (b : Fin 4), ((s.leaf l).bus b).nbt ≠ (s.leaf l).word CAN_NBT b → (s.leaf l).eState b ≠ 2 →
    fieldOf ((s.leaf l).word CAN_CFG b) 63 63 = 1 →
    Completes (.bitTimingApply l b) s fun t => OnlyLeaf l s t ∧ (t.leaf l).eState b = 3 ∧
      ((t.leaf l).bus b).nbt = (s.leaf l).word CAN_NBT b ∧ ((t.leaf l).bus b).dbt = (s.leaf l).word CAN_DBT b)

/-- The Ethernet switch and network time (R471, R519 to R527): a frame with a wrong FCS or longer than 1,522 bytes is counted
and goes nowhere; the source of a good frame is learnt and ages out; links go down and up with their named bits; a stream's
recovery starts again after its time; a Sync gives the leaf its base of time, a loss of the grandmaster takes SYNC away, a
report latches them; a frame sent by the host is read with its descriptor and waits for the seal. Where the spec leaves a
choice the statement rests on the model's readings of log entry 87. -/
def Obligations.ethernet : Prop :=
  (∀ (s : State) (l : LeafId) (p : Fin 2) (f : EthFrame) (fine : Fine), (s.leaf l).on NET_PORT_EN p = true →
    (s.leaf l).on NET_PORT_LINK p = true → f.fcsOk = false ∨ 1522 < f.len →
    Completes (.ethFrameReceived l p f fine) s fun t => OnlyLeaf l s t ∧
      t.leaf l = { s.leaf l with regs := (t.leaf l).regs } ∧
      (t.leaf l).get NET_CNT_FCS_ERR = min ((s.leaf l).get NET_CNT_FCS_ERR + 1) NET_CNT_FCS_ERR.max ∧
      KeepsRegs (s.leaf l) (t.leaf l) [NET_CNT.addr 0, NET_FLT.addr 0]) ∧
  (∀ (s : State) (l : LeafId) (p : Fin 2) (f : EthFrame) (fine : Fine), (s.leaf l).on NET_PORT_EN p = true →
    (s.leaf l).on NET_PORT_LINK p = true → f.fcsOk = true → f.len ≤ 1522 → (s.leaf l).on NET_PORT_ING_FILT p = false →
    (s.leaf l).on NET_CTRL_LEARN = true → f.src.getLsbD 40 = false → (s.leaf l).net.fdb = [] →
    Completes (.ethFrameReceived l p f fine) s fun t => OnlyLeaf l s t ∧
      (t.leaf l).net.fdb = [(f.src, p.val, (s.leaf l).count)]) ∧
  (∀ (s : State) (l : LeafId) (mac : BitVec 48) (p : Nat) (c : Course), (s.leaf l).net.fdb = [(mac, p, c)] →
    160000 * (s.leaf l).get NET_CTRL_AGE ≤ since (s.leaf l).count c →
    Completes (.addressAgeOut l mac) s fun t => OnlyLeaf l s t ∧ (t.leaf l).net.fdb = [] ∧
      (t.leaf l).get NET_STAT_FDB_USED = 0) ∧
  (∀ (s : State) (l : LeafId) (k : Fin 16), (pick (s.leaf l).net.recov k).takeAny = false →
    160 * (s.leaf l).get NET_CTRL_RESET ≤ since (s.leaf l).count (pick (s.leaf l).net.recov k).last →
    Completes (.streamRecoveryReset l k) s fun t => OnlyLeaf l s t ∧ (pick (t.leaf l).net.recov k).takeAny = true ∧
      KeepsRegs (s.leaf l) (t.leaf l) [NET_SCNT.addr k]) ∧
  (∀ (s : State) (l : LeafId) (p : Fin 2), (s.leaf l).on NET_PORT_LINK p = true →
    Completes (.ethLinkDown l p) s fun t => OnlyLeaf l s t ∧ (t.leaf l).get NET_PORT_LINK p = 0 ∧
      (t.leaf l).get (netFlag (1 + p)) = 1) ∧
  (∀ (s : State) (l : LeafId) (p : Fin 2), (s.leaf l).on NET_PORT_LINK p = false →
    Completes (.ethLinkUp l p) s fun t => OnlyLeaf l s t ∧ (t.leaf l).get NET_PORT_LINK p = 1 ∧
      t.leaf l = { s.leaf l with regs := (t.leaf l).regs, net := (t.leaf l).net } ∧
      KeepsRegs (s.leaf l) (t.leaf l) [NET_PORT.addr p]) ∧
  (∀ (s : State) (l : LeafId) (p : Fin 2) (m : PtpRx), (s.leaf l).on NET_PORT_EN p = true → (s.leaf l).on NET_PORT_LINK p = true →
    (s.leaf l).on NET_PORT_PTP_EN p = true → m.sync = true →
    Completes (.ptpMessage l p m) s fun t => OnlyLeaf l s t ∧ (t.leaf l).get NET_STAT_SYNC = 1 ∧
      (t.leaf l).net.gm = m.gm ∧ (t.leaf l).net.syncAt = some (s.leaf l).count ∧ (t.leaf l).net.baseCourse = m.at_ ∧
      KeepsRegs (s.leaf l) (t.leaf l) [NET_STAT.addr 0]) ∧
  (∀ (s : State) (l : LeafId), (s.leaf l).computing = true → (s.leaf l).count.toNat % 1600 = 0 →
    (s.leaf l).get NET_PTPC_COURSE ≠ (s.leaf l).count.toNat →
    Completes (.timeReport l) s fun t => OnlyLeaf l s t ∧ (t.leaf l).get NET_PTPC_COURSE = (s.leaf l).count.toNat ∧
      (t.leaf l).get NET_PTPC_SYNC = bit ((s.leaf l).on NET_STAT_SYNC) ∧
      (t.leaf l).get NET_PTPC_GM_CHANGE = bit (s.leaf l).net.gmChanged ∧ (t.leaf l).net.gmChanged = false) ∧
  (∀ (s : State) (l : LeafId) (c : Course), (s.leaf l).on NET_STAT_SYNC = true → (s.leaf l).net.syncAt = some c →
    60000 ≤ since (s.leaf l).count c →
    Completes (.gmLost l) s fun t => OnlyLeaf l s t ∧ (t.leaf l).get NET_STAT_SYNC = 0 ∧ (t.leaf l).get (netFlag 5) = 1 ∧
      KeepsRegs (s.leaf l) (t.leaf l) [NET_STAT.addr 0, NET_FLT.addr 0]) ∧
  (∀ (s : State) (l : LeafId) (d : Desc) (f : EthFrame) (L : Leaf) (h : Hdr), Reads (s.leaf l) 8 0x70 d L h →
    bufferOk (sl d.bytes 24 8) (sl d.bytes 32 4) 1536 = true →
    Completes (.netSend l d f true) s fun t => OnlyLeaf l s t ∧ (t.leaf l).hre.rxq = L.hre.rxq ++ [(h, d.bytes)] ∧
      (t.leaf l).hre.readBytes = L.hre.readBytes + sl d.bytes 32 4 ∧
      (t.leaf l).net.bufs = L.net.bufs ++ [(h.dseq, { f with len := sl d.bytes 32 4 + 4, fcsOk := true })])

/-- The ring engine and its link (R444, R457, R486): RUN and STOP in READY and WORKSHOP, with both block addresses set; what a
reset of the link returns to reset values; the link down and up again. Where the spec leaves a choice the statement rests on
the model's readings of log entries 74 and 82. -/
def Obligations.ring_engine_and_link : Prop :=
  (∀ (s : State) (l : LeafId), s.mode = .ready ∨ s.mode = .workshop → (s.leaf l).word HRE_DB_ADDR ≠ 0 →
    (s.leaf l).word HRE_SB_ADDR ≠ 0 →
    Completes (.ringEngineRun l) s fun t => OnlyLeaf l s t ∧ (t.leaf l).get HRE_CTRL_RUN = 1 ∧
      (∀ v : Fin 32, (pick (t.leaf l).hre.vec v).armSeen = none) ∧ KeepsRegs (s.leaf l) (t.leaf l) [HRE_CTRL.addr 0]) ∧
  (∀ (s : State) (l : LeafId), s.mode = .ready ∨ s.mode = .workshop → (s.leaf l).word HRE_DB_ADDR = 0 →
    Completes (.ringEngineRun l) s fun t => OnlyLeaf l s t ∧ KeepsRegs (s.leaf l) (t.leaf l) reportRegs) ∧
  (∀ (s : State) (l : LeafId), s.mode = .ready ∨ s.mode = .workshop →
    Completes (.ringEngineStop l) s fun t => OnlyLeaf l s t ∧ (t.leaf l).get HRE_CTRL_RUN = 0 ∧
      (t.leaf l).hre = (s.leaf l).hre ∧ KeepsRegs (s.leaf l) (t.leaf l) [HRE_CTRL.addr 0]) ∧
  (∀ (s : State) (l : LeafId) (perst : Bool), s.mode = .ready ∨ s.mode = .workshop →
    Completes (.hotReset l perst) s fun t => OnlyLeaf l s t ∧ (t.leaf l).hre.comQ = [] ∧ (t.leaf l).hre.locQ = [] ∧
      ∀ (r : Reg) (i : Nat), blockOf (r.addr i) = 3 → (t.leaf l).word r i = BitVec.ofNat 64 (r.resetAt i)) ∧
  (∀ (s : State) (l : LeafId) (perst : Bool), s.mode = .carry → (s.leaf l).hre.downAt = none →
    Completes (.hotReset l perst) s fun t => OnlyLeaf l s t ∧ (t.leaf l).get HRE_STAT_LINK_UP = 0 ∧
      (t.leaf l).hre.downAt = some (s.leaf l).count) ∧
  (∀ (s : State) (l : LeafId),
    Completes (.linkDown l false) s fun t => OnlyLeaf l s t ∧ (t.leaf l).get HRE_STAT_LINK_UP = 0 ∧
      (t.leaf l).hre.reading = false ∧ KeepsRegs (s.leaf l) (t.leaf l) [HRE_STAT.addr 0]) ∧
  (∀ (s : State) (l : LeafId) (bme msix : Bool),
    Completes (.pcieLinkUp l bme msix) s fun t => OnlyLeaf l s t ∧ (t.leaf l).get HRE_STAT_LINK_UP = 1 ∧
      (t.leaf l).get HRE_STAT_BME = bit bme ∧ (t.leaf l).get HRE_STAT_MSIX = bit msix ∧
      KeepsRegs (s.leaf l) (t.leaf l) [HRE_STAT.addr 0, TIE_CNT.addr 0])

/-- The doorbell of a course (R40, R41, R463, R464): at fine tick 3,584 a running engine issues the doorbell read and writes
the status block; a block that comes in time is held for the next course; one that fails, or has not come by fine tick 3,968,
is late and counted. Where the spec leaves a choice the statement rests on the model's readings of log entry 82. -/
def Obligations.doorbell_of_a_course : Prop :=
  (∀ (s : State) (l : LeafId), (s.leaf l).role ≠ .boot → (s.leaf l).hre.fetchAt ≠ some (s.leaf l).count →
    (s.leaf l).on HRE_CTRL_RUN = true → (s.leaf l).master = true →
    Completes (.doorbellFetch l) s fun t => OnlyLeaf l s t ∧ (t.leaf l).hre.reading = true ∧
      (t.leaf l).get HRE_STAT_RUNNING = 1 ∧ (t.leaf l).hre.fetchAt = some (s.leaf l).count ∧
      ∃ (block : BitVec 2048) (more : List Out), (t.leaf l).out = (s.leaf l).out ++ [.doorbellRead, .status block] ++ more) ∧
  (∀ (s : State) (l : LeafId), (s.leaf l).role ≠ .boot → (s.leaf l).on HRE_CTRL_RUN = false →
    Completes (.doorbellFetch l) s fun t => OnlyLeaf l s t ∧ (t.leaf l).out = (s.leaf l).out) ∧
  (∀ (s : State) (l : LeafId) (d : DoorbellBlock), (s.leaf l).hre.reading = true → (s.leaf l).tick ≤ 3968 →
    Completes (.doorbellCompletion l d false) s fun t => OnlyLeaf l s t ∧ (t.leaf l).hre.arrived = some d ∧
      (t.leaf l).hre.reading = false ∧ (t.leaf l).crs.lateRun = 0 ∧ (t.leaf l).hre.door = (s.leaf l).hre.door) ∧
  (∀ (s : State) (l : LeafId) (d : DoorbellBlock), (s.leaf l).hre.reading = true → (s.leaf l).tick ≤ 3968 →
    Completes (.doorbellCompletion l d true) s fun t => OnlyLeaf l s t ∧ (t.leaf l).get HRE_ERR_DB_READ = 1 ∧
      (t.leaf l).hre.arrived = (s.leaf l).hre.arrived ∧ (t.leaf l).hre.missing = (s.leaf l).hre.missing + 1) ∧
  (∀ (s : State) (l : LeafId), (s.leaf l).hre.reading = true → (s.leaf l).tick ≤ 3968 →
    Completes (.doorbellDeadline l) s fun t => OnlyLeaf l s t ∧ (t.leaf l).hre.reading = false ∧
      (t.leaf l).hre.missing = (s.leaf l).hre.missing + 1 ∧ (t.leaf l).tick = 3968 ∧
      (t.leaf l).get CRS_LATE_DB_LATE = min ((s.leaf l).get CRS_LATE_DB_LATE + 1) CRS_LATE_DB_LATE.max) ∧
  (∀ (s : State) (l : LeafId), Completes (.lateCompletion l) s fun t => OnlyLeaf l s t ∧
      (t.leaf l).get HRE_CNT_LATE_CPL = min ((s.leaf l).get HRE_CNT_LATE_CPL + 1) HRE_CNT_LATE_CPL.max ∧
      t.leaf l = { s.leaf l with regs := (t.leaf l).regs } ∧ KeepsRegs (s.leaf l) (t.leaf l) [HRE_CNT.addr 0])

/-- Descriptors read again, stalled rings and output entries (R466, R470, R474, R475): a second failure consumes the
descriptor; a good second read goes on to its effect; an entry is written at the producer index of its ring, which advances by
one; where the ring is full a COMMON entry is dropped and a LOCAL one waits. Where the spec leaves a choice the statement
rests on the model's readings of log entries 2, 29 and 82. -/
def Obligations.rings_retry_and_post : Prop :=
  (∀ (s : State) (l : LeafId) (r : Fin 10) (d : Desc) (b : BufRead), (s.leaf l).canRead r = true →
    pick (s.leaf l).hre.retry r ≠ none → pick (s.leaf l).hre.fetched r = 0 → d.readOk = false →
    Completes (.descriptorRetry l r d b) s fun t => OnlyLeaf l s t ∧
      (t.leaf l).get HRE_IRCFG_CONS r = ((s.leaf l).get HRE_IRCFG_CONS r + 1) % 2 ^ 16 ∧
      pick (t.leaf l).hre.retry r = none ∧ (t.leaf l).get HRE_ERR_DESC_READ = 1) ∧
  (∀ (s : State) (l : LeafId) (d : Desc) (b : BufRead) (L : Leaf) (h : Hdr), (s.leaf l).canRead 0 = true →
    pick (s.leaf l).hre.retry 0 ≠ none → pick (s.leaf l).hre.fetched 0 = 0 → ((s.leaf l).checkDesc 0 d true).2 ≠ none →
    Reads ((s.leaf l).onHre fun H => { H with retry := H.retry.setIfInBounds 0 none }) 0 0x20 d L h →
    Completes (.descriptorRetry l 0 d b) s fun t => OnlyLeaf l s t ∧ (t.leaf l).hre.rxq = L.hre.rxq ++ [(h, d.bytes)]) ∧
  (∀ (s : State) (l : LeafId) (r : Fin 10), (s.leaf l).carrying = true → (s.leaf l).on HRE_IRCFG_EN r = true →
    ((s.leaf l).waiting r).getD 0 ≠ 0 → 1600 ≤ since (s.leaf l).count (pick (s.leaf l).hre.moved r) →
    Completes (.ringStall l r) s fun t => OnlyLeaf l s t ∧ (t.leaf l).get HRE_ERR_STALL = 1 ∧ (t.leaf l).hre.stall = true ∧
      KeepsRegs (s.leaf l) (t.leaf l) [HRE_ERR.addr 0]) ∧
  (∀ (s : State) (l : LeafId) (r : Fin 10) (e : OutEntry), (s.leaf l).nextEntry r = some e → e.ring = r →
    (s.leaf l).sending = true → (s.leaf l).master = true → (s.leaf l).ringOpen r = true →
    (s.leaf l).hre.postedNow.getLsbD r = false → (s.leaf l).tick < 3584 →
    ((s.leaf l).get HRE_ORCFG_PROD r + 2 ^ 16 - (s.leaf l).get HRE_ORCFG_CONS r) % 2 ^ 16 ≠
      2 ^ (s.leaf l).get HRE_ORCFG_LOG2SIZE r →
    Completes (.outputEntryPost l r) s fun t => OnlyLeaf l s t ∧
      (∃ bytes, (t.leaf l).out = (s.leaf l).out ++ (s.leaf l).frameWrite e ++ [.entry r ((s.leaf l).get HRE_ORCFG_PROD r) bytes]) ∧
      (t.leaf l).get HRE_ORCFG_PROD r = ((s.leaf l).get HRE_ORCFG_PROD r + 1) % 2 ^ 16 ∧
      (t.leaf l).hre.postedNow.getLsbD r = true ∧ KeepsRegs (s.leaf l) (t.leaf l) [HRE_ORCFG.addr r]) ∧
  (∀ (s : State) (l : LeafId) (r : Fin 10) (e : OutEntry), (s.leaf l).nextEntry r = some e →
    ((s.leaf l).get HRE_ORCFG_PROD r + 2 ^ 16 - (s.leaf l).get HRE_ORCFG_CONS r) % 2 ^ 16 =
      2 ^ (s.leaf l).get HRE_ORCFG_LOG2SIZE r → e.isLocal = true →
    exec (.outputEntryPost l r) s = .next s) ∧
  (∀ (s : State) (l : LeafId) (c : Rat), (s.leaf l).role ≠ .boot → 1600 ≤ since (s.leaf l).count (s.leaf l).crs.compAt →
    (s.leaf l).correction = some c →
    Completes (.timebaseCompensation l) s fun t => OnlyLeaf l s t ∧ (t.leaf l).crs.compAt = (s.leaf l).count ∧
      (t.leaf l).get ⟨THM_XO, 15, 0⟩ = unsigned 16 (clampInt (-(2 ^ 15)) (2 ^ 15 - 1) (Config.rnd c)) ∧
      (t.leaf l).get CRS_STAT_COMP_ACTIVE = 1)

/-- The deadlines of a course (R38, R39, R69, R71, R85): at fine tick 2,688 the keyed work is over and a block that agreed has
no missed deadline on its count; at fine tick 3,584 no engine runs or holds a fill block any more, and those left are counted;
after 1,600 courses without an invalid output the shedding level falls by one. Where the spec leaves a choice the statement
rests on the model's readings of log entries 25 and 39. -/
def Obligations.course_deadlines : Prop :=
  (∀ (s : State) (l : LeafId), (s.leaf l).computing = true → (s.leaf l).ash.keyedOver = false → (s.leaf l).ash.fillOver = false →
    (∀ b : Fin 5, ∀ p, (s.leaf l).posOf b = some p → ((s.leaf l).pairx p).agreed = true) →
    Completes (.keyedDeadline l) s fun t => OnlyLeaf l s t ∧ (t.leaf l).ash.keyedOver = true ∧
      (t.leaf l).tick = max (s.leaf l).tick 2688 ∧ (t.leaf l).regs = (s.leaf l).regs ∧
      ∀ b : Fin 5, (s.leaf l).posOf b ≠ none → pick (t.leaf l).ash.missRun b = 0) ∧
  (∀ (s : State) (l : LeafId), (s.leaf l).computing = true → (s.leaf l).ash.fillOver = false →
    Completes (.fillDeadline l) s fun t => OnlyLeaf l s t ∧ (t.leaf l).ash.fillOver = true ∧ (t.leaf l).ash.keyedOver = true ∧
      ∀ e : Fin 24, ((t.leaf l).eng e).running = none ∧ ((t.leaf l).eng e).queue = []) ∧
  (∀ (s : State) (l : LeafId), (s.leaf l).computing = true → 0 < (s.leaf l).ash.base →
    1600 ≤ since (s.leaf l).count (s.leaf l).ash.lastBad →
    Completes (.sheddingDecay l) s fun t => OnlyLeaf l s t ∧ (t.leaf l).ash.base = (s.leaf l).ash.base - 1 ∧
      (t.leaf l).ash.lastBad = (s.leaf l).count ∧ KeepsRegs (s.leaf l) (t.leaf l) [ASH_STAT.addr 0])

/-- A pair's agreed output and a fill block's end (R45, R67, R74, R76): the pair has agreed at its fine tick and its block
does its work; the engine takes the next block of its own queue, and the block it finished does its work. Where the spec
leaves a choice the statement rests on the model's readings of log entries 12, 40 and 66. -/
def Obligations.blocks_complete : Prop :=
  (∀ (s : State) (l : LeafId) (b : Fin 5) (tick : Fin 4000) (n p : Nat), (s.leaf l).posOf b = some p →
    (s.leaf l).computing = true → (s.leaf l).ash.keyedOver = false → 96 ≤ tick.val → tick.val ≤ 2688 →
    ((s.leaf l).pairx p).agreed = false → ((s.leaf l).pairx p).rerun = false → ((s.leaf l).pairx p).stopped = false →
    Completes (.pairOutputAgreed l b tick n) s fun t => OnlyLeaf l s t ∧ ∃ X : Leaf, t.leaf l = X.runKeyed b tick ∧
      (X.pairx p).agreed = true ∧ X.get ASH_PAIR_DONE_LAST p = tick ∧ X.tick = max (s.leaf l).tick tick ∧
      kvFind X.cmp.outAt b = some (fineAt (s.leaf l).count tick) ∧
      X = { s.leaf l with regs := X.regs, tick := X.tick, tie := X.tie, ash := X.ash, cmp := X.cmp }) ∧
  (∀ (s : State) (l : LeafId) (e : Fin 24) (tick : Fin 4000) (agree : Bool) (b : FillBlock),
    ((s.leaf l).eng e).running = some b → (s.leaf l).computing = true → (s.leaf l).ash.fillOver = false → 96 ≤ tick.val →
    tick.val ≤ 3584 →
    Completes (.fillBlockComplete l e tick agree) s fun t => ∃ X : Leaf, t = (s.setLeaf l X).runFill l b tick agree ∧
      (X.eng e).running = ((s.leaf l).eng e).queue.head? ∧ (X.eng e).queue = ((s.leaf l).eng e).queue.drop 1 ∧
      X.get ASH_STEAL_BLOCKS = min ((s.leaf l).get ASH_STEAL_BLOCKS + 1) ASH_STEAL_BLOCKS.max ∧
      kvFind X.cmp.outAt b.id = some (fineAt (s.leaf l).count tick) ∧
      X = { s.leaf l with regs := X.regs, tick := X.tick, tie := X.tie, ash := X.ash, cmp := X.cmp }) ∧
  (∀ (s : State) (l : LeafId) (thief : Fin 24) (v : Nat), (s.leaf l).computing = true → (s.leaf l).ash.fillOver = false →
    (s.leaf l).get (engState thief) = 0 → ((s.leaf l).eng thief).running = none → ((s.leaf l).eng thief).queue = [] →
    (s.leaf l).richest thief = some v → v < 24 → v ≠ thief →
    Completes (.steal l thief) s fun t => OnlyLeaf l s t ∧
      ((t.leaf l).eng thief).running = ((s.leaf l).eng v).queue.getLast? ∧
      ((t.leaf l).eng v).queue = ((s.leaf l).eng v).queue.dropLast ∧
      (t.leaf l).get ASH_STEAL_STEALS = min ((s.leaf l).get ASH_STEAL_STEALS + 1) ASH_STEAL_STEALS.max) ∧
  (∀ (s : State) (l : LeafId) (e : Fin 24) (b : FillBlock), (s.leaf l).bondOf e = none →
    ((s.leaf l).eng e).running = some b → (s.leaf l).computing = true → (s.leaf l).ash.fillOver = false →
    Completes (.cycleGuardStop l e) s fun t => OnlyLeaf l s t ∧ b.id ∈ (t.leaf l).ash.invalid ∧
      ((t.leaf l).eng e).running = ((s.leaf l).eng e).queue.head? ∧
      (t.leaf l).get ASH_CNT_GUARD_STOP = min ((s.leaf l).get ASH_CNT_GUARD_STOP + 1) ASH_CNT_GUARD_STOP.max)

/-- Mismatches and memory errors of the engines (R25, R77, R78): a first mismatch makes the pair rerun, an agreeing rerun is a
transient mismatch and is counted, a recurring one silences the leaf; an uncorrectable error of a leaf's keystone memory
silences it, a corrected one of an engine is counted against it. Where the spec leaves a choice the statement rests on the
model's readings of log entries 18 and 41. -/
def Obligations.mismatches_and_memory_errors : Prop :=
  (∀ (s : State) (l : LeafId) (p : Fin 8) (tick : Fin 4000), (s.leaf l).computing = true → (s.leaf l).on ASH_PAIR_VALID p = true →
    (s.leaf l).get ASH_PAIR_ROLE p ≠ 1 → ((s.leaf l).pairx p).split = none → ((s.leaf l).pairx p).agreed = false →
    ((s.leaf l).pairx p).stopped = false → ((s.leaf l).pairx p).rerun = false → (s.leaf l).ash.keyedOver = false →
    Completes (.pairMismatch l p tick false) s fun t => OnlyLeaf l s t ∧ ((t.leaf l).pairx p).rerun = true ∧
      (t.leaf l).regs = (s.leaf l).regs) ∧
  (∀ (s : State) (l : LeafId) (p : Fin 8) (tick : Fin 4000), (s.leaf l).computing = true → (s.leaf l).on ASH_PAIR_VALID p = true →
    ((s.leaf l).pairx p).rerun = true →
    Completes (.pairRerunComplete l p tick false) s fun t => OnlyLeaf l s t ∧ ((t.leaf l).pairx p).rerun = false ∧
      (t.leaf l).cut = (s.leaf l).cut ∧
      (t.leaf l).get ASH_CNT_MISM_TRANS = min ((s.leaf l).get ASH_CNT_MISM_TRANS + 1) ASH_CNT_MISM_TRANS.max) ∧
  (∀ (s : State) (l : LeafId) (p : Fin 8) (tick : Fin 4000), (s.leaf l).computing = true → (s.leaf l).on ASH_PAIR_VALID p = true →
    ((s.leaf l).pairx p).rerun = true →
    Completes (.pairRerunComplete l p tick true) s fun t => OnlyLeaf l s t ∧ (t.leaf l).cut = true) ∧
  (∀ (s : State) (l : LeafId), (s.leaf l).computing = true →
    Completes (.uncorrectableError l .keystoneSram false) s fun t => OnlyLeaf l s t ∧ (t.leaf l).cut = true) ∧
  (∀ (s : State) (l : LeafId) (e : Fin 24), (s.leaf l).bondOf e = none →
    Completes (.uncorrectableError l (.engineMemory e) true) s fun t => OnlyLeaf l s t ∧
      (t.leaf l).regs = (s.leaf l).regs ∧ ((t.leaf l).eng e).running = ((s.leaf l).eng e).running ∧
      (since (s.leaf l).count ((s.leaf l).eng e).errFrom < 160000 →
        ((t.leaf l).eng e).errs = ((s.leaf l).eng e).errs + 1))

/-- A hand-over of a keyed block (R79 to R81): the two freshest fill engines are bonded in a free position for the course E
three courses on; their digests are verified, the state copied at the close of E − 1, and at E the new pair takes the block
and the old position is free. Where the spec leaves a choice the statement rests on the model's readings of log entry 44. -/
def Obligations.handover : Prop :=
  (∀ (s : State) (l : LeafId) (trig : Trigger) (rest : List Trigger) (a b new old : Nat), (s.leaf l).computing = true →
    (s.leaf l).ash.waiting = trig :: rest → (s.leaf l).ash.hand = none → 1 ≤ since (s.leaf l).count trig.decided →
    trig.order ≠ 5 → trig.block < 5 →
    (s.leaf l).freshest (((s.leaf l).enginesIn 0).filter fun e => !((s.leaf l).eng e).due) = some a →
    (s.leaf l).freshest ((((s.leaf l).enginesIn 0).filter fun e => !((s.leaf l).eng e).due).filter fun e => e != a) = some b →
    ((List.range 8).find? fun p => !(s.leaf l).on ASH_PAIR_VALID p) = some new → (s.leaf l).posOf trig.block = some old →
    Completes (.handoverStart l) s fun t => OnlyLeaf l s t ∧ (t.leaf l).ash.waiting = rest ∧
      (∃ h, (t.leaf l).ash.hand = some h ∧ h.effect = after (s.leaf l).count 3 ∧ h.block = trig.block ∧ h.newPos = new ∧
        h.oldPos = old ∧ h.verified = false) ∧
      (t.leaf l).get ASH_PAIR_VALID new = 1 ∧ (t.leaf l).get ASH_PAIR_ROLE new = 1 ∧
      (t.leaf l).get ASH_PAIR_BLOCK new = trig.block) ∧
  (∀ (s : State) (l : LeafId) (h : Handover), (s.leaf l).computing = true → (s.leaf l).ash.hand = some h →
    reached ((s.leaf l).count + 2) h.effect = true → h.verified = false →
    exec (.handoverDigestCheck l true) s =
      .next (s.on l fun L => L.onAsh fun A => { A with hand := some { h with verified := true } })) ∧
  (∀ (s : State) (l : LeafId) (h : Handover), (s.leaf l).computing = true → (s.leaf l).ash.hand = some h →
    reached ((s.leaf l).count + 2) h.effect = true → h.verified = false →
    Completes (.handoverDigestCheck l false) s fun t => OnlyLeaf l s t ∧ (t.leaf l).ash.hand = none ∧
      ∃ x ∈ (t.leaf l).ash.waiting, x.block = h.block) ∧
  (∀ (s : State) (l : LeafId) (h : Handover), (s.leaf l).computing = true → (s.leaf l).ash.hand = some h →
    reached ((s.leaf l).count + 1) h.effect = true → 3584 ≤ (s.leaf l).tick → h.verified = true → h.copied = false →
    exec (.handoverStateCopy l) s =
      .next (s.on l fun L => L.onAsh fun A => { A with hand := some { h with copied := true } })) ∧
  (∀ (s : State) (l : LeafId) (h : Handover), (s.leaf l).computing = true → (s.leaf l).ash.hand = some h →
    reached (s.leaf l).count h.effect = true → h.copied = true → h.oldPos < 8 → h.newPos < 8 → h.oldPos ≠ h.newPos →
    Completes (.handoverComplete l) s fun t => OnlyLeaf l s t ∧ (t.leaf l).ash.hand = none ∧
      (t.leaf l).get ASH_PAIR_VALID h.oldPos = 0 ∧ (t.leaf l).get ASH_PAIR_ROLE h.newPos = 0 ∧
      (t.leaf l).get ASH_CNT_HANDOVERS = min ((s.leaf l).get ASH_CNT_HANDOVERS + 1) ASH_CNT_HANDOVERS.max)

/-- Engine self-tests and debug splits (R81 to R83, R87, R88): an engine owed a test starts it; after 144 courses a passing
engine returns to fill state and a first failure is repeated; a split is named for the next boundary, and its end asks for a
hand-over to other engines. Where the spec leaves a choice the statement rests on the model's readings of log entries 44 and
95. -/
def Obligations.engine_tests_and_splits : Prop :=
  (∀ (s : State) (l : LeafId) (e : Nat), (s.leaf l).computing = true → (s.leaf l).ash.testing = none →
    ((s.leaf l).enginesIn 2).head? = some e →
    Completes (.engineSelfTestStep l) s fun t => OnlyLeaf l s t ∧ (t.leaf l).ash.testing = some (e, (s.leaf l).count) ∧
      (t.leaf l).regs = (s.leaf l).regs) ∧
  (∀ (s : State) (l : LeafId) (w : Word) (e : Fin 24) (c : Course), (s.leaf l).computing = true →
    (s.leaf l).ash.testing = some (e.val, c) → 144 ≤ since (s.leaf l).count c →
    Completes (.engineSelfTestComplete l w w) s fun t => OnlyLeaf l s t ∧ (t.leaf l).ash.testing = none ∧
      (t.leaf l).get (engState e) = 0 ∧ ((t.leaf l).eng e).passed = (s.leaf l).count ∧
      (t.leaf l).word BST_SIG = w ∧ (t.leaf l).get BST_STAT_PASS = 1) ∧
  (∀ (s : State) (l : LeafId) (w x : Word) (e : Fin 24) (c : Course), (s.leaf l).computing = true →
    (s.leaf l).ash.testing = some (e.val, c) → 144 ≤ since (s.leaf l).count c → w ≠ x →
    ((s.leaf l).eng e).repeating = false →
    Completes (.engineSelfTestComplete l w x) s fun t => OnlyLeaf l s t ∧
      (t.leaf l).ash.testing = some (e.val, (s.leaf l).count) ∧ ((t.leaf l).eng e).repeating = true ∧
      (t.leaf l).get BST_STAT_PASS = 0) ∧
  (∀ (s : State) (l : LeafId) (p : Fin 8) (side : Bool) (who : Ident), s.mayDebug = true → (s.leaf l).on ASH_PAIR_VALID p = true →
    Completes (.split l p side who) s fun t => OnlyLeaf l s t ∧ ((t.leaf l).pairx p).splitNext = some side ∧
      (t.leaf l).get ASH_DBG_SPLIT = 1 ∧ (t.leaf l).get ASH_DBG_POS = p ∧ KeepsRegs (s.leaf l) (t.leaf l) [ASH_DBG.addr 0]) ∧
  (∀ (s : State) (l : LeafId) (p : Fin 8) (who : Ident), s.mayDebug = true → ((s.leaf l).pairx p).split ≠ none →
    (s.leaf l).ash.waiting = [] → (s.leaf l).ash.hand = none →
    Completes (.endSplit l p who) s fun t => OnlyLeaf l s t ∧ (t.leaf l).get ASH_DBG_SPLIT = 0 ∧
      (t.leaf l).ash.waiting = [⟨4, (s.leaf l).get ASH_PAIR_BLOCK p, (s.leaf l).count⟩])

/-- The commands that read a change from IR1 or IR3, with the ring and the opcode of each (R122, R460). -/
def changeDesc : Instr → Option (LeafId × Desc × Nat × Nat)
  | .regWrite l d => some (l, d, 1, 0x08)
  | .tableSwitch l d => some (l, d, 1, 0x09)
  | .testStart l d => some (l, d, 3, 0x10)
  | .testStop l d => some (l, d, 3, 0x11)
  | .captureStart l d => some (l, d, 3, 0x01)
  | _ => none

/-- A change is decided in the course its descriptor is received (R50, R51): the LEAD leaf accepts one that names a course in
its window and that nothing forbids, and keeps it under that course; outside the window it refuses it with 0x0202 and counts
it; the FOLLOW leaf keeps a descriptor that no decision has reached. Where the spec leaves a choice the statement rests on the
model's readings of log entries 22 and 83. -/
def Obligations.changes_decided_at_receipt : Prop :=
  (∀ (c : Instr) (s s1 : State) (l : LeafId) (d : Desc) (ring op : Nat) (L : Leaf) (h : Hdr) (w : ChangeWhat) (k : Int),
    changeDesc c = some (l, d, ring, op) → Reads (s.leaf l) ring op d L h → L.role = .lead →
    s1 = ((s.setLeaf l L).both fun L => L.decided h) → readChange d.bytes = .ok w → s1.refuseChange l w false = none →
    changeCourse d.bytes ≠ 0 → distance L.count.toNat (BitVec.ofNat 48 (changeCourse d.bytes)).toNat 48 = some k →
    (L.get CRS_CTRL_COMMIT_LEAD : Int) ≤ k → k ≤ 2 ^ 24 →
    Completes c s fun t => ∃ ch : Change, (t.leaf l).crs.changes = L.crs.changes ++ [ch] ∧
      ch.effect = BitVec.ofNat 48 (changeCourse d.bytes) ∧ ch.what = w ∧ ch.hdr = h ∧ (t.leaf l).crs.due = L.crs.due) ∧
  (∀ (c : Instr) (s s1 : State) (l : LeafId) (d : Desc) (ring op : Nat) (L : Leaf) (h : Hdr) (w : ChangeWhat) (k : Int),
    changeDesc c = some (l, d, ring, op) → Reads (s.leaf l) ring op d L h → L.role = .lead → h.ring ≠ directRing →
    s1 = ((s.setLeaf l L).both fun L => L.decided h) → readChange d.bytes = .ok w → s1.refuseChange l w false = none →
    changeCourse d.bytes ≠ 0 → distance L.count.toNat (BitVec.ofNat 48 (changeCourse d.bytes)).toNat 48 = some k →
    k < (L.get CRS_CTRL_COMMIT_LEAD : Int) ∨ 2 ^ 24 < k →
    Completes c s fun t => (t.leaf l).crs.changes = L.crs.changes ∧
      (t.leaf l).get CRS_LATE_COMMIT_REFUSE = min (L.get CRS_LATE_COMMIT_REFUSE + 1) CRS_LATE_COMMIT_REFUSE.max) ∧
  (∀ (c : Instr) (s : State) (l : LeafId) (d : Desc) (ring op : Nat) (L : Leaf) (h : Hdr),
    changeDesc c = some (l, d, ring, op) → Reads (s.leaf l) ring op d L h → L.role = .follow → L.crs.changes = [] →
    (s.leaf l.other).role ≠ .lead →
    Completes c s fun t => OnlyLeaf l s t ∧
      t.leaf l = { L with crs := { L.crs with undecided := L.crs.undecided ++ [({ h with ring := ring }, d.bytes, L.count)] } })

/-- The mirror and the commit of changes (R51, R52): a CHANGE unit brings the FOLLOW leaf the accepted change under its
course; without an acknowledgement a change is withdrawn at the close of E − 2; at plan commit a change that names the next
course is fixed for it and leaves the list; at its course a settings register takes the bits its mask names, a write of a
command register waits for that command's row (a TEST of GCH_CMD is discarded with an event, R245), a TABLE_SWITCH makes the
bank active with the comparison disarmed for 64 courses, a TEST_START begins its ramp, a TEST_STOP the ramp down, and a
CAPTURE_START arms the capture or starts it at once (R52, R108, R106, R113, R114, R120, R460). Where the spec leaves a
choice the statement rests on the model's readings of log entries 2, 23, 45, 46 and 47. -/
def Obligations.changes_mirrored_and_committed : Prop :=
  (∀ (s : State) (l : LeafId) (rx : Rx) (c : ChangeRx) (L : Leaf) (w : ChangeWhat), (s.leaf l).takeUnit rx = some L →
    L.role = .follow → readChange c.bytes = .ok w → L.crs.undecided = [] →
    Completes (.change l rx c) s fun t => OnlyLeaf l s t ∧ ∃ ch : Change, (t.leaf l).crs.changes = L.crs.changes ++ [ch] ∧
      ch.effect = c.effect ∧ ch.what = w ∧ ch.hdr.dseq = c.dseq ∧ ch.hdr.tag = c.tag) ∧
  (∀ (s : State) (l f : LeafId) (q : BitVec 32) (c : Change), s.leadId = some l → s.followId = some f →
    ((s.leaf l).crs.changes.find? fun c => c.hdr.dseq == q && !c.acked) = some c → 3584 ≤ (s.leaf l).tick →
    isAfter ((s.leaf l).count + 2).toNat c.effect.toNat 48 = false →
    Completes (.changeWithdraw q) s fun t => OnlyLeaves s t ∧
      ∀ m, (t.leaf m).crs.changes = (s.leaf m).crs.changes.filter fun x => !sameDesc x.hdr c.hdr) ∧
  (∀ (s : State) (l : LeafId) (c : Change), s.leadId = some l → (s.leaf l).crs.changes = [c] →
    c.effect = (s.leaf l).count + 1 → c.acked = true → confirmAgainstRevert [c] c = false →
    (s.both fun L => L.onChanges fun cs => cs.filter fun x => !sameDesc x.hdr c.hdr).refuseChange l c.what true = none →
    Completes .planCommit s fun t => OnlyLeaves s t ∧ (t.leaf l).crs.changes = [] ∧
      (t.leaf l).crs.due = (s.leaf l).crs.due ++ [c]) ∧
  (∀ (s : State) (l : LeafId), s.leadId = some l → (∀ c ∈ (s.leaf l).crs.changes, c.effect ≠ (s.leaf l).count + 1) →
    exec .planCommit s = .next s) ∧
  (∀ (L : Leaf) (c : Change) (w : RegW) (r : Reg) (i : Nat), L.crs.due = [c] → c.what = .writes [w] → findReg w.off = some (r, i) →
    (plainSetting r = true → routed r = false →
      L.applyDue.word r i = L.fitRws r i (L.word r i)
        (mergeRws r i (L.word r i) ((L.word r i &&& ~~~w.mask) ||| (w.value &&& w.mask))) ∧
      L.applyDue = { L with regs := L.applyDue.regs, crs := { L.crs with due := [] } } ∧ KeepsRegs L L.applyDue [r.addr i]) ∧
    (routed r = true → (r = GCH_CMD → (w.value &&& w.mask).getLsbD 62 = false) → L.applyDue = { L with crs := { L.crs with
      due := [], cmds := L.crs.cmds ++ [({ w with value := w.value &&& w.mask }, c.hdr)] } }) ∧
    (r = GCH_CMD → (w.value &&& w.mask).getLsbD 62 = true →
      L.applyDue = ({ L with crs := { L.crs with due := [], cmds := if (w.value &&& w.mask).getLsbD 63 then
        L.crs.cmds ++ [({ w with value := setField (w.value &&& w.mask) 62 62 0 }, c.hdr)] else L.crs.cmds } } : Leaf).discardEvent
        w.off 0 1 w.value.toNat w.mask.toNat)) ∧
  (∀ (L : Leaf) (c : Change) (b i k : Nat) (t : CoefTable), L.crs.due = [c] → c.what = .table b i k →
    pick (L.inst b i).bank k = some t →
    (L.applyDue.inst b i).active = k ∧ (L.applyDue.inst b i).form = startForm t ∧ (L.applyDue.inst b i).disarmed = 64 ∧
      (L.applyDue.inst b i).x1 = (L.inst b i).x1 ∧ (L.applyDue.inst b i).y1 = clampInt (outMin t) (outMax t) (L.inst b i).y1 ∧
      L.applyDue.regs = L.regs) ∧
  (∀ (L : Leaf) (c : Change) (d : Slot), L.crs.due = [c] → c.what = .testStart d → sl d 17 1 < 4 →
    L.applyDue.get (tsState (sl d 17 1)) = 2 ∧ L.applyDue.get (tsAbort (sl d 17 1)) = 0 ∧
      (pick L.applyDue.cmp.tests (sl d 17 1)).desc = d ∧ (pick L.applyDue.cmp.tests (sl d 17 1)).start = L.count) ∧
  (∀ (L : Leaf) (c : Change) (k : Fin 4), L.crs.due = [c] → c.what = .testStop k →
    (2 ≤ L.get (tsState k) → L.get (tsState k) ≤ 4 → L.applyDue.get (tsState k) = 5 ∧ L.applyDue.get (tsAbort k) = 1 ∧
      (pick L.applyDue.cmp.tests k).downAt = some L.count) ∧
    (L.get (tsState k) = 1 → L.applyDue.get (tsState k) = 7 ∧ L.applyDue.get (tsAbort k) = 1)) ∧
  (∀ (L : Leaf) (c : Change) (d : Slot), L.crs.due = [c] → c.what = .captureStart d → sl d 17 1 < 4 →
    (pick L.applyDue.cmp.caps (sl d 17 1)).desc = d ∧ pick L.applyDue.cmp.buffers (sl d 17 1) = [] ∧
    L.applyDue.get (capState (sl d 17 1)) = (if cdTrig d = 0 then 3 else if 0 < cdPre d ∧ 2 ≤ cdTrig d then 2 else 1) ∧
    (cdTrig d = 0 → (pick L.applyDue.cmp.caps (sl d 17 1)).triggered = some L.count))

/-- Correlation windows and captures (R115, R117, R119 to R122): the last point of a test ends in its ramp down, a window lost
once is repeated and lost twice fails the test; a capture waits for its trigger, gathers its courses, is stopped, and is read
out. Where the spec leaves a choice the statement rests on the model's readings of log entries 46 and 47. -/
def Obligations.correlation_and_capture : Prop :=
  (∀ (s : State) (l : LeafId) (k : Fin 4) (ia qa ib qb : Int), (s.leaf l).get (tsState k) = 4 →
    (pick (s.leaf l).cmp.tests k).window ≤ since (s.leaf l).count (pick (s.leaf l).cmp.tests k).winFrom →
    tdSweep (pick (s.leaf l).cmp.tests k).desc = false → (s.leaf l).get (tsPoint k) = 0 →
    Completes (.correlationWindowEnd l k ia qa ib qb false) s fun t => OnlyLeaf l s t ∧ (t.leaf l).get (tsState k) = 5 ∧
      (pick (t.leaf l).cmp.tests k).downAt = some (s.leaf l).count) ∧
  (∀ (s : State) (l : LeafId) (k : Fin 4) (ia qa ib qb : Int), (s.leaf l).get (tsState k) = 4 →
    (pick (s.leaf l).cmp.tests k).window ≤ since (s.leaf l).count (pick (s.leaf l).cmp.tests k).winFrom →
    (pick (s.leaf l).cmp.tests k).repeated = true →
    Completes (.correlationWindowEnd l k ia qa ib qb true) s fun t => OnlyLeaf l s t ∧ (t.leaf l).get (tsState k) = 7 ∧
      (t.leaf l).get (tsAbort k) = 5) ∧
  (∀ (s : State) (l : LeafId) (k : Fin 4) (v th : Int) (ev : Nat), (s.leaf l).computing = true → (s.leaf l).get (capState k) = 1 →
    cdTrig (pick (s.leaf l).cmp.caps k).desc = 3 → th = signed 32 (sl (pick (s.leaf l).cmp.caps k).desc 24 4) → th ≤ v →
    (∃ p, (pick (s.leaf l).cmp.caps k).last = some p ∧ p < th) →
    Completes (.captureTrigger l k v ev) s fun t => OnlyLeaf l s t ∧ (t.leaf l).get (capState k) = 3 ∧
      (pick (t.leaf l).cmp.caps k).triggered = some (s.leaf l).count) ∧
  (∀ (s : State) (l : LeafId) (k : Fin 4) (times : List Int), (s.leaf l).computing = true → (s.leaf l).get (capState k) = 3 →
    (s.leaf l).get ASH_STAT_SHED < 2 →
    since (s.leaf l).count (pick (s.leaf l).cmp.caps k).start % cdEvery (pick (s.leaf l).cmp.caps k).desc ≠ 0 →
    Completes (.captureRow l k times) s fun t => OnlyLeaf l s t ∧
      (pick (t.leaf l).cmp.caps k).n = (pick (s.leaf l).cmp.caps k).n + 1 ∧ (t.leaf l).regs = (s.leaf l).regs) ∧
  (∀ (s : State) (l : LeafId) (d : Desc) (L : Leaf) (h : Hdr), Reads (s.leaf l) 3 0x02 d L h → sl d.bytes 17 1 < 4 →
    L.get (capState (sl d.bytes 17 1)) = 3 →
    Completes (.captureStop l d) s fun t => OnlyLeaf l s t ∧ (t.leaf l).get (capState (sl d.bytes 17 1)) = 7 ∧
      pick (t.leaf l).cmp.buffers (sl d.bytes 17 1) = pick L.cmp.buffers (sl d.bytes 17 1)) ∧
  (∀ (s : State) (l : LeafId) (d : Desc) (L : Leaf) (h : Hdr), Reads (s.leaf l) 3 0x03 d L h → sl d.bytes 17 1 < 4 →
    L.get (capState (sl d.bytes 17 1)) = 5 → sl d.bytes 24 4 ≠ 0 →
    sl d.bytes 20 4 + sl d.bytes 24 4 ≤ (pick L.cmp.buffers (sl d.bytes 17 1)).length →
    Completes (.captureRead l d) s fun t => OnlyLeaf l s t ∧ (t.leaf l).get (capState (sl d.bytes 17 1)) = 6 ∧
      (t.leaf l).cmp.readout = some (sl d.bytes 17 1, sl d.bytes 20 4, sl d.bytes 24 4))

/-- Calibration of the converters (R146 to R150, R164): SELFCAL starts a self-calibration in READY and WORKSHOP and is
discarded with an event in CARRY; a converter inside the limits takes the measured gain and offset; at the end the next course
of every port is marked FIRST; a step of the rotation takes the oldest active converter and the oldest free spare, the
calibrated spare takes the port in course 96, and once the comparison is inside CAL_TOL the step ends with the active
converter back and the spare free. Where the spec leaves a choice the statement rests on the model's readings of log entry 49. -/
def Obligations.calibration : Prop :=
  (∀ (s : State) (l : LeafId) (who : Ident), s.setup = true → (s.leaf l).get SNS_STAT_CAL_BUSY = 0 → (s.leaf l).sns.step = none →
    Completes (.selfcal l who) s fun t => OnlyLeaf l s t ∧ (t.leaf l).get SNS_STAT_CAL_BUSY = 1 ∧
      t.leaf l = { s.leaf l with regs := (t.leaf l).regs } ∧ KeepsRegs (s.leaf l) (t.leaf l) [SNS_STAT.addr 0]) ∧
  (∀ (s : State) (l : LeafId) (who : Ident) (st : Recal), s.setup = true → (s.leaf l).get SNS_STAT_CAL_BUSY = 0 →
    (s.leaf l).sns.step = some st →
    Completes (.selfcal l who) s fun t => OnlyLeaf l s t ∧ (t.leaf l).get SNS_STAT_CAL_BUSY = 1 ∧ (t.leaf l).sns.step = none) ∧
  (∀ (s : State) (l : LeafId) (who : Ident), s.mode = .carry →
    Completes (.selfcal l who) s fun t => OnlyLeaf l s t ∧ KeepsRegs (s.leaf l) (t.leaf l) reportRegs ∧
      t.leaf l = { s.leaf l with regs := (t.leaf l).regs, hre := (t.leaf l).hre }) ∧
  (∀ (s : State) (l : LeafId) (res : List CalRes), (s.leaf l).get SNS_STAT_CAL_BUSY ≠ 0 →
    Completes (.selfcalComplete l res) s fun t => OnlyLeaf l s t ∧ (t.leaf l).get SNS_STAT_CAL_BUSY = 0 ∧
      (t.leaf l).get SNS_STAT_CAL_DONE = 1 ∧ (t.leaf l).sns.step = none ∧ (t.leaf l).sns.stepEnd = (s.leaf l).count ∧
      (∀ p, p < 36 → (pick (t.leaf l).sns.ports p).first = true) ∧ (∀ k, k < 4 → (pick (t.leaf l).sns.paccs k).first = true)) ∧
  (∀ (s : State) (l : LeafId) (r : CalRes), (s.leaf l).get SNS_STAT_CAL_BUSY ≠ 0 → (s.leaf l).get SNS_CONV_STATE r.conv ≠ 3 →
    calOk r.first = true →
    Completes (.selfcalComplete l [r]) s fun t => (t.leaf l).get SNS_STAT_CAL_FAIL = 0 ∧
      (t.leaf l).get SNS_CONV_GAIN r.conv = r.first.gain ∧ (t.leaf l).get SNS_CONV_CAL_AGE r.conv = 0 ∧
      signed 16 ((t.leaf l).get SNS_CONV_OFFSET r.conv) = r.first.offset) ∧
  (∀ (s : State) (l : LeafId) (n sp : Nat), s.mode = .ready ∨ s.mode = .carry → (s.leaf l).computing = true →
    (s.leaf l).get SNS_STAT_CAL_BUSY = 0 → (s.leaf l).sns.step = none →
    (s.leaf l).get SNS_CTRL_CAL_GAP ≤ since (s.leaf l).count (s.leaf l).sns.stepEnd →
    n < 40 → (s.leaf l).get SNS_CONV_STATE n = 0 → (s.leaf l).get SNS_CONV_PORT n < 36 →
    (pick (s.leaf l).sns.ports ((s.leaf l).get SNS_CONV_PORT n)).settle = 0 →
    (s.leaf l).refFault (pick (s.leaf l).sns.ports ((s.leaf l).get SNS_CONV_PORT n)).ref = false →
    (pick (s.leaf l).sns.ports ((s.leaf l).get SNS_CONV_PORT n)).ref = (s.leaf l).get SNS_PCFG_REF ((s.leaf l).get SNS_CONV_PORT n) →
    sp ∈ (s.leaf l).freeSpares →
    Completes (.recalStepStart l) s fun t => OnlyLeaf l s t ∧ (t.leaf l).get SNS_STAT_ROT_PHASE = 1 ∧
      ∃ a b, (t.leaf l).sns.step = some { start := (s.leaf l).count, conv := a, spare := b, port := (s.leaf l).get SNS_CONV_PORT a } ∧
        (s.leaf l).get SNS_CONV_STATE a = 0 ∧ b ∈ (s.leaf l).freeSpares ∧ (t.leaf l).get SNS_CONV_STATE b = 2) ∧
  (∀ (s : State) (l : LeafId) (cal : CalRes) (a b : Int) (st : Recal), (s.leaf l).sns.step = some st →
    (s.leaf l).overlapDue st 96 = true → cal.conv.val = st.spare → st.spare ≠ st.conv → st.conv < 40 → st.port < 36 →
    (s.leaf l).get SNS_STAT_ROT_PHASE = 1 → (s.leaf l).get SNS_CONV_STATE cal.conv ≠ 3 → calOk cal.first = true →
    Completes (.recalFirstOverlap l cal a b) s fun t => OnlyLeaf l s t ∧ (t.leaf l).get SNS_STAT_ROT_PHASE = 2 ∧
      (pick (t.leaf l).sns.ports st.port).conv = some st.spare ∧
      (t.leaf l).sns.step = some { st with firstBad := decide (((s.leaf l).get SNS_CTRL_CAL_TOL : Int) < ((a - b).natAbs : Int)) } ∧
      (t.leaf l).get SNS_CONV_GAIN cal.conv = cal.first.gain) ∧
  (∀ (s : State) (l : LeafId) (cal : CalRes) (a b : Int) (st : Recal), (s.leaf l).sns.step = some st →
    (s.leaf l).overlapDue st (if st.again then 290 else 193) = true → cal.conv.val = st.conv → st.passed = false →
    (s.leaf l).get SNS_STAT_ROT_PHASE = 2 → (s.leaf l).get SNS_CONV_STATE cal.conv ≠ 3 → calOk cal.first = true →
    ((a - b).natAbs : Int) ≤ (s.leaf l).get SNS_CTRL_CAL_TOL →
    Completes (.recalSecondOverlap l cal a b) s fun t => OnlyLeaf l s t ∧ (t.leaf l).get SNS_STAT_ROT_PHASE = 3 ∧
      (t.leaf l).sns.step = some { st with passed := true } ∧ (t.leaf l).get SNS_CONV_GAIN cal.conv = cal.first.gain) ∧
  (∀ (s : State) (l : LeafId) (st : Recal), (s.leaf l).sns.step = some st → st.passed = true → st.port < 36 →
    st.conv < 40 → st.spare < 40 → st.spare ≠ st.conv →
    (if st.again then 291 else 194) ≤ since (s.leaf l).count st.start →
    Completes (.recalStepEnd l) s fun t => OnlyLeaf l s t ∧ (t.leaf l).sns.step = none ∧
      (t.leaf l).sns.stepEnd = (s.leaf l).count ∧ (t.leaf l).get SNS_STAT_ROT_PHASE = 0 ∧
      (pick (t.leaf l).sns.ports st.port).conv = some st.conv ∧ (t.leaf l).get SNS_CONV_STATE st.conv = 0 ∧
      (t.leaf l).get SNS_CONV_STATE st.spare = 1 ∧ (t.leaf l).get SNS_CONV_PORT st.spare = 63)

/-- Fast trips and the comparators' tests (R154, R157, R229, R240): an input outside the window of a port's comparator turns
off the switch of the pair that is on, softly, as a fault of its leg; the trip of SP12 counts a try on every pair that heeds
the leaf; inside the window nothing changes; a comparator that fails its test twice is masked. Where the spec leaves a choice
the statement rests on the model's readings of log entries 2 and 50. -/
def Obligations.fast_trips : Prop :=
  (∀ (s : State) (l : LeafId) (port : Fin 36) (mv : Int) (tick : Fin 4000), (s.leaf l).tripped port mv = false →
    exec (.fastTrip l port mv tick) s = .next s) ∧
  (∀ (s : State) (l : LeafId) (port : Fin 36) (mv : Int) (tick : Fin 4000) (e : Nat), (s.leaf l).tripped port mv = true →
    port.val < 12 → e = 6 * (port.val / 3) + 2 * (port.val % 3) → s.pairHeeds e l = true →
    (s.chan e).gate = true → (s.chan (e + 1)).gate = false → (s.chan e).st ≠ .noBias → (s.chan e).st ≠ .unused →
    Completes (.fastTrip l port mv tick) s fun t => OnlyChans s t ∧ (t.chan e).gate = false ∧ (t.chan e).soft = true ∧
      (t.chan e).acc.fault.getLsbD 1 = true ∧ ∀ j, 24 ≤ j → t.chan j = s.chan j) ∧
  (∀ (s : State) (l : LeafId) (port : Fin 36) (mv : Int) (tick : Fin 4000), (s.leaf l).tripped port mv = true →
    port.val = 12 →
    Completes (.fastTrip l port mv tick) s fun t => OnlyChans s t ∧ ∀ k, k < 24 →
      (s.pairHeeds (2 * k) l = true → (s.chan (2 * k)).st = .run → (s.chan (2 * k)).acc.fault.getLsbD 7 = false →
        (s.chan (2 * k + 1)).st = .run →
        (t.chan (2 * k)).acc.fault.getLsbD 7 = true ∧ (t.chan (2 * k)).ovhw = true ∧
          ((t.chan (2 * k)).st = .wait ∨ (t.chan (2 * k)).st = .latched) ∧
          (t.chan (2 * k)).tries = (if (s.chan (2 * k)).winFrom.isSome then (s.chan (2 * k)).tries else 0) + 1) ∧
      (s.pairHeeds (2 * k) l = false → t.chan (2 * k) = s.chan (2 * k) ∧ t.chan (2 * k + 1) = s.chan (2 * k + 1))) ∧
  (∀ (s : State) (l : LeafId) (port : Fin 36), port.val ≤ 18 ∨ port.val = 30 → (s.leaf l).sending = false →
    (pick (s.leaf l).sns.comps port).masked = false → (pick (s.leaf l).sns.comps port).failedOnce = false →
    Completes (.ftTest l port true) s fun t => OnlyLeaf l s t ∧ (t.leaf l).regs = (s.leaf l).regs ∧
      pick (t.leaf l).sns.comps port = { pick (s.leaf l).sns.comps port with testAt := some (s.leaf l).count }) ∧
  (∀ (s : State) (l : LeafId) (port : Fin 36), port.val ≤ 18 ∨ port.val = 30 → (s.leaf l).sending = false →
    (pick (s.leaf l).sns.comps port).masked = false → (pick (s.leaf l).sns.comps port).failedOnce = true →
    Completes (.ftTest l port false) s fun t => OnlyLeaf l s t ∧ (pick (t.leaf l).sns.comps port).masked = true ∧
      (t.leaf l).get SNS_FLT_FT_FAIL = 1)

/-- A position unit (R176 to R178, R183 to R188, R195, R196, R198): a held change of A and B moves POS and TRAVEL by one step,
with the time it began; a quadrature error is counted and moves nothing; ARM awaits the next index; a probe that finds the
rotor gives the count its value; a first index loads the count, one within INDEX_TOL loads it again, one outside makes the
index pending; a second missing index is an encoder fault; a supply fault is reported once; a write of 1s clears POS_FLT where
the sets are idle. Where the spec leaves a choice the statement rests on the model's readings of log entries 2, 51 and 52. -/
def Obligations.position_units : Prop :=
  (∀ (s : State) (l : LeafId) (port : Fin 2) (forward : Bool) (began : Fine) (held : Nat), (s.leaf l).get POS_CFG_FILT port ≤ held →
    Completes (.encoderEdge l port forward began held) s fun t => OnlyLeaf l s t ∧
      (pick (t.leaf l).pos port).pos = (pick (s.leaf l).pos port).pos +
        (if forward = (s.leaf l).on POS_CFG_DIR port then -1 else 1) ∧
      (pick (t.leaf l).pos port).travel = (pick (s.leaf l).pos port).travel +
        (if forward = (s.leaf l).on POS_CFG_DIR port then -1 else 1) ∧
      (pick (t.leaf l).pos port).edgeFine = began ∧ (pick (t.leaf l).pos port).edges = (pick (s.leaf l).pos port).edges + 1 ∧
      (t.leaf l).get POS_STAT_STILL port = 0 ∧
      (t.leaf l).get POS_STAT_REV port = bit (forward == (s.leaf l).on POS_CFG_DIR port) ∧
      KeepsRegs (s.leaf l) (t.leaf l) [POS_STAT.addr port] ∧ ∀ q, q ≠ port.val → pick (t.leaf l).pos q = pick (s.leaf l).pos q) ∧
  (∀ (s : State) (l : LeafId) (port : Fin 2) (forward : Bool) (began : Fine) (held : Nat), held < (s.leaf l).get POS_CFG_FILT port →
    exec (.encoderEdge l port forward began held) s = .next s) ∧
  (∀ (s : State) (l : LeafId) (port : Fin 2),
    Completes (.quadratureError l port) s fun t => OnlyLeaf l s t ∧
      (t.leaf l).get POS_CNT_QERR port = min ((s.leaf l).get POS_CNT_QERR port + 1) POS_CNT_QERR.max ∧
      (t.leaf l).pos = (s.leaf l).pos ∧ KeepsRegs (s.leaf l) (t.leaf l) [POS_CNT.addr port]) ∧
  (∀ (s : State) (l : LeafId) (port : Fin 2) (uvw : BitVec 3) (began : Fine) (held : Nat),
    (s.leaf l).get POS_CFG_UVW_FILT port * 16 ≤ held → (s.leaf l).get POS_STAT_UVW port ≠ uvw.toNat →
    (s.leaf l).get POS_CFG_UVW_EN port = 0 →
    Completes (.uvwEdge l port uvw began held) s fun t => OnlyLeaf l s t ∧ (t.leaf l).get POS_STAT_UVW port = uvw.toNat ∧
      (pick (t.leaf l).pos port).pos = (pick (s.leaf l).pos port).pos ∧
      (pick (t.leaf l).pos port).sector = sectorOf uvw.toNat ∧ KeepsRegs (s.leaf l) (t.leaf l) [POS_STAT.addr port]) ∧
  (∀ (s : State) (l : LeafId) (port : Fin 2) (uvw : BitVec 3) (began : Fine) (held : Nat),
    (s.leaf l).get POS_CFG_UVW_FILT port * 16 ≤ held → (s.leaf l).get POS_STAT_UVW port ≠ uvw.toNat →
    (s.leaf l).get POS_CFG_UVW_EN port ≠ 0 → (s.leaf l).get POS_FLT_UVW_FAULT port = 0 → sectorOf uvw.toNat = none →
    Completes (.uvwEdge l port uvw began held) s fun t => OnlyLeaf l s t ∧
      (t.leaf l).get POS_CNT_UVW_TRANS port = min ((s.leaf l).get POS_CNT_UVW_TRANS port + 1) POS_CNT_UVW_TRANS.max ∧
      (pick (t.leaf l).pos port).pos = (pick (s.leaf l).pos port).pos ∧
      ((pick (s.leaf l).pos port).uvwSkip = true → (t.leaf l).get POS_FLT_UVW_FAULT port = 1)) ∧
  (∀ (s : State) (l : LeafId) (port : Fin 2), s.setup = true →
    Completes (.arm l port true) s fun t => OnlyLeaf l s t ∧ (t.leaf l).get POS_STAT_ARMED port = 1 ∧
      (pick (t.leaf l).pos port).seen = false ∧ (pick (t.leaf l).pos port).pos = (pick (s.leaf l).pos port).pos ∧
      KeepsRegs (s.leaf l) (t.leaf l) [POS_STAT.addr port]) ∧
  (∀ (s : State) (l : LeafId) (port : Fin 2), s.mode = .carry →
    Completes (.arm l port true) s fun t => OnlyLeaf l s t ∧ (t.leaf l).pos = (s.leaf l).pos ∧
      KeepsRegs (s.leaf l) (t.leaf l) reportRegs) ∧
  (∀ (s : State) (l : LeafId) (port : Fin 2) (ratio pol : Nat) (count : BitVec 32) (c : Course),
    (pick (s.leaf l).pos port).probe = some c → 24 ≤ since (s.leaf l).count c →
    (ratio < 100 + (s.leaf l).get POS_OBS_PROBE_RATIO port ∨ pol < 3) → (pick (s.leaf l).pos port).probeTries = 0 →
    Completes (.probeComplete l port ratio pol count) s fun t => OnlyLeaf l s t ∧ (t.leaf l).regs = (s.leaf l).regs ∧
      (pick (t.leaf l).pos port).probe = some (s.leaf l).count ∧ (pick (t.leaf l).pos port).probeTries = 1) ∧
  (∀ (s : State) (l : LeafId) (port : Fin 2) (ratio pol : Nat) (count : BitVec 32) (c : Course),
    (pick (s.leaf l).pos port).probe = some c → 24 ≤ since (s.leaf l).count c →
    (ratio < 100 + (s.leaf l).get POS_OBS_PROBE_RATIO port ∨ pol < 3) → (pick (s.leaf l).pos port).probeTries ≠ 0 →
    Completes (.probeComplete l port ratio pol count) s fun t => OnlyLeaf l s t ∧ (t.leaf l).get POS_FLT_PROBE_FAIL port = 1 ∧
      (pick (t.leaf l).pos port).probe = none ∧ KeepsRegs (s.leaf l) (t.leaf l) [POS_FLT.addr port]) ∧
  (∀ (s : State) (l : LeafId) (port : Fin 2) (a b : Bool) (held : Nat), (s.leaf l).get POS_CFG_FILT port ≤ held →
    zQualified ((s.leaf l).get POS_CFG_Z_QUAL port) a b = true → (s.leaf l).get POS_CFG_INDEX_MODE port = 0 →
    (pick (s.leaf l).pos port).seen = false → (s.leaf l).get POS_STAT_INDEX_PENDING port = 0 →
    (s.leaf l).get POS_CFG_UVW_EN port = 0 → (s.leaf l).get POS_FLT_ENC_FAULT port = 0 →
    Completes (.index l port a b held) s fun t => OnlyLeaf l s t ∧ (pick (t.leaf l).pos port).pos = 0 ∧
      (pick (t.leaf l).pos port).travel = (pick (s.leaf l).pos port).travel ∧ (pick (t.leaf l).pos port).seen = true ∧
      (t.leaf l).get POS_IDX_IDX_COUNT port = (pick (s.leaf l).pos port).pos.toNat ∧ 4 ≤ (t.leaf l).get POS_STAT_REF port) ∧
  (∀ (s : State) (l : LeafId) (port : Fin 2) (a b : Bool) (held : Nat), (s.leaf l).get POS_CFG_FILT port ≤ held →
    zQualified ((s.leaf l).get POS_CFG_Z_QUAL port) a b = true → (s.leaf l).get POS_CFG_INDEX_MODE port = 0 →
    (pick (s.leaf l).pos port).seen = true → (s.leaf l).get POS_STAT_INDEX_PENDING port = 0 →
    ((s.leaf l).indexError port (pick (s.leaf l).pos port).pos.toInt).natAbs ≤ (s.leaf l).get POS_CFG_INDEX_TOL port →
    Completes (.index l port a b held) s fun t => OnlyLeaf l s t ∧ (pick (t.leaf l).pos port).pos = 0 ∧
      (pick (t.leaf l).pos port).ref = 0 ∧ (pick (t.leaf l).pos port).misses = 0) ∧
  (∀ (s : State) (l : LeafId) (port : Fin 2) (a b : Bool) (held : Nat), (s.leaf l).get POS_CFG_FILT port ≤ held →
    zQualified ((s.leaf l).get POS_CFG_Z_QUAL port) a b = true → (s.leaf l).get POS_CFG_INDEX_MODE port = 0 →
    (pick (s.leaf l).pos port).seen = true → (s.leaf l).get POS_STAT_INDEX_PENDING port = 0 →
    (s.leaf l).get POS_CFG_INDEX_TOL port < ((s.leaf l).indexError port (pick (s.leaf l).pos port).pos.toInt).natAbs →
    Completes (.index l port a b held) s fun t => OnlyLeaf l s t ∧ (t.leaf l).get POS_STAT_INDEX_PENDING port = 1 ∧
      (pick (t.leaf l).pos port).pos = (pick (s.leaf l).pos port).pos ∧
      (pick (t.leaf l).pos port).ref = (pick (s.leaf l).pos port).pos) ∧
  (∀ (s : State) (l : LeafId) (port : Fin 2),
    (s.leaf l).cpr port + (s.leaf l).get POS_CFG_INDEX_TOL port + 8 <
      ((pick (s.leaf l).pos port).pos.toInt - (pick (s.leaf l).pos port).ref.toInt).natAbs →
    (s.leaf l).get POS_CFG_INDEX_MODE port = 0 → (pick (s.leaf l).pos port).misses = 0 →
    Completes (.indexMissing l port) s fun t => OnlyLeaf l s t ∧ (t.leaf l).get POS_STAT_INDEX_PENDING port = 1 ∧
      (pick (t.leaf l).pos port).misses = 1 ∧ (pick (t.leaf l).pos port).pos = (pick (s.leaf l).pos port).pos) ∧
  (∀ (s : State) (l : LeafId) (port : Fin 2),
    (s.leaf l).cpr port + (s.leaf l).get POS_CFG_INDEX_TOL port + 8 <
      ((pick (s.leaf l).pos port).pos.toInt - (pick (s.leaf l).pos port).ref.toInt).natAbs →
    (s.leaf l).get POS_CFG_INDEX_MODE port = 0 → 1 ≤ (pick (s.leaf l).pos port).misses →
    Completes (.indexMissing l port) s fun t => OnlyLeaf l s t ∧ (t.leaf l).get POS_FLT_ENC_FAULT port = 1 ∧
      (t.leaf l).get POS_STAT_REF port = 0 ∧ (t.leaf l).get POS_STAT_INDEX_PENDING port = 0) ∧
  (∀ (s : State) (l : LeafId) (port : Fin 2) (reg : LeafId) (n : Nat), 160 ≤ n → (s.leaf l).get POS_FLT_SUPPLY_HALF port = 0 →
    Completes (.supplyHalf l port reg n) s fun t => OnlyLeaf l s t ∧ (t.leaf l).get POS_FLT_SUPPLY_HALF port = 1 ∧
      KeepsRegs (s.leaf l) (t.leaf l) (POS_FLT.addr port :: reportRegs) ∧ (t.leaf l).pos = (s.leaf l).pos) ∧
  (∀ (s : State) (l : LeafId) (port : Fin 2) (reg : LeafId) (n : Nat), n < 160 →
    exec (.supplyHalf l port reg n) s = .next s) ∧
  (∀ (s : State) (l : LeafId) (port : Fin 2) (v : Word) (who : Ident), (s.leaf l).machineIdle port = true →
    Completes (.posFltClear l port v who) s fun t => OnlyLeaf l s t ∧
      (t.leaf l).word POS_FLT port = (s.leaf l).word POS_FLT port &&& ~~~ v ∧
      KeepsRegs (s.leaf l) (t.leaf l) [POS_FLT.addr port])

/-- What a gate channel applies (R216 to R224): a COURSE frame replaces the edges of its course by its own; a CARRIER frame
waits with its values for SEND + 320 fine ticks; both are kept as applied. A damaged frame is counted on its link and changes
nothing else; the second frame of a key from one link is counted as bad too. Where the spec leaves a choice the statement
rests on the model's readings of log entries 53 and 56. -/
def Obligations.gate_frames : Prop :=
  (∀ (s : State) (rx : GateRx), Heard s rx true → kindOf rx.body = 0 → (s.chan rx.chan).mode = 1 →
    Completes (.courseFrame rx) s fun t => OnlyPair rx.chan s t ∧
      (t.chan rx.chan).applied = (s.chan rx.chan).applied ++ [s.appliedBy rx true] ∧
      (t.chan rx.chan).edges = ((s.chan rx.chan).edges.filter fun e => e.1 / 4000 != (s.chan rx.chan).n + 1) ++
        levelEdges (((s.chan rx.chan).n + 1) * 4000) (fb rx.body 48 48 == 1) (edgesOf rx.body) ∧
      (t.chan rx.chan).asc = (fb rx.body 68 68 == 1) ∧
      (t.chan rx.chan).lastValid = some ((s.chan rx.chan).fineOf rx.tick)) ∧
  (∀ (s : State) (rx : GateRx) (next : Bool), Heard s rx next → kindOf rx.body = 1 → (s.chan rx.chan).mode = 2 →
    (s.chan rx.chan).car = none → (s.chan rx.chan).fineOf rx.tick < ((s.chan rx.chan).n + bit next) * 4000 + fb rx.body 51 40 + 320 →
    Completes (.carrierFrame rx) s fun t => OnlyPair rx.chan s t ∧
      (t.chan rx.chan).applied = (s.chan rx.chan).applied ++ [s.appliedBy rx next] ∧
      (t.chan rx.chan).carNext = some (⟨fb rx.body 69 69 == 1, fb rx.body 39 27, fb rx.body 26 14, fb rx.body 13 1⟩, ((s.chan rx.chan).n + bit next) * 4000 + fb rx.body 51 40 + 320) ∧
      (t.chan rx.chan).fedCar = true) ∧
  (∀ (s : State) (rx : GateRx), Damaged s rx →
    exec (.courseFrame rx) s = .next (s.setChan rx.chan ((s.chan rx.chan).badFrame rx.link)) ∧
    exec (.carrierFrame rx) s = .next (s.setChan rx.chan ((s.chan rx.chan).badFrame rx.link)) ∧
    exec (.maintNop rx) s = .next (s.setChan rx.chan ((s.chan rx.chan).badFrame rx.link)) ∧
    exec (.maintWrite rx) s = .next (s.setChan rx.chan ((s.chan rx.chan).badFrame rx.link)) ∧
    exec (.maintRead rx) s = .next (s.setChan rx.chan ((s.chan rx.chan).badFrame rx.link)) ∧
    exec (.maintClear rx) s = .next (s.setChan rx.chan ((s.chan rx.chan).badFrame rx.link)) ∧
    exec (.maintLower rx) s = .next (s.setChan rx.chan ((s.chan rx.chan).badFrame rx.link))) ∧
  (∀ (s : State) (rx : GateRx) (a : Applied), (pick (s.chan rx.chan).tb rx.link.num).lost = false → rx.delim = 0xE7#8 →
    bodyCrc rx.body = rx.crc.toNat → fieldsOk rx.body = true → kindOf rx.body = 0 → (s.chan rx.chan).mode = 1 →
    BitVec.ofNat 16 (fb rx.body 67 52) = (pick (s.chan rx.chan).tb rx.link.num).tag →
    (s.chan rx.chan).applied = [a] → (a.kind, a.key) = keyOf rx.body → a.course = (s.chan rx.chan).n → a.link = rx.link →
    Completes (.courseFrame rx) s fun t => OnlyChans s t ∧
      (t.chan rx.chan).acc = ((s.chan rx.chan).badFrame rx.link).acc ∧ (t.chan rx.chan).applied = [a] ∧
      (t.chan rx.chan).edges = (s.chan rx.chan).edges ∧ ∀ j, j ≠ rx.chan.val → t.chan j = s.chan j)

/-- MAINT frames (R218): a WRITE, a CLEAR and a LOWER wait for the boundary that begins their course, or the next where it has
begun; a NOP does nothing more; a READ of the present course gives the item in its STATUS frame; a TEST of the present course
that could run is reported in it, and its first failure is remembered. Where the spec leaves a choice the statement rests on
the model's readings of log entry 57. -/
def Obligations.gate_maintenance : Prop :=
  (∀ (s : State) (rx : GateRx) (next : Bool), Heard s rx next → kindOf rx.body = 2 →
    Completes (.maintNop rx) s fun t => OnlyPair rx.chan s t ∧
      (t.chan rx.chan).applied = (s.chan rx.chan).applied ++ [s.appliedBy rx next] ∧
      (t.chan rx.chan).maint = (s.chan rx.chan).maint ∧ (t.chan rx.chan).cfg = (s.chan rx.chan).cfg) ∧
  (∀ (s : State) (rx : GateRx) (next : Bool), Heard s rx next →
    (kindOf rx.body = 3 → Completes (.maintWrite rx) s fun t => OnlyPair rx.chan s t ∧
      (t.chan rx.chan).maint = (s.chan rx.chan).maint ++
        [⟨(s.chan rx.chan).n + 1, 1, fb rx.body 47 40, fb rx.body 31 0, rx.link, false, false⟩]) ∧
    (kindOf rx.body = 6 → Completes (.maintClear rx) s fun t => OnlyPair rx.chan s t ∧
      (t.chan rx.chan).maint = (s.chan rx.chan).maint ++
        [⟨(s.chan rx.chan).n + 1, 4, fb rx.body 47 40, fb rx.body 31 0, rx.link, false, false⟩]) ∧
    (kindOf rx.body = 7 → Completes (.maintLower rx) s fun t => OnlyPair rx.chan s t ∧
      (t.chan rx.chan).maint = (s.chan rx.chan).maint ++
        [⟨(s.chan rx.chan).n + 1, 5, fb rx.body 47 40, fb rx.body 31 0, rx.link, false, false⟩])) ∧
  (∀ (s : State) (rx : GateRx), Heard s rx false → kindOf rx.body = 4 →
    Completes (.maintRead rx) s fun t => OnlyPair rx.chan s t ∧ (t.chan rx.chan).acc.ritem = fb rx.body 47 40 ∧
      (t.chan rx.chan).acc.rleaf = rx.link ∧
      (t.chan rx.chan).acc.rdata = (s.chan rx.chan).readItem (s.chan (evenOf rx.chan)) (fb rx.body 47 40)) ∧
  (∀ (s : State) (rx : GateRx), Heard s rx false → kindOf rx.body = 5 → (s.chan rx.chan).maint = [] →
    rx.tick.val < fb rx.body 11 0 → (s.chan rx.chan).gate = false → (s.chan (partnerOf rx.chan)).gate = false →
    (s.chan rx.chan).st = .run → (s.chan rx.chan).cmd = false → (s.chan (partnerOf rx.chan)).st = .run →
    (s.chan (partnerOf rx.chan)).cmd = false →
    (s.chan rx.chan).failedOnce = 0 →
    Completes (.maintTest rx true false) s fun t => OnlyPair rx.chan s t ∧ (t.chan rx.chan).acc.testItem = fb rx.body 47 40 ∧
      (t.chan rx.chan).acc.testRan = true ∧ (t.chan rx.chan).acc.testPass = false ∧
      (t.chan rx.chan).failedOnce = 1#5 <<< fb rx.body 47 40 ∧ (t.chan rx.chan).st = .run)

/-- The edges of a gate channel, the interlock and the loss of frames (R222, R225 to R227, R236): an edge that is due leads to
its level; a channel turned off lets its partner turn on once it reports its gate off; 2 courses without a valid frame lead a
channel in RUN to FALLBACK. Where the spec leaves a choice the statement rests on the model's readings of log entries 2 and
53. -/
def Obligations.gate_edges : Prop :=
  (∀ (s : State) (i : Fin 48) (tick : Fin 4000) (e : Nat × Bool), (s.chan i).car = none → (s.chan i).carNext = none →
    (s.chan i).edges.find? (fun e => e.1 == (s.chan i).fineOf tick) = some e →
    Completes (.gateEdge i tick) s fun t => OnlyPair i s t ∧ (t.chan i).cmd = e.2 ∧
      (e.2 = false → (s.chan i).st = .run → (t.chan i).gate = false) ∧
      (e.2 = true → (s.chan i).st = .run → (s.chan i).bias = true → (s.chan i).soft = false → (s.chan i).ot = false →
        (s.chan i).abandon = false → (s.chan (partnerOf i)).st = .run → (s.chan (partnerOf i)).cmd = false →
        (s.chan (partnerOf i)).gate = false → (s.chan (partnerOf i)).repOff = true → (t.chan i).gate = true) ∧
      (e.2 = true → (s.chan i).st = .run → i.val < 46 → (s.chan i).gate = false → (s.chan (partnerOf i)).st = .run →
        (s.chan (partnerOf i)).cmd = false → (s.chan (partnerOf i)).repOff = false → (t.chan i).gate = false)) ∧
  (∀ (s : State) (i : Fin 48) (tick : Fin 4000), (s.chan i).car = none → (s.chan i).carNext = none →
    (s.chan i).edges.find? (fun e => e.1 == (s.chan i).fineOf tick) = none → exec (.gateEdge i tick) s = .next s) ∧
  (∀ (s : State) (i : Fin 48) (tick : Fin 4000), i.val < 46 → (s.chan i).st = .run → (s.chan i).bias = true →
    (s.chan i).soft = false → (s.chan i).ot = false → (s.chan i).cmd = true → (s.chan i).abandon = false →
    (s.chan (partnerOf i)).st = .run → (s.chan (partnerOf i)).cmd = false → (s.chan (partnerOf i)).gate = false →
    (s.chan i).gate = false →
    Completes (.partnerOffReport i tick) s fun t => OnlyPair i s t ∧ (t.chan i).gate = true ∧ (t.chan i).waitSince = none) ∧
  (∀ (s : State) (i : Fin 48) (tick : Fin 4000), (s.chan i).st = .run →
    (∀ n, (s.chan i).lastValid = some n → n + 8000 ≤ (s.chan i).fineOf tick) →
    Completes (.frameAbsenceTimeout i tick) s fun t => OnlyPair i s t ∧ (t.chan i).st = .fallback ∧ (t.chan i).fed = false ∧
      (t.chan i).edges = [] ∧ (t.chan i).car = none) ∧
  (∀ (s : State) (i : Fin 48) (tick : Fin 4000) (n : Nat), (s.chan i).lastValid = some n →
    (s.chan i).fineOf tick < n + 8000 → exec (.frameAbsenceTimeout i tick) s = .next s)

/-- Faults of a leg and of its pair (R226 to R230, R232, R233, R240): a desaturation turns the switch off softly and sets its
bit; an undervoltage and an interlock that waits 256 fine ticks set theirs; a soft turn-off ends below the threshold or after
3 µs; overtemperature holds both switches off until 160 courses 10 °C below the limit; WAIT ends in RUN or FALLBACK, or counts
another try where the cause stands; a release of OV_HW ends the wait of the pairs it holds; a try window that ends clears the
tries. Where the spec leaves a choice the statement rests on the model's readings of log entries 2 and 54. -/
def Obligations.pair_faults : Prop :=
  (∀ (s : State) (i : Fin 48) (tick : Fin 4000) (mv samples : Nat), (s.chan i).gate = true →
    (s.chan i).onAt + (s.chan i).cfgField GCH_CFG_BLANK * 8 ≤ (s.chan i).fineOf tick → 2 ≤ samples →
    (s.chan i).dsatThreshold < (mv : Int) * 10 → (s.chan i).st ≠ .noBias → (s.chan i).st ≠ .unused →
    Completes (.desaturation i tick mv samples) s fun t => OnlyChans s t ∧ (t.chan i).gate = false ∧ (t.chan i).soft = true ∧
      (t.chan i).acc.fault.getLsbD 0 = true ∧ (t.chan i).faulted = some (s.chan (evenOf i)).n) ∧
  (∀ (s : State) (i : Fin 48) (tick : Fin 4000) (mv samples : Nat),
    samples < 2 ∨ (mv : Int) * 10 ≤ (s.chan i).dsatThreshold ∨ (s.chan i).gate = false →
    exec (.desaturation i tick mv samples) s = .next s) ∧
  (∀ (s : State) (i : Fin 48) (tick : Fin 4000) (vee : Bool) (mv ns : Nat), (s.chan i).bias = true →
    mv < uvApplied (s.chan (evenOf i)) (s.chan (evenOf i + 1)) vee * 100 → 1000 < ns →
    (s.chan i).st ≠ .noBias → (s.chan i).st ≠ .unused →
    Completes (.undervoltage i tick vee mv ns) s fun t => OnlyChans s t ∧
      (t.chan i).acc.fault.getLsbD (if vee then 3 else 2) = true ∧ (t.chan i).faulted = some (s.chan (evenOf i)).n) ∧
  (∀ (s : State) (i : Fin 48) (tick : Fin 4000) (vee : Bool) (mv ns : Nat), (s.chan i).bias = false ∨ ns ≤ 1000 →
    exec (.undervoltage i tick vee mv ns) s = .next s) ∧
  (∀ (s : State) (i : Fin 48) (tick : Fin 4000) (n : Nat), (s.chan i).waitSince = some n →
    max n (s.chan (partnerOf i)).softEnd + 256 ≤ (s.chan i).fineOf tick → (s.chan (partnerOf i)).soft = false →
    Completes (.ilkStall i tick) s fun t => OnlyChans s t ∧ (t.chan i).acc.fault.getLsbD 4 = true ∧
      (t.chan i).abandon = true) ∧
  (∀ (s : State) (i : Fin 48) (tick : Fin 4000), (s.chan i).waitSince = none → exec (.ilkStall i tick) s = .next s) ∧
  (∀ (s : State) (i : Fin 48) (tick : Fin 4000) (below : Bool) (ns : Nat), (s.chan i).soft = true → below = true ∨ 3000 ≤ ns →
    Completes (.softTurnOffEnd i tick below ns) s fun t => OnlyPair i s t ∧ (t.chan i).soft = false ∧
      (t.chan i).softEnd = (s.chan i).fineOf tick) ∧
  (∀ (s : State) (i : Fin 48) (tick : Fin 4000) (mv samples : Nat) (e : Nat), e = evenOf i → i.val < 24 →
    (s.chan i).gate = true → (s.chan i).onAt + (s.chan i).cfgField GCH_CFG_BLANK * 8 ≤ (s.chan i).fineOf tick → 2 ≤ samples →
    (s.chan i).dsatThreshold < (mv : Int) * 10 → (s.chan e).st = .run → (s.chan (e + 1)).st = .run →
    (∀ j, j < 24 → (s.chan j).lastFault ≠ some (s.chan e).n) → (s.chan e).winFrom = none →
    Completes (.desaturation i tick mv samples) s fun t => OnlyPair i s t ∧ (t.chan e).tries = 1 ∧ (t.chan e).faults = 1 ∧
      (t.chan e).winFrom = some (s.chan e).n ∧
      (t.chan e).st = (if (s.chan e).protField GCH_PROT_TRIES ≤ 1 then .latched else .wait) ∧
      (t.chan (e + 1)).st = (t.chan e).st) ∧
  (∀ (s : State) (i : Fin 48) (tick : Fin 4000) (degC : Int),
    ((s.chan (evenOf i)).protField GCH_PROT_OT_LIM : Int) < degC →
    Completes (.overtemperature i tick degC) s fun t => OnlyPair i s t ∧ (t.chan (evenOf i)).ot = true ∧
      (t.chan (evenOf i + 1)).ot = true ∧ (t.chan i).acc.fault.getLsbD 5 = true ∧
      (t.chan i).st = (s.chan i).st ∧ (t.chan (evenOf i)).tries = (s.chan (evenOf i)).tries ∧
      ((s.chan i).st = .run → (t.chan i).gate = false)) ∧
  (∀ (s : State) (i : Fin 48) (degC : Int) (courses : Nat), (s.chan (evenOf i)).ot = true → 160 ≤ courses →
    degC + 10 ≤ ((s.chan (evenOf i)).protField GCH_PROT_OT_LIM : Int) →
    Completes (.overtemperatureRelease i degC courses) s fun t => OnlyPair i s t ∧ (t.chan (evenOf i)).ot = false ∧
      (t.chan (evenOf i + 1)).ot = false) ∧
  (∀ (s : State) (i : Fin 48) (degC : Int) (courses : Nat), courses < 160 →
    exec (.overtemperatureRelease i degC courses) s = .next s) ∧
  (∀ (s : State) (p : Fin 24), (s.chan (2 * p)).st = .wait → (s.chan (2 * p)).ovhw = false →
    (s.chan (2 * p)).waitTill ≤ (s.chan (2 * p)).n →
    (Completes (.waitExpiry p true) s fun t => OnlyPair (2 * p) s t ∧
      (t.chan (2 * p)).st = (if (s.chan (2 * p)).meetsFrames then .run else .fallback) ∧
      (t.chan (2 * p)).tries = (s.chan (2 * p)).tries) ∧
    (Completes (.waitExpiry p false) s fun t => OnlyPair (2 * p) s t ∧
      (t.chan (2 * p)).tries = (if (s.chan (2 * p)).winFrom.isSome then (s.chan (2 * p)).tries else 0) + 1 ∧
      ((t.chan (2 * p)).st = .wait ∨ (t.chan (2 * p)).st = .latched))) ∧
  (∀ (s : State) (p : Fin 24) (gone : Bool), (s.chan (2 * p)).n < (s.chan (2 * p)).waitTill →
    exec (.waitExpiry p gone) s = .next s) ∧
  (∀ (s : State) (a b : Bool), Completes (.ovHwRelease a b) s fun t => OnlyChans s t ∧ ∀ p, p < 24 →
    ((s.chan (2 * p)).ovhw = true → (s.chan (2 * p)).st = .wait →
      (a = true ∨ (s.chan (2 * p)).heeds .leaf0 = false) → (b = true ∨ (s.chan (2 * p)).heeds .leaf1 = false) →
      (t.chan (2 * p)).ovhw = false ∧
        (t.chan (2 * p)).st = (if (s.chan (2 * p)).meetsFrames then .run else .fallback)) ∧
    ((s.chan (2 * p)).ovhw = false → t.chan (2 * p) = s.chan (2 * p))) ∧
  (∀ (s : State) (p : Fin 24) (n : Nat), (s.chan (2 * p)).winFrom = some n → n + 160000 ≤ (s.chan (2 * p)).n →
    (s.chan (2 * p)).st ≠ .latched → (s.chan (2 * p + 1)).st ≠ .latched →
    Completes (.tryWindowEnd p) s fun t => t = { s with chans := t.chans, leaf0 := t.leaf0, leaf1 := t.leaf1 } ∧
      t.chan (2 * p) = { s.chan (2 * p) with winFrom := none, tries := 0, faults := 0 } ∧
      (∀ j, j ≠ 2 * p.val → t.chan j = s.chan j) ∧ ∀ l : LeafId,
        (t.leaf l).get GCH_CNT_TRANS (2 * p) =
          min ((s.leaf l).get GCH_CNT_TRANS (2 * p) + (s.chan (2 * p)).faults) GCH_CNT_TRANS.max ∧
        KeepsRegs (s.leaf l) (t.leaf l) [GCH_CNT.addr (2 * p)])

/-- Bias and straps of the gate channels (R211, R212, R237, R247): a rail below 19.0 V for 2 µs takes the bias of its group's
channels, which go off and to NO_BIAS, and shows in GCH_BG; a rail above 20.0 V for 10 ms brings it back; a winding lost takes
one channel's bias; the low-voltage input is the source whenever it holds 21.0 V; a strap that has been read takes a channel
from NO_BIAS to FALLBACK. Where the spec leaves a choice the statement rests on the model's readings of log entries 2 and 55. -/
def Obligations.gate_bias : Prop :=
  (∀ (s : State) (g : Fin 11) (mv ns : Nat), mv < 19000 → 2000 < ns →
    Completes (.groupLoss g mv ns) s fun t =>
      t = { s with chans := t.chans, groups := t.groups, leaf0 := t.leaf0, leaf1 := t.leaf1 } ∧
      (∀ j, j ∈ groupChans g → (t.chan j).bias = false ∧ (t.chan j).gate = false ∧
        (t.chan j).st = (if (s.chan j).st = .unused then .unused else .noBias)) ∧
      (∀ j, j ∉ groupChans g → t.chan j = s.chan j) ∧ (pick t.groups g).bias = false ∧
      ∀ l : LeafId, (t.leaf l).get GCH_BG_FLT g = 1 ∧ (t.leaf l).get GCH_BG_RAIL g = mv / 200 ∧
        KeepsRegs (s.leaf l) (t.leaf l) [GCH_BG.addr g]) ∧
  (∀ (s : State) (g : Fin 11) (mv ns : Nat), 19000 ≤ mv ∨ ns ≤ 2000 → exec (.groupLoss g mv ns) s = .next s) ∧
  (∀ (s : State) (g : Fin 11) (mv us : Nat) (src : Fin 4), 20000 < mv → mv < 51200 → 10000 ≤ us →
    (pick s.groups g).bias = false →
    Completes (.biasRestored g mv us src) s fun t =>
      (∀ j, j ∈ groupChans g → (s.chan j).winding = true → (t.chan j).bias = true) ∧
      (∀ j, j ∉ groupChans g → t.chan j = s.chan j) ∧ (pick t.groups g).bias = true ∧ (pick t.groups g).src = src ∧
      ∀ l : LeafId, (t.leaf l).get GCH_BG_FLT g = 0 ∧ (t.leaf l).get GCH_BG_SRC g = src ∧
        (t.leaf l).get GCH_BG_RAIL g = mv / 200 ∧ KeepsRegs (s.leaf l) (t.leaf l) [GCH_BG.addr g]) ∧
  (∀ (s : State) (i : Fin 48) (tick : Fin 4000),
    Completes (.windingLoss i tick) s fun t => OnlyPair i s t ∧ (t.chan i).bias = false ∧ (t.chan i).winding = false ∧
      (t.chan i).gate = false ∧ (t.chan i).st = (if (s.chan i).st = .unused then .unused else .noBias)) ∧
  (∀ (s : State) (g : Fin 11) (linkMv lvMv : Nat) (rail load : Byte),
    Completes (.biasSourceChange g linkMv lvMv rail load) s fun t => t.chans = s.chans ∧
      (21000 ≤ lvMv → (pick t.groups g).src = 1) ∧ (lvMv < 21000 → 150000 < linkMv → (pick t.groups g).src = 2) ∧
      (lvMv < 21000 → linkMv < 130000 → (pick t.groups g).src = 0) ∧
      ∀ l : LeafId, (t.leaf l).get GCH_BG_SRC g = (pick t.groups g).src ∧ (t.leaf l).get GCH_BG_RAIL g = rail.toNat ∧
        (t.leaf l).get GCH_BG_LOAD g = load.toNat ∧ KeepsRegs (s.leaf l) (t.leaf l) [GCH_BG.addr g]) ∧
  (∀ (s : State) (i : Fin 48) (ohm courses : Nat), (s.chan i).bias = true → 16 ≤ courses →
    Completes (.strapRead i ohm courses) s fun t => OnlyPair i s t ∧ (t.chan i).strap = strapBand ohm ∧
      (t.chan i).st = (if (s.chan i).st = .noBias then .fallback else (s.chan i).st)) ∧
  (∀ (s : State) (i : Fin 48) (ohm courses : Nat), (s.chan i).bias = false ∨ courses < 16 →
    exec (.strapRead i ohm courses) s = .next s)

/-- Course marks, the STATUS frame, the comparator tests and the clear of a channel (R214, R218, R219, R234, R241, R245): the
mark that goes on from the channel's course begins its next one; a mark missed twice loses the link; the STATUS frame reaches
the leaf whose link carried it; LEAD tests the next channel of its rotation; a clear goes to both channels of the pair. Where
the spec leaves a choice the statement rests on the model's readings of log entries 56 and 57. -/
def Obligations.gate_marks_status_and_tests : Prop :=
  (∀ (s : State) (i : Fin 48) (ch : Fin 51) (l : LeafId) (low : Byte), ch.val = i.val →
    (pick (s.chan i).tb l.num).lost = false → (pick (s.chan i).tb l.num).tag = (s.chan i).cur →
    low.toNat = ((s.chan i).cur + 1).toNat % 256 → (s.chan i).maint = [] →
    Completes (.courseMark ch l true low) s fun t => OnlyPair i s t ∧ (t.chan i).n = (s.chan i).n + 1 ∧
      (t.chan i).cur = (s.chan i).cur + 1 ∧ (t.chan i).due = true ∧ (t.chan i).acc.fault = 0 ∧
      (pick (t.chan i).tb l.num).tag = (s.chan i).cur + 1 ∧ (pick (t.chan i).tb l.num).bad = 0) ∧
  (∀ (s : State) (i : Fin 48) (ch : Fin 51) (l : LeafId) (low : Byte), ch.val = i.val →
    1 ≤ (pick (s.chan i).tb l.num).bad →
    Completes (.courseMark ch l false low) s fun t => OnlyChans s t ∧ (pick (t.chan i).tb l.num).lost = true ∧
      (t.chan i).acc.fault.getLsbD (13 + l.num) = true ∧ (t.chan i).n = (s.chan i).n ∧
      ∀ j, j ≠ i.val → t.chan j = s.chan j) ∧
  (∀ (s : State) (a : Fin 3) (ch : Fin 51) (l : LeafId) (low : Byte), ch.val = 48 + a.val →
    (pick (s.stage a).tb l.num).lost = false → (pick (s.stage a).tb l.num).tag = (s.stage a).cur →
    low.toNat = ((s.stage a).cur + 1).toNat % 256 →
    Completes (.courseMark ch l true low) s fun t => t = { s with stages := t.stages } ∧
      (t.stage a).n = (s.stage a).n + 1 ∧ (t.stage a).cur = (s.stage a).cur + 1 ∧ (t.stage a).due = true ∧
      ∀ b, b ≠ a.val → t.stage b = s.stage b) ∧
  (∀ (s : State) (i : Fin 48) (ok0 ok1 : Bool) (temp vdd2 vee2 : Byte), (s.chan i).due = true →
    Completes (.statusFrame i ok0 ok1 temp vdd2 vee2) s fun t => (t.chan i).due = false ∧ (t.chan i).temp = temp.toNat ∧
      (t.chan i).ended = (s.chan i).ended ||| BitVec.ofNat 160 ((temp.toNat <<< 80) + (vdd2.toNat <<< 72) + (vee2.toNat <<< 64)) ∧
      (∀ j, j ≠ i.val → t.chan j = s.chan j) ∧
      (ok0 = false → t.leaf0 = s.leaf0) ∧ (ok1 = false → t.leaf1 = s.leaf1) ∧
      (ok0 = true → (t.leaf0.gst[i]) = { body := (t.chan i).ended, fresh := true } ∧
        t.leaf0.get GCH_STAT_STATE i = stb (t.chan i).ended 141 138 ∧ t.leaf0.get GCH_STAT_TEMP i = stb (t.chan i).ended 87 80) ∧
      (ok1 = true → (t.leaf1.gst[i]) = { body := (t.chan i).ended, fresh := true } ∧
        t.leaf1.get GCH_STAT_STATE i = stb (t.chan i).ended 141 138 ∧ t.leaf1.get GCH_STAT_TEMP i = stb (t.chan i).ended 87 80)) ∧
  (∀ (s : State) (l : LeafId) (i : Nat), (s.leaf l).role = .lead → (s.leaf l).cut = false →
    (s.leaf l).get GCH_CTRL_TEST_EN ≠ 0 →
    (s.leaf l).get GCH_CTRL_TEST_GAP * 1600 ≤ since (s.leaf l).count (s.leaf l).rot.at_ →
    (∀ j, j < 48 → j = (s.leaf l).rot.last → (s.chan j).failedOnce = 0) → (s.leaf l).nextTested (s.leaf l).rot.last = some i →
    Completes (.gateTestStep l) s fun t => OnlyLeaves { s with fresh := s.fresh + 5 } t ∧
      (∀ m : LeafId, (t.leaf m).rot = { last := i, at_ := (s.leaf m).count, repeatOf := none } ∧
        (t.leaf m).regs = (s.leaf m).regs) ∧
      ∃ v : Nat → Nat, (t.leaf l).out = (s.leaf l).out ++ (List.range 5).map fun k =>
        Out.gate i (maintBody (tagOf (after (s.leaf l).count 1)) 3 k (v k % 4000))) ∧
  (∀ (s : State) (l : LeafId) (ch : Fin 64) (who : Ident), s.setup = true → ch.val < 48 → (s.leaf l).sending = true →
    Completes (.gchTest l ch who) s fun t => OnlyLeaf l { s with fresh := s.fresh + 5 } t ∧
      (t.leaf l).regs = (s.leaf l).regs ∧
      ∃ v : Nat → Nat, (t.leaf l).out = (s.leaf l).out ++ (List.range 5).map fun k =>
        Out.gate ch (maintBody (tagOf (after (s.leaf l).count 1)) 3 k (v k % 4000))) ∧
  (∀ (s : State) (l : LeafId) (ch : Fin 64) (who : Ident), s.mode = .carry →
    Completes (.gchTest l ch who) s fun t => OnlyLeaf l s t ∧ (t.leaf l).out = (s.leaf l).out ∧
      KeepsRegs (s.leaf l) (t.leaf l) reportRegs) ∧
  (∀ (s : State) (l : LeafId) (ch : Fin 64) (who : Ident), s.setup = true → ch.val < 48 → s.mayClear l ch = true →
    (s.leaf l).sending = true →
    Completes (.gchClear l ch true who) s fun t => OnlyLeaf l s t ∧ (t.leaf l).regs = (s.leaf l).regs ∧
      (t.leaf l).out = (s.leaf l).out ++
        [Out.gate (evenOf ch) (maintBody (tagOf (after (s.leaf l).count 1)) 4 0 0),
         Out.gate (evenOf ch + 1) (maintBody (tagOf (after (s.leaf l).count 1)) 4 0 0)]) ∧
  (∀ (s : State) (l : LeafId) (ch : Fin 64) (who : Ident), s.mode = .carry →
    Completes (.gchClear l ch true who) s fun t => OnlyLeaf l s t ∧ (t.leaf l).out = (s.leaf l).out ∧
      KeepsRegs (s.leaf l) (t.leaf l) reportRegs)

/-- The actuator stages (R365 to R368, R378): the first valid COURSE frame of a course is in force in it, ends FALLBACK and is
kept; a WRITE waits for its boundary; 2 courses without a frame lead to FALLBACK with every phase off; a hard overcurrent
opens all switches; a bootstrap undervoltage takes the high side in PWM off; STATUS reaches the leaf whose link carried it.
Where the spec leaves a choice the statement rests on the model's readings of log entries 2 and 68. -/
def Obligations.actuator_stages : Prop :=
  (∀ (s : State) (rx : StageRx), (pick (s.stage rx.stage).tb rx.link.num).lost = false → rx.delim = 0xE7#8 →
    bodyCrc rx.body = rx.crc.toNat → BitVec.ofNat 16 (fb rx.body 67 52) = (pick (s.stage rx.stage).tb rx.link.num).tag →
    fb rx.body 71 70 = 0 → abOk rx.body = true →
    (∀ x ∈ (s.stage rx.stage).applied, x.course = (s.stage rx.stage).n → x.kind ≠ 0) →
    Completes (.actuatorFrame rx) s fun t => t = { s with stages := t.stages } ∧ (t.stage rx.stage).body = rx.body ∧
      (t.stage rx.stage).fallback = false ∧ (t.stage rx.stage).lastValid = some (s.stage rx.stage).n ∧
      (t.stage rx.stage).tripped = ((s.stage rx.stage).tripped && !abFloats rx.body) ∧
      ∀ b, b ≠ rx.stage.val → t.stage b = s.stage b) ∧
  (∀ (s : State) (rx : StageRx), (pick (s.stage rx.stage).tb rx.link.num).lost = true ∨ rx.delim ≠ 0xE7#8 ∨
    bodyCrc rx.body ≠ rx.crc.toNat → exec (.actuatorFrame rx) s = .next s) ∧
  (∀ (s : State) (rx : StageRx), (pick (s.stage rx.stage).tb rx.link.num).lost = false → rx.delim = 0xE7#8 →
    bodyCrc rx.body = rx.crc.toNat → BitVec.ofNat 16 (fb rx.body 67 52) = (pick (s.stage rx.stage).tb rx.link.num).tag →
    fb rx.body 71 70 = 2 → fb rx.body 51 48 = 1 → fb rx.body 47 40 ≤ 3 →
    (∀ x ∈ (s.stage rx.stage).applied, x.course = (s.stage rx.stage).n → x.kind ≠ 2) →
    Completes (.actuatorFrame rx) s fun t => t = { s with stages := t.stages } ∧
      (t.stage rx.stage).maint = (s.stage rx.stage).maint ++ [((s.stage rx.stage).n + 1, fb rx.body 47 40, fb rx.body 31 0)] ∧
      (t.stage rx.stage).body = (s.stage rx.stage).body) ∧
  (∀ (s : State) (a : Fin 3), (∀ n, (s.stage a).lastValid = some n → n + 2 ≤ (s.stage a).n) →
    Completes (.actuatorFallback a) s fun t => t = { s with stages := t.stages } ∧ (t.stage a).fallback = true ∧
      (t.stage a).body = 0 ∧ ∀ b, b ≠ a.val → t.stage b = s.stage b) ∧
  (∀ (s : State) (a : Fin 3) (n : Nat), (s.stage a).lastValid = some n → (s.stage a).n < n + 2 →
    exec (.actuatorFallback a) s = .next s) ∧
  (∀ (s : State) (a : Fin 3) (mA : Nat), (40000 < mA → Completes (.hardOvercurrent a mA) s fun t =>
      t = { s with stages := t.stages } ∧ t.stage a = { s.stage a with tripped := true, hardOc := true } ∧
      ∀ b, b ≠ a.val → t.stage b = s.stage b) ∧
    (mA ≤ 40000 → exec (.hardOvercurrent a mA) s = .next s)) ∧
  (∀ (s : State) (a p : Fin 3) (tick : Fin 4000) (mv : Nat), mv < 8000 →
    Completes (.bootstrapUndervoltage a p tick mv) s fun t => t = { s with stages := t.stages } ∧
      (t.stage a).bstUv.getLsbD (2 - p.val) = true ∧ (t.stage a).body = (s.stage a).body ∧
      (tick.val < abCt (s.stage a).body → abModeA (s.stage a).body p = 2 → (s.stage a).fallback = false →
        (s.stage a).tripped = false → (t.stage a).blank = some tick.val ∧ (t.stage a).refresh = true)) ∧
  (∀ (s : State) (a : Fin 3) (ok0 ok1 : Bool) (m : StageMeas), (s.stage a).due = true →
    Completes (.actuatorStatus a ok0 ok1 m) s fun t => (t.stage a).due = false ∧
      (∀ l : LeafId, (t.leaf l).regs = (s.leaf l).regs) ∧ (ok0 = false → t.leaf0 = s.leaf0) ∧ (ok1 = false → t.leaf1 = s.leaf1) ∧
      (ok0 = true → (pick t.leaf0.act.actrs a).fresh = true ∧ (pick t.leaf0.act.actrs a).rx &&& (s.stage a).ended = (s.stage a).ended) ∧
      (ok1 = true → (pick t.leaf1.act.actrs a).fresh = true ∧ (pick t.leaf1.act.actrs a).rx &&& (s.stage a).ended = (s.stage a).ended))

/-- Traction and position limits of time (R196, R266, R274, R275, R278, R281): with a set in RUN and no descriptor for
SP_TIMEOUT every set shows SP_TIMEOUT; 1,600 courses after an overcurrent the set waits no longer, and without another cause
and without a RUN bit goes to STANDBY; a window of 2 s after an observer loss ends; a synchronisation not reached in time is
told to the shift. Where the spec leaves a choice the statement rests on the model's readings of log entries 2, 60 and 61. -/
def Obligations.traction_timers : Prop :=
  (∀ (s : State) (l : LeafId) (k : Nat), k < 4 → (s.leaf l).setState k = 2 →
    (s.leaf l).get TRC_CTRL_SP_TIMEOUT ≤ since (s.leaf l).count (s.leaf l).trc.lastDesc → (s.leaf l).trc.timedOut = false →
    Completes (.spTimeout l) s fun t => OnlyLeaf l s t ∧ (t.leaf l).trc.timedOut = true ∧
      (∀ j, j < 4 → (t.leaf l).get TRC_SETFLT_SP_TIMEOUT j = 1) ∧
      KeepsRegs (s.leaf l) (t.leaf l) ((List.range 4).map TRC_SETFLT.addr ++ reportRegs)) ∧
  (∀ (s : State) (l : LeafId), since (s.leaf l).count (s.leaf l).trc.lastDesc < (s.leaf l).get TRC_CTRL_SP_TIMEOUT →
    exec (.spTimeout l) s = .next s) ∧
  (∀ (s : State) (l : LeafId) (set : Fin 4) (c : Course), ((s.leaf l).tset set).ocWait = true →
    ((s.leaf l).tset set).ocHeld = false → safeState ((s.leaf l).setState set) = true →
    ((s.leaf l).tset set).ocAt = some c → 1600 ≤ since (s.leaf l).count c →
    Completes (.overcurrentRetry l set) s fun t => OnlyLeaf l s t ∧ ((t.leaf l).tset set).ocWait = false ∧
      (((s.leaf l).onSet set fun S => { S with ocWait := false }).causes set ≠ [] → (t.leaf l).regs = (s.leaf l).regs) ∧
      (((s.leaf l).onSet set fun S => { S with ocWait := false }).causes set = [] →
        ((s.leaf l).tmach (set.val / 2)).run = false → (t.leaf l).setState set = 1)) ∧
  (∀ (s : State) (l : LeafId) (m : Fin 2) (c : Course), ((s.leaf l).tmach m).obsFirst = some c →
    320000 ≤ since (s.leaf l).count c →
    Completes (.obsWindowEnd l m) s fun t => OnlyLeaf l s t ∧ ((t.leaf l).tmach m).obsFirst = none ∧
      (t.leaf l).get TRC_MSTAT_OBS_WIN m = 0 ∧ KeepsRegs (s.leaf l) (t.leaf l) [TRC_MSTAT.addr m]) ∧
  (∀ (s : State) (l : LeafId), (s.leaf l).trc.phase = 3 → (s.leaf l).trc.syncRun < 160 →
    40000 ≤ since (s.leaf l).count (s.leaf l).trc.syncFrom →
    Completes (.syncTimeout l) s fun t => OnlyLeaf l s t ∧ (t.leaf l).trc.syncLate = true ∧ (t.leaf l).regs = (s.leaf l).regs)

/-- The contactors and the link guard's other events (R296, R298, R302 to R305, R311, R314): 16 courses of match close main+;
2 s without one open them again and a second time in a row locks the precharge; an opening waits for 16 courses of low
current, then main+ opens and main− is to open 1,600 courses later; a blocked opening is reported; an open interlock opens
them and stops the converter; a discharge ends below 60 V or after 2 s; a battery reference not renewed ends its mode; a
chopper retest sends its frames; a leg at its trim limit for 1 s goes to OUT and is readmitted once; a stopped auxiliary
converter may start again. Where the spec leaves a choice the statement rests on the model's readings of log entries 2, 62, 63
and 64. -/
def Obligations.contactors_and_link : Prop :=
  (∀ (s : State) (l : LeafId), (s.leaf l).con = 1 → 16 ≤ (s.leaf l).lnk.matchRun →
    Completes (.prechargeMatch l) s fun t => OnlyLeaf l s t ∧ (t.leaf l).con = 2 ∧ (t.leaf l).lnk.plus = true ∧
      (t.leaf l).lnk.minus = (s.leaf l).lnk.minus ∧ (t.leaf l).lnk.conFrom = (s.leaf l).count ∧
      KeepsRegs (s.leaf l) (t.leaf l) [LNK_STAT.addr 0]) ∧
  (∀ (s : State) (l : LeafId), (s.leaf l).con = 1 → (s.leaf l).lnk.matchRun < 16 →
    320000 ≤ since (s.leaf l).count (s.leaf l).lnk.conFrom →
    Completes (.preTimeout l) s fun t => OnlyLeaf l s t ∧ (t.leaf l).con = 0 ∧ (t.leaf l).get LNK_FLT_PRE_TIMEOUT = 1 ∧
      (t.leaf l).lnk.minus = false ∧ (t.leaf l).lnk.pre = false ∧
      (1 ≤ (s.leaf l).lnk.timeouts → (t.leaf l).get LNK_STAT_PRE_LOCK = 1) ∧
      KeepsRegs (s.leaf l) (t.leaf l) [LNK_STAT.addr 0, LNK_FLT.addr 0]) ∧
  (∀ (s : State) (l : LeafId), (s.leaf l).con = 2 →
    (s.leaf l).get LNK_CON_OVERLAP ≤ since (s.leaf l).count (s.leaf l).lnk.conFrom →
    Completes (.overlapElapsed l) s fun t => OnlyLeaf l s t ∧ (t.leaf l).con = 3 ∧ (t.leaf l).lnk.pre = false ∧
      (t.leaf l).lnk.plus = (s.leaf l).lnk.plus ∧ (t.leaf l).lnk.timeouts = 0 ∧
      KeepsRegs (s.leaf l) (t.leaf l) [LNK_STAT.addr 0]) ∧
  (∀ (s : State) (l : LeafId), (s.leaf l).con = 4 → 16 ≤ (s.leaf l).lnk.lowRun →
    Completes (.openingCurrentLow l) s fun t => OnlyLeaf l s t ∧ (t.leaf l).con = 0 ∧ (t.leaf l).lnk.plus = false ∧
      (t.leaf l).lnk.minusAt = some (after (s.leaf l).count 1600) ∧ (t.leaf l).lnk.minus = (s.leaf l).lnk.minus ∧
      (t.leaf l).get LNK_FLT_OPEN_BLOCKED = 0) ∧
  (∀ (s : State) (l : LeafId) (c : Course), (s.leaf l).con = 0 → (s.leaf l).lnk.minusAt = some c →
    since (s.leaf l).count c < 2 ^ 47 →
    Completes (.mainMinusOpen l) s fun t => OnlyLeaf l s t ∧ (t.leaf l).lnk.minus = false ∧ (t.leaf l).lnk.minusAt = none ∧
      (t.leaf l).regs = (s.leaf l).regs) ∧
  (∀ (s : State) (l : LeafId) (c : Course), (s.leaf l).lnk.minusAt = some c → 2 ^ 47 ≤ since (s.leaf l).count c →
    exec (.mainMinusOpen l) s = .next s) ∧
  (∀ (s : State) (l : LeafId), (s.leaf l).con = 4 → (s.leaf l).lnk.lowRun < 16 →
    320000 ≤ since (s.leaf l).count (s.leaf l).lnk.conFrom → (s.leaf l).lnk.blockedAt = none →
    Completes (.openBlocked l) s fun t => OnlyLeaf l s t ∧ (t.leaf l).get LNK_FLT_OPEN_BLOCKED = 1 ∧ (t.leaf l).con = 4 ∧
      (t.leaf l).lnk.blockedAt = some (s.leaf l).count ∧ KeepsRegs (s.leaf l) (t.leaf l) (LNK_FLT.addr 0 :: reportRegs)) ∧
  (∀ (s : State) (l : LeafId) (c : Course), (s.leaf l).lnk.blockedAt = some c → since (s.leaf l).count c < 160000 →
    exec (.openBlocked l) s = .next s) ∧
  (∀ (s : State) (l : LeafId), 16 ≤ (s.leaf l).lnk.hvilRun → (s.leaf l).lnk.hvilOpen = false →
    Completes (.hvilOpen l) s fun t => OnlyLeaf l s t ∧ (t.leaf l).get LNK_FLT_HVIL = 1 ∧ (t.leaf l).lnk.hvilOpen = true ∧
      (t.leaf l).con = 0 ∧ ((s.leaf l).con ≠ 0 → (t.leaf l).lnk.plus = false ∧ (t.leaf l).lnk.minus = false ∧
        (t.leaf l).lnk.pre = false) ∧ ((s.leaf l).conv = 2 → (t.leaf l).conv = 3)) ∧
  (∀ (s : State) (l : LeafId), (s.leaf l).lnk.hvilRun = 0 → (s.leaf l).lnk.hvilOpen = true →
    Completes (.hvilClosed l) s fun t => OnlyLeaf l s t ∧ (t.leaf l).lnk.hvilOpen = false ∧ (t.leaf l).regs = (s.leaf l).regs) ∧
  (∀ (s : State) (l : LeafId), (s.leaf l).get LNK_STAT_DISCH ≠ 0 → (s.leaf l).vLink < 60 →
    Completes (.dischargeEnd l) s fun t => OnlyLeaf l s t ∧ (t.leaf l).get LNK_STAT_DISCH = 0 ∧
      KeepsRegs (s.leaf l) (t.leaf l) [LNK_STAT.addr 0]) ∧
  (∀ (s : State) (l : LeafId) (c : Course), (s.leaf l).get LNK_STAT_DISCH ≠ 0 → ¬ (s.leaf l).vLink < 60 →
    (s.leaf l).lnk.dischFrom = some c → 320000 ≤ since (s.leaf l).count c →
    Completes (.dischargeEnd l) s fun t => OnlyLeaf l s t ∧ (t.leaf l).get LNK_STAT_DISCH = 0 ∧
      (t.leaf l).get LNK_FLT_DISCH_TIMEOUT = 1 ∧ KeepsRegs (s.leaf l) (t.leaf l) [LNK_STAT.addr 0, LNK_FLT.addr 0]) ∧
  (∀ (s : State) (l : LeafId), (s.leaf l).get LNK_STAT_MODE ≠ 0 →
    (s.leaf l).get TRC_CTRL_SP_TIMEOUT < since (s.leaf l).count (s.leaf l).lnk.refAt →
    Completes (.battRefTimeout l) s fun t => OnlyLeaf l s t ∧ (t.leaf l).get LNK_STAT_MODE = 0 ∧
      KeepsRegs (s.leaf l) (t.leaf l) (LNK_STAT.addr 0 :: reportRegs)) ∧
  (∀ (s : State) (l : LeafId), (s.leaf l).wantRetest = true → (s.leaf l).sending = true → (s.leaf l).get LNK_CHOP_DUAL = 0 →
    Completes (.chopperRetest l) s fun t => OnlyLeaf l s t ∧ (t.leaf l).lnk.retest = some ((s.leaf l).count + 1) ∧
      (t.leaf l).regs = (s.leaf l).regs ∧ (t.leaf l).out = (s.leaf l).out ++
        [Out.gate 46 (courseBody 0 false (tagOf ((s.leaf l).count + 1)) [(400, true), (3600, false)])]) ∧
  (∀ (s : State) (l : LeafId) (who : Ident), s.mode = .workshop → (s.leaf l).get LNK_FLT_CHOP_FAIL ≠ 0 →
    Completes (.chopFailClear l who) s fun t => OnlyLeaf l s t ∧ (t.leaf l).lnk.retested = false ∧
      (t.leaf l).regs = (s.leaf l).regs) ∧
  (∀ (s : State) (l : LeafId) (who : Ident), s.mode ≠ .workshop → exec (.chopFailClear l who) s = .next s) ∧
  (∀ (s : State) (l : LeafId) (leg : Fin 4), (s.leaf l).legState leg = 1 → 160000 ≤ ((s.leaf l).leg leg).atLimit →
    Completes (.share l leg) s fun t => OnlyLeaf l s t ∧ (t.leaf l).legState leg = 3 ∧ (t.leaf l).get LNK_FLT_SHARE = 1 ∧
      ((t.leaf l).leg leg).shareOut = true ∧ ((t.leaf l).leg leg).trim = 0 ∧
      ∀ k : Fin 4, k ≠ leg → (t.leaf l).legState k = (s.leaf l).legState k) ∧
  (∀ (s : State) (l : LeafId) (leg : Fin 4) (c : Course), (s.leaf l).legState leg = 3 → ((s.leaf l).leg leg).shareOut = true →
    ((s.leaf l).leg leg).shareLast = false → ((s.leaf l).leg leg).shareAt = some c → 160000 ≤ since (s.leaf l).count c →
    Completes (.legReadmit l leg) s fun t => OnlyLeaf l s t ∧ (t.leaf l).legState leg = 0 ∧
      ((t.leaf l).leg leg).shareOut = false ∧ ((t.leaf l).leg leg).readmitted = some (s.leaf l).count) ∧
  (∀ (s : State) (l : LeafId) (c : Course), (s.leaf l).lnk.auxHeld = false → (s.leaf l).lnk.auxStop = some c →
    16000 ≤ since (s.leaf l).count c →
    Completes (.auxRestart l) s fun t => OnlyLeaf l s t ∧ (t.leaf l).lnk.auxStop = none ∧ (t.leaf l).regs = (s.leaf l).regs)

/-- Pilot, cable and input of the charger (R336 to R339, R342, R345, R346): a settled pilot with a valid cable and PWM plugs
the session in; another pilot ends a session; the cable is read from PP and its loss ends the session; a window in range gives
the phases and begins the search; HLC_IMAX expires. A reading that has not stood its time changes nothing. Where the spec
leaves a choice the statement rests on the model's readings of log entries 2 and 65. -/
def Obligations.charger_inputs : Prop :=
  (∀ (s : State) (l : LeafId) (p : PilotRx), 1600 ≤ p.courses → (s.leaf l).chgState = 0 → (s.leaf l).cableOk = true →
    pilotClass p.high p.low true = 1 → p.pwm = true → 980 ≤ p.hz → p.hz ≤ 1020 → (pilotOf p.duty).2.2 = false →
    (∃ v, p.low = some v ∧ v ≤ -11000) →
    Completes (.pilotState l p) s fun t => OnlyLeaf l s t ∧ (t.leaf l).chgState = 1 ∧ (t.leaf l).get CHG_STAT_PILOT = 1 ∧
      (t.leaf l).get CHG_FLT_PLUG ≠ 0 ∧ (t.leaf l).chg.pwm = true ∧ (t.leaf l).chg.pilotLim = (pilotOf p.duty).1 ∧
      (t.leaf l).chg.equiv = 0) ∧
  (∀ (s : State) (l : LeafId) (p : PilotRx), 1600 ≤ p.courses → (s.leaf l).chgState ≠ 0 → (s.leaf l).cableOk = true →
    pilotClass p.high p.low true = 6 →
    Completes (.pilotState l p) s fun t => OnlyLeaf l s t ∧ (t.leaf l).chgState = 1 ∧ (t.leaf l).get CHG_STAT_END = 4 ∧
      (t.leaf l).get CHG_STAT_S2 = 0 ∧ (t.leaf l).get CHG_FLT_PILOT ≠ 0 ∧ (t.leaf l).chg.off = true) ∧
  (∀ (s : State) (l : LeafId) (p : PilotRx), p.courses < 1600 → exec (.pilotState l p) s = .next s) ∧
  (∀ (s : State) (l : LeafId) (ohm n : Nat), 16000 ≤ n → 4000 < ohm → (s.leaf l).chgState = 0 →
    Completes (.proximityReading l ohm n) s fun t => OnlyLeaf l s t ∧ (t.leaf l).get CHG_STAT_CABLE = 0 ∧
      (t.leaf l).chg.cableLim = 0 ∧ (t.leaf l).get CHG_TMR_RESTARTED = 0 ∧ (t.leaf l).chgState = 0 ∧
      KeepsRegs (s.leaf l) (t.leaf l) [CHG_STAT.addr 0, CHG_TMR.addr 0]) ∧
  (∀ (s : State) (l : LeafId) (ohm n : Nat), 16000 ≤ n → 4000 < ohm → 2 ≤ (s.leaf l).chgState →
    Completes (.proximityReading l ohm n) s fun t => OnlyLeaf l s t ∧ (t.leaf l).get CHG_STAT_CABLE = 0 ∧
      (t.leaf l).chgState = 0 ∧ (t.leaf l).get CHG_STAT_S2 = 0 ∧ (t.leaf l).get CHG_FLT_PP_LOST ≠ 0) ∧
  (∀ (s : State) (l : LeafId) (ohm n : Nat), 16000 ≤ n → ohm ≤ 4000 → (s.leaf l).chgState ≠ 0 →
    Completes (.proximityReading l ohm n) s fun t => OnlyLeaf l s t ∧ (t.leaf l).get CHG_STAT_CABLE = (cableOf ohm).1 ∧
      (t.leaf l).chg.cableLim = (cableOf ohm).2 ∧ (t.leaf l).chgState = (s.leaf l).chgState ∧
      KeepsRegs (s.leaf l) (t.leaf l) [CHG_STAT.addr 0]) ∧
  (∀ (s : State) (l : LeafId) (ohm n : Nat), n < 16000 → exec (.proximityReading l ohm n) s = .next s) ∧
  (∀ (s : State) (l : LeafId) (a b c : PhaseWin), (s.leaf l).chg.winAt = none → (s.leaf l).chgState = 2 →
    phaseOk a = true → phaseOk b = true → phaseOk c = true →
    Completes (.acWindow l a b c) s fun t => OnlyLeaf l s t ∧ (t.leaf l).chgState = 3 ∧ (t.leaf l).get CHG_STAT_PHASES = 3 ∧
      (t.leaf l).get CHG_SEARCH_SRCH = 1 ∧ (t.leaf l).chg.win = [a, b, c] ∧ (t.leaf l).chg.winAt = some (s.leaf l).count ∧
      (t.leaf l).chg.v0 = ((min (min a.vMv b.vMv) c.vMv : Nat) : Rat) / 1000 ∧ (t.leaf l).chg.iLim ≤ 6) ∧
  (∀ (s : State) (l : LeafId) (a b c : PhaseWin), (s.leaf l).chg.winAt = none → (s.leaf l).chgState = 2 →
    phaseOk a = false →
    Completes (.acWindow l a b c) s fun t => OnlyLeaf l s t ∧ (t.leaf l).chgState = 2 ∧ (t.leaf l).chg.win = [a, b, c]) ∧
  (∀ (s : State) (l : LeafId) (a b c : PhaseWin) (x : Course), (s.leaf l).chg.winAt = some x →
    since (s.leaf l).count x < 16000 → exec (.acWindow l a b c) s = .next s) ∧
  (∀ (s : State) (l : LeafId) (c : Course), (s.leaf l).chg.hlcAt = some c → 160000 ≤ since (s.leaf l).count c →
    Completes (.hlcExpiry l) s fun t => OnlyLeaf l s t ∧ (t.leaf l).chg.hlcAt = none ∧ (t.leaf l).get CHG_STAT_HLC = 0 ∧
      (t.leaf l).chgState = (s.leaf l).chgState ∧
      ((s.leaf l).chg.hlcBand = true → (s.leaf l).chgLive = true → (s.leaf l).chg.stopFrom = none →
        (t.leaf l).chg.stopFrom = some (s.leaf l).count ∧ (t.leaf l).chg.stopTo = 7))

/-- The course of a charge (R342, R343, R346 to R350, R353): the bus ready starts the stage or the supply; the search steps by
1 A, backs off by 2 A at a sag, and starts again after its hold; a supply that sags at 6 A pauses the charge once and then
ends it; termination and an expired timer begin the stop sequence; at its end the session moves to its state. Where the spec
leaves a choice the statement rests on the model's readings of log entries 65, 66 and 67. -/
def Obligations.charge_course : Prop :=
  (∀ (s : State) (l : LeafId), (s.leaf l).chgState = 3 → (s.leaf l).busReady = true → (s.leaf l).chg.stopFrom = none →
    (s.leaf l).chg.wantCharge = false →
    Completes (.pfcBusReady l) s fun t => OnlyLeaf l s t ∧ (t.leaf l).chgState = 4 ∧ (t.leaf l).chg.llcOn = true ∧
      (t.leaf l).chg.iTgt = 0) ∧
  (∀ (s : State) (l : LeafId), (s.leaf l).chgState = 3 → (s.leaf l).busReady = true → (s.leaf l).chg.stopFrom = none →
    (s.leaf l).chg.wantCharge = true → (s.leaf l).battReady = true →
    Completes (.pfcBusReady l) s fun t => OnlyLeaf l s t ∧ ((t.leaf l).chgState = 5 ∨ (t.leaf l).chgState = 6) ∧
      (t.leaf l).chg.llcOn = true ∧ (t.leaf l).chg.iTgt = (s.leaf l).iFast) ∧
  (∀ (s : State) (l : LeafId), (s.leaf l).chgLive = true → (s.leaf l).get CHG_SEARCH_SRCH = 1 → (s.leaf l).chg.stopFrom = none →
    40000 ≤ since (s.leaf l).count (s.leaf l).chg.searchAt → (s.leaf l).chg.sagNow = true →
    Completes (.searchStep l) s fun t => OnlyLeaf l s t ∧ (t.leaf l).chg.iLim = max 6 ((s.leaf l).chg.iLim - 2) ∧
      (t.leaf l).get CHG_SEARCH_SRCH = 2 ∧ (t.leaf l).get CHG_SEARCH_BIND = 6 ∧ (t.leaf l).chg.holdAt = (s.leaf l).count ∧
      (t.leaf l).chgState = (s.leaf l).chgState) ∧
  (∀ (s : State) (l : LeafId), (s.leaf l).chgLive = true → (s.leaf l).get CHG_SEARCH_SRCH = 1 → (s.leaf l).chg.stopFrom = none →
    40000 ≤ since (s.leaf l).count (s.leaf l).chg.searchAt → (s.leaf l).chg.sagNow = false →
    (((s.leaf l).searchLimit.1 : Rat) / 10) ≤ (s.leaf l).chg.iLim →
    Completes (.searchStep l) s fun t => OnlyLeaf l s t ∧ (t.leaf l).chg.iLim = ((s.leaf l).searchLimit.1 : Rat) / 10 ∧
      (t.leaf l).get CHG_SEARCH_SRCH = 2 ∧ (t.leaf l).get CHG_SEARCH_BIND = (s.leaf l).searchLimit.2) ∧
  (∀ (s : State) (l : LeafId), (s.leaf l).chgLive = true → (s.leaf l).get CHG_SEARCH_SRCH = 2 →
    144000000 ≤ since (s.leaf l).count (s.leaf l).chg.holdAt →
    Completes (.research l) s fun t => OnlyLeaf l s t ∧ (t.leaf l).get CHG_SEARCH_SRCH = 1 ∧
      (t.leaf l).chg.searchAt = (s.leaf l).count ∧
      (t.leaf l).get CHG_CNT_SEARCHES = min ((s.leaf l).get CHG_CNT_SEARCHES + 1) CHG_CNT_SEARCHES.max ∧
      KeepsRegs (s.leaf l) (t.leaf l) [CHG_SEARCH.addr 0, CHG_CNT.addr 0]) ∧
  (∀ (s : State) (l : LeafId) (c : Course), (s.leaf l).chgLive = true → (s.leaf l).chg.sagFrom = some c →
    40000 ≤ since (s.leaf l).count c → (s.leaf l).chg.weak = 0 →
    Completes (.weakSupply l) s fun t => OnlyLeaf l s t ∧ (t.leaf l).chgState = 7 ∧ (t.leaf l).chg.pauseCause = 5 ∧
      (t.leaf l).chg.weak = 1 ∧ (t.leaf l).chg.weakAt = (s.leaf l).count ∧ (t.leaf l).chg.off = true) ∧
  (∀ (s : State) (l : LeafId) (c : Course), (s.leaf l).chgLive = true → (s.leaf l).chg.sagFrom = some c →
    40000 ≤ since (s.leaf l).count c → (s.leaf l).chg.weak ≠ 0 → (s.leaf l).chg.stopFrom = none →
    Completes (.weakSupply l) s fun t => OnlyLeaf l s t ∧ (t.leaf l).get CHG_FLT_SUPPLY_WEAK ≠ 0 ∧
      (t.leaf l).chg.stopFrom = some (s.leaf l).count ∧ (t.leaf l).chg.stopTo = 9) ∧
  (∀ (s : State) (l : LeafId), (s.leaf l).chgState = 7 → (s.leaf l).chg.pauseCause = 5 →
    144000000 ≤ since (s.leaf l).count (s.leaf l).chg.weakAt →
    Completes (.weakSupplyPauseEnd l) s fun t => OnlyLeaf l s t ∧ (t.leaf l).chgState = 3 ∧ (t.leaf l).get CHG_SEARCH_SRCH = 1 ∧
      (t.leaf l).chg.pauseCause = 0) ∧
  (∀ (s : State) (l : LeafId) (c : Course), (s.leaf l).chgState = 6 → (s.leaf l).chg.stopFrom = none →
    (s.leaf l).chg.termFrom = some c → 4800000 ≤ since (s.leaf l).count c →
    Completes (.termination l) s fun t => OnlyLeaf l s t ∧ (t.leaf l).chg.stopFrom = some (s.leaf l).count ∧
      (t.leaf l).chg.stopTo = 8 ∧ (t.leaf l).chg.stopEnd = 1 ∧ (t.leaf l).regs = (s.leaf l).regs) ∧
  (∀ (s : State) (l : LeafId), 5 ≤ (s.leaf l).chgState → (s.leaf l).chgState ≤ 7 → (s.leaf l).chg.stopFrom = none →
    ((max 1 ((s.leaf l).get CHG_BATT_T_SAFE) : Nat) : Rat) * 9600000 ≤ (s.leaf l).chg.equiv → (s.leaf l).expiryKind = 2 →
    (s.leaf l).get CHG_TMR_RESTARTED = 0 →
    Completes (.safetyTimerExpiry l) s fun t => OnlyLeaf l s t ∧ (t.leaf l).get CHG_FLT_TMR_PLAIN ≠ 0 ∧
      (t.leaf l).chg.stopFrom = some (s.leaf l).count ∧ (t.leaf l).chg.stopTo = 9 ∧ (t.leaf l).chg.stopEnd = 5 ∧
      (t.leaf l).chgState = (s.leaf l).chgState) ∧
  (∀ (s : State) (l : LeafId) (c : Course), (s.leaf l).chg.stopFrom = some c → (s.leaf l).chg.iLim ≤ 0 →
    (s.leaf l).chg.stopTo = 8 ∨ (s.leaf l).chg.stopTo = 9 ∨ (s.leaf l).chg.stopTo = 10 → (s.leaf l).chg.stopEnd < 16 →
    Completes (.stopSequenceEnd l) s fun t => OnlyLeaf l s t ∧ (t.leaf l).chgState = (s.leaf l).chg.stopTo ∧
      (t.leaf l).get CHG_STAT_END = (s.leaf l).chg.stopEnd ∧ (t.leaf l).chg.stopFrom = none ∧ (t.leaf l).chg.off = true ∧
      ((s.leaf l).chg.stopS2 = true → (t.leaf l).chg.s2OpenAt = some ((s.leaf l).count + 1)) ∧
      ((s.leaf l).chg.stopTo = 8 → (t.leaf l).get CHG_FLT_DONE ≠ 0))

/-- Timeouts and restarts of the charger (R342, R350, R353): no admissible input within 5 s ends the session with S2 open; so
does an AC loss of 5 s; a PFC overvoltage or an LLC overcurrent restarts the charger after 16,000 courses; UNLOCK clears
LOCKED in WORKSHOP alone. Where the spec leaves a choice the statement rests on the model's readings of log entries 2 and 65. -/
def Obligations.charger_timeouts : Prop :=
  (∀ (s : State) (l : LeafId), (s.leaf l).chgState = 2 → 800000 ≤ since (s.leaf l).count (s.leaf l).chg.stateAt →
    Completes (.evseTimeout l) s fun t => OnlyLeaf l s t ∧ (t.leaf l).chgState = 1 ∧ (t.leaf l).get CHG_STAT_S2 = 0 ∧
      (t.leaf l).get CHG_FLT_EVSE_TIMEOUT ≠ 0) ∧
  (∀ (s : State) (l : LeafId), since (s.leaf l).count (s.leaf l).chg.stateAt < 800000 → exec (.evseTimeout l) s = .next s) ∧
  (∀ (s : State) (l : LeafId), (s.leaf l).chgState = 7 → (s.leaf l).chg.pauseCause = 4 →
    800000 ≤ since (s.leaf l).count (s.leaf l).chg.lossAt →
    Completes (.acLossTimeout l) s fun t => OnlyLeaf l s t ∧ (t.leaf l).chgState = 9 ∧ (t.leaf l).get CHG_STAT_END = 8 ∧
      (t.leaf l).get CHG_STAT_S2 = 0 ∧ (t.leaf l).get CHG_FLT_AC_LOSS ≠ 0) ∧
  (∀ (s : State) (l : LeafId) (c : Course), (s.leaf l).chgState = 7 →
    ((s.leaf l).chg.pauseCause = 7 ∧ (s.leaf l).chg.pfcOvAt = some c) ∨
      ((s.leaf l).chg.pauseCause = 8 ∧ (s.leaf l).chg.llcOcAt = some c) → 16000 ≤ since (s.leaf l).count c →
    Completes (.chargerRestart l) s fun t => OnlyLeaf l s t ∧ (t.leaf l).chgState = 3 ∧ (t.leaf l).get CHG_SEARCH_SRCH = 1 ∧
      (t.leaf l).chg.v0 = (s.leaf l).chg.vNow ∧ (t.leaf l).chg.off = false) ∧
  (∀ (s : State) (l : LeafId) (who : Ident), s.mode = .workshop →
    Completes (.unlock l who) s fun t => OnlyLeaves s t ∧ ∀ m : LeafId, (t.leaf m).get CHG_FLT_LOCKED = 0 ∧
      ((s.leaf m).chgState = 10 → (t.leaf m).chgState = (if (s.leaf m).cableOk then 1 else 0)) ∧
      ((s.leaf m).chgState ≠ 10 → KeepsRegs (s.leaf m) (t.leaf m) [CHG_FLT.addr 0])) ∧
  (∀ (s : State) (l : LeafId) (who : Ident), s.mode ≠ .workshop →
    Completes (.unlock l who) s fun t => OnlyLeaf l s t ∧ KeepsRegs (s.leaf l) (t.leaf l) reportRegs ∧
      (t.leaf l).chg = (s.leaf l).chg)

/-- The states of an actuator (R373 to R377): alignment ends after ALIGN_T; a locked rotor waits, and is a lasting fault when
it recurs within 160,000 courses; WAIT ends after LOCK_WAIT with the move begun again; a move brakes near its target and rests
1,600 courses later on the target's count; an end stop is reached after END_T without a commutation; ACT_VIN back in range for
16,000 courses resumes what it stopped. Where the spec leaves a choice the statement rests on the model's readings of log
entry 68. -/
def Obligations.actuator_moves : Prop :=
  (∀ (s : State) (l : LeafId) (a : Fin 3), (s.leaf l).actState a = 2 →
    16 * (s.leaf l).get ACT_CFG_ALIGN_T a ≤ since (s.leaf l).count ((s.leaf l).actr a).stateAt →
    Completes (.alignDone l a) s fun t => OnlyLeaf l s t ∧ (t.leaf l).actState a = 3 ∧ ((t.leaf l).actr a).step = 0 ∧
      ((t.leaf l).actr a).stepAt = (s.leaf l).count ∧ ((t.leaf l).actr a).stateAt = (s.leaf l).count ∧
      KeepsRegs (s.leaf l) (t.leaf l) [ACT_CHSTAT.addr a]) ∧
  (∀ (s : State) (l : LeafId) (a : Fin 3), (s.leaf l).actState a = 4 → ((s.leaf l).actr a).kind = 1 →
    (s.leaf l).get ACT_CTRL_LOCK_T ≤ since (s.leaf l).count ((s.leaf l).actr a).lastComm →
    ((s.leaf l).actr a).faultAt = none →
    Completes (.lockedRotor l a) s fun t => OnlyLeaf l s t ∧ (t.leaf l).actState a = 6 ∧ ((t.leaf l).actr a).duty = 0 ∧
      ((t.leaf l).actr a).kind = 1 ∧ ((t.leaf l).actr a).faultAt = some (s.leaf l).count) ∧
  (∀ (s : State) (l : LeafId) (a : Fin 3) (c : Course), (s.leaf l).actState a = 4 → ((s.leaf l).actr a).kind = 1 →
    (s.leaf l).get ACT_CTRL_LOCK_T ≤ since (s.leaf l).count ((s.leaf l).actr a).lastComm →
    ((s.leaf l).actr a).faultAt = some c → since (s.leaf l).count c ≤ 160000 →
    Completes (.lockedRotor l a) s fun t => OnlyLeaf l s t ∧ (t.leaf l).actState a = 7 ∧ ((t.leaf l).actr a).duty = 0 ∧
      ((t.leaf l).actr a).kind = 0 ∧ (t.leaf l).get (actFlt a 0) = 1) ∧
  (∀ (s : State) (l : LeafId) (a : Fin 3), (s.leaf l).actState a = 6 → ((s.leaf l).actr a).vin = false →
    (s.leaf l).act.vinStop = false → (s.leaf l).get ACT_CTRL_LOCK_WAIT ≤ since (s.leaf l).count ((s.leaf l).actr a).stateAt →
    Completes (.actWaitExpiry l a) s fun t => OnlyLeaf l s t ∧
      (t.leaf l).actState a = (if ((s.leaf l).actr a).kind = 0 then 1 else 2) ∧
      ((t.leaf l).actr a).kind = ((s.leaf l).actr a).kind ∧ ((t.leaf l).actr a).target = ((s.leaf l).actr a).target ∧
      ((t.leaf l).actr a).count = ((s.leaf l).actr a).count) ∧
  (∀ (s : State) (l : LeafId) (a : Fin 3), (s.leaf l).actState a = 4 → ((s.leaf l).actr a).kind = 1 →
    (s.leaf l).nearTarget a = true →
    Completes (.moveEnd l a) s fun t => OnlyLeaf l s t ∧ (t.leaf l).actState a = 5 ∧ ((t.leaf l).actr a).duty = 0 ∧
      ((t.leaf l).actr a).count = ((s.leaf l).actr a).count) ∧
  (∀ (s : State) (l : LeafId) (a : Fin 3), (s.leaf l).actState a = 5 →
    1600 ≤ since (s.leaf l).count ((s.leaf l).actr a).stateAt →
    Completes (.moveEnd l a) s fun t => OnlyLeaf l s t ∧ (t.leaf l).actState a = 1 ∧ ((t.leaf l).actr a).kind = 0 ∧
      ((t.leaf l).actr a).count = ((s.leaf l).actr a).target ∧
      (a = 1 → (t.leaf l).get ACT_STAT_PARK = (if ((s.leaf l).actr a).target = 0 then 1 else 2))) ∧
  (∀ (s : State) (l : LeafId), (s.leaf l).actState 0 = 4 → ((s.leaf l).actr 0).kind = 3 →
    16 * (s.leaf l).get ACT_CTRL_END_T ≤ since (s.leaf l).count ((s.leaf l).actr 0).lastComm →
    Completes (.endStopArrival l 0) s fun t => OnlyLeaf l s t ∧ (t.leaf l).actState 0 = 1 ∧
      (t.leaf l).get ACT_STAT_REFERENCED = 1 ∧ (t.leaf l).get ACT_STAT_GEAR = 1 ∧ (t.leaf l).get ACT_STAT_GEAR_DOUBT = 0 ∧
      ((t.leaf l).actr 0).count = ((s.leaf l).actr 0).target) ∧
  (∀ (s : State) (l : LeafId), (s.leaf l).actState 1 = 4 → ((s.leaf l).actr 1).kind = 2 → (s.leaf l).nearTarget 1 = true →
    (s.leaf l).atEnd 1 = true →
    16 * (s.leaf l).get ACT_CTRL_END_T ≤ since (s.leaf l).count ((s.leaf l).actr 1).lastComm →
    Completes (.endStopArrival l 1) s fun t => OnlyLeaf l s t ∧ (t.leaf l).actState 1 = 1 ∧
      (t.leaf l).get ACT_STAT_PARK = (if ((s.leaf l).actr 1).target = 0 then 1 else 2) ∧
      ((t.leaf l).actr 1).count = ((s.leaf l).actr 1).target) ∧
  (∀ (s : State) (l : LeafId) (c : Course), (s.leaf l).act.vinStop = true → (s.leaf l).act.vinFrom = some c →
    16000 ≤ since (s.leaf l).count c →
    Completes (.actVinRestored l) s fun t => OnlyLeaf l s t ∧ (t.leaf l).act.vinStop = false ∧ ∀ a, a < 3 →
      ((s.leaf l).actState a = 6 → ((s.leaf l).actr a).vin = true →
        (t.leaf l).actState a = if ((s.leaf l).actr a).kind = 0 then 1 else 2) ∧
      ((s.leaf l).actState a ≠ 6 → (t.leaf l).actState a = (s.leaf l).actState a))

/-- The shift's return, the hold past the point of no return, and the temperature sensors (R386, R387, R400 to R407): a return
asked for before the point of no return is counted and shown; the hold ends with the target gear engaged in doubt; a thermal
sample ends the readings of its period; a broken sensor is given back once 100 readings in a row agree, and not before. Where
the spec leaves a choice the statement rests on the model's readings of log entries 2, 69 and 70. -/
def Obligations.shift_return_and_sensors : Prop :=
  (∀ (s : State) (l : LeafId), 1 ≤ (s.leaf l).shiftCode → (s.leaf l).shiftCode ≤ 4 → (s.leaf l).get ACT_STAT_PAST_PNR = 0 →
    (s.leaf l).act.retAsked = true → (s.leaf l).actState 0 ≠ 7 →
    Completes (.shiftReturn l) s fun t => OnlyLeaf l s t ∧ (t.leaf l).shiftCode = 6 ∧ (t.leaf l).get ACT_FLT_SHIFT_RET = 1 ∧
      (t.leaf l).get ACT_CNT_RETURNS = min ((s.leaf l).get ACT_CNT_RETURNS + 1) ACT_CNT_RETURNS.max ∧
      (t.leaf l).act.retAsked = false) ∧
  (∀ (s : State) (l : LeafId), (s.leaf l).get ACT_STAT_PAST_PNR ≠ 0 → exec (.shiftReturn l) s = .next s) ∧
  (∀ (s : State) (l : LeafId) (c : Course), (s.leaf l).shiftCode = 4 → (s.leaf l).act.engFrom = some c →
    160 * (s.leaf l).get ACT_SHIFT_ENG_T ≤ since (s.leaf l).count c → (s.leaf l).act.shiftTo ≤ 3 →
    Completes (.engageHoldExpiry l) s fun t => OnlyLeaf l s t ∧ (t.leaf l).get ACT_STAT_GEAR = (s.leaf l).act.shiftTo ∧
      (t.leaf l).get ACT_STAT_GEAR_DOUBT = 1 ∧ (t.leaf l).shiftCode = 5 ∧ (t.leaf l).act.engFrom = none ∧
      ((t.leaf l).actr 0).count = (s.leaf l).gearPos (s.leaf l).act.shiftTo) ∧
  (∀ (s : State) (l : LeafId), (s.leaf l).role ≠ .boot → 1600 ≤ since (s.leaf l).count (s.leaf l).thm.sampledAt →
    Completes (.thermalSample l) s fun t => OnlyLeaf l s t ∧ (t.leaf l).thm.sampledAt = (s.leaf l).count ∧
      ∀ i, i < 83 → ((t.leaf l).tsensor i).n = 0 ∧ ((t.leaf l).tsensor i).sum = 0 ∧ ((t.leaf l).tsensor i).bad = false) ∧
  (∀ (s : State) (l : LeafId), since (s.leaf l).count (s.leaf l).thm.sampledAt < 1600 → exec (.thermalSample l) s = .next s) ∧
  (∀ (s : State) (l : LeafId) (i : Fin 83) (who : Ident), (s.leaf l).sensorBroken i = true →
    100 ≤ ((s.leaf l).tsensor i).okRun →
    Completes (.brokenClear l i who) s fun t => OnlyLeaf l s t ∧ (t.leaf l).get THM_TEMP_STATE i = 0 ∧
      (t.leaf l).get THM_TEMP_SAMPLES i = 0 ∧ ((t.leaf l).tsensor i).last = []) ∧
  (∀ (s : State) (l : LeafId) (i : Fin 83) (who : Ident), (s.leaf l).sensorBroken i = true →
    ((s.leaf l).tsensor i).okRun < 100 →
    Completes (.brokenClear l i who) s fun t => OnlyLeaf l s t ∧ (t.leaf l).thm = (s.leaf l).thm ∧
      KeepsRegs (s.leaf l) (t.leaf l) reportRegs)

/-- A leaf leaves its role (R26, R425, R427, R429, R442, R444): a silence cuts its outputs at once, sends SILENT with its
cause and names RESTART, or OUT at a recurrence, for the boundary; the other leaf, in FOLLOW, names its own takeover; in LEAD
it shows the partner's state; a planned OUT is announced in the course before; a leaf that loses its host link hands LEAD over
or goes to OUT. Where the spec leaves a choice the statement rests on the model's readings of log entries 2, 71 and 74. -/
def Obligations.leaving_a_role : Prop :=
  (∀ (s : State) (l : LeafId) (cause : Fin 6) (tick : Fin 4000), cause.val ≠ 0 → (s.leaf l).computing = true →
    (s.leaf l).cut = false →
    Completes (.leafSilence l cause tick) s fun t => OnlyLeaf l s t ∧ (t.leaf l).cut = true ∧ (t.leaf l).role = (s.leaf l).role ∧
      (t.leaf l).out = (s.leaf l).out ++ [Out.tie 0x02 ((s.leaf l).tie.txSeq + 1) [cause]] ∧
      (t.leaf l).crs.roleAt = some (namedAt (s.leaf l).count tick, if (s.leaf l).silentAgain then .out else .restart)) ∧
  (∀ (s : State) (l : LeafId) (cause : Fin 6) (tick : Fin 4000), (s.leaf l).computing = false ∨ (s.leaf l).cut = true →
    exec (.leafSilence l cause tick) s = .next s) ∧
  (∀ (s : State) (l : LeafId) (cause : Fin 7) (tick : Fin 4000), cause.val ≠ 0 → (s.leaf l).role = .follow →
    (s.leaf l).cut = false → (s.leaf l).tieOk = true →
    Completes (.silentReceived l cause tick) s fun t => OnlyLeaf l s t ∧ (t.leaf l).regs = (s.leaf l).regs ∧
      (t.leaf l).tie.cause = cause ∧ (t.leaf l).crs.roleAt =
        some (if cause.val = causeOut then (s.leaf l).count + 2 else namedAt (s.leaf l).count tick, .lead)) ∧
  (∀ (s : State) (l : LeafId) (cause : Fin 7) (tick : Fin 4000), cause.val ≠ 0 → (s.leaf l).role = .lead →
    (s.leaf l).cut = false → (s.leaf l).tieOk = true →
    Completes (.silentReceived l cause tick) s fun t => OnlyLeaf l s t ∧
      (t.leaf l).get TIE_STAT_PARTNER = (if cause.val = causeOut then 4 else 2) ∧
      (cause.val = causeOut → (t.leaf l).get TIE_FLT_PARTNER_OUT = 1) ∧ (t.leaf l).role = .lead) ∧
  (∀ (s : State) (l : LeafId), (s.leaf l).carrying = true → (s.leaf l).cut = false → (s.leaf l).tick ≤ 3840 →
    (s.leaf l).crs.roleAt = some ((s.leaf l).count + 1, .out) →
    Completes (.outEntry l) s fun t => OnlyLeaf l s t ∧ (t.leaf l).cut = true ∧ (t.leaf l).tick = 3840 ∧
      (t.leaf l).out = (s.leaf l).out ++ [Out.tie 0x02 ((s.leaf l).tie.txSeq + 1) [6]] ∧
      (t.leaf l).crs.roleAt = (s.leaf l).crs.roleAt) ∧
  (∀ (s : State) (l : LeafId), (s.leaf l).sending = true → (s.leaf l).linkLost = true → (s.leaf l).crs.roleAt = none →
    (s.leaf l).role = .lead → (s.leaf l.other).role = .follow → (s.leaf l.other).get CRS_STAT_ALIGNED ≠ 0 →
    Completes (.hostLinkLost l) s fun t => OnlyLeaves s t ∧
      (t.leaf l).crs.roleAt = some (namedAt (s.leaf l).count (s.leaf l).tick, .follow) ∧
      (t.leaf l.other).crs.roleAt = some (namedAt (s.leaf l).count (s.leaf l).tick, .lead)) ∧
  (∀ (s : State) (l : LeafId), (s.leaf l).sending = true → (s.leaf l).linkLost = true → (s.leaf l).crs.roleAt = none →
    (s.leaf l.other).role ≠ .follow →
    Completes (.hostLinkLost l) s fun t => OnlyLeaves s t ∧
      (t.leaf l).crs.roleAt = some (namedAt (s.leaf l).count (s.leaf l).tick, .out)) ∧
  (∀ (s : State) (l : LeafId), (s.leaf l).linkLost = false → exec (.hostLinkLost l) s = .next s)

/-- A leaf comes back (R423 to R425, R446, R452, R568): a committed swap exchanges the roles; REJOIN restarts the leaf that
is OUT; a restart that completes beside a leaf that carries, or is to, enters ALIGN at that leaf's count, and alone is to
become LEAD; a failed start is repeated once and then ends in OUT; an aligned leaf is named FOLLOW for a course of the LEAD
leaf; 60 s in FOLLOW count the restart as transient. Where the spec leaves a choice the statement rests on the model's
readings of log entries 2, 71 and 73. -/
def Obligations.coming_back : Prop :=
  (∀ (s : State) (a b : LeafId) (w : RegW) (h : Hdr), s.leadId = some a → s.followId = some b →
    (s.leaf b).get CRS_STAT_ALIGNED ≠ 0 → (s.leaf .leaf0).crs.cmds = [(w, h)] → (s.leaf .leaf1).crs.cmds = [(w, h)] →
    w.off = TIE_CMD.base → w.value.getLsbD 63 = true →
    Completes .swap s fun t => OnlyLeaves s t ∧ (t.leaf a).role = .follow ∧ (t.leaf b).role = .lead ∧
      (t.leaf a).get TIE_STAT_PARTNER = 0 ∧ (t.leaf b).get TIE_STAT_PARTNER = 1) ∧
  (∀ s : State, (s.leaf .leaf0).crs.cmds = [] → (s.leaf .leaf1).crs.cmds = [] → exec .swap s = .next s) ∧
  (∀ (s : State) (l : LeafId) (who : Ident), s.setup = true → (s.leaf l).role = .out →
    Completes (.rejoin l true who) s fun t => OnlyLeaves s t ∧ (t.leaf l).role = .restart ∧ (t.leaf l).cut = false ∧
      (t.leaf l).tie.restartAt = (s.leaf l).count) ∧
  (∀ (s : State) (l : LeafId) (who : Ident), s.mode = .carry →
    Completes (.rejoin l true who) s fun t => OnlyLeaf l s t ∧ (t.leaf l).role = (s.leaf l).role ∧
      KeepsRegs (s.leaf l) (t.leaf l) reportRegs) ∧
  (∀ (s : State) (l : LeafId) (r : StartRes), (s.leaf l).role = .restart → (s.leaf l).bst.fullAt = none →
    (s.leaf l).bst.halted = false → since (s.leaf l).count (s.leaf l).tie.restartAt ≤ 320000 →
    (s.leaf l).bootSlot r.imageA r.imageB = (s.leaf l, true) → (s.leaf l).upd.newStart = false →
    Completes (.restartComplete l r) s fun t =>
      ((s.leaf l.other).carrying = true → (t.leaf l).role = .align ∧ (t.leaf l).count = (s.leaf l.other).count) ∧
      ((s.leaf l.other).toLead = true → (t.leaf l).role = .align) ∧
      ((s.leaf l.other).carrying = false → (s.leaf l.other).toLead = false → (t.leaf l).crs.roleAt = some ((t.leaf l).count + 1, .lead))) ∧
  (∀ (s : State) (l : LeafId), (s.leaf l).role = .restart → (s.leaf l).bst.fullAt = none → (s.leaf l).bst.halted = false →
    Completes (.restartTimeout l true) s fun t =>
      ((s.leaf l).tie.restartTry = 0 → (t.leaf l).role = .restart ∧ (t.leaf l).tie.restartTry = 1) ∧
      ((s.leaf l).tie.restartTry ≠ 0 → (s.leaf l).upd.trial = false →
        (t.leaf l).role = .out ∧ (t.leaf l).get TIE_FLT_RESTART_FAIL = 1)) ∧
  (∀ (s : State) (l : LeafId), (s.leaf l).role ≠ .restart → exec (.restartTimeout l true) s = .next s) ∧
  (∀ (s : State) (l m : LeafId), s.leadId = some m → m ≠ l → (s.leaf l).role = .align → (s.leaf l).crs.roleAt = none →
    1600 ≤ (s.leaf l).tie.within → (s.leaf l).tie.settingsDone = true → (s.leaf l).tie.ledgerDone = true →
    2 ≤ (s.leaf l).tie.residualOk → s.indexOwed l = false →
    Completes (.alignExit l) s fun t => OnlyLeaf l s t ∧ (t.leaf l).regs = (s.leaf l).regs ∧
      (t.leaf l).crs.roleAt = some (after (s.leaf m).count ((s.leaf m).get CRS_CTRL_COMMIT_LEAD), .follow)) ∧
  (∀ (s : State) (l : LeafId), (s.leaf l).tie.within < 1600 → exec (.alignExit l) s = .next s) ∧
  (∀ (s : State) (l : LeafId), (s.leaf l).role = .align → (s.leaf l).crs.roleAt = none → (s.leaf l).tie.doneAt = none →
    40000 ≤ since (s.leaf l).count (s.leaf l).tie.alignAt →
    Completes (.alignTimeout l) s fun t =>
      ((s.leaf l).tie.restartTry = 0 → (t.leaf l).role = .restart ∧ (t.leaf l).tie.restartTry = 1) ∧
      ((s.leaf l).tie.restartTry ≠ 0 → (s.leaf l).upd.trial = false → (t.leaf l).role = .out)) ∧
  (∀ (s : State) (l : LeafId) (c : Course), (s.leaf l).carrying = true → (s.leaf l).tie.silenceRestart = true →
    (s.leaf l).tie.followAt = some c → 9600000 ≤ since (s.leaf l).count c →
    Completes (.restartWindowEnd l) s fun t => OnlyLeaf l s t ∧ (t.leaf l).tie.silenceRestart = false ∧
      (t.leaf l).get TIE_CNT_RESTARTS = min ((s.leaf l).get TIE_CNT_RESTARTS + 1) TIE_CNT_RESTARTS.max ∧
      KeepsRegs (s.leaf l) (t.leaf l) [TIE_CNT.addr 0])

/-- The output arbiter (R16, R17, R426, R629 to R631): a leaf that alone declares LEAD supplies every shared output; two that
declare it are reported; an output without a command of the LEAD leaf for 2 courses falls back to the other leaf, and without
that to its resistor-set state; a coil driver in limit for 250 ms turns off. Where the spec leaves a choice the statement
rests on the model's readings of log entries 2 and 75. -/
def Obligations.output_arbiter : Prop :=
  (∀ (s : State) (l : LeafId), s.mode = .ready ∨ s.mode = .carry → s.pins.resetN = false → s.pins.bootDead = false →
    (s.leaf l).sending = true → (s.leaf l).role = .lead → (s.leaf l.other).role ≠ .lead →
    Completes .roleDeclaration s fun t => t.arb.lead = l ∧ t.chans = s.chans ∧ t.mode = s.mode ∧
      (∀ k, k < 7 → (pick t.arb.outs k).src = some l ∧ pick (pick t.arb.outs k).cmd l.num = s.commandOf l k) ∧
      (∀ k, 3 ≤ k → k < 7 → (pick t.arb.outs k).level = s.commandOf l k) ∧
      (∀ k, k < 3 → (pick t.arb.outs k).level = (s.commandOf l k && s.pins.vlv && !pick t.arb.coilOff k))) ∧
  (∀ s : State, s.mode = .ready ∨ s.mode = .carry → s.pins.resetN = false →
    (s.leaf .leaf0).sending = true → (s.leaf .leaf0).role = .lead → (s.leaf .leaf1).sending = true → (s.leaf .leaf1).role = .lead →
    Completes .roleDeclaration s fun t => t.arb.lead = s.arb.lead ∧
      ∀ l : LeafId, (t.leaf l).get TIE_FLT_ROLE_CONFLICT = 1 ∧ KeepsRegs (s.leaf l) (t.leaf l) [TIE_FLT.addr 0]) ∧
  (∀ s : State, s.mode = .off ∨ s.mode = .park →
    Completes .roleDeclaration s fun t => t = { s with arb := t.arb } ∧ t.arb.lead = .leaf0 ∧
      ∀ k, k < 7 → (pick t.arb.outs k).src = none ∧ pick (pick t.arb.outs k).cmd 0 = false ∧
        pick (pick t.arb.outs k).cmd 1 = false) ∧
  (∀ (s : State) (k : Fin 7), 2 ≤ pick (pick s.arb.outs k).age s.arb.lead.num →
    Completes (.arbiterFallback k) s fun t => t = { s with arb := t.arb } ∧
      (pick (pick s.arb.outs k).age s.arb.lead.other.num < 2 → (pick t.arb.outs k).src = some s.arb.lead.other ∧
        (pick t.arb.outs k).level = s.drivenLevel k (pick (pick s.arb.outs k).cmd s.arb.lead.other.num)) ∧
      (2 ≤ pick (pick s.arb.outs k).age s.arb.lead.other.num → (pick t.arb.outs k).src = none ∧
        (pick t.arb.outs k).level = s.idleLevel k) ∧
      ∀ j, j ≠ k.val → pick t.arb.outs j = pick s.arb.outs j) ∧
  (∀ (s : State) (k : Fin 7), pick (pick s.arb.outs k).age s.arb.lead.num < 2 → exec (.arbiterFallback k) s = .next s) ∧
  (∀ (s : State) (c : Fin 3) (ms : Nat), (pick s.arb.outs c).level = true → 250 ≤ ms →
    Completes (.coilLimitTimeout c ms) s fun t => t = { s with arb := t.arb } ∧ (pick t.arb.outs c).level = false ∧
      pick t.arb.coilOff c = true ∧ ∀ j, j ≠ c.val → pick t.arb.outs j = pick s.arb.outs j) ∧
  (∀ (s : State) (c : Fin 3) (ms : Nat), ms < 250 → exec (.coilLimitTimeout c ms) s = .next s) ∧
  (∀ (s : State) (c : Fin 3) (k : Fin 4), (k.val = 2 → (pick s.arb.outs c).level = true) →
    (k.val = 3 → (pick s.arb.outs c).level = false) →
    Completes (.coilDriverFault c k) s fun t => t = { s with arb := t.arb } ∧ t.arb.outs = s.arb.outs ∧
      (pick t.arb.coilFault c).getLsbD k = true)

/-- The tie link's lanes and what they show (R430, R431, R433 to R435): a lane without a signal for 1 µs or without a MARK for
two courses is lost, and comes back after 16 courses of MARKs; with both gone a FOLLOW leaf is isolated and, from the evidence
of the STATUS frames, takes over or enters OUT; LOST acts as both lanes lost; a MARK shows the partner's state and, from LEAD,
the offset; PROBE and ECHO measure the latency. Where the spec leaves a choice the statement rests on the model's readings of
log entries 2 and 77. -/
def Obligations.lanes_and_marks : Prop :=
  (∀ (s : State) (l : LeafId) (k : Fin 2) (ns : Nat), (pick (s.leaf l).tie.lanes k).up = true →
    1000 ≤ ns ∨ 2 ≤ (pick (s.leaf l).tie.lanes k).missing →
    Completes (.laneLost l k ns) s fun t => OnlyLeaf l s t ∧ (pick (t.leaf l).tie.lanes k).up = false ∧
      ((s.leaf l).computing = true → (t.leaf l).get ⟨TIE_FLT, k, k⟩ = 1) ∧
      (∀ j, j < 2 → j ≠ k.val → pick (t.leaf l).tie.lanes j = pick (s.leaf l).tie.lanes j) ∧
      KeepsRegs (s.leaf l) (t.leaf l) [TIE_FLT.addr 0, TIE_STAT.addr 0]) ∧
  (∀ (s : State) (l : LeafId) (k : Fin 2) (ns : Nat), (pick (s.leaf l).tie.lanes k).up = true → 1000 ≤ ns →
    (∀ j, j < 2 → j ≠ k.val → (s.leaf l).laneOk j = false) → (s.leaf l).role = .follow → (s.leaf l).crs.roleAt = none →
    (s.leaf l).tie.isolatedAt = none → (s.leaf l).get TIE_STAT_PARTNER ≤ 1 ∨ (s.leaf l).get TIE_STAT_PARTNER = 3 →
    Completes (.laneLost l k ns) s fun t => (t.leaf l).tie.isolatedAt = some (s.leaf l).count ∧
      (t.leaf l).get TIE_STAT_ISOLATED = 1 ∧ (t.leaf l).tie.unacked = []) ∧
  (∀ (s : State) (l : LeafId) (k : Fin 2) (ns : Nat), ns < 1000 → (pick (s.leaf l).tie.lanes k).missing < 2 →
    exec (.laneLost l k ns) s = .next s) ∧
  (∀ (s : State) (l : LeafId) (k : Fin 2), (pick (s.leaf l).tie.lanes k).up = false →
    16 ≤ (pick (s.leaf l).tie.lanes k).good →
    Completes (.laneUp l k) s fun t => OnlyLeaf l s t ∧ (pick (t.leaf l).tie.lanes k).up = true ∧
      KeepsRegs (s.leaf l) (t.leaf l) [TIE_CNT.addr 0, TIE_STAT.addr 0]) ∧
  (∀ (s : State) (l : LeafId) (k : Fin 2), (pick (s.leaf l).tie.lanes k).good < 16 →
    exec (.laneUp l k) s = .next s) ∧
  (∀ (s : State) (l : LeafId) (rx : Rx), (pick (s.leaf l).tie.lanes rx.lane).up = true → rx.crcOk = true →
    Completes (.lost l rx) s fun t => OnlyLeaf l s t ∧ (t.leaf l).tie.lostActing = true ∧ (t.leaf l).tieOk = false ∧
      (t.leaf l).tie.unacked = [] ∧ KeepsRegs (s.leaf l) (t.leaf l) [TIE_STAT.addr 0]) ∧
  (∀ (s : State) (l : LeafId) (k : Course), (s.leaf l).role = .follow → (s.leaf l).tie.isolatedAt = some k →
    3 ≤ since (s.leaf l).count k →
    Completes (.isolationEvidence l) s fun t =>
      ((∀ i, i < 48 → stb (pick (s.leaf l).gst i).body 157 142 = (tagOf (k + 1)).toNat →
          stb (pick (s.leaf l).gst i).body 141 138 = 3 → stb (pick (s.leaf l).gst i).body 137 136 = 1 + l.num) →
        (t.leaf l).role = .lead ∧ (t.leaf l).get TIE_STAT_PARTNER = 4) ∧
      ((∃ i, i < 48 ∧ stb (pick (s.leaf l).gst i).body 157 142 = (tagOf (k + 1)).toNat ∧
          stb (pick (s.leaf l).gst i).body 141 138 = 3 ∧ stb (pick (s.leaf l).gst i).body 137 136 ≠ 1 + l.num) →
        (t.leaf l).role = .out)) ∧
  (∀ (s : State) (l : LeafId), (s.leaf l).tie.isolatedAt = none → exec (.isolationEvidence l) s = .next s) ∧
  (∀ (s : State) (l : LeafId) (m : MarkRx), m.crcOk = true → (pick (s.leaf l).tie.lanes 0).marked = false →
    (pick (s.leaf l).tie.lanes 1).marked = false →
    Completes (.mark l m) s fun t => OnlyLeaf l s { t with fresh := s.fresh } ∧
      (pick (t.leaf l).tie.lanes m.lane).marked = true ∧ (t.leaf l).get TIE_STAT_PARTNER = m.state.toNat % 8 ∧
      (t.leaf l).tie.partnerLanes = m.state.getLsbD 4 ∧
      ((s.leaf l).role = .align → m.state.getLsbD 3 = true →
        (t.leaf l).get CRS_ALIGN_OFS = satSigned 16 m.offsetPs ∧
          (t.leaf l).get CRS_STAT_ALIGNED = bit (decide (m.offsetPs.natAbs ≤ 25000)))) ∧
  (∀ (s : State) (l : LeafId) (m : MarkRx), m.crcOk = false → exec (.mark l m) s = .next s) ∧
  (∀ (s : State) (l : LeafId), (s.leaf l).role = .follow → (s.leaf l).cut = false → (s.leaf l).tie.probeAt = none →
    Completes (.probe l) s fun t => OnlyLeaves s t ∧ (t.leaf l).tie.probeAt = some (s.leaf l).count ∧
      (t.leaf l).out = (s.leaf l).out ++ [Out.tie 0x04 ((s.leaf l).tie.txSeq + 1) [(s.leaf l).fine.toNat]] ∧
      (t.leaf l).regs = (s.leaf l).regs) ∧
  (∀ (s : State) (l : LeafId) (rx : Rx) (ps : Nat), (s.leaf l).role = .follow → (s.leaf l).laneOk rx.lane = true →
    rx.crcOk = true → (s.leaf l).tie.probeAt.isSome → (∀ j, j < 2 → j ≠ rx.lane.val →
      (pick (s.leaf l).tie.lanes j).round = 0 ∨
        ((pick (s.leaf l).tie.lanes j).round ≤ ps + 4000 ∧ ps ≤ (pick (s.leaf l).tie.lanes j).round + 4000)) →
    Completes (.echo l rx ps) s fun t => OnlyLeaf l s t ∧ (pick (t.leaf l).tie.lanes rx.lane).round = ps ∧
      (pick (t.leaf l).tie.lanes rx.lane).up = true ∧
      (t.leaf l).get ⟨TIE_LAT, if rx.lane = 0 then 63 else 47, if rx.lane = 0 then 48 else 32⟩ = min (ps / 20) 65535 ∧
      KeepsRegs (s.leaf l) (t.leaf l) [TIE_LAT.addr 0])

/-- The units of the tie link (R51, R431, R432, R436, R437, R440, R441, R443, R446, R548, R574, R595): a unit of a lane in
use, with its CRC and a new sequence number, has its effect, and one without changes nothing: a mirror that comes in time is
kept for the boundary, an acknowledged unit is no longer sent again, records, settings and requests are answered; CHECK names
the leaf held at fault; the health record closes its interval. Where the spec leaves a choice the statement rests on the
model's readings of log entries 2, 78, 79 and 80. -/
def Obligations.tie_units : Prop :=
  (∀ (s : State) (l : LeafId) (rx : Rx), rx.crcOk = false →
    (∀ m recs, exec (.keyed l rx m recs) s = .next s) ∧ (∀ m x f, exec (.thermal l rx m x f) s = .next s) ∧
    (∀ a q, exec (.ack l rx a q) s = .next s) ∧ (∀ r, exec (.ledger l rx r) s = .next s) ∧
    (∀ g d, exec (.settings l rx g d) s = .next s) ∧ (∀ b h c, exec (.voiceUnit l rx b h c) s = .next s) ∧
    (∀ d u, exec (.digest l rx d u) s = .next s) ∧ exec (.setup l rx) s = .next s ∧
    (∀ g a, exec (.check l rx g a) s = .next s) ∧ (∀ n d h v, exec (.head l rx n d h v) s = .next s) ∧
    (∀ w, exec (.request l rx w) s = .next s) ∧ (∀ g o c e, exec (.setdata l rx g o c e) s = .next s) ∧
    (∀ f c, exec (.mirfmt l rx f c) s = .next s) ∧ ∀ r h, exec (.superseded l rx r h) s = .next s) ∧
  (∀ (s : State) (l : LeafId) (rx : Rx) (m : Course) (recs : List KeyedRec), NewUnit (s.leaf l) rx →
    Completes (.keyed l rx m recs) s fun t => OnlyLeaf l s t ∧ (t.leaf l).regs = (s.leaf l).regs ∧
      (t.leaf l).tie.rxSeq = some rx.seq ∧ (t.leaf l).tie.keyedRx =
        if (s.leaf l).taking = true ∧ m = (s.leaf l).tie.snapAt ∧ (s.leaf l).count = m + 1 ∧ (s.leaf l).tick ≤ 3968 then some recs
        else (s.leaf l).tie.keyedRx) ∧
  (∀ (s : State) (l : LeafId) (rx : Rx) (m : Course) (x : List (Int × Int)) (f : BitVec 48), NewUnit (s.leaf l) rx →
    Completes (.thermal l rx m x f) s fun t => OnlyLeaf l s t ∧ (t.leaf l).regs = (s.leaf l).regs ∧
      (t.leaf l).tie.thermalRx =
        if (s.leaf l).taking = true ∧ m = (s.leaf l).tie.thermalAt ∧ (s.leaf l).count = m + 1 ∧ (s.leaf l).tick ≤ 3968 then
          some (x, f)
        else (s.leaf l).tie.thermalRx) ∧
  (∀ (s : State) (l : LeafId) (rx : Rx) (a : Nat) (q : BitVec 32), NewUnit (s.leaf l) rx →
    Completes (.ack l rx a q) s fun t => OnlyLeaf l s t ∧ (∀ u, u ∈ (t.leaf l).tie.unacked ↔
      u ∈ (s.leaf l).tie.unacked ∧ ¬ (u.typ = a ∧ u.seq = q))) ∧
  (∀ (s : State) (l : LeafId) (rx : Rx) (r : LRec), NewUnit (s.leaf l) rx → (s.leaf l).role = .lead →
    Completes (.ledger l rx r) s fun t => OnlyLeaf l s t ∧ (t.leaf l).ldg = (s.leaf l).ldg ∧ (t.leaf l).out = (s.leaf l).out) ∧
  (∀ (s : State) (l : LeafId) (rx : Rx) (r : LRec), NewUnit (s.leaf l) rx → (s.leaf l).role = .follow →
    (s.leaf l).cut = false → lrRecno r ≤ (s.leaf l).get LDG_HEAD_RECNO →
    Completes (.ledger l rx r) s fun t => OnlyLeaf l s t ∧ (t.leaf l).ldg = (s.leaf l).ldg ∧
      (t.leaf l).out = (s.leaf l).out ++ [ackOf (s.leaf l) 0x14 rx]) ∧
  (∀ (s : State) (l : LeafId) (q : BitVec 32) (u : Unacked), (s.leaf l).computing = true → (s.leaf l).cut = false →
    (s.leaf l).tie.unacked = [u] → u.seq = q → u.typ = 0x14 ∨ u.typ = 0x1E → 16 ≤ since (s.leaf l).count u.sent →
    Completes (.ledgerResend l q) s fun t => OnlyLeaf l s t ∧ (t.leaf l).regs = (s.leaf l).regs ∧
      (t.leaf l).out = (s.leaf l).out ++ [Out.tie u.typ ((s.leaf l).tie.txSeq + 1) u.payload] ∧
      (t.leaf l).tie.unacked = [⟨u.typ, (s.leaf l).tie.txSeq + 1, (s.leaf l).count, u.payload⟩]) ∧
  (∀ (s : State) (l : LeafId) (q : BitVec 32), (s.leaf l).tie.unacked = [] → exec (.ledgerResend l q) s = .next s) ∧
  (∀ (s : State) (l : LeafId) (rx : Rx), NewUnit (s.leaf l) rx → (s.leaf l).role = .align →
    Completes (.settings l rx (s.leaf l).inForce.gen (s.leaf l).inForce.digest) s fun t => OnlyLeaf l s t ∧
      (t.leaf l).tie.settingsDone = true ∧ (t.leaf l).regs = (s.leaf l).regs ∧ (t.leaf l).upd = (s.leaf l).upd) ∧
  (∀ (s : State) (l : LeafId) (rx : Rx) (g : Nat) (d : DigestId), NewUnit (s.leaf l) rx → (s.leaf l).role = .align →
    (s.leaf l).cut = false → (s.leaf l).inForce.gen ≠ g → (s.leaf l).upd.source = none →
    Completes (.settings l rx g d) s fun t => OnlyLeaf l s t ∧ (t.leaf l).tie.wantSet = some (g, d) ∧
      (t.leaf l).out = (s.leaf l).out ++
        [ackOf (s.leaf l) 0x15 rx, Out.tie 0x1B ((s.leaf l).tie.txSeq + 1 + 1) [1, g]]) ∧
  (∀ (s : State) (l : LeafId) (rx : Rx) (b : BitVec 4) (h : LeafId) (c : Course), NewUnit (s.leaf l) rx →
    isAfter (s.leaf l).count.toNat c.toNat 48 = true →
    Completes (.voiceUnit l rx b h c) s fun t => OnlyLeaf l s t ∧ (t.leaf l).regs = (s.leaf l).regs ∧
      ∀ k, k < 4 → (pick (t.leaf l).net.can k).voiceAt =
        if b.getLsbD k = true then some (c, h) else (pick (s.leaf l).net.can k).voiceAt) ∧
  (∀ (s : State) (l : LeafId) (rx : Rx) (d : BitVec 256) (u : DaySum), NewUnit (s.leaf l) rx →
    Completes (.digest l rx d u) s fun t => OnlyLeaf l s t ∧ (t.leaf l).his.baseDay = some u) ∧
  (∀ (s : State) (l : LeafId) (rx : Rx), NewUnit (s.leaf l) rx →
    Completes (.setup l rx) s fun t => OnlyLeaf l s t ∧ (t.leaf l).regs = (s.leaf l).regs ∧
      (t.leaf l).tie.setupSeen = some s.setupAgrees) ∧
  (∀ (s : State) (l : LeafId) (rx : Rx) (g : Fin 11) (agree : Bool), NewUnit (s.leaf l) rx → (s.leaf l).role = .follow →
    (s.leaf l.other).role = .lead →
    Completes (.check l rx g agree) s fun t => OnlyLeaves s t ∧ (if agree then
        (t.leaf l).crs.roleAt = some (namedAt (s.leaf l).count (s.leaf l).tick, .restart)
      else (t.leaf l.other).crs.roleAt = some (namedAt (s.leaf l.other).count (s.leaf l.other).tick, .restart) ∧
        (t.leaf l).crs.roleAt = some (namedAt (s.leaf l.other).count (s.leaf l.other).tick, .lead))) ∧
  (∀ (s : State) (l : LeafId) (rx : Rx) (n h : Nat) (d : BitVec 256) (v : Bool), NewUnit (s.leaf l) rx →
    Completes (.head l rx n d h v) s fun t => OnlyLeaf l s t ∧ (t.leaf l).tie.partnerHead = some (n, v) ∧
      ((s.leaf l).role ≠ .align → (t.leaf l).regs = (s.leaf l).regs ∧ (t.leaf l).ldg = (s.leaf l).ldg)) ∧
  (∀ (s : State) (l : LeafId) (rx : Rx), NewUnit (s.leaf l) rx →
    Completes (.request l rx (.settings (s.leaf l).inForce.gen)) s fun t => OnlyLeaf l s t ∧ (t.leaf l).regs = (s.leaf l).regs ∧
      (t.leaf l).tie.slow = (s.leaf l).tie.slow ++ [(0x1C, [(s.leaf l).inForce.gen, 0, (s.leaf l).inForce.digest, 1])]) ∧
  (∀ (s : State) (l : LeafId) (rx : Rx) (g off : Nat) (c : DigestId), NewUnit (s.leaf l) rx →
    (s.leaf l).tie.wantSet.isSome →
    Completes (.setdata l rx g off c false) s fun t => OnlyLeaf l s t ∧ (t.leaf l).regs = (s.leaf l).regs ∧
      (t.leaf l).tie.setData = (s.leaf l).tie.setData ++ [(off, c)]) ∧
  (∀ (s : State) (l : LeafId) (rx : Rx) (g : Nat) (c : DigestId), NewUnit (s.leaf l) rx →
    (s.leaf l).tie.wantSet = some (g, c) → (s.leaf l).tie.setData = [] →
    Completes (.setdata l rx g 0 c true) s fun t => OnlyLeaf l s t ∧ (t.leaf l).tie.settingsDone = true ∧
      (t.leaf l).tie.wantSet = none ∧ (t.leaf l).upd.current = some (s.leaf l.other).inForce) ∧
  (∀ (s : State) (l : LeafId) (rx : Rx) (f : Nat) (c : Course), NewUnit (s.leaf l) rx → (s.leaf l).role = .align →
    (s.leaf l).running.mirMin ≤ f → f ≤ (s.leaf l).running.mirMax →
    Completes (.mirfmt l rx f c) s fun t => OnlyLeaf l s t ∧ (t.leaf l).regs = (s.leaf l).regs ∧
      (t.leaf l).tie.mirNext = some (f, c)) ∧
  (∀ (s : State) (l : LeafId) (rx : Rx) (f : Nat) (c : Course), NewUnit (s.leaf l) rx → (s.leaf l).role = .align →
    (s.leaf l).tie.restartTry = 0 → f < (s.leaf l).running.mirMin ∨ (s.leaf l).running.mirMax < f →
    Completes (.mirfmt l rx f c) s fun t => (t.leaf l).role = .restart ∧ (t.leaf l).tie.restartTry = 1) ∧
  (∀ (s : State) (l : LeafId) (rx : Rx) (r : LRec) (h : LeafId), NewUnit (s.leaf l) rx →
    Completes (.superseded l rx r h) s fun t => OnlyLeaf l s t ∧
      (t.leaf l).ldg.superseded = (s.leaf l).ldg.superseded ++ [r] ∧ KeepsRegs (s.leaf l) (t.leaf l) [LDG_FLT.addr 0]) ∧
  (∀ (s : State) (l : LeafId), (s.leaf l).computing = true → 1600 ≤ since (s.leaf l).count (s.leaf l).tie.healthAt →
    Completes (.healthRecord l) s fun t => OnlyLeaf l s t ∧ (t.leaf l).tie.healthAt = (s.leaf l).count ∧
      (t.leaf l).tie.hOfs = 0 ∧ (t.leaf l).tie.hDivCourses = 0 ∧ (t.leaf l).tie.hEcc = 0 ∧
      (t.leaf l).get ⟨TIE_HEALTH, 63, 61⟩ = (s.leaf l).role.code ∧
      KeepsRegs (s.leaf l) (t.leaf l) (TIE_HEALTH.addr 0 :: reportRegs)) ∧
  (∀ (s : State) (l : LeafId), (s.leaf l).computing = false → exec (.healthRecord l) s = .next s)

/-- The requests of IR2 that name their response in the descriptor alone, with their opcodes. -/
def plainService : Instr → Option (LeafId × Desc × Nat)
  | .ledgerStatus l d => some (l, d, 0x81)
  | .getKeys l d => some (l, d, 0x82)
  | .readSuperseded l d => some (l, d, 0x83)
  | .readHistory l d => some (l, d, 0x84)
  | _ => none

/-- Service requests (R480, R545, R550 to R552, R559): a request on IR2 that passes its checks is queued by the LEAD leaf and
kept by the FOLLOW leaf; a count out of range is refused with 0x0105; a record unreadable in both copies is noted as missing;
a grade is built, answered and anchored by a record; a datagram is taken only while NET_EN is 1, and the FOLLOW leaf's agent
refuses GRADE; a service slice sends the head request's next 32 bytes, on OR9 or to the sender, at shedding level 0, and the
last part ends it. Where the spec leaves a choice the statement rests on the model's readings of log entries 2 and 91. -/
def Obligations.service_requests : Prop :=
  (∀ (s : State) (c : Instr) (l : LeafId) (d : Desc) (op : Nat) (L : Leaf) (h : Hdr) (k : SvcKind),
    plainService c = some (l, d, op) → Reads (s.leaf l) 2 op d L h → svcKindOf op d.bytes = .ok k →
    (L.role = .lead →
      exec c s = .next (s.setLeaf l { L with svc := { L.svc with queue := L.svc.queue ++ [⟨h, op, k, 0, none⟩] } })) ∧
    (L.role ≠ .lead →
      exec c s = .next (s.setLeaf l { L with svc := { L.svc with consumed := L.svc.consumed ++ [h] } }))) ∧
  (∀ b : Slot, svcKindOf 0x81 b = .ok .status ∧ svcKindOf 0x82 b = .ok .keys ∧
    svcKindOf 0x83 b = .ok (.superseded (sl b 24 8) (sl b 32 4)) ∧
    (sl b 28 2 ≠ 0 → sl b 28 2 ≤ 24 →
      svcKindOf 0x84 b = .ok (.history (sl b 24 4) (sl b 28 2) (slBits b 30 1 0 0 == 1)))) ∧
  (∀ (s : State) (l : LeafId) (d : Desc) (L : Leaf) (h : Hdr), Reads (s.leaf l) 2 0x84 d L h → L.role = .lead →
    sl d.bytes 28 2 = 0 ∨ 24 < sl d.bytes 28 2 →
    exec (.readHistory l d) s = .next (s.setLeaf l (L.complete h 0x0105 0 28))) ∧
  (∀ (s : State) (l : LeafId) (d : Desc) (L : Leaf) (h : Hdr), Reads (s.leaf l) 2 0x80 d L h → L.role = .lead →
    sl d.bytes 32 4 ≠ 0 → sl d.bytes 32 4 ≤ 65536 →
    exec (.readRecords l d [] []) s = .next (s.setLeaf l { L with svc := { L.svc with
      queue := L.svc.queue ++ [⟨h, 0x80, .records (sl d.bytes 24 8) (sl d.bytes 32 4), 0, none⟩] } })) ∧
  (∀ (s : State) (l : LeafId) (d : Desc) (L : Leaf) (h : Hdr) (n : Nat), Reads (s.leaf l) 2 0x80 d L h →
    L.ldg.archive.any (fun r => lrRecno r == n) = true →
    Completes (.readRecords l d [] [n]) s fun t => OnlyLeaf l s t ∧ (t.leaf l).findRecord n = none) ∧
  (∀ (s : State) (l : LeafId) (d : Desc) (L : Leaf) (h : Hdr), Reads (s.leaf l) 2 0x85 d L h → L.role = .lead →
    Completes (.grade l d) s fun t => OnlyLeaf l s t ∧ (t.leaf l).his.gradeAt.isSome ∧
      (t.leaf l).his.gradeReqs = L.his.gradeReqs ++ [⟨h, 0x85, .grade, 0, none⟩] ∧ (t.leaf l).regs = L.regs) ∧
  (∀ (s : State) (l : LeafId) (r : SvcReq), (s.leaf l).his.gradeAt.isSome → (s.leaf l).get ASH_STAT_SHED = 0 →
    (s.leaf l).his.gradeReqs = [r] →
    Completes (.gradeComplete l) s fun t => OnlyLeaf l s t ∧ (t.leaf l).svc.queue = (s.leaf l).svc.queue ++ [r] ∧
      (t.leaf l).his.gradeAt = none ∧ (t.leaf l).his.gradeReqs = [] ∧
      ((s.leaf l).role = .lead → (s.leaf l).get LDG_STAT_FREE ≠ 0 →
        ∃ x, (t.leaf l).ldg.ring = (s.leaf l).ldg.ring ++ [x] ∧ lrTyp x.rec_ = 0x0C)) ∧
  (∀ (s : State) (l : LeafId), (s.leaf l).his.gradeAt = none → exec (.gradeComplete l) s = .next s) ∧
  (∀ (s : State) (l : LeafId) (port mac ip udp : Nat) (b : Slot) (k : SvcKind), (s.leaf l).on LDG_CTRL_NET_EN = true →
    udp = (s.leaf l).get LDG_CTRL_NET_PORT → (s.leaf l).carrying = true → svcKindOf (opcode b) b = .ok k → k ≠ .grade →
    Completes (.netServiceRequest l port mac ip udp b) s fun t => OnlyLeaf l s t ∧ (t.leaf l).regs = (s.leaf l).regs ∧
      (t.leaf l).svc.queue = (s.leaf l).svc.queue ++ [⟨⟨2, false, 0, 0, 0, 0⟩, opcode b, k, 0, some (port, mac, ip)⟩]) ∧
  (∀ (s : State) (l : LeafId) (port mac ip udp : Nat) (b : Slot), (s.leaf l).on LDG_CTRL_NET_EN = true →
    udp = (s.leaf l).get LDG_CTRL_NET_PORT → (s.leaf l).role = .follow → (s.leaf l).cut = false → opcode b = 0x85 →
    Completes (.netServiceRequest l port mac ip udp b) s fun t => OnlyLeaf l s t ∧ (t.leaf l).svc = (s.leaf l).svc ∧
      (t.leaf l).out = (s.leaf l).out ++ [Out.eth port 48 (svcPart ⟨⟨2, false, 0, 0, 0, 0⟩, 0x85, .status, 0,
        some (port, mac, ip)⟩ 2 true true 0x0201).toNat]) ∧
  (∀ (s : State) (l : LeafId) (port mac ip udp : Nat) (b : Slot), (s.leaf l).on LDG_CTRL_NET_EN = false →
    exec (.netServiceRequest l port mac ip udp b) s = .next s) ∧
  (∀ (L : Leaf) (r : SvcReq) (rest : List SvcReq), L.get ASH_STAT_SHED = 0 → L.svc.queue = r :: rest → r.net = none →
    L.ringOpen 9 = true → queued L.hre.locQ 9 < 64 →
    L.serveRequests = { L with
      svc := { L.svc with queue := if L.svcLen r.kind ≤ 32 * (r.part + 1) then rest else { r with part := r.part + 1 } :: rest }
      hre := { L.hre with locQ := L.hre.locQ ++ [{ ring := 9, isLocal := true, course := L.count
                                                   body := svcPart r (min 32 (L.svcLen r.kind - 32 * r.part)) false
                                                     (decide (L.svcLen r.kind ≤ 32 * (r.part + 1))) (L.svcChunk r.part r.kind) }] } }) ∧
  (∀ (L : Leaf) (r : SvcReq) (rest : List SvcReq) (port mac ip : Nat), L.get ASH_STAT_SHED = 0 → L.svc.queue = r :: rest →
    r.net = some (port, mac, ip) → L.cut = false →
    L.serveRequests = { L with
      svc := { L.svc with queue := if L.svcLen r.kind ≤ 32 * (r.part + 1) then rest else { r with part := r.part + 1 } :: rest }
      out := L.out ++ [.eth port 48 (svcPart r (min 32 (L.svcLen r.kind - 32 * r.part)) false
        (decide (L.svcLen r.kind ≤ 32 * (r.part + 1))) (L.svcChunk r.part r.kind)).toNat] }) ∧
  (∀ L : Leaf, L.get ASH_STAT_SHED ≠ 0 → L.serveRequests = L)

/-- The ledger and the battery history (R538, R539, R543 to R545, R555 to R558): the LEAD leaf writes a record each minute,
and of another type each hour, while slots are free; a capstone is signed, computed once more after a failed check, and then
stored with SIG_FAILED; carry words alternate; an archived record frees its slot; an hour closes, and a day after 24 of them;
a BMS quantity goes stale; a qualified current step gives a resistance estimate. Where the spec leaves a choice the statement
rests on the model's readings of log entries 2, 88, 89 and 90. -/
def Obligations.ledger_and_history : Prop :=
  (∀ (s : State) (l : LeafId), (s.leaf l).role = .lead → (s.leaf l).count.toNat % 9600000 = 0 →
    (s.leaf l).ldg.minuteAt ≠ some (s.leaf l).count → 64 ≤ (s.leaf l).get LDG_STAT_FREE →
    (s.leaf l).get LDG_HEAD_RECNO + 1 < 2 ^ 64 →
    Completes (.minute l) s fun t => OnlyLeaf l s t ∧
      (t.leaf l).get LDG_HEAD_RECNO = (s.leaf l).get LDG_HEAD_RECNO + 1 ∧
      (t.leaf l).get LDG_STAT_FREE = (s.leaf l).get LDG_STAT_FREE - 1 ∧
      ∃ x, (t.leaf l).ldg.ring = (s.leaf l).ldg.ring ++ [x] ∧
        lrTyp x.rec_ = if (s.leaf l).count.toNat % 576000000 = 0 then 2 else 1) ∧
  (∀ (s : State) (l : LeafId), (s.leaf l).role = .lead → (s.leaf l).count.toNat % 9600000 = 0 →
    (s.leaf l).count.toNat % 576000000 ≠ 0 → (s.leaf l).ldg.minuteAt ≠ some (s.leaf l).count →
    (s.leaf l).get LDG_STAT_FREE ≠ 0 → (s.leaf l).get LDG_STAT_FREE < 64 →
    Completes (.minute l) s fun t => OnlyLeaf l s t ∧ (t.leaf l).regs = (s.leaf l).regs ∧
      (t.leaf l).ldg.ring = (s.leaf l).ldg.ring) ∧
  (∀ (s : State) (l : LeafId), (s.leaf l).role ≠ .lead → exec (.minute l) s = .next s) ∧
  (∀ (s : State) (l : LeafId) (sig : BitVec 512) (r : LStored), (s.leaf l).ldg.ring.find? (·.pending) = some r →
    (s.leaf l).get ASH_STAT_SHED = 0 → (s.leaf l).role = .lead →
    Completes (.signatureComplete l sig true) s fun t => OnlyLeaf l s t ∧
      (t.leaf l).ldg.ring = signFirst (fun x => ⟨⟨x.rec_.head, sig⟩, false, x.retried⟩) (s.leaf l).ldg.ring ∧
      (t.leaf l).get LDG_STAT_SIGN_PENDING = (s.leaf l).get LDG_STAT_SIGN_PENDING - 1 ∧
      (r.retried = true → (t.leaf l).get LDG_CNT_SIG_RETRY =
        min ((s.leaf l).get LDG_CNT_SIG_RETRY + 1) LDG_CNT_SIG_RETRY.max)) ∧
  (∀ (s : State) (l : LeafId) (sig : BitVec 512) (r : LStored), (s.leaf l).ldg.ring.find? (·.pending) = some r →
    (s.leaf l).get ASH_STAT_SHED = 0 → (s.leaf l).role = .lead →
    Completes (.signatureComplete l sig false) s fun t => OnlyLeaf l s t ∧
      (r.retried = false → (t.leaf l).regs = (s.leaf l).regs ∧
        (t.leaf l).ldg.ring = signFirst (fun x => ⟨x.rec_, x.pending, true⟩) (s.leaf l).ldg.ring) ∧
      (r.retried = true → (t.leaf l).get (ldgFlag 5) = 1 ∧
        (t.leaf l).get LDG_STAT_SIGN_PENDING = (s.leaf l).get LDG_STAT_SIGN_PENDING - 1)) ∧
  (∀ (s : State) (l : LeafId) (sig : BitVec 512) (v : Bool), (s.leaf l).get ASH_STAT_SHED ≠ 0 →
    exec (.signatureComplete l sig v) s = .next s) ∧
  (∀ (s : State) (l : LeafId), 1600 ≤ since (s.leaf l).count (s.leaf l).ldg.carryAt →
    Completes (.carryWordWrite l) s fun t => OnlyLeaf l s t ∧ (t.leaf l).regs = (s.leaf l).regs ∧
      (t.leaf l).ldg.carryAt = (s.leaf l).count ∧ (t.leaf l).ldg.carryNextB = !(s.leaf l).ldg.carryNextB ∧
      (let w : CarryWord := ⟨(s.leaf l).energies, (s.leaf l).ldg.gap, (s.leaf l).get LDG_HEAD_RECNO, (s.leaf l).count⟩
       if (s.leaf l).ldg.carryNextB = true then (t.leaf l).ldg.carryB = w ∧ (t.leaf l).ldg.carryA = (s.leaf l).ldg.carryA
       else (t.leaf l).ldg.carryA = w ∧ (t.leaf l).ldg.carryB = (s.leaf l).ldg.carryB)) ∧
  (∀ (s : State) (l : LeafId) (r : LStored) (rest : List LStored), (s.leaf l).ldg.ring = r :: rest → r.pending = false →
    (s.leaf l).get LDG_STAT_FREE < 65535 →
    Completes (.archiveComplete l) s fun t => OnlyLeaf l s t ∧ (t.leaf l).ldg.ring = rest ∧
      (t.leaf l).ldg.archive = (s.leaf l).ldg.archive ++ [r.rec_] ∧
      (t.leaf l).get LDG_STAT_FREE = (s.leaf l).get LDG_STAT_FREE + 1 ∧ KeepsRegs (s.leaf l) (t.leaf l) [LDG_STAT.addr 0]) ∧
  (∀ (s : State) (l : LeafId) (r : LStored) (rest : List LStored), (s.leaf l).ldg.ring = r :: rest → r.pending = true →
    exec (.archiveComplete l) s = .next s) ∧
  (∀ (s : State) (l : LeafId), (s.leaf l).count.toNat % 576000000 = 0 → (s.leaf l).his.closedAt ≠ some (s.leaf l).count →
    Completes (.historyHour l) s fun t => OnlyLeaf l s t ∧ (t.leaf l).his.closedAt = some (s.leaf l).count ∧
      (t.leaf l).his.estimates = [] ∧
      ((s.leaf l).his.dayHours < 23 → (t.leaf l).his.days = (s.leaf l).his.days ∧
        (t.leaf l).his.dayHours = (s.leaf l).his.dayHours + 1 ∧ (t.leaf l).out = (s.leaf l).out) ∧
      (23 ≤ (s.leaf l).his.dayHours → (t.leaf l).his.dayHours = 0 ∧
        ∃ d, (t.leaf l).his.days = (s.leaf l).his.days ++ [d])) ∧
  (∀ (s : State) (l : LeafId), (s.leaf l).count.toNat % 576000000 ≠ 0 → exec (.historyHour l) s = .next s) ∧
  (∀ (s : State) (l : LeafId) (q : Fin 8) (i : Fin 1024) (v : Int) (c : Course),
    kvFind (s.leaf l).his.bms (1024 * q + i) = some (v, c) →
    16000 * (s.leaf l).get HIS_CTRL_MAP_TO ≤ since (s.leaf l).count c → (s.leaf l).his.stale.contains (1024 * q + i) = false →
    Completes (.bmsStale l q i) s fun t => OnlyLeaf l s t ∧ (t.leaf l).bms q i = none ∧ (t.leaf l).get HIS_STAT_STALE = 1 ∧
      (t.leaf l).get (hisFlag 0) = 1) ∧
  (∀ (s : State) (l : LeafId) (q : Fin 8) (i : Fin 1024), kvFind (s.leaf l).his.bms (1024 * q + i) = none →
    exec (.bmsStale l q i) s = .next s) ∧
  (∀ (s : State) (l : LeafId) (c : Course) (iPre vPre : Rat) (ok : Bool), (s.leaf l).his.step = some (c, iPre, vPre, ok) →
    1600 ≤ since (s.leaf l).count c →
    Completes (.resistanceStep l) s fun t => OnlyLeaf l s t ∧ (t.leaf l).his.step = none ∧
      (ok = false → (t.leaf l).his.estimates = (s.leaf l).his.estimates ∧ (t.leaf l).regs = (s.leaf l).regs) ∧
      (∀ i v : Rat, ok = true → (s.leaf l).his.recent = List.replicate 160 (i, v) → (s.leaf l).his.estimates.length < 512 →
        (((s.leaf l).get HIS_CTRL_RSTEP : Nat) : Rat) ≤ ratAbs (i - iPre) →
        (t.leaf l).his.estimates.length = (s.leaf l).his.estimates.length + 1 ∧
          (t.leaf l).get HIS_CNT_R_EST = min ((s.leaf l).get HIS_CNT_R_EST + 1) HIS_CNT_R_EST.max)) ∧
  (∀ (s : State) (l : LeafId), (s.leaf l).his.step = none → exec (.resistanceStep l) s = .next s)

/-- Images and settings generations (R566, R569 to R572, R575 to R577, R582, R610): a stream is opened, filled in order,
closed and verified: what fails a check shows the check's byte and leaves the slots as they were, what passes fills the other
slot or stands staged; the committed commands activate, confirm, revert and apply in both leaves; a long mixed interval is
reported; the integrator key is enrolled in WORKSHOP under its right. Where the spec leaves a choice the statement rests on
the model's readings of log entries 2, 92 and 94. -/
def Obligations.images_and_generations : Prop :=
  (∀ (s : State) (l : LeafId) (d : Desc) (x : BitVec 2560) (L : Leaf) (h : Hdr), Reads (s.leaf l) 9 0x90 d L h →
    sl d.bytes 17 1 = 1 ∨ (sl d.bytes 17 1 = 2 ∧ h.target = 0 ∧ (hfOld x = false ∨ L.upd.source = none)) →
    sl d.bytes 32 4 = 320 → bufferOk (sl d.bytes 24 8) 320 4096 = true → L.upd.stream = none → s.updOpen = false →
    Completes (.streamOpen l d x true) s fun t => OnlyLeaf l s t ∧
      (t.leaf l).upd.stream = some ⟨x, sl d.bytes 17 1, h.target, none⟩ ∧ (t.leaf l).get UPD_STRM_STATE = 1 ∧
      (t.leaf l).get UPD_STRM_KIND = sl d.bytes 17 1 ∧ (t.leaf l).get UPD_STRM_BYTES = 0 ∧
      (sl d.bytes 17 1 = 1 → (pick (t.leaf l).upd.slots (1 - L.upd.active)).valid = false)) ∧
  (∀ (s : State) (l : LeafId) (d : Desc) (x : BitVec 2560) (b : Bool) (L : Leaf) (h : Hdr), Reads (s.leaf l) 9 0x90 d L h →
    sl d.bytes 17 1 ≠ 1 → sl d.bytes 17 1 ≠ 2 →
    exec (.streamOpen l d x b) s = .next (s.setLeaf l (L.complete h 0x0105 0 17))) ∧
  (∀ (s : State) (l : LeafId) (d : Desc) (L : Leaf) (h : Hdr) (st : Stream), Reads (s.leaf l) 9 0x91 d L h →
    bufferOk (sl d.bytes 24 8) (sl d.bytes 32 4) 4096 = true → L.upd.stream = some st → st.closedAt = none →
    (sl d.bytes 36 8 = L.get UPD_STRM_BYTES → L.get UPD_STRM_BYTES + sl d.bytes 32 4 ≤ UPD_STRM_BYTES.max →
      Completes (.streamData l d true) s fun t => OnlyLeaf l s t ∧ (t.leaf l).upd = L.upd ∧
        (t.leaf l).get UPD_STRM_BYTES = L.get UPD_STRM_BYTES + sl d.bytes 32 4) ∧
    (sl d.bytes 36 8 ≠ L.get UPD_STRM_BYTES → ∀ b,
      exec (.streamData l d b) s = .next (s.setLeaf l (L.complete h 0x0105 0 36)))) ∧
  (∀ (s : State) (l : LeafId) (d : Desc) (L : Leaf) (h : Hdr) (st : Stream), Reads (s.leaf l) 9 0x92 d L h →
    L.upd.stream = some st → st.closedAt = none →
    Completes (.streamClose l d) s fun t => OnlyLeaf l s t ∧ (t.leaf l).get UPD_STRM_STATE = 2 ∧
      (t.leaf l).upd.stream = some ⟨st.header, st.kind, st.target, some L.count⟩) ∧
  (∀ (s : State) (l : LeafId) (d : Desc) (L : Leaf) (h : Hdr), Reads (s.leaf l) 9 0x93 d L h → L.upd.stream.isSome →
    Completes (.streamAbort l d) s fun t => OnlyLeaf l s t ∧ (t.leaf l).upd.stream = none ∧
      (t.leaf l).get UPD_STRM_STATE = 0) ∧
  (∀ (s : State) (l : LeafId) (st : Stream) (a b p : Bool) (g : Settings) (k : Nat), (s.leaf l).upd.stream = some st →
    st.closedAt.isSome → (s.leaf l).failedCheck s.variantEv st.header a b p = some k →
    Completes (.verifyComplete l a b p g) s fun t => OnlyLeaf l s t ∧ (t.leaf l).get UPD_STRM_STATE = 4 ∧
      (t.leaf l).get UPD_STRM_DETAIL = k ∧ (t.leaf l).get (UPD_FLT_FLAGS.bit 0) = 1 ∧ (t.leaf l).upd.stream = none ∧
      (t.leaf l).upd.slots = (s.leaf l).upd.slots ∧ (t.leaf l).upd.staged = (s.leaf l).upd.staged) ∧
  (∀ (s : State) (l : LeafId) (st : Stream) (a b p : Bool) (g : Settings), (s.leaf l).upd.stream = some st →
    st.closedAt.isSome → (s.leaf l).failedCheck s.variantEv st.header a b p = none →
    Completes (.verifyComplete l a b p g) s fun t => OnlyLeaf l s t ∧ (t.leaf l).get UPD_STRM_STATE = 3 ∧
      (t.leaf l).upd.stream = none ∧ (t.leaf l).upd.current = (s.leaf l).upd.current ∧
      (hfSettings st.header = true → (t.leaf l).upd.staged.isSome ∧ (t.leaf l).upd.slots = (s.leaf l).upd.slots) ∧
      (hfSettings st.header = false → (t.leaf l).upd.staged = (s.leaf l).upd.staged ∧
        (pick (t.leaf l).upd.slots (1 - (s.leaf l).upd.active)).valid = true ∧
        (pick (t.leaf l).upd.slots (1 - (s.leaf l).upd.active)).secver = hf st.header 8 4)) ∧
  (∀ (s : State) (l : LeafId) (a b p : Bool) (g : Settings), (s.leaf l).upd.stream = none →
    exec (.verifyComplete l a b p g) s = .next s) ∧
  (∀ (s : State) (l : LeafId) (w : Word), (s.takeModule UPD_CMD.base 63 [62, 61, 60]).1 = some w →
    w.getLsbD 59 = decide (l = .leaf1) → s.leadId ≠ some l →
    Completes .activate s fun t => OnlyLeaves s t ∧ (t.leaf l).upd.active = 1 - (s.leaf l).upd.active ∧
      (t.leaf l).upd.trial = true ∧ (t.leaf l).crs.roleAt = some ((s.leaf l).count + 1, .restart) ∧
      (t.leaf l.other).upd = (s.leaf l.other).upd) ∧
  (∀ s : State, (s.takeModule UPD_CMD.base 63 [62, 61, 60]).1 = none → exec .activate s = .next s) ∧
  (∀ s : State, (s.takeModule UPD_CMD.base 62 [63, 61, 60]).1.isSome →
    Completes .confirm s fun t => OnlyLeaves s t ∧ ∀ l, (t.leaf l).upd.trial = false ∧ (t.leaf l).upd.genUnconf = false ∧
      (t.leaf l).upd.source = none ∧ (t.leaf l).upd.current = (s.leaf l).upd.current ∧
      (t.leaf l).upd.floorP = (if (s.leaf l).upd.trial = true then
          max (s.leaf l).upd.floorP (pick (s.leaf l).upd.slots (s.leaf l).upd.active).secver else (s.leaf l).upd.floorP)) ∧
  (∀ (s : State) (g : LeafId → Settings), (s.takeModule UPD_CMD.base 61 [63, 62, 60]).1.isSome →
    (∀ l, (s.leaf l).upd.genUnconf = true ∧ (s.leaf l).upd.previous = some (g l) ∧ (s.leaf l).upd.trial = false) →
    Completes .revert s fun t => OnlyLeaves s t ∧ ∀ l, (t.leaf l).upd.current = some (g l) ∧
      (t.leaf l).upd.genUnconf = false ∧ (t.leaf l).upd.slots = (s.leaf l).upd.slots) ∧
  (∀ (s : State) (g : LeafId → Settings), (s.takeModule UPD_CMD.base 60 [63, 62, 61]).1.isSome →
    (∀ l, (s.leaf l).upd.staged = some (g l)) →
    Completes .setApply s fun t => OnlyLeaves s t ∧ ∀ l, (t.leaf l).upd.current = some (g l) ∧
      (t.leaf l).upd.previous = (s.leaf l).upd.current ∧ (t.leaf l).upd.staged = none ∧ (t.leaf l).upd.genUnconf = true) ∧
  (∀ s : State, (s.takeModule UPD_CMD.base 60 [63, 62, 61]).1 = none → exec .setApply s = .next s) ∧
  (∀ (s : State) (l : LeafId) (c : Course), (s.leaf l).upd.mixedAt = some c →
    160000 * (s.leaf l).get UPD_CTRL_MIX_WARN < since (s.leaf l).count c → (s.leaf l).upd.mixEventAt = none →
    Completes (.mixLong l) s fun t => OnlyLeaf l s t ∧ (t.leaf l).get (UPD_FLT_FLAGS.bit 4) = 1 ∧
      (t.leaf l).upd.mixEventAt = some (s.leaf l).count) ∧
  (∀ (s : State) (l : LeafId), (s.leaf l).upd.mixedAt = none → exec (.mixLong l) s = .next s) ∧
  (∀ (s : State) (k : BitVec 256) (who : Ident), s.mode = .workshop → s.sec.who ≠ 0 → s.sec.who = who →
    s.sec.rights.getLsbD 3 = true →
    Completes (.enrol k who) s fun t => OnlyLeaves s t ∧
      ∀ l, (t.leaf l).upd.ikey = some k ∧ (t.leaf l).get SEC_STAT_IKEY = 1 ∧ (t.leaf l).get (SEC_FLT_FLAGS.bit 2) = 1) ∧
  (∀ (s : State) (k : BitVec 256) (who : Ident), s.mode ≠ .workshop ∨ s.sec.rights.getLsbD 3 = false →
    exec (.enrol k who) s = .next s)

/-- Self-test in service, the diagnostic window and the service port (R602 to R613): a memory step advances the sweep, and a
segment that fails twice is mapped to a spare; scrubbing counts what it corrects; a full BIST takes a FOLLOW leaf out of its
role and ends in RESTART or OUT; a session opens with a nonce, is granted the rights asked for, certified and allowed, is
locked out after three failures, and ends with its rights; halts in CARRY silence the leaf; scan cuts both leaves; keys and
the production lock need the session of production. Where the spec leaves a choice the statement rests on the model's readings
of log entries 2, 95 and 96. -/
def Obligations.self_test_and_service_port : Prop :=
  (∀ (s : State) (l : LeafId) (a b : Bool), (s.leaf l).computing = true →
    (s.leaf l).get BST_CTRL_MEM_GAP + 160 ≤ since (s.leaf l).count (s.leaf l).bst.stepEnd → a = true ∨ b = true →
    Completes (.memoryTestStep l a b) s fun t => OnlyLeaf l s t ∧
      (t.leaf l).get BST_MEM_SEG = ((s.leaf l).get BST_MEM_SEG + 1) % 688 ∧ (t.leaf l).bst.stepEnd = (s.leaf l).count ∧
      (t.leaf l).get BST_CNT_MEM_STEPS = min ((s.leaf l).get BST_CNT_MEM_STEPS + 1) BST_CNT_MEM_STEPS.max ∧
      (t.leaf l).get BST_STAT_PASS = 1 ∧ (t.leaf l).bst.badSegs = (s.leaf l).bst.badSegs ∧
      (a = false → (t.leaf l).get BST_CNT_TRANS = min ((s.leaf l).get BST_CNT_TRANS + 1) BST_CNT_TRANS.max)) ∧
  (∀ (s : State) (l : LeafId), (s.leaf l).computing = true →
    (s.leaf l).get BST_CTRL_MEM_GAP + 160 ≤ since (s.leaf l).count (s.leaf l).bst.stepEnd →
    (s.leaf l).bst.badSegs.contains ((s.leaf l).get BST_MEM_SEG) = false →
    pick (s.leaf l).bst.spares (segMemory ((s.leaf l).get BST_MEM_SEG)) < 2 →
    Completes (.memoryTestStep l false false) s fun t => OnlyLeaf l s t ∧
      (t.leaf l).bst.badSegs = (s.leaf l).bst.badSegs ++ [(s.leaf l).get BST_MEM_SEG] ∧
      (t.leaf l).get (BST_FLT_FLAGS.bit 0) = 1 ∧
      (t.leaf l).get BST_MEM_SPARES_USED = min ((s.leaf l).get BST_MEM_SPARES_USED + 1) BST_MEM_SPARES_USED.max) ∧
  (∀ (s : State) (l : LeafId) (a b : Bool), (s.leaf l).computing = false → exec (.memoryTestStep l a b) s = .next s) ∧
  (∀ (s : State) (l : LeafId) (w : Byte), (s.leaf l).computing = true →
    Completes (.scrub l none true w) s fun t => OnlyLeaf l s t ∧ (t.leaf l).get BST_SCRUB_DRAM_PROG = w.toNat ∧
      KeepsRegs (s.leaf l) (t.leaf l) [BST_SCRUB.addr 0]) ∧
  (∀ (s : State) (l : LeafId) (w : Byte), (s.leaf l).computing = true →
    Completes (.scrub l (some (.keystoneSram, true)) false w) s fun t => OnlyLeaf l s t ∧
      (t.leaf l).get BST_SCRUB_SRAM_CE = min ((s.leaf l).get BST_SCRUB_SRAM_CE + 1) BST_SCRUB_SRAM_CE.max ∧
      (t.leaf l).tie.hEcc = (s.leaf l).tie.hEcc + 1 ∧ KeepsRegs (s.leaf l) (t.leaf l) [BST_SCRUB.addr 0]) ∧
  (∀ (s : State) (l : LeafId), s.setup = true → s.refuseFull l = false → s.leadId ≠ some l →
    Completes (.fullBist l true) s fun t => OnlyLeaf l s t ∧ (t.leaf l).tie.cause = causeBist ∧
      (t.leaf l).crs.roleAt = some ((s.leaf l).count + 1, .restart)) ∧
  (∀ (s : State) (l : LeafId), s.setup = true → s.refuseFull l = true →
    Completes (.fullBist l true) s fun t => OnlyLeaf l s t ∧ (t.leaf l).crs = (s.leaf l).crs ∧
      KeepsRegs (s.leaf l) (t.leaf l) reportRegs) ∧
  (∀ (s : State) (l : LeafId) (r : BistRes) (c : Course), (s.leaf l).role = .restart → (s.leaf l).bst.fullAt = some c →
    33600 ≤ since (s.leaf l).count c →
    Completes (.fullBistComplete l r) s fun t => (t.leaf l).bst.fullAt = none ∧
      ((∀ u ∈ r.failed, u.val = 0 ∨ u.val = 4 ∨ u.val = 7) → OnlyLeaf l s t ∧ (t.leaf l).role = .restart ∧
        (t.leaf l).tie.restartAt = (s.leaf l).count ∧ (t.leaf l).get BST_STAT_BUSY = 0) ∧
      ((∃ u ∈ r.failed, u.val ≠ 0 ∧ u.val ≠ 4 ∧ u.val ≠ 7) → (t.leaf l).role = .out ∧
        ((s.leaf l).sns.step = none → (t.leaf l).get (BST_FLT_FLAGS.bit 2) = 1))) ∧
  (∀ (s : State) (l : LeafId) (r : BistRes), (s.leaf l).bst.fullAt = none → exec (.fullBistComplete l r) s = .next s) ∧
  (∀ (s : State) (l : LeafId) (w : Word) (b : Byte), s.mayDiag = false →
    exec (.diagRead l w b) s = .next { s with readData := some 0 }) ∧
  (∀ (s : State) (l : LeafId) (w : Word) (b : Byte), s.mayDiag = true → (s.leaf l).bst.injected = [] →
    Completes (.diagRead l w b) s fun t => OnlyLeaf l s { t with readData := s.readData } ∧ t.readData = some w ∧
      (t.leaf l).word BST_DDATA = w ∧ (t.leaf l).get BST_DCHK_CHECK = b.toNat) ∧
  (∀ (s : State) (l : LeafId) (b : Byte), s.variantEv = true ∨ (s.mode = .workshop ∧ s.right 2 = true) →
    Completes (.inject l b) s fun t => OnlyLeaf l s t ∧ (t.leaf l).get BST_DCHK_CHECK = b.toNat ∧
      ((s.leaf l).diagAddr, (s.leaf l).word BST_DDATA, b) ∈ (t.leaf l).bst.injected) ∧
  (∀ (s : State) (n : BitVec 256) (serial : BitVec 128), s.awake = true → s.sec.who = 0 →
    Completes (.sessionOpenRequest n serial) s fun t => t.sec = { s.sec with nonce := some (n, s.leaf0.count) } ∧
      t.leaf1 = s.leaf1 ∧ t.leaf0.regs = s.leaf0.regs ∧ t.leaf0.out = s.leaf0.out ++
        [Out.j5 1 [n.toNat, (s.glbId .leaf0).toNat, (s.glbId .leaf1).toNat, serial.toNat]]) ∧
  (∀ (s : State) (a : AuthRx) (n : BitVec 256) (c : Course), s.awake = true → s.sec.who = 0 → s.sec.lockAt = none →
    s.sec.nonce = some (n, c) → since s.leaf0.count c < 9600000 → a.chainOk = true → a.sigOk = true →
    s.authorityOk a = true →
    Completes (.authentication a) s fun t => t.sec.who = a.who ∧ t.sec.nonce = none ∧ t.sec.fails = 0 ∧
      t.sec.rights = a.rights &&& a.certRights &&& s.allowedRights a.who ∧
      ∀ l, (t.leaf l).get SEC_STAT_SESSION = a.who ∧ (t.leaf l).get SEC_STAT_RIGHTS = t.sec.rights.toNat) ∧
  (∀ (s : State) (a : AuthRx), s.awake = true → s.sec.who = 0 → s.sec.lockAt = none → a.sigOk = false →
    Completes (.authentication a) s fun t => t.sec.who = 0 ∧ t.sec.nonce = none ∧ t.sec.fails = s.sec.fails + 1 ∧
      (∀ l, (t.leaf l).get (SEC_FLT_FLAGS.bit 0) = 1) ∧
      (2 ≤ s.sec.fails → t.sec.lockAt = some s.leaf0.count ∧ t.sec.lockLen =
        (if s.sec.lockLen = 0 then 9600000 else min (2 * s.sec.lockLen) 576000000) ∧
        ∀ l, (t.leaf l).get SEC_STAT_LOCKOUT = 1) ∧
      (s.sec.fails < 2 → t.sec.lockAt = none)) ∧
  (∀ (s : State) (a : AuthRx), s.sec.lockAt.isSome → exec (.authentication a) s = .next s) ∧
  (∀ (s : State) (c : Course), s.sec.lockAt = some c → s.sec.lockLen ≤ since s.leaf0.count c →
    Completes .authLockoutExpiry s fun t => t.sec = { s.sec with lockAt := none } ∧
      ∀ l, (t.leaf l).get SEC_STAT_LOCKOUT = 0 ∧ KeepsRegs (s.leaf l) (t.leaf l) [SEC_STAT.addr 0]) ∧
  (∀ s : State, s.sec.lockAt = none → exec .authLockoutExpiry s = .next s) ∧
  (∀ (s : State) (k : Fin 3), s.sec.who ≠ 0 → k.val ≠ 2 ∨ s.leaf0.get SEC_CTRL_IDLE_T * 160000 ≤ since s.leaf0.count s.sec.accessAt →
    Completes (.sessionEnd k) s fun t => t.sec.who = 0 ∧ t.sec.rights = 0 ∧ t.sec.scan = false ∧
      t.mode = (if s.mode = .workshop then .ready else s.mode) ∧
      ∀ l, (t.leaf l).get SEC_STAT_SESSION = 0 ∧ (t.leaf l).get SEC_STAT_RIGHTS = 0) ∧
  (∀ (s : State) (k : Fin 3), s.sec.who = 0 → exec (.sessionEnd k) s = .next s) ∧
  (∀ (s : State) (l : LeafId) (e : Fin 24), s.mayDebug = true → s.mode = .carry → (s.leaf l).computing = true →
    (s.leaf l).cut = false →
    Completes (.debugHalt l true e) s fun t => OnlyLeaves s t ∧ (t.leaf l).cut = true ∧ (t.leaf l).bst.halted = true ∧
      (t.leaf l.other).get SEC_STAT_DBG_USED = 1) ∧
  (∀ (s : State) (l : LeafId) (k : Bool) (e : Fin 24), s.mayDebug = false → exec (.debugHalt l k e) s = .next s) ∧
  (∀ (s : State) (l : LeafId), (s.leaf l).bst.halted = true →
    Completes (.debugRelease l) s fun t => OnlyLeaf l s t ∧ (t.leaf l).bst.halted = false ∧
      (t.leaf l).tie.restartAt = (s.leaf l).count ∧ (t.leaf l).regs = (s.leaf l).regs) ∧
  (∀ s : State, s.mode = .workshop → s.right 4 = true → s.leaf0.stagesOff = true → s.leaf1.stagesOff = true →
    exec (.scanInstruction true) s = .next { s with
      sec := { s.sec with scan := true }, leaf0 := { s.leaf0 with cut := true }, leaf1 := { s.leaf1 with cut := true } }) ∧
  (∀ s : State, s.sec.scan = true →
    Completes (.scanInstruction false) s fun t => t.sec.scan = false ∧
      ∀ l, (t.leaf l).cut = ((s.leaf l).cut && (s.leaf l).crs.roleAt.isSome) ∧ (t.leaf l).regs = (s.leaf l).regs) ∧
  (∀ (s : State) (l : LeafId) (pub : BitVec 512), s.sec.who = 7 → s.sec.rights.getLsbD 5 = true →
    Completes (.keyGenerate l pub) s fun t => OnlyLeaves s t ∧ (t.leaf l).ldg.pub = pub ∧
      (t.leaf l).regs = (s.leaf l).regs ∧ t.leaf0.out = s.leaf0.out ++ [Out.j5 4 [l.num, pub.toNat]]) ∧
  (∀ s : State, s.sec.who = 7 → s.sec.rights.getLsbD 5 = true →
    Completes .prodLock s fun t => t.sec.rights = s.sec.rights &&& 0x1F ∧
      ∀ l, (t.leaf l).get SEC_STAT_PROD_LOCK = 1 ∧ KeepsRegs (s.leaf l) (t.leaf l) [SEC_STAT.addr 0]) ∧
  (∀ (s : State) (l : LeafId) (pub : BitVec 512), s.sec.who ≠ 7 →
    exec (.keyGenerate l pub) s = .next s ∧ exec .prodLock s = .next s)

/-- The leaf of a command that belongs to one leaf alone. -/
def ownLeaf : Instr → Option LeafId
  | .fillDeadline l => some l
  | .doorbellCompletion l _ _ => some l
  | .doorbellDeadline l => some l
  | .timebaseCompensation l => some l
  | .pairOutputAgreed l _ _ _ => some l
  | .pairMismatch l _ _ _ => some l
  | .pairRerunComplete l _ _ _ => some l
  | .cycleGuardStop l _ => some l
  | .steal l _ => some l
  | .uncorrectableError l _ _ => some l
  | .sheddingDecay l => some l
  | .handoverStart l => some l
  | .handoverDigestCheck l _ => some l
  | .handoverStateCopy l => some l
  | .handoverComplete l => some l
  | .engineSelfTestStep l => some l
  | .engineSelfTestComplete l _ _ => some l
  | .correlationWindowEnd l _ _ _ _ _ _ => some l
  | .captureStop l _ => some l
  | .captureRead l _ => some l
  | .captureTrigger l _ _ _ => some l
  | .selfcal l _ => some l
  | .selfcalComplete l _ => some l
  | .recalStepStart l => some l
  | .recalFirstOverlap l _ _ _ => some l
  | .recalSecondOverlap l _ _ _ => some l
  | .recalStepEnd l => some l
  | .ftTest l _ _ => some l
  | .supplyHalf l _ _ _ => some l
  | .quadratureError l _ => some l
  | .index l _ _ _ _ => some l
  | .indexMissing l _ => some l
  | .uvwEdge l _ _ _ _ => some l
  | .arm l _ _ => some l
  | .probeComplete l _ _ _ _ => some l
  | .posFltClear l _ _ _ => some l
  | .gchClear l _ _ _ => some l
  | .traction l _ => some l
  | .spTimeout l => some l
  | .overcurrentRetry l _ => some l
  | .obsWindowEnd l _ => some l
  | .syncTimeout l => some l
  | .link l _ => some l
  | .dischargeEnd l => some l
  | .battRefTimeout l => some l
  | .prechargeMatch l => some l
  | .preTimeout l => some l
  | .overlapElapsed l => some l
  | .openingCurrentLow l => some l
  | .mainMinusOpen l => some l
  | .openBlocked l => some l
  | .hvilOpen l => some l
  | .chopperRetest l => some l
  | .chopFailClear l _ => some l
  | .share l _ => some l
  | .legReadmit l _ => some l
  | .auxRestart l => some l
  | .charge l _ => some l
  | .chargeSupply l _ => some l
  | .chargeStop l _ => some l
  | .chargeRestart l _ => some l
  | .hlcRefresh l _ => some l
  | .hlcExpiry l => some l
  | .pilotState l _ => some l
  | .proximityReading l _ _ => some l
  | .evseTimeout l => some l
  | .pfcBusReady l => some l
  | .weakSupply l => some l
  | .weakSupplyPauseEnd l => some l
  | .termination l => some l
  | .safetyTimerExpiry l => some l
  | .stopSequenceEnd l => some l
  | .acLossTimeout l => some l
  | .chargerRestart l => some l
  | .shift l _ => some l
  | .parkEngage l _ => some l
  | .parkRelease l _ => some l
  | .reference l _ => some l
  | .actuator l _ => some l
  | .alignDone l _ => some l
  | .lockedRotor l _ => some l
  | .actWaitExpiry l _ => some l
  | .moveEnd l _ => some l
  | .endStopArrival l _ => some l
  | .actVinRestored l => some l
  | .shiftReturn l => some l
  | .thermalSample l => some l
  | .brokenClear l _ _ => some l
  | .leafSilence l _ _ => some l
  | .silentReceived l _ _ => some l
  | .outEntry l => some l
  | .alignExit l => some l
  | .laneLost l _ _ => some l
  | .laneUp l _ => some l
  | .lost l _ => some l
  | .echo l _ _ => some l
  | .keyed l _ _ _ => some l
  | .thermal l _ _ _ _ => some l
  | .change l _ _ => some l
  | .ack l _ _ _ => some l
  | .ledger l _ _ => some l
  | .ledgerResend l _ => some l
  | .settings l _ _ _ => some l
  | .voiceUnit l _ _ _ _ => some l
  | .digest l _ _ _ => some l
  | .setup l _ => some l
  | .head l _ _ _ _ _ => some l
  | .request l _ _ => some l
  | .superseded l _ _ _ => some l
  | .healthRecord l => some l
  | .hotReset l _ => some l
  | .linkDown l _ => some l
  | .ringEngineRun l => some l
  | .ringEngineStop l => some l
  | .lateCompletion l => some l
  | .ringStall l _ => some l
  | .outputEntryPost l _ => some l
  | .readRecords l _ _ _ => some l
  | .ledgerStatus l _ => some l
  | .getKeys l _ => some l
  | .readSuperseded l _ => some l
  | .readHistory l _ => some l
  | .grade l _ => some l
  | .netServiceRequest l _ _ _ _ _ => some l
  | .messageWordWrite l _ _ _ _ _ _ => some l
  | .cancel l _ _ => some l
  | .release l _ _ => some l
  | .mbxAck l _ _ _ _ => some l
  | .ackTimeout l _ => some l
  | .claimLapse l _ => some l
  | .masterLost l _ => some l
  | .mailboxScan l => some l
  | .bindWrite l _ _ _ => some l
  | .tableLock l _ => some l
  | .lockRelease l _ _ _ => some l
  | .canFrameReceived l _ _ _ => some l
  | .send l _ _ => some l
  | .sendCont l _ _ => some l
  | .abort l _ _ => some l
  | .canTransmitDone l _ _ _ => some l
  | .voice l _ _ _ => some l
  | .errorStateChange l _ _ _ _ _ => some l
  | .busOff l _ _ => some l
  | .recover l _ _ => some l
  | .can0AutoRecover l => some l
  | .recoveryComplete l _ _ _ => some l
  | .bitTimingApply l _ => some l
  | .ethFrameReceived l _ _ _ => some l
  | .netSend l _ _ _ => some l
  | .ethLinkDown l _ => some l
  | .addressAgeOut l _ => some l
  | .ptpMessage l _ _ => some l
  | .gmLost l => some l
  | .minute l => some l
  | .signatureComplete l _ _ => some l
  | .carryWordWrite l => some l
  | .archiveComplete l => some l
  | .historyHour l => some l
  | .bmsStale l _ _ => some l
  | .resistanceStep l => some l
  | .streamOpen l _ _ _ => some l
  | .streamData l _ _ => some l
  | .streamClose l _ => some l
  | .streamAbort l _ => some l
  | .verifyComplete l _ _ _ _ => some l
  | .mixLong l => some l
  | .memoryTestStep l _ _ => some l
  | .scrub l _ _ _ => some l
  | .inject l _ => some l
  | .encoderEdge l _ _ _ _ => some l
  | .hvilClosed l => some l
  | .ethLinkUp l _ => some l
  | .pcieLinkUp l _ _ => some l
  | .restartWindowEnd l => some l
  | .debugRelease l => some l
  | .streamRecoveryReset l _ => some l
  | _ => none

/-- Two leaves with no state in common (R8, R15): a command that belongs to one leaf completes, and leaves the other leaf, the
gate channels, the arbiter, the module state, the pins, the session and the queue as they were. Where the spec leaves a choice
the statement rests on the model's readings of log entry 2. -/
def Obligations.leaves_share_no_state : Prop :=
  ∀ (c : Instr) (l : LeafId) (s : State), ownLeaf c = some l →
    Completes c s fun t => t.leaf l.other = s.leaf l.other ∧ t.chans = s.chans ∧ t.arb = s.arb ∧ t.mode = s.mode ∧
      t.pins = s.pins ∧ t.sec = s.sec ∧ t.pending = s.pending ∧ t.readData = s.readData ∧ OnlyLeaf l s t

/-- A course begins at its seal (R29, R30): whatever the leaf's role and whatever it does there, its course count is one
higher and the other leaf's as it was, and it starts at fine tick 0, where CRS_FINE is the course number times 4,000, modulo
2^32; CRS_COUNT and CRS_FINE read as the count and that fine time; a module that is not awake has no courses. -/
def Obligations.seal_advances_the_course : Prop :=
  (∀ (s : State) (l : LeafId) (inp : SealIn), s.awake = true →
    Completes (.seal l inp) s fun t => (t.leaf l).count = (s.leaf l).count + 1 ∧ (t.leaf l.other).count = (s.leaf l.other).count) ∧
  (∀ (s : State) (l : LeafId) (inp : SealIn), s.awake = false → exec (.seal l inp) s = .next s) ∧
  (∀ L : Leaf, L.fine.toNat = (L.count.toNat * 4000 + L.tick) % 2 ^ 32 ∧
    L.nextCourse.fine.toNat = ((L.count + 1).toNat * 4000) % 2 ^ 32) ∧
  (∀ (s : State) (l : LeafId), s.shown l CRS_COUNT 0 = BitVec.ofNat 64 (s.leaf l).count.toNat ∧
    s.shown l CRS_FINE 0 = BitVec.ofNat 64 (s.leaf l).fine.toNat)

/-- The seal of a leaf that does not compute (R29, R30, R423): in BOOT it only counts; in RESTART or OUT, with no role named,
it keeps its role and its outputs stay as they were, and nothing but that leaf and the idle time of the module changes. Where
the spec leaves a choice the statement rests on the model's readings of log entry 20. -/
def Obligations.seal_of_a_waiting_leaf : Prop :=
  (∀ (s : State) (l : LeafId) (inp : SealIn), s.awake = true → s.mode = .boot →
    Completes (.seal l inp) s fun t => OnlyLeaf l s t ∧ (t.leaf l).count = (s.leaf l).count + 1 ∧ (t.leaf l).tick = 0 ∧
      (t.leaf l).out = [] ∧ (t.leaf l).regs = (s.leaf l).regs ∧ (t.leaf l).tie = (s.leaf l).tie) ∧
  (∀ (s : State) (l : LeafId) (inp : SealIn), s.awake = true → s.mode ≠ .boot →
    (s.leaf l).role = .restart ∨ (s.leaf l).role = .out → (s.leaf l).crs.roleAt = none →
    Completes (.seal l inp) s fun t => OnlyLeaf l s { t with pins := s.pins } ∧
      t.pins = { s.pins with idleFrom := t.pins.idleFrom } ∧ (t.leaf l).count = (s.leaf l).count + 1 ∧ (t.leaf l).tick = 0 ∧
      (t.leaf l).role = (s.leaf l).role ∧ (t.leaf l).cut = (s.leaf l).cut ∧ (t.leaf l).out = [] ∧
      (∀ k, k < 2 → (pick (t.leaf l).tie.lanes k).marked = false))

/-- R101: the output of an instance is clamped to [LO, HI], LO the larger of OUT_MIN and the dynamic minimum, HI the smaller of
OUT_MAX and the dynamic maximum; where LO exceeds HI it is whichever is nearer to zero, LO when both are equally far, and
LIM_CROSS is raised by one and the instance's bit set. -/
def Obligations.compensator_output_limits : Prop :=
  ∀ (L : Leaf) (b i : Nat) (x dynLo dynHi out : Int) (track : Option Int) (t : CoefTable),
    pick (L.inst b i).bank (L.inst b i).active = some t →
    (max (outMin t) dynLo ≤ min (outMax t) dynHi →
      (L.runComp b i x dynLo dynHi track out).1.get ASH_CMP_STAT_LIM_CROSS = L.get ASH_CMP_STAT_LIM_CROSS ∧
      ((L.runComp b i x dynLo dynHi track out).1.inst b i).limCross = false ∧
      (∀ v, track = some v →
        (L.runComp b i x dynLo dynHi track out).2 = clampInt (max (outMin t) dynLo) (min (outMax t) dynHi) v) ∧
      (track = none → L.role ≠ .follow ∨ b < 5 → (L.inst b i).form ≠ .cascade →
        (L.runComp b i x dynLo dynHi track out).2 = clampInt (max (outMin t) dynLo) (min (outMax t) dynHi)
          (evalDirect t (L.inst b i) x + out)) ∧
      (track = none → L.role ≠ .follow ∨ b < 5 → (L.inst b i).form = .cascade →
        (L.runComp b i x dynLo dynHi track out).2 = clampInt (max (outMin t) dynLo) (min (outMax t) dynHi)
          (evalLast t (satQ (evalBiquad t x (L.inst b i).x1 (L.inst b i).x2 (L.inst b i).w1 (L.inst b i).w2))
            (L.inst b i).w1 (L.inst b i).y1 + out)) ∧
      max (outMin t) dynLo ≤ (L.runComp b i x dynLo dynHi track out).2 ∧
      (L.runComp b i x dynLo dynHi track out).2 ≤ min (outMax t) dynHi) ∧
    (dynLo = -(2 ^ 31 : Nat) → dynHi = (2 ^ 31 : Nat) - 1 →
      max (outMin t) dynLo = outMin t ∧ min (outMax t) dynHi = outMax t) ∧
    (min (outMax t) dynHi < max (outMin t) dynLo →
      (L.runComp b i x dynLo dynHi track out).2 =
        (if (min (outMax t) dynHi).natAbs < (max (outMin t) dynLo).natAbs then min (outMax t) dynHi else max (outMin t) dynLo) ∧
      (L.runComp b i x dynLo dynHi track out).1.get ASH_CMP_STAT_LIM_CROSS =
        min (L.get ASH_CMP_STAT_LIM_CROSS + 1) ASH_CMP_STAT_LIM_CROSS.max ∧
      ((L.runComp b i x dynLo dynHi track out).1.inst b i).limCross = true)

/-- R424: a leaf that falls silent again within 9,600,000 courses of reaching FOLLOW after a restart that its silence caused
is to enter OUT, and enters it at the course named; its first silence names RESTART, and once the 9,600,000 courses have
passed it is counted in TIE_CNT.RESTARTS. Where the spec leaves a choice the statement rests on the model's readings of log
entries 2 and 72. -/
def Obligations.second_silence_is_lasting : Prop :=
  (∀ (s : State) (l : LeafId) (cause : Fin 6) (tick : Fin 4000) (c : Course), cause.val ≠ 0 → (s.leaf l).computing = true →
    (s.leaf l).cut = false → (s.leaf l).tie.silenceRestart = true → (s.leaf l).tie.followAt = some c →
    since (s.leaf l).count c < 9600000 →
    Completes (.leafSilence l cause tick) s fun t => (t.leaf l).crs.roleAt = some (namedAt (s.leaf l).count tick, .out)) ∧
  (∀ (s : State) (l : LeafId) (c : Course), (s.leaf l).crs.roleAt = some (c, .out) →
    isAfter (s.leaf l).count.toNat c.toNat 48 = false → ((s.applyRole l).leaf l).role = .out) ∧
  (∀ (s : State) (l : LeafId) (cause : Fin 6) (tick : Fin 4000), cause.val ≠ 0 → (s.leaf l).computing = true →
    (s.leaf l).cut = false →
    (s.leaf l).tie.silenceRestart = false ∨ (∀ c, (s.leaf l).tie.followAt = some c →
      9600000 ≤ since (s.leaf l).count c) →
    Completes (.leafSilence l cause tick) s fun t =>
      (t.leaf l).crs.roleAt = some (namedAt (s.leaf l).count tick, .restart)) ∧
  (∀ (s : State) (l : LeafId) (c : Course), (s.leaf l).carrying = true → (s.leaf l).tie.silenceRestart = true →
    (s.leaf l).tie.followAt = some c →
    (9600000 ≤ since (s.leaf l).count c → Completes (.restartWindowEnd l) s fun t =>
      (t.leaf l).get TIE_CNT_RESTARTS = min ((s.leaf l).get TIE_CNT_RESTARTS + 1) TIE_CNT_RESTARTS.max ∧
        (t.leaf l).tie.silenceRestart = false) ∧
    (since (s.leaf l).count c < 9600000 → exec (.restartWindowEnd l) s = .next s))

/-- R57: a read of CRS_COUNT of 64 bits, or of its low half, gives the count in bits 47 to 0, captures the whole of it, and
captures CRS_FINE at the same fine tick into CRS_FINE_CAP; a following read of the high half returns the captured bits. -/
def Obligations.count_read_captures : Prop :=
  (∀ (s : State) (l : LeafId) (tick : Fin 4000) (high : Bool),
    Completes (.crsCountRead l tick 8 high) s fun t => OnlyLeaf l { s with readData := t.readData } t ∧
      t.readData = some (BitVec.ofNat 64 (s.leaf l).count.toNat) ∧ (t.leaf l).crs.cap = (s.leaf l).count ∧
      (t.leaf l).word CRS_FINE_CAP = BitVec.ofNat 64 (fineAt (s.leaf l).count tick).toNat ∧
      (t.leaf l).count = (s.leaf l).count ∧ KeepsRegs (s.leaf l) (t.leaf l) [CRS_FINE_CAP.addr 0]) ∧
  (∀ (s : State) (l : LeafId) (tick : Fin 4000),
    Completes (.crsCountRead l tick 4 false) s fun t => OnlyLeaf l { s with readData := t.readData } t ∧
      t.readData = some (BitVec.ofNat 64 ((s.leaf l).count.toNat % 2 ^ 32)) ∧
      (t.leaf l).word CRS_FINE_CAP = BitVec.ofNat 64 (fineAt (s.leaf l).count tick).toNat ∧
      ∀ later : Fin 4000, Completes (.crsCountRead l later 4 true) t fun u => u = { t with readData := u.readData } ∧
        u.readData = some (BitVec.ofNat 64 ((s.leaf l).count.toNat / 2 ^ 32))) ∧
  (∀ (s : State) (l : LeafId) (tick : Fin 4000),
    Completes (.crsCountRead l tick 4 true) s fun t => t = { s with readData := t.readData } ∧
      t.readData = some (BitVec.ofNat 64 ((s.leaf l).crs.cap.toNat / 2 ^ 32)))
end

