-- ==== Sys2Proof/WellFormed.lean ====
section
/-! DEFINITION. Well-formed commands: the operands that the types alone do not hold to what the spec lets arrive. -/

namespace Sys2Proof

/-- The size of an access in bytes (R10): the narrow ones arrive too, and end with Completer Abort. -/
def sizeOk (n : Nat) : Bool := [1, 2, 4, 8].contains n

/-- An access lies in BAR0, 1 MiB, or in BAR2, 64 KiB, which is numbered from 0x10_0000 (R643, R646). -/
def accessOk (off size : Nat) : Bool := decide (off < 0x110000) && sizeOk size

/-- What a seal latches fits the device: 36 ports of at most 40 conversions in Q1.15 (R134), 32 housekeeping inputs of 12
bits (R159), 12 die and 4 housing sensors (R399, R410), two position ports (R174), CAN buffers (R514). -/
def SealIn.wellFormed (i : SealIn) : Bool :=
  decide (i.raw.length ≤ 36) &&
    (i.raw.all fun l => decide (l.length ≤ 40) && l.all fun v => decide (-32768 ≤ v) && decide (v ≤ 32767)) &&
    decide (i.hk.length ≤ 32) && (i.hk.all fun h => (h.getD 0) < 4096) && decide (i.dieTemps.length ≤ 12) &&
    decide (i.housing.length ≤ 4) && decide (i.lines.length ≤ 2) && i.canTx.all fun p => p.1 < 4 && p.2 < 3

/-- A fill block of a list has a period of 1 to 32 courses and a phase below it (R69). -/
def FillBlock.wellFormed (b : FillBlock) : Bool := [1, 2, 4, 8, 16, 32].contains b.period && decide (b.phase < b.period)

/-- A settings generation names five keyed bounds (R67), or none, and well-formed blocks. -/
def Settings.wellFormed (g : Settings) : Bool :=
  (g.keyedBounds.length == 5 || g.keyedBounds.isEmpty) && g.blocks.all FillBlock.wellFormed

/-- A KEYED unit carries the five keyed blocks, eight words of history per instance (R436). -/
def recordsOk (l : List KeyedRec) : Bool := l.length == 5 && l.all fun r => r.hist.all fun h => h.length == 8

/-- Data bytes of a DLC (R513): ISO 11898-1. -/
def dlcLen (fdf : Bool) (dlc : Nat) : Nat :=
  if dlc ≤ 8 then dlc else if fdf then [12, 16, 20, 24, 32, 48, 64].getD (dlc - 9) 64 else 8

/-- A CAN frame: an 11-bit identifier where it is not extended, no remote frame in FD format, its data as long as its DLC
(R505, R513). -/
def CanRx.wellFormed (f : CanRx) : Bool :=
  (f.ide || decide (f.id.toNat < 2048)) && !(f.fdf && f.rtr) &&
    f.data.length == (if f.rtr then 0 else dlcLen f.fdf f.dlc.val)

/-- The well-formed commands. -/
def Instr.wellFormed (i : Instr) : Bool :=
  match i with
  | .supplyApplied => true
  | .wake _ _ _ => true
  | .cpWake _ _ _ => true
  | .wakeRelease => true
  | .bootComplete r0 r1 _ _ => r0.factory.wellFormed && r1.factory.wellFormed
  | .tieAbsentAtBoot _ => true
  | .parkEntry _ => true
  | .supplyLost _ _ _ _ => true
  | .allSuppliesLost => true
  | .resetNAssert _ => true
  | .resetNRelease _ => true
  | .carry => true
  | .leave => true
  | .reset _ => true
  | .workshopEntry => true
  | .workshopExit => true
  | .registerWrite _ a => accessOk a.off a.size
  | .rcRead _ off size _ => accessOk off size
  | .crsCountRead _ _ size _ => sizeOk size
  | .seal _ inp => inp.wellFormed
  | .keyedDeadline _ => true
  | .fillDeadline _ => true
  | .doorbellFetch _ => true
  | .doorbellCompletion _ _ _ => true
  | .doorbellDeadline _ => true
  | .planCommit => true
  | .timebaseCompensation _ => true
  | .pairOutputAgreed _ _ _ _ => true
  | .pairMismatch _ _ _ _ => true
  | .pairRerunComplete _ _ _ _ => true
  | .cycleGuardStop _ _ => true
  | .fillBlockComplete _ _ _ _ => true
  | .steal _ _ => true
  | .uncorrectableError _ _ _ => true
  | .sheddingDecay _ => true
  | .handoverStart _ => true
  | .handoverDigestCheck _ _ => true
  | .handoverStateCopy _ => true
  | .handoverComplete _ => true
  | .engineSelfTestStep _ => true
  | .engineSelfTestComplete _ _ _ => true
  | .split _ _ _ _ => true
  | .endSplit _ _ _ => true
  | .tableSwitch _ _ => true
  | .testStart _ _ => true
  | .testStop _ _ => true
  | .correlationWindowEnd _ _ _ _ _ _ _ => true
  | .captureStart _ _ => true
  | .captureStop _ _ => true
  | .captureRead _ _ => true
  | .captureTrigger _ _ _ _ => true
  | .captureRow _ _ times => decide (times.length ≤ 15)
  | .selfcal _ _ => true
  | .selfcalComplete _ _ => true
  | .recalStepStart _ => true
  | .recalFirstOverlap _ _ _ _ => true
  | .recalSecondOverlap _ _ _ _ => true
  | .recalStepEnd _ => true
  | .fastTrip _ _ _ _ => true
  | .ftTest _ _ _ => true
  | .supplyHalf _ _ _ _ => true
  | .quadratureError _ _ => true
  | .index _ _ _ _ _ => true
  | .indexMissing _ _ => true
  | .uvwEdge _ _ _ _ _ => true
  | .arm _ _ _ => true
  | .probeComplete _ _ _ _ _ => true
  | .posFltClear _ _ _ _ => true
  | .courseMark _ _ _ _ => true
  | .courseFrame _ => true
  | .carrierFrame _ => true
  | .maintNop _ => true
  | .maintWrite _ => true
  | .maintRead _ => true
  | .maintTest _ _ _ => true
  | .maintClear _ => true
  | .maintLower _ => true
  | .gateEdge _ _ => true
  | .statusFrame _ _ _ _ _ _ => true
  | .frameAbsenceTimeout _ _ => true
  | .partnerOffReport _ _ => true
  | .ilkStall _ _ => true
  | .desaturation _ _ _ _ => true
  | .softTurnOffEnd _ _ _ _ => true
  | .undervoltage _ _ _ _ _ => true
  | .overtemperature _ _ _ => true
  | .overtemperatureRelease _ _ _ => true
  | .waitExpiry _ _ => true
  | .ovHwRelease _ _ => true
  | .tryWindowEnd _ => true
  | .groupLoss _ _ _ => true
  | .biasRestored _ _ _ _ => true
  | .strapRead _ _ _ => true
  | .gateTestStep _ => true
  | .gchClear _ _ _ _ => true
  | .gchTest _ _ _ => true
  | .traction _ _ => true
  | .spTimeout _ => true
  | .overcurrentRetry _ _ => true
  | .obsWindowEnd _ _ => true
  | .syncTimeout _ => true
  | .link _ _ => true
  | .dischargeEnd _ => true
  | .battRefTimeout _ => true
  | .prechargeMatch _ => true
  | .preTimeout _ => true
  | .overlapElapsed _ => true
  | .openingCurrentLow _ => true
  | .mainMinusOpen _ => true
  | .openBlocked _ => true
  | .hvilOpen _ => true
  | .chopperRetest _ => true
  | .chopFailClear _ _ => true
  | .share _ _ => true
  | .legReadmit _ _ => true
  | .auxRestart _ => true
  | .charge _ _ => true
  | .chargeSupply _ _ => true
  | .chargeStop _ _ => true
  | .chargeRestart _ _ => true
  | .hlcRefresh _ _ => true
  | .hlcExpiry _ => true
  | .pilotState _ p => decide (p.duty ≤ 1000)
  | .proximityReading _ _ _ => true
  | .acWindow _ _ _ _ => true
  | .evseTimeout _ => true
  | .pfcBusReady _ => true
  | .searchStep _ => true
  | .research _ => true
  | .weakSupply _ => true
  | .weakSupplyPauseEnd _ => true
  | .termination _ => true
  | .safetyTimerExpiry _ => true
  | .stopSequenceEnd _ => true
  | .acLossTimeout _ => true
  | .chargerRestart _ => true
  | .unlock _ _ => true
  | .shift _ _ => true
  | .parkEngage _ _ => true
  | .parkRelease _ _ => true
  | .reference _ _ => true
  | .actuator _ _ => true
  | .actuatorFrame _ => true
  | .actuatorStatus _ _ _ _ => true
  | .actuatorFallback _ => true
  | .alignDone _ _ => true
  | .lockedRotor _ _ => true
  | .actWaitExpiry _ _ => true
  | .moveEnd _ _ => true
  | .endStopArrival _ _ => true
  | .hardOvercurrent _ _ => true
  | .bootstrapUndervoltage _ _ _ _ => true
  | .actVinRestored _ => true
  | .shiftReturn _ => true
  | .engageHoldExpiry _ => true
  | .thermalSample _ => true
  | .brokenClear _ _ _ => true
  | .leafSilence _ _ _ => true
  | .silentReceived _ _ _ => true
  | .outEntry _ => true
  | .swap => true
  | .rejoin _ _ _ => true
  | .restartComplete _ _ => true
  | .restartTimeout _ _ => true
  | .alignExit _ => true
  | .alignTimeout _ => true
  | .mark _ _ => true
  | .laneLost _ _ _ => true
  | .laneUp _ _ => true
  | .lost _ _ => true
  | .isolationEvidence _ => true
  | .probe _ => true
  | .echo _ _ _ => true
  | .keyed _ _ _ recs => recordsOk recs
  | .thermal _ _ _ temps _ => temps.length == 48
  | .change _ _ _ => true
  | .changeWithdraw _ => true
  | .ack _ _ _ _ => true
  | .ledger _ _ _ => true
  | .ledgerResend _ _ => true
  | .settings _ _ _ _ => true
  | .voiceUnit _ _ _ _ _ => true
  | .digest _ _ _ _ => true
  | .setup _ _ => true
  | .check _ _ _ _ => true
  | .head _ _ _ _ _ _ => true
  | .request _ _ _ => true
  | .setdata _ _ _ _ _ _ => true
  | .mirfmt _ _ _ _ => true
  | .superseded _ _ _ _ => true
  | .healthRecord _ => true
  | .roleDeclaration => true
  | .arbiterFallback _ => true
  | .hostLinkLost _ => true
  | .hotReset _ _ => true
  | .linkDown _ _ => true
  | .ringEngineRun _ => true
  | .ringEngineStop _ => true
  | .descriptorRetry _ _ _ _ => true
  | .lateCompletion _ => true
  | .ringStall _ _ => true
  | .outputEntryPost _ _ => true
  | .regWrite _ _ => true
  | .readRecords _ _ _ _ => true
  | .ledgerStatus _ _ => true
  | .getKeys _ _ => true
  | .readSuperseded _ _ => true
  | .readHistory _ _ => true
  | .grade _ _ => true
  | .gradeComplete _ => true
  | .netServiceRequest _ _ _ _ _ _ => true
  | .messageWordWrite _ _ _ size _ _ _ => sizeOk size
  | .post _ _ _ _ => true
  | .cancel _ _ _ => true
  | .release _ _ _ => true
  | .mbxAck _ _ _ _ _ => true
  | .ackTimeout _ _ => true
  | .claimLapse _ _ => true
  | .masterLost _ _ => true
  | .mailboxScan _ => true
  | .bindWrite _ _ _ _ => true
  | .tableLock _ _ => true
  | .lockRead _ _ size _ _ => sizeOk size
  | .lockRelease _ _ _ _ => true
  | .canFrameReceived _ _ f _ => f.wellFormed
  | .send _ _ _ => true
  | .sendCont _ _ _ => true
  | .abort _ _ _ => true
  | .canTransmitDone _ _ _ _ => true
  | .voice _ _ _ _ => true
  | .voiceDeclaration _ => true
  | .errorStateChange _ _ _ _ _ _ => true
  | .busOff _ _ _ => true
  | .recover _ _ _ => true
  | .can0AutoRecover _ => true
  | .recoveryComplete _ _ _ _ => true
  | .bitTimingApply _ _ => true
  | .txdDominantTimeout _ _ => true
  | .ethFrameReceived _ _ _ _ => true
  | .netSend _ _ _ _ => true
  | .ethLinkDown _ _ => true
  | .addressAgeOut _ _ => true
  | .ptpMessage _ _ _ => true
  | .timeReport _ => true
  | .gmLost _ => true
  | .minute _ => true
  | .signatureComplete _ _ _ => true
  | .carryWordWrite _ => true
  | .archiveComplete _ => true
  | .historyHour _ => true
  | .bmsStale _ _ _ => true
  | .resistanceStep _ => true
  | .streamOpen _ _ _ _ => true
  | .streamData _ _ _ => true
  | .streamClose _ _ => true
  | .streamAbort _ _ => true
  | .verifyComplete _ _ _ _ content => content.wellFormed
  | .activate => true
  | .confirm => true
  | .revert => true
  | .setApply => true
  | .mixLong _ => true
  | .memoryTestStep _ _ _ => true
  | .scrub _ _ _ _ => true
  | .fullBist _ _ => true
  | .fullBistComplete _ _ => true
  | .diagRead _ _ _ => true
  | .inject _ _ => true
  | .sessionOpenRequest _ _ => true
  | .authentication _ => true
  | .sessionEnd _ => true
  | .debugHalt _ _ _ => true
  | .scanInstruction _ => true
  | .enrol _ _ => true
  | .keyGenerate _ _ => true
  | .prodLock => true
  | .coilLimitTimeout _ _ => true
  | .encoderEdge _ _ _ _ _ => true
  | .windingLoss _ _ => true
  | .biasSourceChange _ _ _ _ _ => true
  | .hvilClosed _ => true
  | .ethLinkUp _ _ => true
  | .pcieLinkUp _ _ _ => true
  | .restartWindowEnd _ => true
  | .authLockoutExpiry => true
  | .debugRelease _ => true
  | .streamRecoveryReset _ _ => true
  | .coilDriverFault _ _ => true

end Sys2Proof
end

