-- ==== Sys2Proof/Tests/Slice0.lean ====
section
/-! SUPPORT. Tests: an ill-formed command for each check of WellFormed, the spec's worked examples, and for each statement
with hypotheses a theorem that shows states and operands meeting them, clause by clause. -/

namespace Sys2Proof.Tests

open Sys2Proof Sys2Proof.Machine

set_option maxRecDepth 10000
set_option Elab.async false

/-! ### Ill-formed commands -/

/-- An access beyond BAR2 and one of three bytes (R10, R646). -/
theorem test_ill_formed_access : Instr.wellFormed (.rcRead .leaf0 0x110000 8 1) = false ∧
    Instr.wellFormed (.registerWrite .leaf0 ⟨0, 3, 0, 1⟩) = false ∧
    Instr.wellFormed (.crsCountRead .leaf0 0 3 false) = false ∧
    Instr.wellFormed (.lockRead .leaf0 0 5 false 1) = false ∧
    Instr.wellFormed (.messageWordWrite .leaf0 0 0 6 false 0 1) = false := by decide +kernel

/-- A seal with 37 ports, with 41 conversions, with a code outside Q1.15, with 33 housekeeping inputs, with one of 13 bits,
with 13 die sensors, 5 housing sensors, 3 position ports, or a CAN buffer that is not there. -/
theorem test_ill_formed_seal : ([{ raw := List.replicate 37 [] }, { raw := [List.replicate 41 0] }, { raw := [[32768]] },
    { hk := List.replicate 33 none }, { hk := [some 4096] }, { dieTemps := List.replicate 13 0 },
    { housing := List.replicate 5 0 }, { lines := List.replicate 3 0 }, { canTx := [(4, 0)] }, { canTx := [(0, 3)] }] :
      List SealIn).all (fun i => !Instr.wellFormed (.seal .leaf0 i)) = true ∧
    Instr.wellFormed (.seal .leaf0 {}) = true := by decide +kernel

/-- Settings with four keyed bounds, with a block of period 3, with a phase that is not below the period. -/
theorem test_ill_formed_settings : ([{ keyedBounds := [1, 2, 3, 4] }, { blocks := [⟨7, .metering, 100, 1, 3, 0⟩] },
    { blocks := [⟨7, .metering, 100, 1, 4, 4⟩] }] : List Settings).all
      (fun g => !Instr.wellFormed (.verifyComplete .leaf0 true true true g)) = true := by decide +kernel

/-- A start-up with such settings as its factory generation. -/
theorem test_ill_formed_boot :
    let r : BootLeaf := ⟨true, true, ⟨true, true, true, [], [], []⟩, 2, {}, 0, true, true, true, true, 0⟩
    Instr.wellFormed (.bootComplete { r with factory := { keyedBounds := [1] } } r (Vector.replicate 48 ⟨0, 0, 0⟩) 0) = false := by
  decide +kernel

/-- Sixteen times of a capture row, a duty above 100%, a KEYED unit of four records and one with a short history, a THERMAL
unit of 47 channels. -/
theorem test_ill_formed_units : Instr.wellFormed (.captureRow .leaf0 0 (List.replicate 16 0)) = false ∧
    Instr.wellFormed (.pilotState .leaf0 ⟨none, none, 1000, 1001, true, 1600⟩) = false ∧
    Instr.wellFormed (.keyed .leaf0 ⟨0, true, 1, 0⟩ 0 (List.replicate 4 default)) = false ∧
    Instr.wellFormed (.keyed .leaf0 ⟨0, true, 1, 0⟩ 0 (List.replicate 5 { (default : KeyedRec) with hist := [[0]] })) = false ∧
    Instr.wellFormed (.thermal .leaf0 ⟨0, true, 1, 0⟩ 0 (List.replicate 47 (0, 0)) 0) = false := by decide +kernel

/-- A base identifier of 12 bits, a remote frame in FD format, data that are not as long as the DLC says. -/
theorem test_ill_formed_can : ([⟨false, false, false, false, false, 0, 2048, [], 0⟩, ⟨true, true, false, false, true, 0, 0, [], 0⟩,
    ⟨true, false, false, false, false, 2, 0, [1], 0⟩] : List CanRx).all
      (fun f => !Instr.wellFormed (.canFrameReceived .leaf0 0 f true)) = true := by decide +kernel

/-! ### The spec's worked examples -/

/-- R213: the CRC-16 of the nine characters 123456789. -/
theorem test_crc16 : crc16 [0x31, 0x32, 0x33, 0x34, 0x35, 0x36, 0x37, 0x38, 0x39] = 0x29B1 := by decide +kernel

/-- The register change of chapter 14: descriptor 195 of a ring of 64 carries PHASE 0. -/
theorem test_phase : phaseAt 195 6 = 0 ∧ phaseAt 0 6 = 1 := by decide

/-- The q-axis current loop of chapter 4: the table of T0, its coefficient words and its limits. -/
def loopTable : CoefTable :=
  BitVec.ofNat 1024 ((0x7378359C <<< 64) + ((2 ^ 32 - 0x7378359C) <<< 96) + (0x500CCCC3 <<< 128) + (0xB0000003 <<< 160) +
    (0x40000001 <<< 256))

/-- Course n: the sum 0.9690625 is clamped to 0.902106. Course n + 1: the output is 0.852387, inside the limits. -/
theorem test_current_loop :
    let c : Comp := { bank := #v[some loopTable, none, none, none], y1 := 1006632960 }
    let a := c.eval 214748365 qMin qMax none true
    let b := a.comp.eval 193273528 qMin qMax none true
    a.y = 1937257884 ∧ a.comp.y1 = 1937257884 ∧ (b.y - 1830487000).natAbs < 2500 := by decide +kernel

/-- The latch of chapter 6: POS 1,000 with its edge 1,125 ticks before the boundary, 10 counts in 31,250 ticks; 7,125 ticks
after the edge the angle is 0xF523_D70A. -/
theorem test_angle :
    let L := ((((Leaf.reset .leaf0).put POS_CFG_CPR_M1 4095).put POS_CFG_POLE_PAIRS 8).put POS_ANG_ANG_OFS 0).put POS_LAT_COUNT 1000
      |>.put POS_LAT_EDGE_FINE 100000 |>.put POS_STAT_EDGE_OLD 0
    let L : Leaf := { L with pos := alter L.pos 0 fun P => { P with omegaN := 10, omegaD := 31250 } }
    L.encAngle 0 107125 = 0xF523D70A := by decide +kernel

/-! ### States for the witnesses -/

/-- The course the witnesses stand in. -/
def big : Course := 1152000000
/-- A module in a mode, its lanes up, with changes to leaf 0 and then to the whole. -/
def W (m : Mode) (us : List (Leaf → Leaf)) (vs : List (State → State)) : State :=
  let up (l : LeafId) : Leaf := { Leaf.reset l with
    count := big, tie := { lanes := #v[⟨true, 0, 0, false, 0⟩, ⟨true, 0, 0, false, 0⟩] } }
  vs.foldl (fun s f => f s) { State.reset with mode := m, leaf0 := us.foldl (fun L f => f L) (up .leaf0), leaf1 := up .leaf1 }
/-- A course some courses back. -/
def at_ (k : Nat) : Course := big - BitVec.ofNat 48 k
/-- A command register write waiting for its row, one bit set. -/
def cmd (off k : Nat) : List (RegW × Hdr) := [(⟨off, 0, BitVec.ofNat 64 (2 ^ k)⟩, ⟨0, false, 0, 0, 0, 0⟩)]
/-- A LEAD leaf that may read the head of a ring. -/
def reader (ring : Nat) (L : Leaf) : Leaf :=
  ({ L with role := .lead }.put HRE_STAT_RUNNING 1).put HRE_STAT_LINK_UP 1 |>.put HRE_STAT_BME 1
    |>.put HRE_IRCFG_EN 1 ring |>.put HRE_IRCFG_LOG2SIZE 6 ring |>.put HRE_IRCFG_PROD 1 ring
    |>.put HRE_IRCFG_CONS 0 ring |>.put HRE_IRCFG_FETCH 4 ring
/-- Descriptor bytes: ring, PHASE 1, opcode, fields, CRC. -/
def slotOf (ring op : Nat) (parts : List (Nat × Nat)) : Slot :=
  let b := parts.foldl (fun a p => a ||| (p.2 <<< (8 * p.1))) (ring ||| (1 <<< 8) ||| (op <<< 128))
  BitVec.ofNat 512 (b ||| (slotCrc (BitVec.ofNat 512 b) <<< 112))
/-- Such a descriptor, read without error. -/
def desc (ring op : Nat) (parts : List (Nat × Nat)) : Desc := ⟨slotOf ring op parts, true⟩
/-- The leaf after the checks of a descriptor. -/
def seen (L : Leaf) (ring : Nat) (d : Desc) : Leaf := (L.checkDesc ring d false).1
/-- A frame to gate channel 0 whose CRC holds. -/
def gframe (body : BitVec 72) : GateRx := ⟨0, .leaf0, 0xE7, body, BitVec.ofNat 8 (bodyCrc body), 100⟩
/-- A frame to actuator stage 0 whose CRC holds. -/
def sframe (body : BitVec 72) : StageRx := ⟨0, .leaf0, 0xE7, body, BitVec.ofNat 8 (bodyCrc body), 100⟩
/-- A closed stream whose header passes every check of R566. -/
def goodStream : Stream :=
  ⟨BitVec.ofNat 2560 (0x57545653 + (1 <<< 32) + (1 <<< 40) + (1 <<< 48) + (0x4824 <<< (8 * 56)) +
    (2 <<< (8 * 58)) + (8 <<< (8 * 61))), 1, 0, some 0⟩
/-- How a descriptor is shown to be read. -/
theorem reads_of {L : Leaf} {ring op : Nat} {d : Desc} {h : Hdr} (h1 : L.canRead ring = true)
    (h2 : pick L.hre.retry ring = none) (h3 : opcode d.bytes = op) (h4 : (L.checkDesc ring d false).2 = some h) :
    Reads L ring op d (seen L ring d) h :=
  ⟨h1, h2, h3, Prod.ext rfl h4⟩

/-! ### The hypotheses of the statements -/

theorem witness_step_idles_on_empty_queue :
    ∃ (s : State),
      s.pending = [] :=
  ⟨W .ready [] [],
    by decide +kernel⟩

theorem witness_step_keeps_queue_and_fixed_values :
    ∃ (c : Instr) (rest : List Instr) (s : State),
      s.pending = c :: rest :=
  ⟨.leave, [], W .ready [] [fun s => { s with pending := [.leave] }],
    by decide +kernel⟩

theorem witness_supplies_and_wake :
    (∃ (s : State),
      s.mode = .off) ∧
    (∃ (s : State) (wakeMv : Nat) (us : Nat) (vlvMv : Nat),
      s.mode = .park ∧
      s.pins.armed = true ∧
      5000 < wakeMv ∧
      1000 ≤ us ∧
      16000 < vlvMv) ∧
    (∃ (s : State) (cpMv : Nat) (us : Nat) (vlvMv : Nat),
      s.mode = .park ∧
      s.pins.armed = true ∧
      1500 < cpMv ∧
      5000 ≤ us ∧
      16000 < vlvMv) ∧
    (∃ (s : State) (v0 : Nat) (v1 : Nat) (us : Nat),
      s.mode ≠ .off ∧
      s.mode ≠ .park ∧
      v0 < 15000 ∧
      v1 < 15000 ∧
      2000 ≤ us) :=
  ⟨⟨W .off [] [],
    by decide +kernel⟩,
  ⟨W .park [] [fun s => { s with pins := { s.pins with armed := true } }], 6000, 1000, 17000,
    by decide +kernel⟩,
  ⟨W .park [] [fun s => { s with pins := { s.pins with armed := true } }], 2000, 5000, 17000,
    by decide +kernel⟩,
  ⟨W .ready [] [], 0, 0, 2000,
    by decide +kernel⟩⟩

theorem witness_resets_boot_and_keep_stores :
    (∃ (s : State) (ns : Nat),
      s.mode ≠ .off ∧
      10000 ≤ ns) ∧
    (∃ (ns : Nat),
      ns < 2000) ∧
    (∃ (s : State) (vlvMv : Nat),
      s.pins.resetN = true ∧
      16000 < vlvMv) ∧
    (∃ (s : State),
      (s.mode = .ready ∨ s.mode = .workshop) ∧
      s.pins.vlv = true) :=
  ⟨⟨W .ready [] [], 10000,
    by decide +kernel⟩,
  ⟨0,
    by decide +kernel⟩,
  ⟨W .ready [] [fun s => { s with pins := { s.pins with resetN := true } }], 17000,
    by decide +kernel⟩,
  ⟨W .ready [] [fun s => { s with pins := { s.pins with vlv := true } }],
    by decide +kernel⟩⟩

theorem witness_boot_ends :
    (∃ (s : State) (r0 : BootLeaf) (r1 : BootLeaf),
      s.mode = .boot ∧
      s.pins.bootDead = false ∧
      s.pins.resetN = false ∧
      ((s.leaf0.bootSteps s.variantEv r0).2 = none ∨ (s.leaf1.bootSteps s.variantEv r1).2 = none)) ∧
    (∃ (s : State) (r0 : BootLeaf) (r1 : BootLeaf),
      s.mode = .boot ∧
      s.pins.bootDead = false ∧
      s.pins.resetN = false ∧
      r0.bist = false ∧
      r0.bistRepeat = false ∧
      r1.bist = false ∧
      r1.bistRepeat = false) ∧
    (∃ (s : State) (courses : Nat),
      s.mode = .ready ∧
      3200 ≤ courses ∧
      s.leaf0.role = .boot ∧
      s.leaf1.role ≠ .lead) :=
  ⟨⟨W .boot [] [fun s => { s with pins := { s.pins with bootDead := false } }, fun s => { s with pins := { s.pins with resetN := false } }], ⟨true, true, ⟨true, true, true, [], [], []⟩, 2, {}, 0, true, true, true, true, 0⟩, ⟨true, true, ⟨true, true, true, [], [], []⟩, 2, {}, 0, true, true, true, true, 0⟩,
    by decide +kernel⟩,
  ⟨W .boot [] [fun s => { s with pins := { s.pins with bootDead := false } }, fun s => { s with pins := { s.pins with resetN := false } }], ⟨false, false, ⟨true, true, true, [], [], []⟩, 2, {}, 0, true, true, true, true, 0⟩, ⟨false, false, ⟨true, true, true, [], [], []⟩, 2, {}, 0, true, true, true, true, 0⟩,
    by decide +kernel⟩,
  ⟨W .ready [fun L => { L with role := .boot }] [], 3200,
    by decide +kernel⟩⟩

theorem witness_module_states :
    (∃ (s : State),
      s.mode = .ready ∧
      (s.takeModule GLB_CMD.base 63 [62, 61]).1.isSome) ∧
    (∃ (s : State),
      s.mode = .carry ∧
      (s.takeModule GLB_CMD.base 62 [63, 61]).1.isSome) ∧
    (∃ (s : State),
      s.mode = .ready ∧
      s.right 0 = true) ∧
    (∃ (s : State),
      s.mode = .workshop) ∧
    (∃ (s : State) (c : Course),
      s.mode = .ready ∧
      s.pins.wake = false ∧
      s.pins.idleFrom = some c ∧
      160000 ≤ since s.leaf0.count c) :=
  ⟨⟨W .ready [fun L => { L with crs := { L.crs with cmds := cmd GLB_CMD.base 63 } }] [],
    by decide +kernel⟩,
  ⟨W .carry [fun L => { L with crs := { L.crs with cmds := cmd GLB_CMD.base 62 } }] [],
    by decide +kernel⟩,
  ⟨W .ready [] [fun s => { s with sec := { s.sec with who := 5, rights := 1 } }],
    by decide +kernel⟩,
  ⟨W .workshop [] [],
    by decide +kernel⟩,
  ⟨W .ready [] [fun s => { s with pins := { s.pins with wake := false } }, fun s => { s with pins := { s.pins with idleFrom := some (0 : Course) } }], 0,
    by decide +kernel⟩⟩

theorem witness_register_reads :
    (∃ (s : State) (l : LeafId) (a : RegAccess),
      s.mayAccess l a.off a.who true = true ∧
      Machine.sizeOk a.off a.size = false) ∧
    (∃ (s : State) (l : LeafId) (off : Nat) (size : Nat) (who : Ident),
      s.mayAccess l off who false = true ∧
      Machine.sizeOk off size = false) ∧
    (∃ (s : State) (l : LeafId) (off : Nat) (size : Nat) (who : Ident),
      s.mayAccess l off who false = true ∧
      Machine.sizeOk off size = true ∧
      findReg (off - off % 8) = none ∧
      ¬ (0x10C000 ≤ off - off % 8 ∧ off - off % 8 < 0x10C200) ∧
      off - off % 8 ≠ 0x10D000) ∧
    (∃ (s : State) (l : LeafId) (off : Nat) (who : Ident) (r : Reg) (i : Nat),
      s.mayAccess l off who false = true ∧
      off % 8 = 0 ∧
      ¬ (0x10C000 ≤ off ∧ off < 0x10C200) ∧
      off ≠ 0x10D000 ∧
      findReg off = some (r, i) ∧
      (s.leaf l).bst.fullAt = none ∧
      r ∉ [CRS_COUNT, LOCK, BST_DDATA] ∧
      channelOf r i = none ∧
      r.hasAcc .rc = false) :=
  ⟨⟨W .ready [] [], .leaf0, ⟨0, 3, 0, 1⟩,
    by decide +kernel⟩,
  ⟨W .ready [] [], .leaf0, 0, 3, 1,
    by decide +kernel⟩,
  ⟨W .ready [] [], .leaf0, 0x3FFF8, 8, 1,
    by decide +kernel⟩,
  ⟨W .ready [fun L => { L with bst := { L.bst with fullAt := none } }] [], .leaf0, 0, 1, GLB_ID, 0,
    by decide +kernel⟩⟩

theorem witness_settings_writes :
    (∃ (s : State) (l : LeafId) (a : RegAccess) (r : Reg) (i : Nat),
      (s.mode = .ready ∨ s.mode = .workshop) ∧
      s.mayAccess l a.off a.who true = true ∧
      a.who.val = hostId l ∧
      a.size = 8 ∧
      a.off % 8 = 0 ∧
      ¬ (0x10C000 ≤ a.off ∧ a.off < 0x10C200) ∧
      findReg a.off = some (r, i) ∧
      (s.leaf l).bst.fullAt = none ∧
      plainSetting r = true ∧
      (s.leaf l).refuseRws r i a.value = none) ∧
    (∃ (s : State) (l : LeafId) (a : RegAccess) (r : Reg) (i : Nat),
      s.mode = .carry ∧
      s.mayAccess l a.off a.who true = true ∧
      a.who.val = hostId l ∧
      a.size = 8 ∧
      a.off % 8 = 0 ∧
      ¬ (0x10C000 ≤ a.off ∧ a.off < 0x10C200) ∧
      findReg a.off = some (r, i) ∧
      (s.leaf l).bst.fullAt = none ∧
      plainSetting r = true) ∧
    (∃ (r : Reg) (i : Nat) (f : RField),
      r ∈ allRegs ∧
      f ∈ r.fields ∧
      f.acc = .rws ∧
      heldField r i f = false) ∧
    (∃ (r : Reg) (f : RField),
      r ∈ allRegs ∧
      f ∈ r.fields ∧
      f.acc ≠ .rws ∧
      f.acc ≠ .rw) :=
  ⟨⟨W .ready [fun L => { L with bst := { L.bst with fullAt := none } }] [], .leaf0, ⟨0x4020, 8, 0x4001c0, 1⟩, CRS_CTRL, 0,
    by decide +kernel⟩,
  ⟨W .carry [fun L => { L with bst := { L.bst with fullAt := none } }] [], .leaf0, ⟨0x4020, 8, 0x4001c0, 1⟩, CRS_CTRL, 0,
    by decide +kernel⟩,
  ⟨CRS_CTRL, 0, ⟨23, 20, .rws, 4, 15⟩,
    by decide +kernel⟩,
  ⟨GLB_ID, ⟨39, 32, .ro, 0, 255⟩,
    by decide +kernel⟩⟩

theorem witness_mailbox :
    (∃ (s : State) (l : LeafId) (c : Fin 32) (who : Ident),
      reaches l who = true ∧
      (s.leaf l).party c who = true ∧
      (s.leaf l).mbState c = 0) ∧
    (∃ (s : State) (l : LeafId) (c : Fin 32) (who : Ident),
      reaches l who = true ∧
      (s.leaf l).party c who = true ∧
      (s.leaf l).mbState c = 1 ∧
      (s.leaf l).mbSender c ≠ who) ∧
    (∃ (s : State) (l : LeafId) (c : Fin 32) (who : Ident),
      reaches l who = true ∧
      (s.leaf l).party c who = false) ∧
    (∃ (s : State) (l : LeafId) (c : Fin 32) (len : Fin 32) (who : Ident),
      reaches l who = true ∧
      (s.leaf l).party c who = true ∧
      (s.leaf l).mbState c = 1 ∧
      (s.leaf l).mbSender c = who ∧
      len.val ≤ 16) ∧
    (∃ (s : State) (l : LeafId) (c : Fin 32) (rlen : Fin 32) (who : Ident),
      reaches l who = true ∧
      (s.leaf l).party c who = true ∧
      (s.leaf l).mbState c = 2 ∧
      (s.leaf l).mbSender c ≠ who ∧
      rlen.val ≤ 16) ∧
    (∃ (s : State) (l : LeafId) (c : Fin 32) (who : Ident),
      reaches l who = true ∧
      (s.leaf l).party c who = true ∧
      (s.leaf l).mbState c = 3 ∧
      (s.leaf l).mbSender c = who) ∧
    (∃ (s : State) (l : LeafId) (c : Fin 32) (who : Ident),
      reaches l who = true ∧
      (s.leaf l).party c who = true ∧
      (s.leaf l).mbState c = 1 ∧
      (s.leaf l).mbSender c = who) ∧
    (∃ (s : State) (l : LeafId) (c : Fin 32),
      (s.leaf l).mbState c = 2 ∧
      (s.leaf l).get MBX_BIND_TMO c ≠ 0 ∧
      1600 * (s.leaf l).get MBX_BIND_TMO c ≤ since (s.leaf l).count (BitVec.ofNat 48 ((s.leaf l).get MBX_STAT_COURSE c))) ∧
    (∃ (s : State) (l : LeafId) (c : Fin 32),
      ((s.leaf l).mbState c = 1 ∨ (s.leaf l).mbState c = 3) ∧
      160000 ≤ since (s.leaf l).count (BitVec.ofNat 48 ((s.leaf l).get MBX_STAT_COURSE c))) ∧
    (∃ (l : LeafId) (who : Ident),
      reaches l who = true) ∧
    (∃ (s : State) (l : LeafId),
      (s.leaf l).computing = true ∧
      (s.leaf l).count.toNat % 16 = 0) :=
  ⟨⟨W .ready [fun L => L.put MBX_BIND_ID_A 1 0, fun L => L.put MBX_BIND_ID_B 2 0, fun L => L.put MBX_STAT_STATE 0 0, fun L => L.put MBX_STAT_SENDER 0 0] [], .leaf0, 0, 1,
    by decide +kernel⟩,
  ⟨W .ready [fun L => L.put MBX_BIND_ID_A 1 0, fun L => L.put MBX_BIND_ID_B 2 0, fun L => L.put MBX_STAT_STATE 1 0, fun L => L.put MBX_STAT_SENDER 2 0] [], .leaf0, 0, 1,
    by decide +kernel⟩,
  ⟨W .ready [] [], .leaf0, 0, 1,
    by decide +kernel⟩,
  ⟨W .ready [fun L => L.put MBX_BIND_ID_A 1 0, fun L => L.put MBX_BIND_ID_B 2 0, fun L => L.put MBX_STAT_STATE 1 0, fun L => L.put MBX_STAT_SENDER 1 0] [], .leaf0, 0, 0, 1,
    by decide +kernel⟩,
  ⟨W .ready [fun L => L.put MBX_BIND_ID_A 1 0, fun L => L.put MBX_BIND_ID_B 2 0, fun L => L.put MBX_STAT_STATE 2 0, fun L => L.put MBX_STAT_SENDER 2 0] [], .leaf0, 0, 0, 1,
    by decide +kernel⟩,
  ⟨W .ready [fun L => L.put MBX_BIND_ID_A 1 0, fun L => L.put MBX_BIND_ID_B 2 0, fun L => L.put MBX_STAT_STATE 3 0, fun L => L.put MBX_STAT_SENDER 1 0] [], .leaf0, 0, 1,
    by decide +kernel⟩,
  ⟨W .ready [fun L => L.put MBX_BIND_ID_A 1 0, fun L => L.put MBX_BIND_ID_B 2 0, fun L => L.put MBX_STAT_STATE 1 0, fun L => L.put MBX_STAT_SENDER 1 0] [], .leaf0, 0, 1,
    by decide +kernel⟩,
  ⟨W .ready [fun L => L.put MBX_BIND_TMO 1 (0 : Fin 32), fun L => L.put MBX_BIND_ID_A 1 0, fun L => L.put MBX_BIND_ID_B 2 0, fun L => L.put MBX_STAT_STATE 2 0, fun L => L.put MBX_STAT_SENDER 1 0] [], .leaf0, 0,
    by decide +kernel⟩,
  ⟨W .ready [fun L => L.put MBX_BIND_ID_A 1 0, fun L => L.put MBX_BIND_ID_B 2 0, fun L => L.put MBX_STAT_STATE 1 0, fun L => L.put MBX_STAT_SENDER 1 0] [], .leaf0, 0,
    by decide +kernel⟩,
  ⟨.leaf0, 1,
    by decide +kernel⟩,
  ⟨W .ready [fun L => { L with role := .lead }] [], .leaf0,
    by decide +kernel⟩⟩

theorem witness_bindings_and_locks :
    (∃ (s : State) (l : LeafId) (v : Word) (who : Ident),
      who.val = hostId l ∧
      s.setup = true ∧
      (s.leaf l).get MBX_TBL_LOCKED = 0 ∧
      fieldOf v 2 0 < fieldOf v 5 3 ∧
      reaches l (fieldOf v 2 0) = true ∧
      reaches l (fieldOf v 5 3) = true) ∧
    (∃ (s : State) (l : LeafId) (who : Ident),
      reaches l who = true ∧
      (s.leaf l).get MBX_TBL_LOCKED = 1) ∧
    (∃ (l : LeafId) (who : Ident),
      reaches l who = true) ∧
    (∃ (s : State) (l : LeafId) (k : Fin 16) (who : Ident),
      reaches l who = true ∧
      (s.leaf l).get LOCK_OWNER k = 0) ∧
    (∃ (s : State) (l : LeafId) (k : Fin 16) (who : Ident),
      reaches l who = true ∧
      (s.leaf l).get LOCK_OWNER k ≠ 0 ∧
      (s.leaf l).get LOCK_OWNER k ≠ who) ∧
    (∃ (s : State) (l : LeafId) (k : Fin 16) (v : Word) (who : Ident),
      reaches l who = true ∧
      who.val ≠ 0 ∧
      (s.leaf l).get LOCK_OWNER k = who ∧
      fieldOf v 2 0 = who) ∧
    (∃ (s : State) (l : LeafId) (k : Fin 16) (who : Ident),
      reaches l who = true ∧
      (s.leaf l).get LOCK_OWNER k ≠ who) :=
  ⟨⟨W .ready [fun L => L.put MBX_TBL_LOCKED 0] [], .leaf0, 25, 1,
    by decide +kernel⟩,
  ⟨W .ready [fun L => L.put MBX_TBL_LOCKED 1] [], .leaf0, 1,
    by decide +kernel⟩,
  ⟨.leaf0, 1,
    by decide +kernel⟩,
  ⟨W .ready [fun L => L.put LOCK_OWNER 0 (0 : Fin 16)] [], .leaf0, 0, 1,
    by decide +kernel⟩,
  ⟨W .ready [fun L => L.put LOCK_OWNER 1 (0 : Fin 16)] [], .leaf0, 0, 3,
    by decide +kernel⟩,
  ⟨W .ready [fun L => L.put LOCK_OWNER (1 : Ident) (0 : Fin 16)] [], .leaf0, 0, 1, 1,
    by decide +kernel⟩,
  ⟨W .ready [] [], .leaf0, 0, 1,
    by decide +kernel⟩⟩

theorem witness_descriptor_checks :
    (∃ (ring : Nat) (d : Desc),
      ring < 10 ∧
      d.readOk = false) ∧
    (∃ (ring : Nat) (d : Desc),
      ring < 10 ∧
      d.readOk = true ∧
      slotCrc d.bytes ≠ sl d.bytes 14 2) ∧
    (∃ (L : Leaf) (ring : Nat) (d : Desc),
      ring < 10 ∧
      d.readOk = true ∧
      slotCrc d.bytes = sl d.bytes 14 2 ∧
      slBits d.bytes 1 1 0 0 ≠ phaseAt (L.get HRE_IRCFG_CONS ring) (L.get HRE_IRCFG_LOG2SIZE ring)) ∧
    (∃ (L : Leaf) (ring : Nat) (d : Desc),
      ring < 10 ∧
      Sound L ring d ∧
      (∀ q, pick L.hre.dseq ring = some q → (hdrOf d.bytes).dseq = q + 1)) ∧
    (∃ (L : Leaf) (ring : Nat) (d : Desc) (q : BitVec 32),
      ring < 10 ∧
      Sound L ring d ∧
      pick L.hre.dseq ring = some q ∧
      (hdrOf d.bytes).dseq ≠ q + 1) :=
  ⟨⟨1, ⟨0, false⟩,
    by decide +kernel⟩,
  ⟨1, ⟨1, true⟩,
    by decide +kernel⟩,
  ⟨(reader 1 (Leaf.reset .leaf0)).put HRE_IRCFG_CONS 64 1, 1, desc 1 8 [],
    by decide +kernel⟩,
  ⟨reader 1 (Leaf.reset .leaf0), 1, desc 1 8 [],
    ⟨by decide +kernel, by unfold Sound; decide +kernel, fun q hq => absurd (hq.symm.trans (show pick (reader 1 (Leaf.reset .leaf0)).hre.dseq 1 = none by decide +kernel)) (by simp)⟩⟩,
  ⟨{ (reader 1 (Leaf.reset .leaf0)) with hre := { (Leaf.reset .leaf0).hre with dseq := Vector.replicate 32 (some 4) } }, 1, desc 1 8 [], 4,
    ⟨by decide +kernel, by unfold Sound; decide +kernel, by decide +kernel⟩⟩⟩

/-- A leaf fit for a drum move, a park move and a charge. -/
def fit : Leaf :=
  ((((((((((Leaf.reset .leaf0).put ACT_CHSTAT_STATE 1 0).put ACT_CHSTAT_STATE 1 1).put ACT_STAT_REFERENCED 1).put ACT_STAT_GEAR 1).put
    ACT_STAT_PARK 1).put ACT_DRUM_NEUT_POS 100).put ACT_DRUM_G2_POS 200).put ACT_SHIFT_RATIO1 300).put ACT_SHIFT_RATIO2 200)
    |>.put ACT_SHIFT_WHEEL_CIRC 2000 |>.put ACT_SHIFT_PARK_SPD 3 |>.put POS_STAT_SRC 1 0

/-- A leaf whose charger may start a session. -/
def ready : Leaf :=
  ({ Leaf.reset .leaf0 with chg := { (Leaf.reset .leaf0).chg with pilotLim := 160 } }.put CHG_CTRL_EN 1).put CHG_STAT_STATE 1
    |>.put CHG_STAT_CABLE 2

theorem witness_descriptor_waits_for_seal :
    (∃ (c : Instr) (s : State) (l : LeafId) (d : Desc) (ring : Nat) (op : Nat) (L : Leaf) (h : Hdr),
      waitingDesc c = some (l, d, ring, op, true) ∧
      Reads (s.leaf l) ring op d L h) ∧
    (∃ (L : Leaf) (h : Hdr) (d : Slot), L.hre.rxq = [(h, d)]) ∧
    (∃ (h : Hdr) (d : Slot), h.ring = 0 ∧ opcode d = 0x20 ∧ slBits d 17 1 7 4 = 0 ∧
      slBits d 17 1 (0 : Fin 2) (0 : Fin 2) = 1 ∧ slBits d 17 1 (1 : Fin 2) (1 : Fin 2) = 0) ∧
    (∃ (L : Leaf) (h : Hdr) (d : Slot), h.ring = 0 ∧ opcode d = 0x30 ∧ slBits d 17 1 7 7 = 0 ∧ slBits d 17 1 3 2 ≠ 3 ∧
      (700 : Rat) ≤ (sl d 18 2 : Rat) / 10 ∧ (sl d 18 2 : Rat) / 10 ≤ 950 ∧
      (sl d 18 2 : Rat) / 10 ≤ L.ovVolts LNK_OV_OV_CHOP_OFF - 20 ∧ slBits d 17 1 4 3 = 0 ∧ slBits d 17 1 4 2 = 1 ∧ L.con = 0 ∧
      L.lnk.hvilOpen = false ∧ L.lnk.crash = false ∧ L.on LNK_STAT_PRE_LOCK = false ∧
      (L.get LNK_LIM_BATT_MIN : Rat) ≤ L.vBatt ∧ L.vBatt ≤ L.get LNK_LIM_BATT_MAX) ∧
    (∃ (L : Leaf) (h : Hdr) (d : Slot), h.ring = 0 ∧ opcode d = 0x30 ∧ slBits d 17 1 7 7 = 0 ∧ slBits d 17 1 3 2 ≠ 3 ∧
      (700 : Rat) ≤ (sl d 18 2 : Rat) / 10 ∧ (sl d 18 2 : Rat) / 10 ≤ 950 ∧
      (sl d 18 2 : Rat) / 10 ≤ L.ovVolts LNK_OV_OV_CHOP_OFF - 20 ∧ slBits d 17 1 4 4 = 1) ∧
    (∃ (L : Leaf) (h : Hdr) (d : Slot), h.ring = 0 ∧ opcode d = 0x30 ∧ slBits d 17 1 7 7 = 0 ∧ slBits d 17 1 3 2 ≠ 3 ∧
      (700 : Rat) ≤ (sl d 18 2 : Rat) / 10 ∧ (sl d 18 2 : Rat) / 10 ≤ 950 ∧
      (sl d 18 2 : Rat) / 10 ≤ L.ovVolts LNK_OV_OV_CHOP_OFF - 20 ∧ slBits d 17 1 4 3 = 1 ∧ 1 ≤ L.con ∧ L.con ≤ 3) ∧
    (∃ (L : Leaf) (h : Hdr) (d : Slot), h.ring = 0 ∧ opcode d = 0x40 ∧ sl d 17 1 < 32 ∧ sl d 17 1 % 16 = 1 ∧ L.chgState = 1 ∧
      (L.takeHlc d).admissible = true) ∧
    (∃ (L : Leaf) (h : Hdr) (d : Slot), h.ring = 0 ∧ opcode d = 0x40 ∧ sl d 17 1 < 32 ∧ sl d 17 1 % 16 = 2 ∧ L.chgState = 1 ∧
      (L.takeHlc d).admissible = false) ∧
    (∃ (L : Leaf) (h : Hdr) (d : Slot), h.ring = 0 ∧ opcode d = 0x40 ∧ sl d 17 1 < 32 ∧ sl d 17 1 % 16 = 4 ∧ 2 ≤ L.chgState ∧
      L.chgState ≤ 7 ∧ L.chg.stopFrom = none) ∧
    (∃ (L : Leaf) (h : Hdr) (d : Slot), h.ring = 0 ∧ opcode d = 0x40 ∧ sl d 17 1 < 32 ∧ sl d 17 1 % 16 = 8 ∧ L.chgState = 9 ∧
      L.chg.expiry = 0 ∧ (L.takeHlc d).admissible = true) ∧
    (∃ (h : Hdr) (d : Slot), h.ring = 0 ∧ opcode d = 0x40 ∧ sl d 17 1 = 16) ∧
    (∃ (h : Hdr) (d : Slot), h.ring = 0 ∧ opcode d = 0x50 ∧ sl d 17 1 < 64 ∧ actRequest d = 0 ∧ slBits d 17 1 4 4 = 1 ∧
      slBits d 17 1 3 3 = 1) ∧
    (∃ (h : Hdr) (d : Slot), h.ring = 0 ∧ opcode d = 0x50 ∧ sl d 17 1 < 64 ∧ actRequest d = 1 ∧ sl d 18 1 ≠ 1 ∧ sl d 18 1 ≠ 2) ∧
    (∃ (L : Leaf) (h : Hdr) (d : Slot), h.ring = 0 ∧ opcode d = 0x50 ∧ sl d 17 1 < 64 ∧ actRequest d = 1 ∧ sl d 18 1 = 2 ∧
      L.shifting = false ∧ L.actState 0 ≠ 1) ∧
    (∃ (L : Leaf) (h : Hdr) (d : Slot), h.ring = 0 ∧ opcode d = 0x50 ∧ sl d 17 1 < 64 ∧ actRequest d = 1 ∧ sl d 18 1 = 2 ∧
      L.shifting = false ∧ L.actState 0 = 1 ∧ L.on ACT_STAT_REFERENCED = true ∧ sl d 18 1 ≠ L.get ACT_STAT_GEAR ∧
      L.get ACT_STAT_PARK = 1 ∧ L.on ACT_DRUM_NEUT_POS = true ∧ L.on ACT_DRUM_G2_POS = true ∧ L.on ACT_SHIFT_RATIO1 = true ∧
      L.on ACT_SHIFT_RATIO2 = true ∧ (∀ m : Fin 2, L.get POS_OBS_SPD_MAX m = 0 ∨
        ratAbs ((L.takeSpeeds d).outputRpm * L.ratio (sl d 18 1)) ≤ (95 : Rat) / 100 * L.get POS_OBS_SPD_MAX m)) ∧
    (∃ (L : Leaf) (h : Hdr) (d : Slot) (v w : Rat), h.ring = 0 ∧ opcode d = 0x50 ∧ sl d 17 1 < 64 ∧ actRequest d = 2 ∧
      (L.takeSpeeds d).actState 1 = 1 ∧ (L.takeSpeeds d).parkSpeed = some v ∧
      L.wheelRpm ((10 * L.get ACT_SHIFT_PARK_SPD : Nat) : Rat) = some w ∧ v < w ∧ (∀ m : Fin 2, L.hostRequest m = 0) ∧
      L.shifting = false) ∧
    (∃ (L : Leaf) (h : Hdr) (d : Slot), h.ring = 0 ∧ opcode d = 0x50 ∧ sl d 17 1 < 64 ∧ actRequest d = 4 ∧
      (L.takeSpeeds d).actState 1 = 1) ∧
    (∃ (L : Leaf) (h : Hdr) (d : Slot), h.ring = 0 ∧ opcode d = 0x50 ∧ sl d 17 1 < 64 ∧ actRequest d = 2 ∧
      (L.takeSpeeds d).actState 1 ≠ 1) ∧
    (∃ (L : Leaf) (h : Hdr) (d : Slot), h.ring = 0 ∧ opcode d = 0x50 ∧ sl d 17 1 < 64 ∧ actRequest d = 32 ∧
      L.on POS_STAT_STILL 0 = true ∧ L.on POS_STAT_STILL 1 = true ∧ L.get ACT_STAT_PARK = 2 ∧ L.shifting = false ∧ L.actState 0 = 1) ∧
    (∃ (L : Leaf) (h : Hdr) (d : Slot) (b : Fin 4) (k : Fin 3), h.ring = 4 + b ∧ sl d 17 1 % 4 = k ∧ (b = 0 → k = 2) ∧
      (L.bus b).awaiting = none ∧ opcode d = 0x60 ∧ L.sendBad b d = none ∧ slBits d 18 1 4 4 = 0 ∧ L.eState b ≠ 2 ∧
      pick (L.bus b).txb k = none) ∧
    (∃ (L : Leaf) (h : Hdr) (d : Slot) (b : Fin 4) (k : Fin 3), h.ring = 4 + b ∧ sl d 17 1 % 4 = k ∧ (b = 0 → k = 2) ∧
      (L.bus b).awaiting = none ∧ opcode d = 0x60 ∧ L.sendBad b d = none ∧ slBits d 18 1 4 4 = 1) ∧
    (∃ (L : Leaf) (h : Hdr) (d : Slot) (b : Fin 4) (k : Fin 3), h.ring = 4 + b ∧ sl d 17 1 % 4 = k ∧ (b = 0 → k = 2) ∧
      (L.bus b).awaiting = none ∧ opcode d = 0x60 ∧ L.sendBad b d = none ∧ slBits d 18 1 4 4 = 0 ∧ L.eState b = 2) ∧
    (∃ (L : Leaf) (h : Hdr) (d : Slot) (b : Fin 4) (k : Fin 3), h.ring = 4 + b ∧ sl d 17 1 % 4 = k ∧ (b = 0 → k = 2) ∧
      (L.bus b).awaiting = none ∧ opcode d = 0x61) ∧
    (∃ (L : Leaf) (h : Hdr) (d : Slot) (b : Fin 4) (k : Fin 3) (inp : SealIn), h.ring = 4 + b ∧ sl d 17 1 % 4 = k ∧ (b = 0 → k = 2) ∧
      (L.bus b).awaiting = none ∧ opcode d = 0x62 ∧ inp.canTx = []) ∧
    (∃ (L : Leaf) (h h0 : Hdr) (d d0 : Slot) (b : Fin 4) (k : Fin 3), h.ring = 4 + b ∧ sl d0 17 1 % 4 = k ∧
      (L.bus b).awaiting = some (h0, d0) ∧ opcode d = 0x61 ∧ h.dseq = h0.dseq + 1 ∧ L.eState b ≠ 2 ∧
      pick (L.bus b).txb k = none) :=
  let h0 : Hdr := ⟨0, false, 0, 0, 0, 0⟩
  let R := Leaf.reset .leaf0
  ⟨⟨.traction .leaf0 (desc 0 32 []), W .ready [reader 0] [], .leaf0, desc 0 32 [], 0, 32, seen (((W .ready [reader 0] [])).leaf .leaf0) 0 (desc 0 32 []), hdrOf (slotOf 0 32 []),
    ⟨by decide +kernel, reads_of (by decide +kernel) (by decide +kernel) (by decide +kernel) (by decide +kernel)⟩⟩,
  ⟨{ R with hre := { R.hre with rxq := [(h0, 5)] } }, h0, 5, rfl⟩,
  ⟨h0, slotOf 0 0x20 [(17, 5)], by decide +kernel⟩,
  ⟨(R.put LNK_LIM_BATT_MIN 0).put LNK_LIM_BATT_MAX 800, h0, slotOf 0 0x30 [(17, 6), (18, 7500)], by decide +kernel⟩,
  ⟨R, h0, slotOf 0 0x30 [(17, 16), (18, 7500)], by decide +kernel⟩,
  ⟨R.put LNK_STAT_CON 3, h0, slotOf 0 0x30 [(17, 8), (18, 7000)], by decide +kernel⟩,
  ⟨ready, h0, slotOf 0 0x40 [(17, 1)], by decide +kernel⟩,
  ⟨ready.put CHG_CTRL_EN 0, h0, slotOf 0 0x40 [(17, 2)], by decide +kernel⟩,
  ⟨ready.put CHG_STAT_STATE 5, h0, slotOf 0 0x40 [(17, 4)], by decide +kernel⟩,
  ⟨ready.put CHG_STAT_STATE 9, h0, slotOf 0 0x40 [(17, 8)], by decide +kernel⟩,
  ⟨h0, slotOf 0 0x40 [(17, 16), (18, 320)], by decide +kernel⟩,
  ⟨h0, slotOf 0 0x50 [(17, 24), (20, 2000), (22, 5000)], by decide +kernel⟩,
  ⟨h0, slotOf 0 0x50 [(17, 1), (18, 3)], by decide +kernel⟩,
  ⟨R, h0, slotOf 0 0x50 [(17, 1), (18, 2)], by decide +kernel⟩,
  ⟨fit, h0, slotOf 0 0x50 [(17, 1), (18, 2)], by decide +kernel⟩,
  ⟨fit, h0, slotOf 0 0x50 [(17, 2)], 0, 5 / 2, by decide +kernel⟩,
  ⟨fit, h0, slotOf 0 0x50 [(17, 4)], by decide +kernel⟩,
  ⟨R, h0, slotOf 0 0x50 [(17, 2)], by decide +kernel⟩,
  ⟨((fit.put ACT_STAT_PARK 2).put POS_STAT_STILL 1 0).put POS_STAT_STILL 1 1, h0, slotOf 0 0x50 [(17, 32)], by decide +kernel⟩,
  ⟨R, { h0 with ring := 5 }, slotOf 5 0x60 [(17, 1), (19, 8)], 1, 1, by decide +kernel⟩,
  ⟨R.onBus 1 fun B => { B with cfg := 0xFFFFFFFFFFFFFFFF }, { h0 with ring := 5 }, slotOf 5 0x60 [(17, 1), (18, 18), (19, 15)], 1, 1, by decide +kernel⟩,
  ⟨R.put CAN_STAT_ESTATE 2 1, { h0 with ring := 5 }, slotOf 5 0x60 [(17, 1), (19, 8)], 1, 1, by decide +kernel⟩,
  ⟨R, { h0 with ring := 5 }, slotOf 5 0x61 [(17, 1)], 1, 1, by decide +kernel⟩,
  ⟨R, { h0 with ring := 5 }, slotOf 5 0x62 [(17, 1)], 1, 1, {}, by decide +kernel⟩,
  ⟨R.onBus 1 fun B => { B with awaiting := some ({ h0 with ring := 5 }, slotOf 5 0x60 [(17, 1)]) }, { h0 with ring := 5, dseq := 1 },
    { h0 with ring := 5 }, slotOf 5 0x61 [], slotOf 5 0x60 [(17, 1)], 1, 1, by decide +kernel⟩⟩

theorem witness_can_frames :
    (∃ (s : State) (l : LeafId) (b : Fin 4) (f : CanRx) (i : Nat),
      s.canRuns l b = true ∧
      (s.leaf l).eState b < 2 ∧
      f.fdf = false ∧
      b.val ≠ 0 ∧
      (s.leaf l).on CAN_STAT_VOICE_HELD b = true ∧
      ((List.range 32).find? fun i => (s.leaf l).pairTakes b i f) = some i ∧
      (pick ((s.leaf l).bus b).rxq ((s.leaf l).get CAN_MATCH_DEST (32 * b + i))).length +
        (pick ((s.leaf l).bus b).shadow ((s.leaf l).get CAN_MATCH_DEST (32 * b + i))).toList.length < 16) ∧
    (∃ (s : State) (l : LeafId) (b : Fin 4) (f : CanRx) (i : Nat),
      s.canRuns l b = true ∧
      (s.leaf l).eState b < 2 ∧
      f.fdf = false ∧
      b.val ≠ 0 ∧
      (s.leaf l).on CAN_STAT_VOICE_HELD b = true ∧
      ((List.range 32).find? fun i => (s.leaf l).pairTakes b i f) = some i ∧
      16 ≤ (pick ((s.leaf l).bus b).rxq ((s.leaf l).get CAN_MATCH_DEST (32 * b + i))).length +
        (pick ((s.leaf l).bus b).shadow ((s.leaf l).get CAN_MATCH_DEST (32 * b + i))).toList.length ∧
      ((pick ((s.leaf l).bus b).rxq ((s.leaf l).get CAN_MATCH_DEST (32 * b + i))).length < 16 ∨
        pick ((s.leaf l).bus b).shadow ((s.leaf l).get CAN_MATCH_DEST (32 * b + i)) = none)) ∧
    (∃ (s : State) (l : LeafId) (b : Fin 4) (f : CanRx) (i : Nat),
      s.canRuns l b = true ∧
      (s.leaf l).eState b < 2 ∧
      f.fdf = false ∧
      b.val ≠ 0 ∧
      (s.leaf l).on CAN_STAT_VOICE_HELD b = true ∧
      ((List.range 32).find? fun i => (s.leaf l).pairTakes b i f) = some i ∧
      16 ≤ (pick ((s.leaf l).bus b).rxq ((s.leaf l).get CAN_MATCH_DEST (32 * b + i))).length ∧
      pick ((s.leaf l).bus b).shadow ((s.leaf l).get CAN_MATCH_DEST (32 * b + i)) ≠ none) ∧
    (∃ (s : State) (l : LeafId) (f : CanRx),
      s.canRuns l 0 = true ∧
      (s.leaf l).eState 0 < 2 ∧
      f.fdf = false ∧
      (s.leaf l).crashFrame f = true) ∧
    (∃ (s : State) (l : LeafId) (b : Fin 4) (k : Fin 3) (f : TxFrame),
      s.canRuns l b = true ∧
      (s.leaf l).eState b < 2 ∧
      pick ((s.leaf l).bus b).txb k = some f ∧
      (s.leaf l).on CAN_STAT_VOICE_HELD b = true ∧
      ((s.leaf l).bus b).mayGo k = true ∧
      (s.leaf l).sending = true ∧
      ((s.leaf l).bus b).hold = []) ∧
    (∃ (s : State) (v : LeafId),
      s.setup = true ∧
      s.mayVoice v = true) ∧
    (∃ (s : State) (b : Fin 4),
      (s.mode = .ready ∨ s.mode = .workshop ∨ s.mode = .carry) ∧
      s.leaf0.declares b = true ∧
      s.leaf1.declares b = false) ∧
    (∃ (s : State) (b : Fin 4),
      (s.mode = .ready ∨ s.mode = .workshop ∨ s.mode = .carry) ∧
      s.leaf0.declares b = true ∧
      s.leaf1.declares b = true) ∧
    (∃ (s : State) (b : Fin 4),
      s.leaf0.declares b = false ∧
      s.leaf1.declares b = false) ∧
    (∃ (s : State) (b : Fin 4) (us : Nat),
      1000 ≤ us ∧
      pick s.xcvr b ≠ none) :=
  ⟨⟨W .carry [fun L => L.put CAN_STAT_VOICE_HELD 1 (1 : Fin 4), fun L => { L with role := .lead }, fun L => L.onBus 1 fun B => { B with cfg := 0xaa00a00000000000 }, fun L => L.put CAN_MATCH_EN 1 32, fun L => L.put CAN_MATCH_MASK 0 32, fun L => L.put CAN_MATCH_DEST 0 32] [], .leaf0, 1, default, 0,
    by decide +kernel⟩,
  ⟨W .carry [fun L => L.put CAN_STAT_VOICE_HELD 1 (1 : Fin 4), fun L => { L with role := .lead }, fun L => L.onBus 1 fun B => { B with cfg := 0xaa00a00000000000 }, fun L => L.put CAN_MATCH_EN 1 32, fun L => L.put CAN_MATCH_MASK 0 32, fun L => L.put CAN_MATCH_DEST 0 32, fun L => L.onBus 1 fun B => { B with rxq := #v[List.replicate 15 (default, 0), []], shadow := #v[some (default, 0), none] }] [], .leaf0, 1, default, 0,
    by decide +kernel⟩,
  ⟨W .carry [fun L => L.put CAN_STAT_VOICE_HELD 1 (1 : Fin 4), fun L => { L with role := .lead }, fun L => L.onBus 1 fun B => { B with cfg := 0xaa00a00000000000 }, fun L => L.put CAN_MATCH_EN 1 32, fun L => L.put CAN_MATCH_MASK 0 32, fun L => L.put CAN_MATCH_DEST 0 32, fun L => L.onBus 1 fun B => { B with rxq := #v[List.replicate 16 (default, 0), []], shadow := #v[some (default, 0), none] }] [], .leaf0, 1, default, 0,
    by decide +kernel⟩,
  ⟨W .carry [fun L => { L with role := .lead }, fun L => L.onBus 0 fun B => { B with cfg := 0xaa00a00000000000 }, fun L => L.put LNK_CON_CRASH_CAN 1, fun L => L.put LNK_CON_CRASH_ID 7] [], .leaf0, { (default : CanRx) with id := 7, data := [0xA5] },
    by decide +kernel⟩,
  ⟨W .carry [fun L => { L with role := .lead }, fun L => L.put CAN_STAT_VOICE_HELD 1 (1 : Fin 4), fun L => { L with role := .lead }, fun L => L.onBus 1 fun B => { B with cfg := 0xaa00a00000000000 }, fun L => L.onBus 1 fun B => { B with txb := #v[some {}, none, none] }] [], .leaf0, 1, 0, {},
    by decide +kernel⟩,
  ⟨W .ready [fun L => { L with role := .lead }, fun L => L.put CRS_STAT_ALIGNED 1] [], .leaf0,
    by decide +kernel⟩,
  ⟨W .carry [fun L => { L with role := .lead }, fun L => L.put CAN_STAT_VOICE_HELD 1 0] [], 0,
    by decide +kernel⟩,
  ⟨W .carry [fun L => { L with role := .lead }, fun L => L.put CAN_STAT_VOICE_HELD 1 0] [fun s => s.setLeaf .leaf1 (List.foldl (fun L f => f L) s.leaf1 [fun L => { L with role := .lead }, fun L => L.put CAN_STAT_VOICE_HELD 1 0])], 0,
    by decide +kernel⟩,
  ⟨W .ready [] [], 0,
    by decide +kernel⟩,
  ⟨W .ready [] [fun s => { s with xcvr := #v[some .leaf0, none, none, none] }], 0, 1000,
    by decide +kernel⟩⟩

theorem witness_can_error_states :
    (∃ (s : State) (l : LeafId) (b : Fin 4) (tec : BitVec 9),
      s.canRuns l b = true ∧
      (s.leaf l).eState b < 2 ∧
      (s.leaf l).on CAN_STAT_VOICE_HELD b = true ∧
      tec.toNat < 256) ∧
    (∃ (s : State) (l : LeafId) (b : Fin 4),
      s.canRuns l b = true ∧
      (s.leaf l).eState b ≠ 2 ∧
      (s.leaf l).on CAN_STAT_VOICE_HELD b = true) ∧
    (∃ (s : State) (l : LeafId) (b : Fin 4),
      s.setup = true ∧
      (s.leaf l).eState b = 2) ∧
    (∃ (s : State) (l : LeafId) (c : Course),
      (s.leaf l).eState 0 = 2 ∧
      ((s.leaf l).bus 0).lasting = false ∧
      ((s.leaf l).bus 0).boAt = some c ∧
      1600 * fieldOf ((s.leaf l).bus 0).cfg 51 44 ≤ since (s.leaf l).count c) ∧
    (∃ (s : State) (l : LeafId) (b : Fin 4) (n : Nat),
      (s.leaf l).eState b = 3 ∧
      ((s.leaf l).bus b).recovering = true ∧
      128 ≤ n) ∧
    (∃ (s : State) (l : LeafId) (b : Fin 4),
      ((s.leaf l).bus b).nbt ≠ (s.leaf l).word CAN_NBT b ∧
      (s.leaf l).eState b ≠ 2 ∧
      fieldOf ((s.leaf l).word CAN_CFG b) 63 63 = 1) :=
  ⟨⟨W .carry [fun L => L.put CAN_STAT_VOICE_HELD 1 (1 : Fin 4), fun L => { L with role := .lead }, fun L => L.onBus 1 fun B => { B with cfg := 0xaa00a00000000000 }] [], .leaf0, 1, 0,
    by decide +kernel⟩,
  ⟨W .carry [fun L => L.put CAN_STAT_VOICE_HELD 1 (1 : Fin 4), fun L => { L with role := .lead }, fun L => L.onBus 1 fun B => { B with cfg := 0xaa00a00000000000 }] [], .leaf0, 1,
    by decide +kernel⟩,
  ⟨W .ready [fun L => L.put CAN_STAT_ESTATE 2 0] [], .leaf0, 0,
    by decide +kernel⟩,
  ⟨W .ready [fun L => L.put CAN_STAT_ESTATE 2 0, fun L => L.onBus 0 fun B => { B with boAt := some 0 }] [], .leaf0, 0,
    by decide +kernel⟩,
  ⟨W .ready [fun L => L.put CAN_STAT_ESTATE 3 0, fun L => L.onBus 0 fun B => { B with recovering := true }] [], .leaf0, 0, 128,
    by decide +kernel⟩,
  ⟨W .ready [fun L => L.onBus 0 fun B => { B with nbt := 0 }, fun L => L.setWord CAN_CFG 0 0xaa00a00000000000] [], .leaf0, 0,
    by decide +kernel⟩⟩

theorem witness_ethernet :
    (∃ (s : State) (l : LeafId) (p : Fin 2) (f : EthFrame),
      (s.leaf l).on NET_PORT_EN p = true ∧
      (s.leaf l).on NET_PORT_LINK p = true ∧
      (f.fcsOk = false ∨ 1522 < f.len)) ∧
    (∃ (s : State) (l : LeafId) (p : Fin 2) (f : EthFrame),
      (s.leaf l).on NET_PORT_EN p = true ∧
      (s.leaf l).on NET_PORT_LINK p = true ∧
      f.fcsOk = true ∧
      f.len ≤ 1522 ∧
      (s.leaf l).on NET_PORT_ING_FILT p = false ∧
      (s.leaf l).on NET_CTRL_LEARN = true ∧
      f.src.getLsbD 40 = false ∧
      (s.leaf l).net.fdb = []) ∧
    (∃ (s : State) (l : LeafId) (mac : BitVec 48) (p : Nat) (c : Course),
      (s.leaf l).net.fdb = [(mac, p, c)] ∧
      160000 * (s.leaf l).get NET_CTRL_AGE ≤ since (s.leaf l).count c) ∧
    (∃ (s : State) (l : LeafId) (k : Fin 16),
      (pick (s.leaf l).net.recov k).takeAny = false ∧
      160 * (s.leaf l).get NET_CTRL_RESET ≤ since (s.leaf l).count (pick (s.leaf l).net.recov k).last) ∧
    (∃ (s : State) (l : LeafId) (p : Fin 2),
      (s.leaf l).on NET_PORT_LINK p = true) ∧
    (∃ (s : State) (l : LeafId) (p : Fin 2),
      (s.leaf l).on NET_PORT_LINK p = false) ∧
    (∃ (s : State) (l : LeafId) (p : Fin 2) (m : PtpRx),
      (s.leaf l).on NET_PORT_EN p = true ∧
      (s.leaf l).on NET_PORT_LINK p = true ∧
      (s.leaf l).on NET_PORT_PTP_EN p = true ∧
      m.sync = true) ∧
    (∃ (s : State) (l : LeafId),
      (s.leaf l).computing = true ∧
      (s.leaf l).count.toNat % 1600 = 0 ∧
      (s.leaf l).get NET_PTPC_COURSE ≠ (s.leaf l).count.toNat) ∧
    (∃ (s : State) (l : LeafId) (c : Course),
      (s.leaf l).on NET_STAT_SYNC = true ∧
      (s.leaf l).net.syncAt = some c ∧
      60000 ≤ since (s.leaf l).count c) ∧
    (∃ (s : State) (l : LeafId) (d : Desc) (L : Leaf) (h : Hdr),
      Reads (s.leaf l) 8 0x70 d L h ∧
      bufferOk (sl d.bytes 24 8) (sl d.bytes 32 4) 1536 = true) :=
  ⟨⟨W .ready [fun L => L.put NET_PORT_EN 1 (0 : Fin 2), fun L => L.put NET_PORT_LINK 1 (0 : Fin 2)] [], .leaf0, 0, default,
    by decide +kernel⟩,
  ⟨W .ready [fun L => L.put NET_PORT_EN 1 (0 : Fin 2), fun L => L.put NET_PORT_LINK 1 (0 : Fin 2), fun L => L.put NET_CTRL_LEARN 1, fun L => { L with net := { L.net with fdb := [] } }, fun L => L.put NET_PORT_ING_FILT 0 0] [], .leaf0, 0, { (default : EthFrame) with fcsOk := true },
    by decide +kernel⟩,
  ⟨W .ready [fun L => { L with net := { L.net with fdb := [((0 : BitVec 48), 0, (0 : Course))] } }] [], .leaf0, 0, 0, 0,
    by decide +kernel⟩,
  ⟨W .ready [fun L => { L with net := { L.net with recov := alter L.net.recov (0 : Fin 16) fun x => { x with takeAny := false } } }] [], .leaf0, 0,
    by decide +kernel⟩,
  ⟨W .ready [fun L => L.put NET_PORT_LINK 1 (0 : Fin 2)] [], .leaf0, 0,
    by decide +kernel⟩,
  ⟨W .ready [] [], .leaf0, 0,
    by decide +kernel⟩,
  ⟨W .ready [fun L => L.put NET_PORT_EN 1 (0 : Fin 2), fun L => L.put NET_PORT_LINK 1 (0 : Fin 2), fun L => L.put NET_PORT_PTP_EN 1 (0 : Fin 2)] [], .leaf0, 0, ⟨true, 0, 0, 0, (0, 0), 0, 0⟩,
    by decide +kernel⟩,
  ⟨W .ready [fun L => { L with role := .lead }] [], .leaf0,
    by decide +kernel⟩,
  ⟨W .ready [fun L => L.put NET_STAT_SYNC 1, fun L => { L with net := { L.net with syncAt := some (0 : Course) } }] [], .leaf0, 0,
    by decide +kernel⟩,
  ⟨W .ready [reader 8] [], .leaf0, desc 8 112 [(24, 4096), (32, 64)], seen (((W .ready [reader 8] [])).leaf .leaf0) 8 (desc 8 112 [(24, 4096), (32, 64)]), hdrOf (slotOf 8 112 [(24, 4096), (32, 64)]),
    ⟨reads_of (by decide +kernel) (by decide +kernel) (by decide +kernel) (by decide +kernel), by decide +kernel⟩⟩⟩

theorem witness_ring_engine_and_link :
    (∃ (s : State) (l : LeafId),
      (s.mode = .ready ∨ s.mode = .workshop) ∧
      (s.leaf l).word HRE_DB_ADDR ≠ 0 ∧
      (s.leaf l).word HRE_SB_ADDR ≠ 0) ∧
    (∃ (s : State) (l : LeafId),
      (s.mode = .ready ∨ s.mode = .workshop) ∧
      (s.leaf l).word HRE_DB_ADDR = 0) ∧
    (∃ (s : State),
      (s.mode = .ready ∨ s.mode = .workshop)) ∧
    (∃ (s : State),
      (s.mode = .ready ∨ s.mode = .workshop)) ∧
    (∃ (s : State) (l : LeafId),
      s.mode = .carry ∧
      (s.leaf l).hre.downAt = none) :=
  ⟨⟨W .ready [fun L => (L.setWord HRE_DB_ADDR 0 4096).setWord HRE_SB_ADDR 0 8192] [], .leaf0,
    by decide +kernel⟩,
  ⟨W .ready [] [], .leaf0,
    by decide +kernel⟩,
  ⟨W .ready [] [],
    by decide +kernel⟩,
  ⟨W .ready [] [],
    by decide +kernel⟩,
  ⟨W .carry [fun L => { L with hre := { L.hre with downAt := none } }] [], .leaf0,
    by decide +kernel⟩⟩

theorem witness_doorbell_of_a_course :
    (∃ (s : State) (l : LeafId),
      (s.leaf l).role ≠ .boot ∧
      (s.leaf l).hre.fetchAt ≠ some (s.leaf l).count ∧
      (s.leaf l).on HRE_CTRL_RUN = true ∧
      (s.leaf l).master = true) ∧
    (∃ (s : State) (l : LeafId),
      (s.leaf l).role ≠ .boot ∧
      (s.leaf l).on HRE_CTRL_RUN = false) ∧
    (∃ (s : State) (l : LeafId),
      (s.leaf l).hre.reading = true ∧
      (s.leaf l).tick ≤ 3968) ∧
    (∃ (s : State) (l : LeafId),
      (s.leaf l).hre.reading = true ∧
      (s.leaf l).tick ≤ 3968) ∧
    (∃ (s : State) (l : LeafId),
      (s.leaf l).hre.reading = true ∧
      (s.leaf l).tick ≤ 3968) :=
  ⟨⟨W .ready [fun L => { L with role := .lead }, fun L => L.put HRE_CTRL_RUN 1, reader 0, fun L => L.put HRE_CTRL_RUN 1] [], .leaf0,
    by decide +kernel⟩,
  ⟨W .ready [fun L => { L with role := .lead }] [], .leaf0,
    by decide +kernel⟩,
  ⟨W .ready [fun L => { L with hre := { L.hre with reading := true } }] [], .leaf0,
    by decide +kernel⟩,
  ⟨W .ready [fun L => { L with hre := { L.hre with reading := true } }] [], .leaf0,
    by decide +kernel⟩,
  ⟨W .ready [fun L => { L with hre := { L.hre with reading := true } }] [], .leaf0,
    by decide +kernel⟩⟩

theorem witness_rings_retry_and_post :
    (∃ (s : State) (l : LeafId) (r : Fin 10) (d : Desc),
      (s.leaf l).canRead r = true ∧
      pick (s.leaf l).hre.retry r ≠ none ∧
      pick (s.leaf l).hre.fetched r = 0 ∧
      d.readOk = false) ∧
    (∃ (s : State) (l : LeafId) (d : Desc) (L : Leaf) (h : Hdr),
      (s.leaf l).canRead 0 = true ∧
      pick (s.leaf l).hre.retry 0 ≠ none ∧
      pick (s.leaf l).hre.fetched 0 = 0 ∧
      ((s.leaf l).checkDesc 0 d true).2 ≠ none ∧
      Reads ((s.leaf l).onHre fun H => { H with retry := H.retry.setIfInBounds 0 none }) 0 0x20 d L h) ∧
    (∃ (s : State) (l : LeafId) (r : Fin 10),
      (s.leaf l).carrying = true ∧
      (s.leaf l).on HRE_IRCFG_EN r = true ∧
      ((s.leaf l).waiting r).getD 0 ≠ 0 ∧
      1600 ≤ since (s.leaf l).count (pick (s.leaf l).hre.moved r)) ∧
    (∃ (s : State) (l : LeafId) (r : Fin 10) (e : OutEntry),
      (s.leaf l).nextEntry r = some e ∧
      e.ring = r ∧
      (s.leaf l).sending = true ∧
      (s.leaf l).master = true ∧
      (s.leaf l).ringOpen r = true ∧
      (s.leaf l).hre.postedNow.getLsbD r = false ∧
      (s.leaf l).tick < 3584 ∧
      ((s.leaf l).get HRE_ORCFG_PROD r + 2 ^ 16 - (s.leaf l).get HRE_ORCFG_CONS r) % 2 ^ 16 ≠ 2 ^ (s.leaf l).get HRE_ORCFG_LOG2SIZE r) ∧
    (∃ (s : State) (l : LeafId) (r : Fin 10) (e : OutEntry),
      (s.leaf l).nextEntry r = some e ∧
      ((s.leaf l).get HRE_ORCFG_PROD r + 2 ^ 16 - (s.leaf l).get HRE_ORCFG_CONS r) % 2 ^ 16 = 2 ^ (s.leaf l).get HRE_ORCFG_LOG2SIZE r ∧
      e.isLocal = true) ∧
    (∃ (s : State) (l : LeafId) (c : Rat),
      (s.leaf l).role ≠ .boot ∧
      1600 ≤ since (s.leaf l).count (s.leaf l).crs.compAt ∧
      (s.leaf l).correction = some c) :=
  ⟨⟨W .ready [reader 0, fun L => { L with hre := { L.hre with retry := (Vector.replicate 32 none).setIfInBounds 0 (some 0) } }] [], .leaf0, 0, ⟨0, false⟩,
    by decide +kernel⟩,
  ⟨W .ready [reader 0, fun L => { L with hre := { L.hre with retry := (Vector.replicate 32 none).setIfInBounds 0 (some 0) } }] [], .leaf0, desc 0 32 [], seen ((((W .ready [reader 0, fun L => { L with hre := { L.hre with retry := (Vector.replicate 32 none).setIfInBounds 0 (some 0) } }] [])).leaf .leaf0).onHre fun H => { H with retry := H.retry.setIfInBounds 0 none }) 0 (desc 0 32 []), hdrOf (slotOf 0 32 []),
    ⟨by decide +kernel, by decide +kernel, by decide +kernel, by decide +kernel, reads_of (by decide +kernel) (by decide +kernel) (by decide +kernel) (by decide +kernel)⟩⟩,
  ⟨W .ready [fun L => { L with role := .lead }, fun L => L.put HRE_IRCFG_EN 1 (0 : Fin 10), reader 0] [], .leaf0, 0,
    by decide +kernel⟩,
  ⟨W .ready [fun L => { L with role := .lead }, fun L => { L with role := .lead }, fun L => L.put HRE_STAT_LINK_UP 1, fun L => L.put HRE_STAT_BME 1, fun L => L.put HRE_STAT_RUNNING 1, fun L => L.put HRE_ORCFG_EN 1 0, fun L => L.put HRE_ORCFG_LOG2SIZE 6 0, fun L => { L with hre := { L.hre with comQ := [⟨0, false, 0, 0, none⟩] } }] [], .leaf0, 0, ⟨0, false, 0, 0, none⟩,
    by decide +kernel⟩,
  ⟨W .ready [fun L => { L with role := .lead }, fun L => L.put HRE_STAT_LINK_UP 1, fun L => L.put HRE_STAT_BME 1, fun L => L.put HRE_STAT_RUNNING 1, fun L => L.put HRE_ORCFG_EN 1 0, fun L => L.put HRE_ORCFG_LOG2SIZE 6 0, fun L => L.put HRE_ORCFG_PROD 64 0, fun L => { L with hre := { L.hre with locQ := [⟨0, true, 0, 0, none⟩] } }] [], .leaf0, 0, ⟨0, true, 0, 0, none⟩,
    by decide +kernel⟩,
  ⟨W .ready [fun L => { L with role := .lead }, fun L => { L with thm := { L.thm with sensors := alter L.thm.sensors 10 fun x => { x with last := [400] } } }, fun L => L.put THM_TEMP_STATE 0 10] [], .leaf0, 0,
    by decide +kernel⟩⟩

theorem witness_course_deadlines :
    (∃ (s : State) (l : LeafId),
      (s.leaf l).computing = true ∧
      (s.leaf l).ash.keyedOver = false ∧
      (s.leaf l).ash.fillOver = false ∧
      (∀ b : Fin 5, ∀ p, (s.leaf l).posOf b = some p → ((s.leaf l).pairx p).agreed = true)) ∧
    (∃ (s : State) (l : LeafId),
      (s.leaf l).computing = true ∧
      (s.leaf l).ash.fillOver = false) ∧
    (∃ (s : State) (l : LeafId),
      (s.leaf l).computing = true ∧
      0 < (s.leaf l).ash.base ∧
      1600 ≤ since (s.leaf l).count (s.leaf l).ash.lastBad) :=
  ⟨⟨W .ready [fun L => { L with role := .lead }, fun L => { L with ash := { L.ash with keyedOver := false } }, fun L => { L with ash := { L.ash with fillOver := false } }] [], .leaf0,
    ⟨by decide +kernel, by decide +kernel, by decide +kernel, fun b p hp => absurd (hp.symm.trans ((show ∀ b : Fin 5, ((W .ready [fun L => { L with role := .lead }, fun L => { L with ash := { L.ash with keyedOver := false } }, fun L => { L with ash := { L.ash with fillOver := false } }] []).leaf .leaf0).posOf b = none by decide +kernel) b)) (by simp)⟩⟩,
  ⟨W .ready [fun L => { L with role := .lead }, fun L => { L with ash := { L.ash with fillOver := false } }] [], .leaf0,
    by decide +kernel⟩,
  ⟨W .ready [fun L => { L with role := .lead }, fun L => { L with ash := { L.ash with base := 1 } }] [], .leaf0,
    by decide +kernel⟩⟩

theorem witness_blocks_complete :
    (∃ (s : State) (l : LeafId) (b : Fin 5) (tick : Fin 4000) (p : Nat),
      (s.leaf l).posOf b = some p ∧
      (s.leaf l).computing = true ∧
      (s.leaf l).ash.keyedOver = false ∧
      96 ≤ tick.val ∧
      tick.val ≤ 2688 ∧
      ((s.leaf l).pairx p).agreed = false ∧
      ((s.leaf l).pairx p).rerun = false ∧
      ((s.leaf l).pairx p).stopped = false) ∧
    (∃ (s : State) (l : LeafId) (e : Fin 24) (tick : Fin 4000) (b : FillBlock),
      ((s.leaf l).eng e).running = some b ∧
      (s.leaf l).computing = true ∧
      (s.leaf l).ash.fillOver = false ∧
      96 ≤ tick.val ∧
      tick.val ≤ 3584) ∧
    (∃ (s : State) (l : LeafId) (thief : Fin 24) (v : Nat),
      (s.leaf l).computing = true ∧
      (s.leaf l).ash.fillOver = false ∧
      (s.leaf l).get (engState thief) = 0 ∧
      ((s.leaf l).eng thief).running = none ∧
      ((s.leaf l).eng thief).queue = [] ∧
      (s.leaf l).richest thief = some v ∧
      v < 24 ∧
      v ≠ thief) ∧
    (∃ (s : State) (l : LeafId) (e : Fin 24) (b : FillBlock),
      (s.leaf l).bondOf e = none ∧
      ((s.leaf l).eng e).running = some b ∧
      (s.leaf l).computing = true ∧
      (s.leaf l).ash.fillOver = false) :=
  ⟨⟨W .ready [fun L => { L with role := .lead }, fun L => { L with ash := { L.ash with keyedOver := false } }, fun L => L.put ASH_PAIR_VALID 1 0, fun L => L.put ASH_PAIR_BLOCK 0 0, fun L => L.put ASH_PAIR_ROLE 0 0] [], .leaf0, 0, 100, 0,
    by decide +kernel⟩,
  ⟨W .ready [fun L => { L with role := .lead }, fun L => { L with ash := { L.ash with fillOver := false } }, fun L => { L with role := .lead }, fun L => { L with ash := { L.ash with engines := alter L.ash.engines 0 fun x => { x with running := some ⟨7, .metering, 100, 1, 1, 0⟩ } } }] [], .leaf0, 0, 100, ⟨7, .metering, 100, 1, 1, 0⟩,
    by decide +kernel⟩,
  ⟨W .ready [fun L => { L with role := .lead }, fun L => { L with ash := { L.ash with fillOver := false } }, fun L => L.put (engState (0 : Fin 24)) 0, fun L => { L with role := .lead }, fun L => L.put (engState 0) 0, fun L => L.put (engState 1) 0, fun L => { L with ash := { L.ash with engines := (alter L.ash.engines 1 fun x => { x with queue := [⟨7, .metering, 100, 1, 1, 0⟩] }) } }] [], .leaf0, 0, 1,
    by decide +kernel⟩,
  ⟨W .ready [fun L => { L with role := .lead }, fun L => { L with ash := { L.ash with fillOver := false } }, fun L => { L with role := .lead }, fun L => { L with ash := { L.ash with engines := alter L.ash.engines 20 fun x => { x with running := some ⟨7, .metering, 100, 1, 1, 0⟩ } } }] [], .leaf0, 20, ⟨7, .metering, 100, 1, 1, 0⟩,
    by decide +kernel⟩⟩

theorem witness_mismatches_and_memory_errors :
    (∃ (s : State) (l : LeafId) (p : Fin 8),
      (s.leaf l).computing = true ∧
      (s.leaf l).on ASH_PAIR_VALID p = true ∧
      (s.leaf l).get ASH_PAIR_ROLE p ≠ 1 ∧
      ((s.leaf l).pairx p).split = none ∧
      ((s.leaf l).pairx p).agreed = false ∧
      ((s.leaf l).pairx p).stopped = false ∧
      ((s.leaf l).pairx p).rerun = false ∧
      (s.leaf l).ash.keyedOver = false) ∧
    (∃ (s : State) (l : LeafId) (p : Fin 8),
      (s.leaf l).computing = true ∧
      (s.leaf l).on ASH_PAIR_VALID p = true ∧
      ((s.leaf l).pairx p).rerun = true) ∧
    (∃ (s : State) (l : LeafId) (p : Fin 8),
      (s.leaf l).computing = true ∧
      (s.leaf l).on ASH_PAIR_VALID p = true ∧
      ((s.leaf l).pairx p).rerun = true) ∧
    (∃ (s : State) (l : LeafId),
      (s.leaf l).computing = true) ∧
    (∃ (s : State) (l : LeafId) (e : Fin 24),
      (s.leaf l).bondOf e = none) :=
  ⟨⟨W .ready [fun L => { L with role := .lead }, fun L => L.put ASH_PAIR_VALID 1 (0 : Fin 8), fun L => { L with ash := { L.ash with keyedOver := false } }] [], .leaf0, 0,
    by decide +kernel⟩,
  ⟨W .ready [fun L => { L with role := .lead }, fun L => L.put ASH_PAIR_VALID 1 (0 : Fin 8), fun L => L.put ASH_PAIR_VALID 1 0, fun L => { L with ash := { L.ash with pairs := alter L.ash.pairs 0 fun x => { x with rerun := true } } }] [], .leaf0, 0,
    by decide +kernel⟩,
  ⟨W .ready [fun L => { L with role := .lead }, fun L => L.put ASH_PAIR_VALID 1 (0 : Fin 8), fun L => L.put ASH_PAIR_VALID 1 0, fun L => { L with ash := { L.ash with pairs := alter L.ash.pairs 0 fun x => { x with rerun := true } } }] [], .leaf0, 0,
    by decide +kernel⟩,
  ⟨W .ready [fun L => { L with role := .lead }] [], .leaf0,
    by decide +kernel⟩,
  ⟨W .ready [] [], .leaf0, 20,
    by decide +kernel⟩⟩

theorem witness_handover :
    (∃ (s : State) (l : LeafId) (trig : Trigger) (rest : List Trigger) (a : Nat) (b : Nat) (new : Nat) (old : Nat),
      (s.leaf l).computing = true ∧
      (s.leaf l).ash.waiting = trig :: rest ∧
      (s.leaf l).ash.hand = none ∧
      1 ≤ since (s.leaf l).count trig.decided ∧
      trig.order ≠ 5 ∧
      trig.block < 5 ∧
      (s.leaf l).freshest (((s.leaf l).enginesIn 0).filter fun e => !((s.leaf l).eng e).due) = some a ∧
      (s.leaf l).freshest ((((s.leaf l).enginesIn 0).filter fun e => !((s.leaf l).eng e).due).filter fun e => e != a) = some b ∧
      ((List.range 8).find? fun p => !(s.leaf l).on ASH_PAIR_VALID p) = some new ∧
      (s.leaf l).posOf trig.block = some old) ∧
    (∃ (s : State) (l : LeafId) (h : Handover),
      (s.leaf l).computing = true ∧
      (s.leaf l).ash.hand = some h ∧
      reached ((s.leaf l).count + 2) h.effect = true ∧
      h.verified = false) ∧
    (∃ (s : State) (l : LeafId) (h : Handover),
      (s.leaf l).computing = true ∧
      (s.leaf l).ash.hand = some h ∧
      reached ((s.leaf l).count + 2) h.effect = true ∧
      h.verified = false) ∧
    (∃ (s : State) (l : LeafId) (h : Handover),
      (s.leaf l).computing = true ∧
      (s.leaf l).ash.hand = some h ∧
      reached ((s.leaf l).count + 1) h.effect = true ∧
      3584 ≤ (s.leaf l).tick ∧
      h.verified = true ∧
      h.copied = false) ∧
    (∃ (s : State) (l : LeafId) (h : Handover),
      (s.leaf l).computing = true ∧
      (s.leaf l).ash.hand = some h ∧
      reached (s.leaf l).count h.effect = true ∧
      h.copied = true ∧
      h.oldPos < 8 ∧
      h.newPos < 8 ∧
      h.oldPos ≠ h.newPos) :=
  ⟨⟨W .ready [fun L => { L with role := .lead }, fun L => { L with ash := { L.ash with waiting := (⟨1, 0, 0⟩ : Trigger) :: ([] : List Trigger) } }, fun L => { L with ash := { L.ash with hand := none } }, fun L => { L with role := .lead }, fun L => L.put ASH_PAIR_VALID 1 0, fun L => L.put ASH_PAIR_BLOCK 0 0, fun L => L.put ASH_PAIR_ENG_A 10 0, fun L => L.put ASH_PAIR_ENG_B 11 0, fun L => L.put (engState 2) 0, fun L => L.put (engState 3) 0, fun L => { L with ash := { L.ash with waiting := [⟨1, 0, 0⟩] } }, fun L => L.put (engState 0) 5, fun L => L.put (engState 1) 5, fun L => L.put (engState 4) 5, fun L => L.put (engState 5) 5, fun L => L.put (engState 6) 5, fun L => L.put (engState 7) 5, fun L => L.put (engState 8) 5, fun L => L.put (engState 9) 5, fun L => L.put (engState 10) 5, fun L => L.put (engState 11) 5, fun L => L.put (engState 12) 5, fun L => L.put (engState 13) 5, fun L => L.put (engState 14) 5, fun L => L.put (engState 15) 5, fun L => L.put (engState 16) 5, fun L => L.put (engState 17) 5, fun L => L.put (engState 18) 5, fun L => L.put (engState 19) 5, fun L => L.put (engState 20) 5, fun L => L.put (engState 21) 5, fun L => L.put (engState 22) 5, fun L => L.put (engState 23) 5] [], .leaf0, ⟨1, 0, 0⟩, [], 2, 3, 1, 0,
    by decide +kernel⟩,
  ⟨W .ready [fun L => { L with role := .lead }, fun L => { L with ash := { L.ash with hand := some (⟨big + 2, 0, 1, 0, 1, false, false⟩ : Handover) } }] [], .leaf0, ⟨big + 2, 0, 1, 0, 1, false, false⟩,
    by decide +kernel⟩,
  ⟨W .ready [fun L => { L with role := .lead }, fun L => { L with ash := { L.ash with hand := some (⟨big + 2, 0, 1, 0, 1, false, false⟩ : Handover) } }] [], .leaf0, ⟨big + 2, 0, 1, 0, 1, false, false⟩,
    by decide +kernel⟩,
  ⟨W .ready [fun L => { L with role := .lead }, fun L => { L with ash := { L.ash with hand := some (⟨big + 1, 0, 1, 0, 1, true, false⟩ : Handover) } }, fun L => { L with tick := 3600 }] [], .leaf0, ⟨big + 1, 0, 1, 0, 1, true, false⟩,
    by decide +kernel⟩,
  ⟨W .ready [fun L => { L with role := .lead }, fun L => { L with ash := { L.ash with hand := some (⟨big, 0, 1, 0, 1, true, true⟩ : Handover) } }] [], .leaf0, ⟨big, 0, 1, 0, 1, true, true⟩,
    by decide +kernel⟩⟩

theorem witness_engine_tests_and_splits :
    (∃ (s : State) (l : LeafId) (e : Nat),
      (s.leaf l).computing = true ∧
      (s.leaf l).ash.testing = none ∧
      ((s.leaf l).enginesIn 2).head? = some e) ∧
    (∃ (s : State) (l : LeafId) (e : Fin 24) (c : Course),
      (s.leaf l).computing = true ∧
      (s.leaf l).ash.testing = some (e.val, c) ∧
      144 ≤ since (s.leaf l).count c) ∧
    (∃ (s : State) (l : LeafId) (w : Word) (x : Word) (e : Fin 24) (c : Course),
      (s.leaf l).computing = true ∧
      (s.leaf l).ash.testing = some (e.val, c) ∧
      144 ≤ since (s.leaf l).count c ∧
      w ≠ x ∧
      ((s.leaf l).eng e).repeating = false) ∧
    (∃ (s : State) (l : LeafId) (p : Fin 8),
      s.mayDebug = true ∧
      (s.leaf l).on ASH_PAIR_VALID p = true) ∧
    (∃ (s : State) (l : LeafId) (p : Fin 8),
      s.mayDebug = true ∧
      ((s.leaf l).pairx p).split ≠ none ∧
      (s.leaf l).ash.waiting = [] ∧
      (s.leaf l).ash.hand = none) :=
  ⟨⟨W .ready [fun L => { L with role := .lead }, fun L => { L with ash := { L.ash with testing := none } }, fun L => L.put (engState 0) 2] [], .leaf0, 0,
    by decide +kernel⟩,
  ⟨W .ready [fun L => { L with role := .lead }, fun L => { L with ash := { L.ash with testing := some ((0 : Fin 24).val, (0 : Course)) } }] [], .leaf0, 0, 0,
    by decide +kernel⟩,
  ⟨W .ready [fun L => { L with role := .lead }, fun L => { L with ash := { L.ash with testing := some ((0 : Fin 24).val, (0 : Course)) } }] [], .leaf0, 0, 1, 0, 0,
    by decide +kernel⟩,
  ⟨W .ready [fun L => L.put ASH_PAIR_VALID 1 (0 : Fin 8)] [fun s => { s with sec := { s.sec with who := 5, rights := 2 } }], .leaf0, 0,
    by decide +kernel⟩,
  ⟨W .ready [fun L => { L with ash := { L.ash with waiting := [] } }, fun L => { L with ash := { L.ash with hand := none } }, fun L => { L with ash := { L.ash with pairs := alter L.ash.pairs 0 fun x => { x with split := some true } } }] [fun s => { s with sec := { s.sec with who := 5, rights := 2 } }], .leaf0, 0,
    by decide +kernel⟩⟩

theorem witness_changes_decided_at_receipt :
    (∃ (c : Instr) (s : State) (s1 : State) (l : LeafId) (d : Desc) (ring : Nat) (op : Nat) (L : Leaf) (h : Hdr) (w : ChangeWhat) (k : Int),
      changeDesc c = some (l, d, ring, op) ∧
      Reads (s.leaf l) ring op d L h ∧
      L.role = .lead ∧
      s1 = ((s.setLeaf l L).both fun L => L.decided h) ∧
      readChange d.bytes = .ok w ∧
      s1.refuseChange l w false = none ∧
      changeCourse d.bytes ≠ 0 ∧
      distance L.count.toNat (BitVec.ofNat 48 (changeCourse d.bytes)).toNat 48 = some k ∧
      (L.get CRS_CTRL_COMMIT_LEAD : Int) ≤ k ∧
      k ≤ 2 ^ 24) ∧
    (∃ (c : Instr) (s : State) (s1 : State) (l : LeafId) (d : Desc) (ring : Nat) (op : Nat) (L : Leaf) (h : Hdr) (w : ChangeWhat) (k : Int),
      changeDesc c = some (l, d, ring, op) ∧
      Reads (s.leaf l) ring op d L h ∧
      L.role = .lead ∧
      h.ring ≠ directRing ∧
      s1 = ((s.setLeaf l L).both fun L => L.decided h) ∧
      readChange d.bytes = .ok w ∧
      s1.refuseChange l w false = none ∧
      changeCourse d.bytes ≠ 0 ∧
      distance L.count.toNat (BitVec.ofNat 48 (changeCourse d.bytes)).toNat 48 = some k ∧
      (k < (L.get CRS_CTRL_COMMIT_LEAD : Int) ∨ 2 ^ 24 < k)) ∧
    (∃ (c : Instr) (s : State) (l : LeafId) (d : Desc) (ring : Nat) (op : Nat) (L : Leaf) (h : Hdr),
      changeDesc c = some (l, d, ring, op) ∧
      Reads (s.leaf l) ring op d L h ∧
      L.role = .follow ∧
      L.crs.changes = [] ∧
      (s.leaf l.other).role ≠ .lead) :=
  ⟨⟨.tableSwitch .leaf0 (desc 1 9 [(8, 1152000000 + 500)]), W .ready [fun L => { L with role := .lead }, reader 1] [], (((W .ready [fun L => { L with role := .lead }, reader 1] [])).setLeaf .leaf0 (seen (((W .ready [fun L => { L with role := .lead }, reader 1] [])).leaf .leaf0) 1 (desc 1 9 [(8, 1152000000 + 500)]))).both fun L => L.decided (hdrOf (slotOf 1 9 [(8, 1152000000 + 500)])), .leaf0, desc 1 9 [(8, 1152000000 + 500)], 1, 9, seen (((W .ready [fun L => { L with role := .lead }, reader 1] [])).leaf .leaf0) 1 (desc 1 9 [(8, 1152000000 + 500)]), hdrOf (slotOf 1 9 [(8, 1152000000 + 500)]), .table 0 0 0, 500,
    ⟨by decide +kernel, reads_of (by decide +kernel) (by decide +kernel) (by decide +kernel) (by decide +kernel), by decide +kernel, by decide +kernel, by rfl, by decide +kernel⟩⟩,
  ⟨.tableSwitch .leaf0 (desc 1 9 [(8, 1152000000 + 2)]), W .ready [fun L => { L with role := .lead }, reader 1] [], (((W .ready [fun L => { L with role := .lead }, reader 1] [])).setLeaf .leaf0 (seen (((W .ready [fun L => { L with role := .lead }, reader 1] [])).leaf .leaf0) 1 (desc 1 9 [(8, 1152000000 + 2)]))).both fun L => L.decided (hdrOf (slotOf 1 9 [(8, 1152000000 + 2)])), .leaf0, desc 1 9 [(8, 1152000000 + 2)], 1, 9, seen (((W .ready [fun L => { L with role := .lead }, reader 1] [])).leaf .leaf0) 1 (desc 1 9 [(8, 1152000000 + 2)]), hdrOf (slotOf 1 9 [(8, 1152000000 + 2)]), .table 0 0 0, 2,
    ⟨by decide +kernel, reads_of (by decide +kernel) (by decide +kernel) (by decide +kernel) (by decide +kernel), by decide +kernel, by decide +kernel, by decide +kernel, by rfl, by decide +kernel⟩⟩,
  ⟨.testStop .leaf0 (desc 3 17 [(8, 1152000000 + 2)]), W .ready [fun L => { L with role := .follow }, fun L => { L with crs := { L.crs with changes := [] } }, reader 3, fun L => { L with role := .follow }] [], .leaf0, desc 3 17 [(8, 1152000000 + 2)], 3, 17, seen (((W .ready [fun L => { L with role := .follow }, fun L => { L with crs := { L.crs with changes := [] } }, reader 3, fun L => { L with role := .follow }] [])).leaf .leaf0) 3 (desc 3 17 [(8, 1152000000 + 2)]), hdrOf (slotOf 3 17 [(8, 1152000000 + 2)]),
    ⟨by decide +kernel, reads_of (by decide +kernel) (by decide +kernel) (by decide +kernel) (by decide +kernel), by decide +kernel⟩⟩⟩

/-- A change due, and a leaf that has it in force at its next seal. -/
def dueChange (w : ChangeWhat) : Change := ⟨big, w, true, ⟨1, false, 0, 0, 5, 0⟩⟩
def dueLeaf (w : ChangeWhat) : Leaf := { Leaf.reset .leaf0 with count := big, crs := { due := [dueChange w] } }

theorem witness_changes_mirrored_and_committed :
    (∃ (s : State) (l : LeafId) (rx : Rx) (c : ChangeRx) (L : Leaf) (w : ChangeWhat),
      (s.leaf l).takeUnit rx = some L ∧
      L.role = .follow ∧
      readChange c.bytes = .ok w ∧
      L.crs.undecided = []) ∧
    (∃ (s : State) (l : LeafId) (f : LeafId) (q : BitVec 32) (c : Change),
      s.leadId = some l ∧
      s.followId = some f ∧
      ((s.leaf l).crs.changes.find? fun c => c.hdr.dseq == q && !c.acked) = some c ∧
      3584 ≤ (s.leaf l).tick ∧
      isAfter ((s.leaf l).count + 2).toNat c.effect.toNat 48 = false) ∧
    (∃ (s : State) (l : LeafId) (c : Change),
      s.leadId = some l ∧
      (s.leaf l).crs.changes = [c] ∧
      c.effect = (s.leaf l).count + 1 ∧
      c.acked = true ∧
      confirmAgainstRevert [c] c = false ∧
      (s.both fun L => L.onChanges fun cs => cs.filter fun x => !sameDesc x.hdr c.hdr).refuseChange l c.what true = none) ∧
    (∃ (s : State) (l : LeafId),
      s.leadId = some l ∧
      (∀ c ∈ (s.leaf l).crs.changes, c.effect ≠ (s.leaf l).count + 1)) ∧
    (∃ (L : Leaf) (c : Change) (w : RegW) (r : Reg) (i : Nat), L.crs.due = [c] ∧ c.what = .writes [w] ∧
      findReg w.off = some (r, i) ∧ plainSetting r = true ∧ routed r = false) ∧
    (∃ (L : Leaf) (c : Change) (w : RegW) (r : Reg) (i : Nat), L.crs.due = [c] ∧ c.what = .writes [w] ∧
      findReg w.off = some (r, i) ∧ routed r = true ∧ (r = GCH_CMD → (w.value &&& w.mask).getLsbD 62 = false)) ∧
    (∃ (L : Leaf) (c : Change) (w : RegW) (r : Reg) (i : Nat), L.crs.due = [c] ∧ c.what = .writes [w] ∧
      findReg w.off = some (r, i) ∧ r = GCH_CMD ∧ (w.value &&& w.mask).getLsbD 62 = true) ∧
    (∃ (L : Leaf) (c : Change) (b i k : Nat) (t : CoefTable), L.crs.due = [c] ∧ c.what = .table b i k ∧
      pick (L.inst b i).bank k = some t) ∧
    (∃ (L : Leaf) (c : Change) (d : Slot), L.crs.due = [c] ∧ c.what = .testStart d ∧ sl d 17 1 < 4) ∧
    (∃ (L : Leaf) (c : Change) (k : Fin 4), L.crs.due = [c] ∧ c.what = .testStop k ∧ 2 ≤ L.get (tsState k) ∧
      L.get (tsState k) ≤ 4) ∧
    (∃ (L : Leaf) (c : Change) (k : Fin 4), L.crs.due = [c] ∧ c.what = .testStop k ∧ L.get (tsState k) = 1) ∧
    (∃ (L : Leaf) (c : Change) (d : Slot), L.crs.due = [c] ∧ c.what = .captureStart d ∧ sl d 17 1 < 4 ∧ cdTrig d = 0) :=
  ⟨⟨W .ready [fun L => { L with role := .follow }, fun L => { L with crs := { L.crs with undecided := [] } }, fun L => { L with role := .follow }] [], .leaf0, ⟨0, true, 1, 0⟩, ⟨0, 0, false, 0, slotOf 3 17 []⟩, { (((W .ready [fun L => { L with role := .follow }, fun L => { L with crs := { L.crs with undecided := [] } }, fun L => { L with role := .follow }] [])).leaf .leaf0) with tie := { (((W .ready [fun L => { L with role := .follow }, fun L => { L with crs := { L.crs with undecided := [] } }, fun L => { L with role := .follow }] [])).leaf .leaf0).tie with rxSeq := some 1 } }, .testStop 0,
    ⟨by decide +kernel, by decide +kernel, by rfl, by decide +kernel⟩⟩,
  ⟨W .ready [fun L => { L with role := .lead }, fun L => { L with tick := 3600 }, fun L => { L with crs := { L.crs with changes := [⟨big + 1, .testStop 0, false, ⟨3, false, 0, 0, 5, 0⟩⟩] } }] [fun s => s.setLeaf .leaf1 (List.foldl (fun L f => f L) s.leaf1 [fun L => { L with role := .follow }])], .leaf0, .leaf1, 5, ⟨big + 1, .testStop 0, false, ⟨3, false, 0, 0, 5, 0⟩⟩,
    by decide +kernel⟩,
  ⟨W .ready [fun L => { L with crs := { L.crs with changes := [(⟨big + 1, .testStop 0, true, ⟨3, false, 0, 0, 5, 0⟩⟩ : Change)] } }, fun L => { L with role := .lead }, fun L => { L with crs := { L.crs with changes := [⟨big + 1, .testStop 0, true, ⟨3, false, 0, 0, 5, 0⟩⟩] } }] [], .leaf0, ⟨big + 1, .testStop 0, true, ⟨3, false, 0, 0, 5, 0⟩⟩,
    by decide +kernel⟩,
  ⟨W .ready [fun L => { L with role := .lead }] [], .leaf0,
    by decide +kernel⟩,
  ⟨dueLeaf (.writes [⟨0x4020, 0x7FF, 0x200⟩]), dueChange (.writes [⟨0x4020, 0x7FF, 0x200⟩]), ⟨0x4020, 0x7FF, 0x200⟩, CRS_CTRL, 0,
    by decide +kernel⟩,
  ⟨dueLeaf (.writes [⟨8, 1, 1⟩]), dueChange (.writes [⟨8, 1, 1⟩]), ⟨8, 1, 1⟩, GLB_CMD, 0, by decide +kernel⟩,
  ⟨dueLeaf (.writes [⟨0x18008, 2 ^ 62, 2 ^ 62⟩]), dueChange (.writes [⟨0x18008, 2 ^ 62, 2 ^ 62⟩]), ⟨0x18008, 2 ^ 62, 2 ^ 62⟩, GCH_CMD, 0,
    by decide +kernel⟩,
  ⟨(dueLeaf (.table 1 2 3)).setInst 1 2 { bank := #v[none, none, none, some 0] }, dueChange (.table 1 2 3), 1, 2, 3, 0,
    by decide +kernel⟩,
  ⟨dueLeaf (.testStart 0), dueChange (.testStart 0), 0, by decide +kernel⟩,
  ⟨(dueLeaf (.testStop 2)).put (tsState 2) 3, dueChange (.testStop 2), 2, by decide +kernel⟩,
  ⟨(dueLeaf (.testStop 2)).put (tsState 2) 1, dueChange (.testStop 2), 2, by decide +kernel⟩,
  ⟨dueLeaf (.captureStart 0), dueChange (.captureStart 0), 0, by decide +kernel⟩⟩

theorem witness_correlation_and_capture :
    (∃ (s : State) (l : LeafId) (k : Fin 4),
      (s.leaf l).get (tsState k) = 4 ∧
      (pick (s.leaf l).cmp.tests k).window ≤ since (s.leaf l).count (pick (s.leaf l).cmp.tests k).winFrom ∧
      tdSweep (pick (s.leaf l).cmp.tests k).desc = false ∧
      (s.leaf l).get (tsPoint k) = 0) ∧
    (∃ (s : State) (l : LeafId) (k : Fin 4),
      (s.leaf l).get (tsState k) = 4 ∧
      (pick (s.leaf l).cmp.tests k).window ≤ since (s.leaf l).count (pick (s.leaf l).cmp.tests k).winFrom ∧
      (pick (s.leaf l).cmp.tests k).repeated = true) ∧
    (∃ (s : State) (l : LeafId) (k : Fin 4) (v : Int) (th : Int),
      (s.leaf l).computing = true ∧
      (s.leaf l).get (capState k) = 1 ∧
      cdTrig (pick (s.leaf l).cmp.caps k).desc = 3 ∧
      th = signed 32 (sl (pick (s.leaf l).cmp.caps k).desc 24 4) ∧
      th ≤ v ∧
      (∃ p, (pick (s.leaf l).cmp.caps k).last = some p ∧ p < th)) ∧
    (∃ (s : State) (l : LeafId) (k : Fin 4),
      (s.leaf l).computing = true ∧
      (s.leaf l).get (capState k) = 3 ∧
      (s.leaf l).get ASH_STAT_SHED < 2 ∧
      since (s.leaf l).count (pick (s.leaf l).cmp.caps k).start % cdEvery (pick (s.leaf l).cmp.caps k).desc ≠ 0) ∧
    (∃ (s : State) (l : LeafId) (d : Desc) (L : Leaf) (h : Hdr),
      Reads (s.leaf l) 3 0x02 d L h ∧
      sl d.bytes 17 1 < 4 ∧
      L.get (capState (sl d.bytes 17 1)) = 3) ∧
    (∃ (s : State) (l : LeafId) (d : Desc) (L : Leaf) (h : Hdr),
      Reads (s.leaf l) 3 0x03 d L h ∧
      sl d.bytes 17 1 < 4 ∧
      L.get (capState (sl d.bytes 17 1)) = 5 ∧
      sl d.bytes 24 4 ≠ 0 ∧
      sl d.bytes 20 4 + sl d.bytes 24 4 ≤ (pick L.cmp.buffers (sl d.bytes 17 1)).length) :=
  ⟨⟨W .ready [fun L => L.put (tsState (0 : Fin 4)) 4, fun L => L.put (tsPoint (0 : Fin 4)) 0] [], .leaf0, 0,
    by decide +kernel⟩,
  ⟨W .ready [fun L => L.put (tsState (0 : Fin 4)) 4, fun L => { L with cmp := { L.cmp with tests := alter L.cmp.tests (0 : Fin 4) fun x => { x with repeated := true } } }] [], .leaf0, 0,
    by decide +kernel⟩,
  ⟨W .ready [fun L => { L with role := .lead }, fun L => L.put (capState (0 : Fin 4)) 1, fun L => { L with cmp := { L.cmp with caps := alter L.cmp.caps 0 fun x => { x with desc := slotOf 3 1 [(18, 0x30), (24, 5)], last := some 1 } } }] [], .leaf0, 0, 6, 5,
    ⟨by decide +kernel, by decide +kernel, by decide +kernel, by decide +kernel, by decide +kernel, ⟨1, by decide +kernel, by decide +kernel⟩⟩⟩,
  ⟨W .ready [fun L => { L with role := .lead }, fun L => L.put (capState (0 : Fin 4)) 3, fun L => { L with cmp := { L.cmp with caps := alter L.cmp.caps 0 fun x => { x with desc := slotOf 3 1 [(20, 1)], start := at_ 1601 } } }] [], .leaf0, 0,
    by decide +kernel⟩,
  ⟨W .ready [reader 3, fun L => L.put (capState 0) 3] [], .leaf0, desc 3 2 [], seen (((W .ready [reader 3, fun L => L.put (capState 0) 3] [])).leaf .leaf0) 3 (desc 3 2 []), hdrOf (slotOf 3 2 []),
    ⟨reads_of (by decide +kernel) (by decide +kernel) (by decide +kernel) (by decide +kernel), by decide +kernel⟩⟩,
  ⟨W .ready [reader 3, fun L => L.put (capState 0) 5, fun L => { L with cmp := { L.cmp with buffers := alter L.cmp.buffers 0 fun _ => [[1]] } }] [], .leaf0, desc 3 3 [(24, 1)], seen (((W .ready [reader 3, fun L => L.put (capState 0) 5, fun L => { L with cmp := { L.cmp with buffers := alter L.cmp.buffers 0 fun _ => [[1]] } }] [])).leaf .leaf0) 3 (desc 3 3 [(24, 1)]), hdrOf (slotOf 3 3 [(24, 1)]),
    ⟨reads_of (by decide +kernel) (by decide +kernel) (by decide +kernel) (by decide +kernel), by decide +kernel⟩⟩⟩

theorem witness_calibration :
    (∃ (s : State) (l : LeafId),
      s.setup = true ∧
      (s.leaf l).get SNS_STAT_CAL_BUSY = 0 ∧
      (s.leaf l).sns.step = none) ∧
    (∃ (s : State) (l : LeafId) (st : Recal),
      s.setup = true ∧
      (s.leaf l).get SNS_STAT_CAL_BUSY = 0 ∧
      (s.leaf l).sns.step = some st) ∧
    (∃ (s : State),
      s.mode = .carry) ∧
    (∃ (s : State) (l : LeafId),
      (s.leaf l).get SNS_STAT_CAL_BUSY ≠ 0) ∧
    (∃ (s : State) (l : LeafId) (r : CalRes),
      (s.leaf l).get SNS_STAT_CAL_BUSY ≠ 0 ∧
      (s.leaf l).get SNS_CONV_STATE r.conv ≠ 3 ∧
      calOk r.first = true) ∧
    (∃ (s : State) (l : LeafId) (n : Nat) (sp : Nat),
      (s.mode = .ready ∨ s.mode = .carry) ∧
      (s.leaf l).computing = true ∧
      (s.leaf l).get SNS_STAT_CAL_BUSY = 0 ∧
      (s.leaf l).sns.step = none ∧
      (s.leaf l).get SNS_CTRL_CAL_GAP ≤ since (s.leaf l).count (s.leaf l).sns.stepEnd ∧
      n < 40 ∧
      (s.leaf l).get SNS_CONV_STATE n = 0 ∧
      (s.leaf l).get SNS_CONV_PORT n < 36 ∧
      (pick (s.leaf l).sns.ports ((s.leaf l).get SNS_CONV_PORT n)).settle = 0 ∧
      (s.leaf l).refFault (pick (s.leaf l).sns.ports ((s.leaf l).get SNS_CONV_PORT n)).ref = false ∧
      (pick (s.leaf l).sns.ports ((s.leaf l).get SNS_CONV_PORT n)).ref = (s.leaf l).get SNS_PCFG_REF ((s.leaf l).get SNS_CONV_PORT n) ∧
      sp ∈ (s.leaf l).freeSpares) ∧
    (∃ (s : State) (l : LeafId) (cal : CalRes) (st : Recal),
      (s.leaf l).sns.step = some st ∧
      (s.leaf l).overlapDue st 96 = true ∧
      cal.conv.val = st.spare ∧
      st.spare ≠ st.conv ∧
      st.conv < 40 ∧
      st.port < 36 ∧
      (s.leaf l).get SNS_STAT_ROT_PHASE = 1 ∧
      (s.leaf l).get SNS_CONV_STATE cal.conv ≠ 3 ∧
      calOk cal.first = true) ∧
    (∃ (s : State) (l : LeafId) (cal : CalRes) (a : Int) (b : Int) (st : Recal),
      (s.leaf l).sns.step = some st ∧
      (s.leaf l).overlapDue st (if st.again then 290 else 193) = true ∧
      cal.conv.val = st.conv ∧
      st.passed = false ∧
      (s.leaf l).get SNS_STAT_ROT_PHASE = 2 ∧
      (s.leaf l).get SNS_CONV_STATE cal.conv ≠ 3 ∧
      calOk cal.first = true ∧
      ((a - b).natAbs : Int) ≤ (s.leaf l).get SNS_CTRL_CAL_TOL) ∧
    (∃ (s : State) (l : LeafId) (st : Recal),
      (s.leaf l).sns.step = some st ∧
      st.passed = true ∧
      st.port < 36 ∧
      st.conv < 40 ∧
      st.spare < 40 ∧
      st.spare ≠ st.conv ∧
      (if st.again then 291 else 194) ≤ since (s.leaf l).count st.start) :=
  ⟨⟨W .ready [fun L => L.put SNS_STAT_CAL_BUSY 0, fun L => { L with sns := { L.sns with step := none } }] [], .leaf0,
    by decide +kernel⟩,
  ⟨W .ready [fun L => L.put SNS_STAT_CAL_BUSY 0, fun L => { L with sns := { L.sns with step := some (({ start := at_ 300, conv := 3, spare := 36, port := 3 } : Recal) : Recal) } }, fun L => { L with sns := { L.sns with step := some ({ start := at_ 300, conv := 3, spare := 36, port := 3 } : Recal) } }] [], .leaf0, ({ start := at_ 300, conv := 3, spare := 36, port := 3 } : Recal),
    by decide +kernel⟩,
  ⟨W .carry [] [],
    by decide +kernel⟩,
  ⟨W .ready [fun L => L.put SNS_STAT_CAL_BUSY 1] [], .leaf0,
    by decide +kernel⟩,
  ⟨W .ready [fun L => L.put SNS_STAT_CAL_BUSY 1] [], .leaf0, ⟨0, ⟨0, 32768, 0, 0⟩, ⟨0, 32768, 0, 0⟩⟩,
    by decide +kernel⟩,
  ⟨W .ready [fun L => { L with role := .lead }, fun L => L.put SNS_STAT_CAL_BUSY 0, fun L => { L with sns := { L.sns with step := none } }, fun L => L.put SNS_CONV_STATE 0 3, fun L => { L with role := .lead }, fun L => L.put SNS_CONV_STATE 0 3, fun L => L.put SNS_CONV_PORT 3 3, fun L => L.put SNS_CONV_STATE 1 36, fun L => L.put SNS_CONV_PORT 63 36, fun L => L.put SNS_PCFG_REF 0 3] [], .leaf0, 3, 36,
    by decide +kernel⟩,
  ⟨W .ready [fun L => { L with sns := { L.sns with step := some (({ start := at_ 300, conv := 3, spare := 36, port := 3 } : Recal) : Recal) } }, fun L => L.put SNS_STAT_ROT_PHASE 1, fun L => { L with sns := { L.sns with step := some ({ start := at_ 300, conv := 3, spare := 36, port := 3 } : Recal) } }, fun L => L.put SNS_STAT_ROT_PHASE 1] [], .leaf0, ⟨36, ⟨0, 32768, 0, 0⟩, ⟨0, 32768, 0, 0⟩⟩, ({ start := at_ 300, conv := 3, spare := 36, port := 3 } : Recal),
    by decide +kernel⟩,
  ⟨W .ready [fun L => { L with sns := { L.sns with step := some (({ start := at_ 300, conv := 3, spare := 36, port := 3 } : Recal) : Recal) } }, fun L => L.put SNS_STAT_ROT_PHASE 2, fun L => { L with sns := { L.sns with step := some ({ start := at_ 300, conv := 3, spare := 36, port := 3 } : Recal) } }, fun L => L.put SNS_STAT_ROT_PHASE 2] [], .leaf0, ⟨3, ⟨0, 32768, 0, 0⟩, ⟨0, 32768, 0, 0⟩⟩, 0, 0, ({ start := at_ 300, conv := 3, spare := 36, port := 3 } : Recal),
    by decide +kernel⟩,
  ⟨W .ready [fun L => { L with sns := { L.sns with step := some (({ start := at_ 300, conv := 3, spare := 36, port := 3, passed := true } : Recal) : Recal) } }, fun L => { L with sns := { L.sns with step := some ({ start := at_ 300, conv := 3, spare := 36, port := 3, passed := true } : Recal) } }] [], .leaf0, ({ start := at_ 300, conv := 3, spare := 36, port := 3, passed := true } : Recal),
    by decide +kernel⟩⟩

theorem witness_fast_trips :
    (∃ (s : State) (l : LeafId) (port : Fin 36) (mv : Int),
      (s.leaf l).tripped port mv = false) ∧
    (∃ (s : State) (l : LeafId) (port : Fin 36) (mv : Int) (e : Nat),
      (s.leaf l).tripped port mv = true ∧
      port.val < 12 ∧
      e = 6 * (port.val / 3) + 2 * (port.val % 3) ∧
      s.pairHeeds e l = true ∧
      (s.chan e).gate = true ∧
      (s.chan (e + 1)).gate = false ∧
      (s.chan e).st ≠ .noBias ∧
      (s.chan e).st ≠ .unused) ∧
    (∃ (s : State) (l : LeafId) (port : Fin 36) (mv : Int),
      (s.leaf l).tripped port mv = true ∧
      port.val = 12) ∧
    (∃ (s : State) (l : LeafId) (port : Fin 36),
      (port.val ≤ 18 ∨ port.val = 30) ∧
      (s.leaf l).sending = false ∧
      (pick (s.leaf l).sns.comps port).masked = false ∧
      (pick (s.leaf l).sns.comps port).failedOnce = false) ∧
    (∃ (s : State) (l : LeafId) (port : Fin 36),
      (port.val ≤ 18 ∨ port.val = 30) ∧
      (s.leaf l).sending = false ∧
      (pick (s.leaf l).sns.comps port).masked = false ∧
      (pick (s.leaf l).sns.comps port).failedOnce = true) :=
  ⟨⟨W .ready [] [], .leaf0, 0, 0,
    by decide +kernel⟩,
  ⟨W .ready [fun L => L.put SNS_PCFG_FT_EN 1 0] [fun s => s.onChan 0 fun C => { C with gate := true }, fun s => s.onChan (0 + 1) fun C => { C with gate := false }, fun s => s.onChan 0 fun C => { C with st := .run, tb := #v[{ lastFrame := some 0 }, { lastFrame := some 0 }] }], .leaf0, 0, 100000, 0,
    by decide +kernel⟩,
  ⟨W .ready [] [], .leaf0, 12, 100000,
    by decide +kernel⟩,
  ⟨W .ready [fun L => { L with sns := { L.sns with comps := alter L.sns.comps (0 : Fin 36) fun x => { x with masked := false } } }, fun L => { L with sns := { L.sns with comps := alter L.sns.comps (0 : Fin 36) fun x => { x with failedOnce := false } } }] [], .leaf0, 0,
    by decide +kernel⟩,
  ⟨W .ready [fun L => { L with sns := { L.sns with comps := alter L.sns.comps (0 : Fin 36) fun x => { x with masked := false } } }, fun L => { L with sns := { L.sns with comps := alter L.sns.comps (0 : Fin 36) fun x => { x with failedOnce := true } } }] [], .leaf0, 0,
    by decide +kernel⟩⟩

theorem witness_position_units :
    (∃ (s : State) (l : LeafId) (port : Fin 2) (held : Nat),
      (s.leaf l).get POS_CFG_FILT port ≤ held) ∧
    (∃ (s : State) (l : LeafId) (port : Fin 2) (held : Nat),
      held < (s.leaf l).get POS_CFG_FILT port) ∧
    (∃ (s : State) (l : LeafId) (port : Fin 2) (uvw : BitVec 3) (held : Nat),
      (s.leaf l).get POS_CFG_UVW_FILT port * 16 ≤ held ∧
      (s.leaf l).get POS_STAT_UVW port ≠ uvw.toNat ∧
      (s.leaf l).get POS_CFG_UVW_EN port = 0) ∧
    (∃ (s : State) (l : LeafId) (port : Fin 2) (uvw : BitVec 3) (held : Nat),
      (s.leaf l).get POS_CFG_UVW_FILT port * 16 ≤ held ∧
      (s.leaf l).get POS_STAT_UVW port ≠ uvw.toNat ∧
      (s.leaf l).get POS_CFG_UVW_EN port ≠ 0 ∧
      (s.leaf l).get POS_FLT_UVW_FAULT port = 0 ∧
      sectorOf uvw.toNat = none) ∧
    (∃ (s : State),
      s.setup = true) ∧
    (∃ (s : State),
      s.mode = .carry) ∧
    (∃ (s : State) (l : LeafId) (port : Fin 2) (ratio : Nat) (pol : Nat) (c : Course),
      (pick (s.leaf l).pos port).probe = some c ∧
      24 ≤ since (s.leaf l).count c ∧
      ((ratio < 100 + (s.leaf l).get POS_OBS_PROBE_RATIO port ∨ pol < 3)) ∧
      (pick (s.leaf l).pos port).probeTries = 0) ∧
    (∃ (s : State) (l : LeafId) (port : Fin 2) (ratio : Nat) (pol : Nat) (c : Course),
      (pick (s.leaf l).pos port).probe = some c ∧
      24 ≤ since (s.leaf l).count c ∧
      ((ratio < 100 + (s.leaf l).get POS_OBS_PROBE_RATIO port ∨ pol < 3)) ∧
      (pick (s.leaf l).pos port).probeTries ≠ 0) ∧
    (∃ (s : State) (l : LeafId) (port : Fin 2) (a : Bool) (b : Bool) (held : Nat),
      (s.leaf l).get POS_CFG_FILT port ≤ held ∧
      zQualified ((s.leaf l).get POS_CFG_Z_QUAL port) a b = true ∧
      (s.leaf l).get POS_CFG_INDEX_MODE port = 0 ∧
      (pick (s.leaf l).pos port).seen = false ∧
      (s.leaf l).get POS_STAT_INDEX_PENDING port = 0 ∧
      (s.leaf l).get POS_CFG_UVW_EN port = 0 ∧
      (s.leaf l).get POS_FLT_ENC_FAULT port = 0) ∧
    (∃ (s : State) (l : LeafId) (port : Fin 2) (a : Bool) (b : Bool) (held : Nat),
      (s.leaf l).get POS_CFG_FILT port ≤ held ∧
      zQualified ((s.leaf l).get POS_CFG_Z_QUAL port) a b = true ∧
      (s.leaf l).get POS_CFG_INDEX_MODE port = 0 ∧
      (pick (s.leaf l).pos port).seen = true ∧
      (s.leaf l).get POS_STAT_INDEX_PENDING port = 0 ∧
      ((s.leaf l).indexError port (pick (s.leaf l).pos port).pos.toInt).natAbs ≤ (s.leaf l).get POS_CFG_INDEX_TOL port) ∧
    (∃ (s : State) (l : LeafId) (port : Fin 2) (a : Bool) (b : Bool) (held : Nat),
      (s.leaf l).get POS_CFG_FILT port ≤ held ∧
      zQualified ((s.leaf l).get POS_CFG_Z_QUAL port) a b = true ∧
      (s.leaf l).get POS_CFG_INDEX_MODE port = 0 ∧
      (pick (s.leaf l).pos port).seen = true ∧
      (s.leaf l).get POS_STAT_INDEX_PENDING port = 0 ∧
      (s.leaf l).get POS_CFG_INDEX_TOL port < ((s.leaf l).indexError port (pick (s.leaf l).pos port).pos.toInt).natAbs) ∧
    (∃ (s : State) (l : LeafId) (port : Fin 2),
      (s.leaf l).cpr port + (s.leaf l).get POS_CFG_INDEX_TOL port + 8 < ((pick (s.leaf l).pos port).pos.toInt - (pick (s.leaf l).pos port).ref.toInt).natAbs ∧
      (s.leaf l).get POS_CFG_INDEX_MODE port = 0 ∧
      (pick (s.leaf l).pos port).misses = 0) ∧
    (∃ (s : State) (l : LeafId) (port : Fin 2),
      (s.leaf l).cpr port + (s.leaf l).get POS_CFG_INDEX_TOL port + 8 < ((pick (s.leaf l).pos port).pos.toInt - (pick (s.leaf l).pos port).ref.toInt).natAbs ∧
      (s.leaf l).get POS_CFG_INDEX_MODE port = 0 ∧
      1 ≤ (pick (s.leaf l).pos port).misses) ∧
    (∃ (s : State) (l : LeafId) (port : Fin 2) (n : Nat),
      160 ≤ n ∧
      (s.leaf l).get POS_FLT_SUPPLY_HALF port = 0) ∧
    (∃ (n : Nat),
      n < 160) ∧
    (∃ (s : State) (l : LeafId) (port : Fin 2),
      (s.leaf l).machineIdle port = true) :=
  ⟨⟨W .ready [] [], .leaf0, 0, 100,
    by decide +kernel⟩,
  ⟨W .ready [] [], .leaf0, 0, 0,
    by decide +kernel⟩,
  ⟨W .ready [fun L => L.put POS_CFG_UVW_EN 0 (0 : Fin 2)] [], .leaf0, 0, 7, 10000,
    by decide +kernel⟩,
  ⟨W .ready [fun L => L.put POS_CFG_UVW_EN 1 (0 : Fin 2), fun L => L.put POS_FLT_UVW_FAULT 0 (0 : Fin 2)] [], .leaf0, 0, 7, 10000,
    by decide +kernel⟩,
  ⟨W .ready [] [],
    by decide +kernel⟩,
  ⟨W .carry [] [],
    by decide +kernel⟩,
  ⟨W .ready [fun L => { L with pos := alter L.pos (0 : Fin 2) fun x => { x with probe := some (0 : Course) } }, fun L => { L with pos := alter L.pos (0 : Fin 2) fun x => { x with probeTries := 0 } }] [], .leaf0, 0, 0, 0, 0,
    by decide +kernel⟩,
  ⟨W .ready [fun L => { L with pos := alter L.pos (0 : Fin 2) fun x => { x with probe := some (0 : Course) } }, fun L => { L with pos := alter L.pos 0 fun x => { x with probeTries := 1 } }] [], .leaf0, 0, 0, 0, 0,
    by decide +kernel⟩,
  ⟨W .ready [fun L => L.put POS_CFG_INDEX_MODE 0 (0 : Fin 2), fun L => { L with pos := alter L.pos (0 : Fin 2) fun x => { x with seen := false } }, fun L => L.put POS_STAT_INDEX_PENDING 0 (0 : Fin 2), fun L => L.put POS_CFG_UVW_EN 0 (0 : Fin 2), fun L => L.put POS_FLT_ENC_FAULT 0 (0 : Fin 2)] [], .leaf0, 0, true, true, 100,
    by decide +kernel⟩,
  ⟨W .ready [fun L => L.put POS_CFG_INDEX_MODE 0 (0 : Fin 2), fun L => { L with pos := alter L.pos (0 : Fin 2) fun x => { x with seen := true } }, fun L => L.put POS_STAT_INDEX_PENDING 0 (0 : Fin 2)] [], .leaf0, 0, true, true, 100,
    by decide +kernel⟩,
  ⟨W .ready [fun L => L.put POS_CFG_INDEX_MODE 0 (0 : Fin 2), fun L => { L with pos := alter L.pos (0 : Fin 2) fun x => { x with seen := true } }, fun L => L.put POS_STAT_INDEX_PENDING 0 (0 : Fin 2), fun L => { L with pos := alter L.pos 0 fun x => { x with pos := 1000 } }, fun L => L.put POS_CFG_CPR_M1 4095 0] [], .leaf0, 0, true, true, 100,
    by decide +kernel⟩,
  ⟨W .ready [fun L => L.put POS_CFG_INDEX_MODE 0 (0 : Fin 2), fun L => { L with pos := alter L.pos (0 : Fin 2) fun x => { x with misses := 0 } }, fun L => { L with pos := alter L.pos 0 fun x => { x with pos := 100000 } }, fun L => L.put POS_CFG_CPR_M1 4095 0] [], .leaf0, 0,
    by decide +kernel⟩,
  ⟨W .ready [fun L => L.put POS_CFG_INDEX_MODE 0 (0 : Fin 2), fun L => { L with pos := alter L.pos 0 fun x => { x with pos := 100000, misses := 1 } }, fun L => L.put POS_CFG_CPR_M1 4095 0] [], .leaf0, 0,
    by decide +kernel⟩,
  ⟨W .ready [fun L => L.put POS_FLT_SUPPLY_HALF 0 (0 : Fin 2)] [], .leaf0, 0, 160,
    by decide +kernel⟩,
  ⟨0,
    by decide +kernel⟩,
  ⟨W .ready [] [], .leaf0, 0,
    by decide +kernel⟩⟩

theorem witness_gate_frames :
    (∃ (s : State) (rx : GateRx),
      Heard s rx true ∧
      kindOf rx.body = 0 ∧
      (s.chan rx.chan).mode = 1) ∧
    (∃ (s : State) (rx : GateRx) (next : Bool),
      Heard s rx next ∧
      kindOf rx.body = 1 ∧
      (s.chan rx.chan).mode = 2 ∧
      (s.chan rx.chan).car = none ∧
      (s.chan rx.chan).fineOf rx.tick < ((s.chan rx.chan).n + bit next) * 4000 + fb rx.body 51 40 + 320) ∧
    (∃ (s : State) (rx : GateRx),
      Damaged s rx) ∧
    (∃ (s : State) (rx : GateRx) (a : Applied),
      (pick (s.chan rx.chan).tb rx.link.num).lost = false ∧
      rx.delim = 0xE7#8 ∧
      bodyCrc rx.body = rx.crc.toNat ∧
      fieldsOk rx.body = true ∧
      kindOf rx.body = 0 ∧
      (s.chan rx.chan).mode = 1 ∧
      BitVec.ofNat 16 (fb rx.body 67 52) = (pick (s.chan rx.chan).tb rx.link.num).tag ∧
      (s.chan rx.chan).applied = [a] ∧
      (a.kind, a.key) = keyOf rx.body ∧
      a.course = (s.chan rx.chan).n ∧
      a.link = rx.link) :=
  ⟨⟨W .ready [] [fun s => s.onChan 0 fun C => { C with cfg := setField 0 GCH_CFG_MODE.hi GCH_CFG_MODE.lo 1, tb := #v[{ tag := 0xFFFF }, {}] }], gframe 0,
    ⟨by unfold Heard; decide +kernel, by decide +kernel⟩⟩,
  ⟨W .ready [] [fun s => s.onChan (gframe (BitVec.ofNat 72 (2 ^ 70 + 2000 * 2 ^ 27 + 100 * 2 ^ 14)) : GateRx).chan fun C => { C with car := none }, fun s => s.onChan 0 fun C => { C with cfg := setField 0 GCH_CFG_MODE.hi GCH_CFG_MODE.lo 2 }], gframe (BitVec.ofNat 72 (2 ^ 70 + 2000 * 2 ^ 27 + 100 * 2 ^ 14)), false,
    ⟨by unfold Heard; decide +kernel, by decide +kernel⟩⟩,
  ⟨W .ready [] [], ⟨0, .leaf0, 0, 0, 0, 100⟩,
    by unfold Damaged; decide +kernel⟩,
  ⟨W .ready [] [fun s => s.onChan (gframe 0 : GateRx).chan fun C => { C with applied := [(⟨0, 0, 0, .leaf0, 0, false⟩ : Applied)] }, fun s => s.onChan 0 fun C => { C with cfg := setField 0 GCH_CFG_MODE.hi GCH_CFG_MODE.lo 1, applied := [⟨0, 0, 0, .leaf0, 0, false⟩] }], gframe 0, ⟨0, 0, 0, .leaf0, 0, false⟩,
    by decide +kernel⟩⟩

theorem witness_gate_maintenance :
    (∃ (s : State) (rx : GateRx) (next : Bool),
      Heard s rx next ∧
      kindOf rx.body = 2) ∧
    (∃ (s : State) (rx : GateRx) (next : Bool),
      Heard s rx next) ∧
    (∃ (s : State) (rx : GateRx),
      Heard s rx false ∧
      kindOf rx.body = 4) ∧
    (∃ (s : State) (rx : GateRx),
      Heard s rx false ∧
      kindOf rx.body = 5 ∧
      (s.chan rx.chan).maint = [] ∧
      rx.tick.val < fb rx.body 11 0 ∧
      (s.chan rx.chan).gate = false ∧
      (s.chan (partnerOf rx.chan)).gate = false ∧
      (s.chan rx.chan).st = .run ∧
      (s.chan rx.chan).cmd = false ∧
      (s.chan (partnerOf rx.chan)).st = .run ∧
      (s.chan (partnerOf rx.chan)).cmd = false ∧
      (s.chan rx.chan).failedOnce = 0) :=
  ⟨⟨W .ready [] [], gframe (BitVec.ofNat 72 (2 ^ 71)), false,
    ⟨by unfold Heard; decide +kernel, by decide +kernel⟩⟩,
  ⟨W .ready [] [], gframe (BitVec.ofNat 72 (2 ^ 71)), false,
    by unfold Heard; decide +kernel⟩,
  ⟨W .ready [] [], gframe (BitVec.ofNat 72 (2 ^ 71 + 2 ^ 49)),
    ⟨by unfold Heard; decide +kernel, by decide +kernel⟩⟩,
  ⟨W .ready [] [fun s => s.onChan (gframe (BitVec.ofNat 72 (2 ^ 71 + 3 * 2 ^ 48 + 200)) : GateRx).chan fun C => { C with maint := [] }, fun s => s.onChan (gframe (BitVec.ofNat 72 (2 ^ 71 + 3 * 2 ^ 48 + 200)) : GateRx).chan fun C => { C with gate := false }, fun s => s.onChan (partnerOf (gframe (BitVec.ofNat 72 (2 ^ 71 + 3 * 2 ^ 48 + 200)) : GateRx).chan) fun C => { C with gate := false }, fun s => s.onChan (gframe (BitVec.ofNat 72 (2 ^ 71 + 3 * 2 ^ 48 + 200)) : GateRx).chan fun C => { C with st := .run }, fun s => s.onChan (gframe (BitVec.ofNat 72 (2 ^ 71 + 3 * 2 ^ 48 + 200)) : GateRx).chan fun C => { C with cmd := false }, fun s => s.onChan (partnerOf (gframe (BitVec.ofNat 72 (2 ^ 71 + 3 * 2 ^ 48 + 200)) : GateRx).chan) fun C => { C with st := .run }, fun s => s.onChan (partnerOf (gframe (BitVec.ofNat 72 (2 ^ 71 + 3 * 2 ^ 48 + 200)) : GateRx).chan) fun C => { C with cmd := false }, fun s => s.onChan (gframe (BitVec.ofNat 72 (2 ^ 71 + 3 * 2 ^ 48 + 200)) : GateRx).chan fun C => { C with failedOnce := 0 }, fun s => s.onChan 0 fun C => { C with st := .run }, fun s => s.onChan 1 fun C => { C with st := .run }], gframe (BitVec.ofNat 72 (2 ^ 71 + 3 * 2 ^ 48 + 200)),
    ⟨by unfold Heard; decide +kernel, by decide +kernel⟩⟩⟩

theorem witness_gate_edges :
    (∃ (s : State) (i : Fin 48) (tick : Fin 4000) (e : Nat × Bool),
      (s.chan i).car = none ∧
      (s.chan i).carNext = none ∧
      (s.chan i).edges.find? (fun e => e.1 == (s.chan i).fineOf tick) = some e) ∧
    (∃ (s : State) (i : Fin 48) (tick : Fin 4000),
      (s.chan i).car = none ∧
      (s.chan i).carNext = none ∧
      (s.chan i).edges.find? (fun e => e.1 == (s.chan i).fineOf tick) = none) ∧
    (∃ (s : State) (i : Fin 48),
      i.val < 46 ∧
      (s.chan i).st = .run ∧
      (s.chan i).bias = true ∧
      (s.chan i).soft = false ∧
      (s.chan i).ot = false ∧
      (s.chan i).cmd = true ∧
      (s.chan i).abandon = false ∧
      (s.chan (partnerOf i)).st = .run ∧
      (s.chan (partnerOf i)).cmd = false ∧
      (s.chan (partnerOf i)).gate = false ∧
      (s.chan i).gate = false) ∧
    (∃ (s : State) (i : Fin 48) (tick : Fin 4000),
      (s.chan i).st = .run ∧
      (∀ n, (s.chan i).lastValid = some n → n + 8000 ≤ (s.chan i).fineOf tick)) ∧
    (∃ (s : State) (i : Fin 48) (tick : Fin 4000) (n : Nat),
      (s.chan i).lastValid = some n ∧
      (s.chan i).fineOf tick < n + 8000) :=
  ⟨⟨W .ready [] [fun s => s.onChan (0 : Fin 48) fun C => { C with car := none }, fun s => s.onChan (0 : Fin 48) fun C => { C with carNext := none }, fun s => s.onChan 0 fun C => { C with edges := [(0, true)] }], 0, 0, (0, true),
    by decide +kernel⟩,
  ⟨W .ready [] [fun s => s.onChan (0 : Fin 48) fun C => { C with car := none }, fun s => s.onChan (0 : Fin 48) fun C => { C with carNext := none }], 0, 0,
    by decide +kernel⟩,
  ⟨W .ready [] [fun s => s.onChan (0 : Fin 48) fun C => { C with st := .run }, fun s => s.onChan (0 : Fin 48) fun C => { C with bias := true }, fun s => s.onChan (0 : Fin 48) fun C => { C with soft := false }, fun s => s.onChan (0 : Fin 48) fun C => { C with ot := false }, fun s => s.onChan (0 : Fin 48) fun C => { C with cmd := true }, fun s => s.onChan (0 : Fin 48) fun C => { C with abandon := false }, fun s => s.onChan (partnerOf (0 : Fin 48)) fun C => { C with st := .run }, fun s => s.onChan (partnerOf (0 : Fin 48)) fun C => { C with cmd := false }, fun s => s.onChan (partnerOf (0 : Fin 48)) fun C => { C with gate := false }, fun s => s.onChan (0 : Fin 48) fun C => { C with gate := false }], 0,
    by decide +kernel⟩,
  ⟨W .ready [] [fun s => s.onChan (0 : Fin 48) fun C => { C with st := .run }], 0, 0,
    ⟨by decide +kernel, fun q hq => absurd (hq.symm.trans (show ((W .ready [] [fun s => s.onChan (0 : Fin 48) fun C => { C with st := .run }]).chan 0).lastValid = none by decide +kernel)) (by simp)⟩⟩,
  ⟨W .ready [] [fun s => s.onChan (0 : Fin 48) fun C => { C with lastValid := some 0 }], 0, 0, 0,
    by decide +kernel⟩⟩

theorem witness_pair_faults :
    (∃ (s : State) (i : Fin 48) (tick : Fin 4000) (mv : Nat) (samples : Nat),
      (s.chan i).gate = true ∧
      (s.chan i).onAt + (s.chan i).cfgField GCH_CFG_BLANK * 8 ≤ (s.chan i).fineOf tick ∧
      2 ≤ samples ∧
      (s.chan i).dsatThreshold < (mv : Int) * 10 ∧
      (s.chan i).st ≠ .noBias ∧
      (s.chan i).st ≠ .unused) ∧
    (∃ (s : State) (i : Fin 48) (mv : Nat) (samples : Nat),
      (samples < 2 ∨ (mv : Int) * 10 ≤ (s.chan i).dsatThreshold ∨ (s.chan i).gate = false)) ∧
    (∃ (s : State) (i : Fin 48) (vee : Bool) (mv : Nat) (ns : Nat),
      (s.chan i).bias = true ∧
      mv < uvApplied (s.chan (evenOf i)) (s.chan (evenOf i + 1)) vee * 100 ∧
      1000 < ns ∧
      (s.chan i).st ≠ .noBias ∧
      (s.chan i).st ≠ .unused) ∧
    (∃ (s : State) (i : Fin 48) (ns : Nat),
      ((s.chan i).bias = false ∨ ns ≤ 1000)) ∧
    (∃ (s : State) (i : Fin 48) (tick : Fin 4000) (n : Nat),
      (s.chan i).waitSince = some n ∧
      max n (s.chan (partnerOf i)).softEnd + 256 ≤ (s.chan i).fineOf tick ∧
      (s.chan (partnerOf i)).soft = false) ∧
    (∃ (s : State) (i : Fin 48),
      (s.chan i).waitSince = none) ∧
    (∃ (s : State) (i : Fin 48) (below : Bool) (ns : Nat),
      (s.chan i).soft = true ∧
      (below = true ∨ 3000 ≤ ns)) ∧
    (∃ (s : State) (i : Fin 48) (tick : Fin 4000) (mv : Nat) (samples : Nat) (e : Nat),
      e = evenOf i ∧
      i.val < 24 ∧
      (s.chan i).gate = true ∧
      (s.chan i).onAt + (s.chan i).cfgField GCH_CFG_BLANK * 8 ≤ (s.chan i).fineOf tick ∧
      2 ≤ samples ∧
      (s.chan i).dsatThreshold < (mv : Int) * 10 ∧
      (s.chan e).st = .run ∧
      (s.chan (e + 1)).st = .run ∧
      (∀ j, j < 24 → (s.chan j).lastFault ≠ some (s.chan e).n) ∧
      (s.chan e).winFrom = none) ∧
    (∃ (s : State) (i : Fin 48) (degC : Int),
      ((s.chan (evenOf i)).protField GCH_PROT_OT_LIM : Int) < degC) ∧
    (∃ (s : State) (i : Fin 48) (degC : Int) (courses : Nat),
      (s.chan (evenOf i)).ot = true ∧
      160 ≤ courses ∧
      degC + 10 ≤ ((s.chan (evenOf i)).protField GCH_PROT_OT_LIM : Int)) ∧
    (∃ (courses : Nat),
      courses < 160) ∧
    (∃ (s : State) (p : Fin 24),
      (s.chan (2 * p)).st = .wait ∧
      (s.chan (2 * p)).ovhw = false ∧
      (s.chan (2 * p)).waitTill ≤ (s.chan (2 * p)).n) ∧
    (∃ (s : State) (p : Fin 24),
      (s.chan (2 * p)).n < (s.chan (2 * p)).waitTill) ∧
    (∃ (s : State) (p : Fin 24) (n : Nat),
      (s.chan (2 * p)).winFrom = some n ∧
      n + 160000 ≤ (s.chan (2 * p)).n ∧
      (s.chan (2 * p)).st ≠ .latched ∧
      (s.chan (2 * p + 1)).st ≠ .latched) :=
  ⟨⟨W .ready [] [fun s => s.onChan (0 : Fin 48) fun C => { C with gate := true }, fun s => s.onChan 0 fun C => { C with gate := true, bias := true, st := .run, n := 100 }], 0, 0, 20000, 2,
    by decide +kernel⟩,
  ⟨W .ready [] [], 0, 0, 0,
    by decide +kernel⟩,
  ⟨W .ready [] [fun s => s.onChan (0 : Fin 48) fun C => { C with bias := true }, fun s => s.onChan 0 fun C => { C with st := .run, prot := 0xffffffffffffffff, cfg := 0xffffffffffffffff }, fun s => s.onChan 1 fun C => { C with cfg := 0xffffffffffffffff }], 0, false, 0, 1001,
    by decide +kernel⟩,
  ⟨W .ready [] [fun s => s.onChan (0 : Fin 48) fun C => { C with bias := false ∨ 0 ≤ 1000 }], 0, 0,
    by decide +kernel⟩,
  ⟨W .ready [] [fun s => s.onChan (0 : Fin 48) fun C => { C with waitSince := some 0 }, fun s => s.onChan (partnerOf (0 : Fin 48)) fun C => { C with soft := false }, fun s => s.onChan 0 fun C => { C with n := 10 }], 0, 0, 0,
    by decide +kernel⟩,
  ⟨W .ready [] [fun s => s.onChan (0 : Fin 48) fun C => { C with waitSince := none }], 0,
    by decide +kernel⟩,
  ⟨W .ready [] [fun s => s.onChan (0 : Fin 48) fun C => { C with soft := true }], 0, false, 3000,
    by decide +kernel⟩,
  ⟨W .ready [] [fun s => s.onChan (0 : Fin 48) fun C => { C with gate := true }, fun s => s.onChan 0 fun C => { C with st := .run }, fun s => s.onChan (0 + 1) fun C => { C with st := .run }, fun s => s.onChan 0 fun C => { C with winFrom := none }, fun s => s.onChan 0 fun C => { C with gate := true, bias := true, st := .run, n := 100 }, fun s => s.onChan 1 fun C => { C with st := .run }], 0, 0, 20000, 2, 0,
    by decide +kernel⟩,
  ⟨W .ready [] [], 0, 300,
    by decide +kernel⟩,
  ⟨W .ready [] [fun s => s.onChan (evenOf (0 : Fin 48)) fun C => { C with ot := true }], 0, -20, 160,
    by decide +kernel⟩,
  ⟨0,
    by decide +kernel⟩,
  ⟨W .ready [] [fun s => s.onChan (2 * (0 : Fin 24)) fun C => { C with st := .wait }, fun s => s.onChan (2 * (0 : Fin 24)) fun C => { C with ovhw := false }], 0,
    by decide +kernel⟩,
  ⟨W .ready [] [fun s => s.onChan 0 fun C => { C with waitTill := 1 }], 0,
    by decide +kernel⟩,
  ⟨W .ready [] [fun s => s.onChan (2 * (0 : Fin 24)) fun C => { C with winFrom := some 0 }, fun s => s.onChan 0 fun C => { C with n := 160000 }], 0, 0,
    by decide +kernel⟩⟩

theorem witness_gate_bias :
    (∃ (mv : Nat) (ns : Nat),
      mv < 19000 ∧
      2000 < ns) ∧
    (∃ (mv : Nat) (ns : Nat),
      (19000 ≤ mv ∨ ns ≤ 2000)) ∧
    (∃ (s : State) (g : Fin 11) (mv : Nat) (us : Nat),
      20000 < mv ∧
      mv < 51200 ∧
      10000 ≤ us ∧
      (pick s.groups g).bias = false) ∧
    (∃ (s : State) (i : Fin 48) (courses : Nat),
      (s.chan i).bias = true ∧
      16 ≤ courses) ∧
    (∃ (s : State) (i : Fin 48) (courses : Nat),
      ((s.chan i).bias = false ∨ courses < 16)) :=
  ⟨⟨0, 2001,
    by decide +kernel⟩,
  ⟨0, 0,
    by decide +kernel⟩,
  ⟨W .ready [] [], 0, 24000, 10000,
    by decide +kernel⟩,
  ⟨W .ready [] [fun s => s.onChan (0 : Fin 48) fun C => { C with bias := true }], 0, 16,
    by decide +kernel⟩,
  ⟨W .ready [] [fun s => s.onChan (0 : Fin 48) fun C => { C with bias := false ∨ 0 < 16 }], 0, 0,
    by decide +kernel⟩⟩

theorem witness_gate_marks_status_and_tests :
    (∃ (s : State) (i : Fin 48) (ch : Fin 51) (l : LeafId) (low : Byte),
      ch.val = i.val ∧
      (pick (s.chan i).tb l.num).lost = false ∧
      (pick (s.chan i).tb l.num).tag = (s.chan i).cur ∧
      low.toNat = ((s.chan i).cur + 1).toNat % 256 ∧
      (s.chan i).maint = []) ∧
    (∃ (s : State) (i : Fin 48) (ch : Fin 51) (l : LeafId),
      ch.val = i.val ∧
      1 ≤ (pick (s.chan i).tb l.num).bad) ∧
    (∃ (s : State) (a : Fin 3) (ch : Fin 51) (l : LeafId) (low : Byte),
      ch.val = 48 + a.val ∧
      (pick (s.stage a).tb l.num).lost = false ∧
      (pick (s.stage a).tb l.num).tag = (s.stage a).cur ∧
      low.toNat = ((s.stage a).cur + 1).toNat % 256) ∧
    (∃ (s : State) (i : Fin 48),
      (s.chan i).due = true) ∧
    (∃ (s : State) (l : LeafId) (i : Nat),
      (s.leaf l).role = .lead ∧
      (s.leaf l).cut = false ∧
      (s.leaf l).get GCH_CTRL_TEST_EN ≠ 0 ∧
      (s.leaf l).get GCH_CTRL_TEST_GAP * 1600 ≤ since (s.leaf l).count (s.leaf l).rot.at_ ∧
      (∀ j, j < 48 → j = (s.leaf l).rot.last → (s.chan j).failedOnce = 0) ∧
      (s.leaf l).nextTested (s.leaf l).rot.last = some i) ∧
    (∃ (s : State) (l : LeafId) (ch : Fin 64),
      s.setup = true ∧
      ch.val < 48 ∧
      (s.leaf l).sending = true) ∧
    (∃ (s : State),
      s.mode = .carry) ∧
    (∃ (s : State) (l : LeafId) (ch : Fin 64),
      s.setup = true ∧
      ch.val < 48 ∧
      s.mayClear l ch = true ∧
      (s.leaf l).sending = true) ∧
    (∃ (s : State),
      s.mode = .carry) :=
  ⟨⟨W .ready [] [fun s => s.onChan (0 : Fin 48) fun C => { C with maint := [] }], 0, 0, .leaf0, 1,
    by decide +kernel⟩,
  ⟨W .ready [] [fun s => s.onChan 0 fun C => { C with tb := #v[{ bad := 1 }, {}] }], 0, 0, .leaf0,
    by decide +kernel⟩,
  ⟨W .ready [] [], 0, 48, .leaf0, 1,
    by decide +kernel⟩,
  ⟨W .ready [] [fun s => s.onChan (0 : Fin 48) fun C => { C with due := true }], 0,
    by decide +kernel⟩,
  ⟨W .ready [fun L => { L with role := .lead }, fun L => L.put GCH_CTRL_TEST_EN 1] [], .leaf0, 0,
    by decide +kernel⟩,
  ⟨W .ready [fun L => { L with role := .lead }] [], .leaf0, 0,
    by decide +kernel⟩,
  ⟨W .carry [] [],
    by decide +kernel⟩,
  ⟨W .ready [fun L => { L with role := .lead }] [], .leaf0, 0,
    by decide +kernel⟩,
  ⟨W .carry [] [],
    by decide +kernel⟩⟩

theorem witness_actuator_stages :
    (∃ (s : State) (rx : StageRx),
      (pick (s.stage rx.stage).tb rx.link.num).lost = false ∧
      rx.delim = 0xE7#8 ∧
      bodyCrc rx.body = rx.crc.toNat ∧
      BitVec.ofNat 16 (fb rx.body 67 52) = (pick (s.stage rx.stage).tb rx.link.num).tag ∧
      fb rx.body 71 70 = 0 ∧
      abOk rx.body = true ∧
      (∀ x ∈ (s.stage rx.stage).applied, x.course = (s.stage rx.stage).n → x.kind ≠ 0)) ∧
    (∃ (s : State) (rx : StageRx),
      ((pick (s.stage rx.stage).tb rx.link.num).lost = true ∨ rx.delim ≠ 0xE7#8 ∨ bodyCrc rx.body ≠ rx.crc.toNat)) ∧
    (∃ (s : State) (rx : StageRx),
      (pick (s.stage rx.stage).tb rx.link.num).lost = false ∧
      rx.delim = 0xE7#8 ∧
      bodyCrc rx.body = rx.crc.toNat ∧
      BitVec.ofNat 16 (fb rx.body 67 52) = (pick (s.stage rx.stage).tb rx.link.num).tag ∧
      fb rx.body 71 70 = 2 ∧
      fb rx.body 51 48 = 1 ∧
      fb rx.body 47 40 ≤ 3 ∧
      (∀ x ∈ (s.stage rx.stage).applied, x.course = (s.stage rx.stage).n → x.kind ≠ 2)) ∧
    (∃ (s : State) (a : Fin 3),
      (∀ n, (s.stage a).lastValid = some n → n + 2 ≤ (s.stage a).n)) ∧
    (∃ (s : State) (a : Fin 3) (n : Nat),
      (s.stage a).lastValid = some n ∧
      (s.stage a).n < n + 2) ∧
    (∃ (mv : Nat),
      mv < 8000) ∧
    (∃ (s : State) (a : Fin 3),
      (s.stage a).due = true) :=
  ⟨⟨W .ready [] [], sframe 0,
    by decide +kernel⟩,
  ⟨W .ready [] [], ⟨0, .leaf0, 0xE7, 0, 0, 100⟩,
    by decide +kernel⟩,
  ⟨W .ready [] [], sframe (BitVec.ofNat 72 (2 ^ 71 + 2 ^ 48)),
    by decide +kernel⟩,
  ⟨W .ready [] [], 0,
    fun q hq => absurd (hq.symm.trans (show ((W .ready [] []).stage 0).lastValid = none by decide +kernel)) (by simp)⟩,
  ⟨W .ready [] [fun s => s.onStage (0 : Fin 3) fun C => { C with lastValid := some 0 }], 0, 0,
    by decide +kernel⟩,
  ⟨0,
    by decide +kernel⟩,
  ⟨W .ready [] [fun s => s.onStage (0 : Fin 3) fun C => { C with due := true }], 0,
    by decide +kernel⟩⟩

theorem witness_traction_timers :
    (∃ (s : State) (l : LeafId) (k : Nat),
      k < 4 ∧
      (s.leaf l).setState k = 2 ∧
      (s.leaf l).get TRC_CTRL_SP_TIMEOUT ≤ since (s.leaf l).count (s.leaf l).trc.lastDesc ∧
      (s.leaf l).trc.timedOut = false) ∧
    (∃ (s : State) (l : LeafId),
      since (s.leaf l).count (s.leaf l).trc.lastDesc < (s.leaf l).get TRC_CTRL_SP_TIMEOUT) ∧
    (∃ (s : State) (l : LeafId) (set : Fin 4) (c : Course),
      ((s.leaf l).tset set).ocWait = true ∧
      ((s.leaf l).tset set).ocHeld = false ∧
      safeState ((s.leaf l).setState set) = true ∧
      ((s.leaf l).tset set).ocAt = some c ∧
      1600 ≤ since (s.leaf l).count c) ∧
    (∃ (s : State) (l : LeafId) (m : Fin 2) (c : Course),
      ((s.leaf l).tmach m).obsFirst = some c ∧
      320000 ≤ since (s.leaf l).count c) ∧
    (∃ (s : State) (l : LeafId),
      (s.leaf l).trc.phase = 3 ∧
      (s.leaf l).trc.syncRun < 160 ∧
      40000 ≤ since (s.leaf l).count (s.leaf l).trc.syncFrom) :=
  ⟨⟨W .ready [fun L => { L with trc := { L.trc with timedOut := false } }, fun L => L.put TRC_SETSTAT_STATE 2 0] [], .leaf0, 0,
    by decide +kernel⟩,
  ⟨W .ready [fun L => L.put TRC_CTRL_SP_TIMEOUT 2, fun L => { L with trc := { L.trc with lastDesc := big } }] [], .leaf0,
    by decide +kernel⟩,
  ⟨W .ready [fun L => { L with trc := { L.trc with sets := alter L.trc.sets 0 fun x => { x with ocWait := true, ocAt := some (at_ 1600) } } }, fun L => L.put TRC_SETSTAT_STATE 3 0] [], .leaf0, 0, at_ 1600,
    by decide +kernel⟩,
  ⟨W .ready [fun L => { L with trc := { L.trc with machs := alter L.trc.machs 0 fun x => { x with obsFirst := some 0 } } }] [], .leaf0, 0, 0,
    by decide +kernel⟩,
  ⟨W .ready [fun L => { L with trc := { L.trc with phase := 3 } }] [], .leaf0,
    by decide +kernel⟩⟩

theorem witness_contactors_and_link :
    (∃ (s : State) (l : LeafId),
      (s.leaf l).con = 1 ∧
      16 ≤ (s.leaf l).lnk.matchRun) ∧
    (∃ (s : State) (l : LeafId),
      (s.leaf l).con = 1 ∧
      (s.leaf l).lnk.matchRun < 16 ∧
      320000 ≤ since (s.leaf l).count (s.leaf l).lnk.conFrom) ∧
    (∃ (s : State) (l : LeafId),
      (s.leaf l).con = 2 ∧
      (s.leaf l).get LNK_CON_OVERLAP ≤ since (s.leaf l).count (s.leaf l).lnk.conFrom) ∧
    (∃ (s : State) (l : LeafId),
      (s.leaf l).con = 4 ∧
      16 ≤ (s.leaf l).lnk.lowRun) ∧
    (∃ (s : State) (l : LeafId) (c : Course),
      (s.leaf l).con = 0 ∧
      (s.leaf l).lnk.minusAt = some c ∧
      since (s.leaf l).count c < 2 ^ 47) ∧
    (∃ (s : State) (l : LeafId) (c : Course),
      (s.leaf l).lnk.minusAt = some c ∧
      2 ^ 47 ≤ since (s.leaf l).count c) ∧
    (∃ (s : State) (l : LeafId),
      (s.leaf l).con = 4 ∧
      (s.leaf l).lnk.lowRun < 16 ∧
      320000 ≤ since (s.leaf l).count (s.leaf l).lnk.conFrom ∧
      (s.leaf l).lnk.blockedAt = none) ∧
    (∃ (s : State) (l : LeafId) (c : Course),
      (s.leaf l).lnk.blockedAt = some c ∧
      since (s.leaf l).count c < 160000) ∧
    (∃ (s : State) (l : LeafId),
      16 ≤ (s.leaf l).lnk.hvilRun ∧
      (s.leaf l).lnk.hvilOpen = false) ∧
    (∃ (s : State) (l : LeafId),
      (s.leaf l).lnk.hvilRun = 0 ∧
      (s.leaf l).lnk.hvilOpen = true) ∧
    (∃ (s : State) (l : LeafId),
      (s.leaf l).get LNK_STAT_DISCH ≠ 0 ∧
      (s.leaf l).vLink < 60) ∧
    (∃ (s : State) (l : LeafId) (c : Course),
      (s.leaf l).get LNK_STAT_DISCH ≠ 0 ∧
      ¬ (s.leaf l).vLink < 60 ∧
      (s.leaf l).lnk.dischFrom = some c ∧
      320000 ≤ since (s.leaf l).count c) ∧
    (∃ (s : State) (l : LeafId),
      (s.leaf l).get LNK_STAT_MODE ≠ 0 ∧
      (s.leaf l).get TRC_CTRL_SP_TIMEOUT < since (s.leaf l).count (s.leaf l).lnk.refAt) ∧
    (∃ (s : State) (l : LeafId),
      (s.leaf l).wantRetest = true ∧
      (s.leaf l).sending = true ∧
      (s.leaf l).get LNK_CHOP_DUAL = 0) ∧
    (∃ (s : State) (l : LeafId),
      s.mode = .workshop ∧
      (s.leaf l).get LNK_FLT_CHOP_FAIL ≠ 0) ∧
    (∃ (s : State),
      s.mode ≠ .workshop) ∧
    (∃ (s : State) (l : LeafId) (leg : Fin 4),
      (s.leaf l).legState leg = 1 ∧
      160000 ≤ ((s.leaf l).leg leg).atLimit) ∧
    (∃ (s : State) (l : LeafId) (leg : Fin 4) (c : Course),
      (s.leaf l).legState leg = 3 ∧
      ((s.leaf l).leg leg).shareOut = true ∧
      ((s.leaf l).leg leg).shareLast = false ∧
      ((s.leaf l).leg leg).shareAt = some c ∧
      160000 ≤ since (s.leaf l).count c) ∧
    (∃ (s : State) (l : LeafId) (c : Course),
      (s.leaf l).lnk.auxHeld = false ∧
      (s.leaf l).lnk.auxStop = some c ∧
      16000 ≤ since (s.leaf l).count c) :=
  ⟨⟨W .ready [fun L => { L with lnk := { L.lnk with matchRun := 16 } }, fun L => L.put LNK_STAT_CON 1] [], .leaf0,
    by decide +kernel⟩,
  ⟨W .ready [fun L => L.put LNK_STAT_CON 1] [], .leaf0,
    by decide +kernel⟩,
  ⟨W .ready [fun L => L.put LNK_STAT_CON 2] [], .leaf0,
    by decide +kernel⟩,
  ⟨W .ready [fun L => { L with lnk := { L.lnk with lowRun := 16 } }, fun L => L.put LNK_STAT_CON 4] [], .leaf0,
    by decide +kernel⟩,
  ⟨W .ready [fun L => { L with lnk := { L.lnk with minusAt := some (0 : Course) } }] [], .leaf0, 0,
    by decide +kernel⟩,
  ⟨W .ready [fun L => { L with lnk := { L.lnk with minusAt := some (big + 1 : Course) } }] [], .leaf0, big + 1,
    by decide +kernel⟩,
  ⟨W .ready [fun L => { L with lnk := { L.lnk with blockedAt := none } }, fun L => L.put LNK_STAT_CON 4] [], .leaf0,
    by decide +kernel⟩,
  ⟨W .ready [fun L => { L with lnk := { L.lnk with blockedAt := some (at_ 5 : Course) } }] [], .leaf0, at_ 5,
    by decide +kernel⟩,
  ⟨W .ready [fun L => { L with lnk := { L.lnk with hvilRun := 16 } }, fun L => { L with lnk := { L.lnk with hvilOpen := false } }] [], .leaf0,
    by decide +kernel⟩,
  ⟨W .ready [fun L => { L with lnk := { L.lnk with hvilRun := 0 } }, fun L => { L with lnk := { L.lnk with hvilOpen := true } }] [], .leaf0,
    by decide +kernel⟩,
  ⟨W .ready [fun L => L.put LNK_STAT_DISCH 1] [], .leaf0,
    by decide +kernel⟩,
  ⟨W .ready [fun L => L.put LNK_STAT_DISCH 1, fun L => { L with lnk := { L.lnk with dischFrom := some (0 : Course) } }, fun L => L.put LNK_SCALE_FS_LINK 1000, fun L => { L with sns := { L.sns with ports := alter L.sns.ports 12 fun x => { x with record := { mean := 2 ^ 30, flags := 1 } } } }] [], .leaf0, 0,
    by decide +kernel⟩,
  ⟨W .ready [fun L => L.put LNK_STAT_MODE 1] [], .leaf0,
    by decide +kernel⟩,
  ⟨W .ready [fun L => { L with role := .lead }, fun L => L.put LNK_CHOP_DUAL 0, fun L => L.put LNK_SCALE_FS_LINK 1000, fun L => { L with sns := { L.sns with ports := alter L.sns.ports 12 fun x => { x with record := { mean := 2 ^ 30, flags := 1 } } } }, fun L => { L with role := .lead }, fun L => L.put LNK_FLT_CHOP_FAIL 1, fun L => L.put POS_STAT_STILL 1 0, fun L => L.put POS_STAT_STILL 1 1, fun L => L.put LNK_OV_OV_CHOP_OFF 900, fun L => L.put LNK_CTRL_LINK_MAX 1000] [], .leaf0,
    by decide +kernel⟩,
  ⟨W .workshop [fun L => L.put LNK_FLT_CHOP_FAIL 1] [], .leaf0,
    by decide +kernel⟩,
  ⟨W .ready [] [],
    by decide +kernel⟩,
  ⟨W .ready [fun L => L.put LNK_LEG_STATE 1, fun L => { L with lnk := { L.lnk with legs := alter L.lnk.legs 0 fun x => { x with atLimit := 160000 } } }] [], .leaf0, 0,
    by decide +kernel⟩,
  ⟨W .ready [fun L => L.put LNK_LEG_STATE 3, fun L => { L with lnk := { L.lnk with legs := alter L.lnk.legs 0 fun x => { x with shareOut := true, shareAt := some 0 } } }] [], .leaf0, 0, 0,
    by decide +kernel⟩,
  ⟨W .ready [fun L => { L with lnk := { L.lnk with auxHeld := false } }, fun L => { L with lnk := { L.lnk with auxStop := some (0 : Course) } }] [], .leaf0, 0,
    by decide +kernel⟩⟩

theorem witness_charger_inputs :
    (∃ (s : State) (l : LeafId) (p : PilotRx),
      1600 ≤ p.courses ∧
      (s.leaf l).chgState = 0 ∧
      (s.leaf l).cableOk = true ∧
      pilotClass p.high p.low true = 1 ∧
      p.pwm = true ∧
      980 ≤ p.hz ∧
      p.hz ≤ 1020 ∧
      (pilotOf p.duty).2.2 = false ∧
      (∃ v, p.low = some v ∧ v ≤ -11000)) ∧
    (∃ (s : State) (l : LeafId) (p : PilotRx),
      1600 ≤ p.courses ∧
      (s.leaf l).chgState ≠ 0 ∧
      (s.leaf l).cableOk = true ∧
      pilotClass p.high p.low true = 6) ∧
    (∃ (p : PilotRx),
      p.courses < 1600) ∧
    (∃ (s : State) (l : LeafId) (ohm : Nat) (n : Nat),
      16000 ≤ n ∧
      4000 < ohm ∧
      (s.leaf l).chgState = 0) ∧
    (∃ (s : State) (l : LeafId) (ohm : Nat) (n : Nat),
      16000 ≤ n ∧
      4000 < ohm ∧
      2 ≤ (s.leaf l).chgState) ∧
    (∃ (s : State) (l : LeafId) (ohm : Nat) (n : Nat),
      16000 ≤ n ∧
      ohm ≤ 4000 ∧
      (s.leaf l).chgState ≠ 0) ∧
    (∃ (n : Nat),
      n < 16000) ∧
    (∃ (s : State) (l : LeafId) (a : PhaseWin) (b : PhaseWin) (c : PhaseWin),
      (s.leaf l).chg.winAt = none ∧
      (s.leaf l).chgState = 2 ∧
      phaseOk a = true ∧
      phaseOk b = true ∧
      phaseOk c = true) ∧
    (∃ (s : State) (l : LeafId) (a : PhaseWin),
      (s.leaf l).chg.winAt = none ∧
      (s.leaf l).chgState = 2 ∧
      phaseOk a = false) ∧
    (∃ (s : State) (l : LeafId) (x : Course),
      (s.leaf l).chg.winAt = some x ∧
      since (s.leaf l).count x < 16000) ∧
    (∃ (s : State) (l : LeafId) (c : Course),
      (s.leaf l).chg.hlcAt = some c ∧
      160000 ≤ since (s.leaf l).count c) :=
  ⟨⟨W .ready [fun L => L.put CHG_STAT_CABLE 1] [], .leaf0, ⟨some 9000, some (-12000), 1000, 100, true, 1600⟩,
    ⟨by decide +kernel, by decide +kernel, by decide +kernel, by decide +kernel, by decide +kernel, by decide +kernel, by decide +kernel, by decide +kernel, ⟨-12000, by decide +kernel, by decide +kernel⟩⟩⟩,
  ⟨W .ready [fun L => L.put CHG_STAT_CABLE 1, fun L => L.put CHG_STAT_STATE 1] [], .leaf0, ⟨some 4500, some (-12000), 1000, 100, true, 1600⟩,
    by decide +kernel⟩,
  ⟨⟨some 9000, some (-12000), 1000, 100, true, 5⟩,
    by decide +kernel⟩,
  ⟨W .ready [] [], .leaf0, 5000, 16000,
    by decide +kernel⟩,
  ⟨W .ready [fun L => L.put CHG_STAT_STATE 3] [], .leaf0, 5000, 16000,
    by decide +kernel⟩,
  ⟨W .ready [fun L => L.put CHG_STAT_STATE 3] [], .leaf0, 1000, 16000,
    by decide +kernel⟩,
  ⟨0,
    by decide +kernel⟩,
  ⟨W .ready [fun L => { L with chg := { L.chg with winAt := none } }, fun L => L.put CHG_STAT_STATE 2] [], .leaf0, ⟨230000, 1000, 50000⟩, ⟨230000, 1000, 50000⟩, ⟨230000, 1000, 50000⟩,
    by decide +kernel⟩,
  ⟨W .ready [fun L => { L with chg := { L.chg with winAt := none } }, fun L => L.put CHG_STAT_STATE 2] [], .leaf0, ⟨1000, 0, 50000⟩,
    by decide +kernel⟩,
  ⟨W .ready [fun L => { L with chg := { L.chg with winAt := some (at_ 5 : Course) } }] [], .leaf0, at_ 5,
    by decide +kernel⟩,
  ⟨W .ready [fun L => { L with chg := { L.chg with hlcAt := some (0 : Course) } }] [], .leaf0, 0,
    by decide +kernel⟩⟩

theorem witness_charge_course :
    (∃ (s : State) (l : LeafId),
      (s.leaf l).chgState = 3 ∧
      (s.leaf l).busReady = true ∧
      (s.leaf l).chg.stopFrom = none ∧
      (s.leaf l).chg.wantCharge = false) ∧
    (∃ (s : State) (l : LeafId),
      (s.leaf l).chgState = 3 ∧
      (s.leaf l).busReady = true ∧
      (s.leaf l).chg.stopFrom = none ∧
      (s.leaf l).chg.wantCharge = true ∧
      (s.leaf l).battReady = true) ∧
    (∃ (s : State) (l : LeafId),
      (s.leaf l).chgLive = true ∧
      (s.leaf l).get CHG_SEARCH_SRCH = 1 ∧
      (s.leaf l).chg.stopFrom = none ∧
      40000 ≤ since (s.leaf l).count (s.leaf l).chg.searchAt ∧
      (s.leaf l).chg.sagNow = true) ∧
    (∃ (s : State) (l : LeafId),
      (s.leaf l).chgLive = true ∧
      (s.leaf l).get CHG_SEARCH_SRCH = 1 ∧
      (s.leaf l).chg.stopFrom = none ∧
      40000 ≤ since (s.leaf l).count (s.leaf l).chg.searchAt ∧
      (s.leaf l).chg.sagNow = false ∧
      (((s.leaf l).searchLimit.1 : Rat) / 10) ≤ (s.leaf l).chg.iLim) ∧
    (∃ (s : State) (l : LeafId),
      (s.leaf l).chgLive = true ∧
      (s.leaf l).get CHG_SEARCH_SRCH = 2 ∧
      144000000 ≤ since (s.leaf l).count (s.leaf l).chg.holdAt) ∧
    (∃ (s : State) (l : LeafId) (c : Course),
      (s.leaf l).chgLive = true ∧
      (s.leaf l).chg.sagFrom = some c ∧
      40000 ≤ since (s.leaf l).count c ∧
      (s.leaf l).chg.weak = 0) ∧
    (∃ (s : State) (l : LeafId) (c : Course),
      (s.leaf l).chgLive = true ∧
      (s.leaf l).chg.sagFrom = some c ∧
      40000 ≤ since (s.leaf l).count c ∧
      (s.leaf l).chg.weak ≠ 0 ∧
      (s.leaf l).chg.stopFrom = none) ∧
    (∃ (s : State) (l : LeafId),
      (s.leaf l).chgState = 7 ∧
      (s.leaf l).chg.pauseCause = 5 ∧
      144000000 ≤ since (s.leaf l).count (s.leaf l).chg.weakAt) ∧
    (∃ (s : State) (l : LeafId) (c : Course),
      (s.leaf l).chgState = 6 ∧
      (s.leaf l).chg.stopFrom = none ∧
      (s.leaf l).chg.termFrom = some c ∧
      4800000 ≤ since (s.leaf l).count c) ∧
    (∃ (s : State) (l : LeafId),
      5 ≤ (s.leaf l).chgState ∧
      (s.leaf l).chgState ≤ 7 ∧
      (s.leaf l).chg.stopFrom = none ∧
      ((max 1 ((s.leaf l).get CHG_BATT_T_SAFE) : Nat) : Rat) * 9600000 ≤ (s.leaf l).chg.equiv ∧
      (s.leaf l).expiryKind = 2 ∧
      (s.leaf l).get CHG_TMR_RESTARTED = 0) ∧
    (∃ (s : State) (l : LeafId) (c : Course),
      (s.leaf l).chg.stopFrom = some c ∧
      (s.leaf l).chg.iLim ≤ 0 ∧
      ((s.leaf l).chg.stopTo = 8 ∨ (s.leaf l).chg.stopTo = 9 ∨ (s.leaf l).chg.stopTo = 10) ∧
      (s.leaf l).chg.stopEnd < 16) :=
  ⟨⟨W .ready [fun L => { L with chg := { L.chg with stopFrom := none } }, fun L => { L with chg := { L.chg with wantCharge := false } }, fun L => L.put CHG_STAT_STATE 3, fun L => { L with chg := { L.chg with pfcOn := true, pfcFrom := some (at_ 20000) } }, fun L => L.put CHG_PWR_V_PFC 0] [], .leaf0,
    by decide +kernel⟩,
  ⟨W .ready [fun L => { L with chg := { L.chg with stopFrom := none } }, fun L => { L with chg := { L.chg with wantCharge := true } }, fun L => L.put CHG_STAT_STATE 3, fun L => { L with chg := { L.chg with pfcOn := true, pfcFrom := some (at_ 20000) } }, fun L => L.put CHG_PWR_V_PFC 0, fun L => L.put LNK_STAT_CONV 2, fun L => L.put LNK_STAT_CON 3, fun L => L.put LNK_STAT_MODE 0, fun L => L.put CHG_BATT_I_FAST 1, fun L => L.put CHG_BATT_V_CV 1] [], .leaf0,
    by decide +kernel⟩,
  ⟨W .ready [fun L => L.put CHG_SEARCH_SRCH 1, fun L => { L with chg := { L.chg with stopFrom := none } }, fun L => { L with chg := { L.chg with sagNow := true } }, fun L => L.put CHG_STAT_STATE 5] [], .leaf0,
    by decide +kernel⟩,
  ⟨W .ready [fun L => L.put CHG_SEARCH_SRCH 1, fun L => { L with chg := { L.chg with stopFrom := none } }, fun L => { L with chg := { L.chg with sagNow := false } }, fun L => L.put CHG_STAT_STATE 5, fun L => { L with chg := { L.chg with iLim := 1000 } }] [], .leaf0,
    by decide +kernel⟩,
  ⟨W .ready [fun L => L.put CHG_SEARCH_SRCH 2, fun L => L.put CHG_STAT_STATE 5] [], .leaf0,
    by decide +kernel⟩,
  ⟨W .ready [fun L => { L with chg := { L.chg with sagFrom := some (0 : Course) } }, fun L => { L with chg := { L.chg with weak := 0 } }, fun L => L.put CHG_STAT_STATE 5] [], .leaf0, 0,
    by decide +kernel⟩,
  ⟨W .ready [fun L => { L with chg := { L.chg with sagFrom := some (0 : Course) } }, fun L => { L with chg := { L.chg with stopFrom := none } }, fun L => L.put CHG_STAT_STATE 5, fun L => { L with chg := { L.chg with weak := 1 } }] [], .leaf0, 0,
    by decide +kernel⟩,
  ⟨W .ready [fun L => { L with chg := { L.chg with pauseCause := 5 } }, fun L => L.put CHG_STAT_STATE 7] [], .leaf0,
    by decide +kernel⟩,
  ⟨W .ready [fun L => { L with chg := { L.chg with stopFrom := none } }, fun L => { L with chg := { L.chg with termFrom := some (0 : Course) } }, fun L => L.put CHG_STAT_STATE 6] [], .leaf0, 0,
    by decide +kernel⟩,
  ⟨W .ready [fun L => { L with chg := { L.chg with stopFrom := none } }, fun L => L.put CHG_TMR_RESTARTED 0, fun L => L.put CHG_STAT_STATE 5, fun L => { L with chg := { L.chg with equiv := 9600000 * 10000 } }] [], .leaf0,
    by decide +kernel⟩,
  ⟨W .ready [fun L => { L with chg := { L.chg with stopTo := 8, stopFrom := some 0 } }] [], .leaf0, 0,
    by decide +kernel⟩⟩

theorem witness_charger_timeouts :
    (∃ (s : State) (l : LeafId),
      (s.leaf l).chgState = 2 ∧
      800000 ≤ since (s.leaf l).count (s.leaf l).chg.stateAt) ∧
    (∃ (s : State) (l : LeafId),
      since (s.leaf l).count (s.leaf l).chg.stateAt < 800000) ∧
    (∃ (s : State) (l : LeafId),
      (s.leaf l).chgState = 7 ∧
      (s.leaf l).chg.pauseCause = 4 ∧
      800000 ≤ since (s.leaf l).count (s.leaf l).chg.lossAt) ∧
    (∃ (s : State) (l : LeafId) (c : Course),
      (s.leaf l).chgState = 7 ∧
      (((s.leaf l).chg.pauseCause = 7 ∧ (s.leaf l).chg.pfcOvAt = some c) ∨ ((s.leaf l).chg.pauseCause = 8 ∧ (s.leaf l).chg.llcOcAt = some c)) ∧
      16000 ≤ since (s.leaf l).count c) ∧
    (∃ (s : State),
      s.mode = .workshop) ∧
    (∃ (s : State),
      s.mode ≠ .workshop) :=
  ⟨⟨W .ready [fun L => L.put CHG_STAT_STATE 2] [], .leaf0,
    by decide +kernel⟩,
  ⟨W .ready [fun L => { L with chg := { L.chg with stateAt := at_ 5 } }] [], .leaf0,
    by decide +kernel⟩,
  ⟨W .ready [fun L => { L with chg := { L.chg with pauseCause := 4 } }, fun L => L.put CHG_STAT_STATE 7] [], .leaf0,
    by decide +kernel⟩,
  ⟨W .ready [fun L => L.put CHG_STAT_STATE 7, fun L => { L with chg := { L.chg with pauseCause := 7, pfcOvAt := some 0 } }] [], .leaf0, 0,
    by decide +kernel⟩,
  ⟨W .workshop [] [],
    by decide +kernel⟩,
  ⟨W .ready [] [],
    by decide +kernel⟩⟩

theorem witness_actuator_moves :
    (∃ (s : State) (l : LeafId) (a : Fin 3),
      (s.leaf l).actState a = 2 ∧
      16 * (s.leaf l).get ACT_CFG_ALIGN_T a ≤ since (s.leaf l).count ((s.leaf l).actr a).stateAt) ∧
    (∃ (s : State) (l : LeafId) (a : Fin 3),
      (s.leaf l).actState a = 4 ∧
      ((s.leaf l).actr a).kind = 1 ∧
      (s.leaf l).get ACT_CTRL_LOCK_T ≤ since (s.leaf l).count ((s.leaf l).actr a).lastComm ∧
      ((s.leaf l).actr a).faultAt = none) ∧
    (∃ (s : State) (l : LeafId) (a : Fin 3) (c : Course),
      (s.leaf l).actState a = 4 ∧
      ((s.leaf l).actr a).kind = 1 ∧
      (s.leaf l).get ACT_CTRL_LOCK_T ≤ since (s.leaf l).count ((s.leaf l).actr a).lastComm ∧
      ((s.leaf l).actr a).faultAt = some c ∧
      since (s.leaf l).count c ≤ 160000) ∧
    (∃ (s : State) (l : LeafId) (a : Fin 3),
      (s.leaf l).actState a = 6 ∧
      ((s.leaf l).actr a).vin = false ∧
      (s.leaf l).act.vinStop = false ∧
      (s.leaf l).get ACT_CTRL_LOCK_WAIT ≤ since (s.leaf l).count ((s.leaf l).actr a).stateAt) ∧
    (∃ (s : State) (l : LeafId) (a : Fin 3),
      (s.leaf l).actState a = 4 ∧
      ((s.leaf l).actr a).kind = 1 ∧
      (s.leaf l).nearTarget a = true) ∧
    (∃ (s : State) (l : LeafId) (a : Fin 3),
      (s.leaf l).actState a = 5 ∧
      1600 ≤ since (s.leaf l).count ((s.leaf l).actr a).stateAt) ∧
    (∃ (s : State) (l : LeafId),
      (s.leaf l).actState 0 = 4 ∧
      ((s.leaf l).actr 0).kind = 3 ∧
      16 * (s.leaf l).get ACT_CTRL_END_T ≤ since (s.leaf l).count ((s.leaf l).actr 0).lastComm) ∧
    (∃ (s : State) (l : LeafId),
      (s.leaf l).actState 1 = 4 ∧
      ((s.leaf l).actr 1).kind = 2 ∧
      (s.leaf l).nearTarget 1 = true ∧
      (s.leaf l).atEnd 1 = true ∧
      16 * (s.leaf l).get ACT_CTRL_END_T ≤ since (s.leaf l).count ((s.leaf l).actr 1).lastComm) ∧
    (∃ (s : State) (l : LeafId) (c : Course),
      (s.leaf l).act.vinStop = true ∧
      (s.leaf l).act.vinFrom = some c ∧
      16000 ≤ since (s.leaf l).count c) :=
  ⟨⟨W .ready [fun L => L.put ACT_CHSTAT_STATE 2 0] [], .leaf0, 0,
    by decide +kernel⟩,
  ⟨W .ready [fun L => L.put ACT_CHSTAT_STATE 4 0, fun L => { L with act := { L.act with actrs := alter L.act.actrs 0 fun x => { x with kind := 1 } } }] [], .leaf0, 0,
    by decide +kernel⟩,
  ⟨W .ready [fun L => L.put ACT_CHSTAT_STATE 4 0, fun L => { L with act := { L.act with actrs := alter L.act.actrs 0 fun x => { x with kind := 1, faultAt := some (at_ 5) } } }] [], .leaf0, 0, at_ 5,
    by decide +kernel⟩,
  ⟨W .ready [fun L => { L with act := { L.act with vinStop := false } }, fun L => L.put ACT_CHSTAT_STATE 6 0] [], .leaf0, 0,
    by decide +kernel⟩,
  ⟨W .ready [fun L => L.put ACT_CHSTAT_STATE 4 0, fun L => { L with act := { L.act with actrs := alter L.act.actrs 0 fun x => { x with kind := 1 } } }] [], .leaf0, 0,
    by decide +kernel⟩,
  ⟨W .ready [fun L => L.put ACT_CHSTAT_STATE 5 0] [], .leaf0, 0,
    by decide +kernel⟩,
  ⟨W .ready [fun L => L.put ACT_CHSTAT_STATE 4 0, fun L => { L with act := { L.act with actrs := alter L.act.actrs 0 fun x => { x with kind := 3 } } }] [], .leaf0,
    by decide +kernel⟩,
  ⟨W .ready [fun L => L.put ACT_CHSTAT_STATE 4 1, fun L => { L with act := { L.act with actrs := alter L.act.actrs 1 fun x => { x with kind := 2 } } }] [], .leaf0,
    by decide +kernel⟩,
  ⟨W .ready [fun L => { L with act := { L.act with vinStop := true } }, fun L => { L with act := { L.act with vinFrom := some (0 : Course) } }] [], .leaf0, 0,
    by decide +kernel⟩⟩

theorem witness_shift_return_and_sensors :
    (∃ (s : State) (l : LeafId),
      1 ≤ (s.leaf l).shiftCode ∧
      (s.leaf l).shiftCode ≤ 4 ∧
      (s.leaf l).get ACT_STAT_PAST_PNR = 0 ∧
      (s.leaf l).act.retAsked = true ∧
      (s.leaf l).actState 0 ≠ 7) ∧
    (∃ (s : State) (l : LeafId),
      (s.leaf l).get ACT_STAT_PAST_PNR ≠ 0) ∧
    (∃ (s : State) (l : LeafId) (c : Course),
      (s.leaf l).shiftCode = 4 ∧
      (s.leaf l).act.engFrom = some c ∧
      160 * (s.leaf l).get ACT_SHIFT_ENG_T ≤ since (s.leaf l).count c ∧
      (s.leaf l).act.shiftTo ≤ 3) ∧
    (∃ (s : State) (l : LeafId),
      (s.leaf l).role ≠ .boot ∧
      1600 ≤ since (s.leaf l).count (s.leaf l).thm.sampledAt) ∧
    (∃ (s : State) (l : LeafId),
      since (s.leaf l).count (s.leaf l).thm.sampledAt < 1600) ∧
    (∃ (s : State) (l : LeafId) (i : Fin 83),
      (s.leaf l).sensorBroken i = true ∧
      100 ≤ ((s.leaf l).tsensor i).okRun) ∧
    (∃ (s : State) (l : LeafId) (i : Fin 83),
      (s.leaf l).sensorBroken i = true ∧
      ((s.leaf l).tsensor i).okRun < 100) :=
  ⟨⟨W .ready [fun L => L.put ACT_STAT_PAST_PNR 0, fun L => { L with act := { L.act with retAsked := true } }, fun L => L.put ACT_STAT_SHIFT 1] [], .leaf0,
    by decide +kernel⟩,
  ⟨W .ready [fun L => L.put ACT_STAT_PAST_PNR 1] [], .leaf0,
    by decide +kernel⟩,
  ⟨W .ready [fun L => { L with act := { L.act with engFrom := some (0 : Course) } }, fun L => L.put ACT_STAT_SHIFT 4] [], .leaf0, 0,
    by decide +kernel⟩,
  ⟨W .ready [fun L => { L with role := .lead }] [], .leaf0,
    by decide +kernel⟩,
  ⟨W .ready [fun L => { L with thm := { L.thm with sampledAt := at_ 5 } }] [], .leaf0,
    by decide +kernel⟩,
  ⟨W .ready [fun L => L.put THM_TEMP_STATE 3 0, fun L => { L with thm := { L.thm with sensors := alter L.thm.sensors 0 fun x => { x with okRun := 100 } } }] [], .leaf0, 0,
    by decide +kernel⟩,
  ⟨W .ready [fun L => L.put THM_TEMP_STATE 3 0] [], .leaf0, 0,
    by decide +kernel⟩⟩

theorem witness_leaving_a_role :
    (∃ (s : State) (l : LeafId) (cause : Fin 6),
      cause.val ≠ 0 ∧
      (s.leaf l).computing = true ∧
      (s.leaf l).cut = false) ∧
    (∃ (s : State) (l : LeafId),
      ((s.leaf l).computing = false ∨ (s.leaf l).cut = true)) ∧
    (∃ (s : State) (l : LeafId) (cause : Fin 7),
      cause.val ≠ 0 ∧
      (s.leaf l).role = .follow ∧
      (s.leaf l).cut = false ∧
      (s.leaf l).tieOk = true) ∧
    (∃ (s : State) (l : LeafId) (cause : Fin 7),
      cause.val ≠ 0 ∧
      (s.leaf l).role = .lead ∧
      (s.leaf l).cut = false ∧
      (s.leaf l).tieOk = true) ∧
    (∃ (s : State) (l : LeafId),
      (s.leaf l).carrying = true ∧
      (s.leaf l).cut = false ∧
      (s.leaf l).tick ≤ 3840 ∧
      (s.leaf l).crs.roleAt = some ((s.leaf l).count + 1, .out)) ∧
    (∃ (s : State) (l : LeafId),
      (s.leaf l).sending = true ∧
      (s.leaf l).linkLost = true ∧
      (s.leaf l).crs.roleAt = none ∧
      (s.leaf l).role = .lead ∧
      (s.leaf l.other).role = .follow ∧
      (s.leaf l.other).get CRS_STAT_ALIGNED ≠ 0) ∧
    (∃ (s : State) (l : LeafId),
      (s.leaf l).sending = true ∧
      (s.leaf l).linkLost = true ∧
      (s.leaf l).crs.roleAt = none ∧
      (s.leaf l.other).role ≠ .follow) ∧
    (∃ (s : State) (l : LeafId),
      (s.leaf l).linkLost = false) :=
  ⟨⟨W .ready [fun L => { L with role := .lead }] [], .leaf0, 1,
    by decide +kernel⟩,
  ⟨W .ready [] [], .leaf0,
    by decide +kernel⟩,
  ⟨W .ready [fun L => { L with role := .follow }] [], .leaf0, 1,
    by decide +kernel⟩,
  ⟨W .ready [fun L => { L with role := .lead }] [], .leaf0, 1,
    by decide +kernel⟩,
  ⟨W .ready [fun L => { L with role := .lead }, fun L => { L with crs := { L.crs with roleAt := some (L.count + 1, .out) } }] [], .leaf0,
    by decide +kernel⟩,
  ⟨W .ready [fun L => { L with role := .lead }, fun L => { L with crs := { L.crs with roleAt := none } }, fun L => { L with role := .lead }, fun L => { L with role := .lead }, fun L => { L with hre := { L.hre with missing := 16 } }] [fun s => s.setLeaf .leaf1 (List.foldl (fun L f => f L) s.leaf1 [fun L => { L with role := .follow }, fun L => L.put CRS_STAT_ALIGNED 1])], .leaf0,
    by decide +kernel⟩,
  ⟨W .ready [fun L => { L with role := .lead }, fun L => { L with crs := { L.crs with roleAt := none } }, fun L => { L with role := .lead }, fun L => { L with hre := { L.hre with missing := 16 } }] [], .leaf0,
    by decide +kernel⟩,
  ⟨W .ready [] [], .leaf0,
    by decide +kernel⟩⟩

theorem witness_coming_back :
    (∃ (s : State) (a : LeafId) (b : LeafId) (w : RegW) (h : Hdr),
      s.leadId = some a ∧
      s.followId = some b ∧
      (s.leaf b).get CRS_STAT_ALIGNED ≠ 0 ∧
      (s.leaf .leaf0).crs.cmds = [(w, h)] ∧
      (s.leaf .leaf1).crs.cmds = [(w, h)] ∧
      w.off = TIE_CMD.base ∧
      w.value.getLsbD 63 = true) ∧
    (∃ (s : State),
      (s.leaf .leaf0).crs.cmds = [] ∧
      (s.leaf .leaf1).crs.cmds = []) ∧
    (∃ (s : State) (l : LeafId),
      s.setup = true ∧
      (s.leaf l).role = .out) ∧
    (∃ (s : State),
      s.mode = .carry) ∧
    (∃ (s : State) (l : LeafId) (r : StartRes),
      (s.leaf l).role = .restart ∧
      (s.leaf l).bst.fullAt = none ∧
      (s.leaf l).bst.halted = false ∧
      since (s.leaf l).count (s.leaf l).tie.restartAt ≤ 320000 ∧
      (s.leaf l).bootSlot r.imageA r.imageB = (s.leaf l, true) ∧
      (s.leaf l).upd.newStart = false) ∧
    (∃ (s : State) (l : LeafId),
      (s.leaf l).role = .restart ∧
      (s.leaf l).bst.fullAt = none ∧
      (s.leaf l).bst.halted = false) ∧
    (∃ (s : State) (l : LeafId),
      (s.leaf l).role ≠ .restart) ∧
    (∃ (s : State) (l : LeafId) (m : LeafId),
      s.leadId = some m ∧
      m ≠ l ∧
      (s.leaf l).role = .align ∧
      (s.leaf l).crs.roleAt = none ∧
      1600 ≤ (s.leaf l).tie.within ∧
      (s.leaf l).tie.settingsDone = true ∧
      (s.leaf l).tie.ledgerDone = true ∧
      2 ≤ (s.leaf l).tie.residualOk ∧
      s.indexOwed l = false) ∧
    (∃ (s : State) (l : LeafId),
      (s.leaf l).tie.within < 1600) ∧
    (∃ (s : State) (l : LeafId),
      (s.leaf l).role = .align ∧
      (s.leaf l).crs.roleAt = none ∧
      (s.leaf l).tie.doneAt = none ∧
      40000 ≤ since (s.leaf l).count (s.leaf l).tie.alignAt) ∧
    (∃ (s : State) (l : LeafId) (c : Course),
      (s.leaf l).carrying = true ∧
      (s.leaf l).tie.silenceRestart = true ∧
      (s.leaf l).tie.followAt = some c ∧
      9600000 ≤ since (s.leaf l).count c) :=
  ⟨⟨W .ready [fun L => { L with crs := { L.crs with cmds := [((⟨TIE_CMD.base, 0, BitVec.ofNat 64 (2 ^ 63)⟩ : RegW), (⟨0, false, 0, 0, 0, 0⟩ : Hdr))] } }, fun L => { L with role := .lead }, fun L => { L with crs := { L.crs with cmds := cmd TIE_CMD.base 63 } }] [fun s => s.setLeaf .leaf1 (List.foldl (fun L f => f L) s.leaf1 [fun L => { L with role := .follow }, fun L => L.put CRS_STAT_ALIGNED 1, fun L => { L with crs := { L.crs with cmds := cmd TIE_CMD.base 63 } }])], .leaf0, .leaf1, ⟨TIE_CMD.base, 0, BitVec.ofNat 64 (2 ^ 63)⟩, ⟨0, false, 0, 0, 0, 0⟩,
    by decide +kernel⟩,
  ⟨W .ready [fun L => { L with crs := { L.crs with cmds := [] } }] [],
    by decide +kernel⟩,
  ⟨W .ready [fun L => { L with role := .out }] [], .leaf0,
    by decide +kernel⟩,
  ⟨W .carry [] [],
    by decide +kernel⟩,
  ⟨W .ready [fun L => { L with role := .restart }, fun L => { L with bst := { L.bst with fullAt := none } }, fun L => { L with bst := { L.bst with halted := false } }, fun L => { L with upd := { L.upd with newStart := false } }, fun L => { L with tie := { L.tie with restartAt := at_ 5 } }] [], .leaf0, ⟨true, true, true, [], [], []⟩,
    by decide +kernel⟩,
  ⟨W .ready [fun L => { L with role := .restart }, fun L => { L with bst := { L.bst with fullAt := none } }, fun L => { L with bst := { L.bst with halted := false } }] [], .leaf0,
    by decide +kernel⟩,
  ⟨W .ready [] [], .leaf0,
    by decide +kernel⟩,
  ⟨W .ready [fun L => { L with role := .align }, fun L => { L with crs := { L.crs with roleAt := none } }, fun L => { L with tie := { L.tie with within := 1600 } }, fun L => { L with tie := { L.tie with settingsDone := true } }, fun L => { L with tie := { L.tie with ledgerDone := true } }, fun L => { L with tie := { L.tie with residualOk := 2 } }, fun L => { L with role := .align }] [fun s => s.setLeaf .leaf1 (List.foldl (fun L f => f L) s.leaf1 [fun L => { L with role := .lead }])], .leaf0, .leaf1,
    by decide +kernel⟩,
  ⟨W .ready [] [], .leaf0,
    by decide +kernel⟩,
  ⟨W .ready [fun L => { L with role := .align }, fun L => { L with crs := { L.crs with roleAt := none } }, fun L => { L with tie := { L.tie with doneAt := none } }] [], .leaf0,
    by decide +kernel⟩,
  ⟨W .ready [fun L => { L with role := .lead }, fun L => { L with tie := { L.tie with silenceRestart := true } }, fun L => { L with tie := { L.tie with followAt := some (0 : Course) } }] [], .leaf0, 0,
    by decide +kernel⟩⟩

theorem witness_output_arbiter :
    (∃ (s : State) (l : LeafId),
      (s.mode = .ready ∨ s.mode = .carry) ∧
      s.pins.resetN = false ∧
      s.pins.bootDead = false ∧
      (s.leaf l).sending = true ∧
      (s.leaf l).role = .lead ∧
      (s.leaf l.other).role ≠ .lead) ∧
    (∃ (s : State),
      (s.mode = .ready ∨ s.mode = .carry) ∧
      s.pins.resetN = false ∧
      (s.leaf .leaf0).sending = true ∧
      (s.leaf .leaf0).role = .lead ∧
      (s.leaf .leaf1).sending = true ∧
      (s.leaf .leaf1).role = .lead) ∧
    (∃ (s : State),
      (s.mode = .off ∨ s.mode = .park)) ∧
    (∃ (s : State) (k : Fin 7),
      2 ≤ pick (pick s.arb.outs k).age s.arb.lead.num) ∧
    (∃ (s : State) (k : Fin 7),
      pick (pick s.arb.outs k).age s.arb.lead.num < 2) ∧
    (∃ (s : State) (c : Fin 3) (ms : Nat),
      (pick s.arb.outs c).level = true ∧
      250 ≤ ms) ∧
    (∃ (ms : Nat),
      ms < 250) ∧
    (∃ (s : State) (c : Fin 3) (k : Fin 4),
      (k.val = 2 → (pick s.arb.outs c).level = true) ∧
      (k.val = 3 → (pick s.arb.outs c).level = false)) :=
  ⟨⟨W .ready [fun L => { L with role := .lead }, fun L => { L with role := .lead }] [fun s => { s with pins := { s.pins with resetN := false } }, fun s => { s with pins := { s.pins with bootDead := false } }], .leaf0,
    by decide +kernel⟩,
  ⟨W .ready [fun L => { L with role := .lead }, fun L => { L with role := .lead }] [fun s => { s with pins := { s.pins with resetN := false } }, fun s => s.setLeaf .leaf1 (List.foldl (fun L f => f L) s.leaf1 [fun L => { L with role := .lead }])],
    by decide +kernel⟩,
  ⟨W .off [] [],
    by decide +kernel⟩,
  ⟨W .ready [] [], 0,
    by decide +kernel⟩,
  ⟨W .ready [] [fun s => { s with arb := { s.arb with outs := alter s.arb.outs 0 fun x => { x with age := #v[0, 0] } } }], 0,
    by decide +kernel⟩,
  ⟨W .ready [] [fun s => { s with arb := { s.arb with outs := alter s.arb.outs 0 fun x => { x with level := true } } }], 0, 250,
    by decide +kernel⟩,
  ⟨0,
    by decide +kernel⟩,
  ⟨W .ready [] [], 0, 0,
    by decide +kernel⟩⟩

theorem witness_lanes_and_marks :
    (∃ (s : State) (l : LeafId) (k : Fin 2) (ns : Nat),
      (pick (s.leaf l).tie.lanes k).up = true ∧
      (1000 ≤ ns ∨ 2 ≤ (pick (s.leaf l).tie.lanes k).missing)) ∧
    (∃ (s : State) (l : LeafId) (k : Fin 2) (ns : Nat),
      (pick (s.leaf l).tie.lanes k).up = true ∧
      1000 ≤ ns ∧
      (∀ j, j < 2 → j ≠ k.val → (s.leaf l).laneOk j = false) ∧
      (s.leaf l).role = .follow ∧
      (s.leaf l).crs.roleAt = none ∧
      (s.leaf l).tie.isolatedAt = none ∧
      ((s.leaf l).get TIE_STAT_PARTNER ≤ 1 ∨ (s.leaf l).get TIE_STAT_PARTNER = 3)) ∧
    (∃ (s : State) (l : LeafId) (k : Fin 2) (ns : Nat),
      ns < 1000 ∧
      (pick (s.leaf l).tie.lanes k).missing < 2) ∧
    (∃ (s : State) (l : LeafId) (k : Fin 2),
      (pick (s.leaf l).tie.lanes k).up = false ∧
      16 ≤ (pick (s.leaf l).tie.lanes k).good) ∧
    (∃ (s : State) (l : LeafId) (k : Fin 2),
      (pick (s.leaf l).tie.lanes k).good < 16) ∧
    (∃ (s : State) (l : LeafId) (rx : Rx),
      (pick (s.leaf l).tie.lanes rx.lane).up = true ∧
      rx.crcOk = true) ∧
    (∃ (s : State) (l : LeafId) (k : Course),
      (s.leaf l).role = .follow ∧
      (s.leaf l).tie.isolatedAt = some k ∧
      3 ≤ since (s.leaf l).count k) ∧
    (∃ (s : State) (l : LeafId),
      (s.leaf l).tie.isolatedAt = none) ∧
    (∃ (s : State) (l : LeafId) (m : MarkRx),
      m.crcOk = true ∧
      (pick (s.leaf l).tie.lanes 0).marked = false ∧
      (pick (s.leaf l).tie.lanes 1).marked = false) ∧
    (∃ (m : MarkRx),
      m.crcOk = false) ∧
    (∃ (s : State) (l : LeafId),
      (s.leaf l).role = .follow ∧
      (s.leaf l).cut = false ∧
      (s.leaf l).tie.probeAt = none) ∧
    (∃ (s : State) (l : LeafId) (rx : Rx) (ps : Nat),
      (s.leaf l).role = .follow ∧
      (s.leaf l).laneOk rx.lane = true ∧
      rx.crcOk = true ∧
      (s.leaf l).tie.probeAt.isSome ∧
      ((∀ j, j < 2 → j ≠ rx.lane.val → (pick (s.leaf l).tie.lanes j).round = 0 ∨ ((pick (s.leaf l).tie.lanes j).round ≤ ps + 4000 ∧ ps ≤ (pick (s.leaf l).tie.lanes j).round + 4000)))) :=
  ⟨⟨W .ready [fun L => { L with tie := { L.tie with lanes := alter L.tie.lanes (0 : Fin 2) fun x => { x with up := true } } }] [], .leaf0, 0, 1000,
    by decide +kernel⟩,
  ⟨W .ready [fun L => { L with tie := { L.tie with lanes := alter L.tie.lanes (0 : Fin 2) fun x => { x with up := true } } }, fun L => { L with role := .follow }, fun L => { L with crs := { L.crs with roleAt := none } }, fun L => { L with tie := { L.tie with isolatedAt := none } }, fun L => { L with tie := { L.tie with lanes := alter L.tie.lanes 1 fun x => { x with up := false } } }, fun L => L.put TIE_STAT_PARTNER 1] [], .leaf0, 0, 1000,
    by decide +kernel⟩,
  ⟨W .ready [] [], .leaf0, 0, 0,
    by decide +kernel⟩,
  ⟨W .ready [fun L => { L with tie := { L.tie with lanes := alter L.tie.lanes (0 : Fin 2) fun x => { x with up := false } } }, fun L => { L with tie := { L.tie with lanes := alter L.tie.lanes 0 fun x => { x with good := 16 } } }] [], .leaf0, 0,
    by decide +kernel⟩,
  ⟨W .ready [] [], .leaf0, 0,
    by decide +kernel⟩,
  ⟨W .ready [fun L => { L with tie := { L.tie with lanes := alter L.tie.lanes (⟨0, true, 1, 0⟩ : Rx).lane fun x => { x with up := true } } }] [], .leaf0, ⟨0, true, 1, 0⟩,
    by decide +kernel⟩,
  ⟨W .ready [fun L => { L with role := .follow }, fun L => { L with tie := { L.tie with isolatedAt := some (0 : Course) } }] [], .leaf0, 0,
    by decide +kernel⟩,
  ⟨W .ready [fun L => { L with tie := { L.tie with isolatedAt := none } }] [], .leaf0,
    by decide +kernel⟩,
  ⟨W .ready [fun L => { L with tie := { L.tie with lanes := alter L.tie.lanes 0 fun x => { x with marked := false } } }, fun L => { L with tie := { L.tie with lanes := alter L.tie.lanes 1 fun x => { x with marked := false } } }] [], .leaf0, ⟨0, true, 0, 0, 0⟩,
    by decide +kernel⟩,
  ⟨⟨0, false, 0, 0, 0⟩,
    by decide +kernel⟩,
  ⟨W .ready [fun L => { L with role := .follow }, fun L => { L with tie := { L.tie with probeAt := none } }] [], .leaf0,
    by decide +kernel⟩,
  ⟨W .ready [fun L => { L with role := .follow }, fun L => { L with tie := { L.tie with probeAt := some default } }] [], .leaf0, ⟨0, true, 1, 0⟩, 0,
    by decide +kernel⟩⟩

theorem witness_tie_units :
    (∃ (rx : Rx),
      rx.crcOk = false) ∧
    (∃ (s : State) (l : LeafId) (rx : Rx),
      NewUnit (s.leaf l) rx) ∧
    (∃ (s : State) (l : LeafId) (rx : Rx),
      NewUnit (s.leaf l) rx) ∧
    (∃ (s : State) (l : LeafId) (rx : Rx),
      NewUnit (s.leaf l) rx) ∧
    (∃ (s : State) (l : LeafId) (rx : Rx),
      NewUnit (s.leaf l) rx ∧
      (s.leaf l).role = .lead) ∧
    (∃ (s : State) (l : LeafId) (rx : Rx) (r : LRec),
      NewUnit (s.leaf l) rx ∧
      (s.leaf l).role = .follow ∧
      (s.leaf l).cut = false ∧
      lrRecno r ≤ (s.leaf l).get LDG_HEAD_RECNO) ∧
    (∃ (s : State) (l : LeafId) (q : BitVec 32) (u : Unacked),
      (s.leaf l).computing = true ∧
      (s.leaf l).cut = false ∧
      (s.leaf l).tie.unacked = [u] ∧
      u.seq = q ∧
      (u.typ = 0x14 ∨ u.typ = 0x1E) ∧
      16 ≤ since (s.leaf l).count u.sent) ∧
    (∃ (s : State) (l : LeafId),
      (s.leaf l).tie.unacked = []) ∧
    (∃ (s : State) (l : LeafId) (rx : Rx),
      NewUnit (s.leaf l) rx ∧
      (s.leaf l).role = .align) ∧
    (∃ (s : State) (l : LeafId) (rx : Rx) (g : Nat),
      NewUnit (s.leaf l) rx ∧
      (s.leaf l).role = .align ∧
      (s.leaf l).cut = false ∧
      (s.leaf l).inForce.gen ≠ g ∧
      (s.leaf l).upd.source = none) ∧
    (∃ (s : State) (l : LeafId) (rx : Rx) (c : Course),
      NewUnit (s.leaf l) rx ∧
      isAfter (s.leaf l).count.toNat c.toNat 48 = true) ∧
    (∃ (s : State) (l : LeafId) (rx : Rx),
      NewUnit (s.leaf l) rx) ∧
    (∃ (s : State) (l : LeafId) (rx : Rx),
      NewUnit (s.leaf l) rx) ∧
    (∃ (s : State) (l : LeafId) (rx : Rx),
      NewUnit (s.leaf l) rx ∧
      (s.leaf l).role = .follow ∧
      (s.leaf l.other).role = .lead) ∧
    (∃ (s : State) (l : LeafId) (rx : Rx),
      NewUnit (s.leaf l) rx) ∧
    (∃ (s : State) (l : LeafId) (rx : Rx),
      NewUnit (s.leaf l) rx) ∧
    (∃ (s : State) (l : LeafId) (rx : Rx),
      NewUnit (s.leaf l) rx ∧
      (s.leaf l).tie.wantSet.isSome) ∧
    (∃ (s : State) (l : LeafId) (rx : Rx) (g : Nat) (c : DigestId),
      NewUnit (s.leaf l) rx ∧
      (s.leaf l).tie.wantSet = some (g, c) ∧
      (s.leaf l).tie.setData = []) ∧
    (∃ (s : State) (l : LeafId) (rx : Rx) (f : Nat),
      NewUnit (s.leaf l) rx ∧
      (s.leaf l).role = .align ∧
      (s.leaf l).running.mirMin ≤ f ∧
      f ≤ (s.leaf l).running.mirMax) ∧
    (∃ (s : State) (l : LeafId) (rx : Rx) (f : Nat),
      NewUnit (s.leaf l) rx ∧
      (s.leaf l).role = .align ∧
      (s.leaf l).tie.restartTry = 0 ∧
      (f < (s.leaf l).running.mirMin ∨ (s.leaf l).running.mirMax < f)) ∧
    (∃ (s : State) (l : LeafId) (rx : Rx),
      NewUnit (s.leaf l) rx) ∧
    (∃ (s : State) (l : LeafId),
      (s.leaf l).computing = true ∧
      1600 ≤ since (s.leaf l).count (s.leaf l).tie.healthAt) ∧
    (∃ (s : State) (l : LeafId),
      (s.leaf l).computing = false) :=
  ⟨⟨⟨0, false, 1, 0⟩,
    by decide +kernel⟩,
  ⟨W .ready [] [], .leaf0, ⟨0, true, 1, 0⟩,
    ⟨by decide +kernel, rfl, fun q hq => by cases hq⟩⟩,
  ⟨W .ready [] [], .leaf0, ⟨0, true, 1, 0⟩,
    ⟨by decide +kernel, rfl, fun q hq => by cases hq⟩⟩,
  ⟨W .ready [] [], .leaf0, ⟨0, true, 1, 0⟩,
    ⟨by decide +kernel, rfl, fun q hq => by cases hq⟩⟩,
  ⟨W .ready [fun L => { L with role := .lead }] [], .leaf0, ⟨0, true, 1, 0⟩,
    ⟨⟨by decide +kernel, rfl, fun q hq => by cases hq⟩, by decide +kernel⟩⟩,
  ⟨W .ready [fun L => { L with role := .follow }] [], .leaf0, ⟨0, true, 1, 0⟩, ⟨0, 0⟩,
    ⟨⟨by decide +kernel, rfl, fun q hq => by cases hq⟩, by decide +kernel⟩⟩,
  ⟨W .ready [fun L => { L with role := .lead }, fun L => { L with tie := { L.tie with unacked := [(⟨0x14, 0, 0, []⟩ : Unacked)] } }] [], .leaf0, 0, ⟨0x14, 0, 0, []⟩,
    by decide +kernel⟩,
  ⟨W .ready [fun L => { L with tie := { L.tie with unacked := [] } }] [], .leaf0,
    by decide +kernel⟩,
  ⟨W .ready [fun L => { L with role := .align }] [], .leaf0, ⟨0, true, 1, 0⟩,
    ⟨⟨by decide +kernel, rfl, fun q hq => by cases hq⟩, by decide +kernel⟩⟩,
  ⟨W .ready [fun L => { L with role := .align }, fun L => { L with upd := { L.upd with source := none } }] [], .leaf0, ⟨0, true, 1, 0⟩, 3,
    ⟨⟨by decide +kernel, rfl, fun q hq => by cases hq⟩, by decide +kernel⟩⟩,
  ⟨W .ready [] [], .leaf0, ⟨0, true, 1, 0⟩, big + 1,
    ⟨⟨by decide +kernel, rfl, fun q hq => by cases hq⟩, by decide +kernel⟩⟩,
  ⟨W .ready [] [], .leaf0, ⟨0, true, 1, 0⟩,
    ⟨by decide +kernel, rfl, fun q hq => by cases hq⟩⟩,
  ⟨W .ready [] [], .leaf0, ⟨0, true, 1, 0⟩,
    ⟨by decide +kernel, rfl, fun q hq => by cases hq⟩⟩,
  ⟨W .ready [fun L => { L with role := .follow }] [fun s => s.setLeaf .leaf1 (List.foldl (fun L f => f L) s.leaf1 [fun L => { L with role := .lead }])], .leaf0, ⟨0, true, 1, 0⟩,
    ⟨⟨by decide +kernel, rfl, fun q hq => by cases hq⟩, by decide +kernel⟩⟩,
  ⟨W .ready [] [], .leaf0, ⟨0, true, 1, 0⟩,
    ⟨by decide +kernel, rfl, fun q hq => by cases hq⟩⟩,
  ⟨W .ready [] [], .leaf0, ⟨0, true, 1, 0⟩,
    ⟨by decide +kernel, rfl, fun q hq => by cases hq⟩⟩,
  ⟨W .ready [fun L => { L with tie := { L.tie with wantSet := some default } }] [], .leaf0, ⟨0, true, 1, 0⟩,
    ⟨⟨by decide +kernel, rfl, fun q hq => by cases hq⟩, by decide +kernel⟩⟩,
  ⟨W .ready [fun L => { L with tie := { L.tie with wantSet := some (0, (0 : DigestId)) } }, fun L => { L with tie := { L.tie with setData := [] } }] [], .leaf0, ⟨0, true, 1, 0⟩, 0, 0,
    ⟨⟨by decide +kernel, rfl, fun q hq => by cases hq⟩, by decide +kernel⟩⟩,
  ⟨W .ready [fun L => { L with role := .align }] [], .leaf0, ⟨0, true, 1, 0⟩, 0,
    ⟨⟨by decide +kernel, rfl, fun q hq => by cases hq⟩, by decide +kernel⟩⟩,
  ⟨W .ready [fun L => { L with role := .align }, fun L => { L with tie := { L.tie with restartTry := 0 } }] [], .leaf0, ⟨0, true, 1, 0⟩, 9,
    ⟨⟨by decide +kernel, rfl, fun q hq => by cases hq⟩, by decide +kernel⟩⟩,
  ⟨W .ready [] [], .leaf0, ⟨0, true, 1, 0⟩,
    ⟨by decide +kernel, rfl, fun q hq => by cases hq⟩⟩,
  ⟨W .ready [fun L => { L with role := .lead }] [], .leaf0,
    by decide +kernel⟩,
  ⟨W .ready [] [], .leaf0,
    by decide +kernel⟩⟩

theorem witness_service_requests :
    (∃ (s : State) (c : Instr) (l : LeafId) (d : Desc) (op : Nat) (L : Leaf) (h : Hdr) (k : SvcKind),
      plainService c = some (l, d, op) ∧
      Reads (s.leaf l) 2 op d L h ∧
      svcKindOf op d.bytes = .ok k) ∧
    (∃ (s : State) (l : LeafId) (d : Desc) (L : Leaf) (h : Hdr),
      Reads (s.leaf l) 2 0x84 d L h ∧
      L.role = .lead ∧
      (sl d.bytes 28 2 = 0 ∨ 24 < sl d.bytes 28 2)) ∧
    (∃ (s : State) (l : LeafId) (d : Desc) (L : Leaf) (h : Hdr),
      Reads (s.leaf l) 2 0x80 d L h ∧
      L.role = .lead ∧
      sl d.bytes 32 4 ≠ 0 ∧
      sl d.bytes 32 4 ≤ 65536) ∧
    (∃ (s : State) (l : LeafId) (d : Desc) (L : Leaf) (h : Hdr) (n : Nat),
      Reads (s.leaf l) 2 0x80 d L h ∧
      L.ldg.archive.any (fun r => lrRecno r == n) = true) ∧
    (∃ (s : State) (l : LeafId) (d : Desc) (L : Leaf) (h : Hdr),
      Reads (s.leaf l) 2 0x85 d L h ∧
      L.role = .lead) ∧
    (∃ (s : State) (l : LeafId) (r : SvcReq),
      (s.leaf l).his.gradeAt.isSome ∧
      (s.leaf l).get ASH_STAT_SHED = 0 ∧
      (s.leaf l).his.gradeReqs = [r]) ∧
    (∃ (s : State) (l : LeafId),
      (s.leaf l).his.gradeAt = none) ∧
    (∃ (s : State) (l : LeafId) (udp : Nat) (b : Slot) (k : SvcKind),
      (s.leaf l).on LDG_CTRL_NET_EN = true ∧
      udp = (s.leaf l).get LDG_CTRL_NET_PORT ∧
      (s.leaf l).carrying = true ∧
      svcKindOf (opcode b) b = .ok k ∧
      k ≠ .grade) ∧
    (∃ (s : State) (l : LeafId) (udp : Nat) (b : Slot),
      (s.leaf l).on LDG_CTRL_NET_EN = true ∧
      udp = (s.leaf l).get LDG_CTRL_NET_PORT ∧
      (s.leaf l).role = .follow ∧
      (s.leaf l).cut = false ∧
      opcode b = 0x85) ∧
    (∃ (s : State) (l : LeafId),
      (s.leaf l).on LDG_CTRL_NET_EN = false) ∧
    (∃ (L : Leaf) (r : SvcReq) (rest : List SvcReq), L.get ASH_STAT_SHED = 0 ∧ L.svc.queue = r :: rest ∧ r.net = none ∧
      L.ringOpen 9 = true ∧ queued L.hre.locQ 9 < 64) ∧
    (∃ (L : Leaf) (r : SvcReq) (rest : List SvcReq) (port mac ip : Nat), L.get ASH_STAT_SHED = 0 ∧ L.svc.queue = r :: rest ∧
      r.net = some (port, mac, ip) ∧ L.cut = false) ∧
    (∃ L : Leaf, L.get ASH_STAT_SHED ≠ 0) :=
  ⟨⟨W .ready [reader 2] [], .ledgerStatus .leaf0 (desc 2 0x81 []), .leaf0, desc 2 129 [], 0x81, seen (((W .ready [reader 2] [])).leaf .leaf0) 2 (desc 2 129 []), hdrOf (slotOf 2 129 []), .status,
    ⟨by decide +kernel, reads_of (by decide +kernel) (by decide +kernel) (by decide +kernel) (by decide +kernel), by rfl⟩⟩,
  ⟨W .ready [fun L => { L with role := .lead }, reader 2] [], .leaf0, desc 2 132 [], seen (((W .ready [fun L => { L with role := .lead }, reader 2] [])).leaf .leaf0) 2 (desc 2 132 []), hdrOf (slotOf 2 132 []),
    ⟨reads_of (by decide +kernel) (by decide +kernel) (by decide +kernel) (by decide +kernel), by decide +kernel⟩⟩,
  ⟨W .ready [fun L => { L with role := .lead }, reader 2] [], .leaf0, desc 2 128 [(32, 64)], seen (((W .ready [fun L => { L with role := .lead }, reader 2] [])).leaf .leaf0) 2 (desc 2 128 [(32, 64)]), hdrOf (slotOf 2 128 [(32, 64)]),
    ⟨reads_of (by decide +kernel) (by decide +kernel) (by decide +kernel) (by decide +kernel), by decide +kernel⟩⟩,
  ⟨W .ready [reader 2, fun L => { L with ldg := { L.ldg with archive := [⟨BitVec.ofNat 1536 (5 * 2 ^ 64), 0⟩] } }] [], .leaf0, desc 2 128 [(24, 5)], seen (((W .ready [reader 2, fun L => { L with ldg := { L.ldg with archive := [⟨BitVec.ofNat 1536 (5 * 2 ^ 64), 0⟩] } }] [])).leaf .leaf0) 2 (desc 2 128 [(24, 5)]), hdrOf (slotOf 2 128 [(24, 5)]), 5,
    ⟨reads_of (by decide +kernel) (by decide +kernel) (by decide +kernel) (by decide +kernel), by decide +kernel⟩⟩,
  ⟨W .ready [fun L => { L with role := .lead }, reader 2] [], .leaf0, desc 2 133 [], seen (((W .ready [fun L => { L with role := .lead }, reader 2] [])).leaf .leaf0) 2 (desc 2 133 []), hdrOf (slotOf 2 133 []),
    ⟨reads_of (by decide +kernel) (by decide +kernel) (by decide +kernel) (by decide +kernel), by decide +kernel⟩⟩,
  ⟨W .ready [fun L => { L with his := { L.his with gradeAt := some default } }, fun L => L.put ASH_STAT_SHED 0, fun L => { L with his := { L.his with gradeReqs := [(⟨⟨0, false, 0, 0, 0, 0⟩, 0, .status, 0, none⟩ : SvcReq)] } }, fun L => { L with his := { L.his with gradeAt := some 0 } }] [], .leaf0, ⟨⟨0, false, 0, 0, 0, 0⟩, 0, .status, 0, none⟩,
    by decide +kernel⟩,
  ⟨W .ready [fun L => { L with his := { L.his with gradeAt := none } }] [], .leaf0,
    by decide +kernel⟩,
  ⟨W .ready [fun L => { L with role := .lead }, fun L => L.put LDG_CTRL_NET_EN 1, fun L => { L with role := .lead }, fun L => L.put LDG_CTRL_NET_PORT 7] [], .leaf0, 7, slotOf 2 0x81 [], .status,
    ⟨by decide +kernel, by decide +kernel, by decide +kernel, by rfl, by decide +kernel⟩⟩,
  ⟨W .ready [fun L => L.put LDG_CTRL_NET_EN 1, fun L => { L with role := .follow }, fun L => { L with role := .follow }, fun L => L.put LDG_CTRL_NET_PORT 7] [], .leaf0, 7, slotOf 2 0x85 [],
    by decide +kernel⟩,
  ⟨W .ready [] [], .leaf0,
    by decide +kernel⟩,
  ⟨{ ((Leaf.reset .leaf0).put HRE_ORCFG_EN 1 9).put HRE_STAT_RUNNING 1 with svc := { queue := [⟨⟨2, false, 0, 0, 0, 0⟩, 0x81, .status, 3, none⟩] } },
    ⟨⟨2, false, 0, 0, 0, 0⟩, 0x81, .status, 3, none⟩, [], by decide +kernel⟩,
  ⟨{ Leaf.reset .leaf0 with svc := { queue := [⟨⟨2, false, 0, 0, 0, 0⟩, 0x81, .status, 0, some (1, 2, 3)⟩] } },
    ⟨⟨2, false, 0, 0, 0, 0⟩, 0x81, .status, 0, some (1, 2, 3)⟩, [], 1, 2, 3, by decide +kernel⟩,
  ⟨(Leaf.reset .leaf0).put ASH_STAT_SHED 1, by decide +kernel⟩⟩

theorem witness_ledger_and_history :
    (∃ (s : State) (l : LeafId),
      (s.leaf l).role = .lead ∧
      (s.leaf l).count.toNat % 9600000 = 0 ∧
      (s.leaf l).ldg.minuteAt ≠ some (s.leaf l).count ∧
      64 ≤ (s.leaf l).get LDG_STAT_FREE ∧
      (s.leaf l).get LDG_HEAD_RECNO + 1 < 2 ^ 64) ∧
    (∃ (s : State) (l : LeafId),
      (s.leaf l).role = .lead ∧
      (s.leaf l).count.toNat % 9600000 = 0 ∧
      (s.leaf l).count.toNat % 576000000 ≠ 0 ∧
      (s.leaf l).ldg.minuteAt ≠ some (s.leaf l).count ∧
      (s.leaf l).get LDG_STAT_FREE ≠ 0 ∧
      (s.leaf l).get LDG_STAT_FREE < 64) ∧
    (∃ (s : State) (l : LeafId),
      (s.leaf l).role ≠ .lead) ∧
    (∃ (s : State) (l : LeafId) (r : LStored),
      (s.leaf l).ldg.ring.find? (·.pending) = some r ∧
      (s.leaf l).get ASH_STAT_SHED = 0 ∧
      (s.leaf l).role = .lead) ∧
    (∃ (s : State) (l : LeafId) (r : LStored),
      (s.leaf l).ldg.ring.find? (·.pending) = some r ∧
      (s.leaf l).get ASH_STAT_SHED = 0 ∧
      (s.leaf l).role = .lead) ∧
    (∃ (s : State) (l : LeafId),
      (s.leaf l).get ASH_STAT_SHED ≠ 0) ∧
    (∃ (s : State) (l : LeafId),
      1600 ≤ since (s.leaf l).count (s.leaf l).ldg.carryAt) ∧
    (∃ (s : State) (l : LeafId) (r : LStored) (rest : List LStored),
      (s.leaf l).ldg.ring = r :: rest ∧
      r.pending = false ∧
      (s.leaf l).get LDG_STAT_FREE < 65535) ∧
    (∃ (s : State) (l : LeafId) (r : LStored) (rest : List LStored),
      (s.leaf l).ldg.ring = r :: rest ∧
      r.pending = true) ∧
    (∃ (s : State) (l : LeafId),
      (s.leaf l).count.toNat % 576000000 = 0 ∧
      (s.leaf l).his.closedAt ≠ some (s.leaf l).count) ∧
    (∃ (s : State) (l : LeafId),
      (s.leaf l).count.toNat % 576000000 ≠ 0) ∧
    (∃ (s : State) (l : LeafId) (q : Fin 8) (i : Fin 1024) (v : Int) (c : Course),
      kvFind (s.leaf l).his.bms (1024 * q + i) = some (v, c) ∧
      16000 * (s.leaf l).get HIS_CTRL_MAP_TO ≤ since (s.leaf l).count c ∧
      (s.leaf l).his.stale.contains (1024 * q + i) = false) ∧
    (∃ (s : State) (l : LeafId) (q : Fin 8) (i : Fin 1024),
      kvFind (s.leaf l).his.bms (1024 * q + i) = none) ∧
    (∃ (s : State) (l : LeafId) (c : Course) (iPre : Rat) (vPre : Rat) (ok : Bool),
      (s.leaf l).his.step = some (c, iPre, vPre, ok) ∧
      1600 ≤ since (s.leaf l).count c) ∧
    (∃ (s : State) (l : LeafId),
      (s.leaf l).his.step = none) :=
  ⟨⟨W .ready [fun L => { L with role := .lead }] [], .leaf0,
    by decide +kernel⟩,
  ⟨W .ready [fun L => { L with role := .lead }, fun L => L.put LDG_STAT_FREE 1, fun L => { L with count := 9600000 }] [], .leaf0,
    by decide +kernel⟩,
  ⟨W .ready [] [], .leaf0,
    by decide +kernel⟩,
  ⟨W .ready [fun L => L.put ASH_STAT_SHED 0, fun L => { L with role := .lead }, fun L => { L with role := .lead }, fun L => { L with ldg := { L.ldg with ring := [⟨⟨0, 0⟩, true, false⟩] } }] [], .leaf0, ⟨⟨0, 0⟩, true, false⟩,
    by decide +kernel⟩,
  ⟨W .ready [fun L => L.put ASH_STAT_SHED 0, fun L => { L with role := .lead }, fun L => { L with role := .lead }, fun L => { L with ldg := { L.ldg with ring := [⟨⟨0, 0⟩, true, false⟩] } }] [], .leaf0, ⟨⟨0, 0⟩, true, false⟩,
    by decide +kernel⟩,
  ⟨W .ready [fun L => L.put ASH_STAT_SHED 1] [], .leaf0,
    by decide +kernel⟩,
  ⟨W .ready [] [], .leaf0,
    by decide +kernel⟩,
  ⟨W .ready [fun L => { L with ldg := { L.ldg with ring := (default : LStored) :: ([] : List LStored) } }] [], .leaf0, default, [],
    by decide +kernel⟩,
  ⟨W .ready [fun L => { L with ldg := { L.ldg with ring := (⟨⟨0, 0⟩, true, false⟩ : LStored) :: ([] : List LStored) } }, fun L => { L with ldg := { L.ldg with ring := [⟨⟨0, 0⟩, true, false⟩] } }] [], .leaf0, ⟨⟨0, 0⟩, true, false⟩, [],
    by decide +kernel⟩,
  ⟨W .ready [] [], .leaf0,
    by decide +kernel⟩,
  ⟨W .ready [fun L => { L with count := 9600000 }] [], .leaf0,
    by decide +kernel⟩,
  ⟨W .ready [fun L => { L with his := { L.his with bms := [(0, (5, 0))] } }] [], .leaf0, 0, 0, 5, 0,
    by decide +kernel⟩,
  ⟨W .ready [] [], .leaf0, 0, 0,
    by decide +kernel⟩,
  ⟨W .ready [fun L => { L with his := { L.his with step := some ((0 : Course), (0 : Rat), (0 : Rat), (false : Bool)) } }] [], .leaf0, 0, 0, 0, false,
    by decide +kernel⟩,
  ⟨W .ready [fun L => { L with his := { L.his with step := none } }] [], .leaf0,
    by decide +kernel⟩⟩

theorem witness_images_and_generations :
    (∃ (s : State) (l : LeafId) (d : Desc) (x : BitVec 2560) (L : Leaf) (h : Hdr),
      Reads (s.leaf l) 9 0x90 d L h ∧
      (sl d.bytes 17 1 = 1 ∨ (sl d.bytes 17 1 = 2 ∧ h.target = 0 ∧ (hfOld x = false ∨ L.upd.source = none))) ∧
      sl d.bytes 32 4 = 320 ∧
      bufferOk (sl d.bytes 24 8) 320 4096 = true ∧
      L.upd.stream = none ∧
      s.updOpen = false) ∧
    (∃ (s : State) (l : LeafId) (d : Desc) (L : Leaf) (h : Hdr),
      Reads (s.leaf l) 9 0x90 d L h ∧
      sl d.bytes 17 1 ≠ 1 ∧
      sl d.bytes 17 1 ≠ 2) ∧
    (∃ (s : State) (l : LeafId) (d : Desc) (L : Leaf) (h : Hdr) (st : Stream),
      Reads (s.leaf l) 9 0x91 d L h ∧
      bufferOk (sl d.bytes 24 8) (sl d.bytes 32 4) 4096 = true ∧
      L.upd.stream = some st ∧
      st.closedAt = none) ∧
    (∃ (s : State) (l : LeafId) (d : Desc) (L : Leaf) (h : Hdr) (st : Stream),
      Reads (s.leaf l) 9 0x92 d L h ∧
      L.upd.stream = some st ∧
      st.closedAt = none) ∧
    (∃ (s : State) (l : LeafId) (d : Desc) (L : Leaf) (h : Hdr),
      Reads (s.leaf l) 9 0x93 d L h ∧
      L.upd.stream.isSome) ∧
    (∃ (s : State) (l : LeafId) (st : Stream) (a : Bool) (b : Bool) (p : Bool) (k : Nat),
      (s.leaf l).upd.stream = some st ∧
      st.closedAt.isSome ∧
      (s.leaf l).failedCheck s.variantEv st.header a b p = some k) ∧
    (∃ (s : State) (l : LeafId) (st : Stream) (a : Bool) (b : Bool) (p : Bool),
      (s.leaf l).upd.stream = some st ∧
      st.closedAt.isSome ∧
      (s.leaf l).failedCheck s.variantEv st.header a b p = none) ∧
    (∃ (s : State) (l : LeafId),
      (s.leaf l).upd.stream = none) ∧
    (∃ (s : State) (l : LeafId) (w : Word),
      (s.takeModule UPD_CMD.base 63 [62, 61, 60]).1 = some w ∧
      w.getLsbD 59 = decide (l = .leaf1) ∧
      s.leadId ≠ some l) ∧
    (∃ (s : State),
      (s.takeModule UPD_CMD.base 63 [62, 61, 60]).1 = none) ∧
    (∃ (s : State),
      (s.takeModule UPD_CMD.base 62 [63, 61, 60]).1.isSome) ∧
    (∃ (s : State) (g : LeafId → Settings),
      (s.takeModule UPD_CMD.base 61 [63, 62, 60]).1.isSome ∧
      (∀ l, (s.leaf l).upd.genUnconf = true ∧ (s.leaf l).upd.previous = some (g l) ∧ (s.leaf l).upd.trial = false)) ∧
    (∃ (s : State) (g : LeafId → Settings),
      (s.takeModule UPD_CMD.base 60 [63, 62, 61]).1.isSome ∧
      (∀ l, (s.leaf l).upd.staged = some (g l))) ∧
    (∃ (s : State),
      (s.takeModule UPD_CMD.base 60 [63, 62, 61]).1 = none) ∧
    (∃ (s : State) (l : LeafId) (c : Course),
      (s.leaf l).upd.mixedAt = some c ∧
      160000 * (s.leaf l).get UPD_CTRL_MIX_WARN < since (s.leaf l).count c ∧
      (s.leaf l).upd.mixEventAt = none) ∧
    (∃ (s : State) (l : LeafId),
      (s.leaf l).upd.mixedAt = none) ∧
    (∃ (s : State) (who : Ident),
      s.mode = .workshop ∧
      s.sec.who ≠ 0 ∧
      s.sec.who = who ∧
      s.sec.rights.getLsbD 3 = true) ∧
    (∃ (s : State),
      (s.mode ≠ .workshop ∨ s.sec.rights.getLsbD 3 = false)) :=
  ⟨⟨W .ready [fun L => { L with upd := { L.upd with stream := none } }, reader 9] [], .leaf0, desc 9 144 [(17, 1), (24, 4096), (32, 320)], 0, seen (((W .ready [fun L => { L with upd := { L.upd with stream := none } }, reader 9] [])).leaf .leaf0) 9 (desc 9 144 [(17, 1), (24, 4096), (32, 320)]), hdrOf (slotOf 9 144 [(17, 1), (24, 4096), (32, 320)]),
    ⟨reads_of (by decide +kernel) (by decide +kernel) (by decide +kernel) (by decide +kernel), by decide +kernel⟩⟩,
  ⟨W .ready [reader 9] [], .leaf0, desc 9 144 [(17, 3)], seen (((W .ready [reader 9] [])).leaf .leaf0) 9 (desc 9 144 [(17, 3)]), hdrOf (slotOf 9 144 [(17, 3)]),
    ⟨reads_of (by decide +kernel) (by decide +kernel) (by decide +kernel) (by decide +kernel), by decide +kernel⟩⟩,
  ⟨W .ready [fun L => { L with upd := { L.upd with stream := some (⟨0, 1, 0, none⟩ : Stream) } }, reader 9, fun L => { L with upd := { L.upd with stream := some ⟨0, 1, 0, none⟩ } }] [], .leaf0, desc 9 145 [(24, 4096), (32, 64)], seen (((W .ready [fun L => { L with upd := { L.upd with stream := some (⟨0, 1, 0, none⟩ : Stream) } }, reader 9, fun L => { L with upd := { L.upd with stream := some ⟨0, 1, 0, none⟩ } }] [])).leaf .leaf0) 9 (desc 9 145 [(24, 4096), (32, 64)]), hdrOf (slotOf 9 145 [(24, 4096), (32, 64)]), ⟨0, 1, 0, none⟩,
    ⟨reads_of (by decide +kernel) (by decide +kernel) (by decide +kernel) (by decide +kernel), by decide +kernel⟩⟩,
  ⟨W .ready [fun L => { L with upd := { L.upd with stream := some (⟨0, 1, 0, none⟩ : Stream) } }, reader 9, fun L => { L with upd := { L.upd with stream := some ⟨0, 1, 0, none⟩ } }] [], .leaf0, desc 9 146 [], seen (((W .ready [fun L => { L with upd := { L.upd with stream := some (⟨0, 1, 0, none⟩ : Stream) } }, reader 9, fun L => { L with upd := { L.upd with stream := some ⟨0, 1, 0, none⟩ } }] [])).leaf .leaf0) 9 (desc 9 146 []), hdrOf (slotOf 9 146 []), ⟨0, 1, 0, none⟩,
    ⟨reads_of (by decide +kernel) (by decide +kernel) (by decide +kernel) (by decide +kernel), by decide +kernel⟩⟩,
  ⟨W .ready [fun L => { L with upd := { L.upd with stream := some default } }, reader 9, fun L => { L with upd := { L.upd with stream := some ⟨0, 1, 0, none⟩ } }] [], .leaf0, desc 9 147 [], seen (((W .ready [fun L => { L with upd := { L.upd with stream := some default } }, reader 9, fun L => { L with upd := { L.upd with stream := some ⟨0, 1, 0, none⟩ } }] [])).leaf .leaf0) 9 (desc 9 147 []), hdrOf (slotOf 9 147 []),
    ⟨reads_of (by decide +kernel) (by decide +kernel) (by decide +kernel) (by decide +kernel), by decide +kernel⟩⟩,
  ⟨W .ready [fun L => { L with upd := { L.upd with stream := some (⟨0, 1, 0, some 0⟩ : Stream) } }, fun L => { L with upd := { L.upd with stream := some ⟨0, 1, 0, some 0⟩ } }] [], .leaf0, ⟨0, 1, 0, some 0⟩, false, false, false, 0,
    by decide +kernel⟩,
  ⟨W .ready [fun L => { L with upd := { L.upd with stream := some (goodStream : Stream) } }, fun L => { L with upd := { L.upd with stream := some goodStream } }] [], .leaf0, goodStream, true, true, true,
    by decide +kernel⟩,
  ⟨W .ready [fun L => { L with upd := { L.upd with stream := none } }] [], .leaf0,
    by decide +kernel⟩,
  ⟨W .ready [fun L => { L with crs := { L.crs with cmds := cmd UPD_CMD.base 63 } }] [], .leaf0, BitVec.ofNat 64 (2 ^ 63),
    by decide +kernel⟩,
  ⟨W .ready [] [],
    by decide +kernel⟩,
  ⟨W .ready [fun L => { L with crs := { L.crs with cmds := cmd UPD_CMD.base 62 } }] [],
    by decide +kernel⟩,
  ⟨W .ready [fun L => { L with upd := { L.upd with genUnconf := true, previous := some {}, staged := some {} } }, fun L => { L with crs := { L.crs with cmds := cmd UPD_CMD.base 61 } }] [fun s => s.setLeaf .leaf1 (List.foldl (fun L f => f L) s.leaf1 [fun L => { L with upd := { L.upd with genUnconf := true, previous := some {}, staged := some {} } }])], fun _ => {},
    ⟨by decide +kernel, fun l => by cases l <;> decide +kernel⟩⟩,
  ⟨W .ready [fun L => { L with upd := { L.upd with genUnconf := true, previous := some {}, staged := some {} } }, fun L => { L with crs := { L.crs with cmds := cmd UPD_CMD.base 60 } }] [fun s => s.setLeaf .leaf1 (List.foldl (fun L f => f L) s.leaf1 [fun L => { L with upd := { L.upd with genUnconf := true, previous := some {}, staged := some {} } }])], fun _ => {},
    ⟨by decide +kernel, fun l => by cases l <;> decide +kernel⟩⟩,
  ⟨W .ready [] [],
    by decide +kernel⟩,
  ⟨W .ready [fun L => { L with upd := { L.upd with mixedAt := some (0 : Course) } }, fun L => { L with upd := { L.upd with mixEventAt := none } }] [], .leaf0, 0,
    by decide +kernel⟩,
  ⟨W .ready [fun L => { L with upd := { L.upd with mixedAt := none } }] [], .leaf0,
    by decide +kernel⟩,
  ⟨W .workshop [] [fun s => { s with sec := { s.sec with who := 5, rights := 8 } }], 5,
    by decide +kernel⟩,
  ⟨W .ready [] [],
    by decide +kernel⟩⟩

theorem witness_self_test_and_service_port :
    (∃ (s : State) (l : LeafId) (a : Bool) (b : Bool),
      (s.leaf l).computing = true ∧
      (s.leaf l).get BST_CTRL_MEM_GAP + 160 ≤ since (s.leaf l).count (s.leaf l).bst.stepEnd ∧
      (a = true ∨ b = true)) ∧
    (∃ (s : State) (l : LeafId),
      (s.leaf l).computing = true ∧
      (s.leaf l).get BST_CTRL_MEM_GAP + 160 ≤ since (s.leaf l).count (s.leaf l).bst.stepEnd ∧
      (s.leaf l).bst.badSegs.contains ((s.leaf l).get BST_MEM_SEG) = false ∧
      pick (s.leaf l).bst.spares (segMemory ((s.leaf l).get BST_MEM_SEG)) < 2) ∧
    (∃ (s : State) (l : LeafId),
      (s.leaf l).computing = false) ∧
    (∃ (s : State) (l : LeafId),
      (s.leaf l).computing = true) ∧
    (∃ (s : State) (l : LeafId),
      (s.leaf l).computing = true) ∧
    (∃ (s : State) (l : LeafId),
      s.setup = true ∧
      s.refuseFull l = false ∧
      s.leadId ≠ some l) ∧
    (∃ (s : State) (l : LeafId),
      s.setup = true ∧
      s.refuseFull l = true) ∧
    (∃ (s : State) (l : LeafId) (c : Course),
      (s.leaf l).role = .restart ∧
      (s.leaf l).bst.fullAt = some c ∧
      33600 ≤ since (s.leaf l).count c) ∧
    (∃ (s : State) (l : LeafId),
      (s.leaf l).bst.fullAt = none) ∧
    (∃ (s : State),
      s.mayDiag = false) ∧
    (∃ (s : State) (l : LeafId),
      s.mayDiag = true ∧
      (s.leaf l).bst.injected = []) ∧
    (∃ (s : State),
      (s.variantEv = true ∨ (s.mode = .workshop ∧ s.right 2 = true))) ∧
    (∃ (s : State),
      s.awake = true ∧
      s.sec.who = 0) ∧
    (∃ (s : State) (a : AuthRx) (n : BitVec 256) (c : Course),
      s.awake = true ∧
      s.sec.who = 0 ∧
      s.sec.lockAt = none ∧
      s.sec.nonce = some (n, c) ∧
      since s.leaf0.count c < 9600000 ∧
      a.chainOk = true ∧
      a.sigOk = true ∧
      s.authorityOk a = true) ∧
    (∃ (s : State) (a : AuthRx),
      s.awake = true ∧
      s.sec.who = 0 ∧
      s.sec.lockAt = none ∧
      a.sigOk = false) ∧
    (∃ (s : State),
      s.sec.lockAt.isSome) ∧
    (∃ (s : State) (c : Course),
      s.sec.lockAt = some c ∧
      s.sec.lockLen ≤ since s.leaf0.count c) ∧
    (∃ (s : State),
      s.sec.lockAt = none) ∧
    (∃ (s : State) (k : Fin 3),
      s.sec.who ≠ 0 ∧
      (k.val ≠ 2 ∨ s.leaf0.get SEC_CTRL_IDLE_T * 160000 ≤ since s.leaf0.count s.sec.accessAt)) ∧
    (∃ (s : State),
      s.sec.who = 0) ∧
    (∃ (s : State) (l : LeafId),
      s.mayDebug = true ∧
      s.mode = .carry ∧
      (s.leaf l).computing = true ∧
      (s.leaf l).cut = false) ∧
    (∃ (s : State),
      s.mayDebug = false) ∧
    (∃ (s : State) (l : LeafId),
      (s.leaf l).bst.halted = true) ∧
    (∃ (s : State),
      s.mode = .workshop ∧
      s.right 4 = true ∧
      s.leaf0.stagesOff = true ∧
      s.leaf1.stagesOff = true) ∧
    (∃ (s : State),
      s.sec.scan = true) ∧
    (∃ (s : State),
      s.sec.who = 7 ∧
      s.sec.rights.getLsbD 5 = true) ∧
    (∃ (s : State),
      s.sec.who = 7 ∧
      s.sec.rights.getLsbD 5 = true) ∧
    (∃ (s : State),
      s.sec.who ≠ 7) :=
  ⟨⟨W .ready [fun L => { L with role := .lead }] [], .leaf0, true, false,
    by decide +kernel⟩,
  ⟨W .ready [fun L => { L with role := .lead }] [], .leaf0,
    by decide +kernel⟩,
  ⟨W .ready [] [], .leaf0,
    by decide +kernel⟩,
  ⟨W .ready [fun L => { L with role := .lead }] [], .leaf0,
    by decide +kernel⟩,
  ⟨W .ready [fun L => { L with role := .lead }] [], .leaf0,
    by decide +kernel⟩,
  ⟨W .ready [] [], .leaf0,
    by decide +kernel⟩,
  ⟨W .ready [fun L => { L with upd := { L.upd with newStart := true } }] [], .leaf0,
    by decide +kernel⟩,
  ⟨W .ready [fun L => { L with role := .restart }, fun L => { L with bst := { L.bst with fullAt := some (0 : Course) } }] [], .leaf0, 0,
    by decide +kernel⟩,
  ⟨W .ready [fun L => { L with bst := { L.bst with fullAt := none } }] [], .leaf0,
    by decide +kernel⟩,
  ⟨W .ready [] [],
    by decide +kernel⟩,
  ⟨W .ready [fun L => { L with bst := { L.bst with injected := [] } }] [fun s => { s with sec := { s.sec with who := 5, rights := 4 } }], .leaf0,
    by decide +kernel⟩,
  ⟨W .ready [] [fun s => { s with variantEv := true }],
    by decide +kernel⟩,
  ⟨W .ready [] [],
    by decide +kernel⟩,
  ⟨W .ready [] [fun s => { s with sec := { s.sec with lockAt := none } }, fun s => { s with sec := { s.sec with nonce := some ((0 : BitVec 256), (at_ 5 : Course)) } }, fun s => { s with sec := { s.sec with nonce := some (0, at_ 5) } }], ⟨5, 1, true, true, 0, 1⟩, 0, at_ 5,
    by decide +kernel⟩,
  ⟨W .ready [] [fun s => { s with sec := { s.sec with lockAt := none } }], ⟨5, 1, true, false, 0, 1⟩,
    by decide +kernel⟩,
  ⟨W .ready [] [fun s => { s with sec := { s.sec with lockAt := some 0 } }],
    by decide +kernel⟩,
  ⟨W .ready [] [fun s => { s with sec := { s.sec with lockAt := some (0 : Course) } }], 0,
    by decide +kernel⟩,
  ⟨W .ready [] [fun s => { s with sec := { s.sec with lockAt := none } }],
    by decide +kernel⟩,
  ⟨W .ready [] [fun s => { s with sec := { s.sec with who := 5, rights := 1 } }], 0,
    by decide +kernel⟩,
  ⟨W .ready [] [],
    by decide +kernel⟩,
  ⟨W .carry [fun L => { L with role := .lead }] [fun s => { s with variantEv := true }], .leaf0,
    by decide +kernel⟩,
  ⟨W .ready [] [],
    by decide +kernel⟩,
  ⟨W .ready [fun L => { L with bst := { L.bst with halted := true } }] [], .leaf0,
    by decide +kernel⟩,
  ⟨W .workshop [] [fun s => { s with sec := { s.sec with who := 5, rights := 16 } }],
    by decide +kernel⟩,
  ⟨W .ready [] [fun s => { s with sec := { s.sec with scan := true } }],
    by decide +kernel⟩,
  ⟨W .ready [] [fun s => { s with sec := { s.sec with who := 7, rights := 32 } }],
    by decide +kernel⟩,
  ⟨W .ready [] [fun s => { s with sec := { s.sec with who := 7, rights := 32 } }],
    by decide +kernel⟩,
  ⟨W .ready [] [],
    by decide +kernel⟩⟩

theorem witness_leaves_share_no_state :
    ∃ (c : Instr) (l : LeafId),
      ownLeaf c = some l :=
  ⟨.fillDeadline .leaf0, .leaf0,
    by decide +kernel⟩

theorem witness_seal_advances_the_course :
    (∃ (s : State),
      s.awake = true) ∧
    (∃ (s : State),
      s.awake = false) :=
  ⟨⟨W .ready [] [],
    by decide +kernel⟩,
  ⟨W .off [] [],
    by decide +kernel⟩⟩

theorem witness_seal_of_a_waiting_leaf :
    (∃ (s : State),
      s.awake = true ∧
      s.mode = .boot) ∧
    (∃ (s : State) (l : LeafId),
      s.awake = true ∧
      s.mode ≠ .boot ∧
      ((s.leaf l).role = .restart ∨ (s.leaf l).role = .out) ∧
      (s.leaf l).crs.roleAt = none) :=
  ⟨⟨W .boot [] [],
    by decide +kernel⟩,
  ⟨W .ready [fun L => { L with crs := { L.crs with roleAt := none } }, fun L => { L with role := .out }] [], .leaf0,
    by decide +kernel⟩⟩

theorem witness_compensator_output_limits :
    ∃ (L : Leaf) (b : Nat) (i : Nat) (t : CoefTable),
      pick (L.inst b i).bank (L.inst b i).active = some t :=
  ⟨{ Leaf.reset .leaf0 with cmp := { (Leaf.reset .leaf0).cmp with inst := [(0, { bank := #v[some 0, none, none, none] })] } }, 0, 0, 0,
    by decide +kernel⟩

theorem witness_second_silence_is_lasting :
    (∃ (s : State) (l : LeafId) (cause : Fin 6) (c : Course),
      cause.val ≠ 0 ∧
      (s.leaf l).computing = true ∧
      (s.leaf l).cut = false ∧
      (s.leaf l).tie.silenceRestart = true ∧
      (s.leaf l).tie.followAt = some c ∧
      since (s.leaf l).count c < 9600000) ∧
    (∃ (s : State) (l : LeafId) (c : Course),
      (s.leaf l).crs.roleAt = some (c, .out) ∧
      isAfter (s.leaf l).count.toNat c.toNat 48 = false) ∧
    (∃ (s : State) (l : LeafId) (cause : Fin 6),
      cause.val ≠ 0 ∧
      (s.leaf l).computing = true ∧
      (s.leaf l).cut = false ∧
      ((s.leaf l).tie.silenceRestart = false ∨ (∀ c, (s.leaf l).tie.followAt = some c → 9600000 ≤ since (s.leaf l).count c))) ∧
    (∃ (s : State) (l : LeafId) (c : Course),
      (s.leaf l).carrying = true ∧
      (s.leaf l).tie.silenceRestart = true ∧
      (s.leaf l).tie.followAt = some c) :=
  ⟨⟨W .ready [fun L => { L with role := .lead }, fun L => { L with tie := { L.tie with silenceRestart := true } }, fun L => { L with tie := { L.tie with followAt := some (at_ 5 : Course) } }] [], .leaf0, 1, at_ 5,
    by decide +kernel⟩,
  ⟨W .ready [fun L => { L with crs := { L.crs with roleAt := some ((0 : Course), .out) } }] [], .leaf0, 0,
    by decide +kernel⟩,
  ⟨W .ready [fun L => { L with role := .lead }] [], .leaf0, 1,
    ⟨by decide +kernel, by decide +kernel, by decide +kernel, Or.inl (by decide +kernel)⟩⟩,
  ⟨W .ready [fun L => { L with role := .lead }, fun L => { L with tie := { L.tie with silenceRestart := true } }, fun L => { L with tie := { L.tie with followAt := some (0 : Course) } }] [], .leaf0, 0,
    by decide +kernel⟩⟩

end Sys2Proof.Tests
end

section
/-! The frames of a command: that it completes, that it changes one leaf alone, and that it leaves the queue and what is
fixed of the part. Each operation on the state has its rule here, so that a command's frame is read off its meaning. -/

namespace Sys2Proof.Machine

open Sys2Proof

/-- A meaning completes, in a state as `P` says: `Completes c s P` is `Ends (exec c s) P`. -/
def Ends (o : Done) (P : State → Prop) : Prop := ∃ t, o = .next t ∧ P t

namespace Ends

variable {P Q : State → Prop} {s t : State} {l : LeafId}

theorem next (h : P t) : Ends (.next t) P := ⟨t, rfl, h⟩

theorem guarded {c : Bool} (hs : P s) (ht : P t) : Ends (guarded s c t) P := by
  cases c with
  | false => exact ⟨s, rfl, hs⟩
  | true => exact ⟨t, rfl, ht⟩

theorem onLeaf {f : Leaf → Leaf} (h : P (s.on l f)) : Ends (onLeaf s l f) P := ⟨_, rfl, h⟩

theorem ite {c : Prop} [Decidable c] {a b : Done} (ha : Ends a P) (hb : Ends b P) : Ends (if c then a else b) P := by
  split
  · exact ha
  · exact hb

theorem imp {o : Done} (h : Ends o P) (hPQ : ∀ t, P t → Q t) : Ends o Q := by
  obtain ⟨t, ho, ht⟩ := h
  exact ⟨t, ho, hPQ t ht⟩

end Ends

namespace OnlyLeaf

variable {l : LeafId} {s : State}

theorem rfl : OnlyLeaf l s s := (s.setLeaf_leaf l).symm

theorem setLeaf {L : Leaf} : OnlyLeaf l s (s.setLeaf l L) := by
  unfold OnlyLeaf
  rw [State.leaf_setLeaf]

theorem on {f : Leaf → Leaf} : OnlyLeaf l s (s.on l f) := setLeaf

theorem ite {c : Prop} [Decidable c] {t u : State} (ht : OnlyLeaf l s t) (hu : OnlyLeaf l s u) :
    OnlyLeaf l s (if c then t else u) := by
  split
  · exact ht
  · exact hu

end OnlyLeaf

/-- The queue of `s` and what is fixed of it stand in `t` as well. -/
def QueueFrame (s t : State) : Prop := t.pending = s.pending ∧ t.fixed = s.fixed

namespace QueueFrame

theorem rfl {s : State} : QueueFrame s s := ⟨Eq.refl _, Eq.refl _⟩

theorem trans {s t u : State} (h : QueueFrame s t) (h' : QueueFrame t u) : QueueFrame s u :=
  ⟨h'.1.trans h.1, h'.2.trans h.2⟩

theorem foldl {s t : State} {α : Type} {f : State → α → State} {xs : List α} (h : QueueFrame s t)
    (hf : ∀ t a, QueueFrame t (f t a)) : QueueFrame s (xs.foldl f t) :=
  foldl_keeps (QueueFrame s) f (fun t a ht => ht.trans (hf t a)) xs t h

theorem ite {s t u : State} {c : Prop} [Decidable c] (ht : QueueFrame s t) (hu : QueueFrame s u) :
    QueueFrame s (if c then t else u) := by
  split
  · exact ht
  · exact hu

/-! ### One leaf, both leaves, a channel, a stage, a free value -/

section

variable {s t u : State} {l : LeafId} (h : QueueFrame s t)

include h

theorem setLeaf {L : Leaf} : QueueFrame s (t.setLeaf l L) := by
  cases l <;> exact h

theorem on {f : Leaf → Leaf} : QueueFrame s (t.on l f) := h.setLeaf

theorem both {f : Leaf → Leaf} : QueueFrame s (t.both f) := h

theorem setChan {i : Nat} {c : Chan} : QueueFrame s (t.setChan i c) := h

theorem onChan {i : Nat} {f : Chan → Chan} : QueueFrame s (t.onChan i f) := h

theorem onStage {a : Nat} {f : Stage → Stage} : QueueFrame s (t.onStage a f) := h

theorem take : QueueFrame s t.take.2 := h

/-- Of a state, the frame regards the queue and four fields alone. -/
theorem ofFields (hp : u.pending = t.pending) (hv : u.variantEv = t.variantEv) (hr : u.srev = t.srev) (ha : u.arb = t.arb) :
    QueueFrame s u := by
  refine h.trans ⟨hp, ?_⟩
  unfold State.fixed
  rw [hv, hr, ha]

theorem withPins {p : Pins} : QueueFrame s { t with pins := p } := h

theorem withMode {m : Mode} : QueueFrame s { t with mode := m } := h

theorem withSec {c : Sec} : QueueFrame s { t with sec := c } := h

theorem withGroups {g : Vector Group 11} : QueueFrame s { t with groups := g } := h

theorem withXcvr {x : Vector (Option LeafId) 4} : QueueFrame s { t with xcvr := x } := h

theorem withReadData {d : Option Word} : QueueFrame s { t with readData := d } := h

theorem withArb {a : Arb} (hcoil : a.coilOhm = t.arb.coilOhm) (hlink : a.lineLink = t.arb.lineLink) :
    QueueFrame s { t with arb := a } := by
  refine h.trans ⟨Eq.refl _, ?_⟩
  unfold State.fixed
  rw [hcoil, hlink]

/-! ### Gate channels -/

theorem settlePair {i now : Nat} : QueueFrame s (t.settlePair i now) := h

theorem gateTrans {i n : Nat} : QueueFrame s (t.gateTrans i n) := h

theorem countTry {e : Nat} {ovhw : Bool} : QueueFrame s (t.countTry e ovhw) := h

theorem latchPair {e : Nat} : QueueFrame s (t.latchPair e) := h

theorem twoLeg {set now : Nat} : QueueFrame s (t.twoLeg set now) :=
  .foldl (.foldl h fun _ _ => .onChan .rfl) fun _ _ => .settlePair .rfl

theorem legFault {i : Nat} {bad : List Nat} {bits : List (Nat × Nat)} {now : Nat} :
    QueueFrame s (t.legFault i bad bits now) := by
  have marked : QueueFrame s (bits.foldl (fun s b => s.onChan b.1 fun c => c.mark b.2) t) :=
    .foldl h fun _ _ => .onChan .rfl
  have off := QueueFrame.foldl (xs := bad) marked
    (f := fun u b => u.onChan b fun c => { c.softOff now with faulted := some (t.chan (evenOf i)).n }) fun _ _ => .onChan .rfl
  exact .ite marked <| .ite (.settlePair (.onChan off)) <| .ite (.twoLeg (.onChan off)) <| .ite (.twoLeg (.onChan off)) <|
    .ite (.foldl (.foldl (.onChan off) fun _ _ => .ite (.latchPair .rfl) .rfl) fun _ _ => .settlePair .rfl) <|
    .ite (.settlePair (.onChan off)) (.settlePair (.countTry (.onChan off)))

theorem tripLeg {e tick : Nat} : QueueFrame s (t.tripLeg e tick) := .legFault h

theorem ovHw {e tick : Nat} : QueueFrame s (t.ovHw e tick) :=
  .ite h (.settlePair (.onChan (.onChan (.countTry h))))

theorem testOutcome {i item : Nat} {pass : Bool} {act : State → Nat → State} (hact : ∀ u j, QueueFrame u (act u j)) :
    QueueFrame s (t.testOutcome i item pass act) :=
  .ite (.onChan (.ite (h.trans (hact t i)) h)) (.ite (.ite (.onChan h) (.latchPair (.onChan h))) (.onChan h))

theorem maintActs {i : Nat} {m : MaintOp} : QueueFrame s (t.maintActs i m) := by
  dsimp only [State.maintActs]
  split
  · exact .ite (.onChan h) (.setChan h)
  · exact .onChan h
  · exact .ite (.testOutcome (.onChan h) fun _ _ => .gateTrans .rfl) (.onChan h)
  · exact .ite (.ite (.onChan (.onChan h)) h) h
  · exact .ite (.onChan h) h
  · exact h

theorem chanBoundary {i : Nat} : QueueFrame s (t.chanBoundary i) :=
  .settlePair (.foldl (.setChan h) fun _ _ => .maintActs .rfl)

theorem gateFrame {rx : GateRx} {act : Chan → Nat → Nat → Chan} : QueueFrame s (t.gateFrame rx act) := by
  refine .ite h (.ite (.setChan h) ?_)
  dsimp only
  split
  · exact .ite (.setChan h) (.setChan h)
  · exact .ite (.setChan h) (.settlePair (.setChan h))

theorem sendTests {chan : Nat} : QueueFrame s (t.sendTests l chan) :=
  .foldl h fun _ _ => .on (.take .rfl)

theorem bootChan {i : Nat} {b : BootChan} : QueueFrame s (t.bootChan i b) :=
  .ite h (.ite (.settlePair (.setChan h)) (.latchPair (.settlePair (.setChan h))))

theorem stageMark {a : Nat} {received : Bool} {low : Byte} : QueueFrame s (t.stageMark a l received low) := .onStage h

/-! ### The arbiter -/

theorem driveOut {k : Nat} {src : Option LeafId} : QueueFrame s (t.driveOut k src) := h

theorem takeCommands : QueueFrame s t.takeCommands := h

theorem idleOutputs : QueueFrame s t.idleOutputs := by
  obtain ⟨hcoil, hlink⟩ := t.idleOutputs_fixed
  have hself : QueueFrame t t.idleOutputs := by
    constructor
    · rw [State.idleOutputs_parts]
    · rw [State.fixed, hcoil, hlink, State.idleOutputs_parts]
      rfl
  exact h.trans hself

/-! ### Changes of LEAD, completions, mailboxes -/

theorem completeBoth {hd : Hdr} {code effect detail : Nat} : QueueFrame s (t.completeBoth hd code effect detail) := h

theorem answer {hd : Hdr} {code effect detail : Nat} : QueueFrame s (t.answer l hd code effect detail) :=
  .ite (.ite h (.on h)) (.completeBoth h)

theorem noteRefused {w : ChangeWhat} : QueueFrame s (t.noteRefused l w) :=
  .ite (.both (.ite (.both h) h)) (.ite (.both h) h)

theorem accept {hd : Hdr} {bytes : Slot} {e : Course} {w : ChangeWhat} : QueueFrame s (t.accept l hd bytes e w) :=
  .ite (.on h) (.on (.on h))

theorem decideChange {hd : Hdr} {bytes : Slot} {f : Course} : QueueFrame s (t.decideChange l hd bytes f) := by
  dsimp only [State.decideChange]
  split
  · exact .answer (.both h)
  · split
    · exact .answer (.noteRefused (.both h))
    · exact .ite (.answer (.both (.both h))) (.accept (.both h))

theorem takeChange {ring op : Nat} {d : Desc} : QueueFrame s (t.takeChange l ring op d) := by
  refine .ite ?_ h
  split
  · exact .setLeaf h
  · refine .ite (.setLeaf (.setLeaf h)) (.ite (.decideChange (.setLeaf h)) ?_)
    dsimp only
    split
    · exact .ite (.setLeaf h) (.setLeaf (.setLeaf h))
    · exact .ite (.setLeaf h) (.setLeaf (.setLeaf h))

theorem offerDirect {off : Nat} {v : Word} : QueueFrame s (t.offerDirect l off v) := by
  dsimp only [State.offerDirect]
  split
  · exact h
  · split
    · exact .on (.noteRefused h)
    · exact .accept h

theorem takeModule {off k : Nat} {others : List Nat} : QueueFrame s (t.takeModule off k others).2 := h

omit h in
theorem taken {w : Option Word} {off k : Nat} {others : List Nat} (hp : s.takeModule off k others = (w, u)) :
    QueueFrame s u := by
  have hm : QueueFrame s (s.takeModule off k others).2 := .takeModule .rfl
  rwa [hp] at hm

theorem postWords {c len who : Nat} : QueueFrame s (t.postWords l c len who) :=
  .foldl (.on h) fun _ _ => .on (.take .rfl)

/-! ### Roles -/

theorem tellPartner {code : Nat} : QueueFrame s (t.tellPartner l code) := .on h

theorem planRestart : QueueFrame s (t.planRestart l) := .ite (.on (.setLeaf h)) (.setLeaf h)

theorem enterRestart {n : Nat} : QueueFrame s (t.enterRestart l n) := .tellPartner (.setLeaf h)

theorem enterOut : QueueFrame s (t.enterOut l) := .tellPartner (.setLeaf h)

theorem takeOver : QueueFrame s (t.takeOver l) := .foldl (.on (.on h)) fun _ _ => .decideChange .rfl

theorem leadAlone : QueueFrame s (t.leadAlone l) := .on h

theorem joinFollow : QueueFrame s (t.joinFollow l) := .tellPartner (.on h)

theorem moveVoice {former new : LeafId} : QueueFrame s (t.moveVoice former new) :=
  .foldl h fun _ _ => .ite (.on (.both .rfl)) .rfl

theorem swapRoles {former new : LeafId} : QueueFrame s (t.swapRoles former new) :=
  .moveVoice (.on (.on (.on (.on h))))

theorem applyRole : QueueFrame s (t.applyRole l) := by
  dsimp only [State.applyRole]
  split
  · exact h
  · refine .ite h ?_
    split
    · exact .enterRestart (.setLeaf h)
    · exact .enterOut (.setLeaf h)
    · exact .ite (.ite (.takeOver (.setLeaf h)) (.moveVoice (.on (.setLeaf h)))) (.leadAlone (.setLeaf h))
    · exact .ite (.ite (.on (.on (.setLeaf h))) (.on (.setLeaf h)))
        (.ite (.joinFollow (.setLeaf h)) (.leadAlone (.setLeaf h)))
    · exact .setLeaf h

theorem rejoin : QueueFrame s (t.rejoin l) := .enterRestart (.on h)

theorem enterAlign : QueueFrame s (t.enterAlign l) := .tellPartner (.on (.on h))

theorem failRestart : QueueFrame s (t.failRestart l) := by
  dsimp only [State.failRestart]
  split
  · exact .enterRestart h
  · exact .ite (.on (.enterRestart (.on h))) (.on (.enterOut h))
  · exact .on (.enterOut h)

theorem alignAlone : QueueFrame s (t.alignAlone l) := .ite (.on h) h

theorem hold {g : Nat} : QueueFrame s (t.hold l g) := .planRestart (.on h)

theorem stageDiverges {g : Nat} : QueueFrame s (t.stageDiverges l g) :=
  .ite h <| .ite (.on h) <| .ite (.on h) <| .ite (.hold h) (.on h)

theorem sealDiv : QueueFrame s (t.sealDiv l) := .foldl (.setLeaf h) fun _ _ => .stageDiverges .rfl

/-! ### Images and generations -/

theorem yieldLead : QueueFrame s (t.yieldLead l) := by
  unfold State.yieldLead
  split
  · exact .ite (.swapRoles h) h
  · exact h

theorem recordVersions {confirm : Bool} : QueueFrame s (t.recordVersions confirm) := by
  dsimp only [State.recordVersions]
  split
  · exact .on h
  · exact h

theorem revertLeaf : QueueFrame s (t.revertLeaf l) := .on (.yieldLead h)

theorem continueRevert : QueueFrame s (t.continueRevert l) := .ite (.revertLeaf h) h

theorem startFull : QueueFrame s (t.startFull l) := .on (.yieldLead h)

/-! ### Fill blocks and the seal -/

theorem checkRunDone {stage : Nat} {agree : Bool} : QueueFrame s (t.checkRunDone l stage agree) := by
  dsimp only [State.checkRunDone]
  split
  · exact .ite (.setLeaf h) h
  · exact .ite (.setLeaf h) h
  · exact h

theorem runFill {b : FillBlock} {tick : Nat} {agree : Bool} : QueueFrame s (t.runFill l b tick agree) := by
  unfold State.runFill
  cases b.kind with
  | observer set => exact .ite h (.on (.take (.take (.take (.take h)))))
  | checkRun stage => exact .checkRunDone h
  | pilot | metering | channelStatus | telemetry | otherLoop => exact h
  | _ => exact .on h

theorem shedResult {slot : Nat} : QueueFrame s (t.shedResult l slot) :=
  .ite (.on (.take (.take (.take (.take h))))) h

theorem sealTests : QueueFrame s (t.sealTests l) :=
  .ite (.on (.foldl h fun _ _ => .shedResult .rfl)) (.on h)

theorem sealIdle : QueueFrame s t.sealIdle := h

theorem sealComputing {inp : SealIn} : QueueFrame s (t.sealComputing l inp) := by
  unfold State.sealComputing
  extract_lets carry
  split
  extract_lets u₁ u₂ u₃ a u₄ u₅ u₆ u₇ u₈
  have sensed : QueueFrame s u₃ := .on (.on (.setLeaf h))
  have latched : QueueFrame s u₄ := .withArb sensed (Eq.refl _) (Eq.refl _)
  have updated : QueueFrame s u₅ := .continueRevert (.on latched)
  have tested : QueueFrame s u₈ := .sealTests (.on (.sealDiv (.on (.on updated))))
  exact tested.on

/-! ### Supplies, resets, BOOT -/

theorem resetAll {m : Mode} : QueueFrame s (t.resetAll m) :=
  .idleOutputs (t := { t.both Leaf.moduleReset with
    mode := m, sec := {}, xcvr := Vector.replicate 4 none, arb := { t.arb with crash := false }
    pins := { t.pins with resetN := false, bootDead := false, idleFrom := none, armed := m == Mode.park } }) h

theorem enterBoot {cause : Nat} : QueueFrame s (t.enterBoot cause) := .both (.resetAll h)

theorem failSupplies {m : Mode} : QueueFrame s (t.failSupplies m) := .withPins (.resetAll (.both h))

theorem bootLead {r : BootLeaf} {p : Option BootLeaf} : QueueFrame s (t.bootLead l r p) := .on (.leadAlone h)

theorem bootOut {step : Nat} : QueueFrame s (t.bootOut l step) := .on (.on h)

theorem bootRoles {r0 r1 : BootLeaf} {ok0 ok1 : Bool} : QueueFrame s (t.bootRoles r0 r1 ok0 ok1) := by
  have lead : ∀ l r p f, QueueFrame s (((t.both f).bootLead l r p).on l Leaf.showUpd) := fun _ _ _ _ => .on (.bootLead (.both h))
  exact .ite (lead ..) (.ite (lead ..) (.on (.enterAlign (.both (.ite (.on (lead ..)) (lead ..))))))

/-! ### Service port and register accesses -/

theorem sayJ5 {step : Nat} {content : List Nat} : QueueFrame s (t.sayJ5 step content) := h

theorem authFails : QueueFrame s t.authFails := .ite h h

theorem endScan : QueueFrame s t.endScan := .ite h h

theorem touch {who : Nat} : QueueFrame s (t.touch who) := .ite h h

theorem refuseDebug {value who : Nat} : QueueFrame s (t.refuseDebug l value who) := .ite (.on h) h

theorem writeRws {r : Reg} {i : Nat} {new : Word} {who : Nat} : QueueFrame s (t.writeRws l r i new who) := .setLeaf h

theorem writeCmd {r : Reg} {v : Word} {who : Nat} : QueueFrame s (t.writeCmd l r v who) :=
  .ite h (.ite (.on h) (.ite h (.offerDirect h)))

theorem writeReg {r : Reg} {i off size : Nat} {v : Word} {who : Nat} : QueueFrame s (t.writeReg l r i off size v who) :=
  .ite h <| .ite (.writeCmd h) <| .ite h <| .ite (.ite (.setLeaf h) h) <| .ite (.setLeaf h) <|
    .ite (.ite (.writeRws h) (.ite (.setLeaf h) h)) (.ite (.ite (.setLeaf h) h) h)

end

end QueueFrame

theorem OnlyLeaf.queueFrame {l : LeafId} {s t : State} (h : OnlyLeaf l s t) : QueueFrame s t := by
  rw [h]
  exact QueueFrame.rfl.setLeaf

end Sys2Proof.Machine
end

section
/-! A command that belongs to one leaf changes that leaf alone (R8, R15). -/

namespace Sys2Proof.Machine

open Sys2Proof

section Meanings

variable (l : LeafId) (s : State)

theorem execCycleGuardStop_onlyLeaf (e : Fin 24) : Ends (execCycleGuardStop l e s) (OnlyLeaf l s) := by
  dsimp only [execCycleGuardStop]
  split
  · exact .guarded .rfl .setLeaf
  · exact .guarded .rfl .setLeaf
  · exact .next .rfl

theorem execHandoverStart_onlyLeaf : Ends (execHandoverStart l s) (OnlyLeaf l s) := by
  dsimp only [execHandoverStart]
  split
  · split
    · exact .guarded .rfl .setLeaf
    · exact .next .rfl
  · exact .next .rfl

theorem execRecalStepStart_onlyLeaf : Ends (execRecalStepStart l s) (OnlyLeaf l s) := by
  dsimp only [execRecalStepStart]
  split
  · exact .guarded .rfl .setLeaf
  · exact .next .rfl

theorem execRecalFirstOverlap_onlyLeaf (cal : CalRes) (a b : Int) :
    Ends (execRecalFirstOverlap l cal a b s) (OnlyLeaf l s) := by
  dsimp only [execRecalFirstOverlap]
  split
  · exact .next .rfl
  · exact .guarded .rfl (.ite .setLeaf .setLeaf)

theorem execRecalSecondOverlap_onlyLeaf (cal : CalRes) (a b : Int) :
    Ends (execRecalSecondOverlap l cal a b s) (OnlyLeaf l s) := by
  dsimp only [execRecalSecondOverlap]
  split
  · exact .next .rfl
  · exact .guarded .rfl (.ite .setLeaf (.ite (.ite .setLeaf .setLeaf) .setLeaf))

theorem execArm_onlyLeaf (port : Fin 2) (direct : Bool) : Ends (execArm l port direct s) (OnlyLeaf l s) := by
  refine .ite (.ite (.next .setLeaf) (.next .setLeaf)) ?_
  split
  · exact .next .rfl
  · exact .next .setLeaf

theorem execGchClear_onlyLeaf (chan : Fin 64) (direct : Bool) (who : Ident) :
    Ends (execGchClear l chan direct who s) (OnlyLeaf l s) := by
  refine .ite (.ite (.next .setLeaf) (.guarded .rfl .setLeaf)) ?_
  split
  · exact .next .rfl
  · exact .next .setLeaf

theorem execAlignExit_onlyLeaf : Ends (execAlignExit l s) (OnlyLeaf l s) := by
  dsimp only [execAlignExit]
  split
  · exact .next .rfl
  · exact .guarded .rfl .setLeaf

theorem execChange_onlyLeaf (rx : Rx) (c : ChangeRx) : Ends (execChange l rx c s) (OnlyLeaf l s) := by
  dsimp only [execChange]
  split
  · exact .next .rfl
  · refine .ite (.next .setLeaf) ?_
    split
    · exact .next .setLeaf
    · exact .next .setLeaf

theorem execHead_onlyLeaf (rx : Rx) (recno : Nat) (dig : BitVec 256) (highest : Nat) (verified : Bool) :
    Ends (execHead l rx recno dig highest verified s) (OnlyLeaf l s) := by
  dsimp only [execHead]
  split
  · exact .next .rfl
  · exact .ite (.next .setLeaf) (.next .setLeaf)

theorem execVoice_onlyLeaf (bus : Fin 4) (direct : Bool) (v : LeafId) :
    Ends (execVoice l bus direct v s) (OnlyLeaf l s) := by
  refine .ite (.ite (.guarded .rfl .setLeaf) (.next .setLeaf)) ?_
  split
  · exact .next .rfl
  · exact .next .setLeaf

theorem execRecover_onlyLeaf (bus : Fin 4) (direct : Bool) : Ends (execRecover l bus direct s) (OnlyLeaf l s) := by
  refine .ite (.ite (.next .setLeaf) (.next .setLeaf)) ?_
  split
  · exact .next .rfl
  · exact .next .setLeaf

end Meanings

/-- A command that belongs to one leaf completes, and changes that leaf alone (R8, R15). -/
theorem exec_onlyLeaf (c : Instr) (l : LeafId) (s : State) (h : ownLeaf c = some l) :
    Ends (exec c s) (OnlyLeaf l s) := by
  cases c with
  | fillDeadline | doorbellCompletion | doorbellDeadline | timebaseCompensation | pairMismatch | pairRerunComplete |
    sheddingDecay | engineSelfTestStep | correlationWindowEnd | captureTrigger | selfcalComplete | supplyHalf | index
    | indexMissing | uvwEdge | probeComplete | spTimeout | overcurrentRetry | obsWindowEnd | syncTimeout |
    dischargeEnd | battRefTimeout | prechargeMatch | preTimeout | overlapElapsed | openingCurrentLow | mainMinusOpen |
    openBlocked | hvilOpen | chopperRetest | chopFailClear | share | legReadmit | auxRestart | hlcExpiry | pilotState
    | proximityReading | evseTimeout | pfcBusReady | weakSupply | weakSupplyPauseEnd | termination | safetyTimerExpiry
    | stopSequenceEnd | acLossTimeout | chargerRestart | alignDone | lockedRotor | actWaitExpiry | endStopArrival |
    actVinRestored | shiftReturn | thermalSample | leafSilence | silentReceived | outEntry | laneLost | laneUp | lost
    | echo | healthRecord | ringStall | messageWordWrite | ackTimeout | claimLapse | masterLost | mailboxScan |
    bindWrite | tableLock | lockRelease | canFrameReceived | canTransmitDone | errorStateChange | busOff |
    can0AutoRecover | recoveryComplete | bitTimingApply | ethFrameReceived | ethLinkDown | addressAgeOut | ptpMessage
    | gmLost | minute | carryWordWrite | historyHour | bmsStale | mixLong | memoryTestStep | scrub | inject |
    encoderEdge | hvilClosed | ethLinkUp | restartWindowEnd | debugRelease | streamRecoveryReset =>
    cases h
    exact .guarded .rfl .setLeaf
  | uncorrectableError | captureStop | captureRead | selfcal | quadratureError | posFltClear | traction | link |
    charge | chargeSupply | chargeStop | chargeRestart | hlcRefresh | shift | parkEngage | parkRelease | reference |
    actuator | brokenClear | linkDown | lateCompletion | readRecords | ledgerStatus | getKeys | readSuperseded |
    readHistory | grade | netServiceRequest | cancel | release | mbxAck | send | sendCont | abort | netSend |
    streamOpen | streamData | streamClose | streamAbort | pcieLinkUp =>
    cases h
    exact .onLeaf .on
  | keyed | thermal | ack | ledger | settings | voiceUnit | digest | setup | request | superseded =>
    cases h
    dsimp only [exec, execKeyed, execThermal, execAck, execLedger, execSettings, execVoiceUnit, execDigest, execSetup,
      execRequest, execSuperseded]
    split
    · exact .next .rfl
    · exact .next .setLeaf
  | pairOutputAgreed | steal | handoverDigestCheck | handoverStateCopy | handoverComplete | engineSelfTestComplete |
    recalStepEnd | archiveComplete | ledgerResend | outputEntryPost | signatureComplete | resistanceStep |
    verifyComplete =>
    cases h
    dsimp only [exec, execPairOutputAgreed, execSteal, execHandoverDigestCheck, execHandoverStateCopy,
      execHandoverComplete, execEngineSelfTestComplete, execRecalStepEnd, execArchiveComplete, execLedgerResend,
      execOutputEntryPost, execSignatureComplete, execResistanceStep, execVerifyComplete]
    split
    · exact .next .rfl
    · exact .guarded .rfl .setLeaf
  | cycleGuardStop =>
    cases h
    exact execCycleGuardStop_onlyLeaf ..
  | handoverStart =>
    cases h
    exact execHandoverStart_onlyLeaf ..
  | recalStepStart =>
    cases h
    exact execRecalStepStart_onlyLeaf ..
  | recalFirstOverlap =>
    cases h
    exact execRecalFirstOverlap_onlyLeaf ..
  | recalSecondOverlap =>
    cases h
    exact execRecalSecondOverlap_onlyLeaf ..
  | ftTest =>
    cases h
    exact .guarded .rfl (.ite .setLeaf (.ite .setLeaf .setLeaf))
  | arm =>
    cases h
    exact execArm_onlyLeaf ..
  | gchClear =>
    cases h
    exact execGchClear_onlyLeaf ..
  | moveEnd =>
    cases h
    exact .ite (.next .setLeaf) (.guarded .rfl .setLeaf)
  | alignExit =>
    cases h
    exact execAlignExit_onlyLeaf ..
  | change =>
    cases h
    exact execChange_onlyLeaf ..
  | head _ rx recno dig highest verified =>
    cases h
    exact execHead_onlyLeaf l s rx recno dig highest verified
  | hotReset =>
    cases h
    exact .ite (.next .setLeaf) (.guarded .rfl .setLeaf)
  | ringEngineRun =>
    cases h
    exact .ite (.next (.ite .setLeaf .rfl)) (.ite (.next .setLeaf) (.next .setLeaf))
  | ringEngineStop =>
    cases h
    exact .ite (.next .setLeaf) (.next (.ite .setLeaf .rfl))
  | voice =>
    cases h
    exact execVoice_onlyLeaf ..
  | recover =>
    cases h
    exact execRecover_onlyLeaf ..
  | _ => cases h

/-- Settles O55: of a command that belongs to one leaf, everything outside the leaf is as it was. -/
theorem leavesShareNoState : Obligations.leaves_share_no_state := by
  unfold Obligations.leaves_share_no_state
  intro c l s h
  refine (exec_onlyLeaf c l s h).imp fun t ht => ?_
  have hother : t.leaf l.other = s.leaf l.other := by
    rw [ht]
    exact State.leaf_setLeaf_other _ _ _ _ (by cases l <;> decide)
  refine ⟨hother, ?_, ?_, ?_, ?_, ?_, ?_, ?_, ht⟩ <;> (rw [ht]; simp)

end Sys2Proof.Machine
end

section
/-! Every command completes, and leaves the queue and what is fixed of the part (R14, R629, R631). -/

namespace Sys2Proof.Machine

open Sys2Proof

section Meanings

variable (l : LeafId) (s : State)

theorem execMaintTest_queueFrame (rx : GateRx) (undisturbed pass : Bool) :
    Ends (execMaintTest rx undisturbed pass s) (QueueFrame s) :=
  .guarded .rfl (.settlePair (.foldl (.setChan (.gateFrame .rfl)) fun _ _ => .maintActs .rfl))

theorem execGateEdge_queueFrame (chan : Fin 48) (tick : Fin 4000) : Ends (execGateEdge chan tick s) (QueueFrame s) := by
  dsimp only [execGateEdge]
  split
  · exact .next .rfl
  · exact .next (.settlePair (.setChan .rfl))

theorem execStatusFrame_queueFrame (chan : Fin 48) (ok0 ok1 : Bool) (temp vdd2 vee2 : Byte) :
    Ends (execStatusFrame chan ok0 ok1 temp vdd2 vee2 s) (QueueFrame s) := by
  unfold execStatusFrame
  extract_lets i u
  have hu : QueueFrame s u := .ite .rfl (.chanBoundary .rfl)
  exact .next (.ite (.on (.ite (.on (.setChan hu)) (.setChan hu))) (.ite (.on (.setChan hu)) (.setChan hu)))

theorem execGateTestStep_queueFrame : Ends (execGateTestStep l s) (QueueFrame s) := by
  unfold execGateTestStep
  extract_lets L failed next
  clear_value next
  split
  · exact .next .rfl
  · exact .guarded .rfl (.sendTests (.both .rfl))

theorem execCourseMark_queueFrame (chan : Fin 51) (received : Bool) (low : Byte) :
    Ends (execCourseMark chan l received low s) (QueueFrame s) :=
  .ite (.next (.stageMark .rfl)) (.next (.ite (.chanBoundary (.onChan .rfl)) (.onChan .rfl)))

theorem execActuatorStatus_queueFrame (stage : Fin 3) (ok0 ok1 : Bool) (m : StageMeas) :
    Ends (execActuatorStatus stage ok0 ok1 m s) (QueueFrame s) := by
  unfold execActuatorStatus
  extract_lets a u
  have hu : QueueFrame s u := .ite .rfl (.onStage .rfl)
  exact .next (.ite (.on (.ite (.on (.onStage hu)) (.onStage hu))) (.ite (.on (.onStage hu)) (.onStage hu)))

theorem execPost_queueFrame (chan : Fin 32) (len : Fin 32) (who : Ident) :
    Ends (execPost l chan len who s) (QueueFrame s) :=
  .ite (.onLeaf (.on .rfl)) (.next (.ite (.postWords .rfl) (.on .rfl)))

theorem execLockRead_queueFrame (k : Fin 16) (size : Nat) (high : Bool) (who : Ident) :
    Ends (execLockRead l k size high who s) (QueueFrame s) :=
  .ite (.next .rfl) <| .ite (.next .rfl) <| .ite (.next .rfl) <| .next (.setLeaf (.withReadData .rfl))

theorem execChangeWithdraw_queueFrame (dseq : BitVec 32) : Ends (execChangeWithdraw dseq s) (QueueFrame s) := by
  unfold execChangeWithdraw
  split
  · exact .next .rfl
  · dsimp only
    split
    · exact .next .rfl
    · exact .guarded .rfl (.answer (.both .rfl))

theorem execPlanCommit_queueFrame : Ends (execPlanCommit s) (QueueFrame s) := by
  unfold execPlanCommit
  split
  · exact .next .rfl
  · refine .next (.foldl .rfl fun u c => ?_)
    dsimp only
    split
    · exact .answer (.noteRefused (.both .rfl))
    · exact .answer (.both (.ite (.both (.both .rfl)) (.both .rfl)))

theorem execSwap_queueFrame : Ends (execSwap s) (QueueFrame s) := by
  unfold execSwap
  split
  next hp _ _ => exact .next (.ite (.taken hp) (.swapRoles (.taken hp)))
  next hp _ => exact .next (.taken hp)
  next => exact .next .rfl

theorem execRejoin_queueFrame (direct : Bool) (who : Ident) : Ends (execRejoin l direct who s) (QueueFrame s) := by
  unfold execRejoin
  extract_lets off out act
  have acted : ∀ t, QueueFrame t (act t) := by
    intro t
    clear_value out
    dsimp only [act]
    split
    · exact .rejoin .rfl
    · exact .on .rfl
  refine .ite (.ite (.next (acted s)) (.ite (.next (.on .rfl)) (.next .rfl))) ?_
  split
  next hp => exact .next ((QueueFrame.taken hp).trans (acted _))
  next => exact .next .rfl

theorem execHostLinkLost_queueFrame : Ends (execHostLinkLost l s) (QueueFrame s) := by
  unfold execHostLinkLost
  extract_lets L P u v
  have hv : QueueFrame s v := .ite (.on (.on .rfl)) (.on .rfl)
  exact .guarded .rfl (.ite (.on (.on hv)) (.on hv))

theorem execRoleDeclaration_queueFrame : Ends (execRoleDeclaration s) (QueueFrame s) := by
  unfold execRoleDeclaration
  refine .ite (.next (.idleOutputs .rfl)) ?_
  extract_lets u₁ claims a b lead arb₁ u₂ u₃ u₄ arb₂ u₅ outs differ
  have taken : QueueFrame s u₂ := .withArb (.takeCommands .rfl) (Eq.refl _) (Eq.refl _)
  have driven : QueueFrame s u₄ := .foldl (.ite (.both taken) taken) fun _ _ => .ite (.driveOut .rfl) .rfl
  clear_value u₄
  have dead : QueueFrame s u₅ := .ite (.withArb driven (Eq.refl _) (Eq.refl _)) driven
  exact .next (.both dead)

theorem execKeyedDeadline_queueFrame : Ends (execKeyedDeadline l s) (QueueFrame s) :=
  .guarded .rfl (.ite (.planRestart (.setLeaf .rfl)) (.setLeaf .rfl))

theorem execActivate_queueFrame : Ends (execActivate s) (QueueFrame s) := by
  unfold execActivate
  split
  next => exact .next .rfl
  next hp => exact .next (.on (.yieldLead (.taken hp)))

theorem execConfirm_queueFrame : Ends (execConfirm s) (QueueFrame s) := by
  unfold execConfirm
  split
  next => exact .next .rfl
  next hp => exact .next (.both (.recordVersions (.taken hp)))

theorem execRevert_queueFrame : Ends (execRevert s) (QueueFrame s) := by
  unfold execRevert
  split
  next => exact .next .rfl
  next hp =>
    extract_lets u v
    have hv : QueueFrame s v := .both (.both (.taken hp))
    clear_value v
    split
    · exact .next (.ite (.revertLeaf hv) hv)
    · exact .next hv

theorem execSetApply_queueFrame : Ends (execSetApply s) (QueueFrame s) := by
  unfold execSetApply
  split
  next => exact .next .rfl
  next hp =>
    extract_lets u
    have hu : QueueFrame s u := .both (.taken hp)
    clear_value u
    split
    · exact .next (.on hu)
    · exact .next hu

theorem execRestartComplete_queueFrame (r : StartRes) : Ends (execRestartComplete l r s) (QueueFrame s) :=
  .guarded .rfl <| .ite (.enterOut (.setLeaf .rfl)) <| .ite (.failRestart (.setLeaf .rfl)) <|
    .ite (.ite (.recordVersions (.enterAlign (.setLeaf .rfl))) (.enterAlign (.setLeaf .rfl))) (.on (.setLeaf .rfl))

theorem execIsolationEvidence_queueFrame : Ends (execIsolationEvidence l s) (QueueFrame s) := by
  dsimp only [execIsolationEvidence]
  split
  · exact .next .rfl
  · exact .guarded .rfl (.ite (.on (.takeOver (.setLeaf .rfl))) (.enterOut (.setLeaf .rfl)))

theorem execMark_queueFrame (m : MarkRx) : Ends (execMark l m s) (QueueFrame s) :=
  .ite (.next .rfl) <| .ite (.next (.setLeaf .rfl)) <| .ite (.next (.setLeaf (.take .rfl))) (.next (.setLeaf .rfl))

theorem execSetdata_queueFrame (rx : Rx) (gen off : Nat) (content : DigestId) (last : Bool) :
    Ends (execSetdata l rx gen off content last s) (QueueFrame s) := by
  dsimp only [execSetdata]
  split
  · exact .next .rfl
  · split
    · exact .next (.setLeaf .rfl)
    · exact .ite (.next (.setLeaf .rfl)) <| .ite (.next (.setLeaf .rfl)) <|
        .ite (.next (.setLeaf .rfl)) (.next (.failRestart (.setLeaf .rfl)))

theorem execMirfmt_queueFrame (rx : Rx) (fmt : Nat) (c : Course) : Ends (execMirfmt l rx fmt c s) (QueueFrame s) := by
  dsimp only [execMirfmt]
  split
  · exact .next .rfl
  · exact .ite (.next (.failRestart (.setLeaf .rfl))) (.next (.setLeaf .rfl))

theorem execCheck_queueFrame (rx : Rx) (stage : Fin 11) (agree : Bool) :
    Ends (execCheck l rx stage agree s) (QueueFrame s) := by
  dsimp only [execCheck]
  split
  · exact .next .rfl
  · exact .ite (.next (.setLeaf .rfl)) (.next (.hold (.setLeaf .rfl)))

theorem execFillBlockComplete_queueFrame (e : Fin 24) (tick : Fin 4000) (agree : Bool) :
    Ends (execFillBlockComplete l e tick agree s) (QueueFrame s) := by
  dsimp only [execFillBlockComplete]
  split
  · exact .next .rfl
  · exact .guarded .rfl (.runFill (.setLeaf .rfl))

theorem execDoorbellFetch_queueFrame : Ends (execDoorbellFetch l s) (QueueFrame s) :=
  .guarded .rfl (.ite (.setLeaf .rfl) (.setLeaf (.setLeaf .rfl)))

/-- What a descriptor read anew does (R470) completes, whichever command's meaning it is. -/
theorem actOn_queueFrame (ring : Nat) (d : Desc) (b : BufRead) : Ends (s.actOn l ring d b) (QueueFrame s) := by
  unfold State.actOn
  extract_lets op unknown
  clear_value op
  have leafOnly : ∀ {f}, Ends (onLeaf s l f) (QueueFrame s) := .onLeaf (.on .rfl)
  refine .ite leafOnly ?_
  split
  · exact .next (.takeChange .rfl)
  · split <;> exact leafOnly
  · split
    · exact leafOnly
    · exact leafOnly
    · exact .next (.takeChange .rfl)
  · exact leafOnly
  · split <;> exact leafOnly
  · exact leafOnly

theorem execDescriptorRetry_queueFrame (ring : Fin 10) (d : Desc) (b : BufRead) :
    Ends (execDescriptorRetry l ring d b s) (QueueFrame s) := by
  unfold execDescriptorRetry
  extract_lets L r
  refine .ite (.next .rfl) ?_
  split
  · exact .next (.setLeaf .rfl)
  · exact (actOn_queueFrame ..).imp fun _ h => (QueueFrame.setLeaf .rfl).trans h

theorem execCrsCountRead_queueFrame (tick : Fin 4000) (size : Nat) (high : Bool) :
    Ends (execCrsCountRead l tick size high s) (QueueFrame s) :=
  .ite (.next .rfl) <| .ite (.next .rfl) <| .next (.setLeaf (.withReadData .rfl))

theorem execVoiceDeclaration_queueFrame (bus : Fin 4) : Ends (execVoiceDeclaration bus s) (QueueFrame s) :=
  .next (.ite (.withXcvr .rfl) (.ite (.both .rfl) (.withXcvr .rfl)))

theorem execResetNAssert_queueFrame (ns : Nat) : Ends (execResetNAssert ns s) (QueueFrame s) := by
  have drawn : ∀ c : Prop, [Decidable c] → QueueFrame s (if c then s.take.2 else s) := fun _ _ => .ite (.take .rfl) .rfl
  exact .guarded (drawn _) (.withPins (.resetAll (drawn _)))

theorem execBootComplete_queueFrame (r0 r1 : BootLeaf) (ch : Vector BootChan 48) (ms : Nat) :
    Ends (execBootComplete r0 r1 ch ms s) (QueueFrame s) := by
  unfold execBootComplete
  refine .guarded .rfl ?_
  split
  split
  extract_lets u₁ u₂ u₃ u₄ pins₁ u₅ u₆ u₇ pins₂
  have tested : QueueFrame s u₂ := by
    refine .foldl (t := u₁) .rfl fun t i => ?_
    split
    · exact .bootChan .rfl
    · exact .rfl
  clear_value u₂
  have out0 : QueueFrame s u₃ := by
    dsimp only [u₃]
    split
    · exact .bootOut tested
    · exact tested
  clear_value u₃
  have out1 : QueueFrame s u₄ := by
    dsimp only [u₄]
    split
    · exact .bootOut out0
    · exact out0
  clear_value u₄
  have up : QueueFrame s u₇ := .both (.on (.on (.bootRoles out1)))
  clear_value u₇
  exact .ite (.withPins out1) (.withPins (.withMode up))

theorem execTieAbsentAtBoot_queueFrame (n : Nat) : Ends (execTieAbsentAtBoot n s) (QueueFrame s) := by
  unfold execTieAbsentAtBoot
  extract_lets wait
  clear_value wait
  split
  · exact .next .rfl
  · exact .guarded .rfl (.ite (.on (.bootOut .rfl)) (.leadAlone .rfl))

theorem execCarry_queueFrame : Ends (execCarry s) (QueueFrame s) := by
  unfold execCarry
  split
  next => exact .next .rfl
  next hp =>
    refine .ite (.next (.taken hp)) ?_
    extract_lets u v
    have hu : QueueFrame s u := .both (.taken hp)
    clear_value u
    have hv : QueueFrame s v := by
      dsimp only [v]
      split
      · exact .on hu
      · exact hu
    exact .next (.withPins (.withMode hv))

theorem execLeave_queueFrame : Ends (execLeave s) (QueueFrame s) := by
  unfold execLeave
  split
  next => exact .next .rfl
  next hp =>
    refine .ite (.next (.taken hp)) ?_
    extract_lets v
    have hv : QueueFrame s v := by
      dsimp only [v]
      split
      · exact .on (.taken hp)
      · exact .taken hp
    exact .next (.withMode hv)

theorem execParkEntry_queueFrame (sigs : List (BitVec 512)) : Ends (execParkEntry sigs s) (QueueFrame s) := by
  unfold execParkEntry
  extract_lets idle u v w
  have hu : QueueFrame s u := .both .rfl
  clear_value u
  have hv : QueueFrame s v := by
    dsimp only [v]
    split
    · exact hu
    · split
      · exact .on hu
      · exact .on (.on hu)
  exact .guarded .rfl (.resetAll (.both hv))

theorem execFullBist_queueFrame (direct : Bool) : Ends (execFullBist l direct s) (QueueFrame s) := by
  refine .ite (.ite (.next .rfl) (.ite (.onLeaf (.on .rfl)) (.next (.startFull .rfl)))) ?_
  split
  next => exact .next .rfl
  next hp => exact .next (.startFull (.taken hp))

theorem execFullBistComplete_queueFrame (r : BistRes) : Ends (execFullBistComplete l r s) (QueueFrame s) :=
  .guarded .rfl (.ite (.setLeaf .rfl) (.enterOut (.setLeaf .rfl)))

theorem execDiagRead_queueFrame (d : Word) (c : Byte) : Ends (execDiagRead l d c s) (QueueFrame s) :=
  .ite (.next .rfl) (.next (.withReadData (.setLeaf .rfl)))

theorem execAuthentication_queueFrame (a : AuthRx) : Ends (execAuthentication a s) (QueueFrame s) :=
  .guarded .rfl (.ite (.sayJ5 (.both (.withSec .rfl))) (.authFails .rfl))

theorem execSessionEnd_queueFrame (k : Fin 3) : Ends (execSessionEnd k s) (QueueFrame s) := by
  unfold execSessionEnd
  extract_lets idle who u v
  have hv : QueueFrame s v := .both (.endScan .rfl)
  exact .guarded .rfl (.ofFields hv (Eq.refl _) (Eq.refl _) (Eq.refl _) (Eq.refl _))

theorem execScanInstruction_queueFrame (b : Bool) : Ends (execScanInstruction b s) (QueueFrame s) :=
  .ite (.guarded .rfl (.both (.withSec .rfl))) (.next (.endScan .rfl))

theorem execRegisterWrite_queueFrame (a : RegAccess) : Ends (execRegisterWrite l a s) (QueueFrame s) := by
  unfold execRegisterWrite
  refine .ite (.next .rfl) (.ite (.next .rfl) ?_)
  extract_lets u tool v
  have hv : QueueFrame s v := .ite (.both (.touch .rfl)) (.touch .rfl)
  clear_value v
  refine .ite (.next hv) (.ite (.next (.on hv)) ?_)
  split
  · exact .next hv
  · exact .next (.writeReg hv)

theorem execRcRead_queueFrame (off size : Nat) (who : Ident) : Ends (execRcRead l off size who s) (QueueFrame s) := by
  unfold execRcRead
  extract_lets give u off₈
  refine .ite (.next .rfl) (.ite (.next .rfl) ?_)
  have hu : QueueFrame s u := .touch .rfl
  clear_value u
  refine .ite (.next (.withReadData hu)) ?_
  split
  · exact .next (.withReadData hu)
  · refine .ite (.next (.withReadData hu)) (.ite (.next hu) ?_)
    split
    · exact .ite (.next (.withReadData (.on hu))) (.next (.withReadData (.on hu)))
    · exact .next (.withReadData (.on hu))

theorem execSeal_queueFrame (inp : SealIn) : Ends (execSeal l inp s) (QueueFrame s) := by
  unfold execSeal
  extract_lets u₁ u₂ u₃ u₄
  have roles : QueueFrame s u₃ := .on (.alignAlone (.applyRole (.on (.on .rfl))))
  have sealed : QueueFrame s u₄ := .ite (.sealComputing roles) (.on roles)
  exact .guarded .rfl (.ite (.on .rfl) (.ite (.sealIdle sealed) sealed))

end Meanings

/-- The seal of a course, which reaches past its leaf, and the commands of `ownLeaf`, which do not. -/
def sealsOrOwned : Instr → Bool
  | .seal _ _ => true
  | c => (ownLeaf c).isSome

theorem exec_queueFrame_of_sealsOrOwned (c : Instr) (s : State) (h : sealsOrOwned c = true) :
    Ends (exec c s) (QueueFrame s) := by
  unfold sealsOrOwned at h
  split at h
  · exact execSeal_queueFrame ..
  · obtain ⟨l, hl⟩ := Option.isSome_iff_exists.mp h
    exact (exec_onlyLeaf _ l s hl).imp fun _ hs => hs.queueFrame

/-- Every command completes, and leaves the queue and what is fixed of the part as they stood. -/
theorem exec_queueFrame (c : Instr) (s : State) : Ends (exec c s) (QueueFrame s) := by
  cases c with
  | supplyApplied => exact .guarded .rfl (.withPins (.resetAll .rfl))
  | wake => exact .guarded .rfl (.ite (.enterBoot (.withPins .rfl)) (.withPins .rfl))
  | cpWake => exact .guarded .rfl (.enterBoot (.withPins .rfl))
  | wakeRelease => exact .next (.ite (.both (.withPins .rfl)) (.withPins .rfl))
  | bootComplete => exact execBootComplete_queueFrame ..
  | tieAbsentAtBoot => exact execTieAbsentAtBoot_queueFrame ..
  | parkEntry => exact execParkEntry_queueFrame ..
  | supplyLost => exact .guarded .rfl (.failSupplies (.withPins .rfl))
  | allSuppliesLost => exact .next (.failSupplies (.withPins .rfl))
  | resetNAssert => exact execResetNAssert_queueFrame ..
  | resetNRelease => exact .guarded .rfl (.ite (.enterBoot (.withPins .rfl)) (.resetAll (.withPins .rfl)))
  | carry => exact execCarry_queueFrame _
  | leave => exact execLeave_queueFrame _
  | reset => exact .guarded .rfl (.ite (.enterBoot .rfl) (.resetAll .rfl))
  | workshopEntry => exact .guarded .rfl (.ofFields .rfl (Eq.refl _) (Eq.refl _) (Eq.refl _) (Eq.refl _))
  | workshopExit => exact .guarded .rfl (.withMode .rfl)
  | registerWrite => exact execRegisterWrite_queueFrame ..
  | rcRead => exact execRcRead_queueFrame ..
  | crsCountRead => exact execCrsCountRead_queueFrame ..
  | keyedDeadline => exact execKeyedDeadline_queueFrame ..
  | doorbellFetch => exact execDoorbellFetch_queueFrame ..
  | planCommit => exact execPlanCommit_queueFrame _
  | changeWithdraw => exact execChangeWithdraw_queueFrame ..
  | regWrite | tableSwitch | testStart | testStop | captureStart => exact .next (.takeChange .rfl)
  | descriptorRetry => exact execDescriptorRetry_queueFrame ..
  | fillBlockComplete => exact execFillBlockComplete_queueFrame ..
  | split | endSplit => exact .ite (.onLeaf (.on .rfl)) (.next (.refuseDebug .rfl))
  | captureRow | acWindow | searchStep | research | engageHoldExpiry | gradeComplete | timeReport =>
    exact .guarded .rfl (.setLeaf .rfl)
  | fastTrip => exact .guarded .rfl (.foldl .rfl fun _ _ => .ite .rfl (.ite (.ovHw .rfl) (.tripLeg .rfl)))
  | courseMark => exact execCourseMark_queueFrame ..
  | courseFrame | carrierFrame | maintNop | maintWrite | maintRead | maintClear | maintLower =>
    exact .guarded .rfl (.gateFrame .rfl)
  | maintTest => exact execMaintTest_queueFrame ..
  | gateEdge => exact execGateEdge_queueFrame ..
  | statusFrame => exact execStatusFrame_queueFrame ..
  | frameAbsenceTimeout | softTurnOffEnd | strapRead => exact .guarded .rfl (.settlePair (.setChan .rfl))
  | partnerOffReport => exact .guarded .rfl (.settlePair (.onChan .rfl))
  | ilkStall => exact .guarded .rfl (.legFault (.setChan .rfl))
  | desaturation | undervoltage => exact .guarded .rfl (.legFault .rfl)
  | overtemperature | overtemperatureRelease => exact .guarded .rfl (.settlePair (.onChan (.onChan .rfl)))
  | waitExpiry => exact .guarded .rfl (.settlePair (.ite (.onChan (.onChan .rfl)) (.onChan (.countTry .rfl))))
  | ovHwRelease => exact .next (.foldl .rfl fun _ _ => .ite (.settlePair (.onChan (.onChan (.onChan .rfl)))) .rfl)
  | tryWindowEnd => exact .guarded .rfl (.gateTrans (.setChan .rfl))
  | groupLoss | biasRestored => exact .guarded .rfl (.both (.withGroups (.foldl .rfl fun _ _ => .onChan .rfl)))
  | windingLoss => exact .next (.settlePair (.onChan .rfl))
  | biasSourceChange => exact .next (.both (.withGroups .rfl))
  | gateTestStep => exact execGateTestStep_queueFrame ..
  | gchTest => exact .ite (.next (.ite (.sendTests .rfl) (.on .rfl))) (.ite (.next (.on .rfl)) (.next .rfl))
  | unlock => exact .ite (.next (.both .rfl)) (.onLeaf (.on .rfl))
  | actuatorFrame | actuatorFallback | hardOvercurrent | bootstrapUndervoltage => exact .guarded .rfl (.onStage .rfl)
  | actuatorStatus => exact execActuatorStatus_queueFrame ..
  | post => exact execPost_queueFrame ..
  | lockRead => exact execLockRead_queueFrame ..
  | txdDominantTimeout => exact .guarded .rfl (.both .rfl)
  | voiceDeclaration => exact execVoiceDeclaration_queueFrame ..
  | swap => exact execSwap_queueFrame _
  | rejoin => exact execRejoin_queueFrame ..
  | hostLinkLost => exact execHostLinkLost_queueFrame ..
  | roleDeclaration => exact execRoleDeclaration_queueFrame _
  | arbiterFallback => exact .guarded .rfl (.driveOut .rfl)
  | coilLimitTimeout | coilDriverFault => exact .guarded .rfl (.withArb .rfl (Eq.refl _) (Eq.refl _))
  | activate => exact execActivate_queueFrame _
  | confirm => exact execConfirm_queueFrame _
  | revert => exact execRevert_queueFrame _
  | setApply => exact execSetApply_queueFrame _
  | enrol => exact .guarded .rfl (.both .rfl)
  | restartComplete => exact execRestartComplete_queueFrame ..
  | restartTimeout | alignTimeout => exact .guarded .rfl (.failRestart .rfl)
  | isolationEvidence => exact execIsolationEvidence_queueFrame ..
  | mark => exact execMark_queueFrame ..
  | probe => exact .guarded .rfl (.on (.setLeaf .rfl))
  | setdata => exact execSetdata_queueFrame ..
  | mirfmt => exact execMirfmt_queueFrame ..
  | check => exact execCheck_queueFrame ..
  | fullBist => exact execFullBist_queueFrame ..
  | fullBistComplete => exact execFullBistComplete_queueFrame ..
  | diagRead => exact execDiagRead_queueFrame ..
  | sessionOpenRequest => exact .guarded .rfl (.sayJ5 (.withSec .rfl))
  | authentication => exact execAuthentication_queueFrame ..
  | authLockoutExpiry => exact .guarded .rfl (.both (.withSec .rfl))
  | sessionEnd => exact execSessionEnd_queueFrame ..
  | debugHalt => exact .guarded .rfl (.setLeaf (.both .rfl))
  | scanInstruction => exact execScanInstruction_queueFrame ..
  | keyGenerate => exact .guarded .rfl (.sayJ5 (.on .rfl))
  | prodLock => exact .guarded .rfl (.both (.withSec .rfl))
  | _ => exact exec_queueFrame_of_sealsOrOwned _ s (Eq.refl _)

/-- Settles O3: a step executes the front command on the state with the queue's rest, and no command touches either. -/
theorem stepKeepsQueueAndFixedValues : Obligations.step_keeps_queue_and_fixed_values := by
  unfold Obligations.step_keeps_queue_and_fixed_values
  intro c rest s hs
  obtain ⟨t, ht, hqueue, hfixed⟩ := exec_queueFrame c { s with pending := rest }
  refine ⟨t, ?_, hqueue, hfixed⟩
  unfold step
  rw [hs]
  exact ht

end Sys2Proof.Machine
end

section
/-! Supplies, wake and the ends of supply (R5, R588, R590, R626). -/

namespace Sys2Proof.Machine

open Sys2Proof

/-- A command whose condition holds ends in the state that its meaning names. -/
theorem Ends.guardedTrue {P : State → Prop} {s t : State} {c : Bool} (hc : c = true) (ht : P t) :
    Ends (Machine.guarded s c t) P := by
  subst hc
  exact ⟨t, rfl, ht⟩

@[simp] theorem Leaf.moduleReset_role (L : Leaf) : L.moduleReset.role = .boot := rfl

@[simp] theorem Leaf.moduleReset_ring (L : Leaf) : L.moduleReset.ldg.ring = L.ldg.ring := rfl

@[simp] theorem Leaf.event_role (L : Leaf) (code subj detail : Nat) : (L.event code subj detail).role = L.role := by
  rw [Leaf.event_parts]

@[simp] theorem State.enterBoot_role (s : State) (cause : Nat) (l : LeafId) : ((s.enterBoot cause).leaf l).role = .boot := by
  rw [State.enterBoot_leaf]
  rfl

@[simp] theorem State.failSupplies_mode (s : State) (m : Mode) : (s.failSupplies m).mode = m := by
  simp [State.failSupplies]

theorem State.failSupplies_pins (s : State) (m : Mode) : (s.failSupplies m).pins = { s.pins with
    vlv := false, wake := false, unclean := s.pins.unclean || !(s.mode == .off || s.mode == .park)
    resetN := false, bootDead := false, idleFrom := none, armed := m == Mode.park } := by
  simp [State.failSupplies]

/-- A loss of supply leaves the ledger's records (R590). -/
theorem State.failSupplies_ring (s : State) (m : Mode) (l : LeafId) :
    ((s.failSupplies m).leaf l).ldg.ring = (s.leaf l).ldg.ring := by
  have hleaf : (s.failSupplies m).leaf l =
      (if (s.leaf l).cut || !(s.leaf l).carrying then s.leaf l else (s.leaf l).cutOff 4 (s.leaf l).tick).moduleReset := by
    cases l <;> simp [State.failSupplies, State.leaf]
  rw [hleaf, Leaf.moduleReset_ring]
  split <;> rfl

theorem supplyApplied_parks (s : State) (hoff : s.mode = .off) :
    Completes .supplyApplied s fun t => t.mode = .park ∧ t.pins.armed = true :=
  Ends.guardedTrue (by simp [hoff]) ⟨by simp, by simp⟩

theorem wake_boots (s : State) (mv us vlv : Nat) (hpark : s.mode = .park) (harmed : s.pins.armed = true) (hmv : 5000 < mv)
    (hus : 1000 ≤ us) (hvlv : 16000 < vlv) :
    Completes (.wake mv us vlv) s fun t =>
      t.mode = .boot ∧ t.pins.wake = true ∧ ∀ l, (t.leaf l).get GLB_WAKE_CAUSE = 1 ∧ (t.leaf l).role = .boot := by
  refine Ends.guardedTrue (by simp [hmv, hus]) ?_
  rw [if_pos (by simp [hpark, harmed, hvlv])]
  exact ⟨by simp, by simp, fun l => ⟨State.enterBoot_cause _ _ _ (by decide), by simp⟩⟩

theorem cpWake_boots (s : State) (mv us vlv : Nat) (hpark : s.mode = .park) (harmed : s.pins.armed = true) (hmv : 1500 < mv)
    (hus : 5000 ≤ us) (hvlv : 16000 < vlv) :
    Completes (.cpWake mv us vlv) s fun t => t.mode = .boot ∧ ∀ l, (t.leaf l).get GLB_WAKE_CAUSE = 2 :=
  Ends.guardedTrue (by simp [hpark, harmed, hmv, hus, hvlv])
    ⟨State.enterBoot_mode _ _, fun _ => State.enterBoot_cause _ _ _ (by decide)⟩

theorem wakeRelease_keeps_mode (s : State) : Completes .wakeRelease s fun t =>
    t.pins = { s.pins with wake := false } ∧ t.mode = s.mode ∧ ∀ l, (t.leaf l).role = (s.leaf l).role := by
  refine Ends.next ?_
  dsimp only
  split
  · refine ⟨rfl, rfl, fun l => ?_⟩
    cases l <;> (dsimp only [State.both, State.leaf]; split <;> simp)
  · exact ⟨rfl, rfl, fun l => by cases l <;> rfl⟩

theorem supplyLost_falls_back (s : State) (v0 v1 us : Nat) (keep : Bool) (hoff : s.mode ≠ .off) (hpark : s.mode ≠ .park)
    (h0 : v0 < 15000) (h1 : v1 < 15000) (hus : 2000 ≤ us) :
    Completes (.supplyLost v0 v1 us keep) s fun t =>
      t.mode = (if keep then .park else .off) ∧ t.pins.unclean = true ∧ t.pins.vlv = false ∧
        ∀ l, (t.leaf l).ldg.ring = (s.leaf l).ldg.ring := by
  refine Ends.guardedTrue (by simp [hoff, hpark, h0, h1, hus]) ⟨by simp, ?_, ?_, fun l => ?_⟩
  · simp [State.failSupplies_pins, hoff, hpark]
  · simp [State.failSupplies_pins]
  · rw [State.failSupplies_ring]
    cases l <;> rfl

theorem allSuppliesLost_offs (s : State) : Completes .allSuppliesLost s fun t =>
    t.mode = .off ∧ t.pins.keep = false ∧ ∀ l, (t.leaf l).ldg.ring = (s.leaf l).ldg.ring := by
  refine Ends.next ⟨by simp, by simp [State.failSupplies_pins], fun l => ?_⟩
  rw [State.failSupplies_ring]
  cases l <;> rfl

/-- Settles O5: each supply and wake command names the module state it goes to, by way of `resetAll` and `enterBoot`. -/
theorem suppliesAndWake : Obligations.supplies_and_wake :=
  ⟨supplyApplied_parks, wake_boots, cpWake_boots, wakeRelease_keeps_mode, supplyLost_falls_back, allSuppliesLost_offs⟩

end Sys2Proof.Machine
end

section
/-! The end of BOOT (R5, R592, R593, R599). -/

namespace Sys2Proof.Machine

open Sys2Proof

/-! ### What the parts of BOOT leave -/

@[simp] theorem State.settlePair_mode (s : State) (i now : Nat) : (s.settlePair i now).mode = s.mode := rfl

@[simp] theorem State.latchPair_mode (s : State) (e : Nat) : (s.latchPair e).mode = s.mode := rfl

@[simp] theorem State.bootChan_mode (s : State) (i : Nat) (b : BootChan) : (s.bootChan i b).mode = s.mode := by
  simp only [State.bootChan, apply_ite State.mode, State.latchPair_mode, State.settlePair_mode]
  simp [State.setChan]

@[simp] theorem State.bootOut_mode (s : State) (l : LeafId) (k : Nat) : (s.bootOut l k).mode = s.mode := by
  simp [State.bootOut]

/-- The leaf that fails a step of BOOT is OUT; its partner keeps its role (R599). -/
theorem State.bootOut_role (s : State) (l m : LeafId) (k : Nat) :
    ((s.bootOut l k).leaf m).role = if m = l then .out else (s.leaf m).role := by
  cases l <;> cases m <;> rfl

/-- A leaf whose self-test fails twice passes no further step (R592). -/
theorem Leaf.bootSteps_bist_fails (L : Leaf) (ev : Bool) (r : BootLeaf) (h : r.bist = false) (h' : r.bistRepeat = false) :
    (L.bootSteps ev r).2 = some 0 := by
  simp [Leaf.bootSteps, h, h']

/-! ### Roles of a leaf that carries alone -/

@[simp] theorem Leaf.setEState_role (L : Leaf) (b st : Nat) (fine : Fine) : (L.setEState b st fine).role = L.role := by
  unfold Leaf.setEState
  split
  · rfl
  · dsimp only [Leaf.canEntry]
    rw [Leaf.produce_parts]
    rfl

@[simp] theorem Leaf.setVoice_role (L : Leaf) (b : Nat) (h : LeafId) : (L.setVoice b h).role = L.role := by
  dsimp only [Leaf.setVoice]
  split
  · rfl
  · split <;> simp

/-- The leaf that carries alone leads, and shows its partner OUT (R593). -/
theorem State.leadAlone_leads (s : State) (l : LeafId) :
    ((s.leadAlone l).leaf l).role = .lead ∧ ((s.leadAlone l).leaf l).get TIE_STAT_PARTNER = 4 := by
  unfold State.leadAlone
  rw [State.leaf_on]
  constructor
  · simp only [Leaf.put_role]
    exact foldl_same Leaf.role _ (fun L b => L.setVoice_role b l) _ _
  · exact Leaf.get_put _ _ _ _ (by decide)

/-! ### What BOOT_COMPLETE leaves -/

/-- A leaf as READY finds it: it answers configuration requests (R457), and the time to READY stands in GLB_STAT (R616). -/
def Leaf.readied (L : Leaf) (ms : Nat) : Leaf :=
  ({ L with hre := { L.hre with crsRetry := false } } : Leaf).put GLB_STAT_READY_MS (min ms 1023)

theorem Leaf.get_readied (L : Leaf) (ms : Nat) : (L.readied ms).get GLB_STAT_READY_MS = min ms 1023 := by
  unfold Leaf.readied
  rw [Leaf.get_put _ _ _ _ (by decide)]
  exact Nat.mod_eq_of_lt (lt_of_le_of_lt (min_le_right _ _) (by decide))

section

variable {s : State} {P : State → Prop} (r0 r1 : BootLeaf) (ch : Vector BootChan 48) (ms : Nat)

/-- Where a leaf passes, both are readied last. -/
theorem execBootComplete_passed (hboot : s.mode = .boot) (hdead : s.pins.bootDead = false) (hreset : s.pins.resetN = false)
    (hpass : (s.leaf0.bootSteps s.variantEv r0).2 = none ∨ (s.leaf1.bootSteps s.variantEv r1).2 = none)
    (hP : ∀ u : State, P { u.both (·.readied ms) with mode := .ready, pins := { u.pins with unclean := false } }) :
    Ends (execBootComplete r0 r1 ch ms s) P := by
  unfold execBootComplete
  refine .guardedTrue (by simp [hboot, hdead, hreset]) ?_
  split
  next L0 f0 p0 =>
  split
  next L1 f1 p1 =>
  rw [p0, p1] at hpass
  have hsome : ¬ (f0.isSome && f1.isSome) = true := by
    rcases hpass with rfl | rfl <;> simp
  extract_lets u₁ u₂ u₃ u₄ pins₁ u₅ u₆ u₇ pins₂
  rw [if_neg hsome]
  exact hP u₆

/-- Where both leaves fail, each is OUT with its step, and the module is dead (R599). -/
theorem execBootComplete_failed {k0 k1 : Nat} (hboot : s.mode = .boot) (hdead : s.pins.bootDead = false)
    (hreset : s.pins.resetN = false) (h0 : (s.leaf0.bootSteps s.variantEv r0).2 = some k0)
    (h1 : (s.leaf1.bootSteps s.variantEv r1).2 = some k1)
    (hP : ∀ u : State, u.mode = .boot → P { (u.bootOut .leaf0 k0).bootOut .leaf1 k1 with
      pins := { ((u.bootOut .leaf0 k0).bootOut .leaf1 k1).pins with bootDead := true } }) :
    Ends (execBootComplete r0 r1 ch ms s) P := by
  unfold execBootComplete
  refine .guardedTrue (by simp [hboot, hdead, hreset]) ?_
  split
  next L0 f0 p0 =>
  split
  next L1 f1 p1 =>
  obtain rfl : f0 = some k0 := by rwa [p0] at h0
  obtain rfl : f1 = some k1 := by rwa [p1] at h1
  extract_lets u₁ u₂ u₃ u₄ pins₁ u₅ u₆ u₇ pins₂
  rw [if_pos (by rfl)]
  have hmode : u₂.mode = s.mode := by
    refine foldl_same State.mode _ (fun u i => ?_) _ u₁
    split <;> simp
  exact hP u₂ (hmode.trans hboot)

end

theorem bootComplete_readies (s : State) (r0 r1 : BootLeaf) (ch : Vector BootChan 48) (ms : Nat) (hboot : s.mode = .boot)
    (hdead : s.pins.bootDead = false) (hreset : s.pins.resetN = false)
    (hpass : (s.leaf0.bootSteps s.variantEv r0).2 = none ∨ (s.leaf1.bootSteps s.variantEv r1).2 = none) :
    Completes (.bootComplete r0 r1 ch ms) s fun t => t.mode = .ready ∧ t.pins.unclean = false ∧
      ∀ l, (t.leaf l).hre.crsRetry = false ∧ (t.leaf l).get GLB_STAT_READY_MS = min ms 1023 := by
  refine execBootComplete_passed r0 r1 ch ms hboot hdead hreset hpass fun u => ⟨rfl, rfl, fun l => ?_⟩
  cases l
  · exact ⟨rfl, u.leaf0.get_readied ms⟩
  · exact ⟨rfl, u.leaf1.get_readied ms⟩

theorem bootComplete_dies (s : State) (r0 r1 : BootLeaf) (ch : Vector BootChan 48) (ms : Nat) (hboot : s.mode = .boot)
    (hdead : s.pins.bootDead = false) (hreset : s.pins.resetN = false) (h0 : r0.bist = false) (h0' : r0.bistRepeat = false)
    (h1 : r1.bist = false) (h1' : r1.bistRepeat = false) :
    Completes (.bootComplete r0 r1 ch ms) s fun t =>
      t.mode = .boot ∧ t.pins.bootDead = true ∧ ∀ l, (t.leaf l).role = .out := by
  refine execBootComplete_failed r0 r1 ch ms hboot hdead hreset (s.leaf0.bootSteps_bist_fails _ r0 h0 h0')
    (s.leaf1.bootSteps_bist_fails _ r1 h1 h1') fun u hmode => ?_
  have hrole : ∀ l, (((u.bootOut .leaf0 0).bootOut .leaf1 0).leaf l).role = .out := by
    intro l
    rw [State.bootOut_role, State.bootOut_role]
    cases l <;> rfl
  refine ⟨by simp [hmode], rfl, fun l => ?_⟩
  cases l
  · exact hrole .leaf0
  · exact hrole .leaf1

theorem tieAbsent_leads_alone (s : State) (courses : Nat) (hready : s.mode = .ready) (hwait : 3200 ≤ courses)
    (h0 : s.leaf0.role = .boot) (h1 : s.leaf1.role ≠ .lead) :
    Completes (.tieAbsentAtBoot courses) s fun t => t.leaf0.role = .lead ∧ t.leaf0.get TIE_STAT_PARTNER = 4 := by
  unfold Completes
  dsimp only [exec, execTieAbsentAtBoot]
  rw [if_pos (by simp [h0])]
  refine Ends.guardedTrue (by simp [hready, hwait]) ?_
  rw [if_neg (by simp [LeafId.other, State.leaf, h1])]
  exact s.leadAlone_leads .leaf0

/-- Settles O7: BOOT ends by the first failed steps of the two leaves, and a missing MARK by the leaf that waits. -/
theorem bootEnds : Obligations.boot_ends :=
  ⟨bootComplete_readies, bootComplete_dies, tieAbsent_leads_alone⟩

end Sys2Proof.Machine
end

section
/-! The carry command, the leave command, WORKSHOP and PARK (R5, R589, R595, R596, R598). -/

namespace Sys2Proof.Machine

open Sys2Proof

/-! ### Of the module, the leaves alone change, and no leaf its role -/

/-- Leaves replaced once more are still all that has changed. -/
theorem OnlyLeaves.withLeaves {s t : State} (h : OnlyLeaves s t) (a b : Leaf) :
    OnlyLeaves s { t with leaf0 := a, leaf1 := b } := by
  have hab := congrArg (fun u : State => ({ u with leaf0 := a, leaf1 := b } : State)) h
  exact hab

/-- Of the module, the leaves alone have changed, and each has its role. -/
structure KeepsRoles (s t : State) : Prop where
  onlyLeaves : OnlyLeaves s t
  role : ∀ l, (t.leaf l).role = (s.leaf l).role

namespace KeepsRoles

variable {s t : State} {f : Leaf → Leaf}

theorem mode (h : KeepsRoles s t) : t.mode = s.mode := by
  rw [h.onlyLeaves]

theorem both (h : KeepsRoles s t) (hf : ∀ L, (f L).role = L.role) : KeepsRoles s (t.both f) := by
  refine ⟨h.onlyLeaves.withLeaves _ _, fun l => ?_⟩
  rw [State.leaf_both, hf, h.role]

theorem on (h : KeepsRoles s t) (l : LeafId) (hf : ∀ L, (f L).role = L.role) : KeepsRoles s (t.on l f) := by
  constructor
  · cases l
    · exact h.onlyLeaves.withLeaves (f t.leaf0) t.leaf1
    · exact h.onlyLeaves.withLeaves t.leaf0 (f t.leaf1)
  · intro m
    by_cases hm : m = l
    · rw [hm, State.leaf_on, hf, h.role]
    · rw [State.leaf_on_other _ _ _ _ hm, h.role]

end KeepsRoles

/-! ### Commands taken, sessions opened and closed -/

@[simp] theorem Leaf.takeBit_role (L : Leaf) (off k : Nat) (others : List Nat) : (L.takeBit off k others).2.role = L.role := by
  unfold Leaf.takeBit
  split <;> rfl

theorem KeepsRoles.taken {s t : State} {w : Option Word} {off k : Nat} {others : List Nat}
    (hp : s.takeModule off k others = (w, t)) : KeepsRoles s t := by
  obtain rfl : (s.takeModule off k others).2 = t := by rw [hp]
  exact ⟨rfl, fun l => by cases l <;> exact Leaf.takeBit_role ..⟩

@[simp] theorem Leaf.stick_role (L : Leaf) (f : Fld) (i : Nat) : (L.stick f i).role = L.role := rfl

@[simp] theorem Leaf.storeRecord_role (L : Leaf) (r : LRec) (pending : Bool) : (L.storeRecord r pending).role = L.role := by
  simp only [Leaf.storeRecord, Leaf.onLdg_role, apply_ite Leaf.role, Leaf.put_role, Leaf.bump_role, ite_self]

@[simp] theorem Leaf.writeRecordAs_role (L : Leaf) (typ : Nat) (unclean : Bool) (recno : Nat) (prev : BitVec 256)
    (extra : List (Nat × Nat × Nat)) : (L.writeRecordAs typ unclean recno prev extra).role = L.role := by
  simp only [Leaf.writeRecordAs, apply_ite Leaf.role, Leaf.onLdg_role, Leaf.storeRecord_role, Leaf.stick_role, ite_self]

@[simp] theorem Leaf.writeRecord_role (L : Leaf) (typ : Nat) (extra : List (Nat × Nat × Nat)) (unclean : Bool) :
    (L.writeRecord typ extra unclean).role = L.role := Leaf.writeRecordAs_role ..

@[simp] theorem Leaf.openSession_role (L : Leaf) (kind : Nat) : (L.openSession kind).role = L.role := by
  unfold Leaf.openSession
  split <;> simp

@[simp] theorem Leaf.closeSession_role (L : Leaf) (reason : Nat) : (L.closeSession reason).role = L.role := by
  dsimp only [Leaf.closeSession]
  split <;> simp

/-! ### The commands -/

section

variable {s : State} {P : State → Prop}

/-- The carry command, taken in READY: what it does before the module is in CARRY it does in the leaves (R595). -/
theorem execCarry_taken (hready : s.mode = .ready) (hcmd : (s.takeModule GLB_CMD.base 63 [62, 61]).1.isSome)
    (hP : ∀ u, KeepsRoles s u → P { u with mode := .carry, pins := { u.pins with idleFrom := none } }) :
    Ends (execCarry s) P := by
  unfold execCarry
  split
  next hp => simp [hp] at hcmd
  next w t hp =>
    have taken : KeepsRoles s t := .taken hp
    have hmode : t.mode = .ready := taken.mode.trans hready
    rw [if_neg (by simp [hmode])]
    extract_lets u v pins
    have locked : KeepsRoles s u := taken.both fun _ => rfl
    have opened : KeepsRoles s v := by
      clear_value u
      dsimp only [v]
      split
      · exact locked.on _ fun L => L.openSession_role 1
      · exact locked
    exact Ends.next (hP v opened)

/-- The leave command, taken in CARRY (R596). -/
theorem execLeave_taken (hcarry : s.mode = .carry) (hcmd : (s.takeModule GLB_CMD.base 62 [63, 61]).1.isSome)
    (hP : ∀ u, KeepsRoles s u → P { u with mode := .ready }) : Ends (execLeave s) P := by
  unfold execLeave
  split
  next hp => simp [hp] at hcmd
  next w t hp =>
    have taken : KeepsRoles s t := .taken hp
    have hmode : t.mode = .carry := taken.mode.trans hcarry
    rw [if_neg (by simp [hmode])]
    extract_lets v
    have closed : KeepsRoles s v := by
      dsimp only [v]
      split
      · exact taken.on _ fun L => L.closeSession_role 0
      · exact taken
    exact Ends.next (hP v closed)

end

theorem carry_enters_carry (s : State) (hready : s.mode = .ready)
    (hcmd : (s.takeModule GLB_CMD.base 63 [62, 61]).1.isSome) :
    Completes .carry s fun t => t.mode = .carry ∧ t.pins.idleFrom = none ∧
      OnlyLeaves s { t with mode := s.mode, pins := s.pins } ∧ ∀ l, (t.leaf l).role = (s.leaf l).role := by
  refine execCarry_taken hready hcmd fun u hu => ⟨rfl, rfl, ?_, fun l => ?_⟩
  · have h := congrArg (fun v : State => ({ v with mode := s.mode, pins := s.pins } : State)) hu.onlyLeaves
    exact h
  · rw [← hu.role l]
    cases l <;> rfl

theorem leave_enters_ready (s : State) (hcarry : s.mode = .carry)
    (hcmd : (s.takeModule GLB_CMD.base 62 [63, 61]).1.isSome) :
    Completes .leave s fun t => t.mode = .ready ∧ OnlyLeaves s { t with mode := s.mode } ∧
      ∀ l, (t.leaf l).role = (s.leaf l).role := by
  refine execLeave_taken hcarry hcmd fun u hu => ⟨rfl, ?_, fun l => ?_⟩
  · have h := congrArg (fun v : State => ({ v with mode := s.mode } : State)) hu.onlyLeaves
    exact h
  · rw [← hu.role l]
    cases l <;> rfl

theorem workshopEntry_enters_workshop (s : State) (hready : s.mode = .ready) (hright : s.right 0 = true) :
    Completes .workshopEntry s fun t => t.mode = .workshop ∧ t.leaf0 = s.leaf0 ∧ t.leaf1 = s.leaf1 ∧ t.chans = s.chans :=
  Ends.guardedTrue (by simp [hready, hright]) ⟨rfl, rfl, rfl, rfl⟩

theorem workshopExit_enters_ready (s : State) (hworkshop : s.mode = .workshop) :
    exec .workshopExit s = .next { s with mode := .ready } := by
  show execWorkshopExit s = _
  simp [execWorkshopExit, guarded, hworkshop]

/-- PARK is a module reset, whatever the leaves have signed and archived before (R589). -/
theorem parkEntry_parks (s : State) (sigs : List (BitVec 512)) (c : Course) (hready : s.mode = .ready)
    (hwake : s.pins.wake = false) (hidle : s.pins.idleFrom = some c) (hlong : 160000 ≤ since s.leaf0.count c) :
    Completes (.parkEntry sigs) s fun t => t.mode = .park ∧ t.pins.armed = true ∧ t.pins.idleFrom = none ∧
      ∀ l, (t.leaf l).role = .boot :=
  Ends.guardedTrue (by simp [hready, hwake, hidle, hlong])
    ⟨State.resetAll_mode .., by rw [State.resetAll_pins]; rfl, by rw [State.resetAll_pins],
      fun l => by rw [State.resetAll_leaf, Leaf.moduleReset_role]⟩

/-- Settles O8: each command names the module state it goes to; the carry and the leave command work in the leaves alone. -/
theorem moduleStates : Obligations.module_states :=
  ⟨carry_enters_carry, leave_enters_ready, workshopEntry_enters_workshop, workshopExit_enters_ready, parkEntry_parks⟩

end Sys2Proof.Machine
end

section
/-! Reads of registers (R10, R12, R13). -/

namespace Sys2Proof.Machine

open Sys2Proof

/-- An access of a session is noted in the session alone (R610). -/
theorem State.touch_parts (s : State) (who : Nat) : s.touch who = { s with sec := (s.touch who).sec } := by
  unfold State.touch
  split <;> rfl

@[simp] theorem State.touch_leaf (s : State) (who : Nat) (l : LeafId) : (s.touch who).leaf l = s.leaf l := by
  rw [State.touch_parts]
  cases l <;> rfl

@[simp] theorem State.touch_mode (s : State) (who : Nat) : (s.touch who).mode = s.mode := by rw [State.touch_parts]

@[simp] theorem State.touch_right (s : State) (who k : Nat) : (s.touch who).right k = s.right k := by
  unfold State.touch
  split <;> rfl

/-- What a register shows does not depend on when the session was last used. -/
@[simp] theorem State.touch_shown (s : State) (who : Nat) (l : LeafId) (r : Reg) (i : Nat) :
    (s.touch who).shown l r i = s.shown l r i := by
  unfold State.touch
  split
  · cases l <;> rfl
  · rfl

/-- A read clears nothing of a register without an RC field (R13). -/
theorem Leaf.clearRead_of_noRc (L : Leaf) (r : Reg) (i : Nat) (lanes : Word) (h : r.hasAcc .rc = false) :
    L.clearRead r i lanes = L := by
  have hnone : ∀ f ∈ r.fields, (f.acc == Access.rc) = false := by simpa [Reg.hasAcc] using h
  have hmask : r.fields.foldl (fun m f =>
      if f.acc == .rc && maskOf f.hi f.lo &&& lanes != 0 then m ||| maskOf f.hi f.lo else m) (0#64) = 0 := by
    refine List.foldlRecOn (motive := (· = 0)) _ _ rfl fun m hm f hf => ?_
    rw [if_neg (by simp [hnone f hf]), hm]
  unfold Leaf.clearRead
  exact if_pos hmask

theorem registerWrite_aborts (s : State) (l : LeafId) (a : RegAccess) (hmay : s.mayAccess l a.off a.who true = true)
    (hsize : sizeOk a.off a.size = false) : exec (.registerWrite l a) s = .next { s with readData := none } := by
  show execRegisterWrite l a s = _
  unfold execRegisterWrite
  rw [if_neg (by simp [hmay]), if_pos (by simp [hsize])]

theorem rcRead_aborts (s : State) (l : LeafId) (off size : Nat) (who : Ident) (hmay : s.mayAccess l off who false = true)
    (hsize : sizeOk off size = false) : exec (.rcRead l off size who) s = .next { s with readData := none } := by
  show execRcRead l off size who s = _
  unfold execRcRead
  rw [if_neg (by simp [hmay]), if_pos (by simp [hsize])]

theorem laneRead_zero (off size : Nat) : laneRead off size 0 = 0 := by
  unfold laneRead
  split
  · rfl
  · split <;> simp

/-- A read of an unassigned offset gives 0 and changes no leaf (R12). -/
theorem rcRead_unassigned (s : State) (l : LeafId) (off size : Nat) (who : Ident)
    (hmay : s.mayAccess l off who false = true) (hsize : sizeOk off size = true) (hfind : findReg (off - off % 8) = none)
    (hvec : ¬ (0x10C000 ≤ off - off % 8 ∧ off - off % 8 < 0x10C200)) (hpba : off - off % 8 ≠ 0x10D000) :
    Completes (.rcRead l off size who) s fun t => t.readData = some 0 ∧ t.leaf0 = s.leaf0 ∧ t.leaf1 = s.leaf1 := by
  unfold Completes
  dsimp only [exec, execRcRead]
  rw [if_neg (by simp [hmay]), if_neg (by simp [hsize]),
    if_neg (by simp only [hvec, hpba, or_self, not_false_eq_true]), hfind]
  exact Ends.next ⟨by rw [laneRead_zero], s.touch_leaf who .leaf0, s.touch_leaf who .leaf1⟩

/-- A whole read of a register without RC fields gives what the register shows, and changes no leaf (R13). -/
theorem rcRead_shows (s : State) (l : LeafId) (off : Nat) (who : Ident) (r : Reg) (i : Nat)
    (hmay : s.mayAccess l off who false = true) (halign : off % 8 = 0) (hvec : ¬ (0x10C000 ≤ off ∧ off < 0x10C200))
    (hpba : off ≠ 0x10D000) (hfind : findReg off = some (r, i)) (hbist : (s.leaf l).bst.fullAt = none)
    (hown : r ∉ [CRS_COUNT, LOCK, BST_DDATA]) (hchan : channelOf r i = none) (hrc : r.hasAcc .rc = false) :
    Completes (.rcRead l off 8 who) s fun t =>
      t.readData = some (s.shown l r i) ∧ t.leaf0 = s.leaf0 ∧ t.leaf1 = s.leaf1 := by
  have hsize : sizeOk off 8 = true := by simp [sizeOk, halign]
  unfold Completes
  dsimp only [exec, execRcRead]
  rw [if_neg (by simp [hmay]), if_neg (by simp [hsize]), halign, Nat.sub_zero,
    if_neg (by simp only [hvec, hpba, or_self, not_false_eq_true]), hfind]
  dsimp only
  rw [if_neg (by simp [hbist]), if_neg (by simpa using hown), hchan]
  have hsame : ((s.touch who).on l fun L => L.clearRead r i (laneMask off 8)) = s.touch who := by
    rw [State.on, Leaf.clearRead_of_noRc _ _ _ _ hrc, State.setLeaf_leaf]
  dsimp only
  rw [hsame, State.touch_shown]
  exact Ends.next ⟨rfl, s.touch_leaf who .leaf0, s.touch_leaf who .leaf1⟩

/-- Settles O9: the refusal of R10, the unassigned offsets of R12, and the reads that clear nothing. -/
theorem registerReads : Obligations.register_reads :=
  ⟨registerWrite_aborts, rcRead_aborts, rcRead_unassigned, rcRead_shows⟩

end Sys2Proof.Machine
end

section
/-! The fields of a settings register: what a write stores in each (R13). -/

namespace Sys2Proof.Machine

open Sys2Proof

/-- Two fields with no bit in common. -/
abbrev RField.Apart (f g : RField) : Prop := f.hi < g.lo ∨ g.hi < f.lo

/-- A field within its register, with a range within the field. -/
abbrev RField.Fits (f : RField) : Prop := f.hi < 64 ∧ f.min < 2 ^ (f.hi + 1 - f.lo) ∧ f.max < 2 ^ (f.hi + 1 - f.lo)

theorem RField.Apart.symm {f g : RField} (h : f.Apart g) : g.Apart f := Or.symm h

/-- The register map: the fields of a register share no bit, and each fits. -/
theorem allRegs_fields : ∀ r ∈ allRegs,
    r.fields.Pairwise RField.Apart ∧ ∀ f ∈ r.fields, f.Fits := by
  decide +kernel

/-- One field of a settings write: the step of `mergeRws`. -/
def mergeField (r : Reg) (i : Nat) (new w : Word) (f : RField) : Word :=
  if (f.acc == .rws || f.acc == .rw) && !heldField r i f then
    setField w f.hi f.lo (clampNat f.min f.max (fieldOf new f.hi f.lo))
  else w

theorem mergeRws_eq_foldl (r : Reg) (i : Nat) (old new : Word) :
    mergeRws r i old new = r.fields.foldl (mergeField r i new) old := rfl

section

variable (r : Reg) (i : Nat) (new w : Word) {f g : RField}

theorem mergeField_readOnly (hrws : f.acc ≠ .rws) (hrw : f.acc ≠ .rw) : mergeField r i new w f = w := by
  simp [mergeField, hrws, hrw]

/-- A field apart from the one merged keeps its value. -/
theorem fieldOf_mergeField_apart (h : g.Apart f) : fieldOf (mergeField r i new w g) f.hi f.lo = fieldOf w f.hi f.lo := by
  unfold mergeField
  split
  · exact fieldOf_setField_other _ _ _ _ _ _ h
  · rfl

theorem clampNat_lt {lo hi v n : Nat} (hlo : lo < n) (hhi : hi < n) : clampNat lo hi v < n := by
  unfold clampNat
  split
  · exact hlo
  · split <;> omega

/-- The field merged takes the value written, or the nearer limit of its range. -/
theorem fieldOf_mergeField_same (hrws : f.acc = .rws) (hheld : heldField r i f = false) (hfits : f.Fits) :
    fieldOf (mergeField r i new w f) f.hi f.lo = clampNat f.min f.max (fieldOf new f.hi f.lo) := by
  obtain ⟨hhi, hmin, hmax⟩ := hfits
  unfold mergeField
  rw [if_pos (by simp [hrws, hheld]), fieldOf_setField_same _ _ _ _ hhi]
  exact Nat.mod_eq_of_lt (clampNat_lt hmin hmax)

/-- Fields that each leave the value of one, merged one after the other, leave it. -/
theorem fieldOf_foldl_mergeField (fs : List RField)
    (h : ∀ g ∈ fs, ∀ w, fieldOf (mergeField r i new w g) f.hi f.lo = fieldOf w f.hi f.lo) :
    fieldOf (fs.foldl (mergeField r i new) w) f.hi f.lo = fieldOf w f.hi f.lo :=
  List.foldlRecOn (motive := fun u => fieldOf u f.hi f.lo = fieldOf w f.hi f.lo) _ _ rfl
    fun u hu g hg => (h g hg u).trans hu

end

/-- A settings field of a register written takes the value written, or the nearer limit of its range. -/
theorem fieldOf_mergeRws_settings (r : Reg) (i : Nat) (f : RField) (old new : Word) (hr : r ∈ allRegs) (hf : f ∈ r.fields)
    (hrws : f.acc = .rws) (hheld : heldField r i f = false) :
    fieldOf (mergeRws r i old new) f.hi f.lo = clampNat f.min f.max (fieldOf new f.hi f.lo) := by
  obtain ⟨hapart, hfits⟩ := allRegs_fields r hr
  obtain ⟨before, later, hsplit⟩ := List.append_of_mem hf
  rw [hsplit, List.pairwise_append, List.pairwise_cons] at hapart
  obtain ⟨-, ⟨hlater, -⟩, -⟩ := hapart
  rw [mergeRws_eq_foldl, hsplit, List.foldl_append, List.foldl_cons, fieldOf_foldl_mergeField]
  · exact fieldOf_mergeField_same r i new _ hrws hheld (hfits f hf)
  · exact fun g hg w => fieldOf_mergeField_apart r i new w (RField.Apart.symm (hlater g hg))

/-- Any other field of the register keeps its value. -/
theorem fieldOf_mergeRws_other (r : Reg) (i : Nat) (f : RField) (old new : Word) (hr : r ∈ allRegs) (hf : f ∈ r.fields)
    (hrws : f.acc ≠ .rws) (hrw : f.acc ≠ .rw) : fieldOf (mergeRws r i old new) f.hi f.lo = fieldOf old f.hi f.lo := by
  obtain ⟨hapart, -⟩ := allRegs_fields r hr
  rw [mergeRws_eq_foldl]
  refine fieldOf_foldl_mergeField r i new old r.fields fun g hg w => ?_
  by_cases hgf : g = f
  · rw [hgf, mergeField_readOnly r i new w hrws hrw]
  · have hsymm : Std.Symm RField.Apart := ⟨fun _ _ => RField.Apart.symm⟩
    exact fieldOf_mergeField_apart r i new w (hapart.forall hg hf hgf)

end Sys2Proof.Machine
end

section
/-! Direct writes of settings registers (R13). -/

namespace Sys2Proof.Machine

open Sys2Proof

/-! ### Registers kept -/

theorem KeepsRegs.rfl {L : Leaf} {but : List Nat} : KeepsRegs L L but := fun _ _ => Eq.refl _

theorem KeepsRegs.setWord {L L' : Leaf} {but : List Nat} (h : KeepsRegs L L' but) {r : Reg} {i : Nat} {w : Word}
    (hmem : r.addr i ∈ but) : KeepsRegs L (L'.setWord r i w) but := by
  intro off hoff
  rw [← h off hoff]
  exact kvFind_kvPut_other _ _ _ _ fun heq => hoff (heq ▸ hmem)

/-- An entry for an output ring writes no register but the two that count and show a dropped one (R475). -/
theorem Leaf.produce_keepsRegs (L : Leaf) (e : OutEntry) : KeepsRegs L (L.produce e) reportRegs := by
  have dropped : ∀ n, KeepsRegs L (L.dropEntry n) reportRegs := fun n =>
    KeepsRegs.setWord (KeepsRegs.setWord (fun _ _ => Eq.refl _) (by simp [reportRegs, HRE_CNT_DROP]))
      (by simp [reportRegs, HRE_ERR_DROP])
  unfold Leaf.produce
  split
  · exact .rfl
  · split
    · split
      · exact dropped _
      · exact .rfl
    · split
      · exact dropped _
      · exact .rfl

/-! ### A plain settings register -/

/-- The settings registers with no other effect of a write are no others that the write of a register names. -/
theorem plainSetting_cases {r : Reg} (h : plainSetting r = true) :
    r.hasAcc .rws = true ∧ r.hasAcc .w1c = false ∧ ownRow r = false ∧ madeAtWorks r = 0 ∧
      r ∉ [TRC_SETCFG, GCH_CFG, GCH_PROT, LNK_OV, LNK_SCALE, LNK_ASCALE, CHG_SCALE, LDG_CAL, LDG_PACK, ACT_CTRL, ACT_CFG,
        HRE_IRCFG, THM_NTC] := by
  simpa [plainSetting, and_assoc] using h

/-- The command registers hold no settings. -/
theorem commandRegs_noRws : ∀ r ∈ [GLB_CMD, UPD_CMD, TIE_CMD], r.hasAcc .rws = false := by decide

/-- A plain settings register is stored with nothing tied to its change. -/
theorem Leaf.storeRws_plain (L : Leaf) (r : Reg) (i : Nat) (new : Word) (c : Course) (h : plainSetting r = true) :
    L.storeRws r i new c =
      if L.fitRws r i (L.word r i) (mergeRws r i (L.word r i) new) = L.word r i then L
      else L.setWord r i (L.fitRws r i (L.word r i) (mergeRws r i (L.word r i) new)) := by
  obtain ⟨-, -, -, -, hno⟩ := plainSetting_cases h
  simp only [List.mem_cons, List.not_mem_nil, or_false, not_or] at hno
  unfold Leaf.storeRws
  simp only [beq_iff_eq, Bool.or_eq_true, hno, or_self, if_false]

section

variable (L : Leaf) (r : Reg) (i : Nat) (new : Word) (c : Course) (h : plainSetting r = true)

include h

theorem Leaf.storeRws_plain_word :
    (L.storeRws r i new c).word r i = L.fitRws r i (L.word r i) (mergeRws r i (L.word r i) new) := by
  rw [L.storeRws_plain r i new c h]
  split
  next hsame => exact hsame.symm
  next => exact Leaf.word_setWord ..

theorem Leaf.storeRws_plain_parts : L.storeRws r i new c = { L with regs := (L.storeRws r i new c).regs } := by
  rw [L.storeRws_plain r i new c h]
  split <;> rfl

theorem Leaf.storeRws_plain_keepsRegs : KeepsRegs L (L.storeRws r i new c) [r.addr i] := by
  rw [L.storeRws_plain r i new c h]
  split
  · exact .rfl
  · exact KeepsRegs.rfl.setWord (by simp)

end

/-- In the state that may take it, an admitted value of a plain settings register is stored. -/
theorem State.writeRws_plain (s : State) (l : LeafId) (r : Reg) (i : Nat) (new : Word) (who : Nat)
    (h : plainSetting r = true) (hadmit : (s.leaf l).refuseRws r i new = none) :
    s.writeRws l r i new who = s.setLeaf l ((s.leaf l).storeRws r i new (s.leaf l).count) := by
  obtain ⟨-, -, -, -, hno⟩ := plainSetting_cases h
  simp only [List.mem_cons, List.not_mem_nil, or_false, not_or] at hno
  simp [State.writeRws, hno, hadmit]

/-- A whole write of a plain settings register: stored in READY and WORKSHOP, discarded in CARRY (R13). -/
theorem State.writeReg_plain (s : State) (l : LeafId) (r : Reg) (i off : Nat) (v : Word) (who : Nat)
    (h : plainSetting r = true) :
    s.writeReg l r i off 8 v who =
      if s.setup then s.writeRws l r i v who
      else if s.mode == .carry then s.setLeaf l ((s.leaf l).discard (r.addr i) who v.toNat)
      else s := by
  obtain ⟨hrws, hw1c, hown, hworks, -⟩ := plainSetting_cases h
  have hcmd : ¬ (r == GLB_CMD || r == UPD_CMD || r == TIE_CMD) = true := by
    intro hc
    have hmem : r ∈ [GLB_CMD, UPD_CMD, TIE_CMD] := by simpa [or_assoc] using hc
    simp [commandRegs_noRws r hmem] at hrws
  have hlanes : laneMask off 8 = BitVec.allOnes 64 := rfl
  have hvalue : laneValue off 8 v = v := by simp [laneValue]
  unfold State.writeReg
  simp only [hlanes, hvalue, BitVec.not_allOnes, BitVec.and_zero, BitVec.and_allOnes, BitVec.zero_or]
  simp [hcmd, hown, hworks, hw1c, hrws]

/-- The host's access to its own leaf, whole and of a register: the write of the register, noted in the session alone. -/
theorem execRegisterWrite_host (s : State) (l : LeafId) (a : RegAccess) (r : Reg) (i : Nat)
    (hmay : s.mayAccess l a.off a.who true = true) (hhost : a.who.val = hostId l) (hsize : a.size = 8)
    (halign : a.off % 8 = 0) (hvec : ¬ (0x10C000 ≤ a.off ∧ a.off < 0x10C200)) (hfind : findReg a.off = some (r, i))
    (hbist : (s.leaf l).bst.fullAt = none) :
    execRegisterWrite l a s = .next ((s.touch a.who).writeReg l r i a.off 8 a.value a.who) := by
  have hok : sizeOk a.off a.size = true := by simp [sizeOk, hsize, halign]
  have htool : ¬ (a.who.val == 5 || a.who.val == 7) = true := by
    rw [hhost]
    cases l <;> decide
  unfold execRegisterWrite
  rw [if_neg (by simp [hmay]), if_neg (by simp [hok])]
  dsimp only
  rw [if_neg htool, if_neg (by simp [hbist]), if_neg hvec, halign, Nat.sub_zero, hfind, hsize]

/-- The state that such an access leaves differs from the one before by the leaf and the session. -/
theorem onlyLeaf_of_touch (s : State) (who : Nat) (l : LeafId) (L : Leaf) :
    OnlyLeaf l { s with sec := ((s.touch who).setLeaf l L).sec } ((s.touch who).setLeaf l L) := by
  rw [State.setLeaf_sec, ← State.touch_parts]
  exact .setLeaf

theorem registerWrite_stores (s : State) (l : LeafId) (a : RegAccess) (r : Reg) (i : Nat)
    (hmode : s.mode = .ready ∨ s.mode = .workshop) (hmay : s.mayAccess l a.off a.who true = true)
    (hhost : a.who.val = hostId l) (hsize : a.size = 8) (halign : a.off % 8 = 0)
    (hvec : ¬ (0x10C000 ≤ a.off ∧ a.off < 0x10C200)) (hfind : findReg a.off = some (r, i))
    (hbist : (s.leaf l).bst.fullAt = none) (hplain : plainSetting r = true)
    (hadmit : (s.leaf l).refuseRws r i a.value = none) :
    Completes (.registerWrite l a) s fun t =>
      OnlyLeaf l { s with sec := t.sec } t ∧
      (t.leaf l).word r i = (s.leaf l).fitRws r i ((s.leaf l).word r i) (mergeRws r i ((s.leaf l).word r i) a.value) ∧
      t.leaf l = { s.leaf l with regs := (t.leaf l).regs } ∧ KeepsRegs (s.leaf l) (t.leaf l) [r.addr i] := by
  have hsetup : (s.touch a.who).setup = true := by
    rw [State.setup, State.touch_mode]
    rcases hmode with hm | hm <;> simp [hm]
  refine ⟨_, execRegisterWrite_host s l a r i hmay hhost hsize halign hvec hfind hbist, ?_⟩
  rw [State.writeReg_plain _ _ _ _ _ _ _ hplain, if_pos hsetup,
    State.writeRws_plain _ _ _ _ _ _ hplain (by rw [State.touch_leaf]; exact hadmit), State.touch_leaf]
  refine ⟨onlyLeaf_of_touch .., ?_⟩
  rw [State.leaf_setLeaf]
  exact ⟨Leaf.storeRws_plain_word _ _ _ _ _ hplain, Leaf.storeRws_plain_parts _ _ _ _ _ hplain,
    Leaf.storeRws_plain_keepsRegs _ _ _ _ _ hplain⟩

theorem registerWrite_discards (s : State) (l : LeafId) (a : RegAccess) (r : Reg) (i : Nat)
    (hcarry : s.mode = .carry) (hmay : s.mayAccess l a.off a.who true = true)
    (hhost : a.who.val = hostId l) (hsize : a.size = 8) (halign : a.off % 8 = 0)
    (hvec : ¬ (0x10C000 ≤ a.off ∧ a.off < 0x10C200)) (hfind : findReg a.off = some (r, i))
    (hbist : (s.leaf l).bst.fullAt = none) (hplain : plainSetting r = true) :
    Completes (.registerWrite l a) s fun t =>
      OnlyLeaf l { s with sec := t.sec } t ∧ KeepsRegs (s.leaf l) (t.leaf l) reportRegs ∧
      t.leaf l = { s.leaf l with regs := (t.leaf l).regs, hre := (t.leaf l).hre } := by
  have hsetup : ¬ (s.touch a.who).setup = true := by
    rw [State.setup, State.touch_mode]
    simp [hcarry]
  refine ⟨_, execRegisterWrite_host s l a r i hmay hhost hsize halign hvec hfind hbist, ?_⟩
  rw [State.writeReg_plain _ _ _ _ _ _ _ hplain, if_neg hsetup, if_pos (by simp [hcarry]), State.touch_leaf]
  refine ⟨onlyLeaf_of_touch .., ?_⟩
  rw [State.leaf_setLeaf]
  exact ⟨Leaf.produce_keepsRegs _ _, Leaf.event_parts ..⟩

/-- Settles O10: a plain settings register takes the merged and fitted value in READY and WORKSHOP, an event alone in CARRY;
the merge is field by field, for the fields of a register share no bit. -/
theorem settingsWrites : Obligations.settings_writes :=
  ⟨registerWrite_stores, registerWrite_discards, fieldOf_mergeRws_settings, fieldOf_mergeRws_other⟩

end Sys2Proof.Machine
end

section
/-! Members of a table, fields counted, and changes to a leaf's registers alone. -/

namespace Sys2Proof.Machine

open Sys2Proof

/-! ### Members of a table -/

section

variable {α : Type} [Inhabited α] {n : Nat} (v : Vector α n)

theorem pick_setIfInBounds_same (i : Nat) (a : α) (h : i < n) : pick (v.setIfInBounds i a) i = a := by
  simp [pick, h]

theorem pick_setIfInBounds_other (i j : Nat) (a : α) (h : j ≠ i) : pick (v.setIfInBounds i a) j = pick v j := by
  simp [pick, h.symm]

theorem pick_alter_same (i : Nat) (f : α → α) (h : i < n) : pick (alter v i f) i = f (pick v i) :=
  pick_setIfInBounds_same v i _ h

theorem pick_map {β : Type} [Inhabited β] (f : α → β) (i : Nat) (h : i < n) : pick (v.map f) i = f (pick v i) := by
  simp [pick, h]

theorem pick_ofFn (f : Fin n → α) (i : Nat) (h : i < n) : pick (Vector.ofFn f) i = f ⟨i, h⟩ := by
  simp [pick, h]

end

/-! ### Counters and named bits -/

/-- A counter raised by one reads one more, up to its largest value. -/
theorem Leaf.get_bump (L : Leaf) (f : Fld) (i : Nat) (h : f.hi < 64) : (L.bump f i).get f i = min (L.get f i + 1) f.max := by
  unfold Leaf.bump Leaf.bumpBy
  rw [Leaf.get_put _ _ _ _ h]
  apply Nat.mod_eq_of_lt
  exact lt_of_le_of_lt (min_le_right _ _) (Nat.sub_lt (Nat.two_pow_pos _) Nat.one_pos)

/-- A field of another register, after a counter was raised. -/
theorem Leaf.get_bump_other (L : Leaf) (f g : Fld) (i j : Nat) (h : g.reg.addr j ≠ f.reg.addr i) :
    (L.bump f i).get g j = L.get g j := Leaf.get_put_other L f g _ i j h

/-! ### Registers alone -/

/-- Of a leaf, registers alone have changed. -/
def RegsOnly (L L' : Leaf) : Prop := L' = { L with regs := L'.regs }

namespace RegsOnly

variable {L M N : Leaf}

theorem rfl : RegsOnly L L := Eq.refl L

theorem setWord (h : RegsOnly L M) {r : Reg} {i : Nat} {w : Word} : RegsOnly L (M.setWord r i w) := by
  have hset := congrArg (fun K : Leaf => { K with regs := (M.setWord r i w).regs }) h
  exact hset

theorem put (h : RegsOnly L M) {f : Fld} {v i : Nat} : RegsOnly L (M.put f v i) := h.setWord

theorem bump (h : RegsOnly L M) {f : Fld} {i : Nat} : RegsOnly L (M.bump f i) := h.put

theorem ite {c : Prop} [Decidable c] (hM : RegsOnly L M) (hN : RegsOnly L N) : RegsOnly L (if c then M else N) := by
  split
  · exact hM
  · exact hN

theorem foldl {α : Type} {f : Leaf → α → Leaf} {xs : List α} (h : RegsOnly L M)
    (hf : ∀ K a, RegsOnly L K → RegsOnly L (f K a)) : RegsOnly L (xs.foldl f M) :=
  foldl_keeps (RegsOnly L) f hf xs M h

end RegsOnly

/-- Tests stopped show it in their registers (R114, R129). -/
theorem Leaf.abortTests_regsOnly (L : Leaf) (want : Nat → Bool) (reason : Nat) : RegsOnly L (L.abortTests want reason) :=
  .foldl .rfl fun _ _ h => .ite h.put.put h

/-- A channel answered or freed shows it in its registers (R492). -/
theorem RegsOnly.mbMove {L M : Leaf} (h : RegsOnly L M) {c st sender : Nat} : RegsOnly L (M.mbMove c st sender) :=
  h.put.put.put.put.put

/-- What a leaf loses with a master stands in its mailbox and lock registers (R496, R501). -/
theorem Leaf.masterLost_regsOnly (L : Leaf) (who : Nat) : RegsOnly L (L.masterLost who) :=
  .foldl (.foldl .rfl fun _ _ h => .ite h (.ite h.mbMove.bump (.ite h.mbMove.put.put h))) fun _ _ h => .ite h.put.bump h

end Sys2Proof.Machine
end

section
/-! Mismatches and memory errors of the engines (R25, R77, R78). -/

namespace Sys2Proof.Machine

open Sys2Proof

/-! ### Pairs and engines -/

@[simp] theorem Leaf.onPair_regs (L : Leaf) (p : Nat) (f : PairX → PairX) : (L.onPair p f).regs = L.regs := rfl

@[simp] theorem Leaf.onPair_cut (L : Leaf) (p : Nat) (f : PairX → PairX) : (L.onPair p f).cut = L.cut := rfl

theorem Leaf.pairx_onPair (L : Leaf) (p : Fin 8) (f : PairX → PairX) : (L.onPair p f).pairx p = f (L.pairx p) :=
  pick_alter_same L.ash.pairs p f p.isLt

theorem Leaf.eng_onEng (L : Leaf) (e : Fin 24) (f : Engine → Engine) : (L.onEng e f).eng e = f (L.eng e) :=
  pick_alter_same L.ash.engines e f e.isLt

/-- A hand-over wanted is queued, and nothing else changes (R79). -/
theorem Leaf.wantHandover_parts (L : Leaf) (order block : Nat) :
    L.wantHandover order block = L.onAsh fun A => { A with waiting := (L.wantHandover order block).ash.waiting } := by
  unfold Leaf.wantHandover
  split <;> rfl

@[simp] theorem Leaf.wantHandover_regs (L : Leaf) (order block : Nat) : (L.wantHandover order block).regs = L.regs := by
  rw [Leaf.wantHandover_parts, Leaf.onAsh_regs]

@[simp] theorem Leaf.wantHandover_cut (L : Leaf) (order block : Nat) : (L.wantHandover order block).cut = L.cut := by
  rw [Leaf.wantHandover_parts, Leaf.onAsh_cut]

@[simp] theorem Leaf.wantHandover_pairx (L : Leaf) (order block p : Nat) :
    (L.wantHandover order block).pairx p = L.pairx p := by
  rw [Leaf.wantHandover_parts]
  rfl

/-! ### A leaf that falls silent -/

/-- A computing leaf that falls silent has its outputs cut, or had (R427). -/
theorem Leaf.goSilent_cut (L : Leaf) (cause tick : Nat) (h : L.computing = true) : (L.goSilent cause tick).cut = true := by
  unfold Leaf.goSilent
  split
  next hstays => simpa [h] using hstays
  next => rfl

theorem Leaf.pairLasting_cut (L : Leaf) (tick : Nat) (h : L.computing = true) : (L.pairLasting tick).cut = true :=
  Leaf.goSilent_cut _ _ _ h

/-! ### A transient mismatch -/

/-- A mismatch that its rerun did not show again (R78): counted for the leaf and for the pair, and from the limit on a
hand-over is wanted. -/
def Leaf.pairTransient (L : Leaf) (p : Nat) : Leaf :=
  let w := windowCount L.count (L.pairx p).mismFrom (L.pairx p).misms
  let M := ((L.bump ASH_CNT_MISM_TRANS).bump ASH_PAIR_MISM_T p).onPair p fun X =>
    { X with rerun := false, misms := w.1, mismFrom := w.2 }
  if M.get ASH_CTRL_MISM_LIM ≤ w.1 then M.wantHandover 2 (M.get ASH_PAIR_BLOCK p) else M

section

variable (L : Leaf) (p : Fin 8)

theorem Leaf.pairTransient_rerun : ((L.pairTransient p).pairx p).rerun = false := by
  simp only [Leaf.pairTransient, apply_ite (Leaf.pairx · p), Leaf.wantHandover_pairx, ite_self, Leaf.pairx_onPair]

theorem Leaf.pairTransient_cut : (L.pairTransient p).cut = L.cut := by
  simp only [Leaf.pairTransient, apply_ite Leaf.cut, Leaf.wantHandover_cut, ite_self, Leaf.onPair_cut, Leaf.bump_cut]

theorem Leaf.pairTransient_regs :
    (L.pairTransient p).regs = ((L.bump ASH_CNT_MISM_TRANS).bump ASH_PAIR_MISM_T p).regs := by
  simp only [Leaf.pairTransient, apply_ite Leaf.regs, Leaf.wantHandover_regs, ite_self, Leaf.onPair_regs]

/-- The register of no pair is the one that counts the leaf's mismatches. -/
theorem addr_ash_cnt_ne_pair : ASH_CNT.addr 0 ≠ ASH_PAIR.addr p := by
  revert p
  decide

theorem Leaf.pairTransient_counts :
    (L.pairTransient p).get ASH_CNT_MISM_TRANS = min (L.get ASH_CNT_MISM_TRANS + 1) ASH_CNT_MISM_TRANS.max := by
  rw [Leaf.get_regs _ _ _ _ (L.pairTransient_regs p), Leaf.get_bump_other _ _ _ _ _ (addr_ash_cnt_ne_pair p),
    Leaf.get_bump _ _ _ (by decide)]

end

/-! ### Corrected errors of a free engine -/

/-- Within the window one more is counted. -/
theorem windowCount_within {now start : Course} (n : Nat) (h : since now start < 160000) :
    (windowCount now start n).1 = n + 1 := by
  rw [windowCount, if_pos h]

/-- A corrected error of an engine in no pair is counted with the others of its window (R25). -/
theorem Leaf.correctedEngine_free (L : Leaf) (e : Nat) (h : L.bondOf e = none) :
    L.correctedEngine e = L.onEng e fun E =>
      { E with errs := (windowCount L.count (L.eng e).errFrom (L.eng e).errs).1
               errFrom := (windowCount L.count (L.eng e).errFrom (L.eng e).errs).2 } := by
  dsimp only [Leaf.correctedEngine]
  split
  next p hbond => exact nomatch hbond.symm.trans h
  next => rfl

/-- A corrected error, counted for the health record (R447). -/
def Leaf.countEcc (L : Leaf) : Leaf := { L with tie := { L.tie with hEcc := L.tie.hEcc + 1 } }

theorem Leaf.memoryError_engine_single (L : Leaf) (e : Fin 24) :
    L.memoryError (.engineMemory e) true = L.countEcc.correctedEngine e := rfl

/-! ### The commands -/

section

variable (s : State) (l : LeafId) (p : Fin 8) (tick : Fin 4000)

theorem pairMismatch_reruns (hcomp : (s.leaf l).computing = true) (hvalid : (s.leaf l).on ASH_PAIR_VALID p = true)
    (hrole : (s.leaf l).get ASH_PAIR_ROLE p ≠ 1) (hsplit : ((s.leaf l).pairx p).split = none)
    (hagreed : ((s.leaf l).pairx p).agreed = false) (hstopped : ((s.leaf l).pairx p).stopped = false)
    (hrerun : ((s.leaf l).pairx p).rerun = false) (hover : (s.leaf l).ash.keyedOver = false) :
    Completes (.pairMismatch l p tick false) s fun t =>
      OnlyLeaf l s t ∧ ((t.leaf l).pairx p).rerun = true ∧ (t.leaf l).regs = (s.leaf l).regs := by
  have hmay : ((s.leaf l).computing && (s.leaf l).on ASH_PAIR_VALID p && (s.leaf l).get ASH_PAIR_ROLE p != 1 &&
      ((s.leaf l).pairx p).split.isNone && !((s.leaf l).pairx p).agreed && !((s.leaf l).pairx p).stopped &&
      !(s.leaf l).ash.keyedOver) = true := by
    simp [hcomp, hvalid, hrole, hsplit, hagreed, hstopped, hover]
  refine Ends.guardedTrue hmay ⟨.setLeaf, ?_⟩
  rw [hrerun, State.leaf_setLeaf]
  exact ⟨congrArg PairX.rerun (Leaf.pairx_onPair ..), rfl⟩

section

variable (hcomp : (s.leaf l).computing = true) (hvalid : (s.leaf l).on ASH_PAIR_VALID p = true)
  (hrerun : ((s.leaf l).pairx p).rerun = true)

include hcomp hvalid hrerun

/-- A pair that reruns takes its outcome (R78). -/
theorem exec_pairRerunComplete (recurs : Bool) :
    exec (.pairRerunComplete l p tick recurs) s =
      .next (s.setLeaf l (if recurs then (s.leaf l).pairLasting tick else (s.leaf l).pairTransient p)) := by
  have hmay : ((s.leaf l).computing && (s.leaf l).on ASH_PAIR_VALID p && ((s.leaf l).pairx p).rerun) = true := by
    simp [hcomp, hvalid, hrerun]
  change guarded s _ _ = _
  rw [hmay]
  rfl

theorem pairRerunComplete_counts :
    Completes (.pairRerunComplete l p tick false) s fun t =>
      OnlyLeaf l s t ∧ ((t.leaf l).pairx p).rerun = false ∧ (t.leaf l).cut = (s.leaf l).cut ∧
        (t.leaf l).get ASH_CNT_MISM_TRANS = min ((s.leaf l).get ASH_CNT_MISM_TRANS + 1) ASH_CNT_MISM_TRANS.max := by
  refine ⟨_, exec_pairRerunComplete s l p tick hcomp hvalid hrerun false, .setLeaf, ?_⟩
  rw [State.leaf_setLeaf]
  exact ⟨Leaf.pairTransient_rerun .., Leaf.pairTransient_cut .., Leaf.pairTransient_counts ..⟩

theorem pairRerunComplete_silences :
    Completes (.pairRerunComplete l p tick true) s fun t => OnlyLeaf l s t ∧ (t.leaf l).cut = true := by
  refine ⟨_, exec_pairRerunComplete s l p tick hcomp hvalid hrerun true, .setLeaf, ?_⟩
  rw [State.leaf_setLeaf]
  exact Leaf.pairLasting_cut _ _ hcomp

end

theorem keystoneError_silences (hcomp : (s.leaf l).computing = true) :
    Completes (.uncorrectableError l .keystoneSram false) s fun t => OnlyLeaf l s t ∧ (t.leaf l).cut = true := by
  refine Ends.onLeaf ⟨.on, ?_⟩
  rw [State.leaf_on]
  exact Leaf.goSilent_cut _ _ _ hcomp

theorem engineError_counts (e : Fin 24) (hfree : (s.leaf l).bondOf e = none) :
    Completes (.uncorrectableError l (.engineMemory e) true) s fun t => OnlyLeaf l s t ∧
      (t.leaf l).regs = (s.leaf l).regs ∧ ((t.leaf l).eng e).running = ((s.leaf l).eng e).running ∧
      (since (s.leaf l).count ((s.leaf l).eng e).errFrom < 160000 →
        ((t.leaf l).eng e).errs = ((s.leaf l).eng e).errs + 1) := by
  refine Ends.onLeaf ⟨.on, ?_⟩
  rw [State.leaf_on, Leaf.memoryError_engine_single, Leaf.correctedEngine_free (s.leaf l).countEcc _ hfree, Leaf.eng_onEng]
  exact ⟨rfl, rfl, fun hwindow => windowCount_within _ hwindow⟩

end

/-- Settles O23: each clause is one branch of the command's meaning, and a counter or a table member reads as it was put. -/
theorem mismatchesAndMemoryErrors : Obligations.mismatches_and_memory_errors :=
  ⟨pairMismatch_reruns, pairRerunComplete_counts, pairRerunComplete_silences, keystoneError_silences, engineError_counts⟩

end Sys2Proof.Machine
end

section
/-! A leaf leaves its role (R26, R425, R427, R429, R442, R444). -/

namespace Sys2Proof.Machine

open Sys2Proof

/-! ### What a change of registers alone leaves -/

section

variable {L M : Leaf} (h : RegsOnly L M)

include h

theorem RegsOnly.role : M.role = L.role := by rw [h]

theorem RegsOnly.count : M.count = L.count := by rw [h]

theorem RegsOnly.tick : M.tick = L.tick := by rw [h]

theorem RegsOnly.out : M.out = L.out := by rw [h]

theorem RegsOnly.crs : M.crs = L.crs := by rw [h]

theorem RegsOnly.tie : M.tie = L.tie := by rw [h]

end

/-! ### The other leaf -/

theorem otherLeaf_ne (l : LeafId) : l.other ≠ l := by cases l <;> decide

theorem State.leaf_on_otherLeaf (s : State) (l : LeafId) (f : Leaf → Leaf) : (s.on l.other f).leaf l = s.leaf l :=
  s.leaf_on_other _ _ f (otherLeaf_ne l).symm

theorem State.otherLeaf_on (s : State) (l : LeafId) (f : Leaf → Leaf) : (s.on l f).leaf l.other = s.leaf l.other :=
  s.leaf_on_other _ _ f (otherLeaf_ne l)

theorem OnlyLeaves.rfl {s : State} : OnlyLeaves s s := Eq.refl s

theorem OnlyLeaves.on {s t : State} (h : OnlyLeaves s t) {l : LeafId} {f : Leaf → Leaf} : OnlyLeaves s (t.on l f) := by
  cases l
  · exact h.withLeaves (f t.leaf0) t.leaf1
  · exact h.withLeaves t.leaf0 (f t.leaf1)

/-! ### A silence -/

/-- A command whose condition does not hold changes nothing. -/
theorem guarded_false (s : State) {t : State} {c : Bool} (hc : c = false) : guarded s c t = .next s := by
  subst hc
  rfl


/-- A leaf whose outputs are cut has sent SILENT with its cause (R427, R432), whatever tests it stopped. -/
theorem Leaf.cutOff_out (L : Leaf) (want : Nat → Bool) (reason cause tick : Nat) :
    ((L.abortTests want reason).cutOff cause tick).out = L.out ++ [Out.tie 0x02 (L.tie.txSeq + 1) [cause]] := by
  have hregs := L.abortTests_regsOnly want reason
  change (L.abortTests want reason).out ++ [Out.tie 0x02 ((L.abortTests want reason).tie.txSeq + 1) [cause]] = _
  rw [hregs.out, hregs.tie]

/-- A leaf that can fall silent does so at once, and names what it enters (R424, R427). -/
theorem Leaf.goSilent_eq (L : Leaf) (cause tick : Nat) (hcomp : L.computing = true) (hcut : L.cut = false) :
    L.goSilent cause tick = ((L.abortTests (fun _ => true) 4).cutOff cause tick).planRole (namedAt L.count tick)
      (if L.silentAgain then .out else .restart) cause := by
  simp [Leaf.goSilent, hcomp, hcut]

section

variable (s : State) (l : LeafId)

theorem leafSilence_cuts (cause : Fin 6) (tick : Fin 4000) (hcause : cause.val ≠ 0) (hcomp : (s.leaf l).computing = true)
    (hcut : (s.leaf l).cut = false) :
    Completes (.leafSilence l cause tick) s fun t =>
      OnlyLeaf l s t ∧ (t.leaf l).cut = true ∧ (t.leaf l).role = (s.leaf l).role ∧
      (t.leaf l).out = (s.leaf l).out ++ [Out.tie 0x02 ((s.leaf l).tie.txSeq + 1) [cause]] ∧
      (t.leaf l).crs.roleAt = some (namedAt (s.leaf l).count tick, if (s.leaf l).silentAgain then .out else .restart) := by
  have hmay : (cause.val != 0 && (s.leaf l).computing && !(s.leaf l).cut) = true := by simp [hcause, hcomp, hcut]
  refine Ends.guardedTrue hmay ⟨.setLeaf, ?_⟩
  rw [State.leaf_setLeaf, Leaf.goSilent_eq _ _ _ hcomp hcut]
  have hrole := ((s.leaf l).abortTests_regsOnly (fun _ => true) 4).role
  have hout := (s.leaf l).cutOff_out (fun _ => true) 4 cause tick
  exact ⟨rfl, hrole, hout, rfl⟩

theorem leafSilence_stays (cause : Fin 6) (tick : Fin 4000) (h : (s.leaf l).computing = false ∨ (s.leaf l).cut = true) :
    exec (.leafSilence l cause tick) s = .next s := by
  have hmay : (cause.val != 0 && (s.leaf l).computing && !(s.leaf l).cut) = false := by
    rcases h with hcomp | hcut
    · simp [hcomp]
    · simp [hcut]
  exact guarded_false s hmay

/-! ### SILENT received -/

section

variable (cause : Fin 7) (tick : Fin 4000) (hcause : cause.val ≠ 0)

include hcause

/-- The partner's silence reaches a leaf that computes over a lane that counts as up. -/
theorem silentReceived_may (hcomp : (s.leaf l).computing = true) (hcut : (s.leaf l).cut = false)
    (htie : (s.leaf l).tieOk = true) :
    (cause.val != 0 && (s.leaf l).computing && !(s.leaf l).cut && (s.leaf l).tieOk) = true := by
  simp [hcause, hcomp, hcut, htie]

theorem silentReceived_takesOver (hrole : (s.leaf l).role = .follow) (hcut : (s.leaf l).cut = false)
    (htie : (s.leaf l).tieOk = true) :
    Completes (.silentReceived l cause tick) s fun t =>
      OnlyLeaf l s t ∧ (t.leaf l).regs = (s.leaf l).regs ∧ (t.leaf l).tie.cause = cause ∧ (t.leaf l).crs.roleAt =
        some (if cause.val = causeOut then (s.leaf l).count + 2 else namedAt (s.leaf l).count tick, .lead) := by
  have hcomp : (s.leaf l).computing = true := by simp [Leaf.computing, Leaf.carrying, hrole]
  have hfollow : ((s.leaf l).role == .follow) = true := by simp [hrole]
  refine Ends.guardedTrue (silentReceived_may s l cause hcause hcomp hcut htie) ⟨.setLeaf, ?_⟩
  rw [State.leaf_setLeaf, if_pos hfollow]
  exact ⟨rfl, rfl, rfl⟩

theorem silentReceived_shows (hrole : (s.leaf l).role = .lead) (hcut : (s.leaf l).cut = false)
    (htie : (s.leaf l).tieOk = true) :
    Completes (.silentReceived l cause tick) s fun t =>
      OnlyLeaf l s t ∧ (t.leaf l).get TIE_STAT_PARTNER = (if cause.val = causeOut then 4 else 2) ∧
      (cause.val = causeOut → (t.leaf l).get TIE_FLT_PARTNER_OUT = 1) ∧ (t.leaf l).role = .lead := by
  have hcomp : (s.leaf l).computing = true := by simp [Leaf.computing, Leaf.carrying, hrole]
  have hlead : ¬ ((s.leaf l).role == .follow) = true := by simp [hrole]
  refine Ends.guardedTrue (silentReceived_may s l cause hcause hcomp hcut htie) ⟨.setLeaf, ?_⟩
  rw [State.leaf_setLeaf, if_neg hlead]
  by_cases hout : cause.val = causeOut
  · rw [if_pos hout, if_pos hout]
    refine ⟨?_, fun _ => Leaf.get_raise _ _ _ (by decide) (by decide) (by decide) (by decide), ?_⟩
    · rw [Leaf.get_word _ _ _ _ (Leaf.raise_word _ _ _ _ _ (by decide) (by decide) (by decide))]
      exact Leaf.get_put _ _ _ _ (by decide)
    · rw [Leaf.raise_parts]
      exact hrole
  · rw [if_neg hout, if_neg hout]
    exact ⟨Leaf.get_put _ _ _ _ (by decide), fun h => absurd h hout, hrole⟩

end

/-! ### A planned OUT -/

theorem outEntry_announces (hcarry : (s.leaf l).carrying = true) (hcut : (s.leaf l).cut = false)
    (htick : (s.leaf l).tick ≤ 3840) (hplan : (s.leaf l).crs.roleAt = some ((s.leaf l).count + 1, .out)) :
    Completes (.outEntry l) s fun t => OnlyLeaf l s t ∧ (t.leaf l).cut = true ∧ (t.leaf l).tick = 3840 ∧
      (t.leaf l).out = (s.leaf l).out ++ [Out.tie 0x02 ((s.leaf l).tie.txSeq + 1) [6]] ∧
      (t.leaf l).crs.roleAt = (s.leaf l).crs.roleAt := by
  have hregs := (s.leaf l).abortTests_regsOnly (fun _ => true) 4
  refine Ends.guardedTrue ?_ ⟨.setLeaf, ?_⟩
  · simp [hplan, hcarry, hcut, htick]
  · have hout := (s.leaf l).cutOff_out (fun _ => true) 4 causeOut 3840
    have hplanned := congrArg Crs.roleAt hregs.crs
    rw [State.leaf_setLeaf]
    refine ⟨rfl, ?_, hout, hplanned⟩
    change max ((s.leaf l).abortTests _ 4).tick 3840 = 3840
    rw [hregs.tick, max_eq_right htick]

/-! ### A host link lost -/

/-- A host link lost: the leaf loses that master, and the other leaf reports it while it carries with its own link up
(R444, R455). -/
def State.reportHostLink (s : State) (l : LeafId) : State :=
  let P := s.leaf l.other
  let t := s.on l fun L => L.masterLost (hostId l)
  if P.on HRE_STAT_LINK_UP && P.carrying then t.on l.other fun P => P.raise TIE_FLT_HOST_LINK else t

theorem State.reportHostLink_onlyLeaves : OnlyLeaves s (s.reportHostLink l) := by
  dsimp only [State.reportHostLink]
  split
  · exact OnlyLeaves.rfl.on.on
  · exact OnlyLeaves.rfl.on

theorem State.reportHostLink_leaf : (s.reportHostLink l).leaf l = (s.leaf l).masterLost (hostId l) := by
  dsimp only [State.reportHostLink]
  split
  · rw [State.leaf_on_otherLeaf, State.leaf_on]
  · rw [State.leaf_on]

section

variable (hsend : (s.leaf l).sending = true) (hlost : (s.leaf l).linkLost = true)
  (hfree : (s.leaf l).crs.roleAt = none)

include hsend hlost hfree

theorem exec_hostLinkLost : exec (.hostLinkLost l) s = .next (
    if (s.leaf l).role == .lead && (s.leaf l.other).role == .follow && (s.leaf l.other).on CRS_STAT_ALIGNED then
      ((s.reportHostLink l).on l fun L => L.planRole (namedAt (s.leaf l).count (s.leaf l).tick) .follow causeLink).on l.other
        fun P => P.planRole (namedAt (s.leaf l).count (s.leaf l).tick) .lead causeHeld
    else (s.reportHostLink l).on l Leaf.planOut) := by
  have hmay : ((s.leaf l).sending && (s.leaf l).linkLost && (s.leaf l).crs.roleAt.isNone) = true := by
    simp [hsend, hlost, hfree]
  change guarded s _ _ = _
  rw [hmay]
  rfl

theorem hostLinkLost_handsOver (hlead : (s.leaf l).role = .lead) (hfollow : (s.leaf l.other).role = .follow)
    (haligned : (s.leaf l.other).get CRS_STAT_ALIGNED ≠ 0) :
    Completes (.hostLinkLost l) s fun t => OnlyLeaves s t ∧
      (t.leaf l).crs.roleAt = some (namedAt (s.leaf l).count (s.leaf l).tick, .follow) ∧
      (t.leaf l.other).crs.roleAt = some (namedAt (s.leaf l).count (s.leaf l).tick, .lead) := by
  have hswap : ((s.leaf l).role == .lead && (s.leaf l.other).role == .follow &&
      (s.leaf l.other).on CRS_STAT_ALIGNED) = true := by
    simp [hlead, hfollow, Leaf.on, haligned]
  refine ⟨_, exec_hostLinkLost s l hsend hlost hfree, ?_⟩
  rw [if_pos hswap]
  refine ⟨(s.reportHostLink_onlyLeaves l).on.on, ?_, ?_⟩
  · rw [State.leaf_on_otherLeaf, State.leaf_on]
    rfl
  · rw [State.leaf_on]
    rfl

theorem hostLinkLost_goesOut (hother : (s.leaf l.other).role ≠ .follow) :
    Completes (.hostLinkLost l) s fun t => OnlyLeaves s t ∧
      (t.leaf l).crs.roleAt = some (namedAt (s.leaf l).count (s.leaf l).tick, .out) := by
  have hswap : ¬ ((s.leaf l).role == .lead && (s.leaf l.other).role == .follow &&
      (s.leaf l.other).on CRS_STAT_ALIGNED) = true := by
    simp [hother]
  refine ⟨_, exec_hostLinkLost s l hsend hlost hfree, ?_⟩
  rw [if_neg hswap]
  refine ⟨(s.reportHostLink_onlyLeaves l).on, ?_⟩
  have hregs := (s.leaf l).masterLost_regsOnly (hostId l)
  have hcarry : ((s.leaf l).masterLost (hostId l)).carrying = true := by
    rw [Leaf.carrying, hregs.role]
    exact (Bool.and_eq_true_iff.mp hsend).1
  rw [State.leaf_on, State.reportHostLink_leaf, Leaf.planOut, if_pos hcarry, hregs.count, hregs.tick]
  rfl

end

theorem hostLinkLost_stays (hlink : (s.leaf l).linkLost = false) : exec (.hostLinkLost l) s = .next s := by
  have hmay : ((s.leaf l).sending && (s.leaf l).linkLost && (s.leaf l).crs.roleAt.isNone) = false := by simp [hlink]
  exact guarded_false s hmay

end

/-- Settles O46: a move of role is named for its boundary and takes no effect before it, for what a leaf leaves with its
role changes its registers alone. -/
theorem leavingARole : Obligations.leaving_a_role :=
  ⟨leafSilence_cuts, leafSilence_stays, silentReceived_takesOver, silentReceived_shows, outEntry_announces,
    hostLinkLost_handsOver, hostLinkLost_goesOut, hostLinkLost_stays⟩

end Sys2Proof.Machine
end

section
/-! The output arbiter (R16, R17, R426, R629 to R631). -/

namespace Sys2Proof.Machine

open Sys2Proof

/-! ### One output driven -/

section

variable (s : State) (k : Nat) (src : Option LeafId)

/-- Output `k` as it stands once it is driven for a leaf, or left to its resistor-set state. -/
def State.drivenOut : ArbOut :=
  { pick s.arb.outs k with
    src := src
    level := match src with
      | some l => s.drivenLevel k (pick (pick s.arb.outs k).cmd l.num)
      | none => s.idleLevel k }

theorem State.driveOut_same (h : k < 7) : pick (s.driveOut k src).arb.outs k = s.drivenOut k src :=
  pick_setIfInBounds_same s.arb.outs k _ h

theorem State.driveOut_other (j : Nat) (h : j ≠ k) : pick (s.driveOut k src).arb.outs j = pick s.arb.outs j :=
  pick_setIfInBounds_other s.arb.outs k j _ h

end

theorem arbiterFallback_falls (s : State) (k : Fin 7) (hold : 2 ≤ pick (pick s.arb.outs k).age s.arb.lead.num) :
    Completes (.arbiterFallback k) s fun t => t = { s with arb := t.arb } ∧
      (pick (pick s.arb.outs k).age s.arb.lead.other.num < 2 → (pick t.arb.outs k).src = some s.arb.lead.other ∧
        (pick t.arb.outs k).level = s.drivenLevel k (pick (pick s.arb.outs k).cmd s.arb.lead.other.num)) ∧
      (2 ≤ pick (pick s.arb.outs k).age s.arb.lead.other.num → (pick t.arb.outs k).src = none ∧
        (pick t.arb.outs k).level = s.idleLevel k) ∧
      ∀ j, j ≠ k.val → pick t.arb.outs j = pick s.arb.outs j := by
  refine Ends.guardedTrue (by simpa using hold) ⟨s.driveOut_parts _ _, ?_, ?_, s.driveOut_other k _⟩
  · intro hfresh
    rw [if_pos hfresh, s.driveOut_same k _ k.isLt]
    exact ⟨rfl, rfl⟩
  · intro hstale
    rw [if_neg (Nat.not_lt.mpr hstale), s.driveOut_same k _ k.isLt]
    exact ⟨rfl, rfl⟩

theorem arbiterFallback_stands (s : State) (k : Fin 7) (hfresh : pick (pick s.arb.outs k).age s.arb.lead.num < 2) :
    exec (.arbiterFallback k) s = .next s :=
  guarded_false s (decide_eq_false (Nat.not_le.mpr hfresh))

/-! ### Coil drivers -/

theorem coilLimit_turnsOff (s : State) (c : Fin 3) (ms : Nat) (hon : (pick s.arb.outs c).level = true) (hms : 250 ≤ ms) :
    Completes (.coilLimitTimeout c ms) s fun t => t = { s with arb := t.arb } ∧ (pick t.arb.outs c).level = false ∧
      pick t.arb.coilOff c = true ∧ ∀ j, j ≠ c.val → pick t.arb.outs j = pick s.arb.outs j := by
  have hmay : ((pick s.arb.outs c).level && decide (250 ≤ ms)) = true := by simp [hon, hms]
  refine Ends.guardedTrue hmay ⟨rfl, ?_, pick_setIfInBounds_same _ _ _ c.isLt, fun j => pick_setIfInBounds_other _ _ j _⟩
  exact congrArg ArbOut.level (pick_setIfInBounds_same s.arb.outs c _ (by omega))

theorem coilLimit_stands (s : State) (c : Fin 3) (ms : Nat) (hms : ms < 250) :
    exec (.coilLimitTimeout c ms) s = .next s := by
  have hmay : ((pick s.arb.outs c).level && decide (250 ≤ ms)) = false := by simp [hms]
  exact guarded_false s hmay

/-- A bit joined to the faults reported of a coil stands among them. -/
theorem getLsbD_or_twoPow (f : BitVec 5) (k : Fin 4) : (f ||| BitVec.ofNat 5 (2 ^ k.val)).getLsbD k = true := by
  have hk : k.val < 5 := by omega
  rw [BitVec.getLsbD_or, BitVec.getLsbD_ofNat, Nat.testBit_two_pow_self]
  simp [hk]

theorem coilDriverFault_reports (s : State) (c : Fin 3) (k : Fin 4) (hopen : k.val = 2 → (pick s.arb.outs c).level = true)
    (hshort : k.val = 3 → (pick s.arb.outs c).level = false) :
    Completes (.coilDriverFault c k) s fun t => t = { s with arb := t.arb } ∧ t.arb.outs = s.arb.outs ∧
      (pick t.arb.coilFault c).getLsbD k = true := by
  have hmay : ((k.val != 2 || (pick s.arb.outs c).level) && (k.val != 3 || !(pick s.arb.outs c).level)) = true := by
    simp only [Bool.and_eq_true, Bool.or_eq_true, bne_iff_ne, Bool.not_eq_true']
    exact ⟨Decidable.not_or_of_imp hopen, Decidable.not_or_of_imp hshort⟩
  refine Ends.guardedTrue hmay ⟨rfl, rfl, ?_⟩
  change (pick (alter s.arb.coilFault c _) c).getLsbD k = true
  rw [pick_alter_same _ _ _ c.isLt]
  exact getLsbD_or_twoPow _ k

/-! ### The commands of a course -/

/-- An output once a leaf's course has come to it: the leaf's command, fresh, or the one it gave last, older by a course. -/
def State.heardFrom (s : State) (k : Nat) (o : ArbOut) (l : LeafId) : ArbOut :=
  if (s.leaf l).sending then
    { o with cmd := o.cmd.setIfInBounds l.num (s.commandOf l k), age := o.age.setIfInBounds l.num 0 }
  else { o with age := alter o.age l.num fun a => min 2 (a + 1) }

theorem leafNum_lt (l : LeafId) : l.num < 2 := by cases l <;> decide

theorem leafNum_ne {l m : LeafId} (h : m ≠ l) : m.num ≠ l.num := by
  cases l <;> cases m <;> simp_all [LeafId.num]

section

variable (s : State) (k : Nat) (o : ArbOut)

theorem State.heardFrom_sending (l : LeafId) (h : (s.leaf l).sending = true) :
    pick (s.heardFrom k o l).age l.num = 0 ∧ pick (s.heardFrom k o l).cmd l.num = s.commandOf l k := by
  rw [State.heardFrom, if_pos h]
  exact ⟨pick_setIfInBounds_same _ _ _ (leafNum_lt l), pick_setIfInBounds_same _ _ _ (leafNum_lt l)⟩

theorem State.heardFrom_other (l m : LeafId) (h : m ≠ l) :
    pick (s.heardFrom k o l).age m.num = pick o.age m.num ∧ pick (s.heardFrom k o l).cmd m.num = pick o.cmd m.num := by
  have hnum := leafNum_ne h
  unfold State.heardFrom
  split
  · exact ⟨pick_setIfInBounds_other _ _ _ _ hnum, pick_setIfInBounds_other _ _ _ _ hnum⟩
  · exact ⟨pick_setIfInBounds_other _ _ _ _ hnum, rfl⟩

theorem State.takeCommands_outs (h : k < 7) :
    (pick s.takeCommands.arb.outs k).age = (s.heardFrom k (s.heardFrom k (pick s.arb.outs k) .leaf0) .leaf1).age ∧
    (pick s.takeCommands.arb.outs k).cmd = (s.heardFrom k (s.heardFrom k (pick s.arb.outs k) .leaf0) .leaf1).cmd := by
  have hout : pick s.takeCommands.arb.outs k = _ := pick_ofFn _ k h
  rw [hout]
  exact ⟨rfl, rfl⟩

/-- A leaf that sends has its command of this course at every output. -/
theorem State.takeCommands_sending (l : LeafId) (hsend : (s.leaf l).sending = true) (h : k < 7) :
    pick (pick s.takeCommands.arb.outs k).age l.num = 0 ∧
      pick (pick s.takeCommands.arb.outs k).cmd l.num = s.commandOf l k := by
  obtain ⟨hage, hcmd⟩ := s.takeCommands_outs k h
  rw [hage, hcmd]
  cases l with
  | leaf0 =>
    obtain ⟨hage1, hcmd1⟩ := s.heardFrom_other k (s.heardFrom k (pick s.arb.outs k) .leaf0) .leaf1 .leaf0 (by decide)
    rw [hage1, hcmd1]
    exact s.heardFrom_sending k _ .leaf0 hsend
  | leaf1 => exact s.heardFrom_sending k _ .leaf1 hsend

end

/-! ### ROLE_DECLARATION -/

/-- A leaf declares LEAD (R426). -/
def State.claims (s : State) (l : LeafId) : Bool := (s.leaf l).sending && (s.leaf l).role == .lead

/-- The leaf the arbiter takes as LEAD: the one that alone declares it, or the one it took last (R426). -/
def State.declaredLead (s : State) : LeafId :=
  if s.claims .leaf0 && !s.claims .leaf1 then .leaf0
  else if s.claims .leaf1 && !s.claims .leaf0 then .leaf1 else s.arb.lead

/-- The module with the commands of the course taken and the LEAD leaf settled; two that declare LEAD are reported. -/
def State.declared (s : State) : State :=
  let t : State := { s.takeCommands with arb := { s.takeCommands.arb with lead := s.declaredLead } }
  if s.claims .leaf0 && s.claims .leaf1 then t.both fun L => L.stick TIE_FLT_ROLE_CONFLICT else t

/-- An output driven for the LEAD leaf where its command is fresh. -/
def State.driveFresh (lead : LeafId) (s : State) (k : Nat) : State :=
  if pick (pick s.arb.outs k).age lead.num < 2 then s.driveOut k (some lead) else s

/-- FAULT_N asserted where no leaf has passed (R5, R599). -/
def State.assertFault (s : State) : State :=
  if s.pins.bootDead then
    { s with arb := { s.arb with outs := alter s.arb.outs 3 fun o => { o with level := true, src := none } } }
  else s

/-- The outputs at the end of a declaration. -/
def State.outputsDeclared (s : State) : State :=
  ((List.range 7).foldl (State.driveFresh s.declaredLead) s.declared).assertFault

/-- What a leaf counts of the outputs in a course, for its health record (R447). -/
def Leaf.countOutputs (outs : List ArbOut) (L : Leaf) : Leaf :=
  let other := outs.any fun o => o.src == some L.id.other
  { L with tie := { L.tie with hOther := L.tie.hOther + bit other, hDiffer := L.tie.hDiffer + bit (outs.any (·.differ)) } }

/-- Of the module, the outputs of the arbiter alone have changed. -/
def OnlyOuts (s t : State) : Prop := t = { s with arb := { s.arb with outs := t.arb.outs } }

namespace OnlyOuts

variable {s t u : State} (h : OnlyOuts s t)

include h

theorem trans (h' : OnlyOuts t u) : OnlyOuts s u := by
  have houts := congrArg (fun v : State => { v with arb := { v.arb with outs := u.arb.outs } }) h
  exact Eq.trans h' houts

theorem leaf (l : LeafId) : t.leaf l = s.leaf l := by
  rw [h]
  cases l <;> rfl

theorem chans : t.chans = s.chans := by rw [h]

theorem mode : t.mode = s.mode := by rw [h]

theorem pins : t.pins = s.pins := by rw [h]

theorem lead : t.arb.lead = s.arb.lead := by rw [h]

theorem coilOff : t.arb.coilOff = s.arb.coilOff := by rw [h]

end OnlyOuts

theorem State.driveFresh_onlyOuts (s : State) (lead : LeafId) (k : Nat) : OnlyOuts s (s.driveFresh lead k) := by
  unfold State.driveFresh
  split
  · rfl
  · rfl

theorem State.assertFault_onlyOuts (s : State) : OnlyOuts s s.assertFault := by
  unfold State.assertFault
  split
  · rfl
  · rfl

section

variable (s : State) (lead : LeafId)

theorem foldl_driveFresh_onlyOuts (ks : List Nat) : OnlyOuts s (ks.foldl (State.driveFresh lead) s) :=
  foldl_keeps (OnlyOuts s) _ (fun t k h => h.trans (t.driveFresh_onlyOuts lead k)) ks s rfl

theorem State.outputsDeclared_onlyOuts : OnlyOuts s.declared s.outputsDeclared :=
  (foldl_driveFresh_onlyOuts _ _ _).trans (State.assertFault_onlyOuts _)

theorem State.driveFresh_other (k j : Nat) (h : j ≠ k) :
    pick (s.driveFresh lead k).arb.outs j = pick s.arb.outs j := by
  unfold State.driveFresh
  split
  · exact s.driveOut_other k _ j h
  · rfl

/-- Where the outputs alone have changed, and not output `k`, it is driven as it would have been. -/
theorem OnlyOuts.drivenOut {s t : State} (h : OnlyOuts s t) (k : Nat) (l : LeafId)
    (hk : pick t.arb.outs k = pick s.arb.outs k) : t.drivenOut k (some l) = s.drivenOut k (some l) := by
  have hlevel : ∀ c, t.drivenLevel k c = s.drivenLevel k c := fun c => by rw [h]; rfl
  simp only [State.drivenOut, hk, hlevel]

/-- The outputs not come to yet stand. -/
theorem foldl_driveFresh_later (n k : Nat) (h : n ≤ k) :
    pick ((List.range n).foldl (State.driveFresh lead) s).arb.outs k = pick s.arb.outs k := by
  induction n with
  | zero => rfl
  | succ n ih =>
    rw [List.range_succ, List.foldl_append, List.foldl_cons, List.foldl_nil, State.driveFresh_other _ _ _ _ (by omega),
      ih (by omega)]

/-- The outputs come to are driven where the LEAD leaf's command was fresh. -/
theorem foldl_driveFresh_fresh (n k : Nat) (h : k < n) (hk : k < 7) (hfresh : pick (pick s.arb.outs k).age lead.num < 2) :
    pick ((List.range n).foldl (State.driveFresh lead) s).arb.outs k = s.drivenOut k (some lead) := by
  induction n with
  | zero => omega
  | succ n ih =>
    rw [List.range_succ, List.foldl_append, List.foldl_cons, List.foldl_nil]
    by_cases hkn : k = n
    · have hstands := foldl_driveFresh_later s lead n k (by omega)
      subst hkn
      rw [State.driveFresh, if_pos (by rw [hstands]; exact hfresh), State.driveOut_same _ _ _ hk]
      exact (foldl_driveFresh_onlyOuts s lead _).drivenOut k lead hstands
    · rw [State.driveFresh_other _ _ _ _ hkn, ih (by omega)]

end

theorem State.declared_arb (s : State) :
    s.declared.arb = { s.takeCommands.arb with lead := s.declaredLead } := by
  dsimp only [State.declared]
  split
  · rfl
  · rfl

theorem State.declared_rest (s : State) :
    s.declared.pins = s.pins ∧ s.declared.chans = s.chans ∧ s.declared.mode = s.mode := by
  dsimp only [State.declared]
  split
  · exact ⟨rfl, rfl, rfl⟩
  · exact ⟨rfl, rfl, rfl⟩

/-- With a leaf passed, an output whose command of the LEAD leaf is fresh is driven by it. -/
theorem State.outputsDeclared_fresh (s : State) (k : Nat) (hk : k < 7) (hpassed : s.pins.bootDead = false)
    (hfresh : pick (pick s.declared.arb.outs k).age s.declaredLead.num < 2) :
    pick s.outputsDeclared.arb.outs k = s.declared.drivenOut k (some s.declaredLead) := by
  have honly := foldl_driveFresh_onlyOuts s.declared s.declaredLead (List.range 7)
  obtain ⟨hpins, -, -⟩ := s.declared_rest
  have hdead : ¬ ((List.range 7).foldl (State.driveFresh s.declaredLead) s.declared).pins.bootDead = true := by
    rw [honly.pins, hpins, hpassed]
    decide
  rw [State.outputsDeclared, State.assertFault, if_neg hdead]
  exact foldl_driveFresh_fresh s.declared s.declaredLead 7 k hk hk hfresh

theorem State.declaredLead_alone (s : State) (l : LeafId) (h : s.claims l = true) (hother : s.claims l.other = false) :
    s.declaredLead = l := by
  cases l with
  | leaf0 => rw [State.declaredLead, h, show s.claims .leaf1 = false from hother]; rfl
  | leaf1 => rw [State.declaredLead, h, show s.claims .leaf0 = false from hother]; rfl

section

variable (s : State) (hmode : s.mode = .ready ∨ s.mode = .carry) (hreset : s.pins.resetN = false)

include hmode hreset

theorem exec_roleDeclaration_powered : exec .roleDeclaration s =
    .next (s.outputsDeclared.both (Leaf.countOutputs s.outputsDeclared.arb.outs.toList)) := by
  have hpowered : ¬ (s.mode == .off || s.mode == .park || s.pins.resetN) = true := by
    rcases hmode with h | h <;> simp [h, hreset]
  change execRoleDeclaration s = _
  unfold execRoleDeclaration
  rw [if_neg hpowered]
  rfl

end

theorem roleDeclaration_supplies (s : State) (l : LeafId) (hmode : s.mode = .ready ∨ s.mode = .carry)
    (hreset : s.pins.resetN = false) (hpassed : s.pins.bootDead = false) (hsend : (s.leaf l).sending = true)
    (hlead : (s.leaf l).role = .lead) (hother : (s.leaf l.other).role ≠ .lead) :
    Completes .roleDeclaration s fun t => t.arb.lead = l ∧ t.chans = s.chans ∧ t.mode = s.mode ∧
      (∀ k, k < 7 → (pick t.arb.outs k).src = some l ∧ pick (pick t.arb.outs k).cmd l.num = s.commandOf l k) ∧
      (∀ k, 3 ≤ k → k < 7 → (pick t.arb.outs k).level = s.commandOf l k) ∧
      (∀ k, k < 3 → (pick t.arb.outs k).level = (s.commandOf l k && s.pins.vlv && !pick t.arb.coilOff k)) := by
  have hclaims : s.claims l = true := by simp [State.claims, hsend, hlead]
  have hyields : s.claims l.other = false := by simp [State.claims, hother]
  have htaken := s.declaredLead_alone l hclaims hyields
  obtain ⟨hpins, hchans, hmodes⟩ := s.declared_rest
  have honly := s.outputsDeclared_onlyOuts
  have hcmd : ∀ k, k < 7 → pick (pick s.declared.arb.outs k).cmd l.num = s.commandOf l k := fun k hk => by
    rw [State.declared_arb]
    exact (s.takeCommands_sending k l hsend hk).2
  have hout : ∀ k, k < 7 → pick s.outputsDeclared.arb.outs k = s.declared.drivenOut k (some l) := fun k hk => by
    have hage : pick (pick s.declared.arb.outs k).age s.declaredLead.num = 0 := by
      rw [State.declared_arb, htaken]
      exact (s.takeCommands_sending k l hsend hk).1
    rw [s.outputsDeclared_fresh k hk hpassed (by omega), htaken]
  have hlevel : ∀ k, k < 7 → (pick s.outputsDeclared.arb.outs k).level = s.declared.drivenLevel k (s.commandOf l k) :=
    fun k hk => by
      rw [hout k hk, ← hcmd k hk]
      rfl
  refine ⟨_, exec_roleDeclaration_powered s hmode hreset, ?_, ?_, ?_, ?_, ?_, ?_⟩
  · rw [State.both_arb, honly.lead, State.declared_arb]
    exact htaken
  · rw [State.both_chans, honly.chans, hchans]
  · rw [State.both_mode, honly.mode, hmodes]
  · intro k hk
    rw [State.both_arb, hout k hk]
    exact ⟨rfl, hcmd k hk⟩
  · intro k hge hk
    rw [State.both_arb, hlevel k hk, State.drivenLevel, if_neg (by omega)]
  · intro k hk
    rw [State.both_arb, hlevel k (by omega), State.drivenLevel, if_pos hk, hpins, honly.coilOff]

theorem roleDeclaration_reports (s : State) (hmode : s.mode = .ready ∨ s.mode = .carry) (hreset : s.pins.resetN = false)
    (hsend0 : (s.leaf .leaf0).sending = true) (hlead0 : (s.leaf .leaf0).role = .lead)
    (hsend1 : (s.leaf .leaf1).sending = true) (hlead1 : (s.leaf .leaf1).role = .lead) :
    Completes .roleDeclaration s fun t => t.arb.lead = s.arb.lead ∧
      ∀ l : LeafId, (t.leaf l).get TIE_FLT_ROLE_CONFLICT = 1 ∧ KeepsRegs (s.leaf l) (t.leaf l) [TIE_FLT.addr 0] := by
  have h0 : s.claims .leaf0 = true := by simp [State.claims, hsend0, hlead0]
  have h1 : s.claims .leaf1 = true := by simp [State.claims, hsend1, hlead1]
  have honly := s.outputsDeclared_onlyOuts
  have hleaf : ∀ l, s.outputsDeclared.leaf l = (s.leaf l).stick TIE_FLT_ROLE_CONFLICT := fun l => by
    have hdeclared : s.declared.leaf l = (s.leaf l).stick TIE_FLT_ROLE_CONFLICT := by
      rw [State.declared, if_pos (by simp [h0, h1]), State.leaf_both]
      cases l <;> rfl
    rw [honly.leaf, hdeclared]
  refine ⟨_, exec_roleDeclaration_powered s hmode hreset, ?_, fun l => ?_⟩
  · rw [State.both_arb, honly.lead, State.declared_arb]
    simp [State.declaredLead, h0, h1]
  · rw [State.leaf_both, hleaf]
    have hget := (s.leaf l).get_put TIE_FLT_ROLE_CONFLICT 1 0 (by decide)
    have hkeeps : KeepsRegs (s.leaf l) ((s.leaf l).stick TIE_FLT_ROLE_CONFLICT) [TIE_FLT.addr 0] :=
      KeepsRegs.rfl.setWord (List.mem_singleton.mpr rfl)
    exact ⟨hget, hkeeps⟩

/-! ### Outputs with no command -/

/-- The outputs come to are left to their resistor-set states. -/
theorem foldl_driveOut_none_src (s : State) (n j : Nat) (hj : j < n) (h : j < 7) :
    (pick ((List.range n).foldl (fun s k => s.driveOut k none) s).arb.outs j).src = none := by
  induction n with
  | zero => omega
  | succ n ih =>
    rw [List.range_succ, List.foldl_append, List.foldl_cons, List.foldl_nil]
    by_cases hjn : j = n
    · rw [← hjn, State.driveOut_same _ _ _ h]
      rfl
    · rw [State.driveOut_other _ _ _ _ hjn, ih (by omega)]

theorem roleDeclaration_idles (s : State) (hmode : s.mode = .off ∨ s.mode = .park) :
    Completes .roleDeclaration s fun t => t = { s with arb := t.arb } ∧ t.arb.lead = .leaf0 ∧
      ∀ k, k < 7 → (pick t.arb.outs k).src = none ∧ pick (pick t.arb.outs k).cmd 0 = false ∧
        pick (pick t.arb.outs k).cmd 1 = false := by
  have hidle : (s.mode == .off || s.mode == .park || s.pins.resetN) = true := by
    rcases hmode with h | h <;> simp [h]
  have hexec : exec .roleDeclaration s = .next s.idleOutputs := by
    change execRoleDeclaration s = _
    rw [execRoleDeclaration, if_pos hidle]
  refine ⟨_, hexec, s.idleOutputs_parts, rfl, fun k hk => ?_⟩
  have hout : pick s.idleOutputs.arb.outs k = _ := pick_map _ _ k hk
  rw [hout]
  exact ⟨foldl_driveOut_none_src s 7 k hk hk, rfl, rfl⟩

/-- Settles O48: an output is changed by itself, so that in a declaration each is driven as if it were alone. -/
theorem outputArbiter : Obligations.output_arbiter :=
  ⟨roleDeclaration_supplies, roleDeclaration_reports, roleDeclaration_idles, arbiterFallback_falls, arbiterFallback_stands,
    coilLimit_turnsOff, coilLimit_stands, coilDriverFault_reports⟩

end Sys2Proof.Machine
end

section
/-! Reads of the course count (R57). -/

namespace Sys2Proof.Machine

open Sys2Proof

/-- A leaf whose course count was read at a fine tick: the count and the fine time are captured. -/
def Leaf.captured (L : Leaf) (tick : Nat) : Leaf :=
  ({ L with crs := { L.crs with cap := L.count }, tick := max L.tick tick } : Leaf).setWord CRS_FINE_CAP 0
    (BitVec.ofNat 64 (fineAt L.count tick).toNat)

theorem Leaf.captured_keepsRegs (L : Leaf) (tick : Nat) : KeepsRegs L (L.captured tick) [CRS_FINE_CAP.addr 0] :=
  KeepsRegs.setWord (fun _ _ => Eq.refl _) (by simp)

section

variable (s : State) (l : LeafId)

/-- The state that a captured leaf and what the read gives make of another differs from it by these two. -/
theorem onlyLeaf_withReadData (L : Leaf) (v : Option Word) :
    OnlyLeaf l { s with readData := (({ s with readData := v } : State).setLeaf l L).readData }
      (({ s with readData := v } : State).setLeaf l L) := by
  rw [State.setLeaf_readData]
  exact .setLeaf

theorem crsCountRead_whole (tick : Fin 4000) (high : Bool) :
    Completes (.crsCountRead l tick 8 high) s fun t => OnlyLeaf l { s with readData := t.readData } t ∧
      t.readData = some (BitVec.ofNat 64 (s.leaf l).count.toNat) ∧ (t.leaf l).crs.cap = (s.leaf l).count ∧
      (t.leaf l).word CRS_FINE_CAP = BitVec.ofNat 64 (fineAt (s.leaf l).count tick).toNat ∧
      (t.leaf l).count = (s.leaf l).count ∧ KeepsRegs (s.leaf l) (t.leaf l) [CRS_FINE_CAP.addr 0] := by
  refine ⟨({ s with readData := some (BitVec.ofNat 64 (s.leaf l).count.toNat) } : State).setLeaf l
    ((s.leaf l).captured tick), rfl, onlyLeaf_withReadData .., State.setLeaf_readData .., ?_⟩
  rw [State.leaf_setLeaf]
  exact ⟨rfl, Leaf.word_setWord .., rfl, Leaf.captured_keepsRegs _ _⟩

/-- The high half gives what was captured last, and captures nothing. -/
theorem crsCountRead_high (tick : Fin 4000) :
    Completes (.crsCountRead l tick 4 true) s fun t => t = { s with readData := t.readData } ∧
      t.readData = some (BitVec.ofNat 64 ((s.leaf l).crs.cap.toNat / 2 ^ 32)) :=
  ⟨_, rfl, rfl, by rw [Nat.shiftRight_eq_div_pow]⟩

theorem crsCountRead_low (tick : Fin 4000) :
    Completes (.crsCountRead l tick 4 false) s fun t => OnlyLeaf l { s with readData := t.readData } t ∧
      t.readData = some (BitVec.ofNat 64 ((s.leaf l).count.toNat % 2 ^ 32)) ∧
      (t.leaf l).word CRS_FINE_CAP = BitVec.ofNat 64 (fineAt (s.leaf l).count tick).toNat ∧
      ∀ later : Fin 4000, Completes (.crsCountRead l later 4 true) t fun u => u = { t with readData := u.readData } ∧
        u.readData = some (BitVec.ofNat 64 ((s.leaf l).count.toNat / 2 ^ 32)) := by
  refine ⟨({ s with readData := some (BitVec.ofNat 64 ((s.leaf l).count.toNat % 2 ^ 32)) } : State).setLeaf l
    ((s.leaf l).captured tick), rfl, onlyLeaf_withReadData .., State.setLeaf_readData .., ?_, fun later => ?_⟩
  · rw [State.leaf_setLeaf]
    exact Leaf.word_setWord ..
  · have hhigh := crsCountRead_high (({ s with readData := some (BitVec.ofNat 64 ((s.leaf l).count.toNat % 2 ^ 32)) } :
      State).setLeaf l ((s.leaf l).captured tick)) l later
    rwa [State.leaf_setLeaf] at hhigh

end

/-- Settles O60: a read of the whole count or of its low half captures the count, and one of the high half gives the capture. -/
theorem countReadCaptures : Obligations.count_read_captures :=
  ⟨crsCountRead_whole, crsCountRead_low, crsCountRead_high⟩

end Sys2Proof.Machine
end

section
/-! The seal of a leaf that does not compute (R29, R30, R423). -/

namespace Sys2Proof.Machine

open Sys2Proof

/-! ### What the boundary of a course changes of such a leaf -/

/-- Of a leaf, its registers, its tie and its ring engine alone have changed. -/
def BoundaryOnly (L M : Leaf) : Prop := M = { L with regs := M.regs, tie := M.tie, hre := M.hre }

namespace BoundaryOnly

variable {L M N : Leaf}

theorem trans (h : BoundaryOnly L M) (h' : BoundaryOnly M N) : BoundaryOnly L N := by
  have hN := congrArg (fun K : Leaf => { K with regs := N.regs, tie := N.tie, hre := N.hre }) h
  exact Eq.trans h' hN

theorem ofRegsOnly (h : RegsOnly L M) : BoundaryOnly L M := by
  have hM := congrArg (fun K : Leaf => { K with tie := M.tie, hre := M.hre }) h
  exact hM

theorem onTie {f : Tie → Tie} : BoundaryOnly L (L.onTie f) := Eq.refl _

theorem onHre {f : Hre → Hre} : BoundaryOnly L (L.onHre f) := Eq.refl _

theorem role (h : BoundaryOnly L M) : M.role = L.role := by rw [h]

theorem crs (h : BoundaryOnly L M) : M.crs = L.crs := by rw [h]

end BoundaryOnly

variable (L : Leaf)

theorem Leaf.showUpd_regsOnly : RegsOnly L L.showUpd := by
  unfold Leaf.showUpd
  extract_lets
  repeat' apply RegsOnly.put
  exact .rfl

theorem Leaf.applyMirfmt_boundaryOnly : BoundaryOnly L L.applyMirfmt := by
  unfold Leaf.applyMirfmt
  split
  · split
    · rfl
    · exact BoundaryOnly.onTie.trans (.ofRegsOnly (Leaf.showUpd_regsOnly _))
  · rfl

theorem Leaf.sealLanes_boundaryOnly : BoundaryOnly L L.sealLanes :=
  BoundaryOnly.onTie.trans (.ofRegsOnly (RegsOnly.rfl.put))

/-- The MARK of a lane is awaited anew in the course that begins (R433). -/
theorem Leaf.sealLanes_marked (k : Nat) (hk : k < 2) : (pick L.sealLanes.tie.lanes k).marked = false := by
  unfold Leaf.sealLanes
  dsimp only [Leaf.showLanes, Leaf.put_tie, Leaf.onTie_tie]
  rw [pick_map _ _ k hk]

/-- Only LEAD takes its partner for gone (R435). -/
theorem Leaf.sealGone_waiting (h : L.role ≠ .lead) : L.sealGone = L := by
  unfold Leaf.sealGone
  split
  · rw [if_neg (by simp [h])]
  · rfl

/-- A leaf with the indices and the status that the block of a doorbell names (R41, R463). -/
def Leaf.takeDoor (L : Leaf) (d : DoorbellBlock) : Leaf :=
  let L := (List.range 32).foldl (fun (L : Leaf) r =>
    let L := L.put HRE_IRCFG_PROD (doorIndex d (2 * r)) r
    L.put HRE_ORCFG_CONS (doorIndex d (64 + 64 * L.id.num + 2 * r)) r) L
  L.put ⟨HRE_STAT, 31, 0⟩ (d.toNat >>> (8 * 192))

theorem Leaf.takeDoor_regsOnly (d : DoorbellBlock) : RegsOnly L (L.takeDoor d) :=
  .put (.foldl .rfl fun _ _ h => h.put.put)

/-- The rings at the boundary: registers of a block that has arrived, and what the ring engine keeps of the course. -/
theorem Leaf.sealRings_parts : ∃ M f, L.sealRings = Leaf.onHre M f ∧ BoundaryOnly L M ∧ M.tie = L.tie := by
  unfold Leaf.sealRings
  extract_lets M
  refine ⟨M, _, rfl, ?_⟩
  cases hd : L.hre.arrived with
  | none =>
    have hM : M = L := by simp only [M, hd]
    exact hM ▸ ⟨rfl, rfl⟩
  | some d =>
    have hM : M = (L.takeDoor d).onHre fun H => { H with door := d, arrived := none } := by
      dsimp only [M]
      rw [hd]
      rfl
    have indices := L.takeDoor_regsOnly d
    exact hM ▸ ⟨(BoundaryOnly.ofRegsOnly indices).trans .onHre, (Leaf.onHre_tie ..).trans indices.tie⟩

theorem Leaf.sealRings_boundaryOnly : BoundaryOnly L L.sealRings := by
  obtain ⟨M, f, hM, hboundary, -⟩ := L.sealRings_parts
  exact hM ▸ hboundary.trans .onHre

theorem Leaf.sealRings_tie : L.sealRings.tie = L.tie := by
  obtain ⟨M, f, hM, -, htie⟩ := L.sealRings_parts
  exact hM ▸ htie

/-! ### The commands -/

section

variable (s : State) (l : LeafId) (inp : SealIn)

theorem seal_countsInBoot (hawake : s.awake = true) (hboot : s.mode = .boot) :
    Completes (.seal l inp) s fun t => OnlyLeaf l s t ∧ (t.leaf l).count = (s.leaf l).count + 1 ∧ (t.leaf l).tick = 0 ∧
      (t.leaf l).out = [] ∧ (t.leaf l).regs = (s.leaf l).regs ∧ (t.leaf l).tie = (s.leaf l).tie := by
  refine Ends.guardedTrue hawake ?_
  rw [if_pos (by simp [hboot])]
  refine ⟨.on, ?_⟩
  rw [State.leaf_on]
  exact ⟨rfl, rfl, rfl, rfl, rfl⟩

/-- A leaf in RESTART or OUT once its next course has begun. -/
def Leaf.waited (L : Leaf) : Leaf := L.nextCourse.applyMirfmt.sealLanes.sealGone.sealRings

section

variable {L} (hwait : L.role = .restart ∨ L.role = .out)

include hwait

theorem Leaf.waited_eq : L.waited = L.nextCourse.applyMirfmt.sealLanes.sealRings := by
  have hrole : L.nextCourse.applyMirfmt.sealLanes.role = L.role :=
    ((Leaf.applyMirfmt_boundaryOnly _).trans (Leaf.sealLanes_boundaryOnly _)).role
  rw [Leaf.waited, Leaf.sealGone_waiting]
  rw [hrole]
  rcases hwait with h | h <;> simp [h]

theorem Leaf.waited_boundaryOnly : BoundaryOnly L.nextCourse L.waited := by
  rw [Leaf.waited_eq hwait]
  exact (Leaf.applyMirfmt_boundaryOnly _).trans <| (Leaf.sealLanes_boundaryOnly _).trans (Leaf.sealRings_boundaryOnly _)

theorem Leaf.waited_marked (k : Nat) (hk : k < 2) : (pick L.waited.tie.lanes k).marked = false := by
  rw [Leaf.waited_eq hwait, Leaf.sealRings_tie]
  exact Leaf.sealLanes_marked _ k hk

end

/-- Where no role is named, none is taken (R423). -/
theorem State.applyRole_none (h : (s.leaf l).crs.roleAt = none) : s.applyRole l = s := by
  simp only [State.applyRole, h]

theorem State.alignAlone_other (h : (s.leaf l).role ≠ .align) : s.alignAlone l = s := by
  simp [State.alignAlone, h]

theorem State.on_on (f g : Leaf → Leaf) : (s.on l f).on l g = s.on l fun L => g (f L) := by
  cases l <;> rfl

/-- The seal of a leaf in RESTART or OUT with no role named: the leaf waits on, and leaf 0 carries the module's idle time. -/
theorem exec_seal_waiting (hawake : s.awake = true) (hboot : s.mode ≠ .boot)
    (hwait : (s.leaf l).role = .restart ∨ (s.leaf l).role = .out) (hnone : (s.leaf l).crs.roleAt = none) :
    exec (.seal l inp) s = .next (if l == .leaf0 then (s.on l Leaf.waited).sealIdle else s.on l Leaf.waited) := by
  have hmir := (s.leaf l).nextCourse.applyMirfmt_boundaryOnly
  have hmirRole : (s.leaf l).nextCourse.applyMirfmt.role = (s.leaf l).role := hmir.role
  have happly : (s.on l fun L => L.nextCourse.applyMirfmt).applyRole l = s.on l fun L => L.nextCourse.applyMirfmt :=
    State.applyRole_none _ _ (by rw [State.leaf_on, hmir.crs]; exact hnone)
  have halign : (s.on l fun L => L.nextCourse.applyMirfmt).alignAlone l = s.on l fun L => L.nextCourse.applyMirfmt := by
    refine State.alignAlone_other _ _ ?_
    rw [State.leaf_on, hmirRole]
    rcases hwait with h | h <;> simp [h]
  have hsealed : (s.leaf l).nextCourse.applyMirfmt.sealLanes.sealGone.computing = false := by
    have hrole : (s.leaf l).nextCourse.applyMirfmt.sealLanes.role = (s.leaf l).role :=
      (hmir.trans (Leaf.sealLanes_boundaryOnly _)).role
    rw [Leaf.sealGone_waiting _ (by rw [hrole]; rcases hwait with h | h <;> simp [h]), Leaf.computing, Leaf.carrying, hrole]
    rcases hwait with h | h <;> simp [h]
  change guarded s s.awake _ = _
  dsimp only
  have hmode : ¬ (s.mode == .boot) = true := by simpa using hboot
  have hidle : ¬ (s.leaf l).nextCourse.applyMirfmt.sealLanes.sealGone.computing = true := by simp [hsealed]
  rw [hawake, State.on_mode, if_neg hmode, State.on_on, happly, halign, State.on_on, State.leaf_on, if_neg hidle,
    State.on_on]
  rfl

theorem seal_ofWaitingLeaf (hawake : s.awake = true) (hboot : s.mode ≠ .boot)
    (hwait : (s.leaf l).role = .restart ∨ (s.leaf l).role = .out) (hnone : (s.leaf l).crs.roleAt = none) :
    Completes (.seal l inp) s fun t => OnlyLeaf l s { t with pins := s.pins } ∧
      t.pins = { s.pins with idleFrom := t.pins.idleFrom } ∧ (t.leaf l).count = (s.leaf l).count + 1 ∧ (t.leaf l).tick = 0 ∧
      (t.leaf l).role = (s.leaf l).role ∧ (t.leaf l).cut = (s.leaf l).cut ∧ (t.leaf l).out = [] ∧
      (∀ k, k < 2 → (pick (t.leaf l).tie.lanes k).marked = false) := by
  have hleaf : (s.leaf l).waited.count = (s.leaf l).count + 1 ∧ (s.leaf l).waited.tick = 0 ∧
      (s.leaf l).waited.role = (s.leaf l).role ∧ (s.leaf l).waited.cut = (s.leaf l).cut ∧ (s.leaf l).waited.out = [] ∧
      (∀ k, k < 2 → (pick (s.leaf l).waited.tie.lanes k).marked = false) := by
    refine ⟨?_, ?_, ?_, ?_, ?_, Leaf.waited_marked hwait⟩ <;> (rw [Leaf.waited_boundaryOnly hwait]; rfl)
  refine ⟨_, exec_seal_waiting s l inp hawake hboot hwait hnone, ?_⟩
  cases l
  · exact ⟨rfl, rfl, hleaf⟩
  · exact ⟨rfl, rfl, hleaf⟩

end

/-- Settles O57: the boundary changes such a leaf's registers, tie and ring engine alone. -/
theorem sealOfAWaitingLeaf : Obligations.seal_of_a_waiting_leaf :=
  ⟨seal_countsInBoot, seal_ofWaitingLeaf⟩

end Sys2Proof.Machine
end

section
/-! What entries for the output rings leave of a leaf: registers that count and show, and the queues, alone (R474, R475). -/

namespace Sys2Proof.Machine

open Sys2Proof

/-- Of a leaf, its registers and the queues of its output rings alone have changed, with what is counted of them. -/
def Reported (L M : Leaf) : Prop :=
  M = { L with
    regs := M.regs
    hre := { L.hre with
      comQ := M.hre.comQ, locQ := M.hre.locQ, dropped := M.hre.dropped, orDrop := M.hre.orDrop, irErr := M.hre.irErr } }

namespace Reported

variable {L M N : Leaf}

theorem rfl : Reported L L := Eq.refl L

theorem trans (h : Reported L M) (h' : Reported M N) : Reported L N := by
  have hN := congrArg (fun K : Leaf => { K with
    regs := N.regs
    hre := { K.hre with
      comQ := N.hre.comQ, locQ := N.hre.locQ, dropped := N.hre.dropped, orDrop := N.hre.orDrop
      irErr := N.hre.irErr } }) h
  exact Eq.trans h' hN

theorem ofRegsOnly (h : RegsOnly L M) : Reported L M := by
  rw [h]
  rfl

theorem put (h : Reported L M) {f : Fld} {v i : Nat} : Reported L (M.put f v i) := h.trans (.ofRegsOnly RegsOnly.rfl.put)

theorem bump (h : Reported L M) {f : Fld} {i : Nat} : Reported L (M.bump f i) := h.put

theorem dropEntry (h : Reported L M) {r : Nat} : Reported L (M.dropEntry r) := by
  have counted : Reported M { M with hre := { M.hre with
      dropped := alter M.hre.dropped r fun n => min (n + 1) 0xFFFF
      orDrop := M.hre.orDrop ||| (1#32 <<< r) } } := Eq.refl _
  exact (h.trans counted).bump.put

theorem produce (h : Reported L M) {e : OutEntry} : Reported L (M.produce e) := by
  unfold Leaf.produce
  split
  · exact h
  · split
    · split
      · exact h.dropEntry
      · exact h.trans (Eq.refl _)
    · split
      · exact h.dropEntry
      · exact h.trans (Eq.refl _)

theorem event (h : Reported L M) {code subj detail : Nat} : Reported L (M.event code subj detail) := h.produce

theorem bitEvent (h : Reported L M) {f : Fld} {i rep : Nat} : Reported L (M.bitEvent f i rep) := h.produce

theorem complete (h : Reported L M) {hd : Hdr} {code effect detail : Nat} :
    Reported L (M.complete hd code effect detail) := by
  unfold Leaf.complete
  split
  · exact h
  · dsimp only
    split
    · exact h.produce
    · exact h.produce.bump

section

variable (h : Reported L M)

include h

theorem crs : M.crs = L.crs := by rw [h]

theorem tick : M.tick = L.tick := by rw [h]

theorem door : M.hre.door = L.hre.door := by rw [h]

theorem arrived : M.hre.arrived = L.hre.arrived := by rw [h]

theorem reading : M.hre.reading = L.hre.reading := by rw [h]

theorem missing : M.hre.missing = L.hre.missing := by rw [h]

end

end Reported

section

variable (L : Leaf) (e : OutEntry)

/-- Where a leaf's register is none of the two that entries write, an event leaves its fields. -/
theorem Leaf.get_event (f : Fld) (i code subj detail : Nat) (hcnt : f.reg.addr i ≠ HRE_CNT.addr 0)
    (herr : f.reg.addr i ≠ HRE_ERR.addr 0) : (L.event code subj detail).get f i = L.get f i :=
  Leaf.get_word _ _ _ _ (Leaf.event_word _ _ _ _ _ _ hcnt herr)

/-- A dropped entry is shown in the one bit of HRE_ERR named for it (R475, R487). -/
theorem Leaf.dropEntry_hreErr (r : Nat) (f : Fld) (hreg : f.reg = HRE_ERR) (hhi : f.hi < 7) :
    (L.dropEntry r).get f = L.get f := by
  have hcnt : f.reg.addr 0 ≠ HRE_CNT_DROP.reg.addr 0 := by
    rw [hreg]
    decide
  unfold Leaf.dropEntry
  rw [Leaf.get_put_field _ HRE_ERR_DROP f _ _ hreg (Or.inr hhi), Leaf.get_bump_other _ _ _ _ _ hcnt]
  rfl

/-- An entry leaves the other bits of HRE_ERR (R475, R487). -/
theorem Leaf.produce_hreErr (f : Fld) (hreg : f.reg = HRE_ERR) (hhi : f.hi < 7) : (L.produce e).get f = L.get f := by
  unfold Leaf.produce
  split
  · rfl
  · split
    · split
      · exact Leaf.dropEntry_hreErr _ _ _ hreg hhi
      · rfl
    · split
      · exact Leaf.dropEntry_hreErr _ _ _ hreg hhi
      · rfl

end

end Sys2Proof.Machine
end

section
/-! The doorbell of a course (R40, R41, R463, R464). -/

namespace Sys2Proof.Machine

open Sys2Proof

/-! ### The fetch -/

section

variable (L : Leaf)

/-- The leaf at the fetch of a course: its fine tick, and the course noted (R40). -/
def Leaf.atFetch : Leaf :=
  ({ L with tick := max L.tick 3584 } : Leaf).onHre fun H => { H with fetchAt := some L.count }

theorem Leaf.followRun_run (h : L.on HRE_CTRL_RUN = true) : L.followRun = L.put HRE_STAT_RUNNING 1 := by
  rw [Leaf.followRun, if_pos h]

/-- A ring engine told to stop runs no more, and sends nothing as it ends. -/
theorem Leaf.followRun_stop (h : L.on HRE_CTRL_RUN = false) :
    L.followRun.on HRE_STAT_RUNNING = false ∧ L.followRun.out = L.out := by
  rw [Leaf.followRun, if_neg (by simp [h])]
  cases hrun : L.on HRE_STAT_RUNNING with
  | false => exact ⟨hrun, rfl⟩
  | true =>
    have hput : (L.put HRE_STAT_RUNNING 0).get HRE_STAT_RUNNING = 0 := Leaf.get_put _ _ _ _ (by decide)
    exact ⟨by rw [if_neg (by simp)]; exact bne_eq_false_iff_eq.mpr hput, rfl⟩

theorem Leaf.running_on : (L.put HRE_STAT_RUNNING 1).get HRE_STAT_RUNNING = 1 := Leaf.get_put _ _ _ _ (by decide)

/-- Whether the ring engine may write to the host does not depend on its own state bit (R457). -/
theorem Leaf.master_put_running (v : Nat) : (L.put HRE_STAT_RUNNING v).master = L.master := by
  have hlink : (L.put HRE_STAT_RUNNING v).get HRE_STAT_LINK_UP = L.get HRE_STAT_LINK_UP :=
    Leaf.get_put_field _ _ _ _ _ rfl (by decide)
  have hbme : (L.put HRE_STAT_RUNNING v).get HRE_STAT_BME = L.get HRE_STAT_BME :=
    Leaf.get_put_field _ _ _ _ _ rfl (by decide)
  simp only [Leaf.master, Leaf.on, hlink, hbme, Leaf.put_cut]

theorem Leaf.cut_of_master (h : L.master = true) : L.cut = false := by
  simp only [Leaf.master, Bool.and_eq_true, Bool.not_eq_true'] at h
  exact h.2

/-- The interrupt vectors judged: of the leaf, the vectors alone have changed (R482). -/
theorem Leaf.judgeVecs_parts : ∃ v, L.judgeVecs.2 = L.onHre fun H => { H with vec := v } := by
  unfold Leaf.judgeVecs
  split
  · exact ⟨L.hre.vec, rfl⟩
  · refine foldl_keeps (fun K : Leaf => ∃ v, K = L.onHre fun H => { H with vec := v }) _ ?_ _ L ⟨L.hre.vec, rfl⟩
    rintro K k ⟨v, rfl⟩
    exact ⟨_, rfl⟩

/-- A leaf sends the MSI-X messages of its vectors, and nothing else of it that a fetch shows changes (R481). -/
theorem foldl_fireVec (vs : List Nat) (hcut : L.cut = false) : ∃ v,
    vs.foldl (fun L v => L.fireVec v) L =
      ({ L with out := L.out ++ vs.map Out.msix } : Leaf).onHre fun H => { H with vec := v } := by
  induction vs generalizing L with
  | nil => exact ⟨L.hre.vec, by simp [Leaf.onHre]⟩
  | cons k ks ih =>
    obtain ⟨w, hk⟩ : ∃ w, L.fireVec k = ({ L with out := L.out ++ [.msix k] } : Leaf).onHre fun H => { H with vec := w } := by
      simp only [Leaf.fireVec, Leaf.emitHost, hcut]
      exact ⟨_, rfl⟩
    rw [List.foldl_cons, hk]
    obtain ⟨v, hv⟩ := ih (({ L with out := L.out ++ [.msix k] } : Leaf).onHre fun H => { H with vec := w }) hcut
    refine ⟨v, hv.trans ?_⟩
    simp [Leaf.onHre]

end

section

variable (s : State) (l : LeafId)

/-- The leaf once its ring engine has issued the read of the doorbell block, written the status block and sent the MSI-X
messages of its vectors (R40, R464, R481). -/
def Leaf.fetching (L : Leaf) (vs : List Nat) (block : BitVec 2048) : Leaf :=
  (vs.foldl (fun L v => L.fireVec v) ((L.emitHost .doorbellRead).emitHost (.status block))).onHre fun H =>
    { H with reading := true, irErr := 0, orDrop := 0 }

theorem Leaf.fetching_out (L : Leaf) (vs : List Nat) (block : BitVec 2048) (hcut : L.cut = false) :
    (L.fetching vs block).hre.reading = true ∧ (L.fetching vs block).regs = L.regs ∧
      (L.fetching vs block).hre.fetchAt = L.hre.fetchAt ∧
      (L.fetching vs block).out = L.out ++ [.doorbellRead, .status block] ++ vs.map Out.msix := by
  have hemit : (L.emitHost .doorbellRead).emitHost (.status block) =
      { L with out := L.out ++ [.doorbellRead, .status block] } := by
    simp [Leaf.emitHost, hcut]
  obtain ⟨v, hfire⟩ := foldl_fireVec { L with out := L.out ++ [.doorbellRead, .status block] } vs hcut
  rw [Leaf.fetching, hemit, hfire]
  exact ⟨rfl, rfl, rfl, rfl⟩

section

variable (hrole : (s.leaf l).role ≠ .boot) (hnew : (s.leaf l).hre.fetchAt ≠ some (s.leaf l).count)

include hrole hnew

/-- A leaf past BOOT, at the first fetch of its course, brings its ring engine to what RUN says. -/
theorem exec_doorbellFetch_engine : ∃ block : BitVec 2048, exec (.doorbellFetch l) s = .next (s.setLeaf l (
    if !(s.leaf l).atFetch.followRun.on HRE_STAT_RUNNING || !(s.leaf l).atFetch.followRun.master then
      (s.leaf l).atFetch.followRun.onHre fun H => { H with irErr := 0, orDrop := 0 }
    else
      (s.leaf l).atFetch.followRun.judgeVecs.2.fetching (s.leaf l).atFetch.followRun.judgeVecs.1 block)) := by
  have hmay : ((s.leaf l).role != .boot && (s.leaf l).hre.fetchAt != some (s.leaf l).count) = true := by simp [hrole, hnew]
  refine ⟨(s.setLeaf l (s.leaf l).atFetch.followRun.judgeVecs.2).statusBlock l (s.leaf l).atFetch.followRun.judgeVecs.1, ?_⟩
  change guarded s _ (if (!(s.leaf l).atFetch.followRun.on HRE_STAT_RUNNING ||
    !(s.leaf l).atFetch.followRun.master) = true then _ else _) = _
  rw [hmay]
  split
  · rfl
  · exact congrArg Host.Outcome.next (State.setLeaf_setLeaf ..)

theorem doorbellFetch_reads (hrun : (s.leaf l).on HRE_CTRL_RUN = true) (hmaster : (s.leaf l).master = true) :
    Completes (.doorbellFetch l) s fun t => OnlyLeaf l s t ∧ (t.leaf l).hre.reading = true ∧
      (t.leaf l).get HRE_STAT_RUNNING = 1 ∧ (t.leaf l).hre.fetchAt = some (s.leaf l).count ∧
      ∃ (block : BitVec 2048) (more : List Out), (t.leaf l).out = (s.leaf l).out ++ [.doorbellRead, .status block] ++ more := by
  obtain ⟨block, hexec⟩ := exec_doorbellFetch_engine s l hrole hnew
  have hfollow : (s.leaf l).atFetch.followRun = (s.leaf l).atFetch.put HRE_STAT_RUNNING 1 := Leaf.followRun_run _ hrun
  have hon : ((s.leaf l).atFetch.put HRE_STAT_RUNNING 1).get HRE_STAT_RUNNING = 1 := Leaf.running_on _
  have hmast : ((s.leaf l).atFetch.put HRE_STAT_RUNNING 1).master = true := by
    rw [Leaf.master_put_running]
    exact hmaster
  have hmay : ¬ (!((s.leaf l).atFetch.put HRE_STAT_RUNNING 1).on HRE_STAT_RUNNING ||
      !((s.leaf l).atFetch.put HRE_STAT_RUNNING 1).master) = true := by
    simp [Leaf.on, hon, hmast]
  refine ⟨_, hexec, .setLeaf, ?_⟩
  obtain ⟨v, hjudge⟩ := ((s.leaf l).atFetch.put HRE_STAT_RUNNING 1).judgeVecs_parts
  rw [State.leaf_setLeaf, hfollow, if_neg hmay, hjudge]
  obtain ⟨hreading, hregs, hfetch, hout⟩ := Leaf.fetching_out (((s.leaf l).atFetch.put HRE_STAT_RUNNING 1).onHre fun H =>
    { H with vec := v }) ((s.leaf l).atFetch.put HRE_STAT_RUNNING 1).judgeVecs.1 block (Leaf.cut_of_master _ hmast)
  exact ⟨hreading, (Leaf.get_regs _ _ _ _ hregs).trans hon, hfetch, block, _, hout⟩

end

theorem doorbellFetch_stopped (hrole : (s.leaf l).role ≠ .boot) (hstop : (s.leaf l).on HRE_CTRL_RUN = false) :
    Completes (.doorbellFetch l) s fun t => OnlyLeaf l s t ∧ (t.leaf l).out = (s.leaf l).out := by
  by_cases hnew : (s.leaf l).hre.fetchAt = some (s.leaf l).count
  · have hmay : ((s.leaf l).role != .boot && (s.leaf l).hre.fetchAt != some (s.leaf l).count) = false := by simp [hnew]
    exact ⟨s, guarded_false s hmay, .rfl, rfl⟩
  · obtain ⟨block, hexec⟩ := exec_doorbellFetch_engine s l hrole hnew
    obtain ⟨hoff, hout⟩ := (s.leaf l).atFetch.followRun_stop hstop
    refine ⟨_, hexec, .setLeaf, ?_⟩
    rw [State.leaf_setLeaf, if_pos (by simp [hoff])]
    exact hout

/-! ### The completion -/

section

variable (L : Leaf)

/-- The leaf once a block is late: the read is over, the block is missing, and the lateness is counted (R41, R444). -/
def Leaf.doorLost : Leaf :=
  { L.bump CRS_LATE_DB_LATE with
    crs := { L.crs with lateRun := L.crs.lateRun + 1 }
    hre := { L.hre with reading := false, missing := L.hre.missing + 1 } }

/-- Two late blocks in a row are an event (R41). -/
theorem Leaf.lateDoor_eq : L.lateDoor =
    if L.crs.lateRun + 1 = 2 then (L.doorLost.event 0x0704).onHre fun H => { H with dbLate := true } else L.doorLost := rfl

theorem Leaf.lateDoor_ends : L.lateDoor.hre.reading = false ∧ L.lateDoor.hre.missing = L.hre.missing + 1 ∧
    L.lateDoor.hre.arrived = L.hre.arrived ∧ L.lateDoor.tick = L.tick := by
  rw [Leaf.lateDoor_eq]
  split
  · have hevent : Reported L.doorLost (L.doorLost.event 0x0704) := Reported.rfl.event
    exact ⟨hevent.reading, hevent.missing, hevent.arrived, hevent.tick⟩
  · exact ⟨rfl, rfl, rfl, rfl⟩

theorem Leaf.lateDoor_counts :
    L.lateDoor.get CRS_LATE_DB_LATE = min (L.get CRS_LATE_DB_LATE + 1) CRS_LATE_DB_LATE.max := by
  have hlost : L.doorLost.get CRS_LATE_DB_LATE = min (L.get CRS_LATE_DB_LATE + 1) CRS_LATE_DB_LATE.max :=
    L.get_bump _ _ (by decide)
  rw [Leaf.lateDoor_eq]
  split
  · exact (Leaf.get_event _ _ _ _ _ _ (by decide) (by decide)).trans hlost
  · exact hlost

theorem Leaf.lateDoor_dbRead : L.lateDoor.get HRE_ERR_DB_READ = L.get HRE_ERR_DB_READ := by
  have hlost : L.doorLost.get HRE_ERR_DB_READ = L.get HRE_ERR_DB_READ := L.get_bump_other _ _ _ _ (by decide)
  rw [Leaf.lateDoor_eq]
  split
  · exact (Leaf.produce_hreErr _ _ _ rfl (by decide)).trans hlost
  · exact hlost

/-- The indices of a block judged: of the ring engine, the course of the last OVERRUN event and the output queues alone have
changed (R472). -/
theorem Leaf.judgeOverrun_parts (d : DoorbellBlock) :
    ∃ M c, Reported L M ∧ L.judgeOverrun d = M.onHre fun H => { H with overrunAt := c } := by
  unfold Leaf.judgeOverrun
  split
  · exact ⟨L, none, .rfl, rfl⟩
  · have shown : Reported L (L.stick HRE_ERR_OVERRUN) := Reported.rfl.put
    dsimp only
    split
    · exact ⟨_, some L.count, shown.bitEvent, rfl⟩
    · split
      · exact ⟨_, some L.count, shown.bitEvent, rfl⟩
      · exact ⟨_, _, shown, rfl⟩

end

/-- A doorbell read that is outstanding by fine tick 3,968 (R41). -/
theorem doorbell_may (hreading : (s.leaf l).hre.reading = true) (htick : (s.leaf l).tick ≤ 3968) :
    ((s.leaf l).hre.reading && decide ((s.leaf l).tick ≤ 3968)) = true := by
  simp [hreading, htick]

theorem doorbellCompletion_holds (d : DoorbellBlock) (hreading : (s.leaf l).hre.reading = true)
    (htick : (s.leaf l).tick ≤ 3968) :
    Completes (.doorbellCompletion l d false) s fun t => OnlyLeaf l s t ∧ (t.leaf l).hre.arrived = some d ∧
      (t.leaf l).hre.reading = false ∧ (t.leaf l).crs.lateRun = 0 ∧ (t.leaf l).hre.door = (s.leaf l).hre.door := by
  refine Ends.guardedTrue (doorbell_may s l hreading htick) ⟨.setLeaf, ?_⟩
  rw [State.leaf_setLeaf, if_neg (by decide)]
  extract_lets M crs N
  have hM : M.hre = (s.leaf l).hre := by
    dsimp only [M]
    split <;> rfl
  obtain ⟨K, c, hreport, hjudge⟩ := N.judgeOverrun_parts d
  rw [hjudge]
  have hcrs : K.crs.lateRun = 0 := congrArg Crs.lateRun hreport.crs
  exact ⟨rfl, rfl, hcrs, hreport.door.trans (congrArg Hre.door hM)⟩

theorem doorbellCompletion_fails (d : DoorbellBlock) (hreading : (s.leaf l).hre.reading = true)
    (htick : (s.leaf l).tick ≤ 3968) :
    Completes (.doorbellCompletion l d true) s fun t => OnlyLeaf l s t ∧ (t.leaf l).get HRE_ERR_DB_READ = 1 ∧
      (t.leaf l).hre.arrived = (s.leaf l).hre.arrived ∧ (t.leaf l).hre.missing = (s.leaf l).hre.missing + 1 := by
  refine Ends.guardedTrue (doorbell_may s l hreading htick) ⟨.setLeaf, ?_⟩
  rw [State.leaf_setLeaf, if_pos rfl, Leaf.lateDoor_dbRead]
  obtain ⟨-, hmissing, harrived, -⟩ := ((s.leaf l).stick HRE_ERR_DB_READ).lateDoor_ends
  exact ⟨Leaf.get_put _ _ _ _ (by decide), harrived, hmissing⟩

theorem doorbellDeadline_late (hreading : (s.leaf l).hre.reading = true) (htick : (s.leaf l).tick ≤ 3968) :
    Completes (.doorbellDeadline l) s fun t => OnlyLeaf l s t ∧ (t.leaf l).hre.reading = false ∧
      (t.leaf l).hre.missing = (s.leaf l).hre.missing + 1 ∧ (t.leaf l).tick = 3968 ∧
      (t.leaf l).get CRS_LATE_DB_LATE = min ((s.leaf l).get CRS_LATE_DB_LATE + 1) CRS_LATE_DB_LATE.max := by
  refine Ends.guardedTrue (doorbell_may s l hreading htick) ⟨.setLeaf, ?_⟩
  rw [State.leaf_setLeaf]
  obtain ⟨hread, hmissing, -, htick'⟩ := Leaf.lateDoor_ends { s.leaf l with tick := 3968 }
  exact ⟨hread, hmissing, htick', Leaf.lateDoor_counts _⟩

theorem lateCompletion_counts : Completes (.lateCompletion l) s fun t => OnlyLeaf l s t ∧
    (t.leaf l).get HRE_CNT_LATE_CPL = min ((s.leaf l).get HRE_CNT_LATE_CPL + 1) HRE_CNT_LATE_CPL.max ∧
    t.leaf l = { s.leaf l with regs := (t.leaf l).regs } ∧ KeepsRegs (s.leaf l) (t.leaf l) [HRE_CNT.addr 0] := by
  refine Ends.onLeaf ⟨.on, ?_⟩
  rw [State.leaf_on]
  exact ⟨Leaf.get_bump _ _ _ (by decide), RegsOnly.rfl.bump, KeepsRegs.rfl.setWord (List.mem_singleton.mpr rfl)⟩

end

/-- Settles O19: a completion, late or not, ends the read of the course; what it reports changes no other part of the leaf. -/
theorem doorbellOfACourse : Obligations.doorbell_of_a_course :=
  ⟨doorbellFetch_reads, doorbellFetch_stopped, doorbellCompletion_holds, doorbellCompletion_fails, doorbellDeadline_late,
    lateCompletion_counts⟩

end Sys2Proof.Machine
end

section
/-! Keyed blocks agreed, fill blocks done, stolen and stopped (R45, R67, R68, R74, R76). -/

namespace Sys2Proof.Machine

open Sys2Proof

/-! ### What precedes the work of a computed block -/

/-- Of a leaf, registers, the fine tick, and the parts that note a computed block have changed. -/
def NotedOnly (L M : Leaf) : Prop := M = { L with regs := M.regs, tick := M.tick, tie := M.tie, ash := M.ash, cmp := M.cmp }

namespace NotedOnly

variable {L M N : Leaf}

theorem trans (h : NotedOnly L M) (h' : NotedOnly M N) : NotedOnly L N := by
  have hN := congrArg (fun K : Leaf => { K with
    regs := N.regs, tick := N.tick, tie := N.tie, ash := N.ash, cmp := N.cmp }) h
  exact Eq.trans h' hN

theorem ofRegsOnly (h : RegsOnly L M) : NotedOnly L M := by
  have hM := congrArg (fun K : Leaf => { K with tick := M.tick, tie := M.tie, ash := M.ash, cmp := M.cmp }) h
  exact hM

theorem withTick (h : NotedOnly L M) {t : Nat} : NotedOnly L { M with tick := t } := h.trans (Eq.refl _)

theorem withTie (h : NotedOnly L M) {T : Tie} : NotedOnly L { M with tie := T } := h.trans (Eq.refl _)

theorem onAsh (h : NotedOnly L M) {f : Ash → Ash} : NotedOnly L (M.onAsh f) := h.trans (Eq.refl _)

theorem stampOut (h : NotedOnly L M) {block tick : Nat} : NotedOnly L (M.stampOut block tick) := h.trans (Eq.refl _)

end NotedOnly

section

variable (L : Leaf)

/-! ### Queues of the engines -/

theorem Leaf.eng_onEng_other (e d : Nat) (f : Engine → Engine) (h : d ≠ e) : (L.onEng e f).eng d = L.eng d :=
  pick_setIfInBounds_other L.ash.engines e d _ h

/-- A work item that `thief` takes from the end of the queue of `victim` (R76). -/
def Leaf.stolen (victim thief : Nat) : Leaf :=
  (L.onEng victim fun E => { E with queue := (L.eng victim).queue.dropLast }).onEng thief fun E =>
    { E with running := (L.eng victim).queue.getLast? }

theorem Leaf.stolen_moves (v thief : Fin 24) (h : v ≠ thief) :
    ((L.stolen v thief).eng thief).running = (L.eng v).queue.getLast? ∧
      ((L.stolen v thief).eng v).queue = (L.eng v).queue.dropLast := by
  have hne : v.val ≠ thief.val := fun heq => h (Fin.ext heq)
  rw [Leaf.stolen, Leaf.eng_onEng, Leaf.eng_onEng_other _ _ _ _ hne, Leaf.eng_onEng]
  exact ⟨rfl, rfl⟩

/-! ### Outputs noted -/

/-- The output of a block is stamped with the fine time at which it came (R45). -/
theorem Leaf.stampOut_outAt (block tick : Nat) :
    kvFind (L.stampOut block tick).cmp.outAt block = some (fineAt L.count tick) := kvFind_kvPut_same ..

/-- A position is one of the eight pairs. -/
theorem Leaf.posOf_lt {block p : Nat} (h : L.posOf block = some p) : p < 8 :=
  List.mem_range.mp (List.mem_of_find?_eq_some h)

/-- The register of no pair is the one of the leaf's loads. -/
theorem addr_ash_load_ne_pair : ∀ p : Fin 8, ASH_PAIR.addr p ≠ ASH_LOAD.addr 0 := by decide

theorem Leaf.noteAgreed_notedOnly (p tick n : Nat) : NotedOnly L (L.noteAgreed p tick n) := by
  unfold Leaf.noteAgreed
  extract_lets M N
  have counted : RegsOnly L M := RegsOnly.rfl.put.put
  have shown : RegsOnly L N := counted.put.put.put
  exact (NotedOnly.ofRegsOnly shown).withTie

/-- The fine tick of a pair's output stands in its register (R74). -/
theorem Leaf.noteAgreed_doneLast (p : Fin 8) (tick : Fin 4000) (n : Nat) :
    (L.noteAgreed p tick n).get ASH_PAIR_DONE_LAST p = tick := by
  have htick : tick.val % 2 ^ 12 = tick.val := Nat.mod_eq_of_lt (by omega)
  have hload : ASH_PAIR_DONE_LAST.reg.addr p ≠ ASH_LOAD_KEY_DONE_MAX.reg.addr 0 := addr_ash_load_ne_pair p
  unfold Leaf.noteAgreed Leaf.keepMax
  dsimp only
  change Leaf.get (Leaf.put _ _ _ _) _ _ = _
  rw [Leaf.get_put_other _ _ _ _ _ _ hload, Leaf.get_put_field _ ASH_PAIR_DONE_MAX ASH_PAIR_DONE_LAST _ _ rfl (by decide),
    Leaf.get_put _ _ _ _ (by decide)]
  exact htick

/-! ### Work done -/

/-- The leaf once the pair at a position has agreed on the output of its block (R67, R74). -/
def Leaf.agreedAt (p block tick n : Nat) : Leaf :=
  ((({ L with tick := max L.tick tick } : Leaf).noteAgreed p tick n).onPair p fun X => { X with agreed := true }).stampOut
    block tick

theorem Leaf.agreedAt_notedOnly (p block tick n : Nat) : NotedOnly L (L.agreedAt p block tick n) := by
  have ticked : NotedOnly L { L with tick := max L.tick tick } := Eq.refl _
  exact (ticked.trans (Leaf.noteAgreed_notedOnly ..)).onAsh.stampOut

theorem Leaf.agreedAt_notes (p : Fin 8) (block : Nat) (tick : Fin 4000) (n : Nat) :
    ((L.agreedAt p block tick n).pairx p).agreed = true ∧ (L.agreedAt p block tick n).get ASH_PAIR_DONE_LAST p = tick ∧
      kvFind (L.agreedAt p block tick n).cmp.outAt block = some (fineAt L.count tick) :=
  ⟨congrArg PairX.agreed (Leaf.pairx_onPair ..), Leaf.noteAgreed_doneLast _ p tick n, Leaf.stampOut_outAt ..⟩

/-- The leaf once an engine has come to the end of a fill block and taken its next one (R76). -/
def Leaf.filledAt (e block tick : Nat) : Leaf :=
  let M : Leaf := (({ L with tick := max L.tick tick } : Leaf).bump ASH_STEAL_BLOCKS).keepMax ASH_LOAD_FILL_DONE_MAX tick
  ((({ M with tie := { M.tie with hFill := max M.tie.hFill tick } } : Leaf).onEng e Engine.next)).stampOut block tick

theorem Leaf.filledAt_notedOnly (e block tick : Nat) : NotedOnly L (L.filledAt e block tick) := by
  have ticked : NotedOnly L { L with tick := max L.tick tick } := Eq.refl _
  exact (ticked.trans (.ofRegsOnly RegsOnly.rfl.bump.put)).withTie.onAsh.stampOut

theorem Leaf.filledAt_counts (e block tick : Nat) :
    (L.filledAt e block tick).get ASH_STEAL_BLOCKS = min (L.get ASH_STEAL_BLOCKS + 1) ASH_STEAL_BLOCKS.max := by
  have hmax := ((L.bump ASH_STEAL_BLOCKS).get_put_other ASH_LOAD_FILL_DONE_MAX ASH_STEAL_BLOCKS
    (max (L.bump ASH_STEAL_BLOCKS |>.get ASH_LOAD_FILL_DONE_MAX) (min tick ASH_LOAD_FILL_DONE_MAX.max)) 0 0 (by decide))
  exact hmax.trans (Leaf.get_bump _ _ _ (by decide))

theorem Leaf.filledAt_next (e : Fin 24) (block tick : Nat) : (L.filledAt e block tick).eng e = (L.eng e).next :=
  Leaf.eng_onEng _ e Engine.next

end

/-! ### The commands -/

section

variable (s : State) (l : LeafId)

theorem pairOutputAgreed_runs (b : Fin 5) (tick : Fin 4000) (n p : Nat) (hpos : (s.leaf l).posOf b = some p)
    (hcomp : (s.leaf l).computing = true) (hover : (s.leaf l).ash.keyedOver = false) (hfrom : 96 ≤ tick.val)
    (hto : tick.val ≤ 2688) (hagreed : ((s.leaf l).pairx p).agreed = false) (hrerun : ((s.leaf l).pairx p).rerun = false)
    (hstopped : ((s.leaf l).pairx p).stopped = false) :
    Completes (.pairOutputAgreed l b tick n) s fun t => OnlyLeaf l s t ∧ ∃ X : Leaf, t.leaf l = X.runKeyed b tick ∧
      (X.pairx p).agreed = true ∧ X.get ASH_PAIR_DONE_LAST p = tick ∧ X.tick = max (s.leaf l).tick tick ∧
      kvFind X.cmp.outAt b = some (fineAt (s.leaf l).count tick) ∧
      X = { s.leaf l with regs := X.regs, tick := X.tick, tie := X.tie, ash := X.ash, cmp := X.cmp } := by
  have hmay : ((s.leaf l).computing && !(s.leaf l).ash.keyedOver && decide (96 ≤ tick.val) && decide (tick.val ≤ 2688) &&
      !((s.leaf l).pairx p).agreed && !((s.leaf l).pairx p).rerun && !((s.leaf l).pairx p).stopped) = true := by
    simp [hcomp, hover, hfrom, hto, hagreed, hrerun, hstopped]
  obtain ⟨hpair, hdone, hout⟩ := (s.leaf l).agreedAt_notes ⟨p, (s.leaf l).posOf_lt hpos⟩ b tick n
  unfold Completes
  dsimp only [exec, execPairOutputAgreed]
  rw [hpos]
  refine Ends.guardedTrue hmay ⟨.setLeaf, (s.leaf l).agreedAt p b tick n, ?_, hpair, hdone, Eq.refl (max (s.leaf l).tick tick), hout, Leaf.agreedAt_notedOnly ..⟩
  rw [State.leaf_setLeaf]
  rfl

theorem fillBlockComplete_runs (e : Fin 24) (tick : Fin 4000) (agree : Bool) (b : FillBlock)
    (hrun : ((s.leaf l).eng e).running = some b) (hcomp : (s.leaf l).computing = true)
    (hover : (s.leaf l).ash.fillOver = false) (hfrom : 96 ≤ tick.val) (hto : tick.val ≤ 3584) :
    Completes (.fillBlockComplete l e tick agree) s fun t => ∃ X : Leaf, t = (s.setLeaf l X).runFill l b tick agree ∧
      (X.eng e).running = ((s.leaf l).eng e).queue.head? ∧ (X.eng e).queue = ((s.leaf l).eng e).queue.drop 1 ∧
      X.get ASH_STEAL_BLOCKS = min ((s.leaf l).get ASH_STEAL_BLOCKS + 1) ASH_STEAL_BLOCKS.max ∧
      kvFind X.cmp.outAt b.id = some (fineAt (s.leaf l).count tick) ∧
      X = { s.leaf l with regs := X.regs, tick := X.tick, tie := X.tie, ash := X.ash, cmp := X.cmp } := by
  have hmay : ((s.leaf l).computing && !(s.leaf l).ash.fillOver && decide (96 ≤ tick.val) &&
      decide (tick.val ≤ 3584)) = true := by
    simp [hcomp, hover, hfrom, hto]
  have hnext := (s.leaf l).filledAt_next e b.id tick
  unfold Completes
  dsimp only [exec, execFillBlockComplete]
  rw [hrun]
  exact Ends.guardedTrue hmay ⟨(s.leaf l).filledAt e b.id tick, rfl, congrArg Engine.running hnext,
    congrArg Engine.queue hnext, Leaf.filledAt_counts .., Leaf.stampOut_outAt .., Leaf.filledAt_notedOnly ..⟩

theorem steal_takes (thief : Fin 24) (v : Nat) (hcomp : (s.leaf l).computing = true)
    (hover : (s.leaf l).ash.fillOver = false) (hfill : (s.leaf l).get (engState thief) = 0)
    (hidle : ((s.leaf l).eng thief).running = none) (hempty : ((s.leaf l).eng thief).queue = [])
    (hrich : (s.leaf l).richest thief = some v) (hv : v < 24) (hne : v ≠ thief) :
    Completes (.steal l thief) s fun t => OnlyLeaf l s t ∧
      ((t.leaf l).eng thief).running = ((s.leaf l).eng v).queue.getLast? ∧
      ((t.leaf l).eng v).queue = ((s.leaf l).eng v).queue.dropLast ∧
      (t.leaf l).get ASH_STEAL_STEALS = min ((s.leaf l).get ASH_STEAL_STEALS + 1) ASH_STEAL_STEALS.max := by
  have hmay : ((s.leaf l).computing && !(s.leaf l).ash.fillOver && (s.leaf l).get (engState thief) == 0 &&
      ((s.leaf l).eng thief).running.isNone && ((s.leaf l).eng thief).queue.isEmpty) = true := by
    simp [hcomp, hover, hfill, hidle, hempty]
  obtain ⟨htaken, hleft⟩ := (s.leaf l).stolen_moves ⟨v, hv⟩ thief fun heq => hne (congrArg Fin.val heq)
  unfold Completes
  dsimp only [exec, execSteal]
  rw [hrich]
  refine Ends.guardedTrue hmay ⟨.setLeaf, ?_⟩
  rw [State.leaf_setLeaf]
  exact ⟨htaken, hleft, Leaf.get_bump ((s.leaf l).stolen v thief) _ _ (by decide)⟩

theorem cycleGuardStop_stops (e : Fin 24) (b : FillBlock) (hfree : (s.leaf l).bondOf e = none)
    (hrun : ((s.leaf l).eng e).running = some b) (hcomp : (s.leaf l).computing = true)
    (hover : (s.leaf l).ash.fillOver = false) :
    Completes (.cycleGuardStop l e) s fun t => OnlyLeaf l s t ∧ b.id ∈ (t.leaf l).ash.invalid ∧
      ((t.leaf l).eng e).running = ((s.leaf l).eng e).queue.head? ∧
      (t.leaf l).get ASH_CNT_GUARD_STOP = min ((s.leaf l).get ASH_CNT_GUARD_STOP + 1) ASH_CNT_GUARD_STOP.max := by
  have hmay : ((s.leaf l).computing && !(s.leaf l).ash.fillOver) = true := by simp [hcomp, hover]
  unfold Completes
  dsimp only [exec, execCycleGuardStop]
  rw [hfree, hrun]
  refine Ends.guardedTrue hmay ⟨.setLeaf, ?_⟩
  rw [State.leaf_setLeaf]
  exact ⟨List.mem_append_right _ (List.mem_singleton.mpr rfl), congrArg Engine.running (Leaf.eng_onEng _ e Engine.next),
    Leaf.get_bump (s.leaf l) _ _ (by decide)⟩

end

/-- Settles O22: what precedes the block's own work is noted in registers, in the pair or the engine, and in the time of its
output. -/
theorem blocksComplete : Obligations.blocks_complete :=
  ⟨pairOutputAgreed_runs, fillBlockComplete_runs, steal_takes, cycleGuardStop_stops⟩

end Sys2Proof.Machine
end

section
/-! The mirror, the withdrawal and the commit of changes (R51, R52). -/

namespace Sys2Proof.Machine

open Sys2Proof

/-! ### The list of changes -/

theorem OnlyLeaves.both {s t : State} (h : OnlyLeaves s t) {f : Leaf → Leaf} : OnlyLeaves s (t.both f) := h.withLeaves _ _

section

variable (L : Leaf)

/-- What waits is shown in registers (R54). -/
theorem Leaf.showPend_regsOnly : RegsOnly L L.showPend := by
  unfold Leaf.showPend
  split
  · exact RegsOnly.rfl.setWord
  · exact RegsOnly.rfl.put.put

theorem Leaf.onChanges_crs (f : List Change → List Change) : (L.onChanges f).crs = { L.crs with changes := f L.crs.changes } :=
  (Leaf.showPend_regsOnly _).crs

theorem Leaf.onChanges_role (f : List Change → List Change) : (L.onChanges f).role = L.role := (Leaf.showPend_regsOnly _).role

theorem Leaf.noteChange_crs (c : Change) : (L.noteChange c).crs = L.crs := by
  unfold Leaf.noteChange
  split <;> rfl

theorem Leaf.sendUnit_crs (typ : Nat) (payload : List Nat) (ack : Bool) : (L.sendUnit typ payload ack).crs = L.crs := by
  unfold Leaf.sendUnit
  split <;> rfl

theorem Leaf.sendSetup_crs (w : ChangeWhat) : (L.sendSetup w).crs = L.crs := by
  unfold Leaf.sendSetup
  split
  · exact Leaf.sendUnit_crs ..
  · rfl

/-- A change that the LEAD leaf has accepted joins the changes of the leaf that takes it (R51). -/
theorem Leaf.mirrored_changes (hd : Hdr) (c : Change) (typ : Nat) (rx : Rx) (w : ChangeWhat) :
    (((((L.decided hd).onChanges (· ++ [c])).noteChange c).ackUnit typ rx).sendSetup w).crs.changes =
      L.crs.changes ++ [c] := by
  rw [Leaf.sendSetup_crs, Leaf.ackUnit, Leaf.sendUnit_crs, Leaf.noteChange_crs, Leaf.onChanges_crs]
  rfl

end

/-! ### Completions -/

section

variable (s : State) (l : LeafId) (h : Hdr) (code effect detail : Nat)

theorem State.answer_onlyLeaves {t : State} (ht : OnlyLeaves s t) : OnlyLeaves s (t.answer l h code effect detail) := by
  unfold State.answer
  split
  · split
    · exact ht
    · exact ht.on
  · exact ht.both

theorem Leaf.complete_crs (L : Leaf) : (L.complete h code effect detail).crs = L.crs := (Reported.rfl.complete).crs

/-- An answer to a change leaves the changes of both leaves. -/
theorem State.answer_crs (m : LeafId) : ((s.answer l h code effect detail).leaf m).crs = (s.leaf m).crs := by
  unfold State.answer
  split
  · split
    · rfl
    · by_cases hm : m = l
      · rw [hm, State.leaf_on]
        exact (Reported.rfl.event).crs
      · rw [State.leaf_on_other _ _ _ _ hm]
  · rw [State.completeBoth, State.leaf_both]
    split
    · exact Leaf.complete_crs ..
    · rfl

end

/-! ### The commands -/

section

variable (s : State) (l : LeafId)

theorem change_mirrors (rx : Rx) (c : ChangeRx) (L : Leaf) (w : ChangeWhat) (htake : (s.leaf l).takeUnit rx = some L)
    (hrole : L.role = .follow) (hread : readChange c.bytes = .ok w) (hnone : L.crs.undecided = []) :
    Completes (.change l rx c) s fun t => OnlyLeaf l s t ∧ ∃ ch : Change, (t.leaf l).crs.changes = L.crs.changes ++ [ch] ∧
      ch.effect = c.effect ∧ ch.what = w ∧ ch.hdr.dseq = c.dseq ∧ ch.hdr.tag = c.tag := by
  unfold Completes
  dsimp only [exec, execChange]
  rw [htake]
  dsimp only
  rw [if_neg (by simp [hrole]), hread, hnone]
  refine Ends.next ⟨.setLeaf, { effect := c.effect, what := w, acked := true, hdr := { hdrOf c.bytes with
    tag := c.tag, dseq := c.dseq, want := c.want, effect := c.effect } }, ?_, rfl, rfl, rfl, rfl⟩
  rw [State.leaf_setLeaf]
  exact Leaf.mirrored_changes ..

theorem changeWithdraw_removes (f : LeafId) (q : BitVec 32) (c : Change) (hlead : s.leadId = some l)
    (hfollow : s.followId = some f)
    (hfind : ((s.leaf l).crs.changes.find? fun c => c.hdr.dseq == q && !c.acked) = some c) (htick : 3584 ≤ (s.leaf l).tick)
    (hclose : isAfter ((s.leaf l).count + 2).toNat c.effect.toNat 48 = false) :
    Completes (.changeWithdraw q) s fun t => OnlyLeaves s t ∧
      ∀ m, (t.leaf m).crs.changes = (s.leaf m).crs.changes.filter fun x => !sameDesc x.hdr c.hdr := by
  have hmay : (decide (3584 ≤ (s.leaf l).tick) && s.followId.isSome &&
      !isAfter ((s.leaf l).count + 2).toNat c.effect.toNat 48) = true := by
    rw [hclose, hfollow]
    simp [htick]
  unfold Completes
  dsimp only [exec, execChangeWithdraw]
  rw [hlead]
  dsimp only
  rw [hfind]
  refine Ends.guardedTrue hmay ⟨State.answer_onlyLeaves _ _ _ _ _ _ OnlyLeaves.rfl.both, fun m => ?_⟩
  rw [State.answer_crs, State.leaf_both]
  have hfilter := congrArg Crs.changes ((s.leaf m).onChanges_crs fun cs => cs.filter fun x => !sameDesc x.hdr c.hdr)
  refine Eq.trans ?_ hfilter
  simp only [apply_ite Leaf.crs, Leaf.bump_crs, ite_self]
  split <;> rfl

/-- A change withdrawn from the lists of both leaves. -/
def State.dropChange (s : State) (c : Change) : State :=
  s.both fun L => L.onChanges fun cs => cs.filter fun x => !sameDesc x.hdr c.hdr

theorem State.dropChange_leaf (c : Change) (m : LeafId) : ((s.dropChange c).leaf m).role = (s.leaf m).role ∧
    ((s.dropChange c).leaf m).crs.changes = ((s.leaf m).crs.changes.filter fun x => !sameDesc x.hdr c.hdr) ∧
    ((s.dropChange c).leaf m).crs.due = (s.leaf m).crs.due := by
  rw [State.dropChange, State.leaf_both, Leaf.onChanges_role, Leaf.onChanges_crs]
  exact ⟨rfl, rfl, rfl⟩

theorem role_of_leadId (h : s.leadId = some l) : (s.leaf l).role = .lead := by
  unfold State.leadId at h
  split at h
  next h0 =>
    cases h
    simp only [Bool.and_eq_true, beq_iff_eq] at h0
    exact h0.1
  next =>
    split at h
    next h1 =>
      cases h
      simp only [Bool.and_eq_true, beq_iff_eq] at h1
      exact h1.1
    next => cases h

/-- A change fixed for the next course by a leaf that computes (R52). -/
def Leaf.fixChange (L : Leaf) (c : Change) : Leaf :=
  if L.computing then { L with crs := { L.crs with due := L.crs.due ++ [c] } } else L

theorem Leaf.fixChange_crs (L : Leaf) (c : Change) (h : L.role = .lead) :
    (L.fixChange c).crs = { L.crs with due := L.crs.due ++ [c] } := by
  have hcomp : L.computing = true := by simp [Leaf.computing, Leaf.carrying, h]
  rw [Leaf.fixChange, if_pos hcomp]

/-- A change fixed for the next course; a carry command has the set-up digests compared anew (R595). -/
def State.fixChange (s : State) (c : Change) : State :=
  let s := if c.what.carries then
      s.both fun L => ({ L with tie := { L.tie with setupSeen := none } } : Leaf).put GLB_STAT_SETUP_DIFF 0
    else s
  s.both fun L => L.fixChange c

theorem State.fixChange_onlyLeaves {t : State} (ht : OnlyLeaves s t) (c : Change) : OnlyLeaves s (t.fixChange c) := by
  unfold State.fixChange
  split
  · exact ht.both.both
  · exact ht.both

theorem State.fixChange_crs (c : Change) (h : (s.leaf l).role = .lead) :
    ((s.fixChange c).leaf l).crs = { (s.leaf l).crs with due := (s.leaf l).crs.due ++ [c] } := by
  unfold State.fixChange
  split
  · rw [State.leaf_both, State.leaf_both]
    exact Leaf.fixChange_crs _ c h
  · rw [State.leaf_both, Leaf.fixChange_crs _ _ h]

theorem planCommit_fixes (c : Change) (hlead : s.leadId = some l) (hlist : (s.leaf l).crs.changes = [c])
    (hnext : c.effect = (s.leaf l).count + 1) (hacked : c.acked = true) (hconfirm : confirmAgainstRevert [c] c = false)
    (hadmit : (s.both fun L => L.onChanges fun cs => cs.filter fun x => !sameDesc x.hdr c.hdr).refuseChange l c.what true =
      none) :
    Completes .planCommit s fun t => OnlyLeaves s t ∧ (t.leaf l).crs.changes = [] ∧
      (t.leaf l).crs.due = (s.leaf l).crs.due ++ [c] := by
  have hnow : planFirst ((s.leaf l).crs.changes.filter fun c =>
      c.effect == (s.leaf l).count + 1 && (c.acked || s.followId.isNone)) = [c] := by
    rw [hlist]
    cases hplan : planChange c <;> simp [planFirst, hnext, hacked, hplan]
  obtain ⟨hrole, hchanges, hdue⟩ := s.dropChange_leaf c l
  have hfixed := (s.dropChange c).fixChange_crs l c (hrole.trans (role_of_leadId s l hlead))
  have hexec : exec .planCommit s =
      .next (((s.dropChange c).fixChange c).answer l c.hdr 0x0001 ((s.leaf l).count + 1).toNat) := by
    change execPlanCommit s = _
    unfold execPlanCommit
    rw [hlead]
    dsimp only
    rw [hnow, List.foldl_cons, List.foldl_nil, hconfirm, if_neg Bool.false_ne_true, hadmit]
    rfl
  refine ⟨_, hexec, State.answer_onlyLeaves _ _ _ _ _ _ (State.fixChange_onlyLeaves _ OnlyLeaves.rfl.both c), ?_⟩
  rw [State.answer_crs, hfixed, hchanges, hdue, hlist]
  simp [sameDesc]

theorem planCommit_passes (hlead : s.leadId = some l)
    (hlist : ∀ c ∈ (s.leaf l).crs.changes, c.effect ≠ (s.leaf l).count + 1) : exec .planCommit s = .next s := by
  have hnow : ((s.leaf l).crs.changes.filter fun c =>
      c.effect == (s.leaf l).count + 1 && (c.acked || s.followId.isNone)) = [] := by
    refine List.filter_eq_nil_iff.mpr fun c hc => ?_
    rw [beq_false_of_ne (hlist c hc), Bool.false_and]
    exact Bool.false_ne_true
  change execPlanCommit s = _
  unfold execPlanCommit
  rw [hlead]
  dsimp only
  rw [hnow]
  rfl

end

end Sys2Proof.Machine
end

section
/-! What a change does at its course (R106, R108, R113, R114, R120, R245, R460). -/

namespace Sys2Proof.Machine

open Sys2Proof

variable (L : Leaf) (c : Change)

/-- The leaf with no change fixed for its course any more. -/
def Leaf.dueTaken : Leaf := { L with crs := { L.crs with due := [] } }

theorem Leaf.dueTaken_fitRws (r : Reg) (i : Nat) (old w : Word) : L.dueTaken.fitRws r i old w = L.fitRws r i old w := by
  unfold Leaf.fitRws
  rfl

/-- One change fixed for a course is all that is done at it (R52). -/
theorem Leaf.applyDue_one (h : L.crs.due = [c]) : L.applyDue = L.dueTaken.applyChange c := by
  unfold Leaf.applyDue
  rw [h]
  rfl

/-! ### Writes -/

section

variable {c} (w : RegW) (r : Reg) (i : Nat) (hdue : L.crs.due = [c]) (hwhat : c.what = .writes [w])
  (hfind : findReg w.off = some (r, i))

include hdue hwhat hfind

/-- A single write at its course: for a TEST of GCH_CMD, for another command register, or for a settings register. -/
theorem Leaf.applyDue_write : L.applyDue =
    if r == GCH_CMD && (w.value &&& w.mask).getLsbD 62 then
      (if (w.value &&& w.mask).getLsbD 63 then
        L.dueTaken.queueCmd c.hdr { w with value := setField (w.value &&& w.mask) 62 62 0 }
      else L.dueTaken).discardEvent w.off 0 1 w.value.toNat w.mask.toNat
    else if routed r then L.dueTaken.queueCmd c.hdr { w with value := w.value &&& w.mask }
    else L.dueTaken.storeRws r i (L.masked r i w) L.count := by
  rw [L.applyDue_one c hdue, Leaf.applyChange, hwhat]
  dsimp only [List.foldl_cons, List.foldl_nil]
  rw [hfind]
  rfl

theorem applyDue_setting (hplain : plainSetting r = true) (hroute : routed r = false) :
    L.applyDue.word r i = L.fitRws r i (L.word r i)
        (mergeRws r i (L.word r i) ((L.word r i &&& ~~~w.mask) ||| (w.value &&& w.mask))) ∧
      L.applyDue = { L with regs := L.applyDue.regs, crs := { L.crs with due := [] } } ∧ KeepsRegs L L.applyDue [r.addr i] := by
  have hcmd : ¬ (r == GCH_CMD && (w.value &&& w.mask).getLsbD 62) = true := by
    intro h
    have hr : r = GCH_CMD := by simpa using (Bool.and_eq_true_iff.mp h).1
    rw [hr] at hroute
    exact absurd hroute (by decide)
  have happly : L.applyDue = L.dueTaken.storeRws r i (L.masked r i w) L.count := by
    rw [L.applyDue_write w r i hdue hwhat hfind, if_neg hcmd, if_neg (by simp [hroute])]
  have hword := L.dueTaken.storeRws_plain_word r i (L.masked r i w) L.count hplain
  rw [Leaf.dueTaken_fitRws] at hword
  have hparts := L.dueTaken.storeRws_plain_parts r i (L.masked r i w) L.count hplain
  have hkeeps := L.dueTaken.storeRws_plain_keepsRegs r i (L.masked r i w) L.count hplain
  rw [happly]
  generalize L.dueTaken.storeRws r i (L.masked r i w) L.count = M at hword hparts hkeeps ⊢
  exact ⟨hword, hparts, hkeeps⟩

theorem applyDue_command (hroute : routed r = true) (htest : r = GCH_CMD → (w.value &&& w.mask).getLsbD 62 = false) :
    L.applyDue = { L with crs := { L.crs with
      due := [], cmds := L.crs.cmds ++ [({ w with value := w.value &&& w.mask }, c.hdr)] } } := by
  have hcmd : ¬ (r == GCH_CMD && (w.value &&& w.mask).getLsbD 62) = true := by
    intro h
    obtain ⟨hr, hbit⟩ := Bool.and_eq_true_iff.mp h
    rw [htest (by simpa using hr)] at hbit
    cases hbit
  rw [L.applyDue_write w r i hdue hwhat hfind, if_neg hcmd, if_pos hroute]
  rfl

theorem applyDue_gateTest (hr : r = GCH_CMD) (htest : (w.value &&& w.mask).getLsbD 62 = true) :
    L.applyDue = ({ L with crs := { L.crs with due := [], cmds := if (w.value &&& w.mask).getLsbD 63 then
        L.crs.cmds ++ [({ w with value := setField (w.value &&& w.mask) 62 62 0 }, c.hdr)] else L.crs.cmds } } : Leaf).discardEvent
        w.off 0 1 w.value.toNat w.mask.toNat := by
  rw [L.applyDue_write w r i hdue hwhat hfind, if_pos (Bool.and_eq_true_iff.mpr ⟨by simp [hr], htest⟩)]
  split
  · rfl
  · rfl

end

/-! ### Tables -/

theorem Leaf.inst_setInst (b i : Nat) (C : Comp) : (L.setInst b i C).inst b i = C := by
  unfold Leaf.inst Leaf.setInst
  rw [kvFind_kvPut_same]
  rfl

/-- A compensator switched to a bank that holds a table: its last inputs stand, and its outputs are clamped to the new limits
(R106, R108). -/
theorem Comp.switch_table (C : Comp) (k : Nat) (t : CoefTable) (h : pick C.bank k = some t) :
    (C.switch k).active = k ∧ (C.switch k).form = startForm t ∧ (C.switch k).disarmed = 64 ∧ (C.switch k).x1 = C.x1 ∧
      (C.switch k).y1 = clampInt (outMin t) (outMax t) C.y1 := by
  unfold Comp.switch
  rw [h]
  dsimp only
  split
  · exact ⟨rfl, rfl, rfl, rfl, rfl⟩
  · exact ⟨rfl, rfl, rfl, rfl, rfl⟩

section

variable {c} (hdue : L.crs.due = [c])

include hdue

theorem applyDue_table (b i k : Nat) (t : CoefTable) (hwhat : c.what = .table b i k)
    (hbank : pick (L.inst b i).bank k = some t) :
    (L.applyDue.inst b i).active = k ∧ (L.applyDue.inst b i).form = startForm t ∧ (L.applyDue.inst b i).disarmed = 64 ∧
      (L.applyDue.inst b i).x1 = (L.inst b i).x1 ∧ (L.applyDue.inst b i).y1 = clampInt (outMin t) (outMax t) (L.inst b i).y1 ∧
      L.applyDue.regs = L.regs := by
  have happly : L.applyDue.inst b i = (L.inst b i).switch k ∧ L.applyDue.regs = L.regs := by
    rw [L.applyDue_one c hdue, Leaf.applyChange, hwhat]
    exact ⟨L.dueTaken.inst_setInst b i _, rfl⟩
  obtain ⟨hinst, hregs⟩ := happly
  obtain ⟨hactive, hform, hdisarmed, hx, hy⟩ := (L.inst b i).switch_table k t hbank
  rw [hinst]
  exact ⟨hactive, hform, hdisarmed, hx, hy, hregs⟩

end

/-! ### Tests -/

/-- The fields of a test slot share no bit. -/
theorem tsFields_apart : ∀ k : Fin 4, (tsState k).hi < 64 ∧ (tsAbort k).hi < (tsState k).lo ∧
    (tsPoint k).hi < (tsState k).lo ∧ (tsPoint k).hi < (tsAbort k).lo := by
  decide

/-- The state of a test slot and its abort reason, once put. -/
theorem Leaf.get_tsFields (k : Fin 4) (st ab : Nat) :
    ((L.put (tsState k) st).put (tsAbort k) ab).get (tsState k) = st % 8 ∧
      ((L.put (tsState k) st).put (tsAbort k) ab).get (tsAbort k) = ab % 8 := by
  obtain ⟨hstate, hapart, -⟩ := tsFields_apart k
  have hwide : (tsAbort k).hi < 64 ∧ (tsState k).hi + 1 - (tsState k).lo = 3 ∧ (tsAbort k).hi + 1 - (tsAbort k).lo = 3 := by
    revert k
    decide
  obtain ⟨habort, hsw, haw⟩ := hwide
  constructor
  · rw [Leaf.get_put_field _ (tsAbort k) (tsState k) _ _ rfl (.inl hapart), Leaf.get_put _ _ _ _ hstate, hsw]
    rfl
  · rw [Leaf.get_put _ _ _ _ habort, haw]
    rfl

/-- A test begun at its course: it ramps up, with its descriptor and the course it starts in (R113, R114). -/
theorem Leaf.beginTest_begins (d : Slot) (hslot : sl d 17 1 < 4) :
    (L.beginTest d).get (tsState (sl d 17 1)) = 2 ∧ (L.beginTest d).get (tsAbort (sl d 17 1)) = 0 ∧
      (pick (L.beginTest d).cmp.tests (sl d 17 1)).desc = d ∧ (pick (L.beginTest d).cmp.tests (sl d 17 1)).start = L.count := by
  obtain ⟨k, hk⟩ : ∃ k : Fin 4, k.val = sl d 17 1 := ⟨⟨_, hslot⟩, rfl⟩
  obtain ⟨-, -, hstate, habort⟩ := tsFields_apart k
  unfold Leaf.beginTest
  rw [← hk]
  split
  extract_lets slot t C M
  obtain ⟨hst, hab⟩ := M.get_tsFields k 2 0
  refine ⟨?_, ?_, ?_, ?_⟩
  · rw [Leaf.get_put_field _ (tsPoint k) (tsState k) _ _ rfl (.inl hstate), hst]
  · rw [Leaf.get_put_field _ (tsPoint k) (tsAbort k) _ _ rfl (.inl habort), hab]
  · exact congrArg Test.desc (pick_setIfInBounds_same L.cmp.tests k t k.isLt)
  · exact congrArg Test.start (pick_setIfInBounds_same L.cmp.tests k t k.isLt)

section

variable {c} (hdue : L.crs.due = [c])

include hdue

theorem applyDue_testStart (d : Slot) (hwhat : c.what = .testStart d) (hslot : sl d 17 1 < 4) :
    L.applyDue.get (tsState (sl d 17 1)) = 2 ∧ L.applyDue.get (tsAbort (sl d 17 1)) = 0 ∧
      (pick L.applyDue.cmp.tests (sl d 17 1)).desc = d ∧ (pick L.applyDue.cmp.tests (sl d 17 1)).start = L.count := by
  have hbegin := L.dueTaken.beginTest_begins d hslot
  rw [L.applyDue_one c hdue, Leaf.applyChange, hwhat]
  exact hbegin

theorem applyDue_testStop (k : Fin 4) (hwhat : c.what = .testStop k) :
    (2 ≤ L.get (tsState k) → L.get (tsState k) ≤ 4 → L.applyDue.get (tsState k) = 5 ∧ L.applyDue.get (tsAbort k) = 1 ∧
      (pick L.applyDue.cmp.tests k).downAt = some L.count) ∧
    (L.get (tsState k) = 1 → L.applyDue.get (tsState k) = 7 ∧ L.applyDue.get (tsAbort k) = 1) := by
  have happly : L.applyDue = L.dueTaken.stopTest k := by
    rw [L.applyDue_one c hdue, Leaf.applyChange, hwhat]
  rw [happly]
  refine ⟨fun hfrom hto => ?_, fun hpending => ?_⟩
  · have hrun : 2 ≤ L.dueTaken.get (tsState k) ∧ L.dueTaken.get (tsState k) ≤ 4 := ⟨hfrom, hto⟩
    rw [Leaf.stopTest, if_pos hrun]
    obtain ⟨hstate, habort⟩ := Leaf.get_tsFields { L.dueTaken with cmp := { L.dueTaken.cmp with
      tests := alter L.dueTaken.cmp.tests k fun t => { t with downAt := some L.dueTaken.count } } } k 5 1
    exact ⟨hstate, habort, congrArg Test.downAt (pick_alter_same L.cmp.tests k _ k.isLt)⟩
  · have hrun : ¬ (2 ≤ L.dueTaken.get (tsState k) ∧ L.dueTaken.get (tsState k) ≤ 4) := by
      have hone : L.dueTaken.get (tsState k) = 1 := hpending
      omega
    have hwait : L.dueTaken.get (tsState k) = 1 := hpending
    rw [Leaf.stopTest, if_neg hrun, if_pos hwait]
    exact L.dueTaken.get_tsFields k 7 1

end

/-! ### Captures -/

/-- A capture slot moved shows its new state, and its module state stands (R119). -/
theorem Leaf.moveCap_moves (k : Fin 4) (st : Nat) (hst : st < 16) :
    (L.moveCap k st).cmp = L.cmp ∧ (L.moveCap k st).count = L.count ∧ (L.moveCap k st).get (capState k) = st := by
  have hfield : (capState k).hi < 64 ∧ (capState k).hi + 1 - (capState k).lo = 4 := by
    revert k
    decide
  have hpost : ((L.put (capState k) st).postCapture k).get (capState k) = (L.put (capState k) st).get (capState k) :=
    Leaf.get_word _ _ _ _ (Leaf.produce_word _ _ ASH_CAP_STAT 0 (by decide) (by decide))
  unfold Leaf.moveCap
  refine ⟨?_, ?_, ?_⟩
  · unfold Leaf.postCapture
    rw [Leaf.produce_parts]
    rfl
  · unfold Leaf.postCapture
    rw [Leaf.produce_parts]
    rfl
  · rw [hpost, Leaf.get_put _ _ _ _ hfield.1, hfield.2]
    exact Nat.mod_eq_of_lt hst

/-- The leaf with a capture slot taken by a descriptor, its buffers empty (R120). -/
theorem Leaf.armCapture_arms (d : Slot) (k : Fin 4) (hk : sl d 17 1 = k) :
    (pick (L.armCapture d).cmp.caps k).desc = d ∧ pick (L.armCapture d).cmp.buffers k = [] ∧
      (L.armCapture d).count = L.count ∧
      (L.armCapture d).get (capState k) = (if 0 < cdPre d ∧ 2 ≤ cdTrig d then 2 else 1) := by
  unfold Leaf.armCapture
  rw [hk]
  extract_lets slot old free mib M C N
  obtain ⟨hcmp, hcount, hstate⟩ := N.moveCap_moves k (if 0 < cdPre d ∧ 2 ≤ cdTrig d then 2 else 1) (by split <;> decide)
  rw [hcmp, hcount, hstate]
  exact ⟨congrArg Capture.desc (pick_setIfInBounds_same L.cmp.caps k _ k.isLt),
    pick_setIfInBounds_same L.cmp.buffers k _ k.isLt, rfl, rfl⟩

/-- A capture triggered gathers its courses, from the course of its trigger (R119, R120). -/
theorem Leaf.triggerCapture_triggers (k : Fin 4) :
    (pick (L.triggerCapture k).cmp.caps k).desc = (pick L.cmp.caps k).desc ∧
      pick (L.triggerCapture k).cmp.buffers k = pick L.cmp.buffers k ∧ (L.triggerCapture k).get (capState k) = 3 ∧
      (pick (L.triggerCapture k).cmp.caps k).triggered = some L.count := by
  unfold Leaf.triggerCapture
  extract_lets M
  obtain ⟨hcmp, -, hstate⟩ := M.moveCap_moves k 3 (by decide)
  have hcap := pick_alter_same L.cmp.caps k (fun C => { C with
    triggered := some L.count, start := if cdTrig C.desc ≤ 1 then L.count else C.start }) k.isLt
  have hdesc := congrArg Capture.desc hcap
  have htriggered := congrArg Capture.triggered hcap
  rw [hcmp, hstate]
  exact ⟨hdesc, rfl, rfl, htriggered⟩

theorem applyDue_capture {c : Change} (d : Slot) (hdue : L.crs.due = [c]) (hwhat : c.what = .captureStart d)
    (hslot : sl d 17 1 < 4) :
    (pick L.applyDue.cmp.caps (sl d 17 1)).desc = d ∧ pick L.applyDue.cmp.buffers (sl d 17 1) = [] ∧
    L.applyDue.get (capState (sl d 17 1)) = (if cdTrig d = 0 then 3 else if 0 < cdPre d ∧ 2 ≤ cdTrig d then 2 else 1) ∧
    (cdTrig d = 0 → (pick L.applyDue.cmp.caps (sl d 17 1)).triggered = some L.count) := by
  obtain ⟨k, hk⟩ : ∃ k : Fin 4, sl d 17 1 = k.val := ⟨⟨_, hslot⟩, rfl⟩
  have happly : L.applyDue = if cdTrig d = 0 then (L.dueTaken.armCapture d).triggerCapture k else L.dueTaken.armCapture d := by
    rw [L.applyDue_one c hdue, Leaf.applyChange, hwhat, ← hk]
  obtain ⟨hdesc, hbuffer, hcount, hstate⟩ := L.dueTaken.armCapture_arms d k hk
  rw [happly, hk]
  by_cases htrig : cdTrig d = 0
  · obtain ⟨htdesc, htbuffer, htstate, htriggered⟩ := (L.dueTaken.armCapture d).triggerCapture_triggers k
    rw [if_pos htrig, if_pos htrig, htdesc, htbuffer, htriggered, hcount]
    exact ⟨hdesc, hbuffer, htstate, fun _ => rfl⟩
  · rw [if_neg htrig, if_neg htrig]
    exact ⟨hdesc, hbuffer, hstate, fun h => absurd h htrig⟩

/-- Settles O27: a change that is fixed for a course is the only one applied at it, and its kind alone decides what it does. -/
theorem changesMirroredAndCommitted : Obligations.changes_mirrored_and_committed :=
  ⟨change_mirrors, changeWithdraw_removes, planCommit_fixes, planCommit_passes,
    fun L _ w r i hdue hwhat hfind => ⟨applyDue_setting L w r i hdue hwhat hfind, applyDue_command L w r i hdue hwhat hfind,
      applyDue_gateTest L w r i hdue hwhat hfind⟩,
    fun L _ b i k t hdue => applyDue_table L hdue b i k t, fun L _ d hdue => applyDue_testStart L hdue d,
    fun L _ k hdue => applyDue_testStop L hdue k, fun L _ d hdue => applyDue_capture L d hdue⟩

end Sys2Proof.Machine
end

section
/-! A request of an actuator whose stage sensor has tripped (R381, R406). -/

namespace Sys2Proof.Machine

open Sys2Proof

/-- A completion writes no register but the two that count and show entries (R474). -/
theorem Leaf.complete_word (L : Leaf) (h : Hdr) (code effect detail : Nat) (r : Reg) (i : Nat)
    (hcnt : r.addr i ≠ HRE_CNT.addr 0) (herr : r.addr i ≠ HRE_ERR.addr 0) :
    (L.complete h code effect detail).word r i = L.word r i := by
  unfold Leaf.complete
  split
  · rfl
  · dsimp only
    split
    · exact L.produce_word _ r i hcnt herr
    · exact (Leaf.word_put_other _ _ _ _ _ _ hcnt).trans (L.produce_word _ r i hcnt herr)

section

variable (L : Leaf) (h : Hdr) (d : Slot)

/-- A descriptor with PARK_RELEASE alone leaves the speeds (R381). -/
theorem Leaf.takeSpeeds_parkRelease (hflags : sl d 17 1 = 4) : L.takeSpeeds d = L := by
  simp [Leaf.takeSpeeds, hflags]

/-- The park lock, its stage sensor tripped, refuses a move (R406). -/
theorem Leaf.usePark_hot (engage : Bool) (hot : L.actHot 1 = true) : L.usePark h engage = L.complete h 0x0201 := by
  rw [Leaf.usePark, if_pos (.inr hot)]

theorem Leaf.useDesc_parkRelease_hot (carry : Bool) (inp : SealIn) (hring : h.ring = 0) (hop : opcode d = 0x50)
    (hflags : sl d 17 1 = 4) (hot : L.actHot 1 = true) : L.useDesc carry inp (h, d) = L.complete h 0x0201 := by
  have huse : L.useDesc carry inp (h, d) = L.useActuator h d := by
    simp only [Leaf.useDesc, hring, hop]
  have hpark : L.useActuator h d = (L.takeSpeeds d).usePark h false := by
    simp [Leaf.useActuator, hflags]
  rw [huse, hpark, L.takeSpeeds_parkRelease d hflags, L.usePark_hot h false hot]

end

/-- A leaf whose park lock rests engaged (ACT_CHSTAT.STATE IDLE, ACT_STAT.PARK ENGAGED) with the stage's sensor tripped. -/
def hotParkLock : Leaf :=
  ({ Leaf.reset .leaf0 with thm := { sensors := (Vector.replicate 83 default).setIfInBounds 61 { trip := true } } } : Leaf).put
    ACT_CHSTAT_STATE 1 1 |>.put ACT_STAT_PARK 2

theorem hotParkLock_rests : hotParkLock.actState 1 = 1 ∧ hotParkLock.get ACT_STAT_PARK = 2 ∧ hotParkLock.actHot 1 = true := by
  decide +kernel

/-- An ACTUATOR descriptor of IR0 with PARK_RELEASE alone (R381). -/
def parkReleaseDesc : Slot := BitVec.ofNat 512 ((0x50 + 4 * 2 ^ 8) * 2 ^ 128)

theorem parkReleaseDesc_flags : opcode parkReleaseDesc = 0x50 ∧ sl parkReleaseDesc 17 1 = 4 ∧ actRequest parkReleaseDesc = 4 := by
  decide +kernel

/-- Refutes O14: of an actuator that rests, the statement has every PARK_RELEASE begin its move, but where the stage's sensor
has tripped the request is refused (R406), and the park lock stays engaged. -/
theorem not_descriptorWaitsForSeal : ¬ Obligations.descriptor_waits_for_seal := by
  unfold Obligations.descriptor_waits_for_seal
  rintro ⟨-, -, -, -, -, hactuator, -, -⟩
  obtain ⟨hop, hflags, hrequest⟩ := parkReleaseDesc_flags
  obtain ⟨hidle, hengaged, hot⟩ := hotParkLock_rests
  obtain ⟨-, -, -, -, -, hrelease, -, -⟩ := hactuator hotParkLock false {} ⟨0, false, 0, 0, 0, 0⟩ parkReleaseDesc rfl hop
    (by rw [hflags]; decide)
  have hspeeds := hotParkLock.takeSpeeds_parkRelease parkReleaseDesc hflags
  obtain ⟨hmoves, -⟩ := hrelease hrequest (by rw [hspeeds, hidle])
  rw [Leaf.useDesc_parkRelease_hot _ _ _ _ _ rfl hop hflags hot,
    Leaf.get_word _ _ _ _ (Leaf.complete_word _ _ _ _ _ _ _ (by decide) (by decide)), hengaged] at hmoves
  exact absurd hmoves (by decide)

end Sys2Proof.Machine
end

section
/-! Self-tests of the engines and debug splits (R81 to R83, R87, R88). -/

namespace Sys2Proof.Machine

open Sys2Proof

/-! ### Registers kept -/

/-- Laying the queues changes no register (R72). -/
@[simp] theorem Leaf.layQueues_regs (L : Leaf) (blocks : List FillBlock) : (L.layQueues blocks).regs = L.regs := by
  rw [Leaf.layQueues, Leaf.onAsh_regs]

namespace KeepsRegs

variable {L M : Leaf} {but : List Nat}

theorem put (h : KeepsRegs L M but) {f : Fld} {v i : Nat} (hmem : f.reg.addr i ∈ but) : KeepsRegs L (M.put f v i) but :=
  h.setWord hmem

theorem word (h : KeepsRegs L M but) {r : Reg} {i : Nat} (hr : r.addr i ∉ but) : M.word r i = L.word r i := by
  rw [Leaf.word, Leaf.word, h _ hr]

theorem get (h : KeepsRegs L M but) {f : Fld} {i : Nat} (hf : f.reg.addr i ∉ but) : M.get f i = L.get f i :=
  L.get_word M f i (h.word hf)

theorem on (h : KeepsRegs L M but) {f : Fld} {i : Nat} (hf : f.reg.addr i ∉ but) : M.on f i = L.on f i := by
  rw [Leaf.on, Leaf.on, h.get hf]

theorem onAsh (h : KeepsRegs L M but) {f : Ash → Ash} : KeepsRegs L (M.onAsh f) but := h

theorem onEng (h : KeepsRegs L M but) {e : Nat} {f : Engine → Engine} : KeepsRegs L (M.onEng e f) but := h.onAsh

theorem showShed (h : KeepsRegs L M but) (hmem : ASH_STAT.addr 0 ∈ but) : KeepsRegs L M.showShed but := h.put hmem

theorem showAsh (h : KeepsRegs L M but) (hmem : ASH_STAT.addr 0 ∈ but) : KeepsRegs L M.showAsh but := by
  unfold Leaf.showAsh
  exact (((h.put hmem).put hmem).put hmem).put hmem

/-- A changed engine map shows in ASH_STAT alone (R66, R91). -/
theorem mapChanged (h : KeepsRegs L M but) (hmem : ASH_STAT.addr 0 ∈ but) : KeepsRegs L M.mapChanged but := by
  have hgen : KeepsRegs L (M.put ASH_STAT_MAP_GEN ((M.get ASH_STAT_MAP_GEN + 1) % 2 ^ 16)) but := h.put hmem
  unfold Leaf.mapChanged
  rw [KeepsRegs, Leaf.layQueues_regs]
  exact hgen.showAsh hmem

end KeepsRegs

section

variable (L : Leaf)

/-! ### The engine map -/

/-- Laying the queues anew leaves when an engine last passed its test (R72). -/
theorem Leaf.layQueues_passed (blocks : List FillBlock) (e : Fin 24) :
    ((L.layQueues blocks).eng e).passed = (L.eng e).passed := by
  unfold Leaf.layQueues Leaf.eng
  dsimp only [Leaf.onAsh_ash]
  rw [pick_ofFn _ _ e.isLt]

theorem Leaf.mapChanged_passed (e : Fin 24) : (L.mapChanged.eng e).passed = (L.eng e).passed :=
  Leaf.layQueues_passed _ _ e

/-- A hand-over wanted where none waits or runs is the one that waits (R79). -/
theorem Leaf.wantHandover_alone (order block : Nat) (hwait : L.ash.waiting = []) (hhand : L.ash.hand = none) :
    (L.wantHandover order block).ash.waiting = [⟨order, block, L.count⟩] := by
  have hfree : ¬ ((L.ash.waiting.any fun t => t.block == block) || (L.ash.hand.any fun h => h.block == block)) = true := by
    simp [hwait, hhand]
  rw [Leaf.wantHandover, if_neg hfree]
  exact congrArg (insertTrigger _) hwait

/-! ### The end of a self-test -/

theorem Leaf.showTest_sig (unit : Nat) (w x : Word) : (L.showTest unit w x).word BST_SIG = w := by
  have hshown : KeepsRegs (L.setWord BST_SIG 0 w) (L.showTest unit w x) [BST_EXP.addr 0, BST_STAT.addr 0] :=
    (((KeepsRegs.rfl.setWord (by simp)).put (by decide)).put (by decide)).put (by decide)
  rw [hshown.word (by decide), Leaf.word_setWord]

theorem Leaf.showTest_pass (unit : Nat) (w x : Word) : (L.showTest unit w x).get BST_STAT_PASS = bit (w == x) := by
  have hfits : bit (w == x) % 2 ^ 1 = bit (w == x) := by cases w == x <;> rfl
  unfold Leaf.showTest
  rw [Leaf.get_put_field _ BST_STAT_COURSE BST_STAT_PASS _ _ rfl (by decide),
    Leaf.get_put_field _ BST_STAT_UNIT BST_STAT_PASS _ _ rfl (by decide), Leaf.get_put _ _ _ _ (by decide)]
  exact hfits

/-- The leaf once engine `e` has passed its test (R83): a pass on the repeat is counted as transient, and the engine is
back in fill state. -/
def Leaf.passTest (e : Nat) : Leaf :=
  let M := if (L.eng e).repeating then L.bump BST_CNT_TRANS else L
  (((M.onAsh fun A => { A with testing := none, testEnd := M.count, floorRetired := false }).put (engState e) 0).onEng e
    fun E => { E with tested := M.count, passed := M.count, repeating := false, due := false }).showShed.mapChanged

/-- The leaf once engine `e` has failed its test for the first time: the test is repeated at once (R83). -/
def Leaf.failTest (e : Nat) : Leaf := (L.startTest e).onEng e fun E => { E with repeating := true }

theorem Leaf.passTest_keepsRegs (e : Nat) :
    KeepsRegs L (L.passTest e) [BST_CNT.addr 0, ASH_ENG.addr 0, ASH_STAT.addr 0] := by
  unfold Leaf.passTest
  extract_lets M
  have hcounted : KeepsRegs L M [BST_CNT.addr 0, ASH_ENG.addr 0, ASH_STAT.addr 0] := by
    unfold M
    split
    · exact KeepsRegs.rfl.put (by decide)
    · exact .rfl
  exact ((hcounted.onAsh.put (.tail _ (.head _))).onEng.showShed (by decide)).mapChanged (by decide)

theorem Leaf.passTest_testing (e : Nat) : (L.passTest e).ash.testing = none := rfl

theorem Leaf.passTest_engine (e : Fin 24) :
    (L.passTest e).get (engState e) = 0 ∧ ((L.passTest e).eng e).passed = L.count := by
  unfold Leaf.passTest
  extract_lets M
  have hcount : M.count = L.count := by
    simp only [M, apply_ite Leaf.count, Leaf.bump_count, ite_self]
  constructor
  · have hmap : ∀ K : Leaf, KeepsRegs K K.showShed.mapChanged [ASH_STAT.addr 0] := fun K =>
      (KeepsRegs.rfl.showShed (by decide)).mapChanged (by decide)
    have hhi : (engState e).hi < 64 := by
      have := e.isLt
      change 2 * e.val + 1 < 64
      omega
    rw [(hmap _).get (by change ASH_ENG.addr 0 ∉ _; decide)]
    exact (Leaf.get_put _ _ _ _ hhi).trans (Nat.zero_mod _)
  · rw [Leaf.mapChanged_passed, ← hcount]
    exact congrArg Engine.passed (Leaf.eng_onEng _ e _)

/-! ### Writes of ASH_DBG -/

/-- ASH_DBG names the split of a pair and its side (R87, R96). -/
def Leaf.dbgSplit (p : Nat) (side : Bool) : Leaf :=
  L.put ASH_DBG_SPLIT 1 |>.put ASH_DBG_POS p |>.put ASH_DBG_SIDE (bit side)

/-- ASH_DBG names the end of a pair's split (R88, R96). -/
def Leaf.dbgEnd (p : Nat) : Leaf := L.put ASH_DBG_SPLIT 0 |>.put ASH_DBG_POS p

/-- The register of no pair is ASH_DBG. -/
theorem addr_ash_pair_not_dbg : ∀ p : Fin 8, ASH_PAIR.addr p ∉ [ASH_DBG.addr 0] := by decide

theorem Leaf.dbgSplit_keepsRegs (p : Nat) (side : Bool) : KeepsRegs L (L.dbgSplit p side) [ASH_DBG.addr 0] :=
  ((KeepsRegs.rfl.put (by decide)).put (by decide)).put (by decide)

theorem Leaf.dbgEnd_keepsRegs (p : Nat) : KeepsRegs L (L.dbgEnd p) [ASH_DBG.addr 0] :=
  (KeepsRegs.rfl.put (by decide)).put (by decide)

theorem Leaf.dbgSplit_fields (p : Fin 8) (side : Bool) :
    (L.dbgSplit p side).get ASH_DBG_SPLIT = 1 ∧ (L.dbgSplit p side).get ASH_DBG_POS = p := by
  unfold Leaf.dbgSplit
  rw [Leaf.get_put_field _ ASH_DBG_SIDE ASH_DBG_SPLIT _ _ rfl (by decide),
    Leaf.get_put_field _ ASH_DBG_POS ASH_DBG_SPLIT _ _ rfl (by decide), Leaf.get_put _ _ _ _ (by decide),
    Leaf.get_put_field _ ASH_DBG_SIDE ASH_DBG_POS _ _ rfl (by decide), Leaf.get_put _ _ _ _ (by decide)]
  exact ⟨rfl, Nat.mod_eq_of_lt p.isLt⟩

theorem Leaf.dbgEnd_split (p : Nat) : (L.dbgEnd p).get ASH_DBG_SPLIT = 0 := by
  unfold Leaf.dbgEnd
  rw [Leaf.get_put_field _ ASH_DBG_POS ASH_DBG_SPLIT _ _ rfl (by decide), Leaf.get_put _ _ _ _ (by decide)]
  rfl

end

/-! ### The commands -/

section

variable (s : State) (l : LeafId)

theorem engineSelfTestStep_starts (e : Nat) (hcomp : (s.leaf l).computing = true) (hidle : (s.leaf l).ash.testing = none)
    (howed : ((s.leaf l).enginesIn 2).head? = some e) :
    Completes (.engineSelfTestStep l) s fun t => OnlyLeaf l s t ∧ (t.leaf l).ash.testing = some (e, (s.leaf l).count) ∧
      (t.leaf l).regs = (s.leaf l).regs := by
  have hmay : ((s.leaf l).computing && (s.leaf l).ash.testing.isNone) = true := by simp [hcomp, hidle]
  refine Ends.guardedTrue hmay ⟨.setLeaf, ?_⟩
  rw [State.leaf_setLeaf, howed]
  exact ⟨rfl, rfl⟩

/-- A test that has run its 144 courses shows its result, and passes or, at a first failure, is repeated (R82, R83). -/
theorem exec_engineSelfTestComplete (w x : Word) (e : Nat) (c : Course) (hcomp : (s.leaf l).computing = true)
    (htesting : (s.leaf l).ash.testing = some (e, c)) (hlong : 144 ≤ since (s.leaf l).count c)
    (hfirst : w ≠ x → ((s.leaf l).eng e).repeating = false) :
    exec (.engineSelfTestComplete l w x) s = .next (s.setLeaf l (
      if w = x then ((s.leaf l).showTest 4 w x).passTest e else ((s.leaf l).showTest 4 w x).failTest e)) := by
  have hmay : ((s.leaf l).computing && decide (144 ≤ since (s.leaf l).count c)) = true := by simp [hcomp, hlong]
  dsimp only [exec, execEngineSelfTestComplete]
  rw [htesting]
  dsimp only
  rw [hmay]
  by_cases hpass : w = x
  · rw [if_pos hpass, if_pos hpass]
    rfl
  · have hnew : ¬ (((s.leaf l).showTest 4 w x).eng e).repeating = true := by
      change ¬ ((s.leaf l).eng e).repeating = true
      simp [hfirst hpass]
    rw [if_neg hpass, if_neg hpass, if_neg hnew]
    rfl

theorem engineSelfTestComplete_passes (w : Word) (e : Fin 24) (c : Course) (hcomp : (s.leaf l).computing = true)
    (htesting : (s.leaf l).ash.testing = some (e.val, c)) (hlong : 144 ≤ since (s.leaf l).count c) :
    Completes (.engineSelfTestComplete l w w) s fun t => OnlyLeaf l s t ∧ (t.leaf l).ash.testing = none ∧
      (t.leaf l).get (engState e) = 0 ∧ ((t.leaf l).eng e).passed = (s.leaf l).count ∧
      (t.leaf l).word BST_SIG = w ∧ (t.leaf l).get BST_STAT_PASS = 1 := by
  refine ⟨_, exec_engineSelfTestComplete s l w w e c hcomp htesting hlong fun h => absurd rfl h, .setLeaf, ?_⟩
  rw [State.leaf_setLeaf, if_pos rfl]
  have hkeeps := ((s.leaf l).showTest 4 w w).passTest_keepsRegs e
  obtain ⟨hfill, hpassed⟩ := ((s.leaf l).showTest 4 w w).passTest_engine e
  rw [hkeeps.word (by decide), hkeeps.get (f := BST_STAT_PASS) (by decide), Leaf.showTest_sig, Leaf.showTest_pass]
  exact ⟨Leaf.passTest_testing .., hfill, hpassed, rfl, by simp [bit]⟩

theorem engineSelfTestComplete_repeats (w x : Word) (e : Fin 24) (c : Course) (hcomp : (s.leaf l).computing = true)
    (htesting : (s.leaf l).ash.testing = some (e.val, c)) (hlong : 144 ≤ since (s.leaf l).count c) (hfail : w ≠ x)
    (hfirst : ((s.leaf l).eng e).repeating = false) :
    Completes (.engineSelfTestComplete l w x) s fun t => OnlyLeaf l s t ∧
      (t.leaf l).ash.testing = some (e.val, (s.leaf l).count) ∧ ((t.leaf l).eng e).repeating = true ∧
      (t.leaf l).get BST_STAT_PASS = 0 := by
  refine ⟨_, exec_engineSelfTestComplete s l w x e c hcomp htesting hlong fun _ => hfirst, .setLeaf, ?_⟩
  have hshown := (s.leaf l).showTest_pass 4 w x
  rw [beq_false_of_ne hfail] at hshown
  rw [State.leaf_setLeaf, if_neg hfail]
  exact ⟨rfl, congrArg Engine.repeating (Leaf.eng_onEng _ e _), hshown⟩

theorem split_names (p : Fin 8) (side : Bool) (who : Ident) (hmay : s.mayDebug = true)
    (hvalid : (s.leaf l).on ASH_PAIR_VALID p = true) :
    Completes (.split l p side who) s fun t => OnlyLeaf l s t ∧ ((t.leaf l).pairx p).splitNext = some side ∧
      (t.leaf l).get ASH_DBG_SPLIT = 1 ∧ (t.leaf l).get ASH_DBG_POS = p ∧
      KeepsRegs (s.leaf l) (t.leaf l) [ASH_DBG.addr 0] := by
  have hkeeps := (s.leaf l).dbgSplit_keepsRegs p side
  have hbonded : ((s.leaf l).dbgSplit p side).on ASH_PAIR_VALID p = true :=
    (hkeeps.on (addr_ash_pair_not_dbg p)).trans hvalid
  obtain ⟨hset, hpos⟩ := (s.leaf l).dbgSplit_fields p side
  have hexec : exec (.split l p side who) s = .next (s.on l fun L =>
      if (L.dbgSplit p side).on ASH_PAIR_VALID p then
        (L.dbgSplit p side).onPair p fun X => { X with splitNext := some side }
      else L.dbgSplit p side) := if_pos hmay
  refine ⟨_, hexec, .on, ?_⟩
  rw [State.leaf_on, if_pos hbonded]
  exact ⟨congrArg PairX.splitNext (Leaf.pairx_onPair _ p _), hset, hpos, hkeeps⟩

theorem endSplit_wantsHandover (p : Fin 8) (who : Ident) (hmay : s.mayDebug = true)
    (hsplit : ((s.leaf l).pairx p).split ≠ none) (hwait : (s.leaf l).ash.waiting = []) (hhand : (s.leaf l).ash.hand = none) :
    Completes (.endSplit l p who) s fun t => OnlyLeaf l s t ∧ (t.leaf l).get ASH_DBG_SPLIT = 0 ∧
      (t.leaf l).ash.waiting = [⟨4, (s.leaf l).get ASH_PAIR_BLOCK p, (s.leaf l).count⟩] := by
  have hsome : (((s.leaf l).dbgEnd p).pairx p).split.isSome = true := Option.isSome_iff_ne_none.mpr hsplit
  have hblock := ((s.leaf l).dbgEnd_keepsRegs p).get (f := ASH_PAIR_BLOCK) (addr_ash_pair_not_dbg p)
  have hexec : exec (.endSplit l p who) s = .next (s.on l fun L =>
      if ((L.dbgEnd p).pairx p).split.isSome then (L.dbgEnd p).wantHandover 4 ((L.dbgEnd p).get ASH_PAIR_BLOCK p)
      else L.dbgEnd p) := if_pos hmay
  refine ⟨_, hexec, .on, ?_⟩
  rw [State.leaf_on, if_pos hsome, Leaf.wantHandover_alone ((s.leaf l).dbgEnd p) _ _ hwait hhand, hblock,
    Leaf.get_regs _ _ _ _ (Leaf.wantHandover_regs ..)]
  exact ⟨(s.leaf l).dbgEnd_split p, rfl⟩

end

/-- Settles O25: the engine tested is the one owed a test, a completed test takes the branch of its first result, and a
write of ASH_DBG touches that register, the pair and the hand-overs that wait. -/
theorem engineTestsAndSplits : Obligations.engine_tests_and_splits :=
  ⟨engineSelfTestStep_starts, engineSelfTestComplete_passes, engineSelfTestComplete_repeats, split_names,
    endSplit_wantsHandover⟩

end Sys2Proof.Machine
end

section
/-! The limits of a compensator's output (R101): the value before them, the clamp, and what a course of an instance
counts. -/

namespace Sys2Proof.Machine

open Sys2Proof

/-! ### The clamp -/

theorem clampInt_bounds {lo hi : Int} (v : Int) (h : lo ≤ hi) : lo ≤ clampInt lo hi v ∧ clampInt lo hi v ≤ hi := by
  unfold clampInt
  split
  · exact ⟨le_rfl, h⟩
  · split <;> omega

theorem limitOut_of_le {lo hi : Int} (v : Int) (h : lo ≤ hi) : limitOut lo hi v = (clampInt lo hi v, false) :=
  if_neg (not_lt.mpr h)

theorem limitOut_of_crossed {lo hi : Int} (v : Int) (h : hi < lo) :
    limitOut lo hi v = (if hi.natAbs < lo.natAbs then hi else lo, true) := if_pos h

/-- A two's complement number of `n + 1` bits lies in the range of its format. -/
theorem signed_bounds (n v : Nat) : -(2 ^ n : Nat) ≤ signed (n + 1) v ∧ signed (n + 1) v ≤ (2 ^ n : Nat) - 1 := by
  have hlt : v % 2 ^ (n + 1) < 2 * 2 ^ n := by
    rw [← pow_succ']
    exact Nat.mod_lt _ (Nat.two_pow_pos _)
  unfold signed
  rw [Nat.add_sub_cancel]
  generalize v % 2 ^ (n + 1) = m at hlt ⊢
  rw [pow_succ']
  split <;> omega

/-- Dynamic limits of the full Q1.31 range leave a table's own (R101). -/
theorem limits_of_fullRange (t : CoefTable) :
    max (outMin t) (-(2 ^ 31 : Nat)) = outMin t ∧ min (outMax t) ((2 ^ 31 : Nat) - 1) = outMax t :=
  ⟨max_eq_left (signed_bounds 31 _).1, min_eq_left (signed_bounds 31 _).2⟩

/-! ### One evaluation -/

/-- The value of an instance with the table `t` before its limits (R99, R103, R111). -/
def Comp.unclamped (C : Comp) (t : CoefTable) (x : Int) (track : Option Int) (out : Int) : Int :=
  match track with
  | some v => v
  | none =>
    if C.form = .cascade then evalLast t (satQ (evalBiquad t x C.x1 C.x2 C.w1 C.w2)) C.w1 C.y1 + out
    else evalDirect t C x + out

/-- An evaluation puts the limits of R101 on the value, and notes whether they crossed. -/
theorem Comp.eval_limits (C : Comp) (x dynLo dynHi : Int) (track : Option Int) (decides : Bool) (out : Int)
    (t : CoefTable) (htable : pick C.bank C.active = some t) :
    ((C.eval x dynLo dynHi track decides out).y, (C.eval x dynLo dynHi track decides out).comp.limCross) =
      limitOut (max (outMin t) dynLo) (min (outMax t) dynHi) (C.unclamped t x track out) := by
  unfold Comp.eval Comp.unclamped
  rw [htable]
  cases track with
  | some v => rfl
  | none => cases C.form <;> rfl

/-- The table the block names for the next course made active (R108). -/
def Comp.switchNamed (C : Comp) : Comp :=
  match C.bankNext with
  | some k => C.switch k
  | none => C

theorem Comp.switch_limCross (C : Comp) (k : Nat) : (C.switch k).limCross = C.limCross := by
  unfold Comp.switch
  split
  · rfl
  · dsimp only
    split <;> rfl

theorem Comp.switchNamed_limCross (C : Comp) : C.switchNamed.limCross = C.limCross := by
  unfold Comp.switchNamed
  split
  · exact C.switch_limCross _
  · rfl

/-! ### What an evaluation counts -/

section

variable (L : Leaf) (o : CompOut) (b i : Nat)

/-- The other fields of ASH_CMP_STAT leave LIM_CROSS as it stands. -/
theorem Leaf.get_put_limCross (f : Fld) (v : Nat) (hreg : f.reg = ASH_CMP_STAT) (h : f.hi < 32 ∨ 47 < f.lo) :
    (L.put f v).get ASH_CMP_STAT_LIM_CROSS = L.get ASH_CMP_STAT_LIM_CROSS :=
  Leaf.get_put_field L f ASH_CMP_STAT_LIM_CROSS v 0 hreg.symm h

/-- A cascade that takes over is counted, shown and posted (R106). -/
def Leaf.countTakeover : Leaf :=
  if o.takeover then
    ((L.bump ASH_CMP_STAT_FALLBACKS).put ASH_CMP_STAT_LAST_BLOCK b |>.put ASH_CMP_STAT_LAST_INST i).event
      0x0706 (b + (i <<< 8))
  else L

theorem Leaf.countTakeover_cmp : (L.countTakeover o b i).cmp = L.cmp := by
  unfold Leaf.countTakeover
  split
  · rw [Leaf.event_parts]
    rfl
  · rfl

theorem Leaf.countTakeover_limCross :
    (L.countTakeover o b i).get ASH_CMP_STAT_LIM_CROSS = L.get ASH_CMP_STAT_LIM_CROSS := by
  unfold Leaf.countTakeover
  split
  · rw [Leaf.get_event _ _ _ _ _ _ (by decide) (by decide),
      Leaf.get_put_limCross _ ASH_CMP_STAT_LAST_INST _ rfl (by decide),
      Leaf.get_put_limCross _ ASH_CMP_STAT_LAST_BLOCK _ rfl (by decide)]
    exact Leaf.get_put_limCross _ ASH_CMP_STAT_FALLBACKS _ rfl (by decide)
  · rfl

/-- The counters an evaluation raises (R100, R101, R106). -/
def Leaf.countEval : Leaf :=
  let M := if o.comp.limCross then L.bump ASH_CMP_STAT_LIM_CROSS else L
  (if o.wSat then M.bump ASH_CMP_STAT_W_SAT else M).countTakeover o b i

theorem Leaf.countEval_cmp : (L.countEval o b i).cmp = L.cmp := by
  simp only [Leaf.countEval, Leaf.countTakeover_cmp, apply_ite Leaf.cmp, Leaf.bump_cmp, ite_self]

theorem Leaf.countEval_limCross : (L.countEval o b i).get ASH_CMP_STAT_LIM_CROSS =
    if o.comp.limCross then min (L.get ASH_CMP_STAT_LIM_CROSS + 1) ASH_CMP_STAT_LIM_CROSS.max
    else L.get ASH_CMP_STAT_LIM_CROSS := by
  have hsat (M : Leaf) : (M.bump ASH_CMP_STAT_W_SAT).get ASH_CMP_STAT_LIM_CROSS = M.get ASH_CMP_STAT_LIM_CROSS :=
    Leaf.get_put_limCross _ ASH_CMP_STAT_W_SAT _ rfl (by decide)
  unfold Leaf.countEval
  rw [Leaf.countTakeover_limCross]
  simp only [apply_ite (Leaf.get · ASH_CMP_STAT_LIM_CROSS), hsat, ite_self,
    Leaf.get_bump L ASH_CMP_STAT_LIM_CROSS 0 (by decide)]

end

/-! ### A course of an instance -/

/-- The instances of a leaf stand in its part of compensators alone. -/
theorem Leaf.inst_of_cmp {L M : Leaf} {b i : Nat} (h : M.cmp = L.cmp) : M.inst b i = L.inst b i := by
  unfold Leaf.inst
  rw [h]

section

variable (L : Leaf) (b i : Nat) (x : Int)

/-- The instance of a block with the course's input noted for the mean of R438. -/
def Leaf.instNoted : Comp :=
  { L.inst b i with xs := if decide (b < 5) then [] else (x :: (L.inst b i).xs).take 1024 }

/-- The input an instance takes: in FOLLOW a fill instance takes it less the mean of its last inputs (R438). -/
def Leaf.compInput : Int :=
  let xs := (L.inst b i).xs
  if !decide (b < 5) && L.role == .follow then
    satQ (x - if xs.isEmpty then 0 else Config.rnd ((xs.foldl (· + ·) 0 : Int) / (xs.length : Rat)))
  else x

theorem Leaf.compInput_plain (h : L.role ≠ .follow ∨ b < 5) : L.compInput b i x = x := by
  have hplain : ¬ (!decide (b < 5) && L.role == .follow) = true := by
    rcases h with hrole | hkeyed
    · simp [hrole]
    · simp [hkeyed]
  exact if_neg hplain

variable (dynLo dynHi : Int) (track : Option Int) (out : Int)

/-- The evaluation of an instance in a course of its leaf. -/
def Leaf.evalComp : CompOut :=
  (L.instNoted b i x).eval (L.compInput b i x) dynLo dynHi track (!(decide (b < 5) && L.role == .follow)) out

/-- A course of an instance: it is evaluated and kept, and the counters it raises follow. -/
theorem Leaf.runComp_eq : L.runComp b i x dynLo dynHi track out =
    ((L.setInst b i (L.evalComp b i x dynLo dynHi track out).comp.switchNamed).countEval
      (L.evalComp b i x dynLo dynHi track out) b i, (L.evalComp b i x dynLo dynHi track out).y) := rfl

theorem Leaf.runComp_limCross : ((L.runComp b i x dynLo dynHi track out).1.inst b i).limCross =
    (L.evalComp b i x dynLo dynHi track out).comp.limCross := by
  rw [Leaf.runComp_eq, Leaf.inst_of_cmp (Leaf.countEval_cmp ..), Leaf.inst_setInst, Comp.switchNamed_limCross]

theorem Leaf.runComp_count : (L.runComp b i x dynLo dynHi track out).1.get ASH_CMP_STAT_LIM_CROSS =
    if (L.evalComp b i x dynLo dynHi track out).comp.limCross then
      min (L.get ASH_CMP_STAT_LIM_CROSS + 1) ASH_CMP_STAT_LIM_CROSS.max
    else L.get ASH_CMP_STAT_LIM_CROSS := by
  rw [Leaf.runComp_eq, Leaf.countEval_limCross, Leaf.get_regs L (L.setInst b i _) _ _ rfl]

section

variable {t : CoefTable} (htable : pick (L.inst b i).bank (L.inst b i).active = some t)

include htable

/-- The output of a course and its LIM_CROSS bit are the limits of R101 put on the instance's value. -/
theorem Leaf.runComp_limits : ((L.runComp b i x dynLo dynHi track out).2,
      ((L.runComp b i x dynLo dynHi track out).1.inst b i).limCross) =
    limitOut (max (outMin t) dynLo) (min (outMax t) dynHi)
      ((L.inst b i).unclamped t (L.compInput b i x) track out) := by
  rw [Leaf.runComp_limCross, Leaf.runComp_eq]
  exact (L.instNoted b i x).eval_limits _ dynLo dynHi track _ out t htable

/-- Limits that have not crossed clamp the value, and nothing is counted. -/
theorem Leaf.runComp_clamps (hle : max (outMin t) dynLo ≤ min (outMax t) dynHi) :
    (L.runComp b i x dynLo dynHi track out).2 = clampInt (max (outMin t) dynLo) (min (outMax t) dynHi)
        ((L.inst b i).unclamped t (L.compInput b i x) track out) ∧
      ((L.runComp b i x dynLo dynHi track out).1.inst b i).limCross = false ∧
      (L.runComp b i x dynLo dynHi track out).1.get ASH_CMP_STAT_LIM_CROSS = L.get ASH_CMP_STAT_LIM_CROSS := by
  have hlimits := L.runComp_limits b i x dynLo dynHi track out htable
  rw [limitOut_of_le _ hle] at hlimits
  obtain ⟨hy, hbit⟩ := Prod.mk.inj hlimits
  refine ⟨hy, hbit, ?_⟩
  rw [Leaf.runComp_count, ← Leaf.runComp_limCross, hbit]
  rfl

/-- Limits that have crossed give the one nearer to zero, counted and shown. -/
theorem Leaf.runComp_crosses (hlt : min (outMax t) dynHi < max (outMin t) dynLo) :
    (L.runComp b i x dynLo dynHi track out).2 =
        (if (min (outMax t) dynHi).natAbs < (max (outMin t) dynLo).natAbs then min (outMax t) dynHi
          else max (outMin t) dynLo) ∧
      (L.runComp b i x dynLo dynHi track out).1.get ASH_CMP_STAT_LIM_CROSS =
        min (L.get ASH_CMP_STAT_LIM_CROSS + 1) ASH_CMP_STAT_LIM_CROSS.max ∧
      ((L.runComp b i x dynLo dynHi track out).1.inst b i).limCross = true := by
  have hlimits := L.runComp_limits b i x dynLo dynHi track out htable
  rw [limitOut_of_crossed _ hlt] at hlimits
  obtain ⟨hy, hbit⟩ := Prod.mk.inj hlimits
  refine ⟨hy, ?_, hbit⟩
  rw [Leaf.runComp_count, ← Leaf.runComp_limCross, hbit]
  rfl

end

end

/-- Settles O58: a course of an instance puts `limitOut` on the instance's value, and its bit and its counter follow whether
the limits crossed. -/
theorem compensatorOutputLimits : Obligations.compensator_output_limits := by
  intro L b i x dynLo dynHi out track t htable
  refine ⟨fun hle => ?_, ?_, L.runComp_crosses b i x dynLo dynHi track out htable⟩
  · obtain ⟨hy, hbit, hcount⟩ := L.runComp_clamps b i x dynLo dynHi track out htable hle
    refine ⟨hcount, hbit, ?_, ?_, ?_, ?_⟩
    · rintro v rfl
      exact hy
    · rintro rfl hrole hform
      rw [hy, L.compInput_plain b i x hrole, Comp.unclamped, if_neg hform]
    · rintro rfl hrole hform
      rw [hy, L.compInput_plain b i x hrole, Comp.unclamped, if_pos hform]
    · rw [hy]
      exact clampInt_bounds _ hle
  · rintro rfl rfl
    exact limits_of_fullRange t

end Sys2Proof.Machine
end

section
/-! The gate channels of a state: a channel read after it or another was replaced, and what bringing a pair to its targets
keeps of its channels (R227, R239). -/

namespace Sys2Proof.Machine

open Sys2Proof

/-! ### A channel replaced -/

section

variable (s : State) (i j : Nat)

theorem State.chan_setChan_same (c : Chan) (h : i < 48) : (s.setChan i c).chan i = c :=
  pick_setIfInBounds_same s.chans i c h

theorem State.chan_setChan_other (c : Chan) (h : j ≠ i) : (s.setChan i c).chan j = s.chan j :=
  pick_setIfInBounds_other s.chans i j c h

theorem State.chan_onChan_same (f : Chan → Chan) (h : i < 48) : (s.onChan i f).chan i = f (s.chan i) :=
  s.chan_setChan_same i _ h

theorem State.chan_onChan_other (f : Chan → Chan) (h : j ≠ i) : (s.onChan i f).chan j = s.chan j :=
  s.chan_setChan_other i j _ h

/-- A property of channel `j` is kept where the channel put has it, should it be put at `j`. -/
theorem State.setChan_keeps (P : Chan → Prop) {c : Chan} (hput : j = i → P c) (h : P (s.chan j)) :
    P ((s.setChan i c).chan j) := by
  by_cases hji : j = i
  · subst hji
    by_cases hj : j < 48
    · rw [s.chan_setChan_same j c hj]
      exact hput rfl
    · have hsame : s.chans.setIfInBounds j c = s.chans := Vector.setIfInBounds_eq_of_size_le (Nat.not_lt.mp hj)
      rwa [State.chan, State.setChan, hsame]
  · rwa [s.chan_setChan_other i j c hji]

theorem evenOf_even (h : i % 2 = 0) : evenOf i = i := by
  rw [evenOf, h, Nat.sub_zero]

end

/-! ### Gate channels alone -/

namespace OnlyChans

variable {s t : State}

theorem rfl : OnlyChans s s := Eq.refl s

variable (h : OnlyChans s t)

include h

theorem setChan {i : Nat} {c : Chan} : OnlyChans s (t.setChan i c) :=
  congrArg (fun u : State => u.setChan i c) h

theorem onChan {i : Nat} {f : Chan → Chan} : OnlyChans s (t.onChan i f) := h.setChan

theorem settlePair {i now : Nat} : OnlyChans s (t.settlePair i now) := h.setChan.setChan

theorem countTry {e : Nat} {ovhw : Bool} : OnlyChans s (t.countTry e ovhw) := by
  unfold State.countTry
  exact h.setChan.onChan

end OnlyChans

/-! ### A pair brought to its targets -/

/-- A condition bit marked on a channel reads 1, and the others stand. -/
theorem Chan.mark_fault (c : Chan) (b k : Nat) (hb : b < 16) :
    (c.mark b).acc.fault.getLsbD k = (c.acc.fault.getLsbD k || decide (k = b)) := by
  have hone : (1#16 <<< b).getLsbD k = decide (k = b) := by
    rw [← BitVec.twoPow_eq, BitVec.getLsbD_twoPow, decide_eq_true hb, Bool.true_and, decide_eq_decide]
    exact eq_comm
  unfold Chan.mark
  rw [BitVec.getLsbD_or, hone]

/-- A channel without what a change of its output's level writes. -/
def Chan.noOutput (c : Chan) : Chan :=
  { c with gate := false, acc := { c.acc with onTicks := 0, sw := 0 }, waitSince := none, repOff := true, onAt := 0 }

theorem Chan.level_noOutput (c : Chan) (on : Bool) (now : Nat) : (c.level on now).noOutput = c.noOutput := by
  unfold Chan.level
  dsimp only
  split <;> split <;> rfl

/-- An output brought to its target changes nothing else of its channel. -/
theorem Chan.drive_noOutput (c p : Chan) (i : Nat) (ovhw : Bool) (now : Nat) :
    (c.drive p i ovhw now).noOutput = c.noOutput := by
  unfold Chan.drive
  split
  · exact c.level_noOutput false now
  · split
    · rfl
    · split
      · exact c.level_noOutput true now
      · rfl

/-- A switch in soft turn-off is driven off (R239). -/
theorem Chan.drive_soft (c p : Chan) (i : Nat) (ovhw : Bool) (now : Nat) (h : c.soft = true) :
    (c.drive p i ovhw now).gate = false := by
  have hoff : (!c.target p i ovhw) = true := by simp [Chan.target, h]
  rw [Chan.drive, if_pos hoff]
  rfl

/-- A property of one channel that `drive` keeps is kept where a pair is brought to its targets. -/
theorem State.settlePair_keeps (s : State) (i now j : Nat) (P : Chan → Prop)
    (hdrive : ∀ c p k ov, P c → P (c.drive p k ov now)) (h : P (s.chan j)) : P ((s.settlePair i now).chan j) := by
  unfold State.settlePair
  extract_lets e a b ov a₁ b₁ a₂
  refine State.setChan_keeps _ _ _ P ?_ (State.setChan_keeps _ _ _ P ?_ h)
  · rintro rfl
    exact hdrive _ _ _ _ h
  · rintro rfl
    refine hdrive _ _ _ _ ?_
    unfold a₁
    split
    · exact h
    · exact hdrive _ _ _ _ h

/-- Bringing a pair to its targets leaves the other channels. -/
theorem State.settlePair_other (s : State) (i now j : Nat) (he : j ≠ evenOf i) (ho : j ≠ evenOf i + 1) :
    (s.settlePair i now).chan j = s.chan j :=
  (State.chan_setChan_other _ _ _ _ ho).trans (State.chan_setChan_other _ _ _ _ he)

/-- The try a pair counts adds to those of its window (R233; log entry 54). -/
theorem State.countTry_tries (s : State) (e : Nat) (ovhw : Bool) (he : e < 48) :
    ((s.countTry e ovhw).chan e).tries = (if (s.chan e).winFrom.isSome then (s.chan e).tries else 0) + 1 := by
  unfold State.countTry
  extract_lets a tries b st mv
  rw [State.chan_onChan_other _ _ _ _ (Nat.ne_of_lt e.lt_succ_self), State.chan_setChan_same _ _ _ he, apply_ite Chan.tries,
    ite_self]

/-- A try counted on a pair leaves the other channels. -/
theorem State.countTry_other (s : State) (e j : Nat) (ovhw : Bool) (he : j ≠ e) (ho : j ≠ e + 1) :
    (s.countTry e ovhw).chan j = s.chan j :=
  (State.chan_onChan_other _ _ _ _ ho).trans (State.chan_setChan_other _ _ _ _ he)

end Sys2Proof.Machine
end

section
/-! Fast trips (R154, R229): a switch that is on turns off softly and stays so through what the leg fault brings. -/

namespace Sys2Proof.Machine

open Sys2Proof

/-- A switch turned off softly by a trip, its condition bit 1 set (R219, R229). -/
def Chan.TrippedOff (c : Chan) : Prop := c.gate = false ∧ c.soft = true ∧ c.acc.fault.getLsbD 1 = true

namespace Chan.TrippedOff

variable {c : Chan} (h : c.TrippedOff)

include h

theorem mark {b : Nat} (hb : b < 16) : (c.mark b).TrippedOff := by
  obtain ⟨hgate, hsoft, hfault⟩ := h
  refine ⟨hgate, hsoft, ?_⟩
  rw [Chan.mark_fault _ _ _ hb, hfault, Bool.true_or]

theorem drive {p : Chan} {i : Nat} {ovhw : Bool} {now : Nat} : (c.drive p i ovhw now).TrippedOff := by
  obtain ⟨-, hsoft, hfault⟩ := h
  have hkept := c.drive_noOutput p i ovhw now
  exact ⟨c.drive_soft p i ovhw now hsoft, (congrArg Chan.soft hkept).trans hsoft,
    (congrArg (·.acc.fault.getLsbD 1) hkept).trans hfault⟩

theorem ite {q : Prop} [Decidable q] {d : Chan} (hd : d.TrippedOff) : (if q then c else d).TrippedOff := by
  split
  · exact h
  · exact hd

end Chan.TrippedOff

/-- A switch that is on, turned off for a trip with its condition bit set. -/
theorem Chan.trippedOff_softOff (c : Chan) (now : Nat) (hon : c.gate = true) : ((c.mark 1).softOff now).TrippedOff := by
  have hfault : ((c.mark 1).softOff now).acc.fault = (c.mark 1).acc.fault := by
    rw [Chan.softOff, if_pos (show (c.mark 1).gate = true from hon)]
    exact congrArg (·.acc.fault) ((c.mark 1).level_noOutput false now)
  rw [Chan.TrippedOff, hfault, c.mark_fault 1 1 (by decide), Chan.softOff,
    if_pos (show (c.mark 1).gate = true from hon)]
  exact ⟨rfl, rfl, Bool.or_true _⟩

/-- `t` follows from `s` by what a trip does to the traction sets (channels 0 to 23), the switch `e` tripped off. -/
structure LegTripped (e : Nat) (s t : State) : Prop where
  onlyChans : OnlyChans s t
  off : (t.chan e).TrippedOff
  others : ∀ j, 24 ≤ j → t.chan j = s.chan j

theorem mem_setChans_lt {set i : Nat} (hset : set < 4) (hi : i ∈ setChans set) : i < 24 := by
  obtain ⟨k, hk, rfl⟩ := List.mem_map.mp hi
  have := List.mem_range.mp hk
  omega

namespace LegTripped

variable {e i : Nat} {s t u : State}

theorem ite {q : Prop} [Decidable q] (ht : LegTripped e s t) (hu : LegTripped e s u) :
    LegTripped e s (if q then t else u) := by
  split
  · exact ht
  · exact hu

theorem foldl {α : Type} {f : State → α → State} {xs : List α} (h : LegTripped e s t)
    (hf : ∀ u, ∀ a ∈ xs, LegTripped e s u → LegTripped e s (f u a)) : LegTripped e s (xs.foldl f t) :=
  List.foldlRecOn xs f h fun u hu a ha => hf u a ha hu

section

variable (h : LegTripped e s t)

include h

theorem setChan {c : Chan} (hi : i < 24) (hc : e = i → c.TrippedOff) : LegTripped e s (t.setChan i c) where
  onlyChans := h.onlyChans.setChan
  off := State.setChan_keeps _ _ _ _ hc h.off
  others j hj := (State.chan_setChan_other _ _ _ _ (by omega)).trans (h.others j hj)

theorem onChan {f : Chan → Chan} (hi : i < 24) (hf : ∀ c : Chan, c.TrippedOff → (f c).TrippedOff) :
    LegTripped e s (t.onChan i f) :=
  h.setChan hi (by rintro rfl; exact hf _ h.off)

theorem settlePair {now : Nat} (hi : i < 24) : LegTripped e s (t.settlePair i now) where
  onlyChans := h.onlyChans.settlePair
  off := State.settlePair_keeps _ _ _ _ _ (fun _ _ _ _ hc => hc.drive) h.off
  others j hj := by
    have hpair : evenOf i + 1 < 24 := by
      unfold evenOf
      omega
    exact (t.settlePair_other i now j (by omega) (by omega)).trans (h.others j hj)

theorem settlePairs {set now : Nat} (hset : set < 4) :
    LegTripped e s ((setChans set).foldl (fun s i => s.settlePair i now) t) :=
  h.foldl fun _ _ hi hu => hu.settlePair (mem_setChans_lt hset hi)

theorem countTry {ovhw : Bool} (hi : i < 23) : LegTripped e s (t.countTry i ovhw) := by
  unfold State.countTry
  extract_lets a tries b st mv
  have hmv (c : Chan) (hc : c.TrippedOff) : (mv c).TrippedOff := Chan.TrippedOff.ite hc hc
  refine (h.setChan (i := i) (by omega) ?_).onChan (by omega) hmv
  rintro rfl
  exact hmv _ h.off

theorem latchPair (hi : i < 23) : LegTripped e s (t.latchPair i) := by
  unfold State.latchPair
  extract_lets mv
  have hmv (c : Chan) (hc : c.TrippedOff) : (mv c).TrippedOff := Chan.TrippedOff.ite hc hc
  exact (h.onChan (by omega) hmv).onChan (by omega) hmv

/-- The two-leg action leaves a switch in soft turn-off off, whichever legs it turns on (R235, R239). -/
theorem twoLeg {set now : Nat} (hset : set < 4) : LegTripped e s (t.twoLeg set now) := by
  unfold State.twoLeg
  extract_lets n bad low high asc on u
  refine settlePairs (h.foldl fun v i hi hv => hv.onChan (mem_setChans_lt hset hi) fun c hc => ?_) hset
  exact hc.ite ((hc.mark (by decide)).ite (hc.mark (b := 6) (by decide)))

end

end LegTripped

section

variable (s : State) (e : Nat)

/-- The switch of a leg that is on, marked and turned off softly. -/
theorem legTripped_softOff (now : Nat) (n : Option Nat) (he : e < 24) (hon : (s.chan e).gate = true) :
    LegTripped e s ((s.onChan e fun c => c.mark 1).onChan e fun c => { c.softOff now with faulted := n }) where
  onlyChans := OnlyChans.rfl.onChan.onChan
  off := by
    rw [State.chan_onChan_same _ _ _ (by omega), State.chan_onChan_same _ _ _ (by omega)]
    exact (s.chan e).trippedOff_softOff now hon
  others j hj := (State.chan_onChan_other _ _ _ _ (by omega)).trans (State.chan_onChan_other _ _ _ _ (by omega))

/-- A leg fault of a switch that is on turns it off softly, whatever else has failed in its set (R232, R233, R235). -/
theorem State.legFault_tripsOff (now : Nat) (heven : e % 2 = 0) (he : e < 24) (hon : (s.chan e).gate = true)
    (hbias : (s.chan e).st ≠ .noBias) (hused : (s.chan e).st ≠ .unused) :
    LegTripped e s (s.legFault e [e] [(e, 1)] now) := by
  unfold State.legFault
  rw [evenOf_even e heven]
  extract_lets pair st n marked off again set others faulted latched
  have hlive : ¬ (st == .noBias || st == .unused) = true := by simp [st, hbias, hused]
  have hset : set < 4 := by omega
  have hoff : LegTripped e s faulted :=
    (legTripped_softOff s e now (some n) he hon).onChan he fun _ hc => hc
  have hlatched : LegTripped e s latched := hoff.foldl fun u k hk hu => by
    have := List.mem_range.mp hk
    exact (hu.latchPair (by omega)).ite hu
  rw [if_neg hlive]
  exact (hoff.settlePair he).ite <| (hoff.twoLeg hset).ite <| (hoff.twoLeg hset).ite <| (hlatched.settlePairs hset).ite <|
    (hoff.settlePair he).ite ((hoff.countTry (by omega)).settlePair he)

/-- The switch of a pair that is on alone is the one its fast trip faults (R229). -/
theorem State.tripLeg_of_on (tick : Nat) (hon : (s.chan e).gate = true) (hpartner : (s.chan (e + 1)).gate = false) :
    s.tripLeg e tick = s.legFault e [e] [(e, 1)] ((s.chan e).fineOf tick) := by
  simp [State.tripLeg, hon, hpartner]

end

end Sys2Proof.Machine
end

section
/-! OV_HW, the trip of SP12 (R240): what it does to one pair, and to the 24 pairs in turn. -/

namespace Sys2Proof.Machine

open Sys2Proof

/-! ### One pair -/

/-- The even channel of a pair in OV_HW with its tries at `n`: marked, in WAIT or LATCHED (R240). -/
def Chan.OvHwTripped (n : Nat) (c : Chan) : Prop :=
  c.acc.fault.getLsbD 7 = true ∧ c.ovhw = true ∧ (c.st = .wait ∨ c.st = .latched) ∧ c.tries = n

theorem Chan.OvHwTripped.drive {n : Nat} {c p : Chan} {i : Nat} {ovhw : Bool} {now : Nat} (h : c.OvHwTripped n) :
    (c.drive p i ovhw now).OvHwTripped n := by
  change (c.drive p i ovhw now).noOutput.OvHwTripped n
  rw [c.drive_noOutput]
  exact h

section

variable (s : State) (e tick : Nat)

/-- OV_HW changes the gate channels of its pair alone. -/
theorem State.ovHw_onlyPair (heven : e % 2 = 0) : OnlyPair e s (s.ovHw e tick) := by
  unfold State.ovHw
  extract_lets a b moves t st put u
  split
  · exact ⟨.rfl, fun _ _ => rfl⟩
  · have hchans : OnlyChans s t := OnlyChans.rfl.countTry
    refine ⟨hchans.onChan.onChan.settlePair, fun j hj => ?_⟩
    have hpair : j ≠ e ∧ j ≠ e + 1 := by
      unfold evenOf at hj
      omega
    obtain ⟨he, ho⟩ := hpair
    rw [State.settlePair_other _ _ _ _ (by rwa [evenOf_even e heven]) (by rwa [evenOf_even e heven])]
    exact (State.chan_onChan_other _ _ _ _ ho).trans <|
      (State.chan_onChan_other _ _ _ _ he).trans (s.countTry_other e j true he ho)

/-- A pair in RUN that no trip holds yet counts one try and goes to WAIT or LATCHED. -/
theorem State.ovHw_trips (he : e < 48) (hrun : (s.chan e).st = .run) (hpartner : (s.chan (e + 1)).st = .run)
    (hfresh : (s.chan e).acc.fault.getLsbD 7 = false) :
    ((s.ovHw e tick).chan e).OvHwTripped ((if (s.chan e).winFrom.isSome then (s.chan e).tries else 0) + 1) := by
  unfold State.ovHw
  extract_lets a b moves t st put u
  have hstands : ¬ (a.acc.fault.getLsbD 7 || (a.ovhw && (a.st == .wait || b.st == .wait))) = true := by
    rw [show a.acc.fault.getLsbD 7 = false from hfresh, show a.st = .run from hrun, show b.st = .run from hpartner]
    simp
  have hmoves : moves a = true := by simp [moves, a, hrun]
  rw [if_neg hstands]
  refine State.settlePair_keeps _ _ _ _ _ (fun _ _ _ _ hc => hc.drive) ?_
  rw [State.chan_onChan_other _ _ _ _ (Nat.ne_of_lt e.lt_succ_self), State.chan_onChan_same _ _ _ he]
  refine ⟨?_, ?_, ?_, s.countTry_tries e true he⟩
  · exact ((t.chan e).mark_fault 7 7 (by decide)).trans (Bool.or_true _)
  · simp [hmoves]
  · have hst : (put (t.chan e) a).st = st := if_pos hmoves
    rw [hst]
    unfold st
    split
    · exact .inr rfl
    · exact .inl rfl

end

/-! ### All pairs -/

/-- What the trip of SP12 by leaf `l` makes of a pair's channels `a` and `b`. -/
def LinkTripped (l : LeafId) (a b a' b' : Chan) : Prop :=
  ((a.heeds l || b.heeds l) = true → a.st = .run → a.acc.fault.getLsbD 7 = false → b.st = .run →
    a'.OvHwTripped ((if a.winFrom.isSome then a.tries else 0) + 1)) ∧
  ((a.heeds l || b.heeds l) = false → a' = a ∧ b' = b)

/-- The trip of SP12 on pair `k` (R19, R240). -/
def State.linkTrip (l : LeafId) (tick : Nat) (s : State) (k : Nat) : State :=
  if !s.pairHeeds (2 * k) l then s else s.ovHw (2 * k) tick

section

variable (s : State) (l : LeafId) (tick : Nat)

theorem State.linkTrip_onlyPair (k : Nat) : OnlyPair (2 * k) s (s.linkTrip l tick k) := by
  unfold State.linkTrip
  split
  · exact ⟨.rfl, fun _ _ => rfl⟩
  · exact s.ovHw_onlyPair (2 * k) tick (Nat.mul_mod_right 2 k)

theorem State.linkTrip_tripped (k : Nat) (hk : k < 24) :
    LinkTripped l (s.chan (2 * k)) (s.chan (2 * k + 1)) ((s.linkTrip l tick k).chan (2 * k))
      ((s.linkTrip l tick k).chan (2 * k + 1)) := by
  refine ⟨fun hheeds hrun hfresh hpartner => ?_, fun hdeaf => ?_⟩
  · have hacts : ¬ (!s.pairHeeds (2 * k) l) = true := by simp [State.pairHeeds, hheeds]
    rw [State.linkTrip, if_neg hacts]
    exact s.ovHw_trips (2 * k) tick (by omega) hrun hpartner hfresh
  · have hrests : (!s.pairHeeds (2 * k) l) = true := by simp [State.pairHeeds, hdeaf]
    rw [State.linkTrip, if_pos hrests]
    exact ⟨rfl, rfl⟩

/-- The trip of SP12 on the first `n` pairs has changed each of them by itself, and no other channel. -/
theorem State.foldl_linkTrip (n : Nat) (hn : n ≤ 24) (t : State) (ht : t = (List.range n).foldl (State.linkTrip l tick) s) :
    OnlyChans s t ∧ (∀ j, 2 * n ≤ j → t.chan j = s.chan j) ∧
      ∀ k, k < n → LinkTripped l (s.chan (2 * k)) (s.chan (2 * k + 1)) (t.chan (2 * k)) (t.chan (2 * k + 1)) := by
  induction n generalizing t with
  | zero =>
    subst ht
    exact ⟨.rfl, fun _ _ => rfl, fun k hk => absurd hk k.not_lt_zero⟩
  | succ n ih =>
    rw [List.range_succ, List.foldl_append] at ht
    obtain ⟨hchans, hrest, hdone⟩ := ih (by omega) _ rfl
    generalize (List.range n).foldl (State.linkTrip l tick) s = u at ht hchans hrest hdone
    obtain ⟨honly, hothers⟩ := u.linkTrip_onlyPair l tick n
    have hnew := u.linkTrip_tripped l tick n (by omega)
    change t = u.linkTrip l tick n at ht
    rw [← ht] at honly hothers hnew
    have hkept (j : Nat) (hj : j / 2 ≠ n) : t.chan j = u.chan j := hothers j (by unfold evenOf; omega)
    refine ⟨?_, fun j hj => (hkept j (by omega)).trans (hrest j (by omega)), fun k hk => ?_⟩
    · rw [OnlyChans, honly, hchans]
    · rcases Nat.lt_succ_iff_lt_or_eq.mp hk with hlt | rfl
      · rw [hkept (2 * k) (by omega), hkept (2 * k + 1) (by omega)]
        exact hdone k hlt
      · rwa [hrest (2 * k) (by omega), hrest (2 * k + 1) (by omega)] at hnew

end

end Sys2Proof.Machine
end

section
/-! Fast trips and the comparators' tests (R154, R157, R229, R240). -/

namespace Sys2Proof.Machine

open Sys2Proof

/-! ### Fast trips -/

section

variable (s : State) (l : LeafId) (port : Fin 36) (mv : Int) (tick : Fin 4000)

theorem fastTrip_inside (hin : (s.leaf l).tripped port mv = false) : exec (.fastTrip l port mv tick) s = .next s := by
  change guarded s ((s.leaf l).tripped port mv) _ = _
  rw [guarded, hin]
  rfl

/-- The trip of a phase-current port is a leg fault of its pair (R154, R229). -/
theorem exec_fastTrip_leg (htrip : (s.leaf l).tripped port mv = true) (hport : port.val < 12)
    (hheeds : s.pairHeeds (6 * (port.val / 3) + 2 * (port.val % 3)) l = true) :
    exec (.fastTrip l port mv tick) s = .next (s.tripLeg (6 * (port.val / 3) + 2 * (port.val % 3)) tick.val) := by
  have hpairs : tripPairs port.val = [6 * (port.val / 3) + 2 * (port.val % 3)] := if_pos hport
  have hlink : port.val ≠ 12 := by omega
  change execFastTrip l port mv tick s = _
  simp [execFastTrip, guarded, htrip, hpairs, hheeds, hlink]

/-- The trip of SP12 is OV_HW on every pair (R154, R240). -/
theorem exec_fastTrip_link (htrip : (s.leaf l).tripped port mv = true) (hport : port.val = 12) :
    exec (.fastTrip l port mv tick) s = .next ((List.range 24).foldl (State.linkTrip l tick.val) s) := by
  have hpairs : tripPairs port.val = (List.range 24).map (2 * ·) := by rw [hport]; rfl
  change execFastTrip l port mv tick s = _
  unfold execFastTrip
  rw [guarded, if_pos htrip, hpairs, List.foldl_map]
  simp only [hport, if_true]
  rfl

theorem fastTrip_leg (e : Nat) (htrip : (s.leaf l).tripped port mv = true) (hport : port.val < 12)
    (he : e = 6 * (port.val / 3) + 2 * (port.val % 3)) (hheeds : s.pairHeeds e l = true) (hon : (s.chan e).gate = true)
    (hpartner : (s.chan (e + 1)).gate = false) (hbias : (s.chan e).st ≠ .noBias) (hused : (s.chan e).st ≠ .unused) :
    Completes (.fastTrip l port mv tick) s fun t => OnlyChans s t ∧ (t.chan e).gate = false ∧ (t.chan e).soft = true ∧
      (t.chan e).acc.fault.getLsbD 1 = true ∧ ∀ j, 24 ≤ j → t.chan j = s.chan j := by
  subst he
  refine ⟨_, exec_fastTrip_leg s l port mv tick htrip hport hheeds, ?_⟩
  rw [s.tripLeg_of_on _ tick.val hon hpartner]
  obtain ⟨hchans, ⟨hgate, hsoft, hfault⟩, hothers⟩ :=
    s.legFault_tripsOff _ ((s.chan _).fineOf tick.val) (by omega) (by omega) hon hbias hused
  exact ⟨hchans, hgate, hsoft, hfault, hothers⟩

theorem fastTrip_link (htrip : (s.leaf l).tripped port mv = true) (hport : port.val = 12) :
    Completes (.fastTrip l port mv tick) s fun t => OnlyChans s t ∧ ∀ k, k < 24 →
      LinkTripped l (s.chan (2 * k)) (s.chan (2 * k + 1)) (t.chan (2 * k)) (t.chan (2 * k + 1)) := by
  obtain ⟨hchans, -, hpairs⟩ := s.foldl_linkTrip l tick.val 24 le_rfl _ rfl
  exact ⟨_, exec_fastTrip_link s l port mv tick htrip hport, hchans, hpairs⟩

end

/-! ### Tests of the comparators -/

/-- A port's comparator replaced. -/
def Leaf.setComp (L : Leaf) (p : Nat) (C : FtComp) : Leaf :=
  { L with sns := { L.sns with comps := L.sns.comps.setIfInBounds p C } }

theorem Leaf.setComp_comp (L : Leaf) (p : Fin 36) (C : FtComp) : pick (L.setComp p C).sns.comps p = C :=
  pick_setIfInBounds_same _ _ _ p.isLt

section

variable (s : State) (l : LeafId) (port : Fin 36) (hport : port.val ≤ 18 ∨ port.val = 30)
  (hquiet : (s.leaf l).sending = false) (hlive : (pick (s.leaf l).sns.comps port).masked = false)

include hport hquiet hlive

/-- A comparator of a leaf that sends no gate frames is tested whatever the state of the other leaf (R157). -/
theorem exec_ftTest (pass : Bool) :
    exec (.ftTest l port pass) s = .next (s.setLeaf l (
      let L := s.leaf l
      let C := pick L.sns.comps port
      if pass then
        if C.failedOnce then (L.setComp port { C with failedOnce := false, testAt := some L.count }).bump SNS_CNT_FT_TRANS
        else L.setComp port { C with testAt := some L.count }
      else if C.failedOnce then (L.setComp port { C with masked := true, testAt := some L.count }).raise SNS_FLT_FT_FAIL
      else L.setComp port { C with failedOnce := true, testAt := some L.count })) := by
  change execFtTest l port pass s = _
  unfold execFtTest
  extract_lets L p C other period turn go set
  have hgo : go = true := by simp [go, hport, hquiet, hlive, L, p, C]
  rw [guarded, if_pos hgo]
  simp only [apply_ite (s.setLeaf l)]
  rfl

theorem ftTest_passes (hfirst : (pick (s.leaf l).sns.comps port).failedOnce = false) :
    Completes (.ftTest l port true) s fun t => OnlyLeaf l s t ∧ (t.leaf l).regs = (s.leaf l).regs ∧
      pick (t.leaf l).sns.comps port = { pick (s.leaf l).sns.comps port with testAt := some (s.leaf l).count } := by
  refine ⟨_, exec_ftTest s l port hport hquiet hlive true, .setLeaf, ?_⟩
  rw [State.leaf_setLeaf]
  simp only [hfirst, if_true, Bool.false_eq_true, if_false]
  exact ⟨rfl, Leaf.setComp_comp ..⟩

theorem ftTest_masks (hrepeat : (pick (s.leaf l).sns.comps port).failedOnce = true) :
    Completes (.ftTest l port false) s fun t => OnlyLeaf l s t ∧ (pick (t.leaf l).sns.comps port).masked = true ∧
      (t.leaf l).get SNS_FLT_FT_FAIL = 1 := by
  refine ⟨_, exec_ftTest s l port hport hquiet hlive false, .setLeaf, ?_⟩
  rw [State.leaf_setLeaf]
  simp only [hrepeat, if_true, Bool.false_eq_true, if_false]
  refine ⟨?_, Leaf.get_raise _ _ _ (by decide) (by decide) (by decide) (by decide)⟩
  rw [Leaf.raise_parts]
  exact congrArg FtComp.masked (Leaf.setComp_comp ..)

end

/-- Settles O30: a switch in soft turn-off stays off through all that its leg fault brings, the trip of SP12 acts on each pair
by itself, and a comparator tested takes the branch of its first result. -/
theorem fastTrips : Obligations.fast_trips := by
  refine ⟨fastTrip_inside, fastTrip_leg, fun s l port mv tick htrip hport => ?_, ftTest_passes, ftTest_masks⟩
  obtain ⟨t, hexec, hchans, hpairs⟩ := fastTrip_link s l port mv tick htrip hport
  refine ⟨t, hexec, hchans, fun k hk => ?_⟩
  obtain ⟨htripped, hrests⟩ := hpairs k hk
  exact ⟨htripped, hrests⟩

end Sys2Proof.Machine
end

section
/-! The sets and machines of a leaf: a member changed, a set moved to a state, a set that leaves a safe state (R271). -/

namespace Sys2Proof.Machine

open Sys2Proof

section

variable (L : Leaf)

theorem Leaf.tset_onSet (f : TrcSet → TrcSet) (set : Fin 4) : (L.onSet set f).tset set = f (L.tset set) :=
  pick_alter_same L.trc.sets set f set.isLt

theorem Leaf.tmach_onMach (f : TrcMach → TrcMach) (m : Fin 2) : (L.onMach m f).tmach m = f (L.tmach m) :=
  pick_alter_same L.trc.machs m f m.isLt

theorem Leaf.tset_of_trc {L M : Leaf} (h : M.trc = L.trc) (i : Nat) : M.tset i = L.tset i := by
  rw [Leaf.tset, h, Leaf.tset]

/-- A set's state stands in its register (R289). -/
theorem Leaf.setState_onSet (f : TrcSet → TrcSet) (set i : Nat) : (L.onSet set f).setState i = L.setState i := rfl

/-! ### A stage has changed state -/

theorem Leaf.stageChanged_trc (g : Nat) : (L.stageChanged g).trc = L.trc := by
  unfold Leaf.stageChanged
  extract_lets _ M
  rw [M.abortTests_regsOnly]

/-- A stage that changes state stops its tests, which shows in ASH_TS_STAT alone (R114, R129). -/
theorem Leaf.stageChanged_keepsRegs (g : Nat) : KeepsRegs L (L.stageChanged g) [ASH_TS_STAT.addr 0] := by
  unfold Leaf.stageChanged Leaf.abortTests
  refine foldl_keeps (KeepsRegs L · _) _ (fun K k hK => ?_) _ _ .rfl
  dsimp only
  split
  · exact (hK.put (.head _)).put (.head _)
  · exact hK

/-- The register of no set is ASH_TS_STAT. -/
theorem addr_setstat_not_ts : ∀ set : Fin 4, TRC_SETSTAT.addr set ∉ [ASH_TS_STAT.addr 0] := by decide

theorem Leaf.stageChanged_setState (g : Nat) (set : Fin 4) : (L.stageChanged g).setState set = L.setState set :=
  (L.stageChanged_keepsRegs g).get (addr_setstat_not_ts set)

/-! ### A set moved to a state -/

/-- The count of entries into a safe state stands in another register than the state (R289, R291). -/
theorem addr_setstat_ne_setcnt : ∀ set : Fin 4, TRC_SETSTAT.addr set ≠ TRC_SETCNT.addr set := by decide

theorem Leaf.moveSet_setState (set : Fin 4) {st : Nat} (hst : st < 8) : (L.moveSet set st).setState set = st := by
  have hput : (L.put TRC_SETSTAT_STATE st set).setState set = st :=
    (L.get_put _ _ _ (by decide)).trans (Nat.mod_eq_of_lt hst)
  unfold Leaf.moveSet
  extract_lets M N K
  split
  case isTrue hsame => exact hsame
  case isFalse =>
    have hN : N.setState set = M.setState set := by
      unfold N
      split
      · exact M.get_bump_other _ _ _ _ (addr_setstat_ne_setcnt set)
      · rfl
    rw [Leaf.stageChanged_setState, Leaf.setState_onSet, hN, hput]

/-- A set that moves to a state goes on waiting after an overcurrent if it did (R274). -/
theorem Leaf.moveSet_ocWait (set : Fin 4) (st : Nat) :
    ((L.moveSet set st).tset set).ocWait = (L.tset set).ocWait := by
  unfold Leaf.moveSet
  extract_lets M N K
  split
  · rfl
  · have hN : N.trc = L.trc := by
      simp only [N, M, apply_ite Leaf.trc, Leaf.bump, Leaf.bumpBy_trc, Leaf.put_trc, ite_self]
    rw [Leaf.tset_of_trc (K.stageChanged_trc _), Leaf.tset_onSet, Leaf.tset_of_trc hN]

/-! ### A set leaves a safe state -/

theorem Leaf.startExit_ocWait (set : Fin 4) : ((L.startExit set).tset set).ocWait = (L.tset set).ocWait := by
  unfold Leaf.startExit
  rw [Leaf.tset_onSet]
  exact L.moveSet_ocWait set 2

theorem Leaf.leaveSafe_ocWait (set : Fin 4) : ((L.leaveSafe set).tset set).ocWait = (L.tset set).ocWait := by
  unfold Leaf.leaveSafe
  split
  · exact L.startExit_ocWait set
  · rw [Leaf.tset_onSet]
    exact L.moveSet_ocWait set 1

/-- A set whose machine's RUN bit is 0 leaves a safe state for STANDBY (R271). -/
theorem Leaf.leaveSafe_standby (set : Fin 4) (hrun : (L.tmach (set.val / 2)).run = false) :
    (L.leaveSafe set).setState set = 1 := by
  unfold Leaf.leaveSafe
  rw [hrun, Bool.false_and, if_neg Bool.false_ne_true, Leaf.setState_onSet]
  exact L.moveSet_setState set (by decide)

end

end Sys2Proof.Machine
end

section
/-! The times of traction: the setpoint timeout, the wait after an overcurrent, the window after an observer loss and the
limit of a synchronisation (R266, R274, R275, R278, R281). -/

namespace Sys2Proof.Machine

open Sys2Proof

/-! ### Named bits of several registers -/

theorem Leaf.raise_trc (L : Leaf) (f : Fld) (i : Nat) : (L.raise f i).trc = L.trc := by rw [Leaf.raise_parts]

/-- A named bit raised writes its register, and those its event can write. -/
theorem KeepsRegs.raise {L M : Leaf} {but : List Nat} (h : KeepsRegs L M but) {f : Fld} {i : Nat}
    (hmem : f.reg.addr i ∈ but) (hreports : reportRegs ⊆ but) : KeepsRegs L (M.raise f i) but := fun off hoff =>
  (Leaf.produce_keepsRegs _ _ off (mt (@hreports off) hoff)).trans (h.put hmem off hoff)

section

variable (L : Leaf)

/-- The leaf once every set shows SP_TIMEOUT (R266). -/
def Leaf.raiseTimeouts : Leaf := (List.range 4).foldl (fun M k => M.raise TRC_SETFLT_SP_TIMEOUT k) L

theorem Leaf.raiseTimeouts_trc : L.raiseTimeouts.trc = L.trc :=
  foldl_same Leaf.trc _ (fun M k => M.raise_trc _ k) _ L

theorem KeepsRegs.raiseTimeouts {L M : Leaf} (h : KeepsRegs L M ((List.range 4).map TRC_SETFLT.addr ++ reportRegs)) :
    KeepsRegs L M.raiseTimeouts ((List.range 4).map TRC_SETFLT.addr ++ reportRegs) :=
  List.foldlRecOn (motive := fun K => KeepsRegs L K ((List.range 4).map TRC_SETFLT.addr ++ reportRegs)) _ _ h
    fun _ hK _ hk => hK.raise (List.mem_append_left _ (List.mem_map_of_mem hk)) (List.subset_append_right _ _)

/-- The registers of the sets' faults are apart from each other, and from those that events write (R290). -/
theorem addr_setflt_apart (i : Nat) : TRC_SETFLT.addr i ≠ HRE_CNT.addr 0 ∧ TRC_SETFLT.addr i ≠ HRE_ERR.addr 0 ∧
    ∀ j, j ≠ i → TRC_SETFLT.addr j ≠ TRC_SETFLT.addr i := by
  have haddr : ∀ k, TRC_SETFLT.addr k = 0x20218 + 0x40 * k := by simp [Reg.addr, TRC_SETFLT]
  have hcnt : HRE_CNT.addr 0 = 0xc028 := rfl
  have herr : HRE_ERR.addr 0 = 0xc030 := rfl
  simp only [haddr, hcnt, herr]
  exact ⟨by omega, by omega, fun j hj => by omega⟩

/-- The sets come to show SP_TIMEOUT: a bit raised for a later one leaves theirs. -/
theorem foldl_raise_timeout (n j : Nat) (hj : j < n) :
    ((List.range n).foldl (fun M k => M.raise TRC_SETFLT_SP_TIMEOUT k) L).get TRC_SETFLT_SP_TIMEOUT j = 1 := by
  induction n with
  | zero => omega
  | succ n ih =>
    rw [List.range_succ, List.foldl_append, List.foldl_cons, List.foldl_nil]
    obtain ⟨hcnt, herr, -⟩ := addr_setflt_apart j
    by_cases hjn : j = n
    · rw [← hjn, Leaf.get_raise _ _ _ hcnt herr (by decide) (by decide)]
    · obtain ⟨-, -, hother⟩ := addr_setflt_apart n
      rw [Leaf.get_word _ _ _ _ (Leaf.raise_word _ _ _ _ _ hcnt herr (hother j hjn)), ih (by omega)]

end

/-! ### The commands -/

section

variable (s : State) (l : LeafId)

theorem spTimeout_shows (k : Nat) (hk : k < 4) (hrun : (s.leaf l).setState k = 2)
    (hlong : (s.leaf l).get TRC_CTRL_SP_TIMEOUT ≤ since (s.leaf l).count (s.leaf l).trc.lastDesc)
    (hnew : (s.leaf l).trc.timedOut = false) :
    Completes (.spTimeout l) s fun t => OnlyLeaf l s t ∧ (t.leaf l).trc.timedOut = true ∧
      (∀ j, j < 4 → (t.leaf l).get TRC_SETFLT_SP_TIMEOUT j = 1) ∧
      KeepsRegs (s.leaf l) (t.leaf l) ((List.range 4).map TRC_SETFLT.addr ++ reportRegs) := by
  have hany : ((List.range 4).any fun k => (s.leaf l).setState k == 2) = true :=
    List.any_eq_true.mpr ⟨k, List.mem_range.mpr hk, beq_iff_eq.mpr hrun⟩
  refine Ends.guardedTrue (by simp [hany, hlong, hnew]) ⟨.setLeaf, ?_⟩
  rw [State.leaf_setLeaf]
  exact ⟨congrArg Trc.timedOut (Leaf.raiseTimeouts_trc _), foldl_raise_timeout _ 4, .raiseTimeouts fun _ _ => rfl⟩

theorem spTimeout_waits
    (hshort : since (s.leaf l).count (s.leaf l).trc.lastDesc < (s.leaf l).get TRC_CTRL_SP_TIMEOUT) :
    exec (.spTimeout l) s = .next s := by
  change guarded s _ _ = _
  rw [guarded, decide_eq_false (Nat.not_le.mpr hshort), Bool.and_false, Bool.false_and, if_neg Bool.false_ne_true]

theorem overcurrentRetry_ends (set : Fin 4) (c : Course) (hwait : ((s.leaf l).tset set).ocWait = true)
    (hheld : ((s.leaf l).tset set).ocHeld = false) (hsafe : safeState ((s.leaf l).setState set) = true)
    (hat : ((s.leaf l).tset set).ocAt = some c) (hlong : 1600 ≤ since (s.leaf l).count c) :
    Completes (.overcurrentRetry l set) s fun t => OnlyLeaf l s t ∧ ((t.leaf l).tset set).ocWait = false ∧
      (((s.leaf l).onSet set fun S => { S with ocWait := false }).causes set ≠ [] → (t.leaf l).regs = (s.leaf l).regs) ∧
      (((s.leaf l).onSet set fun S => { S with ocWait := false }).causes set = [] →
        ((s.leaf l).tmach (set.val / 2)).run = false → (t.leaf l).setState set = 1) := by
  refine Ends.guardedTrue (by simp [hwait, hheld, hsafe, hat, hlong]) ⟨.setLeaf, ?_⟩
  rw [State.leaf_setLeaf]
  have hdone := congrArg TrcSet.ocWait ((s.leaf l).tset_onSet (fun S => { S with ocWait := false }) set)
  split
  case isTrue hempty =>
    have hnone := List.isEmpty_iff.mp hempty
    exact ⟨(Leaf.leaveSafe_ocWait _ set).trans hdone, (absurd hnone ·), fun _ hrun => Leaf.leaveSafe_standby _ set hrun⟩
  case isFalse hcause => exact ⟨hdone, fun _ => rfl, fun hnone => absurd (List.isEmpty_iff.mpr hnone) hcause⟩

theorem obsWindowEnd_ends (m : Fin 2) (c : Course) (hfirst : ((s.leaf l).tmach m).obsFirst = some c)
    (hlong : 320000 ≤ since (s.leaf l).count c) :
    Completes (.obsWindowEnd l m) s fun t => OnlyLeaf l s t ∧ ((t.leaf l).tmach m).obsFirst = none ∧
      (t.leaf l).get TRC_MSTAT_OBS_WIN m = 0 ∧ KeepsRegs (s.leaf l) (t.leaf l) [TRC_MSTAT.addr m] := by
  refine Ends.guardedTrue (by simp [hfirst, hlong]) ⟨.setLeaf, ?_⟩
  rw [State.leaf_setLeaf]
  exact ⟨congrArg TrcMach.obsFirst ((s.leaf l).tmach_onMach _ m), Leaf.get_put _ _ _ _ (by decide),
    KeepsRegs.setWord (fun _ _ => rfl) (List.mem_singleton.mpr rfl)⟩

theorem syncTimeout_tells (hphase : (s.leaf l).trc.phase = 3) (hrun : (s.leaf l).trc.syncRun < 160)
    (hlong : 40000 ≤ since (s.leaf l).count (s.leaf l).trc.syncFrom) :
    Completes (.syncTimeout l) s fun t => OnlyLeaf l s t ∧ (t.leaf l).trc.syncLate = true ∧
      (t.leaf l).regs = (s.leaf l).regs := by
  refine Ends.guardedTrue (by simp [hphase, hrun, hlong]) ⟨.setLeaf, ?_⟩
  rw [State.leaf_setLeaf]
  exact ⟨rfl, rfl⟩

end

/-- Settles O39: the timeout raises one bit in each set's own register, a set that waits no longer leaves its safe state where
no other cause stands, and the end of a window and of a synchronisation are one change each. -/
theorem tractionTimers : Obligations.traction_timers :=
  ⟨spTimeout_shows, spTimeout_waits, overcurrentRetry_ends, obsWindowEnd_ends, syncTimeout_tells⟩

end Sys2Proof.Machine
end

section
/-! A pair brought to its targets (R227, R239): what that does to the output of one of its channels; and the period chain of
a carrier (R223). -/

namespace Sys2Proof.Machine

open Sys2Proof

/-! ### The channels of a pair -/

/-- A channel of the part stands first or second in its pair (R209). -/
theorem even_or_odd (i : Nat) : (evenOf i = i ∧ partnerOf i = i + 1) ∨ (evenOf i + 1 = i ∧ partnerOf i = evenOf i) := by
  unfold evenOf partnerOf
  split <;> omega

theorem evenOf_partnerOf (i : Nat) : evenOf (partnerOf i) = evenOf i := by
  unfold evenOf partnerOf
  split <;> omega

theorem partnerOf_partnerOf (i : Nat) : partnerOf (partnerOf i) = i := by
  unfold partnerOf
  split <;> split <;> omega

namespace OnlyPair

variable {i : Nat} {s t : State}

theorem rfl : OnlyPair i s s := ⟨.rfl, fun _ _ => Eq.refl _⟩

theorem trans {u : State} (h : OnlyPair i s t) (h' : OnlyPair i t u) : OnlyPair i s u := by
  obtain ⟨hchans, hothers⟩ := h
  obtain ⟨hchans', hothers'⟩ := h'
  exact ⟨by rw [OnlyChans, hchans', hchans], fun j hj => (hothers' j hj).trans (hothers j hj)⟩

variable (h : OnlyPair i s t)

include h

theorem setChan {k : Nat} {c : Chan} (hk : evenOf k = evenOf i) : OnlyPair i s (t.setChan k c) := by
  obtain ⟨hchans, hothers⟩ := h
  have hne (j : Nat) (hj : evenOf j ≠ evenOf i) : j ≠ k := fun hjk => hj (hjk ▸ hk)
  exact ⟨hchans.setChan, fun j hj => (t.chan_setChan_other k j c (hne j hj)).trans (hothers j hj)⟩

theorem onChan {k : Nat} {f : Chan → Chan} (hk : evenOf k = evenOf i) : OnlyPair i s (t.onChan k f) := h.setChan hk

theorem settlePair {k now : Nat} (hk : evenOf k = evenOf i) : OnlyPair i s (t.settlePair k now) := by
  have heven : evenOf (evenOf k) = evenOf i := by unfold evenOf at hk ⊢; omega
  have hodd : evenOf (evenOf k + 1) = evenOf i := by unfold evenOf at hk ⊢; omega
  exact (h.setChan heven).setChan hodd

end OnlyPair

/-! ### One output -/

/-- A channel's output turned off: its report that the gate is off is still to come where it was on (R227). -/
def Chan.turnedOff (c : Chan) (now : Nat) : Chan :=
  { c.level false now with waitSince := none, repOff := if c.gate then false else c.repOff }

theorem Chan.drive_off {c p : Chan} {i : Nat} {ovhw : Bool} {now : Nat} (h : c.target p i ovhw = false) :
    c.drive p i ovhw now = c.turnedOff now := by
  rw [Chan.drive, if_pos (by rw [h]; rfl)]
  rfl

/-- A switch that is to be on turns on where its partner's gate is reported off, or is not watched (R227). -/
theorem Chan.drive_on {c p : Chan} {i : Nat} {ovhw : Bool} {now : Nat} (h : c.target p i ovhw = true)
    (hfree : (!watched i || (p.repOff && !p.gate)) = true) :
    (c.drive p i ovhw now).gate = true ∧ (c.gate = false → (c.drive p i ovhw now).waitSince = none) := by
  rw [Chan.drive, if_neg (by rw [h]; decide)]
  cases hgate : c.gate with
  | true => exact ⟨hgate, fun hoff => absurd hoff (by decide)⟩
  | false =>
    rw [if_neg (by decide), if_pos hfree]
    exact ⟨rfl, fun _ => rfl⟩

/-- A switch that is off stays so while its partner's report is missing (R227). -/
theorem Chan.drive_waits {c p : Chan} {i : Nat} {ovhw : Bool} {now : Nat} (hoff : c.gate = false)
    (hwatched : watched i = true) (hreport : p.repOff = false) : (c.drive p i ovhw now).gate = false := by
  cases htarget : c.target p i ovhw with
  | false => rw [Chan.drive_off htarget]; rfl
  | true =>
    rw [Chan.drive, if_neg (by simp [htarget]), if_neg (by simp [hoff]), if_neg (by simp [hwatched, hreport])]
    exact hoff

/-! ### The pair -/

section

variable (s : State) (i now : Nat)

/-- The level channel `i` is to have (R239). -/
def State.targetOf : Bool := (s.chan i).target (s.chan (partnerOf i)) i (s.chan (evenOf i)).ovhw

/-- All but the outputs is as before once a pair is at its targets. -/
theorem State.settlePair_noOutput (j : Nat) : ((s.settlePair i now).chan j).noOutput = (s.chan j).noOutput :=
  s.settlePair_keeps i now j (fun c => c.noOutput = (s.chan j).noOutput)
    (fun c p k ov h => (c.drive_noOutput p k ov now).trans h) rfl

/-- A channel's target does not depend on the outputs (R239). -/
theorem Chan.target_noOutput {c c' p p' : Chan} (hc : c'.noOutput = c.noOutput) (hp : p'.noOutput = p.noOutput) (i : Nat)
    (ovhw : Bool) : c'.target p' i ovhw = c.target p i ovhw := by
  change c'.noOutput.target p'.noOutput i ovhw = c.noOutput.target p.noOutput i ovhw
  rw [hc, hp]

/-- The even channel of a pair as the pair is brought to its targets: turned off first where it is to be off. -/
def State.evenFirst (e : Nat) : Chan :=
  if (s.chan e).target (s.chan (e + 1)) e (s.chan e).ovhw then s.chan e
  else (s.chan e).drive (s.chan (e + 1)) e (s.chan e).ovhw now

theorem State.evenFirst_noOutput (e : Nat) : (s.evenFirst now e).noOutput = (s.chan e).noOutput := by
  unfold State.evenFirst
  split
  · rfl
  · exact Chan.drive_noOutput ..

/-- The odd channel of a pair as the pair is brought to its targets. -/
def State.oddNext (e : Nat) : Chan := (s.chan (e + 1)).drive (s.evenFirst now e) (e + 1) (s.chan e).ovhw now

theorem State.settlePair_eq : s.settlePair i now =
    (s.setChan (evenOf i) ((s.evenFirst now (evenOf i)).drive (s.oddNext now (evenOf i)) (evenOf i)
      (s.chan (evenOf i)).ovhw now)).setChan (evenOf i + 1) (s.oddNext now (evenOf i)) := rfl

/-- What a switch does as its pair is brought to its targets: it is driven with its partner as that stands then, turned off
before where it is to be off. -/
theorem State.settlePair_drive (hi : i < 48) : ∃ c p : Chan,
    (s.settlePair i now).chan i = c.drive p i (s.chan (evenOf i)).ovhw now ∧
      c.target p i (s.chan (evenOf i)).ovhw = s.targetOf i ∧
      (s.targetOf i = true → c = s.chan i) ∧
      (s.targetOf (partnerOf i) = false → p = (s.chan (partnerOf i)).turnedOff now) := by
  have hfirst := s.evenFirst_noOutput now (evenOf i)
  rw [State.targetOf, State.targetOf, evenOf_partnerOf, partnerOf_partnerOf]
  rcases even_or_odd i with ⟨heven, hpartner⟩ | ⟨hodd, hpartner⟩
  · rw [heven] at hfirst
    have hsecond : (s.oddNext now i).noOutput = (s.chan (i + 1)).noOutput := Chan.drive_noOutput ..
    rw [heven, hpartner]
    refine ⟨s.evenFirst now i, s.oddNext now i, ?_,
      Chan.target_noOutput hfirst hsecond i _, fun h => if_pos h,
      fun h => Chan.drive_off ((Chan.target_noOutput rfl hfirst (i + 1) _).trans h)⟩
    rw [State.settlePair_eq, heven, State.chan_setChan_other _ _ _ _ (by omega), State.chan_setChan_same _ _ _ hi]
  · rw [hpartner]
    refine ⟨s.chan i, s.evenFirst now (evenOf i), ?_, Chan.target_noOutput rfl hfirst i _, fun _ => rfl, fun h => ?_⟩
    · rw [State.settlePair_eq, hodd, State.chan_setChan_same _ _ _ hi, State.oddNext, hodd]
    · rw [State.evenFirst, hodd, if_neg (by rw [h]; decide)]
      exact Chan.drive_off h

theorem State.settlePair_off (hi : i < 48) (h : s.targetOf i = false) : ((s.settlePair i now).chan i).gate = false := by
  obtain ⟨c, p, hchan, htarget, -, -⟩ := s.settlePair_drive i now hi
  rw [hchan, Chan.drive_off (htarget.trans h)]
  rfl

theorem State.settlePair_on (hi : i < 48) (h : s.targetOf i = true) (hpartner : s.targetOf (partnerOf i) = false)
    (hgate : (s.chan (partnerOf i)).gate = false) (hreport : (s.chan (partnerOf i)).repOff = true) :
    ((s.settlePair i now).chan i).gate = true ∧
      ((s.chan i).gate = false → ((s.settlePair i now).chan i).waitSince = none) := by
  obtain ⟨c, p, hchan, htarget, hsame, hturned⟩ := s.settlePair_drive i now hi
  obtain rfl := hsame h
  obtain rfl := hturned hpartner
  have hfree : (!watched i || (((s.chan (partnerOf i)).turnedOff now).repOff && !((s.chan (partnerOf i)).turnedOff now).gate)) =
      true := by
    simp [Chan.turnedOff, Chan.level, hgate, hreport]
  rw [hchan]
  exact Chan.drive_on (htarget.trans h) hfree

theorem State.settlePair_waits (hi : i < 48) (hwatched : watched i = true) (hoff : (s.chan i).gate = false)
    (hpartner : s.targetOf (partnerOf i) = false) (hreport : (s.chan (partnerOf i)).repOff = false) :
    ((s.settlePair i now).chan i).gate = false := by
  cases h : s.targetOf i with
  | false => exact s.settlePair_off i now hi h
  | true =>
    obtain ⟨c, p, hchan, -, hsame, hturned⟩ := s.settlePair_drive i now hi
    obtain rfl := hsame h
    obtain rfl := hturned hpartner
    have hmissing : ((s.chan (partnerOf i)).turnedOff now).repOff = false := by
      simp [Chan.turnedOff, hreport]
    rw [hchan]
    exact Chan.drive_waits hoff hwatched hmissing

end

/-! ### The carrier -/

section

variable (c : Chan) (fuel now : Nat)

/-- A channel with no carrier, none waiting to start at this time, goes on as it is (R223). -/
theorem Chan.runCarrier_still (hcar : c.car = none) (hnext : ∀ w, c.carNext = some w → now < w.2) :
    Chan.runCarrier fuel c now = c := by
  cases fuel with
  | zero => rfl
  | succ fuel =>
    unfold Chan.runCarrier
    rw [hcar]
    cases hwait : c.carNext with
    | none => rfl
    | some w => exact if_neg (Nat.not_le.mpr (hnext w hwait))

/-- A channel without its carrier and its edges. -/
def Chan.noCarrier : Chan := { c with car := none, carNext := none, edges := [] }

/-- The period chain writes the carrier and the edges alone (R223). -/
theorem Chan.runCarrier_noCarrier : (Chan.runCarrier fuel c now).noCarrier = c.noCarrier := by
  induction fuel generalizing c with
  | zero => rfl
  | succ fuel ih =>
    have hgo (d : Chan) (h : d.noCarrier = c.noCarrier) : (Chan.runCarrier fuel d now).noCarrier = c.noCarrier := (ih d).trans h
    unfold Chan.runCarrier
    split
    · dsimp only
      split
      · split
        · split
          · split
            · exact hgo _ rfl
            · exact hgo _ rfl
          · exact hgo _ rfl
        · exact hgo _ rfl
      · rfl
    · split
      · dsimp only
        split
        · split
          · exact hgo _ rfl
          · rfl
        · rfl
      · rfl

end

end Sys2Proof.Machine
end

section
/-! What a gate channel does with a frame on a link (R213, R219 to R222). -/

namespace Sys2Proof.Machine

open Sys2Proof

/-- A frame without fault on a link that is up, for the channel's own MODE, and tagged with its present course (`next` false)
or with the next one (R220). -/
structure Legible (s : State) (rx : GateRx) (next : Bool) : Prop where
  link : (pick (s.chan rx.chan).tb rx.link.num).lost = false
  delim : rx.delim = 0xE7#8
  crc : bodyCrc rx.body = rx.crc.toNat
  fields : fieldsOk rx.body = true
  tag : BitVec.ofNat 16 (fb rx.body 67 52) = (pick (s.chan rx.chan).tb rx.link.num).tag + (if next then 1 else 0)
  course : kindOf rx.body = 0 → (s.chan rx.chan).mode = 1
  carrier : kindOf rx.body = 1 → (s.chan rx.chan).mode = 2

section

variable (s : State) (rx : GateRx) (act : Chan → Nat → Nat → Chan)

/-- The check of a frame (R220). -/
def State.accepts : Bool :=
  let c := s.chan rx.chan
  let t := pick c.tb rx.link.num
  let k := kindOf rx.body
  let tag := BitVec.ofNat 16 (fb rx.body 67 52)
  rx.delim == 0xE7#8 && bodyCrc rx.body == rx.crc.toNat &&
    (if k = 0 then c.mode == 1 else if k = 1 then c.mode == 2 else true) && (tag == t.tag || tag == t.tag + 1) &&
    fieldsOk rx.body

/-- The course a frame's tag names (R214, R221). -/
def State.namedCourse : Nat :=
  if BitVec.ofNat 16 (fb rx.body 67 52) == (pick (s.chan rx.chan).tb rx.link.num).tag then (s.chan rx.chan).n
  else (s.chan rx.chan).n + 1

/-- The channel of a frame that has arrived without fault (R19, R225). -/
def State.reached : Chan :=
  { s.chan rx.chan with
    tb := alter (s.chan rx.chan).tb rx.link.num fun t => { t with lastFrame := some (s.chan rx.chan).n }
    lastValid := if (keyOf rx.body).1 = 2 then (s.chan rx.chan).lastValid else some ((s.chan rx.chan).fineOf rx.tick) }

/-- The channel of a frame that it is about to apply (R221). -/
def State.noted (next : Bool) : Chan :=
  { s.reached rx with applied := (s.chan rx.chan).applied ++ [s.appliedBy rx next] }

/-- The channel that an applied frame leaves, its pair not yet at its targets. -/
def State.applies (next : Bool) : Chan :=
  act (s.noted rx next) ((s.chan rx.chan).n + bit next) ((s.chan rx.chan).fineOf rx.tick)

/-- A channel that notes a frame keeps what it holds besides frames. -/
theorem State.noted_keeps (next : Bool) : (s.noted rx next).n = (s.chan rx.chan).n ∧
    (s.noted rx next).st = (s.chan rx.chan).st ∧ (s.noted rx next).cfg = (s.chan rx.chan).cfg ∧
    (s.noted rx next).maint = (s.chan rx.chan).maint ∧
    (s.noted rx next).failedOnce = (s.chan rx.chan).failedOnce := by
  simp only [State.noted, State.reached, and_self]

variable {s rx}

theorem Heard.legible {next : Bool} (h : Heard s rx next) (hcourse : kindOf rx.body = 0 → (s.chan rx.chan).mode = 1)
    (hcarrier : kindOf rx.body = 1 → (s.chan rx.chan).mode = 2) : Legible s rx next := by
  obtain ⟨hlink, hdelim, hcrc, hfields, htag, -⟩ := h
  exact ⟨hlink, hdelim, hcrc, hfields, htag, hcourse, hcarrier⟩

theorem Legible.accepts {next : Bool} (h : Legible s rx next) : s.accepts rx = true := by
  have hmode : (if kindOf rx.body = 0 then (s.chan rx.chan).mode == 1
      else if kindOf rx.body = 1 then (s.chan rx.chan).mode == 2 else true) = true := by
    split
    next hk => exact beq_iff_eq.mpr (h.course hk)
    next =>
      split
      next hk => exact beq_iff_eq.mpr (h.carrier hk)
      next => rfl
  unfold State.accepts
  dsimp only
  rw [h.delim, h.crc, h.fields, h.tag, hmode]
  cases next <;> simp

theorem Legible.namedCourse {next : Bool} (h : Legible s rx next) : s.namedCourse rx = (s.chan rx.chan).n + bit next := by
  unfold State.namedCourse
  rw [h.tag]
  cases next <;> simp [bit]

/-- The first legible frame of its key acts on the channel, whose pair is then brought to its targets (R221, R222). -/
theorem State.gateFrame_new {next : Bool} (h : Legible s rx next)
    (hnew : ∀ a ∈ (s.chan rx.chan).applied, a.course = (s.chan rx.chan).n + bit next → a.kind ≠ (keyOf rx.body).1) :
    s.gateFrame rx act =
      (s.setChan rx.chan (s.applies rx act next)).settlePair rx.chan ((s.chan rx.chan).fineOf rx.tick) := by
  have hcourse := h.namedCourse
  unfold State.gateFrame
  extract_lets i c t b k tag now modeOk valid course
  rw [if_neg (by rw [h.link]; decide), if_neg (by rw [show valid = true from h.accepts]; decide),
    show course = (s.chan rx.chan).n + bit next from hcourse]
  dsimp only
  have hnone : c.applied.find? (fun a => a.kind == (keyOf b).1 && a.key == (keyOf b).2 &&
      a.course == (s.chan rx.chan).n + bit next) = none := by
    rw [List.find?_eq_none]
    intro a ha hseen
    simp only [Bool.and_eq_true, beq_iff_eq] at hseen
    obtain ⟨⟨hkind, -⟩, hnamed⟩ := hseen
    exact hnew a ha hnamed hkind
  rw [hnone]
  have hold : ¬ (decide ((keyOf b).1 = 0) && (keyOf b).2 == 0 &&
      c.applied.any fun a => a.kind == 0 && a.key == 1 && a.course == (s.chan rx.chan).n + bit next) = true := by
    intro hupdated
    simp only [Bool.and_eq_true, decide_eq_true_eq, List.any_eq_true, beq_iff_eq] at hupdated
    obtain ⟨⟨hkind, -⟩, a, ha, ⟨hk, -⟩, hc⟩ := hupdated
    exact hnew a ha hc (hk.trans hkind.symm)
  exact if_neg hold

/-- A second frame of a key from one link is a bad one (R221). -/
theorem State.gateFrame_repeat {next : Bool} (h : Legible s rx next) (a : Applied)
    (hfind : (s.chan rx.chan).applied.find? (fun a => a.kind == (keyOf rx.body).1 && a.key == (keyOf rx.body).2 &&
      a.course == (s.chan rx.chan).n + bit next) = some a) (hlink : a.link = rx.link) :
    s.gateFrame rx act = s.setChan rx.chan ((s.reached rx).badFrame rx.link) := by
  have hcourse := h.namedCourse
  unfold State.gateFrame
  extract_lets i c t b k tag now modeOk valid course
  rw [if_neg (by rw [h.link]; decide), if_neg (by rw [show valid = true from h.accepts]; decide),
    show course = (s.chan rx.chan).n + bit next from hcourse]
  dsimp only
  rw [show c.applied.find? (fun a => a.kind == (keyOf b).1 && a.key == (keyOf b).2 &&
      a.course == (s.chan rx.chan).n + bit next) = some a from hfind]
  exact if_pos (by simp [hlink])

/-- A damaged frame is a bad one, and no more (R220). -/
theorem State.gateFrame_damaged (h : Damaged s rx) :
    s.gateFrame rx act = s.setChan rx.chan ((s.chan rx.chan).badFrame rx.link) := by
  obtain ⟨hlink, hbad⟩ := h
  have hinvalid : s.accepts rx = false := by
    rcases hbad with hdelim | hcrc
    · simp [State.accepts, hdelim]
    · simp [State.accepts, hcrc]
  unfold State.gateFrame
  extract_lets i c t b k tag now modeOk valid course
  rw [if_neg (by rw [hlink]; decide), if_pos (by rw [show valid = false from hinvalid]; rfl)]

end

/-- The channel of a frame heard is as the frame makes it, but for the outputs of its pair. -/
theorem State.gateFrame_heard {s : State} {rx : GateRx} {next : Bool} (act : Chan → Nat → Nat → Chan)
    (h : Heard s rx next) (hcourse : kindOf rx.body = 0 → (s.chan rx.chan).mode = 1)
    (hcarrier : kindOf rx.body = 1 → (s.chan rx.chan).mode = 2) :
    OnlyPair rx.chan s (s.gateFrame rx act) ∧
      ((s.gateFrame rx act).chan rx.chan).noOutput = (s.applies rx act next).noOutput := by
  have hlegible := h.legible hcourse hcarrier
  obtain ⟨-, -, -, -, -, hnew⟩ := h
  rw [State.gateFrame_new act hlegible hnew, State.settlePair_noOutput, State.chan_setChan_same _ _ _ rx.chan.isLt]
  exact ⟨(OnlyPair.rfl.setChan rfl).settlePair rfl, rfl⟩

/-- A command whose frame is heard and is of the command's kind. -/
theorem ends_heard {s : State} {rx : GateRx} {next : Bool} {k : Nat → Bool} (act : Chan → Nat → Nat → Chan)
    (h : Heard s rx next) (hcourse : kindOf rx.body = 0 → (s.chan rx.chan).mode = 1)
    (hcarrier : kindOf rx.body = 1 → (s.chan rx.chan).mode = 2) (hk : k (kindOf rx.body) = true) :
    Ends (guarded s (ofKind rx k) (s.gateFrame rx act)) fun t => OnlyPair rx.chan s t ∧
      (t.chan rx.chan).noOutput = (s.applies rx act next).noOutput := by
  rw [guarded, ofKind, hk, Bool.true_or, Bool.true_or, if_pos rfl]
  exact .next (State.gateFrame_heard act h hcourse hcarrier)

end Sys2Proof.Machine
end

section
/-! The frames a gate channel applies, and those it discards (R216 to R224). -/

namespace Sys2Proof.Machine

open Sys2Proof

theorem keyOf_course {b : BitVec 72} (h : kindOf b = 0) : keyOf b = (0, fb b 69 69) := by
  unfold kindOf at h
  unfold keyOf
  split at h
  next hty => simp [hty]
  all_goals omega

/-- A COURSE frame for a course to come has its edges take the place of those of that course (R222). -/
theorem Chan.applyCourse_later (c : Chan) (b : BitVec 72) (course now : Nat) (h : course ≠ c.n) :
    c.applyCourse b course now = { c with
      asc := fb b 68 68 == 1, ascAt := some c.n
      edges := (c.edges.filter fun e => e.1 / 4000 != course) ++
        levelEdges (course * 4000) (fb b 48 48 == 1) (edgesOf b) } := by
  unfold Chan.applyCourse
  exact if_neg h

/-- A frame discarded is counted for its link alone (R220, R221). -/
theorem Chan.badFrame_parts (c : Chan) (l : LeafId) : c.badFrame l = { c with acc := (c.badFrame l).acc } := by
  cases l <;> rfl

theorem Chan.badFrame_acc (c : Chan) {d : Chan} (h : d.acc = c.acc) (l : LeafId) : (d.badFrame l).acc = (c.badFrame l).acc := by
  cases l <;> simp [Chan.badFrame, h]

section

variable (s : State) (rx : GateRx)

theorem courseFrame_applies (h : Heard s rx true) (hkind : kindOf rx.body = 0) (hmode : (s.chan rx.chan).mode = 1) :
    Completes (.courseFrame rx) s fun t => OnlyPair rx.chan s t ∧
      (t.chan rx.chan).applied = (s.chan rx.chan).applied ++ [s.appliedBy rx true] ∧
      (t.chan rx.chan).edges = ((s.chan rx.chan).edges.filter fun e => e.1 / 4000 != (s.chan rx.chan).n + 1) ++
        levelEdges (((s.chan rx.chan).n + 1) * 4000) (fb rx.body 48 48 == 1) (edgesOf rx.body) ∧
      (t.chan rx.chan).asc = (fb rx.body 68 68 == 1) ∧
      (t.chan rx.chan).lastValid = some ((s.chan rx.chan).fineOf rx.tick) := by
  refine (ends_heard _ h (fun _ => hmode) (by omega) (by simp [hkind])).imp fun t ⟨honly, hkept⟩ => ?_
  have hkept := hkept.trans <| congrArg Chan.noOutput <|
    (s.noted rx true).applyCourse_later rx.body ((s.chan rx.chan).n + 1) _ (Nat.succ_ne_self _)
  have hvalid : (s.noted rx true).lastValid = some ((s.chan rx.chan).fineOf rx.tick) :=
    if_neg (by simp [keyOf_course hkind])
  exact ⟨honly, congrArg Chan.applied hkept, congrArg Chan.edges hkept, congrArg Chan.asc hkept,
    (congrArg Chan.lastValid hkept).trans hvalid⟩

theorem carrierFrame_waits (next : Bool) (h : Heard s rx next) (hkind : kindOf rx.body = 1)
    (hmode : (s.chan rx.chan).mode = 2) (hcar : (s.chan rx.chan).car = none)
    (hearly : (s.chan rx.chan).fineOf rx.tick < ((s.chan rx.chan).n + bit next) * 4000 + fb rx.body 51 40 + 320) :
    Completes (.carrierFrame rx) s fun t => OnlyPair rx.chan s t ∧
      (t.chan rx.chan).applied = (s.chan rx.chan).applied ++ [s.appliedBy rx next] ∧
      (t.chan rx.chan).carNext = some (⟨fb rx.body 69 69 == 1, fb rx.body 39 27, fb rx.body 26 14, fb rx.body 13 1⟩,
        ((s.chan rx.chan).n + bit next) * 4000 + fb rx.body 51 40 + 320) ∧
      (t.chan rx.chan).fedCar = true := by
  refine (ends_heard _ h (by omega) (fun _ => hmode) (by simp [hkind])).imp fun t ⟨honly, hkept⟩ => ?_
  have hwaits : ∀ w, ((s.noted rx next).applyCarrier rx.body ((s.chan rx.chan).n + bit next)).carNext = some w →
      (s.chan rx.chan).fineOf rx.tick < w.2 := by
    rintro w hw
    obtain rfl := Option.some.inj hw
    exact hearly
  have hkept := hkept.trans <| congrArg Chan.noOutput <| Chan.runCarrier_still _ _ _ (by exact hcar) hwaits
  exact ⟨honly, congrArg Chan.applied hkept, congrArg Chan.carNext hkept, congrArg Chan.fedCar hkept⟩

theorem damagedFrame_counts (h : Damaged s rx) :
    exec (.courseFrame rx) s = .next (s.setChan rx.chan ((s.chan rx.chan).badFrame rx.link)) ∧
    exec (.carrierFrame rx) s = .next (s.setChan rx.chan ((s.chan rx.chan).badFrame rx.link)) ∧
    exec (.maintNop rx) s = .next (s.setChan rx.chan ((s.chan rx.chan).badFrame rx.link)) ∧
    exec (.maintWrite rx) s = .next (s.setChan rx.chan ((s.chan rx.chan).badFrame rx.link)) ∧
    exec (.maintRead rx) s = .next (s.setChan rx.chan ((s.chan rx.chan).badFrame rx.link)) ∧
    exec (.maintClear rx) s = .next (s.setChan rx.chan ((s.chan rx.chan).badFrame rx.link)) ∧
    exec (.maintLower rx) s = .next (s.setChan rx.chan ((s.chan rx.chan).badFrame rx.link)) := by
  have hcounts (k : Nat → Bool) (act : Chan → Nat → Nat → Chan) :
      guarded s (ofKind rx k) (s.gateFrame rx act) = .next (s.setChan rx.chan ((s.chan rx.chan).badFrame rx.link)) := by
    have hany : ofKind rx k = true := by
      obtain ⟨-, hdelim | hcrc⟩ := h
      · simp [ofKind, hdelim]
      · simp [ofKind, hcrc]
    rw [guarded, if_pos hany, State.gateFrame_damaged act h]
  exact ⟨hcounts .., hcounts .., hcounts .., hcounts .., hcounts .., hcounts .., hcounts ..⟩

theorem courseFrame_repeated (a : Applied) (hlink : (pick (s.chan rx.chan).tb rx.link.num).lost = false)
    (hdelim : rx.delim = 0xE7#8) (hcrc : bodyCrc rx.body = rx.crc.toNat) (hfields : fieldsOk rx.body = true)
    (hkind : kindOf rx.body = 0) (hmode : (s.chan rx.chan).mode = 1)
    (htag : BitVec.ofNat 16 (fb rx.body 67 52) = (pick (s.chan rx.chan).tb rx.link.num).tag)
    (happlied : (s.chan rx.chan).applied = [a]) (hkey : (a.kind, a.key) = keyOf rx.body)
    (hcourse : a.course = (s.chan rx.chan).n) (hfrom : a.link = rx.link) :
    Completes (.courseFrame rx) s fun t => OnlyChans s t ∧
      (t.chan rx.chan).acc = ((s.chan rx.chan).badFrame rx.link).acc ∧ (t.chan rx.chan).applied = [a] ∧
      (t.chan rx.chan).edges = (s.chan rx.chan).edges ∧ ∀ j, j ≠ rx.chan.val → t.chan j = s.chan j := by
  have hlegible : Legible s rx false :=
    ⟨hlink, hdelim, hcrc, hfields, htag.trans (BitVec.add_zero _).symm, fun _ => hmode, by omega⟩
  have hfind : (s.chan rx.chan).applied.find? (fun a => a.kind == (keyOf rx.body).1 && a.key == (keyOf rx.body).2 &&
      a.course == (s.chan rx.chan).n + bit false) = some a := by
    rw [happlied, ← hkey]
    simp [hcourse, bit]
  refine ⟨_, by
    change guarded s (ofKind rx fun k => k == 0 || k == 18) _ = _
    rw [guarded, if_pos (by simp [ofKind, hkind]), State.gateFrame_repeat _ hlegible a hfind hfrom], .setChan .rfl, ?_⟩
  rw [State.chan_setChan_same _ _ _ rx.chan.isLt, Chan.badFrame_parts]
  exact ⟨(s.chan rx.chan).badFrame_acc (d := s.reached rx) rfl rx.link, happlied, rfl,
    fun j hj => State.chan_setChan_other _ _ _ _ hj⟩

end

/-- Settles O32: a legible frame is applied where its key is new and is a bad one where it came on the same link before, and
the pair's drive to its targets leaves all but the outputs. -/
theorem gateFrames : Obligations.gate_frames :=
  ⟨courseFrame_applies, carrierFrame_waits, damagedFrame_counts, courseFrame_repeated⟩

end Sys2Proof.Machine
end

section
/-! MAINT frames (R218, R241). -/

namespace Sys2Proof.Machine

open Sys2Proof

/-- A body of kind 2 + OP is a MAINT body with that OP (R218). -/
theorem kindOf_maint {b : BitVec 72} {op : Nat} (h : kindOf b = 2 + op) (hop : op < 16) : fb b 51 48 = op := by
  unfold kindOf at h
  split at h <;> omega

/-- A frame that is a MAINT frame fits any MODE (R220). -/
theorem ends_heardMaint {s : State} {rx : GateRx} {next : Bool} {k : Nat → Bool} (act : Chan → Nat → Nat → Chan)
    (h : Heard s rx next) (hkind : 2 ≤ kindOf rx.body) (hk : k (kindOf rx.body) = true) :
    Ends (guarded s (ofKind rx k) (s.gateFrame rx act)) fun t => OnlyPair rx.chan s t ∧
      (t.chan rx.chan).noOutput = (s.applies rx act next).noOutput :=
  ends_heard act h (by omega) (by omega) hk

theorem boundaryOf_named (c : Chan) (next : Bool) : boundaryOf c (c.n + bit next) = c.n + 1 := by
  cases next <;> simp [boundaryOf, bit]

section

variable (s : State) (rx : GateRx)

theorem maintNop_notes (next : Bool) (h : Heard s rx next) (hkind : kindOf rx.body = 2) :
    Completes (.maintNop rx) s fun t => OnlyPair rx.chan s t ∧
      (t.chan rx.chan).applied = (s.chan rx.chan).applied ++ [s.appliedBy rx next] ∧
      (t.chan rx.chan).maint = (s.chan rx.chan).maint ∧ (t.chan rx.chan).cfg = (s.chan rx.chan).cfg := by
  refine (ends_heardMaint _ h (by omega) (by simp [hkind])).imp fun t ⟨honly, hkept⟩ => ?_
  obtain ⟨-, -, hcfg, hmaint, -⟩ := s.noted_keeps rx next
  exact ⟨honly, congrArg Chan.applied hkept, (congrArg Chan.maint hkept).trans hmaint, (congrArg Chan.cfg hkept).trans hcfg⟩

/-- A MAINT frame that acts at a boundary waits for that of its course, or of the next where its own has begun (R218). -/
theorem ends_deferred {next : Bool} {k : Nat → Bool} (op : Nat) (h : Heard s rx next) (hkind : kindOf rx.body = 2 + op)
    (hop : op < 16) (hk : k (kindOf rx.body) = true) :
    Ends (guarded s (ofKind rx k) (s.gateFrame rx fun c course _ => c.defer rx.body rx.link (boundaryOf c course)))
      fun t => OnlyPair rx.chan s t ∧ (t.chan rx.chan).maint = (s.chan rx.chan).maint ++
        [⟨(s.chan rx.chan).n + 1, op, fb rx.body 47 40, fb rx.body 31 0, rx.link, false, false⟩] := by
  refine (ends_heardMaint _ h (by omega) hk).imp fun t ⟨honly, hkept⟩ => ⟨honly, (congrArg Chan.maint hkept).trans ?_⟩
  have hboundary : boundaryOf (s.noted rx next) ((s.chan rx.chan).n + bit next) = (s.chan rx.chan).n + 1 :=
    boundaryOf_named (s.noted rx next) next
  change _ ++ [MaintOp.mk (boundaryOf (s.noted rx next) ((s.chan rx.chan).n + bit next)) (fb rx.body 51 48) _ _ _ _ _] = _
  rw [hboundary, kindOf_maint hkind hop]
  rfl

theorem maintOps_wait (next : Bool) (h : Heard s rx next) :
    (kindOf rx.body = 3 → Completes (.maintWrite rx) s fun t => OnlyPair rx.chan s t ∧
      (t.chan rx.chan).maint = (s.chan rx.chan).maint ++
        [⟨(s.chan rx.chan).n + 1, 1, fb rx.body 47 40, fb rx.body 31 0, rx.link, false, false⟩]) ∧
    (kindOf rx.body = 6 → Completes (.maintClear rx) s fun t => OnlyPair rx.chan s t ∧
      (t.chan rx.chan).maint = (s.chan rx.chan).maint ++
        [⟨(s.chan rx.chan).n + 1, 4, fb rx.body 47 40, fb rx.body 31 0, rx.link, false, false⟩]) ∧
    (kindOf rx.body = 7 → Completes (.maintLower rx) s fun t => OnlyPair rx.chan s t ∧
      (t.chan rx.chan).maint = (s.chan rx.chan).maint ++
        [⟨(s.chan rx.chan).n + 1, 5, fb rx.body 47 40, fb rx.body 31 0, rx.link, false, false⟩]) :=
  ⟨fun hkind => show Ends (execMaintWrite rx s) _ from ends_deferred s rx 1 h hkind (by decide) (by simp [hkind]),
    fun hkind => show Ends (execMaintClear rx s) _ from ends_deferred s rx 4 h hkind (by decide) (by simp [hkind]),
    fun hkind => show Ends (execMaintLower rx s) _ from ends_deferred s rx 5 h hkind (by decide) (by simp [hkind])⟩

theorem maintRead_gives (h : Heard s rx false) (hkind : kindOf rx.body = 4) :
    Completes (.maintRead rx) s fun t => OnlyPair rx.chan s t ∧ (t.chan rx.chan).acc.ritem = fb rx.body 47 40 ∧
      (t.chan rx.chan).acc.rleaf = rx.link ∧
      (t.chan rx.chan).acc.rdata = (s.chan rx.chan).readItem (s.chan (evenOf rx.chan)) (fb rx.body 47 40) := by
  refine (ends_heardMaint _ h (by omega) (by simp [hkind])).imp fun t ⟨honly, hkept⟩ => ?_
  have hpresent := hkept.trans <| congrArg Chan.noOutput <|
    if_pos (show (s.chan rx.chan).n + bit false ≤ (s.noted rx false).n from le_rfl)
  exact ⟨honly, congrArg (·.acc.ritem) hpresent, congrArg (·.acc.rleaf) hpresent, congrArg (·.acc.rdata) hpresent⟩

end

/-! ### Tests -/

theorem State.setChan_setChan (s : State) (i : Nat) (c d : Chan) : (s.setChan i c).setChan i d = s.setChan i d := by
  unfold State.setChan
  rw [Vector.setIfInBounds_setIfInBounds]

/-- A channel that reports a test of one item that ran and failed, for the first time (R218, R241). -/
def Chan.testFailed (c : Chan) (item : Nat) : Chan :=
  { c with
    acc := { c.acc with testItem := item, testRan := true, testPass := false }
    failedOnce := c.failedOnce ||| 1#5 <<< item }

theorem State.maintActs_testFails (s : State) (i : Nat) (m : MaintOp) (hi : i < 48) (hop : m.op = 3) (hran : m.ran = true)
    (hpass : m.pass = false) (hfirst : (s.chan i).failedOnce = 0) :
    s.maintActs i m = s.setChan i ((s.chan i).testFailed m.item) := by
  simp only [State.maintActs, hop, hran, hpass, State.testOutcome, State.onChan, State.chan_setChan_same _ _ _ hi, hfirst,
    State.setChan_setChan, if_true, Bool.and_false]
  rw [if_neg (by decide), if_neg (by simp), Chan.testFailed, hfirst]

/-- The tests of the present course are reported in it, and the pair is brought to its targets (R218, R241). -/
def State.reportTests (s : State) (i tick : Nat) : State :=
  let c := s.chan i
  let now := c.maint.filter fun m => m.op == 3 && decide (m.course ≤ c.n)
  (now.foldl (fun s m => s.maintActs i m)
    (s.setChan i { c with maint := c.maint.filter fun m => !(m.op == 3 && decide (m.course ≤ c.n)) })).settlePair i
      (c.fineOf tick)

theorem State.reportTests_fails (s : State) (i tick : Nat) (m : MaintOp) (hi : i < 48) (hmaint : (s.chan i).maint = [m])
    (hop : m.op = 3) (hpresent : m.course ≤ (s.chan i).n) (hran : m.ran = true) (hpass : m.pass = false)
    (hfirst : (s.chan i).failedOnce = 0) :
    s.reportTests i tick =
      (s.setChan i (Chan.testFailed { s.chan i with maint := [] } m.item)).settlePair i ((s.chan i).fineOf tick) := by
  have htested : (m.op == 3 && decide (m.course ≤ (s.chan i).n)) = true := by simp [hop, hpresent]
  unfold State.reportTests
  simp only [hmaint, List.filter_cons, List.filter_nil, htested, if_true, Bool.not_true, Bool.false_eq_true, if_false,
    List.foldl_cons, List.foldl_nil]
  rw [State.maintActs_testFails _ _ _ hi hop hran hpass (by rw [State.chan_setChan_same _ _ _ hi]; exact hfirst),
    State.chan_setChan_same _ _ _ hi, State.setChan_setChan]

/-- A TEST as its channel keeps it: it has run where its start tick was still to come and nothing disturbed it (R218, R241). -/
def testOp (rx : GateRx) (undisturbed pass : Bool) (course now : Nat) : MaintOp :=
  { course := course, op := 3, item := fb rx.body 47 40, data := 0, link := rx.link
    ran := decide (now < course * 4000 + fb rx.body 11 0) && undisturbed, pass := pass }

theorem exec_maintTest (s : State) (rx : GateRx) (undisturbed pass : Bool) :
    exec (.maintTest rx undisturbed pass) s = guarded s (ofKind rx (· == 5)) ((s.gateFrame rx fun c course now =>
      { c with maint := c.maint ++ [testOp rx undisturbed pass course now] }).reportTests rx.chan rx.tick) := rfl

theorem maintTest_reports (s : State) (rx : GateRx) (h : Heard s rx false) (hkind : kindOf rx.body = 5)
    (hmaint : (s.chan rx.chan).maint = []) (hearly : rx.tick.val < fb rx.body 11 0) (hrun : (s.chan rx.chan).st = .run)
    (hfirst : (s.chan rx.chan).failedOnce = 0) :
    Completes (.maintTest rx true false) s fun t => OnlyPair rx.chan s t ∧ (t.chan rx.chan).acc.testItem = fb rx.body 47 40 ∧
      (t.chan rx.chan).acc.testRan = true ∧ (t.chan rx.chan).acc.testPass = false ∧
      (t.chan rx.chan).failedOnce = 1#5 <<< fb rx.body 47 40 ∧ (t.chan rx.chan).st = .run := by
  obtain ⟨honly, hkept⟩ := State.gateFrame_heard (fun c course now =>
    { c with maint := c.maint ++ [testOp rx true false course now] }) h (by omega) (by omega)
  refine ⟨_, by rw [exec_maintTest, guarded, if_pos (by simp [ofKind, hkind])], ?_⟩
  generalize s.gateFrame rx _ = u at honly hkept ⊢
  obtain ⟨hnotedN, hnotedSt, -, hnotedMaint, hnotedFirst⟩ := s.noted_keeps rx false
  have hops : (u.chan rx.chan).maint = [testOp rx true false (s.chan rx.chan).n ((s.chan rx.chan).fineOf rx.tick)] :=
    (congrArg Chan.maint hkept).trans (congrArg (· ++ _) (hnotedMaint.trans hmaint))
  have hn : (u.chan rx.chan).n = (s.chan rx.chan).n := (congrArg Chan.n hkept).trans hnotedN
  have hfresh : (u.chan rx.chan).failedOnce = 0 := (congrArg Chan.failedOnce hkept).trans (hnotedFirst.trans hfirst)
  have hran : (testOp rx true false (s.chan rx.chan).n ((s.chan rx.chan).fineOf rx.tick)).ran = true := by
    simp [testOp, Chan.fineOf, hearly]
  rw [u.reportTests_fails rx.chan rx.tick _ rx.chan.isLt hops rfl hn.ge hran rfl hfresh]
  have hdone := (State.settlePair_noOutput _ rx.chan ((u.chan rx.chan).fineOf rx.tick) rx.chan).trans <| congrArg Chan.noOutput <|
    u.chan_setChan_same rx.chan (Chan.testFailed { u.chan rx.chan with maint := [] } (fb rx.body 47 40)) rx.chan.isLt
  refine ⟨(honly.setChan rfl).settlePair rfl, congrArg (·.acc.testItem) hdone, congrArg (·.acc.testRan) hdone,
    congrArg (·.acc.testPass) hdone, (congrArg Chan.failedOnce hdone).trans ?_,
    (congrArg Chan.st hdone).trans ((congrArg Chan.st hkept).trans (hnotedSt.trans hrun))⟩
  change (u.chan rx.chan).failedOnce ||| _ = _
  rw [hfresh]
  exact BitVec.zero_or

/-- Settles O33: every MAINT frame is applied by the rules of a frame heard, and acts on its channel's list or on what its STATUS
frame will say. -/
theorem gateMaintenance : Obligations.gate_maintenance :=
  ⟨maintNop_notes, maintOps_wait, maintRead_gives,
    fun s rx h hkind hmaint hearly _ _ hrun _ _ _ hfirst => maintTest_reports s rx h hkind hmaint hearly hrun hfirst⟩

end Sys2Proof.Machine
end

section
/-! The edges of a gate channel, the interlock, and the loss of frames (R222, R225 to R227, R236). -/

namespace Sys2Proof.Machine

open Sys2Proof

theorem partnerOf_ne (i : Nat) : partnerOf i ≠ i := by
  unfold partnerOf
  split <;> omega

/-- The level of a channel in RUN is the one its frames command, while nothing holds it off (R239). -/
theorem Chan.target_run {c : Chan} (p : Chan) (i : Nat) (ovhw : Bool) (h : c.st = .run) :
    c.target p i ovhw = (c.bias && !c.soft && !c.ot && c.cmd && !c.abandon) := by
  unfold Chan.target
  rw [h]
  cases c.bias <;> cases c.soft <;> rfl

section

variable (s : State) (i : Nat)

theorem State.targetOf_run (h : (s.chan i).st = .run) : s.targetOf i =
    ((s.chan i).bias && !(s.chan i).soft && !(s.chan i).ot && (s.chan i).cmd && !(s.chan i).abandon) :=
  Chan.target_run _ _ _ h

theorem State.targetOf_commandedOff (h : (s.chan i).st = .run) (hcmd : (s.chan i).cmd = false) : s.targetOf i = false := by
  rw [s.targetOf_run i h, hcmd, Bool.and_false, Bool.false_and]

theorem State.targetOf_commandedOn (h : (s.chan i).st = .run) (hcmd : (s.chan i).cmd = true) (hbias : (s.chan i).bias = true)
    (hsoft : (s.chan i).soft = false) (hot : (s.chan i).ot = false) (habandon : (s.chan i).abandon = false) :
    s.targetOf i = true := by
  rw [s.targetOf_run i h, hcmd, hbias, hsoft, hot, habandon]
  rfl

end

/-! ### Edges -/

/-- A channel at an edge: it is commanded the edge's level, and a turn-off ends an abandoned on interval (R222, R227). -/
def Chan.atEdge (c : Chan) (now : Nat) (e : Nat × Bool) : Chan :=
  { c with cmd := e.2, abandon := c.abandon && !e.2, edges := c.edges.filter fun x => decide (now < x.1) }

section

variable (s : State) (i : Fin 48) (tick : Fin 4000)

/-- On a channel without a carrier the edge due is the one of its COURSE frames (R222). -/
theorem exec_gateEdge (hcar : (s.chan i).car = none) (hnext : (s.chan i).carNext = none) : exec (.gateEdge i tick) s =
    match (s.chan i).edges.find? fun e => e.1 == (s.chan i).fineOf tick with
    | none => .next s
    | some e => .next ((s.setChan i ((s.chan i).atEdge ((s.chan i).fineOf tick) e)).settlePair i ((s.chan i).fineOf tick)) := by
  change execGateEdge i tick s = _
  unfold execGateEdge
  dsimp only
  rw [Chan.runCarrier_still _ _ _ hcar (by simp [hnext])]
  rfl

theorem gateEdge_leads (e : Nat × Bool) (hcar : (s.chan i).car = none) (hnext : (s.chan i).carNext = none)
    (hdue : (s.chan i).edges.find? (fun e => e.1 == (s.chan i).fineOf tick) = some e) :
    Completes (.gateEdge i tick) s fun t => OnlyPair i s t ∧ (t.chan i).cmd = e.2 ∧
      (e.2 = false → (s.chan i).st = .run → (t.chan i).gate = false) ∧
      (e.2 = true → (s.chan i).st = .run → (s.chan i).bias = true → (s.chan i).soft = false → (s.chan i).ot = false →
        (s.chan i).abandon = false → (s.chan (partnerOf i)).st = .run → (s.chan (partnerOf i)).cmd = false →
        (s.chan (partnerOf i)).gate = false → (s.chan (partnerOf i)).repOff = true → (t.chan i).gate = true) ∧
      (e.2 = true → (s.chan i).st = .run → i.val < 46 → (s.chan i).gate = false → (s.chan (partnerOf i)).st = .run →
        (s.chan (partnerOf i)).cmd = false → (s.chan (partnerOf i)).repOff = false → (t.chan i).gate = false) := by
  rw [Completes, exec_gateEdge s i tick hcar hnext, hdue]
  refine ⟨_, rfl, (OnlyPair.rfl.setChan rfl).settlePair rfl, ?_⟩
  have hself := s.chan_setChan_same i ((s.chan i).atEdge ((s.chan i).fineOf tick) e) i.isLt
  have hpartner := s.chan_setChan_other i (partnerOf i) ((s.chan i).atEdge ((s.chan i).fineOf tick) e) (partnerOf_ne i)
  generalize s.setChan i _ = u at hself hpartner ⊢
  have hpartnerOff (hst : (s.chan (partnerOf i)).st = .run) (hcmd : (s.chan (partnerOf i)).cmd = false) :
      u.targetOf (partnerOf i) = false :=
    u.targetOf_commandedOff _ (by rw [hpartner, hst]) (by rw [hpartner, hcmd])
  have hcommand : ((u.settlePair i ((s.chan i).fineOf tick)).chan i).cmd = e.2 :=
    (congrArg Chan.cmd (u.settlePair_noOutput i _ i)).trans (congrArg Chan.cmd hself)
  refine ⟨hcommand, fun hoff hrun => ?_, fun hon hrun hbias hsoft hot habandon hprun hpcmd hpgate hpreport => ?_,
    fun hon hrun hi hgate hprun hpcmd hpreport => ?_⟩
  · exact u.settlePair_off i _ i.isLt (u.targetOf_commandedOff _ (by rw [hself]; exact hrun) (by rw [hself]; exact hoff))
  · have htarget : u.targetOf i = true := by
      apply u.targetOf_commandedOn <;> rw [hself]
      · exact hrun
      · exact hon
      · exact hbias
      · exact hsoft
      · exact hot
      · simp [Chan.atEdge, habandon]
    exact (u.settlePair_on i _ i.isLt htarget (hpartnerOff hprun hpcmd) (by rw [hpartner, hpgate])
      (by rw [hpartner, hpreport])).1
  · exact u.settlePair_waits i _ i.isLt (decide_eq_true hi) (by rw [hself]; exact hgate) (hpartnerOff hprun hpcmd)
      (by rw [hpartner, hpreport])

theorem gateEdge_none (hcar : (s.chan i).car = none) (hnext : (s.chan i).carNext = none)
    (hnone : (s.chan i).edges.find? (fun e => e.1 == (s.chan i).fineOf tick) = none) :
    exec (.gateEdge i tick) s = .next s := by
  rw [exec_gateEdge s i tick hcar hnext, hnone]

/-! ### The partner's report, and the loss of frames -/

theorem partnerOffReport_letsOn (hi : i.val < 46) (hrun : (s.chan i).st = .run) (hbias : (s.chan i).bias = true)
    (hsoft : (s.chan i).soft = false) (hot : (s.chan i).ot = false) (hcmd : (s.chan i).cmd = true)
    (habandon : (s.chan i).abandon = false) (hprun : (s.chan (partnerOf i)).st = .run)
    (hpcmd : (s.chan (partnerOf i)).cmd = false) (hpgate : (s.chan (partnerOf i)).gate = false) (hgate : (s.chan i).gate = false) :
    Completes (.partnerOffReport i tick) s fun t => OnlyPair i s t ∧ (t.chan i).gate = true ∧ (t.chan i).waitSince = none := by
  have hpartnerLt : partnerOf i < 48 := by
    have := even_or_odd i
    omega
  refine Ends.guardedTrue (by simp [hpgate, watched, hi]) ⟨(OnlyPair.rfl.onChan (evenOf_partnerOf i)).settlePair rfl, ?_⟩
  have hself := s.chan_onChan_other (partnerOf i) i (fun c => { c with repOff := true }) (partnerOf_ne i).symm
  have hpartner := s.chan_onChan_same (partnerOf i) (fun c => { c with repOff := true }) hpartnerLt
  generalize s.onChan (partnerOf i) _ = u at hself hpartner ⊢
  have htarget : u.targetOf i = true := by
    apply u.targetOf_commandedOn <;> rw [hself] <;> assumption
  have hoff : u.targetOf (partnerOf i) = false :=
    u.targetOf_commandedOff _ (by rw [hpartner]; exact hprun) (by rw [hpartner]; exact hpcmd)
  obtain ⟨hon, hwaits⟩ := u.settlePair_on i ((s.chan i).fineOf tick) i.isLt htarget hoff (by rw [hpartner]; exact hpgate)
    (by rw [hpartner])
  exact ⟨hon, hwaits (by rw [hself, hgate])⟩

theorem frameAbsenceTimeout_fallsBack (hrun : (s.chan i).st = .run)
    (habsent : ∀ n, (s.chan i).lastValid = some n → n + 8000 ≤ (s.chan i).fineOf tick) :
    Completes (.frameAbsenceTimeout i tick) s fun t => OnlyPair i s t ∧ (t.chan i).st = .fallback ∧ (t.chan i).fed = false ∧
      (t.chan i).edges = [] ∧ (t.chan i).car = none := by
  have hout : (match (s.chan i).lastValid with
      | some n => decide (n + 8000 ≤ (s.chan i).fineOf tick)
      | none => true) = true := by
    split
    next n hn => exact decide_eq_true (habsent n hn)
    next => rfl
  refine Ends.guardedTrue ?_ ⟨(OnlyPair.rfl.setChan rfl).settlePair rfl, ?_⟩
  · rw [Bool.and_eq_true]
    exact ⟨hout, by simp [hrun]⟩
  · have hkept := (State.settlePair_noOutput _ i ((s.chan i).fineOf tick) i).trans <| congrArg Chan.noOutput <|
      s.chan_setChan_same i { s.chan i with
        st := if (s.chan i).st == .run then .fallback else (s.chan i).st
        fed := false, fedCar := false, edges := [], car := none, carNext := none, abandon := false } i.isLt
    exact ⟨(congrArg Chan.st hkept).trans (if_pos (by simp [hrun])), congrArg Chan.fed hkept, congrArg Chan.edges hkept,
      congrArg Chan.car hkept⟩

theorem frameAbsenceTimeout_waits (n : Nat) (hlast : (s.chan i).lastValid = some n)
    (hrecent : (s.chan i).fineOf tick < n + 8000) : exec (.frameAbsenceTimeout i tick) s = .next s := by
  refine guarded_false s ?_
  rw [hlast]
  simp [hrecent]

end

/-- Settles O34: an edge, a report and a lapse of frames each change the channel, and the drive of the pair to its targets turns
the one switch off before the other may turn on. -/
theorem gateEdges : Obligations.gate_edges :=
  ⟨gateEdge_leads, gateEdge_none, partnerOffReport_letsOn, frameAbsenceTimeout_fallsBack, frameAbsenceTimeout_waits⟩

end Sys2Proof.Machine
end

section
/-! A turn-on that waits too long while another leg of its set has failed (R227, R235). -/

namespace Sys2Proof.Machine

open Sys2Proof

/-- The state as channel `i` gives up the turn-on that has waited too long: its on interval is abandoned, and its pair has a leg
fault (R227). -/
def State.stalled (s : State) (i now : Nat) : State :=
  (s.setChan i { s.chan i with abandon := true, waitSince := none }).legFault i [i] [(i, 4)] now

theorem exec_ilkStall (s : State) (i : Fin 48) (tick : Fin 4000) (n : Nat) (hwait : (s.chan i).waitSince = some n)
    (hlong : max n (s.chan (partnerOf i)).softEnd + 256 ≤ (s.chan i).fineOf tick) (hsoft : (s.chan (partnerOf i)).soft = false) :
    exec (.ilkStall i tick) s = .next (s.stalled i ((s.chan i).fineOf tick)) := by
  change guarded s (match (s.chan i).waitSince with
    | some t => decide (max t (s.chan (partnerOf i)).softEnd + 256 ≤ (s.chan i).fineOf tick) && !(s.chan (partnerOf i)).soft
    | none => false) (s.stalled i ((s.chan i).fineOf tick)) = _
  rw [hwait, guarded, if_pos (by simp [hlong, hsoft])]

/-- In course 10 of a traction set, channel 0 in RUN has waited for its partner's report since fine time 0, and the leg of
channels 2 and 3 has had a fault in the same course. -/
def stalledSet : State :=
  { State.reset with
    chans := ((Vector.replicate 48 {}).setIfInBounds 0 { st := .run, n := 10, waitSince := some 0 }).setIfInBounds 2
      { lastFault := some 10 } }

theorem stalledSet_waits : (stalledSet.chan 0).waitSince = some 0 ∧
    max 0 (stalledSet.chan 1).softEnd + 256 ≤ (stalledSet.chan 0).fineOf 0 ∧ (stalledSet.chan 1).soft = false := by
  decide +kernel

/-- A second failing leg brings the two-leg action, which leaves no on interval abandoned (R235). -/
theorem stalledSet_twoLeg : ((stalledSet.stalled 0 ((stalledSet.chan 0).fineOf 0)).chan 0).st = .twoOff ∧
    ((stalledSet.stalled 0 ((stalledSet.chan 0).fineOf 0)).chan 0).abandon = false := by
  decide +kernel

/-- Refutes O35: the statement has every stalled turn-on leave its on interval abandoned, but where another leg of the set has
failed in the course, the stall brings the two-leg action (R235), whose states hold the switches without it. -/
theorem not_pairFaults : ¬ Obligations.pair_faults := by
  unfold Obligations.pair_faults
  rintro ⟨-, -, -, -, hstalls, -⟩
  obtain ⟨hwait, hlong, hsoft⟩ := stalledSet_waits
  obtain ⟨-, hruns⟩ := stalledSet_twoLeg
  obtain ⟨t, hexec, -, -, habandoned⟩ := hstalls stalledSet 0 0 0 hwait hlong hsoft
  rw [exec_ilkStall stalledSet 0 0 0 hwait hlong hsoft] at hexec
  obtain rfl : _ = t := Host.Outcome.next.inj hexec
  exact absurd (hruns.symm.trans habandoned) (by decide)

end Sys2Proof.Machine
end

section
/-! Bias and straps of the gate channels (R211, R212, R237, R247). -/

namespace Sys2Proof.Machine

open Sys2Proof

/-! ### The channels of a group -/

theorem groupChans_nodup : ∀ g : Fin 11, (groupChans g).Nodup := by decide

theorem mem_groupChans_lt : ∀ g : Fin 11, ∀ j ∈ groupChans g, j < 48 := by decide

/-- Channels changed one after another have each changed by itself. -/
theorem State.chan_foldl_onChan (f : Chan → Chan) (xs : List Nat) (s : State) (hnodup : xs.Nodup) (hlt : ∀ j ∈ xs, j < 48)
    (j : Nat) : (xs.foldl (fun s i => s.onChan i f) s).chan j = if j ∈ xs then f (s.chan j) else s.chan j := by
  induction xs generalizing s with
  | nil => simp
  | cons i xs ih =>
    obtain ⟨hi, hrest⟩ := List.nodup_cons.mp hnodup
    rw [List.foldl_cons, ih _ hrest fun k hk => hlt k (List.mem_cons_of_mem i hk)]
    by_cases hji : j = i
    · subst hji
      rw [if_neg hi, if_pos List.mem_cons_self, s.chan_onChan_same j f (hlt j List.mem_cons_self)]
    · rw [s.chan_onChan_other i j f hji]
      simp [hji]

theorem OnlyChans.foldl_onChan {s t : State} (h : OnlyChans s t) (f : Chan → Chan) (xs : List Nat) :
    OnlyChans s (xs.foldl (fun s i => s.onChan i f) t) :=
  foldl_keeps (OnlyChans s) _ (fun _ _ hu => hu.onChan) xs t h

theorem OnlyChans.leaf {s t : State} (h : OnlyChans s t) (l : LeafId) : t.leaf l = s.leaf l := by
  rw [h]
  cases l <;> rfl

/-- The channels of a group changed, and what the part keeps of the group (R210, R211). -/
def State.onGroup (s : State) (g : Nat) (f : Chan → Chan) (F : Group → Group) : State :=
  let t := (groupChans g).foldl (fun s i => s.onChan i f) s
  { t with groups := t.groups.setIfInBounds g (F (pick t.groups g)) }

section

variable (s : State) (g : Fin 11) (f : Chan → Chan) (F : Group → Group)

theorem State.onGroup_parts :
    s.onGroup g f F = { s with chans := (s.onGroup g f F).chans, groups := (s.onGroup g f F).groups } := by
  rw [State.onGroup, (OnlyChans.rfl.foldl_onChan f (groupChans g) : OnlyChans s _)]

theorem State.onGroup_leaf (l : LeafId) : (s.onGroup g f F).leaf l = s.leaf l := by
  rw [State.onGroup_parts]
  cases l <;> rfl

theorem State.onGroup_chan (j : Nat) : (s.onGroup g f F).chan j = if j ∈ groupChans g then f (s.chan j) else s.chan j :=
  s.chan_foldl_onChan f (groupChans g) (groupChans_nodup g) (mem_groupChans_lt g) j

theorem State.onGroup_group : pick (s.onGroup g f F).groups g = F (pick s.groups g) := by
  have hgroups : ((groupChans g).foldl (fun s i => s.onChan i f) s).groups = s.groups := by
    rw [(OnlyChans.rfl.foldl_onChan f (groupChans g) : OnlyChans s _)]
  rw [State.onGroup, pick_setIfInBounds_same _ _ _ g.isLt, hgroups]

end

/-! ### What the leaves show of a group -/

/-- A field put in the one register that may change. -/
theorem KeepsRegs.putOwn {L M : Leaf} {r : Reg} {i : Nat} (h : KeepsRegs L M [r.addr i]) {f : Fld} {v : Nat} (hf : f.reg = r) :
    KeepsRegs L (M.put f v i) [r.addr i] :=
  h.put (hf ▸ List.mem_singleton_self _)

section

variable (L : Leaf) (g : Nat)

/-- A rail shown with its FLT bit (R212, R247). -/
def Leaf.showLoss (rail : Nat) : Leaf := (L.put GCH_BG_FLT 1 g).put GCH_BG_RAIL rail g

theorem Leaf.showLoss_fields (rail : Nat) (h : rail < 256) :
    (L.showLoss g rail).get GCH_BG_FLT g = 1 ∧ (L.showLoss g rail).get GCH_BG_RAIL g = rail ∧
      KeepsRegs L (L.showLoss g rail) [GCH_BG.addr g] := by
  refine ⟨?_, ?_, (KeepsRegs.rfl.putOwn rfl).putOwn rfl⟩
  · rw [Leaf.showLoss, Leaf.get_put_field _ GCH_BG_RAIL GCH_BG_FLT _ _ rfl (by decide), Leaf.get_put _ _ _ _ (by decide)]
    rfl
  · rw [Leaf.showLoss, Leaf.get_put _ _ _ _ (by decide)]
    exact Nat.mod_eq_of_lt h

/-- A rail shown restored, with its source (R212, R247). -/
def Leaf.showRestored (src rail : Nat) : Leaf := ((L.put GCH_BG_FLT 0 g).put GCH_BG_SRC src g).put GCH_BG_RAIL rail g

theorem Leaf.showRestored_fields (src rail : Nat) (hsrc : src < 4) (hrail : rail < 256) :
    (L.showRestored g src rail).get GCH_BG_FLT g = 0 ∧ (L.showRestored g src rail).get GCH_BG_SRC g = src ∧
      (L.showRestored g src rail).get GCH_BG_RAIL g = rail ∧ KeepsRegs L (L.showRestored g src rail) [GCH_BG.addr g] := by
  have hflt : KeepsRegs L (L.put GCH_BG_FLT 0 g) [GCH_BG.addr g] := KeepsRegs.rfl.putOwn rfl
  have hshown : KeepsRegs L ((L.put GCH_BG_FLT 0 g).put GCH_BG_SRC src g) [GCH_BG.addr g] := hflt.putOwn rfl
  refine ⟨?_, ?_, ?_, hshown.putOwn rfl⟩
  · rw [Leaf.showRestored, Leaf.get_put_field _ GCH_BG_RAIL GCH_BG_FLT _ _ rfl (by decide),
      Leaf.get_put_field _ GCH_BG_SRC GCH_BG_FLT _ _ rfl (by decide), Leaf.get_put _ _ _ _ (by decide)]
    rfl
  · rw [Leaf.showRestored, Leaf.get_put_field _ GCH_BG_RAIL GCH_BG_SRC _ _ rfl (by decide), Leaf.get_put _ _ _ _ (by decide)]
    exact Nat.mod_eq_of_lt hsrc
  · rw [Leaf.showRestored, Leaf.get_put _ _ _ _ (by decide)]
    exact Nat.mod_eq_of_lt hrail

/-- The rail, the load and the source of a group shown, a source that changes counted (R247). -/
def Leaf.showSource (src rail load : Nat) : Leaf :=
  let M := (L.put GCH_BG_RAIL rail g).put GCH_BG_LOAD load g
  if M.get GCH_BG_SRC g = src then M else (M.put GCH_BG_SRC src g).bump GCH_BG_CHANGES g

theorem Leaf.showSource_fields (src rail load : Nat) (hsrc : src < 4) (hrail : rail < 256) (hload : load < 256) :
    (L.showSource g src rail load).get GCH_BG_SRC g = src ∧ (L.showSource g src rail load).get GCH_BG_RAIL g = rail ∧
      (L.showSource g src rail load).get GCH_BG_LOAD g = load ∧ KeepsRegs L (L.showSource g src rail load) [GCH_BG.addr g] := by
  have hkeeps : KeepsRegs L ((L.put GCH_BG_RAIL rail g).put GCH_BG_LOAD load g) [GCH_BG.addr g] :=
    (KeepsRegs.rfl.putOwn rfl).putOwn rfl
  have hshown : ((L.put GCH_BG_RAIL rail g).put GCH_BG_LOAD load g).get GCH_BG_RAIL g = rail ∧
      ((L.put GCH_BG_RAIL rail g).put GCH_BG_LOAD load g).get GCH_BG_LOAD g = load := by
    rw [Leaf.get_put_field _ GCH_BG_LOAD GCH_BG_RAIL _ _ rfl (by decide), Leaf.get_put _ _ _ _ (by decide),
      Leaf.get_put _ _ _ _ (by decide)]
    exact ⟨Nat.mod_eq_of_lt hrail, Nat.mod_eq_of_lt hload⟩
  obtain ⟨hr, hl⟩ := hshown
  unfold Leaf.showSource
  extract_lets M
  split
  next hsame => exact ⟨hsame, hr, hl, hkeeps⟩
  next =>
    have hother (f : Fld) (hf : f.reg = GCH_BG) (hc : f.hi < GCH_BG_CHANGES.lo ∨ GCH_BG_CHANGES.hi < f.lo) :
        ((M.put GCH_BG_SRC src g).bump GCH_BG_CHANGES g).get f g = (M.put GCH_BG_SRC src g).get f g :=
      Leaf.get_put_field _ GCH_BG_CHANGES f _ _ hf hc.symm
    refine ⟨?_, ?_, ?_, (hkeeps.putOwn rfl).putOwn rfl⟩
    · rw [hother _ rfl (by decide), Leaf.get_put _ _ _ _ (by decide)]
      exact Nat.mod_eq_of_lt hsrc
    · rw [hother _ rfl (by decide), Leaf.get_put_field _ GCH_BG_SRC GCH_BG_RAIL _ _ rfl (by decide), hr]
    · rw [hother _ rfl (by decide), Leaf.get_put_field _ GCH_BG_SRC GCH_BG_LOAD _ _ rfl (by decide), hl]

end

/-! ### The bias of a group -/

section

variable (s : State) (g : Fin 11)

/-- A rail stored is its voltage in steps of 0.2 V, up to the largest value of its field (R247). -/
theorem min_rail {mv : Nat} (h : mv < 51200) : min (mv / 200) 255 = mv / 200 := by omega

theorem exec_groupLoss (mv ns : Nat) (hlow : mv < 19000) (hlong : 2000 < ns) : exec (.groupLoss g mv ns) s =
    .next ((s.onGroup g Chan.loseBias fun G => { G with bias := false }).both fun L => L.showLoss g (mv / 200)) := by
  rw [← min_rail (show mv < 51200 by omega)]
  change guarded s (decide (mv < 19000) && decide (2000 < ns)) _ = _
  rw [guarded, if_pos (by simp [hlow, hlong])]
  rfl

theorem groupLoss_takesBias (mv ns : Nat) (hlow : mv < 19000) (hlong : 2000 < ns) :
    Completes (.groupLoss g mv ns) s fun t =>
      t = { s with chans := t.chans, groups := t.groups, leaf0 := t.leaf0, leaf1 := t.leaf1 } ∧
      (∀ j, j ∈ groupChans g → (t.chan j).bias = false ∧ (t.chan j).gate = false ∧
        (t.chan j).st = (if (s.chan j).st = .unused then .unused else .noBias)) ∧
      (∀ j, j ∉ groupChans g → t.chan j = s.chan j) ∧ (pick t.groups g).bias = false ∧
      ∀ l : LeafId, (t.leaf l).get GCH_BG_FLT g = 1 ∧ (t.leaf l).get GCH_BG_RAIL g = mv / 200 ∧
        KeepsRegs (s.leaf l) (t.leaf l) [GCH_BG.addr g] := by
  refine ⟨_, exec_groupLoss s g mv ns hlow hlong, ?_⟩
  have hparts := s.onGroup_parts g Chan.loseBias fun G => { G with bias := false }
  have hleaf := s.onGroup_leaf g Chan.loseBias fun G => { G with bias := false }
  have hchan := s.onGroup_chan g Chan.loseBias fun G => { G with bias := false }
  have hgroup := s.onGroup_group g Chan.loseBias fun G => { G with bias := false }
  generalize s.onGroup g _ _ = u at hparts hleaf hchan hgroup ⊢
  refine ⟨?_, fun j hj => ?_, fun j hj => (hchan j).trans (if_neg hj), congrArg Group.bias hgroup, fun l => ?_⟩
  · rw [hparts]
    rfl
  · have hlost := (hchan j).trans (if_pos hj)
    refine ⟨congrArg Chan.bias hlost, congrArg Chan.gate hlost, (congrArg Chan.st hlost).trans ?_⟩
    simp only [Chan.loseBias, beq_iff_eq]
  · rw [State.leaf_both, hleaf]
    exact Leaf.showLoss_fields _ g _ (by omega)

theorem groupLoss_stands (mv ns : Nat) (h : 19000 ≤ mv ∨ ns ≤ 2000) : exec (.groupLoss g mv ns) s = .next s :=
  guarded_false s (by simp; omega)

/-- A channel of a group whose rail is restored, its own winding whole (R211, R212). -/
def Chan.regainBias (c : Chan) : Chan := if c.winding then { c with bias := true } else c

theorem exec_biasRestored (mv us : Nat) (src : Fin 4) (hhigh : 20000 < mv) (hrange : mv < 51200) (hlong : 10000 ≤ us)
    (hlost : (pick s.groups g).bias = false) : exec (.biasRestored g mv us src) s =
    .next ((s.onGroup g Chan.regainBias fun G => { G with bias := true, src := src.val }).both fun L =>
      L.showRestored g src (mv / 200)) := by
  rw [← min_rail hrange]
  change guarded s (decide (20000 < mv) && decide (10000 ≤ us) && !(pick s.groups g).bias) _ = _
  rw [guarded, if_pos (by simp [hhigh, hlong, hlost])]
  rfl

theorem biasRestored_givesBias (mv us : Nat) (src : Fin 4) (hhigh : 20000 < mv) (hrange : mv < 51200) (hlong : 10000 ≤ us)
    (hlost : (pick s.groups g).bias = false) :
    Completes (.biasRestored g mv us src) s fun t =>
      (∀ j, j ∈ groupChans g → (s.chan j).winding = true → (t.chan j).bias = true) ∧
      (∀ j, j ∉ groupChans g → t.chan j = s.chan j) ∧ (pick t.groups g).bias = true ∧ (pick t.groups g).src = src ∧
      ∀ l : LeafId, (t.leaf l).get GCH_BG_FLT g = 0 ∧ (t.leaf l).get GCH_BG_SRC g = src ∧
        (t.leaf l).get GCH_BG_RAIL g = mv / 200 ∧ KeepsRegs (s.leaf l) (t.leaf l) [GCH_BG.addr g] := by
  refine ⟨_, exec_biasRestored s g mv us src hhigh hrange hlong hlost, ?_⟩
  have hleaf := s.onGroup_leaf g Chan.regainBias fun G => { G with bias := true, src := src.val }
  have hchan := s.onGroup_chan g Chan.regainBias fun G => { G with bias := true, src := src.val }
  have hgroup := s.onGroup_group g Chan.regainBias fun G => { G with bias := true, src := src.val }
  generalize s.onGroup g _ _ = u at hleaf hchan hgroup ⊢
  refine ⟨fun j hj hwhole => ?_, fun j hj => (hchan j).trans (if_neg hj), congrArg Group.bias hgroup,
    congrArg Group.src hgroup, fun l => ?_⟩
  · have hregained := (hchan j).trans (if_pos hj)
    rw [Chan.regainBias, if_pos hwhole] at hregained
    exact congrArg Chan.bias hregained
  · rw [State.leaf_both, hleaf]
    exact Leaf.showRestored_fields _ g _ _ src.isLt (by omega)

/-! ### Its source -/

theorem exec_biasSourceChange (linkMv lvMv : Nat) (rail load : Byte) : exec (.biasSourceChange g linkMv lvMv rail load) s =
    .next (({ s with groups := s.groups.setIfInBounds g { pick s.groups g with
      src := (railSource (pick s.groups g).backup linkMv lvMv).2
      backup := (railSource (pick s.groups g).backup linkMv lvMv).1 } } : State).both fun L =>
        L.showSource g (railSource (pick s.groups g).backup linkMv lvMv).2 rail.toNat load.toNat) := rfl

/-- The source of a rail (R211). -/
theorem railSource_source (backup : Bool) (linkMv lvMv : Nat) : (railSource backup linkMv lvMv).2 < 4 ∧
    (21000 ≤ lvMv → (railSource backup linkMv lvMv).2 = 1) ∧
    (lvMv < 21000 → 150000 < linkMv → (railSource backup linkMv lvMv).2 = 2) ∧
    (lvMv < 21000 → linkMv < 130000 → (railSource backup linkMv lvMv).2 = 0) := by
  unfold railSource
  dsimp only
  refine ⟨?_, fun hlv => if_pos hlv, fun hlv hlink => ?_, fun hlv hlink => ?_⟩
  · have hbackup (b : Bool) : (if b then 2 else 0) < 4 := by cases b <;> decide
    split
    · decide
    · exact hbackup _
  · have hfed : (if backup then decide (130000 ≤ linkMv) else decide (150000 < linkMv)) = true := by
      split <;> exact decide_eq_true (by omega)
    rw [if_neg (by omega), hfed, if_pos rfl]
  · have hrests : (if backup then decide (130000 ≤ linkMv) else decide (150000 < linkMv)) = false := by
      split <;> exact decide_eq_false (by omega)
    rw [if_neg (by omega), hrests, if_neg (by decide)]

theorem biasSourceChange_takes (linkMv lvMv : Nat) (rail load : Byte) :
    Completes (.biasSourceChange g linkMv lvMv rail load) s fun t => t.chans = s.chans ∧
      (21000 ≤ lvMv → (pick t.groups g).src = 1) ∧ (lvMv < 21000 → 150000 < linkMv → (pick t.groups g).src = 2) ∧
      (lvMv < 21000 → linkMv < 130000 → (pick t.groups g).src = 0) ∧
      ∀ l : LeafId, (t.leaf l).get GCH_BG_SRC g = (pick t.groups g).src ∧ (t.leaf l).get GCH_BG_RAIL g = rail.toNat ∧
        (t.leaf l).get GCH_BG_LOAD g = load.toNat ∧ KeepsRegs (s.leaf l) (t.leaf l) [GCH_BG.addr g] := by
  refine ⟨_, exec_biasSourceChange s g linkMv lvMv rail load, rfl, ?_⟩
  rw [State.both_groups, pick_setIfInBounds_same _ _ _ g.isLt]
  obtain ⟨hsrc, hlow, hbackup, hnone⟩ := railSource_source (pick s.groups g).backup linkMv lvMv
  refine ⟨hlow, hbackup, hnone, fun l => ?_⟩
  rw [State.leaf_both]
  have hleaf (G : Vector Group 11) : ({ s with groups := G } : State).leaf l = s.leaf l := by cases l <;> rfl
  rw [hleaf]
  exact Leaf.showSource_fields _ g _ _ _ hsrc rail.isLt load.isLt

end

/-! ### One channel -/

section

variable (s : State) (i : Fin 48)

theorem windingLoss_takesBias (tick : Fin 4000) :
    Completes (.windingLoss i tick) s fun t => OnlyPair i s t ∧ (t.chan i).bias = false ∧ (t.chan i).winding = false ∧
      (t.chan i).gate = false ∧ (t.chan i).st = (if (s.chan i).st = .unused then .unused else .noBias) := by
  refine ⟨_, rfl, (OnlyPair.rfl.onChan rfl).settlePair rfl, ?_⟩
  have hself := s.chan_onChan_same i (fun c => { c.loseBias with winding := false }) i.isLt
  generalize s.onChan i _ = u at hself ⊢
  have hkept := (u.settlePair_noOutput i ((s.chan i).fineOf tick) i).trans (congrArg Chan.noOutput hself)
  have hoff : u.targetOf i = false := by
    rw [State.targetOf, hself]
    rfl
  refine ⟨congrArg Chan.bias hkept, congrArg Chan.winding hkept, u.settlePair_off i _ i.isLt hoff,
    (congrArg Chan.st hkept).trans ?_⟩
  simp only [Chan.noOutput, Chan.loseBias, beq_iff_eq]

theorem strapRead_takes (ohm courses : Nat) (hbias : (s.chan i).bias = true) (hlong : 16 ≤ courses) :
    Completes (.strapRead i ohm courses) s fun t => OnlyPair i s t ∧ (t.chan i).strap = strapBand ohm ∧
      (t.chan i).st = (if (s.chan i).st = .noBias then .fallback else (s.chan i).st) := by
  refine Ends.guardedTrue (by simp [hbias, hlong]) ⟨(OnlyPair.rfl.setChan rfl).settlePair rfl, ?_⟩
  have hkept := (State.settlePair_noOutput _ i ((s.chan i).fineOf 0) i).trans <| congrArg Chan.noOutput <|
    s.chan_setChan_same i { s.chan i with
      strap := strapBand ohm, st := if (s.chan i).st == .noBias then .fallback else (s.chan i).st } i.isLt
  refine ⟨congrArg Chan.strap hkept, (congrArg Chan.st hkept).trans ?_⟩
  simp only [Chan.noOutput, beq_iff_eq]

theorem strapRead_waits (ohm courses : Nat) (h : (s.chan i).bias = false ∨ courses < 16) :
    exec (.strapRead i ohm courses) s = .next s := by
  refine guarded_false s ?_
  rcases h with hbias | hshort
  · rw [hbias, Bool.false_and]
  · rw [decide_eq_false (Nat.not_le.mpr hshort), Bool.and_false]

end

/-- Settles O36: the channels of a group change one by one, each by itself, and the leaves show the group in one register. -/
theorem gateBias : Obligations.gate_bias :=
  ⟨groupLoss_takesBias, groupLoss_stands, biasRestored_givesBias, windingLoss_takesBias, biasSourceChange_takes, strapRead_takes,
    strapRead_waits⟩

end Sys2Proof.Machine
end

section
/-! Course marks, the boundary of a course, and the STATUS frame (R214, R218, R219, R250 to R253). -/

namespace Sys2Proof.Machine

open Sys2Proof

/-! ### Marks -/

/-- The mark that goes on from a link's count takes the count with it (R214). -/
theorem LinkTb.mark_next {t : LinkTb} {low : Byte} (hlost : t.lost = false) (hlow : low.toNat = (t.tag + 1).toNat % 256) :
    t.mark true low = { t with tag := t.tag + 1, bad := 0, good := t.good + 1 } := by
  unfold LinkTb.mark
  dsimp only
  rw [if_pos (by simp [hlow]), hlost]
  cases t
  subst hlost
  rfl

/-- A link misses its second mark in a row (R214). -/
theorem LinkTb.mark_lost {t : LinkTb} (low : Byte) (hbad : 1 ≤ t.bad) : (t.mark false low).lost = true := by
  unfold LinkTb.mark
  dsimp only
  rw [if_neg (by simp)]
  simp [hbad]

/-- A channel with the mark of a link taken, or missed: a link lost shows in its condition bit (R214, R219). -/
def Chan.takeMark (c : Chan) (l : LeafId) (received : Bool) (low : Byte) : Chan :=
  let c' := { c with tb := alter c.tb l.num fun t => t.mark received low }
  if (pick c'.tb l.num).lost then c'.mark (13 + l.num) else c'

theorem Chan.takeMark_tb (c : Chan) (l : LeafId) (received : Bool) (low : Byte) :
    pick (c.takeMark l received low).tb l.num = (pick c.tb l.num).mark received low := by
  have htb : (c.takeMark l received low).tb = alter c.tb l.num fun t => t.mark received low := by
    unfold Chan.takeMark
    dsimp only
    split <;> rfl
  rw [htb, pick_alter_same _ _ _ (leafNum_lt l)]

/-- A channel that takes the mark its link is to bring goes on as it is. -/
theorem Chan.takeMark_next (c : Chan) (l : LeafId) (low : Byte) (hlost : (pick c.tb l.num).lost = false)
    (hlow : low.toNat = ((pick c.tb l.num).tag + 1).toNat % 256) :
    c.takeMark l true low = { c with tb := alter c.tb l.num fun t => t.mark true low } := by
  refine if_neg ?_
  rw [pick_alter_same _ _ _ (leafNum_lt l), LinkTb.mark_next hlost hlow, hlost]
  decide

/-- A channel whose link misses its second mark in a row shows the loss (R214, R219). -/
theorem Chan.takeMark_lost (c : Chan) (l : LeafId) (low : Byte) (hbad : 1 ≤ (pick c.tb l.num).bad) :
    c.takeMark l false low =
      ({ c with tb := alter c.tb l.num fun t => t.mark false low } : Chan).mark (13 + l.num) := by
  refine if_pos ?_
  rw [pick_alter_same _ _ _ (leafNum_lt l), LinkTb.mark_lost low hbad]

/-- A mark of a gate channel: the first link whose count goes on takes the channel into its next course (R214). -/
theorem exec_courseMark (s : State) (i : Fin 48) (ch : Fin 51) (l : LeafId) (received : Bool) (low : Byte)
    (hch : ch.val = i.val) : exec (.courseMark ch l received low) s =
    let u := s.setChan i ((s.chan i).takeMark l received low)
    let t := pick (u.chan i).tb l.num
    .next (if !t.lost && t.tag == (u.chan i).cur + 1 then u.chanBoundary i else u) := by
  change execCourseMark ch l received low s = _
  unfold execCourseMark
  dsimp only
  rw [hch, if_neg (by omega)]
  rfl

/-! ### The boundary -/

/-- A channel with no MAINT operation to come begins its next course (R218, R222, R226). -/
theorem State.chanBoundary_begins (s : State) (i : Nat) (hi : i < 48) (hmaint : (s.chan i).maint = []) :
    OnlyPair i s (s.chanBoundary i) ∧ ((s.chanBoundary i).chan i).n = (s.chan i).n + 1 ∧
      ((s.chanBoundary i).chan i).cur = (s.chan i).cur + 1 ∧ ((s.chanBoundary i).chan i).due = true ∧
      ((s.chanBoundary i).chan i).acc.fault = 0 ∧ ((s.chanBoundary i).chan i).tb = (s.chan i).tb := by
  unfold State.chanBoundary
  extract_lets c p ev desc n last c₁ c₂ upd0 fed c₃ now c₄ u
  have hcarried : c₂.noCarrier = c₁.noCarrier := Chan.runCarrier_noCarrier ..
  have hnone : now = [] := by
    have hkept : c₃.maint = [] := (congrArg Chan.maint hcarried).trans hmaint
    rw [show now = c₃.maint.filter _ from rfl, hkept]
    rfl
  rw [hnone, List.foldl_nil]
  have hkept := (u.settlePair_noOutput i (n * 4000) i).trans (congrArg Chan.noOutput (s.chan_setChan_same i c₄ hi))
  exact ⟨(OnlyPair.rfl.setChan rfl).settlePair rfl, (congrArg Chan.n hkept).trans (congrArg Chan.n hcarried :),
    (congrArg Chan.cur hkept).trans (congrArg Chan.cur hcarried :), (congrArg Chan.due hkept).trans (congrArg Chan.due hcarried :),
    (congrArg (·.acc.fault) hkept).trans (congrArg (·.acc.fault) hcarried :),
    (congrArg Chan.tb hkept).trans (congrArg Chan.tb hcarried :)⟩

theorem courseMark_begins (s : State) (i : Fin 48) (ch : Fin 51) (l : LeafId) (low : Byte) (hch : ch.val = i.val)
    (hlost : (pick (s.chan i).tb l.num).lost = false) (htag : (pick (s.chan i).tb l.num).tag = (s.chan i).cur)
    (hlow : low.toNat = ((s.chan i).cur + 1).toNat % 256) (hmaint : (s.chan i).maint = []) :
    Completes (.courseMark ch l true low) s fun t => OnlyPair i s t ∧ (t.chan i).n = (s.chan i).n + 1 ∧
      (t.chan i).cur = (s.chan i).cur + 1 ∧ (t.chan i).due = true ∧ (t.chan i).acc.fault = 0 ∧
      (pick (t.chan i).tb l.num).tag = (s.chan i).cur + 1 ∧ (pick (t.chan i).tb l.num).bad = 0 := by
  rw [← htag] at hlow
  have htb := (s.chan i).takeMark_tb l true low
  rw [LinkTb.mark_next hlost hlow, htag] at htb
  rw [Completes, exec_courseMark s i ch l true low hch, (s.chan i).takeMark_next l low hlost hlow] 
  rw [(s.chan i).takeMark_next l low hlost hlow] at htb
  generalize alter (s.chan i).tb l.num _ = tb at htb
  have hself := s.chan_setChan_same i { s.chan i with tb := tb } i.isLt
  have honly : OnlyPair i s (s.setChan i { s.chan i with tb := tb }) := OnlyPair.rfl.setChan rfl
  generalize s.setChan i _ = u at hself honly ⊢
  refine ⟨u.chanBoundary i, congrArg Host.Outcome.next (if_pos ?_), ?_⟩
  · rw [hself, htb]
    simp [hlost]
  obtain ⟨hpair, hn, hcur, hdue, hfault, hlinks⟩ := u.chanBoundary_begins i i.isLt (by rw [hself]; exact hmaint)
  rw [hself] at hn hcur hlinks
  rw [hlinks, htb]
  exact ⟨honly.trans hpair, hn, hcur, hdue, hfault, rfl, rfl⟩

theorem courseMark_loses (s : State) (i : Fin 48) (ch : Fin 51) (l : LeafId) (low : Byte) (hch : ch.val = i.val)
    (hbad : 1 ≤ (pick (s.chan i).tb l.num).bad) :
    Completes (.courseMark ch l false low) s fun t => OnlyChans s t ∧ (pick (t.chan i).tb l.num).lost = true ∧
      (t.chan i).acc.fault.getLsbD (13 + l.num) = true ∧ (t.chan i).n = (s.chan i).n ∧
      ∀ j, j ≠ i.val → t.chan j = s.chan j := by
  have htb := (s.chan i).takeMark_tb l false low
  have hself := s.chan_setChan_same i ((s.chan i).takeMark l false low) i.isLt
  have hlost : (pick ((s.chan i).takeMark l false low).tb l.num).lost = true := by rw [htb, LinkTb.mark_lost low hbad]
  refine ⟨s.setChan i ((s.chan i).takeMark l false low), ?_, .setChan .rfl, ?_⟩
  · rw [exec_courseMark s i ch l false low hch]
    exact congrArg Host.Outcome.next (if_neg (by rw [hself, hlost]; simp))
  rw [hself]
  refine ⟨hlost, ?_, ?_, fun j hj => s.chan_setChan_other i j _ hj⟩
  · have hbit : 13 + l.num < 16 := by
      have := leafNum_lt l
      omega
    rw [(s.chan i).takeMark_lost l low hbad, Chan.mark_fault _ _ _ hbit]
    simp
  · rw [(s.chan i).takeMark_lost l low hbad]
    rfl

/-! ### Actuator stages -/

theorem Stage.boundary_begins (c : Stage) : c.boundary.n = c.n + 1 ∧ c.boundary.cur = c.cur + 1 ∧ c.boundary.due = true := by
  unfold Stage.boundary
  split
  extract_lets zc fr supp ended onEdge n next body acts write c₁
  have hkept := foldl_same (fun c : Stage => (c.n, c.cur, c.due)) write
    (fun c m => by unfold write; split <;> rfl) acts c₁
  exact ⟨congrArg (·.1) hkept, congrArg (·.2.1) hkept, congrArg (·.2.2) hkept⟩

theorem courseMark_beginsStage (s : State) (a : Fin 3) (ch : Fin 51) (l : LeafId) (low : Byte) (hch : ch.val = 48 + a.val)
    (hlost : (pick (s.stage a).tb l.num).lost = false) (htag : (pick (s.stage a).tb l.num).tag = (s.stage a).cur)
    (hlow : low.toNat = ((s.stage a).cur + 1).toNat % 256) :
    Completes (.courseMark ch l true low) s fun t => t = { s with stages := t.stages } ∧
      (t.stage a).n = (s.stage a).n + 1 ∧ (t.stage a).cur = (s.stage a).cur + 1 ∧ (t.stage a).due = true ∧
      ∀ b, b ≠ a.val → t.stage b = s.stage b := by
  rw [← htag] at hlow
  have hexec : exec (.courseMark ch l true low) s = .next (s.stageMark a l true low) := by
    change execCourseMark ch l true low s = _
    unfold execCourseMark
    dsimp only
    rw [hch, if_pos (by omega), Nat.add_sub_cancel_left]
  refine ⟨_, hexec, rfl, ?_⟩
  have hstage : (s.stageMark a l true low).stage a =
      ({ s.stage a with tb := alter (s.stage a).tb l.num fun t => t.mark true low } : Stage).boundary := by
    refine (pick_alter_same _ _ _ a.isLt).trans (if_pos ?_)
    change (!(pick (alter (s.stage a).tb l.num _) l.num).lost &&
      (pick (alter (s.stage a).tb l.num _) l.num).tag == (s.stage a).cur + 1) = true
    rw [pick_alter_same _ _ _ (leafNum_lt l), LinkTb.mark_next hlost hlow, hlost, htag]
    simp
  rw [hstage]
  obtain ⟨hn, hcur, hdue⟩ :=
    Stage.boundary_begins { s.stage a with tb := alter (s.stage a).tb l.num fun t => t.mark true low }
  exact ⟨hn, hcur, hdue, fun b hb => pick_setIfInBounds_other _ _ _ _ hb⟩

/-! ### STATUS in the leaves -/

section

variable (L : Leaf) (i : Nat) (b : BitVec 160) (waitLeft : Nat)

/-- The registers of a channel's state as its STATUS frame gives them (R250). -/
def Leaf.showStatus : Leaf :=
  L.put GCH_STAT_STATE (stb b 141 138) i |>.put GCH_STAT_SUPP (stb b 137 136) i |>.put GCH_STAT_STRAP (stb b 90 89) i
    |>.put GCH_STAT_GATE (stb b 92 92) i |>.put GCH_STAT_CLAMP (stb b 91 91) i |>.put GCH_STAT_ASC (stb b 88 88) i
    |>.put GCH_STAT_NODUP (stb b 135 135) i |>.put GCH_STAT_TEMP (stb b 87 80) i |>.put GCH_STAT_VDD2 (stb b 79 72) i
    |>.put GCH_STAT_VEE2 (stb b 71 64) i |>.put GCH_STAT_TRIES_USED (stb b 95 93) i
    |>.put GCH_STAT_WAIT_LEFT (min waitLeft 4095) i

theorem Leaf.showStatus_fields : (L.showStatus i b waitLeft).get GCH_STAT_STATE i = stb b 141 138 ∧
    (L.showStatus i b waitLeft).get GCH_STAT_TEMP i = stb b 87 80 := by
  unfold Leaf.showStatus
  simp (disch := decide) only [Leaf.get_put_field, Leaf.get_put]
  exact ⟨Nat.mod_mod _ _, Nat.mod_mod _ _⟩

/-- What a leaf counts and remembers of a channel by its STATUS frame (R251 to R253): `was` is the state shown before, `own` the
bad frames on its own link, `old` the condition bits of the frame before. -/
def Leaf.countStatus (was own old : Nat) : Leaf :=
  let M := L.setWord GCH_FLT i (L.word GCH_FLT i ||| (BitVec.ofNat 64 (stb b 111 96) &&& ~~~ BitVec.ofNat 64 old))
  let M := M.bumpBy GCH_CNT_LATE (stb b 121 118) i |>.bumpBy GCH_CNT_BAD own i
  let M := if was = 3 && stb b 141 138 == 2 then M.bump GCH_CNT_FALLBACKS i else M
  let M := M.put GCH_DIV_DIV_LAST (stb b 133 122) i |>.keepMax GCH_DIV_DIV_MAX (stb b 133 122) i
  let M := if stb b 134 134 = 1 then M.bump GCH_DIV_STRUCT i else M
  let M := if stb b 135 135 = 1 then M.bump GCH_DIV_NODUP_N i else M
  let M := M.mapBit GCH_LATCH_LATCHED i (decide (5 ≤ stb b 141 138))
    |>.mapBit GCH_FB_FALLBACK i (stb b 141 138 == 1 || stb b 141 138 == 2)
    |>.mapBit GCH_DIVSUM_DIV i (stb b 133 122 != 0 || stb b 134 134 == 1)
  match stb b 137 136 with
  | 1 => M.mapBit GCH_SUP_LEAF1 i false
  | 2 => M.mapBit GCH_SUP_LEAF1 i true
  | _ => M

/-- The registers that a STATUS frame of channel `i` changes besides the channel's state. -/
def countedRegs (i : Nat) : List Nat :=
  [GCH_FLT.addr i, GCH_CNT.addr i, GCH_DIV.addr i, GCH_LATCH.addr 0, GCH_FB.addr 0, GCH_DIVSUM.addr 0, GCH_SUP.addr 0]

/-- Of a leaf, nothing but registers of a list has changed. -/
def OnlyRegs (L M : Leaf) (but : List Nat) : Prop := RegsOnly L M ∧ KeepsRegs L M but

theorem OnlyRegs.setWord {L M : Leaf} {but : List Nat} (h : OnlyRegs L M but) {r : Reg} {i : Nat} {w : Word}
    (hmem : r.addr i ∈ but) : OnlyRegs L (M.setWord r i w) but := ⟨h.1.setWord, h.2.setWord hmem⟩

theorem OnlyRegs.ite {L M N : Leaf} {but : List Nat} {q : Prop} [Decidable q] (hM : OnlyRegs L M but) (hN : OnlyRegs L N but) :
    OnlyRegs L (if q then M else N) but := by
  split
  · exact hM
  · exact hN

theorem Leaf.countStatus_onlyRegs (was own old : Nat) : OnlyRegs L (L.countStatus i b was own old) (countedRegs i) := by
  have hput {M : Leaf} {f : Fld} {v j : Nat} (hmem : f.reg.addr j ∈ countedRegs i) (h : OnlyRegs L M (countedRegs i)) :
      OnlyRegs L (M.put f v j) (countedRegs i) := h.setWord hmem
  have hcnt : GCH_CNT.addr i ∈ countedRegs i := by simp [countedRegs]
  have hdiv : GCH_DIV.addr i ∈ countedRegs i := by simp [countedRegs]
  have hsup : GCH_SUP.addr 0 ∈ countedRegs i := by simp [countedRegs]
  unfold Leaf.countStatus
  extract_lets M₁ M₂ M₃ M₄ M₅ M₆ M₇
  have flagged : OnlyRegs L M₁ (countedRegs i) := OnlyRegs.setWord ⟨.rfl, .rfl⟩ (by simp [countedRegs])
  have counted : OnlyRegs L M₂ (countedRegs i) := hput hcnt (hput hcnt flagged)
  have compared : OnlyRegs L M₄ (countedRegs i) := hput hdiv (hput hdiv (.ite (hput hcnt counted) counted))
  have diverged : OnlyRegs L M₅ (countedRegs i) := .ite (hput hdiv compared) compared
  have undoubled : OnlyRegs L M₆ (countedRegs i) := .ite (hput hdiv diverged) diverged
  have mapped : OnlyRegs L M₇ (countedRegs i) := by
    refine hput ?_ (hput ?_ (hput ?_ undoubled)) <;> simp [countedRegs, Fld.bit, GCH_LATCH_LATCHED, GCH_FB_FALLBACK, GCH_DIVSUM_DIV]
  split
  · exact hput hsup mapped
  · exact hput hsup mapped
  · exact mapped

theorem Leaf.showStatus_regsOnly : RegsOnly L (L.showStatus i b waitLeft) :=
  RegsOnly.rfl.put.put.put.put.put.put.put.put.put.put.put.put

theorem addr_stat_not_counted : ∀ i : Fin 48, GCH_STAT.addr i ∉ countedRegs i := by decide

/-- A leaf holds a body as the last STATUS frame of channel `i`, and shows the channel's state by it (R219, R250). -/
def Leaf.ShowsStatus (L : Leaf) (i : Fin 48) (b : BitVec 160) : Prop :=
  L.gst[i] = { body := b, fresh := true } ∧ L.get GCH_STAT_STATE i = stb b 141 138 ∧ L.get GCH_STAT_TEMP i = stb b 87 80

theorem Leaf.takeStatus_shows (i : Fin 48) : (L.takeStatus i b waitLeft).ShowsStatus i b := by
  have hparts : ∃ was own old, L.takeStatus i b waitLeft = (Leaf.showStatus
      { L with gst := L.gst.setIfInBounds i { body := b, fresh := true } } i b waitLeft).countStatus i b was own old :=
    ⟨_, _, _, rfl⟩
  obtain ⟨was, own, old, hparts⟩ := hparts
  rw [hparts]
  generalize hstored : ({ L with gst := L.gst.setIfInBounds i { body := b, fresh := true } } : Leaf) = M
  obtain ⟨hregs, hkeeps⟩ := (M.showStatus i b waitLeft).countStatus_onlyRegs i b was own old
  obtain ⟨hstate, htemp⟩ := M.showStatus_fields i b waitLeft
  have hout := addr_stat_not_counted i
  refine ⟨?_, (hkeeps.get hout).trans hstate, (hkeeps.get hout).trans htemp⟩
  rw [hregs, M.showStatus_regsOnly i b waitLeft, ← hstored]
  simp

end

/-! ### The STATUS frame -/

section

variable (s : State) (i : Fin 48) (ok0 ok1 : Bool) (temp vdd2 vee2 : Byte)

/-- A channel that has sent its STATUS frame with the values measured then (R219). -/
def Chan.sent (c : Chan) : Chan :=
  { c with
    due := false, temp := temp.toNat
    ended := c.ended ||| BitVec.ofNat 160 ((temp.toNat <<< 80) + (vdd2.toNat <<< 72) + (vee2.toNat <<< 64)) }

/-- What remains of a channel's WAIT (R219). -/
def State.waitLeft : Nat :=
  if (s.chan i).st == .wait then (s.chan (evenOf i)).waitTill - (s.chan (evenOf i)).n else 0

/-- The STATUS frame of a course that has ended reaches each leaf whose link carried it whole (R219). -/
theorem exec_statusFrame (hdue : (s.chan i).due = true) : exec (.statusFrame i ok0 ok1 temp vdd2 vee2) s =
    .next { s.setChan i ((s.chan i).sent temp vdd2 vee2) with
      leaf0 := if ok0 then s.leaf0.takeStatus i ((s.chan i).sent temp vdd2 vee2).ended (s.waitLeft i) else s.leaf0
      leaf1 := if ok1 then s.leaf1.takeStatus i ((s.chan i).sent temp vdd2 vee2).ended (s.waitLeft i) else s.leaf1 } := by
  change execStatusFrame i ok0 ok1 temp vdd2 vee2 s = _
  unfold execStatusFrame
  dsimp only
  rw [if_pos hdue]
  cases ok0 <;> cases ok1 <;> rfl

theorem statusFrame_reaches (hdue : (s.chan i).due = true) :
    Completes (.statusFrame i ok0 ok1 temp vdd2 vee2) s fun t => (t.chan i).due = false ∧ (t.chan i).temp = temp.toNat ∧
      (t.chan i).ended = (s.chan i).ended ||| BitVec.ofNat 160 ((temp.toNat <<< 80) + (vdd2.toNat <<< 72) + (vee2.toNat <<< 64)) ∧
      (∀ j, j ≠ i.val → t.chan j = s.chan j) ∧
      (ok0 = false → t.leaf0 = s.leaf0) ∧ (ok1 = false → t.leaf1 = s.leaf1) ∧
      (ok0 = true → (t.leaf0.gst[i]) = { body := (t.chan i).ended, fresh := true } ∧
        t.leaf0.get GCH_STAT_STATE i = stb (t.chan i).ended 141 138 ∧ t.leaf0.get GCH_STAT_TEMP i = stb (t.chan i).ended 87 80) ∧
      (ok1 = true → (t.leaf1.gst[i]) = { body := (t.chan i).ended, fresh := true } ∧
        t.leaf1.get GCH_STAT_STATE i = stb (t.chan i).ended 141 138 ∧ t.leaf1.get GCH_STAT_TEMP i = stb (t.chan i).ended 87 80) := by
  have hself := s.chan_setChan_same i ((s.chan i).sent temp vdd2 vee2) i.isLt
  have hended := congrArg Chan.ended hself
  have hhears {ok : Bool} (L : Leaf) (h : ok = true) :
      (if ok then L.takeStatus i ((s.chan i).sent temp vdd2 vee2).ended (s.waitLeft i) else L).ShowsStatus i
        ((s.setChan i ((s.chan i).sent temp vdd2 vee2)).chan i).ended := by
    rw [hended, if_pos h]
    exact Leaf.takeStatus_shows ..
  exact ⟨_, exec_statusFrame s i ok0 ok1 temp vdd2 vee2 hdue, congrArg Chan.due hself, congrArg Chan.temp hself, hended,
    fun j hj => s.chan_setChan_other i j _ hj, fun hdeaf => if_neg (by simp [hdeaf]), fun hdeaf => if_neg (by simp [hdeaf]),
    hhears s.leaf0, hhears s.leaf1⟩

end

end Sys2Proof.Machine
end

section
/-! The comparator tests and the clear of a channel, as the leaves send them (R218, R234, R241, R245). -/

namespace Sys2Proof.Machine

open Sys2Proof

/-! ### Frames sent -/

/-- A MAINT frame of a leaf whose output paths carry units (R215). -/
theorem Leaf.maint_sends (L : Leaf) (chan : Nat) (course : Course) (op item data : Nat) (h : L.sending = true) :
    L.maint chan course op item data = { L with out := L.out ++ [.gate chan (maintBody (tagOf course) op item data)] } :=
  if_pos h

/-- A clear goes to both channels of a pair (R234). -/
theorem Leaf.sendClear_sends (L : Leaf) (n : Nat) (h : L.sending = true) : L.sendClear n = { L with
    out := L.out ++ [.gate (evenOf n) (maintBody (tagOf (after L.count 1)) 4 0 0),
      .gate (evenOf n + 1) (maintBody (tagOf (after L.count 1)) 4 0 0)] } := by
  rw [Leaf.sendClear, L.maint_sends _ _ _ _ _ h, Leaf.maint_sends _ _ _ _ _ _ (by exact h)]
  dsimp only
  rw [List.append_assoc]
  rfl

section

variable (s : State) (l : LeafId) (chan : Nat)

/-- The TEST frames of the first `n` comparators of a channel, at the start ticks its schedule leaves to leaf `l` (R241). -/
def State.testFrames (n : Nat) : List Out :=
  (List.range n).map fun k =>
    .gate chan (maintBody (tagOf (after (s.leaf l).count 1)) 3 k (Config.freeNat (s.fresh + k) % 4000))

/-- The module once leaf `l` has sent the first `n` TEST frames of a channel. -/
def State.testsSent (n : Nat) : State :=
  ({ s with fresh := s.fresh + n } : State).setLeaf l { s.leaf l with out := (s.leaf l).out ++ s.testFrames l chan n }

/-- One TEST frame more (R241). -/
theorem State.testsSent_succ (n : Nat) (h : (s.leaf l).sending = true) :
    ((s.testsSent l chan n).take.2.on l fun L => L.maint chan (after L.count 1) 3 n ((s.testsSent l chan n).take.1 % 4000)) =
      s.testsSent l chan (n + 1) := by
  have hframes : s.testFrames l chan (n + 1) = s.testFrames l chan n ++
      [.gate chan (maintBody (tagOf (after (s.leaf l).count 1)) 3 n (Config.freeNat (s.fresh + n) % 4000))] := by
    rw [State.testFrames, List.range_succ, List.map_append]
    rfl
  have hsending : ((s.testsSent l chan n).take.2.leaf l).sending = true := by
    cases l <;> exact h
  rw [State.on, Leaf.maint_sends _ _ _ _ _ _ hsending, State.testsSent, State.testsSent, hframes, ← List.append_assoc]
  cases l <;> rfl

theorem State.sendTests_sends (h : (s.leaf l).sending = true) : s.sendTests l chan = s.testsSent l chan 5 := by
  have hsent (n : Nat) : (List.range n).foldl (fun s item =>
      s.take.2.on l fun L => L.maint chan (after L.count 1) 3 item (s.take.1 % 4000)) s = s.testsSent l chan n := by
    induction n with
    | zero =>
      rw [State.testsSent, State.testFrames, List.range_zero, List.map_nil, List.append_nil]
      cases l <;> rfl
    | succ n ih =>
      rw [List.range_succ, List.foldl_append, ih]
      exact s.testsSent_succ l chan n h
  exact hsent 5

end

/-! ### Discarded writes -/

/-- A write discarded leaves an event, and sends no frame (R13, R649). -/
theorem Leaf.discard_rests (L : Leaf) (off who value : Nat) :
    (L.discard off who value).out = L.out ∧ KeepsRegs L (L.discard off who value) reportRegs := by
  refine ⟨?_, L.produce_keepsRegs _⟩
  unfold Leaf.discard Leaf.discardEvent
  rw [Leaf.event_parts]

/-! ### The commands -/

section

variable (s : State) (l : LeafId)

theorem gateTestStep_tests (i : Nat) (hlead : (s.leaf l).role = .lead) (hcut : (s.leaf l).cut = false)
    (henabled : (s.leaf l).get GCH_CTRL_TEST_EN ≠ 0)
    (hgap : (s.leaf l).get GCH_CTRL_TEST_GAP * 1600 ≤ since (s.leaf l).count (s.leaf l).rot.at_)
    (hpassed : ∀ j, j < 48 → j = (s.leaf l).rot.last → (s.chan j).failedOnce = 0)
    (hnext : (s.leaf l).nextTested (s.leaf l).rot.last = some i) :
    Completes (.gateTestStep l) s fun t => OnlyLeaves { s with fresh := s.fresh + 5 } t ∧
      (∀ m : LeafId, (t.leaf m).rot = { last := i, at_ := (s.leaf m).count, repeatOf := none } ∧
        (t.leaf m).regs = (s.leaf m).regs) ∧
      ∃ v : Nat → Nat, (t.leaf l).out = (s.leaf l).out ++ (List.range 5).map fun k =>
        Out.gate i (maintBody (tagOf (after (s.leaf l).count 1)) 3 k (v k % 4000)) := by
  have hfailed : ((List.range 48).find? fun i => i == (s.leaf l).rot.last && decide ((s.chan i).failedOnce ≠ 0)) = none := by
    rw [List.find?_eq_none]
    intro j hj hfailed
    simp only [Bool.and_eq_true, beq_iff_eq, decide_eq_true_eq] at hfailed
    obtain ⟨hlast, hfails⟩ := hfailed
    exact hfails (hpassed j (List.mem_range.mp hj) hlast)
  have hexec : exec (.gateTestStep l) s = .next
      ((s.both fun L => { L with rot := { last := i, at_ := L.count, repeatOf := none } }).sendTests l i) := by
    change execGateTestStep l s = _
    unfold execGateTestStep
    dsimp only
    rw [hfailed]
    dsimp only
    rw [hnext]
    dsimp only
    rw [guarded, if_pos (by simp [hlead, hcut, Leaf.on, henabled, hgap])]
  have hsending : ((s.both fun L => { L with rot := { last := i, at_ := L.count, repeatOf := none } }).leaf l).sending = true := by
    rw [State.leaf_both]
    simp [Leaf.sending, Leaf.carrying, hlead, hcut]
  rw [State.sendTests_sends _ l i hsending] at hexec
  refine ⟨_, hexec, ?_, fun m => ?_, fun k => Config.freeNat (s.fresh + k), ?_⟩
  · cases l <;> rfl
  · cases l <;> cases m <;> exact ⟨rfl, rfl⟩
  · cases l <;> rfl

theorem gchTest_tests (ch : Fin 64) (who : Ident) (hsetup : s.setup = true) (hch : ch.val < 48)
    (hsending : (s.leaf l).sending = true) :
    Completes (.gchTest l ch who) s fun t => OnlyLeaf l { s with fresh := s.fresh + 5 } t ∧
      (t.leaf l).regs = (s.leaf l).regs ∧
      ∃ v : Nat → Nat, (t.leaf l).out = (s.leaf l).out ++ (List.range 5).map fun k =>
        Out.gate ch (maintBody (tagOf (after (s.leaf l).count 1)) 3 k (v k % 4000)) := by
  have hexec : exec (.gchTest l ch who) s = .next (s.testsSent l ch 5) := by
    change execGchTest l ch who s = _
    rw [execGchTest, if_pos hsetup, if_pos hch, State.sendTests_sends s l ch hsending]
  refine ⟨_, hexec, .setLeaf, ?_⟩
  rw [State.testsSent, State.leaf_setLeaf]
  exact ⟨rfl, fun k => Config.freeNat (s.fresh + k), rfl⟩

theorem setup_of_carry (hcarry : s.mode = .carry) : s.setup = false := by
  rw [State.setup, hcarry]
  rfl

theorem gchTest_discards (ch : Fin 64) (who : Ident) (hcarry : s.mode = .carry) :
    Completes (.gchTest l ch who) s fun t => OnlyLeaf l s t ∧ (t.leaf l).out = (s.leaf l).out ∧
      KeepsRegs (s.leaf l) (t.leaf l) reportRegs := by
  have hexec : exec (.gchTest l ch who) s =
      .next (s.setLeaf l ((s.leaf l).discard (GCH_CMD.addr 0) who.val (2 ^ 62 + ch.val))) := by
    change execGchTest l ch who s = _
    rw [execGchTest, if_neg (by rw [setup_of_carry s hcarry]; decide), if_pos (by rw [hcarry]; rfl)]
    rfl
  refine ⟨_, hexec, .setLeaf, ?_⟩
  rw [State.leaf_setLeaf]
  exact Leaf.discard_rests ..

theorem gchClear_clears (ch : Fin 64) (who : Ident) (hsetup : s.setup = true) (hch : ch.val < 48)
    (hmay : s.mayClear l ch = true) (hsending : (s.leaf l).sending = true) :
    Completes (.gchClear l ch true who) s fun t => OnlyLeaf l s t ∧ (t.leaf l).regs = (s.leaf l).regs ∧
      (t.leaf l).out = (s.leaf l).out ++
        [Out.gate (evenOf ch) (maintBody (tagOf (after (s.leaf l).count 1)) 4 0 0),
         Out.gate (evenOf ch + 1) (maintBody (tagOf (after (s.leaf l).count 1)) 4 0 0)] := by
  have hexec : exec (.gchClear l ch true who) s = .next (s.setLeaf l ((s.leaf l).sendClear ch)) := by
    change execGchClear l ch true who s = _
    unfold execGchClear
    dsimp only
    rw [if_pos rfl, if_pos (by simp [hsetup, hch, hmay])]
  refine ⟨_, hexec, .setLeaf, ?_⟩
  rw [State.leaf_setLeaf, (s.leaf l).sendClear_sends ch hsending]
  exact ⟨rfl, rfl⟩

theorem gchClear_discards (ch : Fin 64) (who : Ident) (hcarry : s.mode = .carry) :
    Completes (.gchClear l ch true who) s fun t => OnlyLeaf l s t ∧ (t.leaf l).out = (s.leaf l).out ∧
      KeepsRegs (s.leaf l) (t.leaf l) reportRegs := by
  have hexec : exec (.gchClear l ch true who) s =
      .next (s.setLeaf l ((s.leaf l).discard GCH_CMD.base who.val (2 ^ 63 + ch.val))) := by
    change execGchClear l ch true who s = _
    unfold execGchClear
    dsimp only
    rw [if_pos rfl, if_neg (by simp [setup_of_carry s hcarry]), guarded, if_pos (by simp [hcarry])]
  refine ⟨_, hexec, .setLeaf, ?_⟩
  rw [State.leaf_setLeaf]
  exact Leaf.discard_rests ..

end

/-- Settles O37: a mark makes its channel or stage begin a course, the STATUS frame is taken register by register, and the leaves
send TEST and CLEAR as MAINT frames. -/
theorem gateMarksStatusAndTests : Obligations.gate_marks_status_and_tests :=
  ⟨courseMark_begins, courseMark_loses, courseMark_beginsStage, statusFrame_reaches, gateTestStep_tests, gchTest_tests,
    gchTest_discards, gchClear_clears, gchClear_discards⟩

end Sys2Proof.Machine
end

section
/-! The link guard's converter, contactors and legs moved to a state, and the opening of all contactors (R298 to R300, R302,
R304). -/

namespace Sys2Proof.Machine

open Sys2Proof

/-! ### Registers kept -/

theorem KeepsRegs.stageChanged {L M : Leaf} {but : List Nat} (h : KeepsRegs L M but) {g : Nat}
    (hts : ASH_TS_STAT.addr 0 ∈ but) : KeepsRegs L (M.stageChanged g) but := fun off hoff =>
  (M.stageChanged_keepsRegs g off (mt (fun hmem => List.mem_singleton.mp hmem ▸ hts) hoff)).trans (h off hoff)

theorem KeepsRegs.moveCon {L M : Leaf} {but : List Nat} (h : KeepsRegs L M but) {st : Nat} (hstat : LNK_STAT.addr 0 ∈ but) :
    KeepsRegs L (M.moveCon st) but := by
  unfold Leaf.moveCon
  split
  · exact h
  · exact h.put hstat

theorem KeepsRegs.stopConv {L M : Leaf} {but : List Nat} (h : KeepsRegs L M but) (hstat : LNK_STAT.addr 0 ∈ but)
    (hts : ASH_TS_STAT.addr 0 ∈ but) : KeepsRegs L M.stopConv but := by
  have moved : KeepsRegs L (M.moveConv 3) but := by
    unfold Leaf.moveConv
    split
    · exact h
    · exact (h.put hstat).stageChanged hts
  unfold Leaf.stopConv
  split
  · exact moved
  · exact h

theorem KeepsRegs.dropContactors {L M : Leaf} {but : List Nat} (h : KeepsRegs L M but) (hstat : LNK_STAT.addr 0 ∈ but)
    (hts : ASH_TS_STAT.addr 0 ∈ but) : KeepsRegs L M.dropContactors but := by
  unfold Leaf.dropContactors
  split
  · exact h
  · exact (h.moveCon hstat).stopConv hstat hts

section

variable (L : Leaf)

/-! ### The contactors -/

theorem Leaf.moveCon_con {st : Nat} (hst : st < 8) : (L.moveCon st).con = st := by
  unfold Leaf.moveCon
  split
  · assumption
  · exact (L.get_put _ _ _ (by decide)).trans (Nat.mod_eq_of_lt hst)

theorem Leaf.moveCon_lnk {st : Nat} (h : L.con ≠ st) :
    (L.moveCon st).lnk = { L.lnk with conFrom := L.count, matchRun := 0, lowRun := 0 } := by
  rw [Leaf.moveCon, if_neg h, Leaf.onLnk_lnk, Leaf.put_lnk]

/-- The contactors have a field of LNK_STAT to themselves (R323). -/
theorem Leaf.moveCon_conv (st : Nat) : (L.moveCon st).conv = L.conv := by
  unfold Leaf.moveCon
  split
  · rfl
  · exact L.get_put_field LNK_STAT_CON LNK_STAT_CONV _ _ rfl (by decide)

/-! ### The converter -/

theorem Leaf.stageChanged_lnk (g : Nat) : (L.stageChanged g).lnk = L.lnk := by
  unfold Leaf.stageChanged
  extract_lets _ M
  rw [M.abortTests_regsOnly]

/-- No register of the link guard is ASH_TS_STAT. -/
theorem addr_lnk_not_ts : LNK_STAT.addr 0 ∉ [ASH_TS_STAT.addr 0] ∧ LNK_LEG.addr 0 ∉ [ASH_TS_STAT.addr 0] := by decide

theorem Leaf.moveConv_conv {st : Nat} (hst : st < 8) : (L.moveConv st).conv = st := by
  unfold Leaf.moveConv
  split
  · assumption
  · have hstat := (Leaf.stageChanged_keepsRegs (L.put LNK_STAT_CONV st) 4).get (f := LNK_STAT_CONV) addr_lnk_not_ts.1
    exact hstat.trans ((L.get_put _ _ _ (by decide)).trans (Nat.mod_eq_of_lt hst))

theorem Leaf.moveConv_con (st : Nat) : (L.moveConv st).con = L.con := by
  unfold Leaf.moveConv
  split
  · rfl
  · have hstat := (Leaf.stageChanged_keepsRegs (L.put LNK_STAT_CONV st) 4).get (f := LNK_STAT_CON) addr_lnk_not_ts.1
    exact hstat.trans (L.get_put_field LNK_STAT_CONV LNK_STAT_CON _ _ rfl (by decide))

theorem Leaf.moveConv_lnk (st : Nat) : (L.moveConv st).lnk = L.lnk := by
  unfold Leaf.moveConv
  split
  · rfl
  · exact Leaf.stageChanged_lnk _ 4

/-- All that a stop of the converter changes of the link guard's own state (R300). -/
theorem Leaf.stopConv_lnk : L.stopConv.lnk = { L.lnk with
    ramping := L.stopConv.lnk.ramping, runNew := L.stopConv.lnk.runNew, iTot := L.stopConv.lnk.iTot } := by
  unfold Leaf.stopConv
  split
  · rw [Leaf.onLnk_lnk, Leaf.moveConv_lnk]
  · rfl

theorem Leaf.stopConv_con : L.stopConv.con = L.con := by
  unfold Leaf.stopConv
  split
  · exact L.moveConv_con 3
  · rfl

/-- A converter that runs is stopped in SAFE_OFF, and one that stands there stays (R300). -/
theorem Leaf.stopConv_conv (h : L.conv = 2 ∨ L.conv = 3) : L.stopConv.conv = 3 := by
  unfold Leaf.stopConv
  split
  case isTrue => exact L.moveConv_conv (by decide)
  case isFalse hstays => exact h.resolve_left fun hruns => hstays (.inl hruns)

/-! ### All contactors opened -/

theorem Leaf.dropContactors_con : L.dropContactors.con = 0 := by
  unfold Leaf.dropContactors
  split
  · assumption
  · exact (Leaf.stopConv_con _).trans (L.moveCon_con (by decide))

theorem Leaf.dropContactors_open (h : L.con ≠ 0) :
    L.dropContactors.lnk.plus = false ∧ L.dropContactors.lnk.minus = false ∧ L.dropContactors.lnk.pre = false := by
  rw [Leaf.dropContactors, if_neg h]
  exact ⟨rfl, rfl, rfl⟩

theorem Leaf.dropContactors_hvilOpen : L.dropContactors.lnk.hvilOpen = L.lnk.hvilOpen := by
  unfold Leaf.dropContactors
  split
  case isTrue => rfl
  case isFalse h =>
    rw [Leaf.onLnk_lnk, Leaf.stopConv_lnk, L.moveCon_lnk h]

/-- A converter that runs goes on only where the contactors were open already (R302). -/
theorem Leaf.dropContactors_conv (h : L.conv = 2) : L.dropContactors.conv = 2 ∨ L.dropContactors.conv = 3 := by
  unfold Leaf.dropContactors
  split
  · exact .inl h
  · exact .inr (Leaf.stopConv_conv _ (.inl ((L.moveCon_conv 0).trans h)))

/-! ### The legs -/

theorem Leaf.leg_onLeg (f : LnkLeg → LnkLeg) (j : Fin 4) : (L.onLeg j f).leg j = f (L.leg j) :=
  pick_alter_same L.lnk.legs j f j.isLt

/-- A leg's state stands in its register (R325). -/
theorem Leaf.legState_onLeg (f : LnkLeg → LnkLeg) (j k : Nat) : (L.onLeg j f).legState k = L.legState k := rfl

theorem Leaf.stageChanged_legState (g j : Nat) : (L.stageChanged g).legState j = L.legState j :=
  (L.stageChanged_keepsRegs g).get (f := LNK_LEG_STATE.at 16 j) addr_lnk_not_ts.2

theorem Leaf.stick_legState {f : Fld} (h : LNK_LEG.addr 0 ≠ f.reg.addr 0) (j : Nat) : (L.stick f).legState j = L.legState j :=
  L.get_put_other f (LNK_LEG_STATE.at 16 j) 1 0 0 h

theorem Leaf.moveLeg_legState (j : Fin 4) {st : Nat} (hst : st < 8) : (L.moveLeg j st).legState j = st := by
  have hhi : ∀ j : Fin 4, (LNK_LEG_STATE.at 16 j).hi < 64 := by decide
  have hwidth : ∀ j : Fin 4, (LNK_LEG_STATE.at 16 j).hi + 1 - (LNK_LEG_STATE.at 16 j).lo = 3 := by decide
  unfold Leaf.moveLeg
  split
  · assumption
  · rw [Leaf.stageChanged_legState]
    refine (L.get_put _ st 0 (hhi j)).trans ?_
    rw [hwidth j]
    exact Nat.mod_eq_of_lt hst

/-- Each leg has a field of LNK_LEG to itself (R325). -/
theorem legState_apart : ∀ j k : Fin 4, k ≠ j → (LNK_LEG_STATE.at 16 j).hi < (LNK_LEG_STATE.at 16 k).lo ∨
    (LNK_LEG_STATE.at 16 k).hi < (LNK_LEG_STATE.at 16 j).lo := by decide

theorem Leaf.moveLeg_legState_other (j k : Fin 4) (st : Nat) (h : k ≠ j) : (L.moveLeg j st).legState k = L.legState k := by
  unfold Leaf.moveLeg
  split
  · rfl
  · exact (Leaf.stageChanged_legState _ 5 k).trans (L.get_put_field _ (LNK_LEG_STATE.at 16 k) _ _ rfl (legState_apart j k h))

end

end Sys2Proof.Machine
end

section
/-! The contactors and the link guard's other events (R296, R298, R302 to R305, R311, R314). -/

namespace Sys2Proof.Machine

open Sys2Proof

section

variable (s : State) (l : LeafId)

/-! ### The contactors -/

theorem prechargeMatch_closes (hcon : (s.leaf l).con = 1) (hmatch : 16 ≤ (s.leaf l).lnk.matchRun) :
    Completes (.prechargeMatch l) s fun t => OnlyLeaf l s t ∧ (t.leaf l).con = 2 ∧ (t.leaf l).lnk.plus = true ∧
      (t.leaf l).lnk.minus = (s.leaf l).lnk.minus ∧ (t.leaf l).lnk.conFrom = (s.leaf l).count ∧
      KeepsRegs (s.leaf l) (t.leaf l) [LNK_STAT.addr 0] := by
  refine Ends.guardedTrue (by simp [hcon, hmatch]) ⟨.setLeaf, ?_⟩
  rw [State.leaf_setLeaf, Leaf.onLnk_lnk, Leaf.moveCon_lnk _ (by rw [hcon]; decide)]
  exact ⟨(s.leaf l).moveCon_con (by decide), rfl, rfl, rfl, KeepsRegs.rfl.moveCon (.head _)⟩

theorem preTimeout_opens (hcon : (s.leaf l).con = 1) (hmatch : (s.leaf l).lnk.matchRun < 16)
    (hlong : 320000 ≤ since (s.leaf l).count (s.leaf l).lnk.conFrom) :
    Completes (.preTimeout l) s fun t => OnlyLeaf l s t ∧ (t.leaf l).con = 0 ∧ (t.leaf l).get LNK_FLT_PRE_TIMEOUT = 1 ∧
      (t.leaf l).lnk.minus = false ∧ (t.leaf l).lnk.pre = false ∧
      (1 ≤ (s.leaf l).lnk.timeouts → (t.leaf l).get LNK_STAT_PRE_LOCK = 1) ∧
      KeepsRegs (s.leaf l) (t.leaf l) [LNK_STAT.addr 0, LNK_FLT.addr 0] := by
  change Ends (execPreTimeout l s) _
  unfold execPreTimeout
  extract_lets L M
  refine Ends.guardedTrue (by simp [L, hcon, hmatch, hlong]) ⟨.setLeaf, ?_⟩
  rw [State.leaf_setLeaf]
  have hM : M.con = 0 ∧ M.get LNK_FLT_PRE_TIMEOUT = 1 ∧ M.lnk.minus = false ∧ M.lnk.pre = false :=
    ⟨(Leaf.get_put_other _ LNK_FLT_PRE_TIMEOUT LNK_STAT_CON _ _ _ (by decide)).trans ((s.leaf l).moveCon_con (by decide)),
      Leaf.get_put _ _ _ _ (by decide), rfl, rfl⟩
  obtain ⟨hopen, hflag, hminus, hpre⟩ := hM
  have hcount : M.lnk.timeouts = (s.leaf l).lnk.timeouts + 1 :=
    congrArg (·.timeouts + 1) ((s.leaf l).moveCon_lnk (by rw [hcon]; decide))
  have hkept : KeepsRegs (s.leaf l) M [LNK_STAT.addr 0, LNK_FLT.addr 0] :=
    (KeepsRegs.rfl.moveCon (.head _)).put (.tail _ (.head _))
  split
  case isTrue =>
    exact ⟨(M.get_put_field LNK_STAT_PRE_LOCK LNK_STAT_CON _ _ rfl (by decide)).trans hopen,
      (M.get_put_other LNK_STAT_PRE_LOCK LNK_FLT_PRE_TIMEOUT _ _ _ (by decide)).trans hflag, hminus, hpre,
      fun _ => M.get_put _ _ _ (by decide), hkept.put (.head _)⟩
  case isFalse hfew => exact ⟨hopen, hflag, hminus, hpre, fun hagain => absurd (by omega) hfew, hkept⟩

theorem overlapElapsed_closed (hcon : (s.leaf l).con = 2)
    (hlong : (s.leaf l).get LNK_CON_OVERLAP ≤ since (s.leaf l).count (s.leaf l).lnk.conFrom) :
    Completes (.overlapElapsed l) s fun t => OnlyLeaf l s t ∧ (t.leaf l).con = 3 ∧ (t.leaf l).lnk.pre = false ∧
      (t.leaf l).lnk.plus = (s.leaf l).lnk.plus ∧ (t.leaf l).lnk.timeouts = 0 ∧
      KeepsRegs (s.leaf l) (t.leaf l) [LNK_STAT.addr 0] := by
  refine Ends.guardedTrue (by simp [hcon, hlong]) ⟨.setLeaf, ?_⟩
  rw [State.leaf_setLeaf, Leaf.onLnk_lnk, Leaf.moveCon_lnk _ (by rw [hcon]; decide)]
  exact ⟨(s.leaf l).moveCon_con (by decide), rfl, rfl, rfl, KeepsRegs.rfl.moveCon (.head _)⟩

theorem openingCurrentLow_opens (hcon : (s.leaf l).con = 4) (hlow : 16 ≤ (s.leaf l).lnk.lowRun) :
    Completes (.openingCurrentLow l) s fun t => OnlyLeaf l s t ∧ (t.leaf l).con = 0 ∧ (t.leaf l).lnk.plus = false ∧
      (t.leaf l).lnk.minusAt = some (after (s.leaf l).count 1600) ∧ (t.leaf l).lnk.minus = (s.leaf l).lnk.minus ∧
      (t.leaf l).get LNK_FLT_OPEN_BLOCKED = 0 := by
  refine Ends.guardedTrue (by simp [hcon, hlow]) ⟨.setLeaf, ?_⟩
  rw [State.leaf_setLeaf, Leaf.onLnk_lnk, Leaf.put_lnk, Leaf.moveCon_lnk _ (by rw [hcon]; decide)]
  exact ⟨(Leaf.get_put_other _ LNK_FLT_OPEN_BLOCKED LNK_STAT_CON _ _ _ (by decide)).trans
    ((s.leaf l).moveCon_con (by decide)), rfl, rfl, rfl, Leaf.get_put _ _ _ _ (by decide)⟩

theorem mainMinusOpen_opens (c : Course) (hcon : (s.leaf l).con = 0) (hat : (s.leaf l).lnk.minusAt = some c)
    (hdue : since (s.leaf l).count c < 2 ^ 47) :
    Completes (.mainMinusOpen l) s fun t => OnlyLeaf l s t ∧ (t.leaf l).lnk.minus = false ∧ (t.leaf l).lnk.minusAt = none ∧
      (t.leaf l).regs = (s.leaf l).regs := by
  refine Ends.guardedTrue (by simp only [hcon, hat, Option.any_some, hdue, decide_true]; rfl) ⟨.setLeaf, ?_⟩
  rw [State.leaf_setLeaf]
  exact ⟨rfl, rfl, rfl⟩

theorem mainMinusOpen_waits (c : Course) (hat : (s.leaf l).lnk.minusAt = some c)
    (hearly : 2 ^ 47 ≤ since (s.leaf l).count c) : exec (.mainMinusOpen l) s = .next s := by
  refine guarded_false s ?_
  rw [hat, Option.any_some, decide_eq_false (Nat.not_lt.mpr hearly), Bool.and_false]

theorem openBlocked_tells (hcon : (s.leaf l).con = 4) (hhigh : (s.leaf l).lnk.lowRun < 16)
    (hlong : 320000 ≤ since (s.leaf l).count (s.leaf l).lnk.conFrom) (hfirst : (s.leaf l).lnk.blockedAt = none) :
    Completes (.openBlocked l) s fun t => OnlyLeaf l s t ∧ (t.leaf l).get LNK_FLT_OPEN_BLOCKED = 1 ∧ (t.leaf l).con = 4 ∧
      (t.leaf l).lnk.blockedAt = some (s.leaf l).count ∧ KeepsRegs (s.leaf l) (t.leaf l) (LNK_FLT.addr 0 :: reportRegs) := by
  have hstat : ((s.leaf l).raise LNK_FLT_OPEN_BLOCKED).con = (s.leaf l).con := Leaf.get_word _ _ LNK_STAT_CON _
    (Leaf.raise_word _ _ _ _ _ (by decide) (by decide) (by decide))
  have hcount : ((s.leaf l).raise LNK_FLT_OPEN_BLOCKED).count = (s.leaf l).count := by rw [Leaf.raise_parts]
  refine Ends.guardedTrue (by simp [hcon, hhigh, hlong, hfirst]) ⟨.setLeaf, ?_⟩
  rw [State.leaf_setLeaf, hfirst, Option.isSome_none, if_neg Bool.false_ne_true]
  exact ⟨Leaf.get_raise _ _ _ (by decide) (by decide) (by decide) (by decide), hstat.trans hcon, congrArg some hcount,
    KeepsRegs.rfl.raise (.head _) (List.subset_cons_self _ _)⟩

theorem openBlocked_waits (c : Course) (hat : (s.leaf l).lnk.blockedAt = some c)
    (hshort : since (s.leaf l).count c < 160000) : exec (.openBlocked l) s = .next s := by
  refine guarded_false s ?_
  rw [hat, Option.any_some, decide_eq_true hshort, Bool.not_true, Bool.and_false]

/-! ### The interlock -/

theorem hvilOpen_stops (hrun : 16 ≤ (s.leaf l).lnk.hvilRun) (hclosed : (s.leaf l).lnk.hvilOpen = false) :
    Completes (.hvilOpen l) s fun t => OnlyLeaf l s t ∧ (t.leaf l).get LNK_FLT_HVIL = 1 ∧ (t.leaf l).lnk.hvilOpen = true ∧
      (t.leaf l).con = 0 ∧ ((s.leaf l).con ≠ 0 → (t.leaf l).lnk.plus = false ∧ (t.leaf l).lnk.minus = false ∧
        (t.leaf l).lnk.pre = false) ∧ ((s.leaf l).conv = 2 → (t.leaf l).conv = 3) := by
  refine Ends.guardedTrue (by simp [hrun, hclosed]) ⟨.setLeaf, ?_⟩
  rw [State.leaf_setLeaf]
  generalize hM : (((s.leaf l).stick LNK_FLT_HVIL).onLnk fun K => { K with hvilOpen := true }) = M
  have hflag : M.get LNK_FLT_HVIL = 1 := hM ▸ Leaf.get_put _ _ _ _ (by decide)
  have hopen : M.lnk.hvilOpen = true := hM ▸ rfl
  have hcon : M.con = (s.leaf l).con := hM ▸ Leaf.get_put_other _ LNK_FLT_HVIL LNK_STAT_CON _ _ _ (by decide)
  have hconv : M.conv = (s.leaf l).conv := hM ▸ Leaf.get_put_other _ LNK_FLT_HVIL LNK_STAT_CONV _ _ _ (by decide)
  have hkept : KeepsRegs M M.dropContactors.stopConv [LNK_STAT.addr 0, ASH_TS_STAT.addr 0] :=
    (KeepsRegs.rfl.dropContactors (.head _) (.tail _ (.head _))).stopConv (.head _) (.tail _ (.head _))
  rw [Leaf.stopConv_lnk]
  exact ⟨(hkept.get (f := LNK_FLT_HVIL) (by decide)).trans hflag, M.dropContactors_hvilOpen.trans hopen,
    (Leaf.stopConv_con _).trans M.dropContactors_con, fun hne => M.dropContactors_open (hcon ▸ hne),
    fun hruns => Leaf.stopConv_conv _ (M.dropContactors_conv (hconv.trans hruns))⟩

theorem hvilClosed_closes (hrun : (s.leaf l).lnk.hvilRun = 0) (hopen : (s.leaf l).lnk.hvilOpen = true) :
    Completes (.hvilClosed l) s fun t => OnlyLeaf l s t ∧ (t.leaf l).lnk.hvilOpen = false ∧
      (t.leaf l).regs = (s.leaf l).regs := by
  refine Ends.guardedTrue (by simp [hrun, hopen]) ⟨.setLeaf, ?_⟩
  rw [State.leaf_setLeaf]
  exact ⟨rfl, rfl⟩

/-! ### A discharge, and the battery reference -/

theorem dischargeEnd_below (hdisch : (s.leaf l).get LNK_STAT_DISCH ≠ 0) (hlow : (s.leaf l).vLink < 60) :
    Completes (.dischargeEnd l) s fun t => OnlyLeaf l s t ∧ (t.leaf l).get LNK_STAT_DISCH = 0 ∧
      KeepsRegs (s.leaf l) (t.leaf l) [LNK_STAT.addr 0] := by
  refine Ends.guardedTrue (by simp [Leaf.on, hdisch, hlow]) ⟨.setLeaf, ?_⟩
  rw [State.leaf_setLeaf, decide_eq_true hlow, if_pos rfl]
  exact ⟨Leaf.get_put _ _ _ _ (by decide), KeepsRegs.rfl.put (.head _)⟩

theorem dischargeEnd_timeout (c : Course) (hdisch : (s.leaf l).get LNK_STAT_DISCH ≠ 0) (hhigh : ¬ (s.leaf l).vLink < 60)
    (hfrom : (s.leaf l).lnk.dischFrom = some c) (hlong : 320000 ≤ since (s.leaf l).count c) :
    Completes (.dischargeEnd l) s fun t => OnlyLeaf l s t ∧ (t.leaf l).get LNK_STAT_DISCH = 0 ∧
      (t.leaf l).get LNK_FLT_DISCH_TIMEOUT = 1 ∧ KeepsRegs (s.leaf l) (t.leaf l) [LNK_STAT.addr 0, LNK_FLT.addr 0] := by
  change Ends (execDischargeEnd l s) _
  unfold execDischargeEnd
  extract_lets L low M
  have hended : M.get LNK_STAT_DISCH = 0 := L.get_put LNK_STAT_DISCH _ _ (by decide)
  have hkept : KeepsRegs L M [LNK_STAT.addr 0, LNK_FLT.addr 0] := KeepsRegs.rfl.put (.head _)
  refine Ends.guardedTrue (by simp [L, Leaf.on, hdisch, hfrom, hlong]) ⟨.setLeaf, ?_⟩
  rw [State.leaf_setLeaf, if_neg (by simpa [low, L] using hhigh)]
  exact ⟨(M.get_put_other LNK_FLT_DISCH_TIMEOUT LNK_STAT_DISCH _ _ _ (by decide)).trans hended,
    M.get_put _ _ _ (by decide), hkept.put (.tail _ (.head _))⟩

theorem battRefTimeout_ends (hmode : (s.leaf l).get LNK_STAT_MODE ≠ 0)
    (hlong : (s.leaf l).get TRC_CTRL_SP_TIMEOUT < since (s.leaf l).count (s.leaf l).lnk.refAt) :
    Completes (.battRefTimeout l) s fun t => OnlyLeaf l s t ∧ (t.leaf l).get LNK_STAT_MODE = 0 ∧
      KeepsRegs (s.leaf l) (t.leaf l) (LNK_STAT.addr 0 :: reportRegs) := by
  have hput : KeepsRegs (s.leaf l) ((s.leaf l).put LNK_STAT_MODE 0) (LNK_STAT.addr 0 :: reportRegs) :=
    KeepsRegs.rfl.put (.head _)
  refine Ends.guardedTrue (by simp [Leaf.on, hmode, hlong]) ⟨.setLeaf, ?_⟩
  rw [State.leaf_setLeaf]
  exact ⟨(Leaf.get_event _ LNK_STAT_MODE _ _ _ _ (by decide) (by decide)).trans (Leaf.get_put _ _ _ _ (by decide)),
    fun off hoff => (Leaf.produce_keepsRegs _ _ off (mt (List.mem_cons_of_mem _) hoff)).trans (hput off hoff)⟩

/-! ### The chopper -/

theorem chopperRetest_sends (hwant : (s.leaf l).wantRetest = true) (hsending : (s.leaf l).sending = true)
    (hone : (s.leaf l).get LNK_CHOP_DUAL = 0) :
    Completes (.chopperRetest l) s fun t => OnlyLeaf l s t ∧ (t.leaf l).lnk.retest = some ((s.leaf l).count + 1) ∧
      (t.leaf l).regs = (s.leaf l).regs ∧ (t.leaf l).out = (s.leaf l).out ++
        [Out.gate 46 (courseBody 0 false (tagOf ((s.leaf l).count + 1)) [(400, true), (3600, false)])] := by
  change Ends (execChopperRetest l s) _
  unfold execChopperRetest
  extract_lets L t M
  refine Ends.guardedTrue hwant ⟨.setLeaf, ?_⟩
  rw [State.leaf_setLeaf]
  have hdual : M.get LNK_CHOP_DUAL = 0 := hone
  have hchans : M.chopChans = [46] := if_neg (by simp [Leaf.on, hdual])
  have hM : M.sending = true := hsending
  rw [hchans, List.foldl_cons, List.foldl_nil, Leaf.emit, if_pos hM]
  exact ⟨rfl, rfl, rfl⟩

theorem chopFailClear_owes (who : Ident) (hmode : s.mode = .workshop) (hfail : (s.leaf l).get LNK_FLT_CHOP_FAIL ≠ 0) :
    Completes (.chopFailClear l who) s fun t => OnlyLeaf l s t ∧ (t.leaf l).lnk.retested = false ∧
      (t.leaf l).regs = (s.leaf l).regs := by
  refine Ends.guardedTrue (by simp [Leaf.on, hmode, hfail]) ⟨.setLeaf, ?_⟩
  rw [State.leaf_setLeaf]
  exact ⟨rfl, rfl⟩

theorem chopFailClear_stays (who : Ident) (hmode : s.mode ≠ .workshop) : exec (.chopFailClear l who) s = .next s := by
  refine guarded_false s ?_
  rw [beq_false_of_ne hmode, Bool.false_and]

/-! ### The legs, and the auxiliary converter -/

theorem share_out (leg : Fin 4) (hruns : (s.leaf l).legState leg = 1) (hlong : 160000 ≤ ((s.leaf l).leg leg).atLimit) :
    Completes (.share l leg) s fun t => OnlyLeaf l s t ∧ (t.leaf l).legState leg = 3 ∧ (t.leaf l).get LNK_FLT_SHARE = 1 ∧
      ((t.leaf l).leg leg).shareOut = true ∧ ((t.leaf l).leg leg).trim = 0 ∧
      ∀ k : Fin 4, k ≠ leg → (t.leaf l).legState k = (s.leaf l).legState k := by
  have happart : LNK_LEG.addr 0 ≠ LNK_FLT_SHARE.reg.addr 0 := by decide
  refine Ends.guardedTrue (by simp [hruns, hlong]) ⟨.setLeaf, ?_⟩
  rw [State.leaf_setLeaf, Leaf.leg_onLeg]
  refine ⟨?_, Leaf.get_put _ _ _ _ (by decide), rfl, rfl, fun k hk => ?_⟩
  · rw [Leaf.legState_onLeg, Leaf.stick_legState _ happart, Leaf.moveLeg_legState _ _ (by decide)]
  · rw [Leaf.legState_onLeg, Leaf.stick_legState _ happart, Leaf.moveLeg_legState_other _ _ _ _ hk]

theorem legReadmit_readmits (leg : Fin 4) (c : Course) (hout : (s.leaf l).legState leg = 3)
    (hshare : ((s.leaf l).leg leg).shareOut = true) (honce : ((s.leaf l).leg leg).shareLast = false)
    (hat : ((s.leaf l).leg leg).shareAt = some c) (hlong : 160000 ≤ since (s.leaf l).count c) :
    Completes (.legReadmit l leg) s fun t => OnlyLeaf l s t ∧ (t.leaf l).legState leg = 0 ∧
      ((t.leaf l).leg leg).shareOut = false ∧ ((t.leaf l).leg leg).readmitted = some (s.leaf l).count := by
  refine Ends.guardedTrue (by simp [hout, hshare, honce, hat, hlong]) ⟨.setLeaf, ?_⟩
  rw [State.leaf_setLeaf, Leaf.leg_onLeg, Leaf.legState_onLeg]
  exact ⟨Leaf.moveLeg_legState _ _ (by decide), rfl, rfl⟩

theorem auxRestart_frees (c : Course) (hheld : (s.leaf l).lnk.auxHeld = false) (hstop : (s.leaf l).lnk.auxStop = some c)
    (hlong : 16000 ≤ since (s.leaf l).count c) :
    Completes (.auxRestart l) s fun t => OnlyLeaf l s t ∧ (t.leaf l).lnk.auxStop = none ∧
      (t.leaf l).regs = (s.leaf l).regs := by
  refine Ends.guardedTrue (by simp [hheld, hstop, hlong]) ⟨.setLeaf, ?_⟩
  rw [State.leaf_setLeaf]
  exact ⟨rfl, rfl⟩

end

/-- Settles O40: the contactors and the converter move in fields of LNK_STAT and each leg in one of LNK_LEG, so that a command
that moves one of them leaves the others, and the rest of what it names is one change each. -/
theorem contactorsAndLink : Obligations.contactors_and_link :=
  ⟨prechargeMatch_closes, preTimeout_opens, overlapElapsed_closed, openingCurrentLow_opens, mainMinusOpen_opens,
    mainMinusOpen_waits, openBlocked_tells, openBlocked_waits, hvilOpen_stops, hvilClosed_closes, dischargeEnd_below,
    dischargeEnd_timeout, battRefTimeout_ends, chopperRetest_sends, chopFailClear_owes, chopFailClear_stays, share_out,
    legReadmit_readmits, auxRestart_frees⟩

end Sys2Proof.Machine
end

section
/-! What the parts of a charger's session change (R342, R346, R352): fields kept, what the ledger records of a session, and the
values a move, an end and a start of a session leave. -/

namespace Sys2Proof.Machine

open Sys2Proof

/-! ### Fields kept -/

/-- Two fields that share no bit: of two registers, or of one with their bits apart (R11). -/
abbrev Fld.Apart (f g : Fld) : Prop := f.reg.addr 0 ≠ g.reg.addr 0 ∨ (f.reg = g.reg ∧ (f.hi < g.lo ∨ g.hi < f.lo))

/-- The registers of the ledger that a record writes (R539 to R545). -/
def ledgerRegs : List Nat :=
  [LDG_STAT.addr 0, LDG_HEAD.addr 0, LDG_CAPST.addr 0, LDG_SESS.addr 0, LDG_FLT.addr 0, LDG_CNT.addr 0]

/-- Where a session leaves traces beside its own fields: tests it stopped (R129), its counters (R364), entries dropped (R475)
and the ledger (R537). -/
def traceRegs : List Nat := ASH_TS_STAT.addr 0 :: CHG_CNT.addr 0 :: (reportRegs ++ ledgerRegs)

/-- Every field of a leaf is as it was, but for those listed and those of the registers in which a session leaves traces. -/
def KeepsFlds (L M : Leaf) (but : List Fld) : Prop :=
  ∀ f : Fld, (∀ g ∈ but, f.Apart g) → f.reg.addr 0 ∉ traceRegs → M.get f = L.get f

/-- A field put leaves the fields apart from it. -/
theorem Leaf.get_put_apart (L : Leaf) {f g : Fld} (v : Nat) (h : f.Apart g) : (L.put g v).get f = L.get f := by
  obtain hreg | ⟨hreg, hbits⟩ := h
  · exact L.get_put_other g f v 0 0 hreg
  · exact L.get_put_field g f v 0 hreg hbits.symm

namespace KeepsFlds

variable {L M N : Leaf} {but : List Fld}

theorem rfl : KeepsFlds L L but := fun _ _ _ => Eq.refl _

theorem trans (h : KeepsFlds L M but) (h' : KeepsFlds M N but) : KeepsFlds L N but :=
  fun f hf htrace => (h' f hf htrace).trans (h f hf htrace)

theorem ofRegs {regs : List Nat} (h : KeepsRegs L M regs) (hsub : regs ⊆ traceRegs) : KeepsFlds L M but :=
  fun _ _ htrace => h.get (mt (@hsub _) htrace)

theorem put (h : KeepsFlds L M but) {f : Fld} {v : Nat} (hf : f ∈ but) : KeepsFlds L (M.put f v) but :=
  fun g hg htrace => (M.get_put_apart v (hg f hf)).trans (h g hg htrace)

theorem bumpCnt (h : KeepsFlds L M but) {f : Fld} (hf : f.reg.addr 0 = CHG_CNT.addr 0) : KeepsFlds L (M.bump f) but :=
  h.trans (.ofRegs (regs := [CHG_CNT.addr 0]) (.put .rfl (List.mem_singleton.mpr hf)) (by decide))

theorem onChg (h : KeepsFlds L M but) {f : Chg → Chg} : KeepsFlds L (M.onChg f) but := h

end KeepsFlds

/-! ### The ledger -/

/-- What the charger holds is as it was, and so is every register but those of the ledger. -/
def LedgerOnly (L M : Leaf) : Prop := M.chg = L.chg ∧ KeepsRegs L M ledgerRegs

namespace LedgerOnly

variable {L M : Leaf}

theorem rfl : LedgerOnly L L := ⟨Eq.refl _, .rfl⟩

theorem put (h : LedgerOnly L M) {f : Fld} {v : Nat} (hf : f.reg.addr 0 ∈ ledgerRegs) : LedgerOnly L (M.put f v) :=
  ⟨h.1, h.2.put hf⟩

theorem bump (h : LedgerOnly L M) {f : Fld} (hf : f.reg.addr 0 ∈ ledgerRegs) : LedgerOnly L (M.bump f) := h.put hf

theorem onLdg (h : LedgerOnly L M) {f : Ldg → Ldg} : LedgerOnly L (M.onLdg f) := h

theorem ite {c : Prop} [Decidable c] {N : Leaf} (hM : LedgerOnly L M) (hN : LedgerOnly L N) :
    LedgerOnly L (if c then M else N) := by
  split
  · exact hM
  · exact hN

/-! ### Records and sessions (R537 to R545) -/

theorem storeRecord (h : LedgerOnly L M) {r : LRec} {pending : Bool} : LedgerOnly L (M.storeRecord r pending) := by
  have head := (h.put (f := LDG_HEAD_RECNO) (v := lrRecno r) (by decide)).bump (f := LDG_CNT_RECORDS) (by decide)
  have signed := ite (c := signedType (lrTyp r)) (head.put (f := LDG_CAPST_RECNO) (v := lrRecno r) (by decide)) head
  exact onLdg (ite (((signed.put (by decide)).put (by decide)).bump (by decide)) ((signed.put (by decide)).put (by decide)))

theorem writeRecord (h : LedgerOnly L M) {typ : Nat} {extra : List (Nat × Nat × Nat)} {unclean : Bool} :
    LedgerOnly L (M.writeRecord typ extra unclean) :=
  ite h (ite (h.put (by decide)) (ite h (ite (h.put (by decide)) h).storeRecord.onLdg))

theorem closeSession (h : LedgerOnly L M) {reason : Nat} : LedgerOnly L (M.closeSession reason) :=
  ite h ((h.writeRecord.put (by decide)).put (by decide))

theorem openSession (h : LedgerOnly L M) {kind : Nat} : LedgerOnly L (M.openSession kind) :=
  ite h (LedgerOnly.writeRecord (((h.put (by decide)).put (by decide)).onLdg))

end LedgerOnly

/-- The end of a charge session in the ledger (R537). -/
theorem Leaf.closeCharge_ledgerOnly (L : Leaf) (reason : Nat) : LedgerOnly L (L.closeCharge reason) :=
  .ite LedgerOnly.rfl.closeSession.openSession .rfl

/-! ### The session -/

/-- The fields in which the charger shows what it does (R360 to R362). -/
def shownFlds : List Fld :=
  [CHG_STAT_HLC, CHG_STAT_I_TGT, CHG_STAT_P_IN, CHG_STAT_P_OUT, CHG_PILOT_I_PILOT, CHG_PILOT_I_HLC, CHG_SEARCH_I_LIM,
    CHG_SEARCH_L, CHG_SEARCH_V0, CHG_SEARCH_V_NOW, CHG_SEARCH_NEXT]

namespace KeepsFlds

variable {L M : Leaf} {but : List Fld} (h : KeepsFlds L M but)

include h

theorem closeCharge {reason : Nat} : KeepsFlds L (M.closeCharge reason) but :=
  h.trans (.ofRegs (M.closeCharge_ledgerOnly reason).2 (by decide))

/-- A session moved to a state stops the tests of its stages (R114). -/
theorem moveChg {st : Nat} (hstate : CHG_STAT_STATE ∈ but) : KeepsFlds L (M.moveChg st) but := by
  unfold Leaf.moveChg
  split
  · exact h
  · exact (h.put hstate).onChg.trans (.ofRegs ((Leaf.stageChanged_keepsRegs _ 7).stageChanged (.head _)) (by decide))

theorem raise {f : Fld} (hf : f ∈ but) : KeepsFlds L (M.raise f) but :=
  (h.put hf).trans (.ofRegs (Leaf.produce_keepsRegs _ _) (by decide))

theorem chgFault {f : Fld} (hf : f ∈ but) : KeepsFlds L (M.chgFault f) but := by
  unfold Leaf.chgFault
  split
  · exact h
  · exact h.raise hf

theorem showCharge (hshown : shownFlds ⊆ but) : KeepsFlds L M.showCharge but := by
  unfold Leaf.showCharge
  have hmem : ∀ f ∈ shownFlds, f ∈ but := fun f => @hshown f
  simp only [shownFlds, List.mem_cons, List.not_mem_nil, or_false, forall_eq_or_imp, forall_eq] at hmem
  obtain ⟨h1, h2, h3, h4, h5, h6, h7, h8, h9, h10, h11⟩ := hmem
  exact ((((((((((h.put h1).put h2).put h3).put h4).put h5).put h6).put h7).put h8).put h9).put h10).put h11

end KeepsFlds

section

variable (L : Leaf)

/-! ### A condition of CHG_FLT -/

theorem Leaf.chgFault_chg (f : Fld) : (L.chgFault f).chg = L.chg := by
  unfold Leaf.chgFault
  split
  · rfl
  · rw [Leaf.raise_parts]

/-- A condition of CHG_FLT shows in its bit (R352). -/
theorem Leaf.chgFault_shows {f : Fld} (hreg : f.reg = CHG_FLT) (hhi : f.hi < 64) (hlo : f.lo ≤ f.hi) :
    (L.chgFault f).get f ≠ 0 := by
  have hapart : f.reg.addr 0 ≠ HRE_CNT.addr 0 ∧ f.reg.addr 0 ≠ HRE_ERR.addr 0 := by
    rw [hreg]
    decide
  obtain ⟨hcnt, herr⟩ := hapart
  unfold Leaf.chgFault
  split
  case isTrue hon => exact bne_iff_ne.mp hon
  case isFalse =>
    rw [L.get_raise f 0 hcnt herr hhi hlo]
    decide

/-! ### A session moved to a state -/

theorem Leaf.stageChanged_chg (g : Nat) : (L.stageChanged g).chg = L.chg := by
  unfold Leaf.stageChanged
  extract_lets _ M
  rw [M.abortTests_regsOnly]

theorem Leaf.moveChg_chg (st : Nat) : (L.moveChg st).chg = { L.chg with stateAt := (L.moveChg st).chg.stateAt } := by
  unfold Leaf.moveChg
  split
  · rfl
  · rw [Leaf.stageChanged_chg, Leaf.stageChanged_chg]
    rfl

theorem Leaf.moveChg_chgState {st : Nat} (hst : st < 16) : (L.moveChg st).chgState = st := by
  unfold Leaf.moveChg
  split
  · assumption
  · have hkept := ((Leaf.stageChanged_keepsRegs ((L.put CHG_STAT_STATE st).onChg fun C => { C with stateAt := L.count })
      7).stageChanged (g := 8) (.head _)).get (f := CHG_STAT_STATE) (i := 0) (by decide)
    exact hkept.trans ((L.get_put CHG_STAT_STATE st 0 (by decide)).trans (Nat.mod_eq_of_lt hst))

/-! ### The end of a session -/

/-- The fields in which the end of a session shows (R360, R362). -/
def endFlds : List Fld := [CHG_STAT_STATE, CHG_STAT_END, CHG_SEARCH_SRCH]

/-- A session that ends moves to its state and shows its reason, and its search is over (R342, R343). -/
theorem Leaf.endSession_keepsFlds (st reason : Nat) :
    KeepsFlds ((L.moveChg st).put CHG_STAT_END reason) (L.endSession st reason) [CHG_SEARCH_SRCH] := by
  unfold Leaf.endSession
  extract_lets M N K
  have hkept : KeepsFlds ((L.moveChg st).put CHG_STAT_END reason) K [CHG_SEARCH_SRCH] :=
    KeepsFlds.rfl.closeCharge.onChg.put (.head _)
  split
  · exact hkept.onChg.onChg
  · exact hkept

theorem Leaf.endSession_chgState {st : Nat} (reason : Nat) (hst : st < 16) : (L.endSession st reason).chgState = st :=
  ((L.endSession_keepsFlds st reason) CHG_STAT_STATE (by decide) (by decide)).trans
    ((Leaf.get_put_apart _ _ (by decide)).trans (L.moveChg_chgState hst))

theorem Leaf.endSession_end (st : Nat) {reason : Nat} (hreason : reason < 16) :
    (L.endSession st reason).get CHG_STAT_END = reason :=
  ((L.endSession_keepsFlds st reason) CHG_STAT_END (by decide) (by decide)).trans
    ((Leaf.get_put _ _ _ _ (by decide)).trans (Nat.mod_eq_of_lt hreason))

theorem KeepsFlds.endSession {K M : Leaf} {but : List Fld} (h : KeepsFlds K M but) {st reason : Nat} (hend : endFlds ⊆ but) :
    KeepsFlds K (M.endSession st reason) but := by
  have hmem : CHG_STAT_STATE ∈ but ∧ CHG_STAT_END ∈ but ∧ CHG_SEARCH_SRCH ∈ but :=
    ⟨hend (.head _), hend (.tail _ (.head _)), hend (.tail _ (.tail _ (.head _)))⟩
  obtain ⟨hstate, hreason, hsearch⟩ := hmem
  exact ((h.moveChg hstate).put hreason).trans fun f hf htrace =>
    M.endSession_keepsFlds st reason f (fun g hg => hf g (List.mem_singleton.mp hg ▸ hsearch)) htrace

theorem Leaf.endSession_off (st reason : Nat) : (L.endSession st reason).chg.off = L.chg.off := by
  have hclosed : (((L.moveChg st).put CHG_STAT_END reason).closeCharge reason).chg.off = L.chg.off := by
    rw [(Leaf.closeCharge_ledgerOnly _ _).1, Leaf.put_chg, Leaf.moveChg_chg]
  unfold Leaf.endSession
  extract_lets M N K
  split
  · exact hclosed
  · exact hclosed

/-! ### A session stopped with S2 open -/

theorem Leaf.get_chgFault {f g : Fld} (hg : g.reg = CHG_FLT) (hf : f.reg.addr 0 ≠ CHG_FLT.addr 0)
    (htrace : f.reg.addr 0 ∉ traceRegs) : (L.chgFault g).get f = L.get f :=
  (KeepsFlds.rfl.chgFault (List.mem_singleton.mpr rfl)) f
    (fun k hk => .inl (by rw [List.mem_singleton.mp hk, hg]; exact hf)) htrace

/-- A session that ends with S2 opened, for a cause that shows in CHG_FLT (R342, R353). -/
theorem Leaf.stopped_shows {st reason : Nat} {f : Fld} (hst : st < 16) (hreason : reason < 16) (hreg : f.reg = CHG_FLT)
    (hhi : f.hi < 64) (hlo : f.lo ≤ f.hi) :
    ((L.openS2.endSession st reason).chgFault f).chgState = st ∧
      ((L.openS2.endSession st reason).chgFault f).get CHG_STAT_END = reason ∧
      ((L.openS2.endSession st reason).chgFault f).get CHG_STAT_S2 = 0 ∧
      ((L.openS2.endSession st reason).chgFault f).get f ≠ 0 := by
  have hopen : (L.openS2.endSession st reason).get CHG_STAT_S2 = 0 :=
    (KeepsFlds.rfl.endSession (List.Subset.refl _) CHG_STAT_S2 (by decide) (by decide)).trans (L.get_put _ _ _ (by decide))
  exact ⟨(Leaf.get_chgFault _ hreg (by decide) (by decide)).trans (Leaf.endSession_chgState _ _ hst),
    (Leaf.get_chgFault _ hreg (by decide) (by decide)).trans (Leaf.endSession_end _ _ hreason),
    (Leaf.get_chgFault _ hreg (by decide) (by decide)).trans hopen, Leaf.chgFault_shows _ hreg hhi hlo⟩

theorem KeepsFlds.abortSession {K M : Leaf} {but : List Fld} (h : KeepsFlds K M but) {st reason : Nat} {f : Fld}
    (hend : endFlds ⊆ but) (hS2 : CHG_STAT_S2 ∈ but) (hf : f ∈ but) : KeepsFlds K (M.abortSession st reason f) but :=
  ((h.onChg.put hS2).onChg.endSession hend).chgFault hf

theorem Leaf.abortSession_off (st reason : Nat) (f : Fld) : (L.abortSession st reason f).chg.off = true := by
  rw [Leaf.abortSession, Leaf.chgFault_chg, Leaf.endSession_off]
  rfl

/-! ### A stop sequence -/

theorem Leaf.stopSequence_keeps (dest reason : Nat) (s2 : Bool) :
    (L.stopSequence dest reason s2).regs = L.regs ∧ (L.stopSequence dest reason s2).chg.hlcAt = L.chg.hlcAt := by
  unfold Leaf.stopSequence
  split <;> exact ⟨rfl, rfl⟩

/-- A stop sequence begins where none runs, and names the state it leads to (R343). -/
theorem Leaf.stopSequence_begins (dest reason : Nat) (s2 : Bool) (hnone : L.chg.stopFrom = none) :
    (L.stopSequence dest reason s2).chg.stopFrom = some L.count ∧ (L.stopSequence dest reason s2).chg.stopTo = dest := by
  rw [Leaf.stopSequence, hnone]
  exact ⟨rfl, rfl⟩

/-! ### START -/

/-- Entry to START shows in the session state and the search alone (R342, R346). -/
theorem Leaf.enterStart_keepsFlds : KeepsFlds L L.enterStart [CHG_STAT_STATE, CHG_SEARCH_SRCH, CHG_SEARCH_BIND] := by
  unfold Leaf.enterStart
  extract_lets M
  have hM : KeepsFlds L M [CHG_STAT_STATE, CHG_SEARCH_SRCH, CHG_SEARCH_BIND] := by
    unfold M
    split
    · exact KeepsFlds.rfl
    · exact (KeepsFlds.rfl.bumpCnt rfl).onChg
  exact ((((hM.moveChg (.head _)).bumpCnt rfl).put (.tail _ (.head _))).put (.tail _ (.tail _ (.head _)))).onChg

theorem Leaf.enterStart_shows : L.enterStart.chgState = 3 ∧ L.enterStart.get CHG_SEARCH_SRCH = 1 := by
  unfold Leaf.enterStart
  extract_lets M
  have hstate : KeepsFlds (M.moveChg 3)
      ((((M.moveChg 3).bump CHG_CNT_SEARCHES).put CHG_SEARCH_SRCH 1).put CHG_SEARCH_BIND 0) [CHG_SEARCH_SRCH, CHG_SEARCH_BIND] :=
    ((KeepsFlds.rfl.bumpCnt rfl).put (.head _)).put (.tail _ (.head _))
  exact ⟨(hstate CHG_STAT_STATE (by decide) (by decide)).trans (M.moveChg_chgState (by decide)),
    (Leaf.get_put_apart _ _ (by decide)).trans (Leaf.get_put _ _ _ _ (by decide))⟩

/-- START begins at the voltage of the last window and at no more than 6 A (R345, R346). -/
theorem Leaf.enterStart_begins :
    L.enterStart.chg.v0 = L.chg.vNow ∧ L.enterStart.chg.off = false ∧ L.enterStart.chg.iLim ≤ 6 := by
  unfold Leaf.enterStart
  extract_lets M
  have hM : M.chg.vNow = L.chg.vNow := by
    unfold M
    split <;> rfl
  refine ⟨?_, rfl, ?_⟩
  · exact (congrArg Chg.vNow (M.moveChg_chg 3)).trans hM
  · have hmin : ((min 60 M.searchLimit.1 : Nat) : Rat) ≤ 60 := by exact_mod_cast min_le_left 60 M.searchLimit.1
    change ((min 60 M.searchLimit.1 : Nat) : Rat) / 10 ≤ 6
    linarith

/-- The windows stand through the entry to START (R345). -/
theorem Leaf.enterStart_window : L.enterStart.chg.win = L.chg.win ∧ L.enterStart.chg.winAt = L.chg.winAt := by
  unfold Leaf.enterStart
  extract_lets M
  have hM : M.chg.win = L.chg.win ∧ M.chg.winAt = L.chg.winAt := by
    unfold M
    split <;> exact ⟨rfl, rfl⟩
  obtain ⟨hwin, hat⟩ := hM
  exact ⟨(congrArg Chg.win (M.moveChg_chg 3)).trans hwin, (congrArg Chg.winAt (M.moveChg_chg 3)).trans hat⟩

/-! ### What the charger shows -/

theorem Leaf.showCharge_chg : L.showCharge.chg = L.chg := rfl

theorem Leaf.showCharge_hlc : L.showCharge.get CHG_STAT_HLC = bit L.hlcValid := by
  have hput : (L.put CHG_STAT_HLC (bit L.hlcValid)).get CHG_STAT_HLC = bit L.hlcValid :=
    (L.get_put _ _ _ (by decide)).trans (by cases L.hlcValid <;> rfl)
  have hrest : KeepsFlds (L.put CHG_STAT_HLC (bit L.hlcValid)) L.showCharge shownFlds.tail := by
    unfold Leaf.showCharge
    exact (((((((((KeepsFlds.rfl.put (by decide)).put (by decide)).put (by decide)).put (by decide)).put (by decide)).put
      (by decide)).put (by decide)).put (by decide)).put (by decide)).put (by decide)
  exact (hrest CHG_STAT_HLC (by decide) (by decide)).trans hput

theorem Leaf.get_showCharge {f : Fld} (hf : ∀ g ∈ shownFlds, f.Apart g) (htrace : f.reg.addr 0 ∉ traceRegs) :
    L.showCharge.get f = L.get f := KeepsFlds.rfl.showCharge (List.Subset.refl _) f hf htrace

end

end Sys2Proof.Machine
end

section
/-! Pilot, cable and input of the charger (R336 to R339, R342, R345, R346). -/

namespace Sys2Proof.Machine

open Sys2Proof

section

variable (L : Leaf)

/-! ### A session plugged in -/

/-- CONNECTED entered from IDLE, the timer cleared (R342, R349). -/
def Leaf.plugIn : Leaf :=
  ((L.moveChg 1).chgFault CHG_FLT_PLUG).clearTimer.onChg fun C => { C with counted := false, weak := 0 }

theorem Leaf.get_plugIn (f : Fld) : L.plugIn.get f = ((L.moveChg 1).chgFault CHG_FLT_PLUG).get f :=
  Leaf.get_regs _ _ _ _ (by rw [Leaf.plugIn, Leaf.onChg_regs, Leaf.clearTimer, Leaf.onChg_regs])

theorem Leaf.plugIn_keepsFlds : KeepsFlds L L.plugIn [CHG_STAT_STATE, CHG_FLT_PLUG] := fun f hf htrace =>
  (L.get_plugIn f).trans ((KeepsFlds.rfl.moveChg (.head _)).chgFault (.tail _ (.head _)) f hf htrace)

theorem Leaf.plugIn_shows : L.plugIn.chgState = 1 ∧ L.plugIn.get CHG_FLT_PLUG ≠ 0 := by
  rw [Leaf.chgState, Leaf.get_plugIn, Leaf.get_plugIn, Leaf.get_chgFault _ rfl (by decide) (by decide)]
  exact ⟨L.moveChg_chgState (by decide), Leaf.chgFault_shows _ rfl (by decide) (by decide)⟩

theorem Leaf.plugIn_chg : L.plugIn.chg.pwm = L.chg.pwm ∧ L.plugIn.chg.pilotLim = L.chg.pilotLim ∧ L.plugIn.chg.equiv = 0 := by
  rw [Leaf.plugIn, Leaf.onChg_chg, Leaf.clearTimer, Leaf.onChg_chg, Leaf.chgFault_chg, Leaf.moveChg_chg]
  exact ⟨rfl, rfl, rfl⟩

/-! ### A pilot measured -/

/-- The limit of a pilot and its band, and whether its duty is invalid, where PWM is present (R337). -/
def pilotReads (p : PilotRx) : Nat × Bool × Bool := if p.pwm then pilotOf p.duty else (0, false, false)

/-- PWM at a frequency in range (R336). -/
def pwmOk (p : PilotRx) : Bool := p.pwm && (decide (980 ≤ p.hz) && decide (p.hz ≤ 1020))

/-- A pilot fault (R336, R337): its plateaus, its duty, or the diode that is missing. -/
def pilotFault (p : PilotRx) (cable : Bool) : Bool :=
  (pilotClass p.high p.low cable == 0 && cable) || pilotClass p.high p.low cable == 3 || pilotClass p.high p.low cable == 6 ||
    (p.pwm && ((pilotReads p).2.2 || (p.pwm && (p.low.all fun v => decide (-11000 < v)))))

/-- What a leaf notes of a settled pilot (R336, R337, R361). -/
def Leaf.notePilot (p : PilotRx) : Leaf :=
  (L.put CHG_STAT_PILOT (pilotClass p.high p.low L.cableOk) |>.put CHG_PILOT_DUTY (min 4095 p.duty)
    |>.put CHG_PILOT_FREQ (min 4095 p.hz) |>.put CHG_PILOT_V_HIGH (min 255 ((p.high.getD 0).toNat / 100))
    |>.put CHG_PILOT_V_LOW (min 255 ((p.low.getD 0).natAbs / 100))).onChg fun C => { C with
      pilotLim := if pwmOk p then (pilotReads p).1 else 0, hlcBand := pwmOk p && (pilotReads p).2.1
      pilotBad := pilotFault p L.cableOk, pwm := pwmOk p }

/-- What a settled pilot does to the session: it plugs one in, ends one, or begins its stop (R336, R337, R342). -/
def Leaf.takePilot (p : PilotRx) : Leaf :=
  let c := pilotClass p.high p.low L.cableOk
  let M := L.notePilot p
  if M.chgState = 0 then
    if L.cableOk && c == 1 && pwmOk p && !pilotFault p L.cableOk then M.plugIn else M
  else if pilotFault p L.cableOk then M.abortSession 1 4 CHG_FLT_PILOT
  else if c = 0 ∨ c = 4 ∨ c = 5 then M.abortSession 0 4 CHG_FLT_PILOT
  else if M.chgLive && (!pwmOk p || decide (M.pilotLimit = 0)) then
    (M.stopSequence 7 0 true).onChg fun C => { C with pauseCause := 9, pauseS2 := true }
  else M

theorem Leaf.notePilot_chgState (p : PilotRx) : (L.notePilot p).chgState = L.chgState := by
  have hkept : KeepsFlds L (L.notePilot p)
      [CHG_STAT_PILOT, CHG_PILOT_DUTY, CHG_PILOT_FREQ, CHG_PILOT_V_HIGH, CHG_PILOT_V_LOW] :=
    KeepsFlds.onChg (((((KeepsFlds.rfl.put (by decide)).put (by decide)).put (by decide)).put (by decide)).put (by decide))
  exact hkept CHG_STAT_STATE (by decide) (by decide)

theorem Leaf.notePilot_shows (p : PilotRx) : (L.notePilot p).get CHG_STAT_PILOT = pilotClass p.high p.low L.cableOk % 8 := by
  have hkept : KeepsFlds (L.put CHG_STAT_PILOT (pilotClass p.high p.low L.cableOk)) (L.notePilot p)
      [CHG_PILOT_DUTY, CHG_PILOT_FREQ, CHG_PILOT_V_HIGH, CHG_PILOT_V_LOW] :=
    KeepsFlds.onChg ((((KeepsFlds.rfl.put (by decide)).put (by decide)).put (by decide)).put (by decide))
  exact (hkept CHG_STAT_PILOT (by decide) (by decide)).trans (L.get_put _ _ _ (by decide))

end

section

variable (s : State) (l : LeafId)

theorem exec_pilotState (p : PilotRx) (hlong : 1600 ≤ p.courses) :
    exec (.pilotState l p) s = .next (s.setLeaf l ((s.leaf l).takePilot p).showCharge) := by
  change guarded s (decide (1600 ≤ p.courses)) _ = _
  rw [guarded, if_pos (decide_eq_true hlong)]
  rfl

/-! ### The pilot -/

theorem pilotState_plugs (p : PilotRx) (hlong : 1600 ≤ p.courses) (hidle : (s.leaf l).chgState = 0)
    (hcable : (s.leaf l).cableOk = true) (hclass : pilotClass p.high p.low true = 1) (hpwm : p.pwm = true)
    (hlow : 980 ≤ p.hz) (hhigh : p.hz ≤ 1020) (hduty : (pilotOf p.duty).2.2 = false)
    (hdiode : ∃ v, p.low = some v ∧ v ≤ -11000) :
    Completes (.pilotState l p) s fun t => OnlyLeaf l s t ∧ (t.leaf l).chgState = 1 ∧ (t.leaf l).get CHG_STAT_PILOT = 1 ∧
      (t.leaf l).get CHG_FLT_PLUG ≠ 0 ∧ (t.leaf l).chg.pwm = true ∧ (t.leaf l).chg.pilotLim = (pilotOf p.duty).1 ∧
      (t.leaf l).chg.equiv = 0 := by
  obtain ⟨v, hv, hnegative⟩ := hdiode
  have hreads : pilotReads p = pilotOf p.duty := if_pos hpwm
  have hok : pwmOk p = true := by simp [pwmOk, hpwm, hlow, hhigh]
  have hgood : pilotFault p true = false := by
    rw [pilotFault, hclass, hpwm, hreads, hduty, hv, Option.all_some, decide_eq_false (Int.not_lt.mpr hnegative), Bool.and_false]
    rfl
  have hplugs : (s.leaf l).takePilot p = ((s.leaf l).notePilot p).plugIn := by
    rw [Leaf.takePilot, Leaf.notePilot_chgState, if_pos hidle, hcable, hclass, hok, hgood]
    rfl
  refine ⟨_, exec_pilotState s l p hlong, .setLeaf, ?_⟩
  rw [State.leaf_setLeaf, Leaf.showCharge_chg, hplugs]
  generalize hM : (s.leaf l).notePilot p = M
  obtain ⟨hconnected, hplug⟩ := M.plugIn_shows
  obtain ⟨hsame, hlim, hequiv⟩ := M.plugIn_chg
  have hshown : M.get CHG_STAT_PILOT = 1 := by rw [← hM, Leaf.notePilot_shows, hcable, hclass]
  have hchg : M.chg.pwm = true ∧ M.chg.pilotLim = (pilotOf p.duty).1 := by
    rw [← hM, ← hreads]
    exact ⟨hok, if_pos hok⟩
  obtain ⟨hpresent, hlimit⟩ := hchg
  exact ⟨(Leaf.get_showCharge _ (by decide) (by decide)).trans hconnected,
    (Leaf.get_showCharge _ (by decide) (by decide)).trans
      ((M.plugIn_keepsFlds CHG_STAT_PILOT (by decide) (by decide)).trans hshown),
    fun hzero => hplug ((Leaf.get_showCharge _ (by decide) (by decide)).symm.trans hzero),
    hsame.trans hpresent, hlim.trans hlimit, hequiv⟩

theorem pilotState_ends (p : PilotRx) (hlong : 1600 ≤ p.courses) (hsession : (s.leaf l).chgState ≠ 0)
    (hcable : (s.leaf l).cableOk = true) (hclass : pilotClass p.high p.low true = 6) :
    Completes (.pilotState l p) s fun t => OnlyLeaf l s t ∧ (t.leaf l).chgState = 1 ∧ (t.leaf l).get CHG_STAT_END = 4 ∧
      (t.leaf l).get CHG_STAT_S2 = 0 ∧ (t.leaf l).get CHG_FLT_PILOT ≠ 0 ∧ (t.leaf l).chg.off = true := by
  have hbad : pilotFault p true = true := by
    rw [pilotFault, hclass]
    rfl
  have haborts : (s.leaf l).takePilot p = ((s.leaf l).notePilot p).abortSession 1 4 CHG_FLT_PILOT := by
    rw [Leaf.takePilot, Leaf.notePilot_chgState, if_neg hsession, hcable, if_pos hbad]
  refine ⟨_, exec_pilotState s l p hlong, .setLeaf, ?_⟩
  rw [State.leaf_setLeaf, Leaf.showCharge_chg, haborts]
  obtain ⟨hstate, hend, hopen, hshown⟩ := ((s.leaf l).notePilot p).chgOff.stopped_shows (st := 1) (reason := 4)
    (f := CHG_FLT_PILOT) (by decide) (by decide) rfl (by decide) (by decide)
  exact ⟨(Leaf.get_showCharge _ (by decide) (by decide)).trans hstate,
    (Leaf.get_showCharge _ (by decide) (by decide)).trans hend,
    (Leaf.get_showCharge _ (by decide) (by decide)).trans hopen,
    fun hzero => hshown ((Leaf.get_showCharge _ (by decide) (by decide)).symm.trans hzero), Leaf.abortSession_off _ _ _ _⟩

theorem pilotState_waits (p : PilotRx) (hshort : p.courses < 1600) : exec (.pilotState l p) s = .next s :=
  guarded_false s (decide_eq_false (Nat.not_le.mpr hshort))

/-! ### The cable -/

theorem cableOf_code (ohm : Nat) : (cableOf ohm).1 < 8 ∧ (ohm ≤ 4000 → (cableOf ohm).1 ≠ 0) := by
  unfold cableOf
  split
  case isTrue hopen => exact ⟨by decide, fun hclosed => absurd hclosed (Nat.not_le.mpr hopen)⟩
  case isFalse => split_ifs <;> exact ⟨by decide, fun _ => by decide⟩

/-- What a leaf notes of the cable (R338). -/
def Leaf.noteCable (L : Leaf) (ohm : Nat) : Leaf :=
  (L.put CHG_STAT_CABLE (cableOf ohm).1).onChg fun C => { C with cableLim := (cableOf ohm).2 }

theorem Leaf.noteCable_shows (L : Leaf) (ohm : Nat) : (L.noteCable ohm).get CHG_STAT_CABLE = (cableOf ohm).1 :=
  (L.get_put _ _ _ (by decide)).trans (Nat.mod_eq_of_lt (cableOf_code ohm).1)

theorem Leaf.noteCable_chgState (L : Leaf) (ohm : Nat) : (L.noteCable ohm).chgState = L.chgState :=
  L.get_put_apart _ (by decide)

/-- A reading without a cable: one restart is permitted again (R350). -/
def Leaf.permitRestart (L : Leaf) : Leaf := (L.put CHG_TMR_RESTARTED 0).onChg fun C => { C with expiry := 0 }

/-- What a cable read from PP does to the session (R338, R342). -/
def Leaf.takeCable (L : Leaf) (ohm : Nat) : Leaf :=
  let M := L.noteCable ohm
  if (cableOf ohm).1 = 0 then
    if M.permitRestart.chgState = 0 then M.permitRestart
    else if M.permitRestart.chgState = 1 then (M.permitRestart.chgOff.openS2).endSession 0 3
    else M.permitRestart.abortSession 0 3 CHG_FLT_PP_LOST
  else if M.chgState = 0 ∧ 1 ≤ (cableOf ohm).1 ∧ (cableOf ohm).1 ≤ 4 ∧ M.get CHG_STAT_PILOT = 1 ∧ M.chg.pwm = true ∧
      M.chg.pilotBad = false then M.plugIn
  else M

theorem exec_proximityReading (ohm n : Nat) (hlong : 16000 ≤ n) :
    exec (.proximityReading l ohm n) s = .next (s.setLeaf l ((s.leaf l).takeCable ohm)) := by
  change guarded s (decide (16000 ≤ n)) _ = _
  rw [guarded, if_pos (decide_eq_true hlong)]
  rfl

theorem Leaf.permitRestart_chgState (L : Leaf) : L.permitRestart.chgState = L.chgState := L.get_put_apart _ (by decide)

theorem proximityReading_clears (ohm n : Nat) (hlong : 16000 ≤ n) (hopen : 4000 < ohm) (hidle : (s.leaf l).chgState = 0) :
    Completes (.proximityReading l ohm n) s fun t => OnlyLeaf l s t ∧ (t.leaf l).get CHG_STAT_CABLE = 0 ∧
      (t.leaf l).chg.cableLim = 0 ∧ (t.leaf l).get CHG_TMR_RESTARTED = 0 ∧ (t.leaf l).chgState = 0 ∧
      KeepsRegs (s.leaf l) (t.leaf l) [CHG_STAT.addr 0, CHG_TMR.addr 0] := by
  have hnone : cableOf ohm = (0, 0) := if_pos hopen
  have hstate : ((s.leaf l).noteCable ohm).permitRestart.chgState = 0 :=
    (Leaf.permitRestart_chgState _).trans ((Leaf.noteCable_chgState _ _).trans hidle)
  have hcleared : (s.leaf l).takeCable ohm = ((s.leaf l).noteCable ohm).permitRestart := by
    rw [Leaf.takeCable, if_pos (by rw [hnone]), if_pos hstate]
  have hcable : ((s.leaf l).noteCable ohm).get CHG_STAT_CABLE = 0 := by rw [Leaf.noteCable_shows, hnone]
  have hnoted : KeepsRegs (s.leaf l) ((s.leaf l).noteCable ohm) [CHG_STAT.addr 0, CHG_TMR.addr 0] := KeepsRegs.rfl.put (.head _)
  have hkept : KeepsRegs (s.leaf l) ((s.leaf l).noteCable ohm).permitRestart [CHG_STAT.addr 0, CHG_TMR.addr 0] :=
    hnoted.put (.tail _ (.head _))
  refine ⟨_, exec_proximityReading s l ohm n hlong, .setLeaf, ?_⟩
  rw [State.leaf_setLeaf, hcleared]
  exact ⟨(Leaf.get_put_apart _ _ (by decide)).trans hcable, congrArg Prod.snd hnone, Leaf.get_put _ _ _ _ (by decide), hstate,
    hkept⟩

theorem proximityReading_ends (ohm n : Nat) (hlong : 16000 ≤ n) (hopen : 4000 < ohm) (hsession : 2 ≤ (s.leaf l).chgState) :
    Completes (.proximityReading l ohm n) s fun t => OnlyLeaf l s t ∧ (t.leaf l).get CHG_STAT_CABLE = 0 ∧
      (t.leaf l).chgState = 0 ∧ (t.leaf l).get CHG_STAT_S2 = 0 ∧ (t.leaf l).get CHG_FLT_PP_LOST ≠ 0 := by
  have hnone : cableOf ohm = (0, 0) := if_pos hopen
  have hstate : ((s.leaf l).noteCable ohm).permitRestart.chgState = (s.leaf l).chgState :=
    (Leaf.permitRestart_chgState _).trans (Leaf.noteCable_chgState _ _)
  have hended : (s.leaf l).takeCable ohm = ((s.leaf l).noteCable ohm).permitRestart.abortSession 0 3 CHG_FLT_PP_LOST := by
    rw [Leaf.takeCable, if_pos (by rw [hnone]), if_neg (by omega), if_neg (by omega)]
  have hcable : ((s.leaf l).noteCable ohm).permitRestart.get CHG_STAT_CABLE = 0 :=
    (Leaf.get_put_apart _ _ (by decide)).trans (((s.leaf l).noteCable_shows ohm).trans (by rw [hnone]))
  refine ⟨_, exec_proximityReading s l ohm n hlong, .setLeaf, ?_⟩
  rw [State.leaf_setLeaf, hended]
  obtain ⟨hidle, -, hS2, hshown⟩ := ((s.leaf l).noteCable ohm).permitRestart.chgOff.stopped_shows (st := 0) (reason := 3)
    (f := CHG_FLT_PP_LOST) (by decide) (by decide) rfl (by decide) (by decide)
  have hkept : KeepsFlds ((s.leaf l).noteCable ohm).permitRestart
      (((s.leaf l).noteCable ohm).permitRestart.abortSession 0 3 CHG_FLT_PP_LOST)
      (CHG_STAT_S2 :: CHG_FLT_PP_LOST :: endFlds) :=
    KeepsFlds.rfl.abortSession (fun _ hf => .tail _ (.tail _ hf)) (.head _) (.tail _ (.head _))
  exact ⟨(hkept CHG_STAT_CABLE (by decide) (by decide)).trans hcable, hidle, hS2, hshown⟩

theorem proximityReading_reads (ohm n : Nat) (hlong : 16000 ≤ n) (hclosed : ohm ≤ 4000)
    (hsession : (s.leaf l).chgState ≠ 0) :
    Completes (.proximityReading l ohm n) s fun t => OnlyLeaf l s t ∧ (t.leaf l).get CHG_STAT_CABLE = (cableOf ohm).1 ∧
      (t.leaf l).chg.cableLim = (cableOf ohm).2 ∧ (t.leaf l).chgState = (s.leaf l).chgState ∧
      KeepsRegs (s.leaf l) (t.leaf l) [CHG_STAT.addr 0] := by
  obtain ⟨-, hcode⟩ := cableOf_code ohm
  have hstate := (s.leaf l).noteCable_chgState ohm
  have hnoted : (s.leaf l).takeCable ohm = (s.leaf l).noteCable ohm := by
    rw [Leaf.takeCable, if_neg (hcode hclosed), if_neg fun ⟨hidle, _⟩ => hsession (hstate.symm.trans hidle)]
  refine ⟨_, exec_proximityReading s l ohm n hlong, .setLeaf, ?_⟩
  rw [State.leaf_setLeaf, hnoted]
  exact ⟨Leaf.noteCable_shows _ _, rfl, hstate, KeepsRegs.rfl.put (.head _)⟩

theorem proximityReading_waits (ohm n : Nat) (hshort : n < 16000) : exec (.proximityReading l ohm n) s = .next s :=
  guarded_false s (decide_eq_false (Nat.not_le.mpr hshort))

/-! ### The input -/

/-- The phases in range (R345): three, or the first alone where single-phase operation is permitted. -/
def Leaf.phasesIn (L : Leaf) (a b c : PhaseWin) : Nat :=
  if [a, b, c].all phaseOk then 3 else if phaseOk a && !phaseOk b && !phaseOk c && L.on CHG_CTRL_ONE_PH then 1 else 0

/-- A window in REQUEST is noted; with a phase in range the session enters START (R342, R345). -/
theorem exec_acWindow_request (a b c : PhaseWin) (hnone : (s.leaf l).chg.winAt = none) (hrequest : (s.leaf l).chgState = 2) :
    ∃ (M : Leaf) (sag : Chg → Option Course), M.regs = (s.leaf l).regs ∧ M.chg.win = [a, b, c] ∧
      M.chg.winAt = some (s.leaf l).count ∧
      ((s.leaf l).phasesIn a b c = 3 → M.chg.vNow = ((min (min a.vMv b.vMv) c.vMv : Nat) : Rat) / 1000) ∧
      exec (.acWindow l a b c) s = .next (s.setLeaf l ((if (s.leaf l).phasesIn a b c ≠ 0 then
        (M.put CHG_STAT_PHASES ((s.leaf l).phasesIn a b c)).enterStart else M).onChg fun C =>
          { C with sagFrom := sag C }).showCharge) := by
  rw [show exec (.acWindow l a b c) s = execAcWindow l a b c s from rfl]
  unfold execAcWindow
  extract_lets L ws phases used vNow pIn eta K st v0 sag M _ N weak
  have hN : N = if phases ≠ 0 then (M.put CHG_STAT_PHASES phases).enterStart else M := if_pos hrequest
  refine ⟨M, fun C => if weak then some (C.sagFrom.getD N.count) else none, rfl, rfl, rfl, fun hthree => ?_, ?_⟩
  · have hphases : phases = 3 := hthree
    have hused : used = [a, b, c] := by
      unfold used
      rw [if_pos hrequest, hphases]
      rfl
    have hlowest : (used.map (·.vMv)).foldl min ((used.head?.map (·.vMv)).getD 0) = min (min a.vMv b.vMv) c.vMv := by
      rw [hused]
      change min (min (min a.vMv a.vMv) b.vMv) c.vMv = _
      rw [min_self]
    change ((_ : Nat) : Rat) / 1000 = _
    rw [hlowest]
  · rw [guarded, if_pos (by rw [hnone]; rfl), hN]
    rfl

theorem acWindow_starts (a b c : PhaseWin) (hnone : (s.leaf l).chg.winAt = none) (hrequest : (s.leaf l).chgState = 2)
    (ha : phaseOk a = true) (hb : phaseOk b = true) (hc : phaseOk c = true) :
    Completes (.acWindow l a b c) s fun t => OnlyLeaf l s t ∧ (t.leaf l).chgState = 3 ∧ (t.leaf l).get CHG_STAT_PHASES = 3 ∧
      (t.leaf l).get CHG_SEARCH_SRCH = 1 ∧ (t.leaf l).chg.win = [a, b, c] ∧ (t.leaf l).chg.winAt = some (s.leaf l).count ∧
      (t.leaf l).chg.v0 = ((min (min a.vMv b.vMv) c.vMv : Nat) : Rat) / 1000 ∧ (t.leaf l).chg.iLim ≤ 6 := by
  have hthree : (s.leaf l).phasesIn a b c = 3 := if_pos (by simp [ha, hb, hc])
  obtain ⟨M, sag, -, hwin, hat, hlowest, hexec⟩ := exec_acWindow_request s l a b c hnone hrequest
  rw [hthree, if_pos (by decide)] at hexec
  refine ⟨_, hexec, .setLeaf, ?_⟩
  rw [State.leaf_setLeaf, Leaf.showCharge_chg]
  generalize hK : M.put CHG_STAT_PHASES 3 = K
  have hphases : K.get CHG_STAT_PHASES = 3 := hK ▸ M.get_put _ _ _ (by decide)
  have hchg : K.chg = M.chg := hK ▸ rfl
  obtain ⟨hstart, hsearch⟩ := K.enterStart_shows
  obtain ⟨hv0, -, hcurrent⟩ := K.enterStart_begins
  obtain ⟨hwindow, htime⟩ := K.enterStart_window
  rw [hchg] at hv0 hwindow htime
  exact ⟨(Leaf.get_showCharge _ (by decide) (by decide)).trans hstart,
    (Leaf.get_showCharge _ (by decide) (by decide)).trans
      ((K.enterStart_keepsFlds CHG_STAT_PHASES (by decide) (by decide)).trans hphases),
    (Leaf.get_showCharge _ (by decide) (by decide)).trans hsearch, hwindow.trans hwin, htime.trans hat,
    hv0.trans (hlowest hthree), hcurrent⟩

theorem acWindow_refuses (a b c : PhaseWin) (hnone : (s.leaf l).chg.winAt = none) (hrequest : (s.leaf l).chgState = 2)
    (ha : phaseOk a = false) :
    Completes (.acWindow l a b c) s fun t => OnlyLeaf l s t ∧ (t.leaf l).chgState = 2 ∧ (t.leaf l).chg.win = [a, b, c] := by
  have hout : (s.leaf l).phasesIn a b c = 0 := by simp [Leaf.phasesIn, ha]
  obtain ⟨M, sag, hregs, hwin, -, -, hexec⟩ := exec_acWindow_request s l a b c hnone hrequest
  rw [hout, if_neg (by decide)] at hexec
  refine ⟨_, hexec, .setLeaf, ?_⟩
  rw [State.leaf_setLeaf, Leaf.showCharge_chg]
  exact ⟨(Leaf.get_showCharge _ (by decide) (by decide)).trans ((Leaf.get_regs _ _ _ _ hregs).trans hrequest), hwin⟩

theorem acWindow_waits (a b c : PhaseWin) (x : Course) (hat : (s.leaf l).chg.winAt = some x)
    (hshort : since (s.leaf l).count x < 16000) : exec (.acWindow l a b c) s = .next s := by
  refine guarded_false s ?_
  rw [hat, Option.any_some, decide_eq_true hshort, Bool.not_true]

/-! ### HLC_IMAX -/

theorem hlcExpiry_expires (c : Course) (hat : (s.leaf l).chg.hlcAt = some c) (hlong : 160000 ≤ since (s.leaf l).count c) :
    Completes (.hlcExpiry l) s fun t => OnlyLeaf l s t ∧ (t.leaf l).chg.hlcAt = none ∧ (t.leaf l).get CHG_STAT_HLC = 0 ∧
      (t.leaf l).chgState = (s.leaf l).chgState ∧
      ((s.leaf l).chg.hlcBand = true → (s.leaf l).chgLive = true → (s.leaf l).chg.stopFrom = none →
        (t.leaf l).chg.stopFrom = some (s.leaf l).count ∧ (t.leaf l).chg.stopTo = 7) := by
  change Ends (execHlcExpiry l s) _
  unfold execHlcExpiry
  extract_lets L M N
  have hN : N.regs = L.regs ∧ N.chg.hlcAt = none := by
    unfold N
    split
    · exact M.stopSequence_keeps 7 0 true
    · exact ⟨rfl, rfl⟩
  obtain ⟨hregs, hexpired⟩ := hN
  have hinvalid : N.hlcValid = false := by rw [Leaf.hlcValid, hexpired, Option.isSome_none]
  refine Ends.guardedTrue (by rw [hat, Option.any_some, decide_eq_true hlong]) ⟨.setLeaf, ?_⟩
  rw [State.leaf_setLeaf, Leaf.showCharge_chg, Leaf.showCharge_hlc, hinvalid]
  refine ⟨hexpired, rfl, (Leaf.get_showCharge _ (by decide) (by decide)).trans (Leaf.get_regs _ _ _ _ hregs),
    fun hband hlive hnone => ?_⟩
  have hstops : N = (M.stopSequence 7 0 true).onChg fun C => { C with pauseCause := 9, pauseS2 := true } :=
    if_pos (by rw [Bool.and_eq_true]; exact ⟨hband, hlive⟩)
  rw [hstops]
  exact M.stopSequence_begins 7 0 true hnone

end

/-- Settles O41: a settled pilot and a settled cable are noted before they plug a session in or end it, a window in REQUEST is
noted before it begins START, and HLC_IMAX expires with a stop sequence where the pilot's band needs it. -/
theorem chargerInputs : Obligations.charger_inputs :=
  ⟨pilotState_plugs, pilotState_ends, pilotState_waits, proximityReading_clears, proximityReading_ends,
    proximityReading_reads, proximityReading_waits, acWindow_starts, acWindow_refuses, acWindow_waits, hlcExpiry_expires⟩

end Sys2Proof.Machine
end

section
/-! Timeouts and restarts of the charger (R342, R350, R353). -/

namespace Sys2Proof.Machine

open Sys2Proof

section

variable (s : State) (l : LeafId)

/-! ### Timeouts -/

theorem evseTimeout_ends (hstate : (s.leaf l).chgState = 2)
    (hlong : 800000 ≤ since (s.leaf l).count (s.leaf l).chg.stateAt) :
    Completes (.evseTimeout l) s fun t => OnlyLeaf l s t ∧ (t.leaf l).chgState = 1 ∧ (t.leaf l).get CHG_STAT_S2 = 0 ∧
      (t.leaf l).get CHG_FLT_EVSE_TIMEOUT ≠ 0 := by
  refine Ends.guardedTrue (by simp [hstate, hlong]) ⟨.setLeaf, ?_⟩
  rw [State.leaf_setLeaf]
  obtain ⟨hconnected, -, hopen, hshown⟩ := (s.leaf l).stopped_shows (st := 1) (reason := 0) (f := CHG_FLT_EVSE_TIMEOUT)
    (by decide) (by decide) rfl (by decide) (by decide)
  exact ⟨hconnected, hopen, hshown⟩

theorem evseTimeout_waits (hshort : since (s.leaf l).count (s.leaf l).chg.stateAt < 800000) :
    exec (.evseTimeout l) s = .next s := by
  refine guarded_false s ?_
  rw [decide_eq_false (Nat.not_le.mpr hshort), Bool.and_false]

theorem acLossTimeout_ends (hstate : (s.leaf l).chgState = 7) (hcause : (s.leaf l).chg.pauseCause = 4)
    (hlong : 800000 ≤ since (s.leaf l).count (s.leaf l).chg.lossAt) :
    Completes (.acLossTimeout l) s fun t => OnlyLeaf l s t ∧ (t.leaf l).chgState = 9 ∧ (t.leaf l).get CHG_STAT_END = 8 ∧
      (t.leaf l).get CHG_STAT_S2 = 0 ∧ (t.leaf l).get CHG_FLT_AC_LOSS ≠ 0 := by
  refine Ends.guardedTrue (by simp [hstate, hcause, hlong]) ⟨.setLeaf, ?_⟩
  rw [State.leaf_setLeaf]
  exact (s.leaf l).chgOff.stopped_shows (by decide) (by decide) rfl (by decide) (by decide)

/-! ### The restart after a fault of the PFC or the LLC -/

theorem chargerRestart_starts (c : Course) (hstate : (s.leaf l).chgState = 7)
    (hcause : ((s.leaf l).chg.pauseCause = 7 ∧ (s.leaf l).chg.pfcOvAt = some c) ∨
      ((s.leaf l).chg.pauseCause = 8 ∧ (s.leaf l).chg.llcOcAt = some c))
    (hlong : 16000 ≤ since (s.leaf l).count c) :
    Completes (.chargerRestart l) s fun t => OnlyLeaf l s t ∧ (t.leaf l).chgState = 3 ∧ (t.leaf l).get CHG_SEARCH_SRCH = 1 ∧
      (t.leaf l).chg.v0 = (s.leaf l).chg.vNow ∧ (t.leaf l).chg.off = false := by
  change Ends (execChargerRestart l s) _
  unfold execChargerRestart
  extract_lets L at_
  have hat : at_ = some c := by
    unfold at_
    obtain ⟨hpause, hfault⟩ | ⟨hpause, hfault⟩ := hcause
    · rw [hpause]
      exact hfault
    · rw [hpause]
      exact hfault
  refine Ends.guardedTrue (by simp [L, hstate, hat, hlong]) ⟨.setLeaf, ?_⟩
  rw [State.leaf_setLeaf]
  obtain ⟨hstart, hsearch⟩ := L.enterStart_shows
  obtain ⟨hv0, hon, -⟩ := L.enterStart_begins
  exact ⟨hstart, hsearch, hv0, hon⟩

end

/-! ### UNLOCK -/

section

variable (L : Leaf)

/-- LOCKED cleared: a session that stood in LOCKED goes to the state its cable gives, and any other stays (R350). -/
theorem Leaf.unlockCharger_clears : L.unlockCharger.get CHG_FLT_LOCKED = 0 ∧
    (L.chgState = 10 → L.unlockCharger.chgState = if L.cableOk then 1 else 0) ∧
    (L.chgState ≠ 10 → KeepsRegs L L.unlockCharger [CHG_FLT.addr 0]) := by
  have hkept : KeepsRegs L (L.put CHG_FLT_LOCKED 0) [CHG_FLT.addr 0] := KeepsRegs.rfl.put (.head _)
  have hclear : (L.put CHG_FLT_LOCKED 0).get CHG_FLT_LOCKED = 0 := L.get_put _ _ _ (by decide)
  have hstate : (L.put CHG_FLT_LOCKED 0).chgState = L.chgState := hkept.get (by decide)
  have hcable : (L.put CHG_FLT_LOCKED 0).cableOk = L.cableOk := by
    rw [Leaf.cableOk, hkept.get (by decide), Leaf.cableOk]
  unfold Leaf.unlockCharger
  extract_lets M K
  split
  case isTrue hlocked =>
    have hK : K.cableOk = L.cableOk := hcable
    have hended (st : Nat) : (K.endSession st 0).get CHG_FLT_LOCKED = 0 :=
      ((KeepsFlds.rfl (L := K)).endSession (List.Subset.refl _) CHG_FLT_LOCKED (by decide) (by decide)).trans hclear
    rw [hK]
    refine ⟨?_, fun _ => ?_, fun hother => absurd (hstate.symm.trans hlocked) hother⟩
    · split
      · exact hended 1
      · exact hended 0
    · split
      · exact K.endSession_chgState 0 (by decide)
      · exact K.endSession_chgState 0 (by decide)
  case isFalse hother => exact ⟨hclear, fun hlocked => absurd (hstate.trans hlocked) hother, fun _ => hkept⟩

end

section

variable (s : State) (l : LeafId)

theorem unlock_clears (who : Ident) (hmode : s.mode = .workshop) :
    Completes (.unlock l who) s fun t => OnlyLeaves s t ∧ ∀ m : LeafId, (t.leaf m).get CHG_FLT_LOCKED = 0 ∧
      ((s.leaf m).chgState = 10 → (t.leaf m).chgState = (if (s.leaf m).cableOk then 1 else 0)) ∧
      ((s.leaf m).chgState ≠ 10 → KeepsRegs (s.leaf m) (t.leaf m) [CHG_FLT.addr 0]) := by
  have hexec : exec (.unlock l who) s = .next (s.both Leaf.unlockCharger) := by
    change execUnlock l who s = _
    rw [execUnlock, hmode, if_pos (by rfl)]
  refine ⟨_, hexec, OnlyLeaves.rfl.both, fun m => ?_⟩
  rw [State.leaf_both]
  exact (s.leaf m).unlockCharger_clears

theorem unlock_discards (who : Ident) (hmode : s.mode ≠ .workshop) :
    Completes (.unlock l who) s fun t => OnlyLeaf l s t ∧ KeepsRegs (s.leaf l) (t.leaf l) reportRegs ∧
      (t.leaf l).chg = (s.leaf l).chg := by
  have hexec : exec (.unlock l who) s = .next (s.on l fun L => L.discard (CHG_CMD.addr 0) who.val (2 ^ 63)) := by
    change execUnlock l who s = _
    rw [execUnlock, if_neg (by simpa using hmode), onLeaf]
  refine ⟨_, hexec, .on, ?_⟩
  rw [State.leaf_on]
  refine ⟨(Leaf.discard_rests ..).2, ?_⟩
  rw [Leaf.discard, Leaf.discardEvent, Leaf.event_parts]

end

/-- Settles O43: a timeout ends its session with S2 open and its cause shown, a restart enters START, and UNLOCK writes LOCKED
in WORKSHOP alone. -/
theorem chargerTimeouts : Obligations.charger_timeouts :=
  ⟨evseTimeout_ends, evseTimeout_waits, acLossTimeout_ends, chargerRestart_starts, unlock_clears, unlock_discards⟩

end Sys2Proof.Machine
end

section
/-! The actuator stages: the frames they take, their fallback, what they do by themselves, and their STATUS frame (R365 to
R368, R378). -/

namespace Sys2Proof.Machine

open Sys2Proof

/-! ### A stage changed -/

section

variable (s : State) (a : Fin 3) (f : Stage → Stage)

theorem State.stage_onStage : (s.onStage a f).stage a = f (s.stage a) := pick_alter_same _ _ _ a.isLt

/-- The stages depend on the one changed alone. -/
theorem State.onStage_congr {f g : Stage → Stage} (h : f (s.stage a) = g (s.stage a)) : s.onStage a f = s.onStage a g :=
  congrArg (fun c => { s with stages := s.stages.setIfInBounds a c }) h

theorem State.stage_onStage_other (b : Nat) (h : b ≠ a.val) : (s.onStage a f).stage b = s.stage b :=
  pick_setIfInBounds_other _ _ _ _ h

end

/-! ### Frames -/

/-- A frame that a stage can apply in its present course (R220, R366): its link is up, its delimiter and its CRC hold, and its
tag is that of the course. -/
structure StageLegible (s : State) (rx : StageRx) : Prop where
  up : (pick (s.stage rx.stage).tb rx.link.num).lost = false
  delim : rx.delim = 0xE7#8
  crc : bodyCrc rx.body = rx.crc.toNat
  tag : BitVec.ofNat 16 (fb rx.body 67 52) = (pick (s.stage rx.stage).tb rx.link.num).tag

/-- A body that writes one of the words of ACT_CTRL or ACT_CFG (R367). -/
def isStageWrite (b : BitVec 72) : Bool := fb b 71 70 == 2 && fb b 51 48 == 1 && decide (fb b 47 40 ≤ 3)

/-- A stage after the first frame of its key for the present course: a COURSE body is in force, a WRITE waits for the next
boundary (R366, R367). -/
def Stage.takeFrame (c : Stage) (rx : StageRx) : Stage :=
  let c : Stage := { c with
    applied := c.applied ++
      [{ kind := (keyOf rx.body).1, key := (keyOf rx.body).2, course := c.n, link := rx.link, body := rx.body }]
    tb := alter c.tb rx.link.num fun t => { t with lastFrame := some c.n } }
  if isStageWrite rx.body then { c with maint := c.maint ++ [(c.n + 1, fb rx.body 47 40, fb rx.body 31 0)] }
  else { c with
    lastValid := some c.n, body := rx.body, fallback := false, tripped := c.tripped && !abFloats rx.body }

section

variable (s : State) (rx : StageRx)

theorem exec_actuatorFrame_first (h : StageLegible s rx)
    (hbody : (fb rx.body 71 70 = 0 ∧ abOk rx.body = true) ∨ isStageWrite rx.body = true)
    (hfirst : ∀ x ∈ (s.stage rx.stage).applied, x.course = (s.stage rx.stage).n → x.kind ≠ (keyOf rx.body).1) :
    exec (.actuatorFrame rx) s = .next (s.onStage rx.stage fun c => c.takeFrame rx) := by
  change execActuatorFrame rx s = _
  unfold execActuatorFrame
  extract_lets a c t b tag typ write valid course
  have hcourse : course = c.n := if_pos (beq_iff_eq.mpr h.tag)
  have hvalid : valid = true := by
    have hframe : (typ == 0 && abOk b || write) = true := by
      obtain ⟨htype, hok⟩ | hwrite := hbody
      · simp [typ, b, htype, hok]
      · exact Bool.or_eq_true_iff.mpr (.inr hwrite)
    simp [valid, hframe, t, c, a, b, tag, h.up, h.delim, h.crc, h.tag]
  rcases hkey : keyOf rx.body with ⟨kd, key⟩
  rw [hkey] at hfirst
  have hnew : (c.applied.any fun x => x.kind == kd && (kd == 0 || x.key == key) && x.course == c.n) = false := by
    refine List.any_eq_false.mpr fun x hx hsame => ?_
    simp only [Bool.and_eq_true, beq_iff_eq] at hsame
    obtain ⟨⟨hkind, -⟩, hnow⟩ := hsame
    exact hfirst x hx hnow hkind
  dsimp only
  rw [hcourse, hvalid, hnew, guarded, if_pos (show (true && !false) = true from rfl)]
  refine congrArg Host.Outcome.next (s.onStage_congr rx.stage ?_)
  have hwrite : write = isStageWrite rx.body := rfl
  rw [Stage.takeFrame, hwrite]
  dsimp only
  rw [hkey]
  split
  · rw [if_pos (Nat.le_refl _)]
  · exact if_pos rfl

/-- A frame whose link, delimiter or CRC does not hold is discarded (R220, R221). -/
theorem actuatorFrame_damaged (h : (pick (s.stage rx.stage).tb rx.link.num).lost = true ∨ rx.delim ≠ 0xE7#8 ∨
    bodyCrc rx.body ≠ rx.crc.toNat) : exec (.actuatorFrame rx) s = .next s := by
  change execActuatorFrame rx s = _
  unfold execActuatorFrame
  extract_lets a c t b tag typ write valid course
  have hvalid : valid = false := by
    obtain hlost | hdelim | hcrc := h
    · simp [valid, t, c, a, hlost]
    · simp [valid, hdelim]
    · simp [valid, b, hcrc]
  split
  exact guarded_false s (by rw [hvalid, Bool.false_and])

theorem actuatorFrame_course (hup : (pick (s.stage rx.stage).tb rx.link.num).lost = false) (hdelim : rx.delim = 0xE7#8)
    (hcrc : bodyCrc rx.body = rx.crc.toNat)
    (htag : BitVec.ofNat 16 (fb rx.body 67 52) = (pick (s.stage rx.stage).tb rx.link.num).tag)
    (htype : fb rx.body 71 70 = 0) (hok : abOk rx.body = true)
    (hfirst : ∀ x ∈ (s.stage rx.stage).applied, x.course = (s.stage rx.stage).n → x.kind ≠ 0) :
    Completes (.actuatorFrame rx) s fun t => t = { s with stages := t.stages } ∧ (t.stage rx.stage).body = rx.body ∧
      (t.stage rx.stage).fallback = false ∧ (t.stage rx.stage).lastValid = some (s.stage rx.stage).n ∧
      (t.stage rx.stage).tripped = ((s.stage rx.stage).tripped && !abFloats rx.body) ∧
      ∀ b, b ≠ rx.stage.val → t.stage b = s.stage b := by
  have hkey : (keyOf rx.body).1 = 0 := by simp [keyOf, htype]
  have hcourse : isStageWrite rx.body = false := by simp [isStageWrite, htype]
  refine ⟨_, exec_actuatorFrame_first s rx ⟨hup, hdelim, hcrc, htag⟩ (.inl ⟨htype, hok⟩) (hkey ▸ hfirst), rfl, ?_⟩
  rw [State.stage_onStage, Stage.takeFrame, hcourse]
  exact ⟨rfl, rfl, rfl, rfl, s.stage_onStage_other rx.stage _⟩

theorem actuatorFrame_write (hup : (pick (s.stage rx.stage).tb rx.link.num).lost = false) (hdelim : rx.delim = 0xE7#8)
    (hcrc : bodyCrc rx.body = rx.crc.toNat)
    (htag : BitVec.ofNat 16 (fb rx.body 67 52) = (pick (s.stage rx.stage).tb rx.link.num).tag)
    (htype : fb rx.body 71 70 = 2) (hop : fb rx.body 51 48 = 1) (hitem : fb rx.body 47 40 ≤ 3)
    (hfirst : ∀ x ∈ (s.stage rx.stage).applied, x.course = (s.stage rx.stage).n → x.kind ≠ 2) :
    Completes (.actuatorFrame rx) s fun t => t = { s with stages := t.stages } ∧
      (t.stage rx.stage).maint = (s.stage rx.stage).maint ++ [((s.stage rx.stage).n + 1, fb rx.body 47 40, fb rx.body 31 0)] ∧
      (t.stage rx.stage).body = (s.stage rx.stage).body := by
  have hkey : (keyOf rx.body).1 = 2 := by simp [keyOf, htype]
  have hwrite : isStageWrite rx.body = true := by simp [isStageWrite, htype, hop, hitem]
  refine ⟨_, exec_actuatorFrame_first s rx ⟨hup, hdelim, hcrc, htag⟩ (.inr hwrite) (hkey ▸ hfirst), rfl, ?_⟩
  rw [State.stage_onStage, Stage.takeFrame, hwrite]
  exact ⟨rfl, rfl⟩

end

/-! ### What a stage does by itself -/

section

variable (s : State) (a : Fin 3)

theorem actuatorFallback_floats (h : ∀ n, (s.stage a).lastValid = some n → n + 2 ≤ (s.stage a).n) :
    Completes (.actuatorFallback a) s fun t => t = { s with stages := t.stages } ∧ (t.stage a).fallback = true ∧
      (t.stage a).body = 0 ∧ ∀ b, b ≠ a.val → t.stage b = s.stage b := by
  change Ends (execActuatorFallback a s) _
  unfold execActuatorFallback
  extract_lets c out
  have hout : out = true := by
    unfold out
    split
    next n hlast => exact decide_eq_true (h n hlast)
    next => rfl
  refine Ends.guardedTrue hout ⟨rfl, ?_⟩
  rw [State.stage_onStage]
  exact ⟨rfl, rfl, s.stage_onStage_other a _⟩

theorem actuatorFallback_waits (n : Nat) (hlast : (s.stage a).lastValid = some n) (hsoon : (s.stage a).n < n + 2) :
    exec (.actuatorFallback a) s = .next s := by
  change execActuatorFallback a s = _
  unfold execActuatorFallback
  dsimp only
  rw [hlast]
  exact guarded_false s (decide_eq_false (Nat.not_le.mpr hsoon))

theorem hardOvercurrent_opens (mA : Nat) : (40000 < mA → Completes (.hardOvercurrent a mA) s fun t =>
      t = { s with stages := t.stages } ∧ t.stage a = { s.stage a with tripped := true, hardOc := true } ∧
      ∀ b, b ≠ a.val → t.stage b = s.stage b) ∧
    (mA ≤ 40000 → exec (.hardOvercurrent a mA) s = .next s) :=
  ⟨fun hover => Ends.guardedTrue (decide_eq_true hover)
      ⟨rfl, s.stage_onStage a _, s.stage_onStage_other a _⟩,
    fun hunder => guarded_false s (decide_eq_false (Nat.not_lt.mpr hunder))⟩

theorem bootstrapUndervoltage_blanks (p : Fin 3) (tick : Fin 4000) (mv : Nat) (hlow : mv < 8000) :
    Completes (.bootstrapUndervoltage a p tick mv) s fun t => t = { s with stages := t.stages } ∧
      (t.stage a).bstUv.getLsbD (2 - p.val) = true ∧ (t.stage a).body = (s.stage a).body ∧
      (tick.val < abCt (s.stage a).body → abModeA (s.stage a).body p = 2 → (s.stage a).fallback = false →
        (s.stage a).tripped = false → (t.stage a).blank = some tick.val ∧ (t.stage a).refresh = true) := by
  have hbit (u : BitVec 3) : (u ||| (1#3 <<< (2 - p.val))).getLsbD (2 - p.val) = true := by
    have hp : 2 - p.val < 3 := by omega
    simp [hp]
  change Ends (execBootstrapUndervoltage a p tick mv s) _
  unfold execBootstrapUndervoltage
  extract_lets c m
  refine Ends.guardedTrue (decide_eq_true hlow) ⟨rfl, ?_⟩
  rw [State.stage_onStage]
  dsimp only
  split
  next => exact ⟨hbit _, rfl, fun _ _ _ _ => ⟨rfl, rfl⟩⟩
  next hother =>
    refine ⟨hbit _, rfl, fun htick hmode hrun htrip => absurd ⟨?_, hrun, htrip⟩ hother⟩
    exact (if_pos htick).trans hmode

end

/-! ### STATUS -/

section

variable (s : State) (a : Fin 3)

/-- A leaf holds a STATUS body, unread, that shows what the course that ended was (R368). -/
def Leaf.HoldsStatus (L : Leaf) (a : Nat) (ended : BitVec 128) : Prop :=
  (pick L.act.actrs a).fresh = true ∧ (pick L.act.actrs a).rx &&& ended = ended

theorem Leaf.takeStage_holds (L : Leaf) (ended read : BitVec 128) : (L.takeStage a (ended ||| read)).HoldsStatus a ended := by
  have htaken : pick (L.takeStage a (ended ||| read)).act.actrs a =
      { pick L.act.actrs a with rx := ended ||| read, fresh := true } := pick_alter_same _ _ _ a.isLt
  rw [Leaf.HoldsStatus, htaken]
  refine ⟨rfl, ?_⟩
  ext i
  simp +contextual

theorem actuatorStatus_reaches (ok0 ok1 : Bool) (m : StageMeas) (hdue : (s.stage a).due = true) :
    Completes (.actuatorStatus a ok0 ok1 m) s fun t => (t.stage a).due = false ∧
      (∀ l : LeafId, (t.leaf l).regs = (s.leaf l).regs) ∧
      (ok0 = false → t.leaf0 = s.leaf0) ∧ (ok1 = false → t.leaf1 = s.leaf1) ∧
      (ok0 = true → t.leaf0.HoldsStatus a (s.stage a).ended) ∧ (ok1 = true → t.leaf1.HoldsStatus a (s.stage a).ended) := by
  change Ends (execActuatorStatus a ok0 ok1 m s) _
  unfold execActuatorStatus
  extract_lets i r c zc b u v
  have hr : r = s := if_pos hdue
  clear_value r
  subst hr
  have hsent : (u.stage a).due = false := congrArg Stage.due (r.stage_onStage a _)
  have htaken (L : Leaf) : (L.takeStage a b).HoldsStatus a (r.stage a).ended := L.takeStage_holds a _ _
  refine Ends.next ?_
  cases ok0
  · cases ok1
    · exact ⟨hsent, fun _ => rfl, fun _ => rfl, fun _ => rfl, nofun, nofun⟩
    · exact ⟨hsent, fun l => by cases l <;> rfl, fun _ => rfl, nofun, nofun, fun _ => htaken _⟩
  · cases ok1
    · exact ⟨hsent, fun l => by cases l <;> rfl, nofun, fun _ => rfl, fun _ => htaken _, nofun⟩
    · exact ⟨hsent, fun l => by cases l <;> rfl, nofun, nofun, fun _ => htaken _, fun _ => htaken _⟩

end

/-- Settles O38: the first frame of a course is applied, a stage that hears none falls back, what it detects by itself opens
its switches, and its STATUS reaches each leaf whose link carried it. -/
theorem actuatorStages : Obligations.actuator_stages :=
  ⟨actuatorFrame_course, actuatorFrame_damaged, actuatorFrame_write, actuatorFallback_floats, actuatorFallback_waits,
    hardOvercurrent_opens, bootstrapUndervoltage_blanks, actuatorStatus_reaches⟩

end Sys2Proof.Machine
end

section
/-! The parts of an actuator's moves (R373 to R375, R379 to R386): the fields each writes, and what it leaves of the
actuators. -/

namespace Sys2Proof.Machine

open Sys2Proof

/-! ### Fields kept -/

/-- A field of register `i` of its family shares no bit with another field, given with its register (R11). -/
abbrev Fld.ApartAt (f : Fld) (i : Nat) (g : Fld × Nat) : Prop :=
  f.reg.addr i ≠ g.1.reg.addr g.2 ∨ (f.reg = g.1.reg ∧ i = g.2 ∧ (f.hi < g.1.lo ∨ g.1.hi < f.lo))

/-- Every field of a leaf is as it was, but for those listed: `KeepsFlds` for fields of families of registers. -/
def KeepsFldsAt (L M : Leaf) (but : List (Fld × Nat)) : Prop :=
  ∀ (f : Fld) (i : Nat), (∀ g ∈ but, f.ApartAt i g) → M.get f i = L.get f i

/-- A field put leaves the fields apart from it, whatever their registers. -/
theorem Leaf.get_put_apartAt (L : Leaf) {f : Fld} {i : Nat} {g : Fld × Nat} (v : Nat) (h : f.ApartAt i g) :
    (L.put g.1 v g.2).get f i = L.get f i := by
  obtain haddr | ⟨hreg, rfl, hbits⟩ := h
  · exact L.get_put_other g.1 f v g.2 i haddr
  · exact L.get_put_field g.1 f v g.2 hreg hbits.symm

/-- What the registers show of an actuator (R396, R397). -/
def actShown (a : Nat) : List (Fld × Nat) :=
  [(ACT_CHSTAT_DUTY, a), (ACT_CHSTAT_RATE, a), (ACT_CHSTAT_COUNT, a), (ACT_STAT_DRUM_POS, 0)]

/-- What the registers show of an actuator, with its state. -/
def actMoved (a : Nat) : List (Fld × Nat) := (ACT_CHSTAT_STATE, a) :: actShown a

/-- The fields that show the phase of the traction side (R286). -/
def syncShown : List (Fld × Nat) := [(TRC_MSTAT_SYNC, 0), (TRC_MSTAT_SYNC, 1)]

theorem Leaf.saveDrum_parts (L : Leaf) : L.saveDrum = L.onAct fun A => { A with saved := L.saveDrum.act.saved } := by
  unfold Leaf.saveDrum
  dsimp only
  split
  · rfl
  · rfl

namespace KeepsFldsAt

variable {L M N : Leaf} {but : List (Fld × Nat)}

theorem rfl : KeepsFldsAt L L but := fun _ _ _ => Eq.refl _

theorem ite {c : Prop} [Decidable c] (hM : KeepsFldsAt L M but) (hN : KeepsFldsAt L N but) :
    KeepsFldsAt L (if c then M else N) but := by
  split
  · exact hM
  · exact hN

section

variable (h : KeepsFldsAt L M but)

include h

theorem ofRegs (hregs : N.regs = M.regs) : KeepsFldsAt L N but :=
  fun f i hf => (M.get_regs N f i hregs).trans (h f i hf)

theorem put {f : Fld} {v i : Nat} (hf : (f, i) ∈ but) : KeepsFldsAt L (M.put f v i) but :=
  fun g j hg => (M.get_put_apartAt v (hg _ hf)).trans (h g j hg)

theorem onAct {f : Act → Act} : KeepsFldsAt L (M.onAct f) but := h

theorem onActr {a : Nat} {f : Actr → Actr} : KeepsFldsAt L (M.onActr a f) but := h

theorem moveAct {a st : Nat} (hstate : (ACT_CHSTAT_STATE, a) ∈ but) : KeepsFldsAt L (M.moveAct a st) but := h.put hstate

theorem showAct {a : Nat} (hshown : actShown a ⊆ but) : KeepsFldsAt L (M.showAct a) but := by
  simp only [actShown, List.cons_subset] at hshown
  obtain ⟨hduty, hrate, hcount, hdrum, -⟩ := hshown
  exact .ite (((h.put hduty).put hrate).put hcount |>.put hdrum) (((h.put hduty).put hrate).put hcount)

theorem rest {a : Nat} (hmoved : actMoved a ⊆ but) : KeepsFldsAt L (M.rest a) but :=
  have ⟨hstate, hshown⟩ := List.cons_subset.mp hmoved
  (h.onActr.moveAct hstate).showAct hshown

theorem startMove {a kind : Nat} {target : Int} (hstate : (ACT_CHSTAT_STATE, a) ∈ but) :
    KeepsFldsAt L (M.startMove a kind target) but :=
  h.onActr.moveAct hstate

theorem saveDrum : KeepsFldsAt L M.saveDrum but := by
  rw [M.saveDrum_parts]
  exact h.onAct

theorem engage {g : Nat} (hgear : (ACT_STAT_GEAR, 0) ∈ but) (hheld : (ACT_STAT_NEUTRAL_HELD, 0) ∈ but) :
    KeepsFldsAt L (M.engage g) but :=
  ((h.put hgear).put hheld).saveDrum

theorem tracPhase {p : Nat} (hsync : syncShown ⊆ but) : KeepsFldsAt L (M.tracPhase p) but := by
  simp only [syncShown, List.cons_subset] at hsync
  obtain ⟨hfirst, hsecond, -⟩ := hsync
  exact ((h.ofRegs (Eq.refl _)).put hfirst).put hsecond

end

end KeepsFldsAt

/-! ### An actuator changed -/

section

variable (L : Leaf) (a b : Fin 3) (f : Actr → Actr) (st kind g : Nat) (target : Int)

theorem Leaf.actr_onActr : (L.onActr a f).actr a = f (L.actr a) := pick_alter_same _ _ _ a.isLt

theorem Leaf.actr_onActr_other (h : b ≠ a) : (L.onActr a f).actr b = L.actr b :=
  pick_setIfInBounds_other _ _ _ _ (Fin.val_ne_of_ne h)

theorem Leaf.actr_of_act {L M : Leaf} (h : M.act = L.act) (i : Nat) : M.actr i = L.actr i := by
  rw [Leaf.actr, Leaf.actr, h]

theorem Leaf.moveAct_actState (hst : st < 8) : (L.moveAct a st).actState a = st :=
  (L.get_put ACT_CHSTAT_STATE st a (by decide)).trans (Nat.mod_eq_of_lt hst)

theorem addr_chstat_apart : ∀ a b : Fin 3, b ≠ a → ACT_CHSTAT.addr b ≠ ACT_CHSTAT.addr a := by decide

theorem Leaf.moveAct_actState_other (h : b ≠ a) : (L.moveAct a st).actState b = L.actState b :=
  L.get_put_other ACT_CHSTAT_STATE ACT_CHSTAT_STATE st a b (addr_chstat_apart a b h)

theorem Leaf.moveAct_actr : (L.moveAct a st).actr a = { L.actr a with stateAt := L.count } := Leaf.actr_onActr _ _ _

theorem Leaf.moveAct_actr_other (h : b ≠ a) : (L.moveAct a st).actr b = L.actr b := Leaf.actr_onActr_other _ _ _ _ h

/-- What the registers show of an actuator leaves the state of every actuator (R397). -/
theorem actState_not_shown : ∀ a b : Fin 3, ∀ g ∈ actShown a, ACT_CHSTAT_STATE.ApartAt b g := by decide

theorem Leaf.showAct_actState : (L.showAct a).actState b = L.actState b :=
  KeepsFldsAt.rfl.showAct (List.Subset.refl _) ACT_CHSTAT_STATE b (actState_not_shown a b)

theorem Leaf.showAct_act (i : Nat) : (L.showAct i).act = L.act := by
  unfold Leaf.showAct
  dsimp only
  split
  · rfl
  · rfl

theorem Leaf.showAct_actr (i j : Nat) : (L.showAct i).actr j = L.actr j := Leaf.actr_of_act (L.showAct_act i) j

theorem Leaf.rest_actState : (L.rest a).actState a = 1 :=
  (Leaf.showAct_actState _ a a).trans (Leaf.moveAct_actState _ a 1 (by decide))

theorem Leaf.rest_actr :
    (L.rest a).actr a = { L.actr a with kind := 0, duty := 0, comm := none, stateAt := L.count } := by
  rw [Leaf.rest, Leaf.showAct_actr, Leaf.moveAct_actr, Leaf.actr_onActr]
  rfl

theorem Leaf.startMove_actState : (L.startMove a kind target).actState a = 2 := Leaf.moveAct_actState _ a 2 (by decide)

theorem Leaf.startMove_actState_other (h : b ≠ a) : (L.startMove a kind target).actState b = L.actState b :=
  Leaf.moveAct_actState_other _ a b 2 h

/-- A move keeps the count it starts from (R372). -/
theorem Leaf.startMove_actr : ((L.startMove a kind target).actr a).kind = kind ∧
    ((L.startMove a kind target).actr a).target = target ∧ ((L.startMove a kind target).actr a).count = (L.actr a).count := by
  unfold Leaf.startMove
  dsimp only
  rw [Leaf.moveAct_actr, Leaf.actr_onActr]
  exact ⟨rfl, rfl, rfl⟩

theorem Leaf.startMove_actr_other (h : b ≠ a) : (L.startMove a kind target).actr b = L.actr b := by
  unfold Leaf.startMove
  dsimp only
  rw [Leaf.moveAct_actr_other _ _ _ _ h, Leaf.actr_onActr_other _ _ _ _ h]

theorem Leaf.saveDrum_actr (i : Nat) : L.saveDrum.actr i = L.actr i := by
  rw [L.saveDrum_parts]
  rfl

theorem Leaf.engage_actr (i : Nat) : (L.engage g).actr i = L.actr i := Leaf.saveDrum_actr _ i

theorem Leaf.engage_gear (hg : g ≤ 3) : (L.engage g).get ACT_STAT_GEAR = g := by
  unfold Leaf.engage
  rw [Leaf.get_regs _ _ _ _ (congrArg Leaf.regs (Leaf.saveDrum_parts _)), Leaf.onAct]
  exact (Leaf.get_put_field _ ACT_STAT_NEUTRAL_HELD ACT_STAT_GEAR _ _ rfl (by decide)).trans
    ((L.get_put ACT_STAT_GEAR g 0 (by decide)).trans (Nat.mod_eq_of_lt (Nat.lt_succ_of_le hg)))

end

end Sys2Proof.Machine
end

section
/-! The states of an actuator (R373 to R377): alignment, locked rotor, the wait, a move's end, end stops, and ACT_VIN. -/

namespace Sys2Proof.Machine

open Sys2Proof

/-! ### Faults -/

section

variable (L : Leaf) (a : Fin 3) (k : Nat)

/-- The fields that a lasting fault writes beside those of its actuator (R379, R382). -/
def lostFlds : List (Fld × Nat) := [(ACT_STAT_REFERENCED, 0), (ACT_STAT_GEAR, 0), (ACT_STAT_PARK, 0)]

/-- The actuator a lasting fault stops, before what the loss brings to the drum or the lock. -/
def Leaf.faulted (L : Leaf) (a : Nat) : Leaf :=
  ((L.onActr a fun A => { A with kind := 0, duty := 0, comm := none, vin := false }).moveAct a 7).showAct a

theorem Leaf.lostA0_keeps (moving : Bool) :
    KeepsFldsAt L (L.lostA0 moving) lostFlds ∧ (L.lostA0 moving).act.actrs = L.act.actrs := by
  unfold Leaf.lostA0
  split
  · exact ⟨.onAct .rfl, rfl⟩
  · split
    · exact ⟨((KeepsFldsAt.rfl.put (.head _)).put (.tail _ (.head _))).onAct, rfl⟩
    · exact ⟨.rfl, rfl⟩

theorem Leaf.lastActFault_keeps (i : Nat) : KeepsFldsAt (L.faulted i) (L.lastActFault i) lostFlds ∧
    (L.lastActFault i).act.actrs = (L.faulted i).act.actrs := by
  unfold Leaf.lastActFault
  dsimp only
  split
  · exact (L.faulted i).lostA0_keeps _
  · split
    · exact ⟨KeepsFldsAt.rfl.put (.tail _ (.tail _ (.head _))), rfl⟩
    · exact ⟨.rfl, rfl⟩

theorem actState_not_lost : ∀ a : Fin 3, ∀ g ∈ lostFlds, ACT_CHSTAT_STATE.ApartAt a g := by decide

theorem Leaf.lastActFault_actState : (L.lastActFault a).actState a = 7 :=
  calc (L.lastActFault a).actState a
    _ = (L.faulted a).actState a := (L.lastActFault_keeps a).1 ACT_CHSTAT_STATE a (actState_not_lost a)
    _ = 7 := (Leaf.showAct_actState _ a a).trans (Leaf.moveAct_actState _ a 7 (by decide))

theorem Leaf.lastActFault_actr : ((L.lastActFault a).actr a).kind = 0 ∧ ((L.lastActFault a).actr a).duty = 0 := by
  have hactr : (L.lastActFault a).actr a = (L.faulted a).actr a := congrArg (pick · a.val) (L.lastActFault_keeps a).2
  rw [hactr, Leaf.faulted, Leaf.showAct_actr, Leaf.moveAct_actr, Leaf.actr_onActr]
  exact ⟨rfl, rfl⟩

/-- A first fault of an actuator under way leads to WAIT (R377). -/
theorem Leaf.actFault_first (h : L.actState a = 4) (hfirst : (L.actr a).faultAt = none) :
    L.actFault a k = ((L.onActr a fun A =>
      { A with duty := 0, comm := none, faultAt := some L.count, vin := false }).moveAct a 6).showAct a := by
  simp [Leaf.actFault, h, hfirst]

/-- The leaf of a fault that has recurred, before it is shown in ACT_FLT. -/
def Leaf.recurred (L : Leaf) (a : Nat) : Leaf := (L.lastActFault a).onActr a fun A => { A with faultAt := none }

/-- A fault that recurs within 160,000 courses is a lasting one (R377, R390). -/
theorem Leaf.actFault_recurs (c : Course) (h : L.actState a = 4) (hfault : (L.actr a).faultAt = some c)
    (hsoon : since L.count c ≤ 160000) :
    L.actFault a k = if a.val = 2 then (L.recurred a).raise (actFlt a k) else (L.recurred a).stick (actFlt a k) := by
  simp [Leaf.actFault, h, hfault, hsoon, Leaf.recurred]

theorem Leaf.recurred_actState : (L.recurred a).actState a = 7 := L.lastActFault_actState a

theorem Leaf.recurred_actr : ((L.recurred a).actr a).kind = 0 ∧ ((L.recurred a).actr a).duty = 0 := by
  rw [Leaf.recurred, Leaf.actr_onActr]
  exact L.lastActFault_actr a

theorem addr_chstat_not_flt : ∀ a : Fin 3, ACT_CHSTAT.addr a ≠ ACT_FLT.addr 0 ∧ ACT_CHSTAT.addr a ≠ HRE_CNT.addr 0 ∧
    ACT_CHSTAT.addr a ≠ HRE_ERR.addr 0 := by decide

theorem addr_flt_apart : ACT_FLT.addr 0 ≠ HRE_CNT.addr 0 ∧ ACT_FLT.addr 0 ≠ HRE_ERR.addr 0 := by decide

/-- The bit of a fault in ACT_FLT, set with an event or without, shows it and leaves the actuators (R398). -/
theorem Leaf.showFault (q : Prop) [Decidable q] (hk : k < 3) :
    (if q then L.raise (actFlt a k) else L.stick (actFlt a k)).get (actFlt a k) = 1 ∧
      (if q then L.raise (actFlt a k) else L.stick (actFlt a k)).actState a = L.actState a ∧
      (if q then L.raise (actFlt a k) else L.stick (actFlt a k)).act = L.act := by
  obtain ⟨hflt, hcnt, herr⟩ := addr_chstat_not_flt a
  have hbit : 3 * a.val + k < 64 := by omega
  split
  · refine ⟨L.get_raise (actFlt a k) 0 addr_flt_apart.1 addr_flt_apart.2 hbit (Nat.le_refl _), ?_, ?_⟩
    · exact Leaf.get_word _ _ _ _ (L.raise_word _ _ _ _ hcnt herr hflt)
    · rw [Leaf.raise_parts]
  · refine ⟨?_, L.get_put_other _ _ _ _ _ hflt, rfl⟩
    rw [Leaf.stick, L.get_put _ _ _ hbit]
    simp [actFlt]

end

/-! ### A move resumed, a move at rest -/

section

variable (L : Leaf) (a b : Fin 3)

theorem Leaf.resume_actState : (L.resume a).actState a = if (L.actr a).kind = 0 then 1 else 2 := by
  unfold Leaf.resume
  dsimp only
  split
  · exact Leaf.moveAct_actState _ a 1 (by decide)
  · exact Leaf.startMove_actState ..

theorem Leaf.resume_actr : ((L.resume a).actr a).kind = (L.actr a).kind ∧
    ((L.resume a).actr a).target = (L.actr a).target ∧ ((L.resume a).actr a).count = (L.actr a).count := by
  unfold Leaf.resume
  dsimp only
  split
  · rw [Leaf.moveAct_actr, Leaf.actr_onActr]
    exact ⟨rfl, rfl, rfl⟩
  · have hfreed := L.actr_onActr a fun A => { A with vin := false }
    obtain ⟨hkind, htarget, hcount⟩ := Leaf.startMove_actr (L.onActr a fun A => { A with vin := false }) a (L.actr a).kind
      (L.actr a).target
    exact ⟨hkind, htarget, hcount.trans (congrArg Actr.count hfreed :)⟩

theorem Leaf.resume_other (h : b ≠ a) : (L.resume a).actState b = L.actState b ∧ (L.resume a).actr b = L.actr b := by
  unfold Leaf.resume
  dsimp only
  split
  · exact ⟨Leaf.moveAct_actState_other _ _ _ _ h,
      (Leaf.moveAct_actr_other _ _ _ _ h).trans (Leaf.actr_onActr_other _ _ _ _ h)⟩
  · exact ⟨Leaf.startMove_actState_other _ _ _ _ _ h,
      (Leaf.startMove_actr_other _ _ _ _ _ h).trans (Leaf.actr_onActr_other _ _ _ _ h)⟩

theorem Leaf.resume_vinStop (i : Nat) : (L.resume i).act.vinStop = L.act.vinStop := by
  unfold Leaf.resume
  dsimp only
  split
  · rfl
  · rfl

/-- An actuator at rest on its target's count. -/
def Leaf.rested (L : Leaf) (a : Nat) : Leaf := (L.onActr a fun A => { A with count := A.target }).rest a

theorem Leaf.rested_actr :
    ((L.rested a).actr a).kind = 0 ∧ ((L.rested a).actr a).count = (L.actr a).target := by
  rw [Leaf.rested, Leaf.rest_actr, Leaf.actr_onActr]
  exact ⟨rfl, rfl⟩

theorem Leaf.rested_actState : (L.rested a).actState a = 1 := Leaf.rest_actState _ a

/-- The fields a drum at rest writes where a shift had moved it to neutral (R385). -/
def neutralFlds : List (Fld × Nat) := (ACT_STAT_GEAR, 0) :: (ACT_STAT_SHIFT, 0) :: syncShown

theorem actState_not_neutral : ∀ a : Fin 3, ∀ g ∈ neutralFlds, ACT_CHSTAT_STATE.ApartAt a g := by decide

/-- What a stop brings beside the rest leaves the actuators: it speaks of the drum, or of the lock with an event (R374). -/
theorem Leaf.stopped_rests : (L.stopped a).actState a = 1 ∧ (L.stopped a).actr a = (L.rested a).actr a := by
  rw [← L.rested_actState a]
  unfold Leaf.stopped
  dsimp only
  rw [← Leaf.rested]
  split
  · split
    · exact ⟨(((KeepsFldsAt.rfl.put (.head _)).saveDrum.put (.tail _ (.head _))).tracPhase
        (List.subset_cons_of_subset _ (List.subset_cons_self _ _))) ACT_CHSTAT_STATE a (actState_not_neutral a),
        Leaf.saveDrum_actr _ a⟩
    · exact ⟨KeepsFldsAt.rfl.saveDrum (but := []) ACT_CHSTAT_STATE a (by simp), Leaf.saveDrum_actr _ a⟩
  · split
    · obtain ⟨-, hcnt, herr⟩ := addr_chstat_not_flt a
      refine ⟨?_, ?_⟩
      · rw [Leaf.actState, Leaf.get_event _ _ _ _ _ _ hcnt herr]
        exact (KeepsFldsAt.rfl.put (.head [])).saveDrum ACT_CHSTAT_STATE a (by revert a; decide)
      · rw [Leaf.event_parts]
        exact Leaf.saveDrum_actr _ a
    · exact ⟨rfl, rfl⟩

theorem Leaf.stopped_park : (L.stopped 1).get ACT_STAT_PARK = if (L.actr 1).target = 0 then 1 else 2 := by
  have hpark : (if (L.actr 1).target = 0 then 1 else 2) < 4 := by split <;> decide
  unfold Leaf.stopped
  dsimp only
  rw [if_neg (by decide), if_pos rfl, Leaf.get_event _ _ _ _ _ _ (by decide) (by decide), Leaf.saveDrum_parts]
  exact (Leaf.get_put _ ACT_STAT_PARK _ 0 (by decide)).trans (Nat.mod_eq_of_lt hpark)

/-- The drum found by REFERENCE: at the end stop of gear 1, in no doubt (R383). -/
def Leaf.referenced : Leaf := (((L.rested 0).put ACT_STAT_GEAR_DOUBT 0).put ACT_STAT_REFERENCED 1).engage 1

/-- The fields an engaged gear writes (R385). -/
def engagedFlds : List (Fld × Nat) := [(ACT_STAT_GEAR, 0), (ACT_STAT_NEUTRAL_HELD, 0)]

theorem Leaf.engage_keeps (g : Nat) : KeepsFldsAt L (L.engage g) engagedFlds :=
  KeepsFldsAt.rfl.engage (.head _) (.tail _ (.head _))

theorem Leaf.referenced_shows : L.referenced.actState 0 = 1 ∧ L.referenced.get ACT_STAT_REFERENCED = 1 ∧
    L.referenced.get ACT_STAT_GEAR = 1 ∧ L.referenced.get ACT_STAT_GEAR_DOUBT = 0 ∧
    (L.referenced.actr 0).count = (L.actr 0).target := by
  have hkeeps := (((L.rested 0).put ACT_STAT_GEAR_DOUBT 0).put ACT_STAT_REFERENCED 1).engage_keeps 1
  have hflags : KeepsFldsAt (L.rested 0) (((L.rested 0).put ACT_STAT_GEAR_DOUBT 0).put ACT_STAT_REFERENCED 1)
      [(ACT_STAT_GEAR_DOUBT, 0), (ACT_STAT_REFERENCED, 0)] := (KeepsFldsAt.rfl.put (.head _)).put (.tail _ (.head _))
  refine ⟨?_, ?_, Leaf.engage_gear _ 1 (by decide), ?_, ?_⟩
  · exact ((hkeeps ACT_CHSTAT_STATE 0 (by decide)).trans (hflags ACT_CHSTAT_STATE 0 (by decide))).trans
      (L.rested_actState 0)
  · exact (hkeeps ACT_STAT_REFERENCED 0 (by decide)).trans (Leaf.get_put _ _ _ _ (by decide))
  · exact (hkeeps ACT_STAT_GEAR_DOUBT 0 (by decide)).trans
      ((Leaf.get_put_field _ ACT_STAT_REFERENCED ACT_STAT_GEAR_DOUBT _ _ rfl (by decide)).trans
        (Leaf.get_put _ _ _ _ (by decide)))
  · rw [Leaf.referenced, Leaf.engage_actr]
    exact (L.rested_actr 0).2

end

/-! ### ACT_VIN back in range -/

/-- An actuator that ACT_VIN stopped in WAIT goes on (R376). -/
def Leaf.resumeStopped (L : Leaf) (a : Nat) : Leaf := if L.actState a = 6 ∧ (L.actr a).vin = true then L.resume a else L

section

variable (L : Leaf) (a b : Fin 3)

theorem Leaf.resumeStopped_other (h : b ≠ a) :
    (L.resumeStopped a).actState b = L.actState b ∧ (L.resumeStopped a).actr b = L.actr b := by
  unfold Leaf.resumeStopped
  split
  · exact L.resume_other a b h
  · exact ⟨rfl, rfl⟩

theorem Leaf.resumeStopped_self : (L.actState a = 6 → (L.actr a).vin = true →
      (L.resumeStopped a).actState a = if (L.actr a).kind = 0 then 1 else 2) ∧
    (L.actState a ≠ 6 → (L.resumeStopped a).actState a = L.actState a) := by
  unfold Leaf.resumeStopped
  split
  next hstopped => exact ⟨fun _ _ => L.resume_actState a, fun hother => absurd hstopped.1 hother⟩
  next hother => exact ⟨fun hwait hvin => absurd ⟨hwait, hvin⟩ hother, fun _ => rfl⟩

theorem Leaf.resumeStopped_vinStop (i : Nat) : (L.resumeStopped i).act.vinStop = L.act.vinStop := by
  unfold Leaf.resumeStopped
  split
  · exact L.resume_vinStop i
  · rfl

/-- Each of the three actuators is resumed from what it was before the others were. -/
theorem Leaf.foldl_resumeStopped :
    ∃ M : Leaf, M.actState a = L.actState a ∧ M.actr a = L.actr a ∧
      ((List.range 3).foldl Leaf.resumeStopped L).actState a = (M.resumeStopped a).actState a := by
  change ∃ M : Leaf, _ ∧ _ ∧ (((L.resumeStopped 0).resumeStopped 1).resumeStopped 2).actState a = _
  match a with
  | 0 =>
    exact ⟨L, rfl, rfl, (Leaf.resumeStopped_other _ 2 0 (by decide)).1.trans
      (Leaf.resumeStopped_other _ 1 0 (by decide)).1⟩
  | 1 =>
    obtain ⟨hstate, hactr⟩ := L.resumeStopped_other 0 1 (by decide)
    exact ⟨_, hstate, hactr, (Leaf.resumeStopped_other _ 2 1 (by decide)).1⟩
  | 2 =>
    obtain ⟨hstate₁, hactr₁⟩ := L.resumeStopped_other 0 2 (by decide)
    obtain ⟨hstate₂, hactr₂⟩ := (L.resumeStopped 0).resumeStopped_other 1 2 (by decide)
    exact ⟨_, hstate₂.trans hstate₁, hactr₂.trans hactr₁, rfl⟩

end

/-! ### The commands -/

section

variable (s : State) (l : LeafId) (a : Fin 3)

theorem alignDone_starts (hstate : (s.leaf l).actState a = 2)
    (hlong : 16 * (s.leaf l).get ACT_CFG_ALIGN_T a ≤ since (s.leaf l).count ((s.leaf l).actr a).stateAt) :
    Completes (.alignDone l a) s fun t => OnlyLeaf l s t ∧ (t.leaf l).actState a = 3 ∧ ((t.leaf l).actr a).step = 0 ∧
      ((t.leaf l).actr a).stepAt = (s.leaf l).count ∧ ((t.leaf l).actr a).stateAt = (s.leaf l).count ∧
      KeepsRegs (s.leaf l) (t.leaf l) [ACT_CHSTAT.addr a] := by
  refine Ends.guardedTrue (by simp [hstate, hlong]) ⟨.setLeaf, ?_⟩
  rw [State.leaf_setLeaf, Leaf.actr_onActr, Leaf.moveAct_actr]
  exact ⟨Leaf.moveAct_actState _ a 3 (by decide), rfl, rfl, rfl, KeepsRegs.rfl.put (.head _)⟩

/-- A locked rotor of a move to a count, which has no end-stop window (R374, R377). -/
theorem exec_lockedRotor (hstate : (s.leaf l).actState a = 4) (hkind : ((s.leaf l).actr a).kind = 1)
    (hlong : (s.leaf l).get ACT_CTRL_LOCK_T ≤ since (s.leaf l).count ((s.leaf l).actr a).lastComm) :
    exec (.lockedRotor l a) s = .next (s.setLeaf l ((s.leaf l).actFault a 0)) :=
  congrArg Host.Outcome.next (if_pos (by simp [hstate, hkind, hlong]))

theorem lockedRotor_waits (hstate : (s.leaf l).actState a = 4) (hkind : ((s.leaf l).actr a).kind = 1)
    (hlong : (s.leaf l).get ACT_CTRL_LOCK_T ≤ since (s.leaf l).count ((s.leaf l).actr a).lastComm)
    (hfirst : ((s.leaf l).actr a).faultAt = none) :
    Completes (.lockedRotor l a) s fun t => OnlyLeaf l s t ∧ (t.leaf l).actState a = 6 ∧ ((t.leaf l).actr a).duty = 0 ∧
      ((t.leaf l).actr a).kind = 1 ∧ ((t.leaf l).actr a).faultAt = some (s.leaf l).count := by
  refine ⟨_, exec_lockedRotor s l a hstate hkind hlong, .setLeaf, ?_⟩
  rw [State.leaf_setLeaf, Leaf.actFault_first _ a 0 hstate hfirst, Leaf.showAct_actr, Leaf.moveAct_actr, Leaf.actr_onActr]
  exact ⟨(Leaf.showAct_actState _ a a).trans (Leaf.moveAct_actState _ a 6 (by decide)), rfl, hkind, rfl⟩

theorem lockedRotor_lasts (c : Course) (hstate : (s.leaf l).actState a = 4) (hkind : ((s.leaf l).actr a).kind = 1)
    (hlong : (s.leaf l).get ACT_CTRL_LOCK_T ≤ since (s.leaf l).count ((s.leaf l).actr a).lastComm)
    (hfault : ((s.leaf l).actr a).faultAt = some c) (hsoon : since (s.leaf l).count c ≤ 160000) :
    Completes (.lockedRotor l a) s fun t => OnlyLeaf l s t ∧ (t.leaf l).actState a = 7 ∧ ((t.leaf l).actr a).duty = 0 ∧
      ((t.leaf l).actr a).kind = 0 ∧ (t.leaf l).get (actFlt a 0) = 1 := by
  refine ⟨_, exec_lockedRotor s l a hstate hkind hlong, .setLeaf, ?_⟩
  rw [State.leaf_setLeaf, Leaf.actFault_recurs _ a 0 c hstate hfault hsoon]
  obtain ⟨hshown, hkept, hact⟩ := ((s.leaf l).recurred a).showFault a 0 (a.val = 2) (by decide)
  obtain ⟨hnone, hduty⟩ := (s.leaf l).recurred_actr a
  rw [hkept, Leaf.actr_of_act hact]
  exact ⟨(s.leaf l).recurred_actState a, hduty, hnone, hshown⟩

theorem actWaitExpiry_resumes (hstate : (s.leaf l).actState a = 6) (hvin : ((s.leaf l).actr a).vin = false)
    (hstop : (s.leaf l).act.vinStop = false)
    (hlong : (s.leaf l).get ACT_CTRL_LOCK_WAIT ≤ since (s.leaf l).count ((s.leaf l).actr a).stateAt) :
    Completes (.actWaitExpiry l a) s fun t => OnlyLeaf l s t ∧
      (t.leaf l).actState a = (if ((s.leaf l).actr a).kind = 0 then 1 else 2) ∧
      ((t.leaf l).actr a).kind = ((s.leaf l).actr a).kind ∧ ((t.leaf l).actr a).target = ((s.leaf l).actr a).target ∧
      ((t.leaf l).actr a).count = ((s.leaf l).actr a).count := by
  refine Ends.guardedTrue (by simp [hstate, hvin, hstop, hlong]) ⟨.setLeaf, ?_⟩
  rw [State.leaf_setLeaf]
  exact ⟨(s.leaf l).resume_actState a, (s.leaf l).resume_actr a⟩

theorem moveEnd_brakes (hstate : (s.leaf l).actState a = 4) (hkind : ((s.leaf l).actr a).kind = 1)
    (hnear : (s.leaf l).nearTarget a = true) :
    Completes (.moveEnd l a) s fun t => OnlyLeaf l s t ∧ (t.leaf l).actState a = 5 ∧ ((t.leaf l).actr a).duty = 0 ∧
      ((t.leaf l).actr a).count = ((s.leaf l).actr a).count := by
  refine ⟨_, if_pos (by simp [hstate, hkind, hnear]), .setLeaf, ?_⟩
  rw [State.leaf_setLeaf, Leaf.showAct_actr, Leaf.moveAct_actr, Leaf.actr_onActr]
  exact ⟨(Leaf.showAct_actState _ a a).trans (Leaf.moveAct_actState _ a 5 (by decide)), rfl, rfl⟩

theorem moveEnd_rests (hstate : (s.leaf l).actState a = 5)
    (hlong : 1600 ≤ since (s.leaf l).count ((s.leaf l).actr a).stateAt) :
    Completes (.moveEnd l a) s fun t => OnlyLeaf l s t ∧ (t.leaf l).actState a = 1 ∧ ((t.leaf l).actr a).kind = 0 ∧
      ((t.leaf l).actr a).count = ((s.leaf l).actr a).target ∧
      (a = 1 → (t.leaf l).get ACT_STAT_PARK = (if ((s.leaf l).actr a).target = 0 then 1 else 2)) := by
  have hexec : exec (.moveEnd l a) s = .next (s.setLeaf l ((s.leaf l).stopped a)) :=
    (if_neg (by simp [hstate])).trans (congrArg Host.Outcome.next (if_pos (by simp [hstate, hlong])))
  obtain ⟨hrests, hactr⟩ := (s.leaf l).stopped_rests a
  obtain ⟨hkind, hcount⟩ := (s.leaf l).rested_actr a
  refine ⟨_, hexec, .setLeaf, ?_⟩
  rw [State.leaf_setLeaf, hactr]
  refine ⟨hrests, hkind, hcount, fun hlock => ?_⟩
  subst hlock
  exact (s.leaf l).stopped_park

theorem endStopArrival_references (hstate : (s.leaf l).actState 0 = 4) (hkind : ((s.leaf l).actr 0).kind = 3)
    (hlong : 16 * (s.leaf l).get ACT_CTRL_END_T ≤ since (s.leaf l).count ((s.leaf l).actr 0).lastComm) :
    Completes (.endStopArrival l 0) s fun t => OnlyLeaf l s t ∧ (t.leaf l).actState 0 = 1 ∧
      (t.leaf l).get ACT_STAT_REFERENCED = 1 ∧ (t.leaf l).get ACT_STAT_GEAR = 1 ∧ (t.leaf l).get ACT_STAT_GEAR_DOUBT = 0 ∧
      ((t.leaf l).actr 0).count = ((s.leaf l).actr 0).target := by
  have hexec : exec (.endStopArrival l 0) s = .next (s.setLeaf l (s.leaf l).referenced) :=
    (congrArg Host.Outcome.next (if_pos (by simp [hstate, hkind, hlong]))).trans
      (congrArg (fun L => Host.Outcome.next (s.setLeaf l L)) ((if_pos rfl).trans (if_pos hkind)))
  refine ⟨_, hexec, .setLeaf, ?_⟩
  rw [State.leaf_setLeaf]
  exact (s.leaf l).referenced_shows

theorem endStopArrival_locks (hstate : (s.leaf l).actState 1 = 4) (hkind : ((s.leaf l).actr 1).kind = 2)
    (hnear : (s.leaf l).nearTarget 1 = true) (hend : (s.leaf l).atEnd 1 = true)
    (hlong : 16 * (s.leaf l).get ACT_CTRL_END_T ≤ since (s.leaf l).count ((s.leaf l).actr 1).lastComm) :
    Completes (.endStopArrival l 1) s fun t => OnlyLeaf l s t ∧ (t.leaf l).actState 1 = 1 ∧
      (t.leaf l).get ACT_STAT_PARK = (if ((s.leaf l).actr 1).target = 0 then 1 else 2) ∧
      ((t.leaf l).actr 1).count = ((s.leaf l).actr 1).target := by
  refine Ends.guardedTrue (by simp [hstate, hkind, hnear, hend, hlong]) ⟨.setLeaf, ?_⟩
  rw [State.leaf_setLeaf, if_neg (by decide)]
  obtain ⟨hrests, hactr⟩ := (s.leaf l).stopped_rests 1
  exact ⟨hrests, (s.leaf l).stopped_park, (congrArg Actr.count hactr).trans ((s.leaf l).rested_actr 1).2⟩

theorem actVinRestored_resumes (c : Course) (hstop : (s.leaf l).act.vinStop = true) (hfrom : (s.leaf l).act.vinFrom = some c)
    (hlong : 16000 ≤ since (s.leaf l).count c) :
    Completes (.actVinRestored l) s fun t => OnlyLeaf l s t ∧ (t.leaf l).act.vinStop = false ∧ ∀ a, a < 3 →
      ((s.leaf l).actState a = 6 → ((s.leaf l).actr a).vin = true →
        (t.leaf l).actState a = if ((s.leaf l).actr a).kind = 0 then 1 else 2) ∧
      ((s.leaf l).actState a ≠ 6 → (t.leaf l).actState a = (s.leaf l).actState a) := by
  let L := (s.leaf l).onAct fun A => { A with vinStop := false }
  have hexec : exec (.actVinRestored l) s = .next (s.setLeaf l ((List.range 3).foldl Leaf.resumeStopped L)) :=
    congrArg Host.Outcome.next (if_pos (by simp [hstop, hfrom, hlong]))
  refine ⟨_, hexec, .setLeaf, ?_⟩
  rw [State.leaf_setLeaf]
  refine ⟨foldl_same (fun M : Leaf => M.act.vinStop) _ (fun M i => M.resumeStopped_vinStop i) _ _, fun a ha => ?_⟩
  obtain ⟨M, hstate, hactr, hended⟩ := L.foldl_resumeStopped ⟨a, ha⟩
  obtain ⟨hresumed, hstays⟩ := M.resumeStopped_self ⟨a, ha⟩
  rw [hstate, hactr] at hresumed
  rw [hstate] at hstays
  exact ⟨fun hwait hvin => hended.trans (hresumed hwait hvin), fun hother => hended.trans (hstays hother)⟩

end

/-- Settles O44: each state of an actuator ends as its rule has it, with the count, the fault and the registers it leaves. -/
theorem actuatorMoves : Obligations.actuator_moves :=
  ⟨alignDone_starts, lockedRotor_waits, lockedRotor_lasts, actWaitExpiry_resumes, moveEnd_brakes, moveEnd_rests,
    endStopArrival_references, endStopArrival_locks, actVinRestored_resumes⟩

end Sys2Proof.Machine
end

section
/-! The shift's return and the hold past the point of no return (R386, R387). -/

namespace Sys2Proof.Machine

open Sys2Proof

/-- The fields a return writes as it begins: those of the drum's actuator, and the phase of the traction side (R386). -/
def returnFlds : List (Fld × Nat) := actMoved 0 ++ syncShown

/-- Of a leaf's fields those of the drum's actuator and of the traction side alone have changed, and the host's request of a
return stands as it was. -/
def ReturnOnly (L M : Leaf) : Prop := KeepsFldsAt L M returnFlds ∧ M.act.retAsked = L.act.retAsked

namespace ReturnOnly

variable {L M N : Leaf}

theorem rfl : ReturnOnly L L := ⟨.rfl, Eq.refl _⟩

theorem ite {c : Prop} [Decidable c] (hM : ReturnOnly L M) (hN : ReturnOnly L N) : ReturnOnly L (if c then M else N) := by
  split
  · exact hM
  · exact hN

section

variable (h : ReturnOnly L M)

include h

theorem step {k : Nat} : ReturnOnly L (M.onAct fun A => { A with retStep := k }) := h

theorem rest : ReturnOnly L (M.rest 0) :=
  ⟨h.1.rest (List.subset_append_left _ _), (congrArg Act.retAsked (Leaf.showAct_act _ 0)).trans h.2⟩

theorem tracPhase {p : Nat} : ReturnOnly L (M.tracPhase p) := ⟨h.1.tracPhase (List.subset_append_right _ _), h.2⟩

theorem startMove {kind : Nat} {target : Int} : ReturnOnly L (M.startMove 0 kind target) :=
  ⟨h.1.startMove (List.mem_append_left _ (.head _)), h.2⟩

end

end ReturnOnly

section

variable (L : Leaf)

/-- A return begins, with the drum's actuator in no lasting fault, by moving that actuator and the traction side alone,
whatever the drum's place (R386). -/
theorem Leaf.stepReturn_begins (hlive : L.actState 0 ≠ 7) (hfirst : L.act.retStep = 0) : ReturnOnly L L.stepReturn := by
  have hstill (busy : Bool) : ReturnOnly L (if busy then L.rest 0 else L) := .ite (.rest .rfl) .rfl
  unfold Leaf.stepReturn
  dsimp only
  rw [if_neg hlive, hfirst]
  exact .ite (hstill _).step.tracPhase
    (.ite (.step .rfl) (.ite (hstill _).step.tracPhase (ReturnOnly.rfl.step.tracPhase.startMove)))

/-- The leaf that a return takes over (R386). -/
def Leaf.returning : Leaf :=
  let M := (((L.put ACT_STAT_SHIFT 6).stick ACT_FLT_SHIFT_RET).bump ACT_CNT_RETURNS).onAct fun A =>
    { A with retStep := 0, retAsked := false }
  { M with trc := { M.trc with syncLate := false } }

theorem Leaf.returning_shows : L.returning.shiftCode = 6 ∧ L.returning.get ACT_FLT_SHIFT_RET = 1 ∧
    L.returning.get ACT_CNT_RETURNS = min (L.get ACT_CNT_RETURNS + 1) ACT_CNT_RETURNS.max ∧
    L.returning.actState 0 = L.actState 0 := by
  have hcount : KeepsFldsAt ((L.put ACT_STAT_SHIFT 6).stick ACT_FLT_SHIFT_RET) L.returning [(ACT_CNT_RETURNS, 0)] :=
    (KeepsFldsAt.rfl.put (.head _)).ofRegs rfl
  have hshown : KeepsFldsAt L ((L.put ACT_STAT_SHIFT 6).stick ACT_FLT_SHIFT_RET)
      [(ACT_STAT_SHIFT, 0), (ACT_FLT_SHIFT_RET, 0)] := (KeepsFldsAt.rfl.put (.head _)).put (.tail _ (.head _))
  refine ⟨?_, ?_, ?_, ?_⟩
  · exact (hcount ACT_STAT_SHIFT 0 (by decide)).trans
      ((Leaf.get_put_other _ _ _ _ _ _ (by decide)).trans (L.get_put ACT_STAT_SHIFT 6 0 (by decide)))
  · exact (hcount ACT_FLT_SHIFT_RET 0 (by decide)).trans (Leaf.get_put _ ACT_FLT_SHIFT_RET 1 0 (by decide))
  · exact (Leaf.get_bump _ ACT_CNT_RETURNS 0 (by decide)).trans
      (by rw [hshown ACT_CNT_RETURNS 0 (by decide)])
  · exact (hcount ACT_CHSTAT_STATE 0 (by decide)).trans (hshown ACT_CHSTAT_STATE 0 (by decide))

/-- The leaf whose drum the mechanism has taken to the target gear (R387). -/
def Leaf.held : Leaf :=
  (((((L.onActr 0 fun A => { A with count := L.gearPos L.act.shiftTo }).showAct 0).engage L.act.shiftTo).put
    ACT_STAT_GEAR_DOUBT 1).onAct fun A => { A with engFrom := none }).put ACT_STAT_SHIFT 5 |>.tracPhase 5

theorem Leaf.held_shows (hgear : L.act.shiftTo ≤ 3) : L.held.get ACT_STAT_GEAR = L.act.shiftTo ∧
    L.held.get ACT_STAT_GEAR_DOUBT = 1 ∧ L.held.shiftCode = 5 ∧ L.held.act.engFrom = none ∧
    (L.held.actr 0).count = L.gearPos L.act.shiftTo := by
  let M := (L.onActr 0 fun A => { A with count := L.gearPos L.act.shiftTo }).showAct 0
  have hsync (K : Leaf) : KeepsFldsAt K (K.tracPhase 5) syncShown := KeepsFldsAt.rfl.tracPhase (List.Subset.refl _)
  refine ⟨?_, ?_, ?_, rfl, ?_⟩
  · calc L.held.get ACT_STAT_GEAR
      _ = (((M.engage L.act.shiftTo).put ACT_STAT_GEAR_DOUBT 1).put ACT_STAT_SHIFT 5).get ACT_STAT_GEAR :=
        hsync _ ACT_STAT_GEAR 0 (by decide)
      _ = ((M.engage L.act.shiftTo).put ACT_STAT_GEAR_DOUBT 1).get ACT_STAT_GEAR :=
        Leaf.get_put_field _ ACT_STAT_SHIFT ACT_STAT_GEAR _ _ rfl (by decide)
      _ = (M.engage L.act.shiftTo).get ACT_STAT_GEAR :=
        Leaf.get_put_field _ ACT_STAT_GEAR_DOUBT ACT_STAT_GEAR _ _ rfl (by decide)
      _ = L.act.shiftTo := M.engage_gear _ hgear
  · exact (hsync _ ACT_STAT_GEAR_DOUBT 0 (by decide)).trans
      ((Leaf.get_put_field _ ACT_STAT_SHIFT ACT_STAT_GEAR_DOUBT _ _ rfl (by decide)).trans
        (Leaf.get_put _ ACT_STAT_GEAR_DOUBT 1 0 (by decide)))
  · exact (hsync _ ACT_STAT_SHIFT 0 (by decide)).trans (Leaf.get_put _ ACT_STAT_SHIFT 5 0 (by decide))
  · calc (L.held.actr 0).count
      _ = ((M.engage L.act.shiftTo).actr 0).count := rfl
      _ = (M.actr 0).count := congrArg Actr.count (M.engage_actr _ 0)
      _ = L.gearPos L.act.shiftTo := by
        rw [Leaf.showAct_actr]
        exact congrArg Actr.count (L.actr_onActr 0 _)

end

/-! ### The commands -/

section

variable (s : State) (l : LeafId)

theorem shiftReturn_returns (hfrom : 1 ≤ (s.leaf l).shiftCode) (hto : (s.leaf l).shiftCode ≤ 4)
    (hpnr : (s.leaf l).get ACT_STAT_PAST_PNR = 0) (hasked : (s.leaf l).act.retAsked = true)
    (hlive : (s.leaf l).actState 0 ≠ 7) :
    Completes (.shiftReturn l) s fun t => OnlyLeaf l s t ∧ (t.leaf l).shiftCode = 6 ∧ (t.leaf l).get ACT_FLT_SHIFT_RET = 1 ∧
      (t.leaf l).get ACT_CNT_RETURNS = min ((s.leaf l).get ACT_CNT_RETURNS + 1) ACT_CNT_RETURNS.max ∧
      (t.leaf l).act.retAsked = false := by
  have hexec : exec (.shiftReturn l) s = .next (s.setLeaf l (s.leaf l).returning.stepReturn) :=
    congrArg Host.Outcome.next (if_pos (by simp [Leaf.on, hfrom, hto, hpnr, hasked]))
  obtain ⟨hcode, hshown, hcounted, hstate⟩ := (s.leaf l).returning_shows
  obtain ⟨hkept, hdone⟩ := (s.leaf l).returning.stepReturn_begins (hstate ▸ hlive) rfl
  refine ⟨_, hexec, .setLeaf, ?_⟩
  rw [State.leaf_setLeaf]
  exact ⟨(hkept ACT_STAT_SHIFT 0 (by decide)).trans hcode, (hkept ACT_FLT_SHIFT_RET 0 (by decide)).trans hshown,
    (hkept ACT_CNT_RETURNS 0 (by decide)).trans hcounted, hdone⟩

theorem shiftReturn_passed (hpnr : (s.leaf l).get ACT_STAT_PAST_PNR ≠ 0) : exec (.shiftReturn l) s = .next s :=
  guarded_false s (by simp [Leaf.on, hpnr])

theorem engageHoldExpiry_engages (c : Course) (hcode : (s.leaf l).shiftCode = 4) (hfrom : (s.leaf l).act.engFrom = some c)
    (hlong : 160 * (s.leaf l).get ACT_SHIFT_ENG_T ≤ since (s.leaf l).count c) (hgear : (s.leaf l).act.shiftTo ≤ 3) :
    Completes (.engageHoldExpiry l) s fun t => OnlyLeaf l s t ∧ (t.leaf l).get ACT_STAT_GEAR = (s.leaf l).act.shiftTo ∧
      (t.leaf l).get ACT_STAT_GEAR_DOUBT = 1 ∧ (t.leaf l).shiftCode = 5 ∧ (t.leaf l).act.engFrom = none ∧
      ((t.leaf l).actr 0).count = (s.leaf l).gearPos (s.leaf l).act.shiftTo := by
  have hexec : exec (.engageHoldExpiry l) s = .next (s.setLeaf l (s.leaf l).held) :=
    congrArg Host.Outcome.next (if_pos (by simp [hcode, hfrom, hlong]))
  refine ⟨_, hexec, .setLeaf, ?_⟩
  rw [State.leaf_setLeaf]
  exact (s.leaf l).held_shows hgear

end

end Sys2Proof.Machine
end

section
/-! The temperature sensors (R400 to R408): what the samples of a period leave of a leaf, and a broken sensor given back. -/

namespace Sys2Proof.Machine

open Sys2Proof

/-! ### The course of a leaf -/

/-- The leaf's count is as it was. -/
def SameCount (L M : Leaf) : Prop := M.count = L.count

namespace SameCount

variable {L M N : Leaf}

theorem rfl : SameCount L L := Eq.refl _

theorem ite {c : Prop} [Decidable c] (hM : SameCount L M) (hN : SameCount L N) : SameCount L (if c then M else N) := by
  split
  · exact hM
  · exact hN

section

variable (h : SameCount L M)

include h

theorem put {f : Fld} {v i : Nat} : SameCount L (M.put f v i) := h

theorem stick {f : Fld} {i : Nat} : SameCount L (M.stick f i) := h

theorem bump {f : Fld} {i : Nat} : SameCount L (M.bump f i) := h

theorem onSensor {i : Nat} {f : TSensor → TSensor} : SameCount L (M.onSensor i f) := h

theorem bitEvent {f : Fld} {i rep : Nat} : SameCount L (M.bitEvent f i rep) := by
  unfold Leaf.bitEvent Leaf.eventEntry
  rw [Leaf.produce_parts]
  exact h

theorem raise {f : Fld} {i : Nat} : SameCount L (M.raise f i) := h.put.bitEvent

theorem breakSensor {i : Nat} : SameCount L (M.breakSensor i) := .ite h h

/-- The range and neighbour checks (R402 to R404). -/
theorem checkSensor {now : List (Option Int)} {i : Nat} : SameCount L (M.checkSensor now i) := by
  unfold Leaf.checkSensor
  extract_lets st cls nb ns med sample K L₁ hot replaced L₂ u
  clear_value sample
  have h₁ : SameCount L L₁ := by
    unfold L₁
    split
    next => exact .ite h.onSensor (.ite h.onSensor.breakSensor h.onSensor.put)
    next t _ =>
      extract_lets far K₁ K₂ dev run K₃ K₄
      have h₂ : SameCount L K₂ := .ite h.onSensor.bump h.onSensor
      have h₄ : SameCount L K₄ := (SameCount.ite h₂.bump h₂ : SameCount L K₃).onSensor
      exact .ite h.onSensor (.ite h₄.breakSensor h₄.put)
  have h₂ : SameCount L L₂ := .ite h₁.stick h₁
  split
  next => exact h₂.onSensor.put
  next =>
    split
    · exact h₁.onSensor
    · exact h₁

/-- The action of a trip (R406). -/
theorem tripAction {i : Nat} {partner begins : Bool} : SameCount L (M.tripAction i partner begins) := by
  unfold Leaf.tripAction
  extract_lets cls f K
  have hK : SameCount L K := .ite (.ite h.raise h.stick) h
  exact .ite (.ite hK hK.bitEvent) hK

/-- Warnings, rises and trips (R405, R406). -/
theorem judgeSensor {partner : Bool} {i : Nat} {sample : Option Int} : SameCount L (M.judgeSensor partner i sample) := by
  unfold Leaf.judgeSensor
  extract_lets cls broken S last count armed L₁ L₂ L₃ rise lim warn rWarn exceeds rOver L₄ L₅ run calm rel L₆ L₇ L₈
  have h₂ : SameCount L L₂ := h.onSensor.put.put
  have h₃ : SameCount L L₃ := h₂.put.put
  have h₄ : SameCount L L₄ := .ite h₃.raise h₃
  have h₅ : SameCount L L₅ := .ite h₄.raise h₄
  have h₆ : SameCount L L₆ := h₅.onSensor
  have h₇ : SameCount L L₇ := h₆.bump.onSensor
  have h₈ : SameCount L L₈ := .ite h₇.stick h₇
  exact .ite (.ite h₆.onSensor h₆.tripAction) (.ite h₈.tripAction (.ite h₆.bump h₆))

end

end SameCount

/-! ### A sensor changed -/

section

variable (L : Leaf) (f : TSensor → TSensor)

theorem Leaf.tsensor_onSensor (i : Nat) (hi : i < 83) : (L.onSensor i f).tsensor i = f (L.tsensor i) :=
  pick_alter_same _ _ _ hi

theorem Leaf.tsensor_onSensor_other (i j : Nat) (h : j ≠ i) : (L.onSensor i f).tsensor j = L.tsensor j :=
  pick_setIfInBounds_other _ _ _ _ h

/-- A change of the sensors in turn changes each of them once. -/
theorem Leaf.foldl_onSensor (n j : Nat) (hn : n ≤ 83) :
    ((List.range n).foldl (fun M i => M.onSensor i f) L).tsensor j =
      if j < n then f (L.tsensor j) else L.tsensor j := by
  induction n with
  | zero => rfl
  | succ n ih =>
    rw [List.range_succ, List.foldl_append, List.foldl_cons, List.foldl_nil]
    obtain rfl | hother := eq_or_ne j n
    · rw [Leaf.tsensor_onSensor _ _ _ hn, ih (Nat.le_of_lt hn), if_neg (Nat.lt_irrefl j), if_pos (Nat.lt_succ_self j)]
    · rw [Leaf.tsensor_onSensor_other _ _ _ _ hother, ih (Nat.le_of_lt hn)]
      exact if_congr (by omega) rfl rfl

end

/-! ### The samples of a period -/

/-- No reading of the period being formed stands with a sensor (R401). -/
def TSensor.NoReading (S : TSensor) : Prop := S.n = 0 ∧ S.sum = 0 ∧ S.bad = false

/-- The sample of a period was taken in course `c`, and no sensor has a reading of the next one yet (R401). -/
def Leaf.Sampled (L : Leaf) (c : Course) : Prop := L.thm.sampledAt = c ∧ ∀ i, i < 83 → (L.tsensor i).NoReading

namespace Leaf.Sampled

variable {L M : Leaf} {c : Course} (h : L.Sampled c)

include h

theorem ofThm (hthm : M.thm = L.thm) : M.Sampled c := by
  unfold Leaf.Sampled Leaf.tsensor at h ⊢
  rwa [hthm]

/-- A change to a sensor that leaves its readings alone. -/
theorem onSensor (i : Nat) {f : TSensor → TSensor} (hf : (L.tsensor i).NoReading → (f (L.tsensor i)).NoReading) :
    (L.onSensor i f).Sampled c := by
  obtain ⟨hcourse, hnone⟩ := h
  refine ⟨hcourse, fun j hj => ?_⟩
  obtain rfl | hother := eq_or_ne j i
  · rw [L.tsensor_onSensor f j hj]
    exact hf (hnone j hj)
  · rw [L.tsensor_onSensor_other f i j hother]
    exact hnone j hj

/-- Differences between the leaves are noted with each sensor, beside its readings (R408). -/
theorem differThermal (P : Leaf) : (L.differThermal P).Sampled c := by
  refine foldl_keeps (Leaf.Sampled · c) _ (fun M k hM => ?_) _ _ h
  have noted (d : Option Course) : (M.onSensor (12 + k) fun S => { S with differs := d }).Sampled c :=
    hM.onSensor _ fun hnone => hnone
  dsimp only
  split
  · exact noted none
  · split
    · exact noted _
    · split
      · exact hM.ofThm (by rw [Leaf.differEvent, Leaf.event_parts])
      · exact hM

end Leaf.Sampled

section

variable (L : Leaf)

theorem Leaf.thermalSummary_thm : L.thermalSummary.thm = L.thm := rfl

theorem Leaf.thermalSummary_keepsRegs : KeepsRegs L L.thermalSummary [THM_STAT.addr 0] := by
  have hmem : THM_STAT.addr 0 ∈ [THM_STAT.addr 0] := .head _
  exact (((KeepsRegs.rfl.put hmem).put hmem).put hmem).put hmem

/-- A coefficient goes to its channel in a frame, and nothing else changes (R411). -/
theorem Leaf.sendDsat_parts (ch : Nat) : L.sendDsat ch = { L with out := (L.sendDsat ch).out } := by
  unfold Leaf.sendDsat Leaf.maint Leaf.emit
  split
  · rfl
  · rfl

theorem Leaf.sampleSensors_sampled (partner : Bool) : (L.sampleSensors partner).Sampled L.count := by
  unfold Leaf.sampleSensors
  extract_lets was now L₁ L₂ L₃
  have h₁ : SameCount L L₁ := by
    refine foldl_keeps (SameCount L) _ (fun M i hM => ?_) _ _ .rfl
    refine .ite ?_ (.ite hM hM.put)
    exact (SameCount.ite (SameCount.put (.ite hM.put.onSensor hM)) hM).checkSensor.judgeSensor
  have h₂ : SameCount L L₂ := foldl_keeps (SameCount L) _ (fun _ _ hM => hM.onSensor) _ _ h₁
  have hempty (i : Nat) (hi : i < 83) : (L₂.tsensor i).NoReading := by
    rw [L₁.foldl_onSensor _ 83 i (Nat.le_refl _), if_pos hi]
    exact ⟨rfl, rfl, rfl⟩
  have h₃ : L₃.thm = L₂.thm ∧ SameCount L L₃ := by
    refine foldl_keeps (fun M => M.thm = L₂.thm ∧ SameCount L M) _ (fun M x hM => ?_) _ _ ⟨rfl, h₂⟩
    split
    · rw [M.sendDsat_parts]
      exact hM
    · exact hM
  obtain ⟨hthm, hcount⟩ := h₃
  have hsensor (i : Nat) : L₃.tsensor i = L₂.tsensor i := congrArg (fun T : Thm => pick T.sensors i) hthm
  have hended : ({ L₃ with thm := { L₃.thm with sampledAt := L₃.count } } : Leaf).Sampled L.count :=
    ⟨hcount, fun i hi => (hsensor i).symm ▸ hempty i hi⟩
  exact hended.ofThm (Leaf.thermalSummary_thm _)

end

/-! ### A broken sensor given back -/

section

variable (L : Leaf) (i : Fin 83)

theorem addr_temp_not_stat : ∀ i : Fin 83, THM_TEMP.addr i ∉ [THM_STAT.addr 0] := by decide

/-- A sensor back in health, its rise count restarted (R405, R407). -/
theorem Leaf.clearBroken_heals (who : Nat) (hbroken : L.sensorBroken i = true) (hlong : 100 ≤ (L.tsensor i).okRun) :
    (L.clearBroken i who).get THM_TEMP_STATE i = 0 ∧ (L.clearBroken i who).get THM_TEMP_SAMPLES i = 0 ∧
      ((L.clearBroken i who).tsensor i).last = [] := by
  unfold Leaf.clearBroken
  extract_lets S f M N
  rw [if_neg (by simp [hbroken]), if_pos hlong]
  let K : Leaf := if 12 ≤ i.val ∧ i.val < 60 then N.sendDsat (i.val - 12) else N
  have hK : K.regs = N.regs ∧ K.thm = N.thm := by
    unfold K
    split
    · rw [N.sendDsat_parts]
      exact ⟨rfl, rfl⟩
    · exact ⟨rfl, rfl⟩
  obtain ⟨hregs, hthm⟩ := hK
  have hkept (g : Fld) (hg : g.reg = THM_TEMP) : K.thermalSummary.get g i = M.get g i :=
    (K.thermalSummary_keepsRegs.get (by rw [hg]; exact addr_temp_not_stat i)).trans (Leaf.get_regs _ _ _ _ hregs)
  refine ⟨?_, ?_, ?_⟩
  · calc K.thermalSummary.get THM_TEMP_STATE i
      _ = M.get THM_TEMP_STATE i := hkept _ rfl
      _ = (((L.put f 0).put THM_TEMP_STATE 0 i).put THM_TEMP_SAMPLES 0 i).get THM_TEMP_STATE i :=
        Leaf.get_put_field _ THM_TEMP_ARMED THM_TEMP_STATE _ _ rfl (by decide)
      _ = ((L.put f 0).put THM_TEMP_STATE 0 i).get THM_TEMP_STATE i :=
        Leaf.get_put_field _ THM_TEMP_SAMPLES THM_TEMP_STATE _ _ rfl (by decide)
      _ = 0 := Leaf.get_put _ THM_TEMP_STATE 0 i (by decide)
  · calc K.thermalSummary.get THM_TEMP_SAMPLES i
      _ = M.get THM_TEMP_SAMPLES i := hkept _ rfl
      _ = (((L.put f 0).put THM_TEMP_STATE 0 i).put THM_TEMP_SAMPLES 0 i).get THM_TEMP_SAMPLES i :=
        Leaf.get_put_field _ THM_TEMP_ARMED THM_TEMP_SAMPLES _ _ rfl (by decide)
      _ = 0 := Leaf.get_put _ THM_TEMP_SAMPLES 0 i (by decide)
  · rw [Leaf.tsensor, Leaf.thermalSummary_thm, hthm]
    exact congrArg TSensor.last (M.tsensor_onSensor _ i i.isLt)

end

/-! ### The commands -/

section

variable (s : State) (l : LeafId)

theorem thermalSample_ends (hrole : (s.leaf l).role ≠ .boot) (hlong : 1600 ≤ since (s.leaf l).count (s.leaf l).thm.sampledAt) :
    Completes (.thermalSample l) s fun t => OnlyLeaf l s t ∧ (t.leaf l).thm.sampledAt = (s.leaf l).count ∧
      ∀ i, i < 83 → ((t.leaf l).tsensor i).n = 0 ∧ ((t.leaf l).tsensor i).sum = 0 ∧ ((t.leaf l).tsensor i).bad = false := by
  refine Ends.guardedTrue (by simp [hrole, hlong]) ⟨.setLeaf, ?_⟩
  rw [State.leaf_setLeaf]
  have hsampled := (s.leaf l).sampleSensors_sampled (s.partnerAligned l && (s.leaf l.other).carrying)
  split
  · exact hsampled.differThermal _
  · exact hsampled

theorem thermalSample_waits (hshort : since (s.leaf l).count (s.leaf l).thm.sampledAt < 1600) :
    exec (.thermalSample l) s = .next s := by
  refine guarded_false s ?_
  rw [decide_eq_false (Nat.not_le.mpr hshort), Bool.and_false]

theorem brokenClear_heals (i : Fin 83) (who : Ident) (hbroken : (s.leaf l).sensorBroken i = true)
    (hlong : 100 ≤ ((s.leaf l).tsensor i).okRun) :
    Completes (.brokenClear l i who) s fun t => OnlyLeaf l s t ∧ (t.leaf l).get THM_TEMP_STATE i = 0 ∧
      (t.leaf l).get THM_TEMP_SAMPLES i = 0 ∧ ((t.leaf l).tsensor i).last = [] := by
  refine ⟨_, rfl, .on, ?_⟩
  rw [State.leaf_on]
  exact (s.leaf l).clearBroken_heals i who.val hbroken hlong

theorem brokenClear_discards (i : Fin 83) (who : Ident) (hbroken : (s.leaf l).sensorBroken i = true)
    (hshort : ((s.leaf l).tsensor i).okRun < 100) :
    Completes (.brokenClear l i who) s fun t => OnlyLeaf l s t ∧ (t.leaf l).thm = (s.leaf l).thm ∧
      KeepsRegs (s.leaf l) (t.leaf l) reportRegs := by
  refine ⟨_, rfl, .on, ?_⟩
  rw [State.leaf_on, Leaf.clearBroken]
  dsimp only
  rw [if_neg (by simp [hbroken]), if_neg (Nat.not_le.mpr hshort)]
  refine ⟨?_, (Leaf.discard_rests ..).2⟩
  rw [Leaf.discard, Leaf.discardEvent, Leaf.event_parts]

end

/-- Settles O45: a return begins by moving the drum and the traction side alone, the hold leaves the target gear in doubt, and
the sensors' readings and health change as the samples of their periods say. -/
theorem shiftReturnAndSensors : Obligations.shift_return_and_sensors :=
  ⟨shiftReturn_returns, shiftReturn_passed, engageHoldExpiry_engages, thermalSample_ends, thermalSample_waits,
    brokenClear_heals, brokenClear_discards⟩

end Sys2Proof.Machine
end

section
/-! A step of the queue (log entry 3), and the state at reset (R601, R616). -/

namespace Sys2Proof.Machine

open Sys2Proof

/-- Settles O1: `step` on a queue that holds a command is `exec` of that command. -/
theorem stepRunsFrontCommand : Obligations.step_runs_front_command :=
  fun _ _ _ => rfl

/-- Settles O2: `step` on an empty queue answers the state. -/
theorem stepIdlesOnEmptyQueue : Obligations.step_idles_on_empty_queue := by
  intro s hempty
  rw [step, hempty]

/-- A leaf at reset lists no register, so each reads the reset value of its row (R616). -/
theorem Leaf.reset_word (l : LeafId) (r : Reg) (i : Nat) : (Leaf.reset l).word r i = BitVec.ofNat 64 (r.resetAt i) := rfl

theorem State.reset_leaf (l : LeafId) : State.reset.leaf l = Leaf.reset l := by cases l <;> rfl

/-- Settles O4: at reset both leaves are `Leaf.reset`, which lists no register. -/
theorem resetRegisters : Obligations.reset_registers := by
  refine ⟨rfl, rfl, fun l => ?_⟩
  rw [State.reset_leaf]
  exact ⟨rfl, rfl, Leaf.reset_word l⟩

end Sys2Proof.Machine
end

section
/-! A second silence (R424). -/

namespace Sys2Proof.Machine

open Sys2Proof

section

variable (s : State) (l : LeafId)

/-- A silence within the window of R424 names OUT, another names RESTART. -/
theorem leafSilence_names (cause : Fin 6) (tick : Fin 4000) (hcause : cause.val ≠ 0) (hcomp : (s.leaf l).computing = true)
    (hcut : (s.leaf l).cut = false) :
    Completes (.leafSilence l cause tick) s fun t => (t.leaf l).crs.roleAt =
      some (namedAt (s.leaf l).count tick, if (s.leaf l).silentAgain then .out else .restart) :=
  Ends.imp (leafSilence_cuts s l cause tick hcause hcomp hcut) fun _ ⟨_, _, _, _, hplan⟩ => hplan

theorem leafSilence_names_out (cause : Fin 6) (tick : Fin 4000) (c : Course) (hcause : cause.val ≠ 0)
    (hcomp : (s.leaf l).computing = true) (hcut : (s.leaf l).cut = false) (hrestart : (s.leaf l).tie.silenceRestart = true)
    (hfollow : (s.leaf l).tie.followAt = some c) (hsoon : since (s.leaf l).count c < 9600000) :
    Completes (.leafSilence l cause tick) s fun t => (t.leaf l).crs.roleAt = some (namedAt (s.leaf l).count tick, .out) := by
  have hagain : (s.leaf l).silentAgain = true := by simp [Leaf.silentAgain, hrestart, hfollow, hsoon]
  have hnames := leafSilence_names s l cause tick hcause hcomp hcut
  rwa [if_pos hagain] at hnames

theorem leafSilence_names_restart (cause : Fin 6) (tick : Fin 4000) (hcause : cause.val ≠ 0)
    (hcomp : (s.leaf l).computing = true) (hcut : (s.leaf l).cut = false)
    (hfirst : (s.leaf l).tie.silenceRestart = false ∨
      ∀ c, (s.leaf l).tie.followAt = some c → 9600000 ≤ since (s.leaf l).count c) :
    Completes (.leafSilence l cause tick) s fun t =>
      (t.leaf l).crs.roleAt = some (namedAt (s.leaf l).count tick, .restart) := by
  have hagain : ¬ (s.leaf l).silentAgain = true := by
    rcases hfirst with hno | hlong
    · simp [Leaf.silentAgain, hno]
    · cases hc : (s.leaf l).tie.followAt with
      | none => simp [Leaf.silentAgain, hc]
      | some c => simp [Leaf.silentAgain, hc, hlong c hc]
  have hnames := leafSilence_names s l cause tick hcause hcomp hcut
  rwa [if_neg hagain] at hnames

/-- A leaf that enters OUT shows it, whatever its masters, its stream and its rotation step leave (R423). -/
theorem State.enterOut_role : ((s.enterOut l).leaf l).role = .out := by
  unfold State.enterOut State.tellPartner
  rw [State.leaf_on_otherLeaf, State.leaf_setLeaf]
  rfl

theorem applyRole_out (c : Course) (hplan : (s.leaf l).crs.roleAt = some (c, .out))
    (hdue : isAfter (s.leaf l).count.toNat c.toNat 48 = false) : ((s.applyRole l).leaf l).role = .out := by
  unfold State.applyRole
  simp only [hplan, hdue]
  exact State.enterOut_role _ l

/-- The window over, the silence was transient: it is counted, and no longer held against the leaf (R424). -/
theorem restartWindowEnd_counts (c : Course) (hcarry : (s.leaf l).carrying = true)
    (hrestart : (s.leaf l).tie.silenceRestart = true) (hfollow : (s.leaf l).tie.followAt = some c)
    (hlong : 9600000 ≤ since (s.leaf l).count c) :
    Completes (.restartWindowEnd l) s fun t => OnlyLeaf l s t ∧ (t.leaf l).tie.silenceRestart = false ∧
      (t.leaf l).get TIE_CNT_RESTARTS = min ((s.leaf l).get TIE_CNT_RESTARTS + 1) TIE_CNT_RESTARTS.max ∧
      KeepsRegs (s.leaf l) (t.leaf l) [TIE_CNT.addr 0] := by
  refine Ends.guardedTrue (by simp [hcarry, hrestart, hfollow, hlong]) ⟨.setLeaf, ?_⟩
  rw [State.leaf_setLeaf]
  exact ⟨rfl, Leaf.get_bump _ _ _ (by decide), KeepsRegs.rfl.put (List.mem_singleton.mpr rfl)⟩

theorem restartWindowEnd_waits (c : Course) (hfollow : (s.leaf l).tie.followAt = some c)
    (hshort : since (s.leaf l).count c < 9600000) :
    exec (.restartWindowEnd l) s = .next s :=
  guarded_false s (by simp [hfollow, hshort])

end

/-- Settles O59: the window of R424 decides between OUT and RESTART at a silence, and its end counts the silence. -/
theorem secondSilenceIsLasting : Obligations.second_silence_is_lasting :=
  ⟨leafSilence_names_out, applyRole_out, leafSilence_names_restart, fun s l c hcarry hrestart hfollow =>
    ⟨fun hlong => Ends.imp (restartWindowEnd_counts s l c hcarry hrestart hfollow hlong)
      fun _ ⟨_, hover, hcount, _⟩ => ⟨hcount, hover⟩,
      restartWindowEnd_waits s l c hfollow⟩⟩

end Sys2Proof.Machine
end

section
/-! Resets (R597, R600, R601). -/

namespace Sys2Proof.Machine

open Sys2Proof

/-- The pins are no part of a leaf. -/
theorem State.leaf_withPins (s : State) (p : Pins) (l : LeafId) : ({ s with pins := p } : State).leaf l = s.leaf l := by
  cases l <;> rfl

theorem resetNAssert_holds (s : State) (ns : Nat) (hoff : s.mode ≠ .off) (hlong : 10000 ≤ ns) :
    Completes (.resetNAssert ns) s fun t => t.mode = .boot ∧ t.pins.resetN = true ∧
      ∀ l, (t.leaf l).role = .boot ∧ (t.leaf l).ldg.archive = (s.leaf l).ldg.archive ∧
        (t.leaf l).upd.slots = (s.leaf l).upd.slots := by
  have hnofree : ¬ (2000 ≤ ns ∧ ns < 10000) := by omega
  change Ends (execResetNAssert ns s) _
  unfold execResetNAssert
  simp only [if_neg hnofree]
  refine Ends.guardedTrue (by simp [hlong, hoff]) ⟨by simp, rfl, fun l => ?_⟩
  rw [State.leaf_withPins, State.resetAll_leaf]
  exact ⟨rfl, rfl, rfl⟩

theorem resetNAssert_ignores (s : State) (ns : Nat) (hshort : ns < 2000) : exec (.resetNAssert ns) s = .next s := by
  change execResetNAssert ns s = _
  unfold execResetNAssert
  have h2 : ¬ 2000 ≤ ns := by omega
  have h10 : ¬ 10000 ≤ ns := by omega
  simp only [h2, h10, false_and, if_false]
  exact guarded_false s (by simp)

theorem resetNRelease_boots (s : State) (vlvMv : Nat) (hheld : s.pins.resetN = true) (hvlv : 16000 < vlvMv) :
    Completes (.resetNRelease vlvMv) s fun t => t.mode = .boot ∧ t.pins.resetN = false ∧
      ∀ l, (t.leaf l).get GLB_WAKE_CAUSE = 3 := by
  refine Ends.guardedTrue hheld ?_
  simp only [hvlv, decide_true, if_true]
  exact ⟨by simp, by simp, fun l => State.enterBoot_cause _ _ l (by decide)⟩

theorem reset_boots (s : State) (l : LeafId) (hmode : s.mode = .ready ∨ s.mode = .workshop) (hvlv : s.pins.vlv = true) :
    Completes (.reset l) s fun t => t.mode = .boot ∧ t.sec = {} ∧
      ∀ m, (t.leaf m).get GLB_WAKE_CAUSE = 3 ∧ (t.leaf m).role = .boot ∧ (t.leaf m).bst.spares = (s.leaf m).bst.spares ∧
        (t.leaf m).ldg.superseded = (s.leaf m).ldg.superseded ∧ (t.leaf m).upd.current = (s.leaf m).upd.current := by
  have hsetup : s.setup = true := by simpa [State.setup] using hmode
  refine Ends.guardedTrue hsetup ?_
  rw [if_pos hvlv]
  refine ⟨by simp, by simp, fun m => ⟨State.enterBoot_cause _ _ m (by decide), State.enterBoot_role _ _ m, ?_⟩⟩
  rw [State.enterBoot_leaf]
  exact ⟨rfl, rfl, rfl⟩

/-- Settles O6: each reset goes through `resetAll`, which keeps the stores and the flash of both leaves. -/
theorem resetsBootAndKeepStores : Obligations.resets_boot_and_keep_stores :=
  ⟨resetNAssert_holds, resetNAssert_ignores, resetNRelease_boots, reset_boots⟩

end Sys2Proof.Machine
end

section
/-! What folds and registers keep: the rules that the channels of a mailbox, the units of a network and the parts of a leaf
share. -/

namespace Sys2Proof.Machine

open Sys2Proof

/-! ### Folds over the members of a table -/

/-- A fold over a table that visits member `c` once: what holds before its turn and what its turn brings about are kept by
the turns of the other members. -/
theorem foldl_range_visits {α : Type} {P Q : α → Prop} {f : α → Nat → α} {n c : Nat} (hc : c < n)
    (before : ∀ a j, j ≠ c → P a → P (f a j)) (turn : ∀ a, P a → Q (f a c)) (later : ∀ a j, j ≠ c → Q a → Q (f a j))
    {a : α} (ha : P a) : Q ((List.range n).foldl f a) := by
  induction n with
  | zero => omega
  | succ n ih =>
    rw [List.range_succ, List.foldl_append]
    rcases Nat.lt_succ_iff_lt_or_eq.mp hc with h | rfl
    · exact later _ n (by omega) (ih h)
    · refine turn _ (List.foldlRecOn _ _ ha fun b hb j hj => before b j ?_ hb)
      exact (List.mem_range.mp hj).ne

/-! ### Registers and fields -/

namespace KeepsRegs

variable {L M N : Leaf} {but : List Nat}

theorem trans (h : KeepsRegs L M but) (h' : KeepsRegs M N but) : KeepsRegs L N but :=
  fun off hoff => (h' off hoff).trans (h off hoff)

theorem mono {more : List Nat} (h : KeepsRegs L M but) (hsub : but ⊆ more) : KeepsRegs L M more :=
  fun off hoff => h off (mt (@hsub off) hoff)

theorem ofRegs (hregs : M.regs = L.regs) : KeepsRegs L M but := fun _ _ => by rw [hregs]

theorem bump (h : KeepsRegs L M but) {f : Fld} {i : Nat} (hmem : f.reg.addr i ∈ but) : KeepsRegs L (M.bump f i) but :=
  h.put hmem

theorem ite {c : Prop} [Decidable c] (hM : KeepsRegs L M but) (hN : KeepsRegs L N but) :
    KeepsRegs L (if c then M else N) but := by
  split
  · exact hM
  · exact hN

theorem foldl {α : Type} {f : Leaf → α → Leaf} {xs : List α} (h : KeepsRegs L M but)
    (hf : ∀ K, ∀ a ∈ xs, KeepsRegs K (f K a) but) : KeepsRegs L (xs.foldl f M) but :=
  List.foldlRecOn (motive := fun K => KeepsRegs L K but) xs f h fun K hK a ha => hK.trans (hf K a ha)

theorem produce (h : KeepsRegs L M but) {e : OutEntry} (hreports : reportRegs ⊆ but) : KeepsRegs L (M.produce e) but :=
  h.trans ((M.produce_keepsRegs e).mono hreports)

theorem event (h : KeepsRegs L M but) {code subj detail : Nat} (hreports : reportRegs ⊆ but) :
    KeepsRegs L (M.event code subj detail) but := h.produce hreports

theorem discard (h : KeepsRegs L M but) {off who value : Nat} (hreports : reportRegs ⊆ but) :
    KeepsRegs L (M.discard off who value) but := h.produce hreports

theorem complete (h : KeepsRegs L M but) {hd : Hdr} {code effect detail : Nat} (hreports : reportRegs ⊆ but) :
    KeepsRegs L (M.complete hd code effect detail) but := by
  have hcnt : HRE_CNT.addr 0 ∈ but := hreports (by decide)
  unfold Leaf.complete
  split
  · exact h
  · dsimp only
    split
    · exact h.produce hreports
    · exact (h.produce hreports).bump hcnt

end KeepsRegs

/-- A value that its field holds reads back as it was put. -/
theorem Leaf.get_put_fits (L : Leaf) (f : Fld) (v i : Nat) (h : f.hi < 64) (hv : v < 2 ^ (f.hi + 1 - f.lo)) :
    (L.put f v i).get f i = v := by
  rw [L.get_put f v i h, Nat.mod_eq_of_lt hv]

theorem bit_lt (b : Bool) : bit b < 2 := by cases b <;> decide

/-- A flag reads back as it was put. -/
theorem Leaf.get_put_flag (L : Leaf) (f : Fld) (b : Bool) (i : Nat) (h : f.hi < 64) (hf : f.lo ≤ f.hi) :
    (L.put f (bit b) i).get f i = bit b := by
  refine L.get_put_fits f _ i h (lt_of_lt_of_le (bit_lt b) ?_)
  exact Nat.pow_le_pow_right (n := 2) (by decide) (show 1 ≤ f.hi + 1 - f.lo by omega)

/-- A discarded write is reported, and changes nothing else. -/
theorem Leaf.discard_parts (L : Leaf) (off who value : Nat) :
    L.discard off who value =
      { L with regs := (L.discard off who value).regs, hre := (L.discard off who value).hre } := L.produce_parts _

end Sys2Proof.Machine
end

section
/-! The state of a mailbox channel (R490 to R504). -/

namespace Sys2Proof.Machine

open Sys2Proof

/-! ### Where the registers of a channel stand -/

theorem addr_mbx_msg (c w : Nat) (h : w < 16) : MBX_MSG.addr (16 * c + w) = 0x100000 + 0x100 * c + 8 * w := by
  have hdiv : (16 * c + w) / 16 = c := by omega
  have hmod : (16 * c + w) % 16 = w := by omega
  simp [Reg.addr, MBX_MSG, hdiv, hmod]

theorem addr_mbx_stat (c : Nat) : MBX_STAT.addr c = 0x100088 + 0x100 * c := by simp [Reg.addr, MBX_STAT]

theorem addr_mbx_ack (c : Nat) : MBX_ACK.addr c = 0x100090 + 0x100 * c := by simp [Reg.addr, MBX_ACK]

theorem addr_mbx_bind (c : Nat) : MBX_BIND.addr c = 0x100098 + 0x100 * c := by simp [Reg.addr, MBX_BIND]

theorem addr_mbx_cnt (c : Nat) : MBX_CNT.addr c = 0x1000a0 + 0x100 * c := by simp [Reg.addr, MBX_CNT]

theorem addr_mbx_fullsum : MBX_FULLSUM.addr 0 = 0x102008 := rfl

theorem addr_lock (k : Nat) : LOCK.addr k = 0x108000 + 8 * k := by simp [Reg.addr, LOCK]

theorem addr_lock_cnt : LOCK_CNT.addr 0 = 0x108080 := rfl

/-- The registers that a move of channel `c` writes (R503, R504). -/
def moveRegs (c : Nat) : List Nat := [MBX_STAT.addr c, MBX_ACK.addr c, MBX_FULLSUM.addr 0]

/-- The registers that a move of channel `c` writes, with the counters that stand beside it. -/
def mbRegs (c : Nat) : List Nat := MBX_CNT.addr c :: moveRegs c

theorem mem_moveRegs {off c : Nat} : off ∈ moveRegs c ↔
    off = 0x100088 + 0x100 * c ∨ off = 0x100090 + 0x100 * c ∨ off = 0x102008 := by
  simp [moveRegs, addr_mbx_stat, addr_mbx_ack, addr_mbx_fullsum]

theorem mem_mbRegs {off c : Nat} : off ∈ mbRegs c ↔ off = 0x1000a0 + 0x100 * c ∨ off ∈ moveRegs c := by
  rw [mbRegs, List.mem_cons, addr_mbx_cnt]

theorem moveRegs_subset (c : Nat) : moveRegs c ⊆ mbRegs c := List.subset_cons_self ..

theorem addr_cnt_not_move (c d : Nat) : MBX_CNT.addr d ∉ moveRegs c := by
  rw [mem_moveRegs, addr_mbx_cnt]
  omega

theorem addr_bind_not_mb (c d : Nat) : MBX_BIND.addr d ∉ mbRegs c := by
  rw [mem_mbRegs, mem_moveRegs, addr_mbx_bind]
  omega

theorem addr_stat_not_mb {c d : Nat} (h : d ≠ c) : MBX_STAT.addr d ∉ mbRegs c := by
  rw [mem_mbRegs, mem_moveRegs, addr_mbx_stat]
  omega

theorem addr_ack_not_mb {c d : Nat} (h : d ≠ c) : MBX_ACK.addr d ∉ mbRegs c := by
  rw [mem_mbRegs, mem_moveRegs, addr_mbx_ack]
  omega

theorem addr_msg_not_move (c d w : Nat) (hd : d < 32) (hw : w < 16) : MBX_MSG.addr (16 * d + w) ∉ moveRegs c := by
  rw [mem_moveRegs, addr_mbx_msg _ _ hw]
  omega

theorem addr_stat_ne_msg (c d w : Nat) (hw : w < 16) : MBX_STAT.addr c ≠ MBX_MSG.addr (16 * d + w) := by
  rw [addr_mbx_stat, addr_mbx_msg _ _ hw]
  omega

theorem addr_stat_ne_cnt (c d : Nat) : MBX_STAT.addr c ≠ MBX_CNT.addr d := by
  rw [addr_mbx_stat, addr_mbx_cnt]
  omega

/-! ### A move, and a reply -/

section

variable (L : Leaf) (c st sender code rlen : Nat)

theorem Leaf.mbMove_keepsRegs : KeepsRegs L (L.mbMove c st sender) (moveRegs c) := by
  have hstat : MBX_STAT.addr c ∈ moveRegs c := by simp [moveRegs]
  have hack : MBX_ACK.addr c ∈ moveRegs c := by simp [moveRegs]
  have hsum : MBX_FULLSUM.addr 0 ∈ moveRegs c := by simp [moveRegs]
  exact ((((KeepsRegs.rfl.put hstat).put hstat).put hstat).put hsum).put hack

theorem Leaf.mbMove_regsOnly : RegsOnly L (L.mbMove c st sender) := RegsOnly.rfl.mbMove

theorem Leaf.reply_keepsRegs : KeepsRegs L (L.reply c code rlen) (moveRegs c) := by
  have hack : MBX_ACK.addr c ∈ moveRegs c := by simp [moveRegs]
  exact ((L.mbMove_keepsRegs c 3 _).put hack).put hack

theorem Leaf.reply_regsOnly : RegsOnly L (L.reply c code rlen) := (L.mbMove_regsOnly ..).put.put

/-- A channel moved shows its new state and sender, and by its flags whether it is full and whether it is answered (R494, R503). -/
theorem Leaf.mbMove_shows (hc : c < 32) (hst : st < 4) (hsender : sender < 8) :
    (L.mbMove c st sender).mbState c = st ∧ (L.mbMove c st sender).mbSender c = sender ∧
      (L.mbMove c st sender).get MBX_ACK_VALID c = bit (decide (st = 3)) ∧
      (L.mbMove c st sender).get (MBX_FULLSUM_FULL.bit c) = bit (decide (st = 2)) := by
  have hsum : MBX_STAT.addr c ≠ MBX_FULLSUM.addr 0 := by
    rw [addr_mbx_stat, addr_mbx_fullsum]
    omega
  have hack : MBX_STAT.addr c ≠ MBX_ACK.addr c := by
    rw [addr_mbx_stat, addr_mbx_ack]
    omega
  have hsumack : MBX_FULLSUM.addr 0 ≠ MBX_ACK.addr c := by
    rw [addr_mbx_fullsum, addr_mbx_ack]
    omega
  have hbit : (MBX_FULLSUM_FULL.bit c).hi < 64 := by
    change 0 + c < 64
    omega
  refine ⟨?_, ?_, Leaf.get_put_flag _ MBX_ACK_VALID _ _ (by decide) (by decide), ?_⟩
  · unfold Leaf.mbState Leaf.mbMove
    rw [Leaf.get_put_other _ _ _ _ _ _ hack, Leaf.get_put_other _ _ _ _ _ _ hsum,
      Leaf.get_put_field _ MBX_STAT_COURSE MBX_STAT_STATE _ _ rfl (by decide),
      Leaf.get_put_field _ MBX_STAT_SENDER MBX_STAT_STATE _ _ rfl (by decide),
      Leaf.get_put_fits _ _ _ _ (by decide) hst]
  · unfold Leaf.mbSender Leaf.mbMove
    rw [Leaf.get_put_other _ _ _ _ _ _ hack, Leaf.get_put_other _ _ _ _ _ _ hsum,
      Leaf.get_put_field _ MBX_STAT_COURSE MBX_STAT_SENDER _ _ rfl (by decide),
      Leaf.get_put_fits _ _ _ _ (by decide) hsender]
  · unfold Leaf.mbMove
    rw [Leaf.get_put_other _ _ _ _ _ _ hsumack, Leaf.get_put_flag _ _ _ _ hbit (Nat.le_refl _)]

theorem Leaf.mbSender_lt : L.mbSender c < 8 := Nat.mod_lt _ (by decide)

/-- A reply shows the channel answered, to the sender it had, with its code and its length (R492, R493). -/
theorem Leaf.reply_shows (hc : c < 32) (hcode : code < 2 ^ 16) (hrlen : rlen < 32) :
    (L.reply c code rlen).mbState c = 3 ∧ (L.reply c code rlen).mbSender c = L.mbSender c ∧
      (L.reply c code rlen).get MBX_ACK_CODE c = code ∧ (L.reply c code rlen).get MBX_ACK_RLEN c = rlen ∧
      (L.reply c code rlen).get MBX_ACK_VALID c = 1 := by
  have hack : MBX_STAT.addr c ≠ MBX_ACK.addr c := by
    rw [addr_mbx_stat, addr_mbx_ack]
    omega
  obtain ⟨hstate, hsender, hvalid, -⟩ := L.mbMove_shows c 3 (L.mbSender c) hc (by decide) (L.mbSender_lt c)
  refine ⟨?_, ?_, ?_, Leaf.get_put_fits _ MBX_ACK_RLEN _ _ (by decide) hrlen, ?_⟩
  · unfold Leaf.reply Leaf.mbState
    rw [Leaf.get_put_other _ _ _ _ _ _ hack, Leaf.get_put_other _ _ _ _ _ _ hack]
    exact hstate
  · unfold Leaf.reply Leaf.mbSender
    rw [Leaf.get_put_other _ _ _ _ _ _ hack, Leaf.get_put_other _ _ _ _ _ _ hack]
    exact hsender
  · unfold Leaf.reply
    rw [Leaf.get_put_field _ MBX_ACK_RLEN MBX_ACK_CODE _ _ rfl (by decide), Leaf.get_put_fits _ _ _ _ (by decide) hcode]
  · unfold Leaf.reply
    rw [Leaf.get_put_field _ MBX_ACK_RLEN MBX_ACK_VALID _ _ rfl (by decide),
      Leaf.get_put_field _ MBX_ACK_CODE MBX_ACK_VALID _ _ rfl (by decide)]
    exact hvalid

/-- A counter of a channel leaves its state and what it answers. -/
theorem Leaf.bump_cnt_channel (f g : Fld) (hf : f.reg = MBX_CNT) (hg : g.reg = MBX_STAT ∨ g.reg = MBX_ACK) :
    (L.bump f c).get g c = L.get g c := by
  refine L.get_bump_other f g c c ?_
  rcases hg with hg | hg
  · rw [hf, hg, addr_mbx_stat, addr_mbx_cnt]
    omega
  · rw [hf, hg, addr_mbx_ack, addr_mbx_cnt]
    omega

end

/-! ### A master lost -/

/-- A channel of a lost master (R496). -/
def Leaf.loseChannel (who : Nat) (L : Leaf) (c : Nat) : Leaf :=
  if !L.party c who || L.mbState c == 0 then L
  else if L.mbSender c = who then (L.mbMove c 0 0).bump MBX_CNT_LAPSED c
  else if L.mbState c = 2 then L.reply c 0xFF01 0
  else L

/-- A lock of a lost master (R501). -/
def Leaf.loseLock (who : Nat) (L : Leaf) (k : Nat) : Leaf :=
  if L.get LOCK_OWNER k = who then (L.put LOCK_OWNER 0 k).bump LOCK_CNT_FORCED else L

theorem Leaf.masterLost_eq (L : Leaf) (who : Nat) :
    L.masterLost who = (List.range 16).foldl (Leaf.loseLock who) ((List.range 32).foldl (Leaf.loseChannel who) L) := rfl

section

variable (L : Leaf) (who c k : Nat)

theorem Leaf.loseChannel_keepsRegs : KeepsRegs L (L.loseChannel who c) (mbRegs c) := by
  have hcnt : MBX_CNT.addr c ∈ mbRegs c := by simp [mbRegs]
  exact .ite .rfl (.ite (((L.mbMove_keepsRegs c 0 0).mono (moveRegs_subset c)).bump hcnt)
    (.ite ((L.reply_keepsRegs c _ _).mono (moveRegs_subset c)) .rfl))

theorem Leaf.loseLock_keepsRegs : KeepsRegs L (L.loseLock who k) [LOCK.addr k, LOCK_CNT.addr 0] :=
  .ite ((KeepsRegs.rfl.put (List.mem_cons_self ..)).bump (List.mem_cons_of_mem _ (List.mem_cons_self ..))) .rfl

/-- What a leaf loses with a master stands in BAR2 (R489): every register of BAR0 is as it was. -/
theorem Leaf.masterLost_keeps (off : Nat) (h : off < 0x100000) : kvFind (L.masterLost who).regs off = kvFind L.regs off := by
  rw [Leaf.masterLost_eq]
  refine (foldl_same (fun M : Leaf => kvFind M.regs off) _ (fun M k => ?_) _ _).trans
    (foldl_same (fun M : Leaf => kvFind M.regs off) _ (fun M c => ?_) _ _)
  · refine M.loseLock_keepsRegs who k off ?_
    simp only [List.mem_cons, List.not_mem_nil, addr_lock, addr_lock_cnt, or_false]
    omega
  · refine M.loseChannel_keepsRegs who c off ?_
    rw [mem_mbRegs, mem_moveRegs]
    omega

end

end Sys2Proof.Machine
end

section
/-! The ring engine and its link (R444, R457, R486). -/

namespace Sys2Proof.Machine

open Sys2Proof

theorem setup_of_open (s : State) (h : s.mode = .ready ∨ s.mode = .workshop) : s.setup = true := by
  simpa [State.setup] using h

section

variable (s : State) (l : LeafId)

theorem ringEngineRun_runs (hmode : s.mode = .ready ∨ s.mode = .workshop) (hdb : (s.leaf l).word HRE_DB_ADDR ≠ 0)
    (hsb : (s.leaf l).word HRE_SB_ADDR ≠ 0) :
    Completes (.ringEngineRun l) s fun t => OnlyLeaf l s t ∧ (t.leaf l).get HRE_CTRL_RUN = 1 ∧
      (∀ v : Fin 32, (pick (t.leaf l).hre.vec v).armSeen = none) ∧ KeepsRegs (s.leaf l) (t.leaf l) [HRE_CTRL.addr 0] := by
  change Ends (execRingEngineRun l s) _
  unfold execRingEngineRun
  simp only [setup_of_open s hmode, hdb, hsb, Bool.not_true, Bool.false_eq_true, or_false, if_false]
  refine Ends.next ⟨.setLeaf, ?_⟩
  rw [State.leaf_setLeaf]
  refine ⟨Leaf.get_put_fits _ HRE_CTRL_RUN _ _ (by decide) (by decide), fun v => ?_,
    KeepsRegs.rfl.put (List.mem_singleton.mpr rfl)⟩
  exact congrArg Vec.armSeen (pick_map _ _ v.val v.isLt)

theorem ringEngineRun_discards (hmode : s.mode = .ready ∨ s.mode = .workshop) (hdb : (s.leaf l).word HRE_DB_ADDR = 0) :
    Completes (.ringEngineRun l) s fun t => OnlyLeaf l s t ∧ KeepsRegs (s.leaf l) (t.leaf l) reportRegs := by
  change Ends (execRingEngineRun l s) _
  unfold execRingEngineRun
  simp only [setup_of_open s hmode, hdb, Bool.not_true, Bool.false_eq_true, true_or, if_false, if_true]
  refine Ends.next ⟨.setLeaf, ?_⟩
  rw [State.leaf_setLeaf]
  exact KeepsRegs.rfl.discard fun _ h => h

theorem ringEngineStop_stops (hmode : s.mode = .ready ∨ s.mode = .workshop) :
    Completes (.ringEngineStop l) s fun t => OnlyLeaf l s t ∧ (t.leaf l).get HRE_CTRL_RUN = 0 ∧
      (t.leaf l).hre = (s.leaf l).hre ∧ KeepsRegs (s.leaf l) (t.leaf l) [HRE_CTRL.addr 0] := by
  change Ends (execRingEngineStop l s) _
  unfold execRingEngineStop
  rw [if_pos (setup_of_open s hmode)]
  refine Ends.next ⟨.setLeaf, ?_⟩
  rw [State.leaf_setLeaf]
  exact ⟨Leaf.get_put_fits _ HRE_CTRL_RUN _ _ (by decide) (by decide), rfl, KeepsRegs.rfl.put (List.mem_singleton.mpr rfl)⟩

/-! ### Resets of the link -/

/-- A list of registers without a block holds nothing under the block's offsets. -/
theorem kvFind_filter_absent {α : Type} (regs : List (Nat × α)) (p : Nat → Bool) (off : Nat) (h : p off = false) :
    kvFind (regs.filter fun q => p q.1) off = none := by
  induction regs with
  | nil => rfl
  | cons q t ih =>
    obtain ⟨k, w⟩ := q
    rw [List.filter_cons]
    split
    · rename_i hk
      have hne : off ≠ k := by
        rintro rfl
        simp [h] at hk
      simp [kvFind, hne, ih]
    · exact ih

/-- A hot reset in READY or WORKSHOP returns the registers of the HRE block to reset: mailboxes and locks, which the host is
lost to, stand apart from them (R457, R496). -/
theorem hotReset_resets (perst : Bool) (hmode : s.mode = .ready ∨ s.mode = .workshop) :
    Completes (.hotReset l perst) s fun t => OnlyLeaf l s t ∧ (t.leaf l).hre.comQ = [] ∧ (t.leaf l).hre.locQ = [] ∧
      ∀ (r : Reg) (i : Nat), blockOf (r.addr i) = 3 → (t.leaf l).word r i = BitVec.ofNat 64 (r.resetAt i) := by
  change Ends (execHotReset l perst s) _
  unfold execHotReset
  rw [if_pos (setup_of_open s hmode)]
  refine Ends.next ⟨.on, ?_⟩
  rw [State.leaf_on]
  refine ⟨?_, ?_, fun r i hblock => ?_⟩
  · rw [Leaf.masterLost_regsOnly]
  · rw [Leaf.masterLost_regsOnly]
  · have hlow : r.addr i < 0x100000 := by
      unfold blockOf at hblock
      omega
    rw [Leaf.word, Leaf.masterLost_keeps _ _ _ hlow,
      kvFind_filter_absent _ (fun off => blockOf off != 3) _ (by simp [hblock])]
    rfl

theorem hotReset_loses (perst : Bool) (hcarry : s.mode = .carry) (hup : (s.leaf l).hre.downAt = none) :
    Completes (.hotReset l perst) s fun t => OnlyLeaf l s t ∧ (t.leaf l).get HRE_STAT_LINK_UP = 0 ∧
      (t.leaf l).hre.downAt = some (s.leaf l).count := by
  change Ends (execHotReset l perst s) _
  unfold execHotReset
  rw [if_neg (by simp [setup_of_carry s hcarry])]
  refine Ends.guardedTrue (by simp [hcarry]) ⟨.on, ?_⟩
  rw [State.leaf_on]
  have hregs := (s.leaf l).masterLost_regsOnly (hostId l)
  generalize (s.leaf l).masterLost (hostId l) = M at hregs ⊢
  refine ⟨?_, ?_⟩
  · rw [Leaf.get_regs _ _ _ _ (Leaf.onHre_regs ..),
      Leaf.get_put_field _ HRE_STAT_BME HRE_STAT_LINK_UP _ _ rfl (by decide),
      Leaf.get_put_fits _ _ _ _ (by decide) (by decide)]
  · simp only [Leaf.onHre_hre, Leaf.put_hre]
    rw [hregs]
    simp [hup]

theorem linkDown_shows : Completes (.linkDown l false) s fun t => OnlyLeaf l s t ∧ (t.leaf l).get HRE_STAT_LINK_UP = 0 ∧
    (t.leaf l).hre.reading = false ∧ KeepsRegs (s.leaf l) (t.leaf l) [HRE_STAT.addr 0] := by
  have hdown : ((s.leaf l).put HRE_STAT_LINK_UP 0).get HRE_STAT_LINK_UP = 0 :=
    Leaf.get_put_fits _ _ _ _ (by decide) (by decide)
  have hkeeps : KeepsRegs (s.leaf l) ((s.leaf l).put HRE_STAT_LINK_UP 0) [HRE_STAT.addr 0] :=
    KeepsRegs.rfl.put (List.mem_singleton.mpr rfl)
  refine Ends.onLeaf ⟨.on, ?_⟩
  rw [State.leaf_on]
  dsimp only
  split
  · exact ⟨hdown, rfl, hkeeps⟩
  · exact ⟨hdown, rfl, hkeeps⟩

/-- What a link that is up shows of itself (R457, R486). -/
def Leaf.linkShown (L : Leaf) (bme msix : Bool) : Leaf :=
  ((L.put HRE_STAT_LINK_UP 1).put HRE_STAT_BME (bit bme)).put HRE_STAT_MSIX (bit msix)

theorem Leaf.linkShown_shows (L : Leaf) (bme msix : Bool) :
    (L.linkShown bme msix).get HRE_STAT_LINK_UP = 1 ∧ (L.linkShown bme msix).get HRE_STAT_BME = bit bme ∧
      (L.linkShown bme msix).get HRE_STAT_MSIX = bit msix ∧
      KeepsRegs L (L.linkShown bme msix) [HRE_STAT.addr 0, TIE_CNT.addr 0] := by
  have hmem : HRE_STAT.addr 0 ∈ [HRE_STAT.addr 0, TIE_CNT.addr 0] := List.mem_cons_self ..
  refine ⟨?_, ?_, Leaf.get_put_flag _ HRE_STAT_MSIX _ _ (by decide) (by decide),
    ((KeepsRegs.rfl.put hmem).put hmem).put hmem⟩
  · unfold Leaf.linkShown
    rw [Leaf.get_put_field _ HRE_STAT_MSIX HRE_STAT_LINK_UP _ _ rfl (by decide),
      Leaf.get_put_field _ HRE_STAT_BME HRE_STAT_LINK_UP _ _ rfl (by decide),
      Leaf.get_put_fits _ _ _ _ (by decide) (by decide)]
  · unfold Leaf.linkShown
    rw [Leaf.get_put_field _ HRE_STAT_MSIX HRE_STAT_BME _ _ rfl (by decide),
      Leaf.get_put_flag _ _ _ _ (by decide) (by decide)]

theorem pcieLinkUp_shows (bme msix : Bool) :
    Completes (.pcieLinkUp l bme msix) s fun t => OnlyLeaf l s t ∧ (t.leaf l).get HRE_STAT_LINK_UP = 1 ∧
      (t.leaf l).get HRE_STAT_BME = bit bme ∧ (t.leaf l).get HRE_STAT_MSIX = bit msix ∧
      KeepsRegs (s.leaf l) (t.leaf l) [HRE_STAT.addr 0, TIE_CNT.addr 0] := by
  have hshown := (s.leaf l).linkShown_shows bme msix
  obtain ⟨hup, hbme, hmsix, hkeeps⟩ := hshown
  have counted : ∀ f : Fld, f.reg = HRE_STAT →
      (((s.leaf l).linkShown bme msix).bump ⟨TIE_CNT, 31, 16⟩).get f = ((s.leaf l).linkShown bme msix).get f :=
    fun f hf => Leaf.get_bump_other _ _ f _ _ (by rw [hf]; decide)
  refine Ends.onLeaf ⟨.on, ?_⟩
  rw [State.leaf_on]
  dsimp only
  split
  · split
    · exact ⟨hup, hbme, hmsix, hkeeps⟩
    · split
      · exact ⟨(counted _ rfl).trans hup, (counted _ rfl).trans hbme, (counted _ rfl).trans hmsix,
          hkeeps.bump (List.mem_cons_of_mem _ (List.mem_cons_self ..))⟩
      · split
        · exact ⟨hup, hbme, hmsix, hkeeps⟩
        · exact ⟨hup, hbme, hmsix, hkeeps⟩
  · exact ⟨hup, hbme, hmsix, hkeeps⟩

end

/-- Settles O18: RUN, STOP and the states of the link stand in HRE_CTRL and HRE_STAT, and a reset of the link clears the
registers of its block. -/
theorem ringEngineAndLink : Obligations.ring_engine_and_link :=
  ⟨ringEngineRun_runs, ringEngineRun_discards, ringEngineStop_stops, hotReset_resets, hotReset_loses, linkDown_shows,
    pcieLinkUp_shows⟩

end Sys2Proof.Machine
end

section
/-! Mailbox channels (R490, R492, R493, R495 to R498, R503). -/

namespace Sys2Proof.Machine

open Sys2Proof

/-! ### An access to a channel -/

theorem Leaf.mbAccess_party (L : Leaf) (l : LeafId) (c who : Nat) (f : Leaf → Leaf) (hreach : reaches l who = true)
    (hparty : L.party c who = true) : L.mbAccess l c who f = f L := by
  simp [Leaf.mbAccess, hreach, hparty]

theorem Leaf.mbAccess_outside (L : Leaf) (l : LeafId) (c who : Nat) (f : Leaf → Leaf) (hreach : reaches l who = true)
    (hparty : L.party c who = false) : L.mbAccess l c who f = L.bump MBX_CNT_UNBOUND c := by
  simp [Leaf.mbAccess, hreach, hparty]

/-- A word of a message leaves the registers of every channel. -/
theorem Leaf.setWord_msg_keepsRegs (L : Leaf) (i : Nat) (w : Word) : KeepsRegs L (L.setWord MBX_MSG i w) [MBX_MSG.addr i] :=
  KeepsRegs.rfl.setWord (List.mem_singleton.mpr rfl)

theorem Leaf.mbState_of_word {L M : Leaf} {c : Nat} (h : M.word MBX_STAT c = L.word MBX_STAT c) :
    M.mbState c = L.mbState c ∧ M.mbSender c = L.mbSender c :=
  ⟨L.get_word M MBX_STAT_STATE c h, L.get_word M MBX_STAT_SENDER c h⟩

/-- A whole write of a word (R10). -/
theorem mergeWrite_whole (old v : Word) (high : Bool) : mergeWrite old v 8 high = v := rfl

/-- A free value drawn for a leaf changes that leaf and the count of free values (log entry 4). -/
theorem onlyLeaf_take_on {s u : State} {l : LeafId} {f : Leaf → Leaf} (h : OnlyLeaf l { s with fresh := u.fresh } u) :
    OnlyLeaf l { s with fresh := (u.take.2.on l f).fresh } (u.take.2.on l f) := by
  have htaken := congrArg (fun v : State => v.take.2.on l f) h
  cases l with
  | leaf0 => exact htaken
  | leaf1 => exact htaken

section

variable (s : State) (l : LeafId) (c : Fin 32) (who : Ident) (hreach : reaches l who = true)

include hreach

section

variable (hparty : (s.leaf l).party c who = true)

include hparty

theorem messageWordWrite_claims (w : Fin 16) (high : Bool) (v : Word) (hidle : (s.leaf l).mbState c = 0) :
    Completes (.messageWordWrite l c w 8 high v who) s fun t => OnlyLeaf l s t ∧
      (t.leaf l).mbState c = 1 ∧ (t.leaf l).mbSender c = who ∧ (t.leaf l).word MBX_MSG (16 * c + w) = v := by
  refine Ends.guardedTrue rfl ⟨.on, ?_⟩
  rw [State.leaf_on, Leaf.mbAccess_party _ _ _ _ _ hreach hparty]
  simp only [hidle, mergeWrite_whole, Leaf.word_setWord, and_true]
  obtain ⟨hstate, hsender, -⟩ := (s.leaf l).mbMove_shows c 1 who c.isLt (by decide) who.isLt
  have hkept : MBX_STAT.addr c ∉ [MBX_MSG.addr (16 * c + w)] :=
    mt List.mem_singleton.mp (addr_stat_ne_msg c c w w.isLt)
  have hword := (((s.leaf l).mbMove c 1 who).setWord_msg_keepsRegs (16 * c + w) v).word hkept
  exact ⟨(Leaf.mbState_of_word hword).1.trans hstate, (Leaf.mbState_of_word hword).2.trans hsender⟩

theorem messageWordWrite_collides (w : Fin 16) (high : Bool) (v : Word) (hclaimed : (s.leaf l).mbState c = 1)
    (hother : (s.leaf l).mbSender c ≠ who) :
    exec (.messageWordWrite l c w 8 high v who) s = .next (s.on l fun L => L.bump MBX_CNT_COLLIDE c) := by
  change guarded s true (s.setLeaf l ((s.leaf l).mbAccess l c who _)) = _
  rw [Leaf.mbAccess_party _ _ _ _ _ hreach hparty]
  simp [guarded, hclaimed, hother, State.on, Leaf.collide]

/-- The words that a post of `len` words leaves undefined (R493). -/
def looseWords (c len : Nat) : List Nat :=
  ((List.range 16).filter fun w => decide (len ≤ w)).map fun w => MBX_MSG.addr (16 * c + w)

omit hreach hparty in
/-- A post moves its channel to FULL and sets its length; beyond that it draws free values for the loose words alone. -/
theorem State.postWords_frame (len : Nat) :
    OnlyLeaf l { s with fresh := (s.postWords l c len who).fresh } (s.postWords l c len who) ∧
      KeepsRegs (((s.leaf l).mbMove c 2 who).put MBX_STAT_LEN len c) ((s.postWords l c len who).leaf l) (looseWords c len) := by
  unfold State.postWords
  refine List.foldlRecOn (motive := fun u : State => OnlyLeaf l { s with fresh := u.fresh } u ∧
    KeepsRegs (((s.leaf l).mbMove c 2 who).put MBX_STAT_LEN len c) (u.leaf l) (looseWords c len)) _ _ ?_ ?_
  · refine ⟨?_, ?_⟩
    · cases l <;> rfl
    · rw [State.leaf_on]
      exact .rfl
  · rintro u ⟨honly, hkeeps⟩ w hw
    have hmem : MBX_MSG.addr (16 * c + w) ∈ looseWords c len := List.mem_map_of_mem hw
    refine ⟨?_, ?_⟩
    · exact onlyLeaf_take_on honly
    · rw [State.leaf_on]
      have hleaf : u.take.2.leaf l = u.leaf l := by cases l <;> rfl
      rw [hleaf]
      exact hkeeps.setWord hmem

theorem post_fills (len : Fin 32) (hclaimed : (s.leaf l).mbState c = 1) (hmine : (s.leaf l).mbSender c = who)
    (hlen : len.val ≤ 16) :
    Completes (.post l c len who) s fun t => OnlyLeaf l { s with fresh := t.fresh } t ∧
      (t.leaf l).mbState c = 2 ∧ (t.leaf l).mbSender c = who ∧ (t.leaf l).get MBX_STAT_LEN c = len ∧
      (t.leaf l).get (MBX_FULLSUM_FULL.bit c) = 1 ∧
      ∀ w : Fin 16, w.val < len.val → (t.leaf l).word MBX_MSG (16 * c + w) = (s.leaf l).word MBX_MSG (16 * c + w) := by
  have hexec : exec (.post l c len who) s = .next (s.postWords l c len who) := by
    change execPost l c len who s = _
    simp [execPost, hreach, hparty, hclaimed, hmine, hlen]
  obtain ⟨hstate, hsender, -, hfull⟩ := (s.leaf l).mbMove_shows c 2 who c.isLt (by decide) who.isLt
  obtain ⟨honly, hkeeps⟩ := s.postWords_frame l c who len
  have hstat : MBX_STAT.addr c ∉ looseWords c len := by
    simp only [looseWords, List.mem_map, List.mem_filter, List.mem_range, not_exists, not_and]
    exact fun w hw => (addr_stat_ne_msg c c w hw.1).symm
  have hsum : MBX_FULLSUM.addr 0 ∉ looseWords c len := by
    simp only [looseWords, List.mem_map, List.mem_filter, List.mem_range, not_exists, not_and]
    intro w hw
    rw [addr_mbx_msg _ _ hw.1, addr_mbx_fullsum]
    omega
  have hsumstat : MBX_FULLSUM.addr 0 ≠ MBX_STAT.addr c := by
    rw [addr_mbx_stat, addr_mbx_fullsum]
    omega
  refine ⟨_, hexec, honly, ?_, ?_, ?_, ?_, fun w hw => ?_⟩
  · rw [(Leaf.mbState_of_word (hkeeps.word hstat)).1, Leaf.mbState,
      Leaf.get_put_field _ MBX_STAT_LEN MBX_STAT_STATE _ _ rfl (by decide)]
    exact hstate
  · rw [(Leaf.mbState_of_word (hkeeps.word hstat)).2, Leaf.mbSender,
      Leaf.get_put_field _ MBX_STAT_LEN MBX_STAT_SENDER _ _ rfl (by decide)]
    exact hsender
  · rw [Leaf.get_word _ _ MBX_STAT_LEN c (hkeeps.word hstat), Leaf.get_put_fits _ _ _ _ (by decide) len.isLt]
  · rw [Leaf.get_word _ _ (MBX_FULLSUM_FULL.bit c) 0 (hkeeps.word hsum), Leaf.get_put_other _ _ _ _ _ _ hsumstat]
    exact hfull
  · have hloose : MBX_MSG.addr (16 * c + w) ∉ looseWords c len := by
      simp only [looseWords, List.mem_map, List.mem_filter, List.mem_range, not_exists, not_and]
      intro k hk
      have hlong : len.val ≤ k := by simpa using hk.2
      rw [addr_mbx_msg _ _ hk.1, addr_mbx_msg _ _ w.isLt]
      omega
    rw [hkeeps.word hloose, Leaf.word_put_other _ _ _ _ _ _ (addr_stat_ne_msg c c w w.isLt).symm]
    exact ((s.leaf l).mbMove_keepsRegs c 2 who).word (addr_msg_not_move c c w c.isLt w.isLt)

theorem mbxAck_replies (rlen : Fin 32) (code : BitVec 16) (hfull : (s.leaf l).mbState c = 2)
    (hother : (s.leaf l).mbSender c ≠ who) (hrlen : rlen.val ≤ 16) :
    Completes (.mbxAck l c code rlen who) s fun t => OnlyLeaf l s t ∧ (t.leaf l).mbState c = 3 ∧
      (t.leaf l).mbSender c = (s.leaf l).mbSender c ∧ (t.leaf l).get MBX_ACK_CODE c = code.toNat ∧
      (t.leaf l).get MBX_ACK_RLEN c = rlen ∧ (t.leaf l).get MBX_ACK_VALID c = 1 := by
  refine Ends.onLeaf ⟨.on, ?_⟩
  rw [State.leaf_on, Leaf.mbAccess_party _ _ _ _ _ hreach hparty, if_pos ⟨hfull, hother, hrlen⟩]
  exact (s.leaf l).reply_shows c code.toNat rlen c.isLt code.isLt rlen.isLt

theorem release_frees (hreplied : (s.leaf l).mbState c = 3) (hmine : (s.leaf l).mbSender c = who) :
    Completes (.release l c who) s fun t => OnlyLeaf l s t ∧ (t.leaf l).mbState c = 0 ∧
      (t.leaf l).get MBX_ACK_VALID c = 0 := by
  refine Ends.onLeaf ⟨.on, ?_⟩
  rw [State.leaf_on, Leaf.mbAccess_party _ _ _ _ _ hreach hparty, if_pos ⟨hreplied, hmine⟩]
  obtain ⟨hstate, -, hvalid, -⟩ := (s.leaf l).mbMove_shows c 0 0 c.isLt (by decide) (by decide)
  exact ⟨hstate, hvalid⟩

theorem cancel_frees (hclaimed : (s.leaf l).mbState c = 1) (hmine : (s.leaf l).mbSender c = who) :
    Completes (.cancel l c who) s fun t => OnlyLeaf l s t ∧ (t.leaf l).mbState c = 0 := by
  refine Ends.onLeaf ⟨.on, ?_⟩
  rw [State.leaf_on, Leaf.mbAccess_party _ _ _ _ _ hreach hparty, if_pos ⟨hclaimed, hmine⟩]
  exact ((s.leaf l).mbMove_shows c 0 0 c.isLt (by decide) (by decide)).1

end

theorem messageWordWrite_unbound (w : Fin 16) (high : Bool) (v : Word) (hparty : (s.leaf l).party c who = false) :
    exec (.messageWordWrite l c w 8 high v who) s = .next (s.on l fun L => L.bump MBX_CNT_UNBOUND c) := by
  change guarded s true (s.setLeaf l ((s.leaf l).mbAccess l c who _)) = _
  rw [Leaf.mbAccess_outside _ _ _ _ _ hreach hparty]
  rfl

end

/-! ### Times that end -/

section

variable (s : State) (l : LeafId) (c : Fin 32)

theorem ackTimeout_answers (hfull : (s.leaf l).mbState c = 2) (htmo : (s.leaf l).get MBX_BIND_TMO c ≠ 0)
    (hlong : 1600 * (s.leaf l).get MBX_BIND_TMO c ≤
      since (s.leaf l).count (BitVec.ofNat 48 ((s.leaf l).get MBX_STAT_COURSE c))) :
    Completes (.ackTimeout l c) s fun t => OnlyLeaf l s t ∧ (t.leaf l).mbState c = 3 ∧ (t.leaf l).get MBX_ACK_CODE c = 0xFF02 ∧
      (t.leaf l).get MBX_ACK_RLEN c = 0 ∧
      (t.leaf l).get MBX_CNT_TIMEOUTS c = min ((s.leaf l).get MBX_CNT_TIMEOUTS c + 1) MBX_CNT_TIMEOUTS.max := by
  refine Ends.guardedTrue (by simp [hfull, htmo, hlong]) ⟨.setLeaf, ?_⟩
  rw [State.leaf_setLeaf]
  obtain ⟨hstate, -, hcode, hrlen, -⟩ := (s.leaf l).reply_shows c 0xFF02 0 c.isLt (by decide) (by decide)
  refine ⟨(Leaf.bump_cnt_channel _ c _ MBX_STAT_STATE rfl (.inl rfl)).trans hstate,
    (Leaf.bump_cnt_channel _ c _ MBX_ACK_CODE rfl (.inr rfl)).trans hcode,
    (Leaf.bump_cnt_channel _ c _ MBX_ACK_RLEN rfl (.inr rfl)).trans hrlen, ?_⟩
  rw [Leaf.get_bump _ _ _ (by decide), ((s.leaf l).reply_keepsRegs c 0xFF02 0).get (f := MBX_CNT_TIMEOUTS)
    (addr_cnt_not_move c c)]

theorem claimLapse_frees (hheld : (s.leaf l).mbState c = 1 ∨ (s.leaf l).mbState c = 3)
    (hlong : 160000 ≤ since (s.leaf l).count (BitVec.ofNat 48 ((s.leaf l).get MBX_STAT_COURSE c))) :
    Completes (.claimLapse l c) s fun t => OnlyLeaf l s t ∧ (t.leaf l).mbState c = 0 ∧
      (t.leaf l).get MBX_CNT_LAPSED c = min ((s.leaf l).get MBX_CNT_LAPSED c + 1) MBX_CNT_LAPSED.max := by
  refine Ends.guardedTrue (by simp [hheld, hlong]) ⟨.setLeaf, ?_⟩
  rw [State.leaf_setLeaf]
  obtain ⟨hstate, -⟩ := (s.leaf l).mbMove_shows c 0 0 c.isLt (by decide) (by decide)
  refine ⟨(Leaf.bump_cnt_channel _ c _ MBX_STAT_STATE rfl (.inl rfl)).trans hstate, ?_⟩
  rw [Leaf.get_bump _ _ _ (by decide), ((s.leaf l).mbMove_keepsRegs c 0 0).get (f := MBX_CNT_LAPSED)
    (addr_cnt_not_move c c)]

end

/-! ### A lost master, channel by channel -/

/-- Two leaves show the same of channel `c`: its state, its sender and the pair bound to it. -/
def SameChannel (c : Nat) (L M : Leaf) : Prop :=
  M.word MBX_STAT c = L.word MBX_STAT c ∧ M.word MBX_BIND c = L.word MBX_BIND c

namespace SameChannel

variable {L M N : Leaf} {c : Nat}

theorem rfl : SameChannel c L L := ⟨Eq.refl _, Eq.refl _⟩

theorem trans (h : SameChannel c L M) (h' : SameChannel c M N) : SameChannel c L N :=
  ⟨h'.1.trans h.1, h'.2.trans h.2⟩

theorem state (h : SameChannel c L M) : M.mbState c = L.mbState c := (Leaf.mbState_of_word h.1).1

theorem sender (h : SameChannel c L M) : M.mbSender c = L.mbSender c := (Leaf.mbState_of_word h.1).2

theorem party (h : SameChannel c L M) (who : Nat) : M.party c who = L.party c who := by
  unfold Leaf.party
  rw [L.get_word M MBX_BIND_ID_A c h.2, L.get_word M MBX_BIND_ID_B c h.2]

theorem receiver (h : SameChannel c L M) : M.receiver c = L.receiver c := by
  unfold Leaf.receiver
  rw [h.sender, L.get_word M MBX_BIND_ID_A c h.2, L.get_word M MBX_BIND_ID_B c h.2]

/-- What another channel does leaves this one. -/
theorem ofOther {d : Nat} (hd : c ≠ d) (h : KeepsRegs L M (mbRegs d)) : SameChannel c L M :=
  ⟨h.word (addr_stat_not_mb hd), h.word (addr_bind_not_mb d c)⟩

end SameChannel

/-- Two leaves show the same of channel `c` and of its answer. -/
def SameAnswer (c : Nat) (L M : Leaf) : Prop := M.word MBX_STAT c = L.word MBX_STAT c ∧ M.word MBX_ACK c = L.word MBX_ACK c

theorem SameAnswer.ofKeeps {L M N : Leaf} {c : Nat} {but : List Nat} (h : SameAnswer c L M) (hN : KeepsRegs M N but)
    (hstat : MBX_STAT.addr c ∉ but) (hack : MBX_ACK.addr c ∉ but) : SameAnswer c L N :=
  ⟨(hN.word hstat).trans h.1, (hN.word hack).trans h.2⟩

/-- What a fold over the channels does with channel `c`, where each channel's turn writes its own registers. -/
theorem foldl_channels {f : Leaf → Nat → Leaf} {regs : Nat → List Nat} (L : Leaf) (c : Fin 32)
    (hf : ∀ M d, KeepsRegs M (f M d) (regs d)) (hsame : ∀ d, c.val ≠ d → MBX_STAT.addr c ∉ regs d ∧ MBX_ACK.addr c ∉ regs d)
    (hbind : ∀ d, MBX_BIND.addr c ∉ regs d) :
    ∃ M, SameChannel c L M ∧ SameAnswer c (f M c) ((List.range 32).foldl f L) := by
  refine foldl_range_visits (P := SameChannel c L) (Q := fun N => ∃ M, SameChannel c L M ∧ SameAnswer c (f M c) N) c.isLt
    (fun M d hd hM => hM.trans ⟨(hf M d).word (hsame d hd.symm).1, (hf M d).word (hbind d)⟩)
    (fun M hM => ⟨M, hM, rfl, rfl⟩)
    (fun N d hd ⟨M, hM, hN⟩ => ⟨M, hM, hN.ofKeeps (hf N d) (hsame d hd.symm).1 (hsame d hd.symm).2⟩) .rfl

section

variable (s : State) (l : LeafId) (who : Ident)

theorem Leaf.masterLost_channel (L : Leaf) (c : Fin 32) :
    ∃ M, SameChannel c L M ∧ SameAnswer c (M.loseChannel who c) (L.masterLost who) := by
  obtain ⟨M, hM, hlost⟩ := foldl_channels (regs := mbRegs) L c (fun M d => M.loseChannel_keepsRegs who d)
    (fun d hd => ⟨addr_stat_not_mb hd, addr_ack_not_mb hd⟩) (fun d => addr_bind_not_mb d c)
  refine ⟨M, hM, ?_⟩
  rw [Leaf.masterLost_eq]
  refine foldl_keeps _ _ (fun N k hN => hN.ofKeeps (N.loseLock_keepsRegs who k) ?_ ?_) _ _ hlost
  · simp only [List.mem_cons, List.not_mem_nil, or_false, addr_lock, addr_lock_cnt, addr_mbx_stat]
    omega
  · simp only [List.mem_cons, List.not_mem_nil, or_false, addr_lock, addr_lock_cnt, addr_mbx_ack]
    omega

/-- A lock of a lost master is free at the end (R501). -/
theorem Leaf.masterLost_lock (L : Leaf) (k : Fin 16) (howned : L.get LOCK_OWNER k = who) :
    (L.masterLost who).get LOCK_OWNER k = 0 := by
  have hother : ∀ (M : Leaf) (j : Nat), j ≠ k → (M.loseLock who j).get LOCK_OWNER k = M.get LOCK_OWNER k := fun M j hj => by
    refine (M.loseLock_keepsRegs who j).get ?_
    simp only [List.mem_cons, List.not_mem_nil, or_false, LOCK_OWNER, addr_lock, addr_lock_cnt]
    omega
  have hchannels : ((List.range 32).foldl (Leaf.loseChannel who) L).get LOCK_OWNER k = who := by
    refine List.foldlRecOn (motive := fun M : Leaf => M.get LOCK_OWNER k = who) _ _ howned fun M hM c hc => ?_
    have hc := List.mem_range.mp hc
    refine ((M.loseChannel_keepsRegs who c).get ?_).trans hM
    rw [mem_mbRegs, mem_moveRegs, LOCK_OWNER, addr_lock]
    omega
  rw [Leaf.masterLost_eq]
  refine foldl_range_visits (P := fun M : Leaf => M.get LOCK_OWNER k = who) (Q := fun M => M.get LOCK_OWNER k = 0)
    (f := Leaf.loseLock who) k.isLt
    (fun M j hj hM => (hother M j hj).trans hM) (fun M hM => ?_) (fun M j hj hM => (hother M j hj).trans hM) hchannels
  have hcnt : LOCK.addr k ≠ LOCK_CNT.addr 0 := by
    rw [addr_lock, addr_lock_cnt]
    omega
  rw [Leaf.loseLock, if_pos hM, Leaf.get_bump_other _ _ _ _ _ hcnt, Leaf.get_put_fits _ _ _ _ (by decide) (by decide)]

theorem masterLost_frees (hreach : reaches l who = true) :
    Completes (.masterLost l who) s fun t => OnlyLeaf l s t ∧
      (∀ c : Fin 32, (s.leaf l).party c who = true → (s.leaf l).mbState c ≠ 0 → (s.leaf l).mbSender c = who →
        (t.leaf l).mbState c = 0) ∧
      (∀ c : Fin 32, (s.leaf l).party c who = true → (s.leaf l).mbState c = 2 → (s.leaf l).mbSender c ≠ who →
        (t.leaf l).mbState c = 3 ∧ (t.leaf l).get MBX_ACK_CODE c = 0xFF01) ∧
      (∀ c : Fin 32, (s.leaf l).party c who = false → (t.leaf l).mbState c = (s.leaf l).mbState c) ∧
      (∀ k : Fin 16, (s.leaf l).get LOCK_OWNER k = who → (t.leaf l).get LOCK_OWNER k = 0) := by
  refine Ends.guardedTrue hreach ⟨.on, ?_⟩
  rw [State.leaf_on]
  refine ⟨fun c hparty hstate hmine => ?_, fun c hparty hfull hother => ?_, fun c hparty => ?_,
    fun k => Leaf.masterLost_lock who _ k⟩
  all_goals obtain ⟨M, hM, hstat, hack⟩ := Leaf.masterLost_channel who (s.leaf l) c
  · rw [(Leaf.mbState_of_word hstat).1, Leaf.loseChannel, if_neg (by simp [hM.party, hparty, hM.state, hstate]),
      if_pos (hM.sender.trans hmine), Leaf.mbState, Leaf.bump_cnt_channel _ _ _ _ rfl (.inl rfl)]
    exact (M.mbMove_shows c 0 0 c.isLt (by decide) (by decide)).1
  · obtain ⟨hstate, -, hcode, -⟩ := M.reply_shows c 0xFF01 0 c.isLt (by decide) (by decide)
    have hturn : M.loseChannel who c = M.reply c 0xFF01 0 := by
      simp [Leaf.loseChannel, hM.party, hparty, hM.state, hM.sender, hfull, hother]
    rw [hturn] at hstat hack
    exact ⟨(Leaf.mbState_of_word hstat).1.trans hstate, (Leaf.get_word _ _ MBX_ACK_CODE c hack).trans hcode⟩
  · rw [(Leaf.mbState_of_word hstat).1, Leaf.loseChannel, if_pos (by simp [hM.party, hparty]), hM.state]

end

/-! ### The keystone's scan -/

/-- A channel at the keystone's scan (R497). -/
def Leaf.scanChannel (l : LeafId) (L : Leaf) (c : Nat) : Leaf :=
  if L.mbState c = 2 ∧ L.receiver c = keystoneId l then L.answerMail c else L

/-- The first word of the message stands beside the registers of its channel. -/
def scanRegs (c : Nat) : List Nat := MBX_MSG.addr (16 * c) :: moveRegs c

theorem Leaf.answerMail_keepsRegs (L : Leaf) (c : Nat) : KeepsRegs L (L.answerMail c) (scanRegs c) :=
  (KeepsRegs.rfl.setWord (List.mem_cons_self ..)).trans
    ((Leaf.reply_keepsRegs _ c _ _).mono (List.subset_cons_self ..))

theorem Leaf.answerMail_shows (L : Leaf) (c : Fin 32) :
    (L.answerMail c).mbState c = 3 ∧ (L.answerMail c).get MBX_ACK_RLEN c = 1 := by
  have hreply : ∀ (M : Leaf) (code : Nat), code < 2 ^ 16 →
      (M.reply c code 1).mbState c = 3 ∧ (M.reply c code 1).get MBX_ACK_RLEN c = 1 := fun M code hcode =>
    have ⟨hstate, _, _, hrlen, _⟩ := M.reply_shows c code 1 c.isLt hcode (by decide)
    ⟨hstate, hrlen⟩
  refine hreply _ _ ?_
  split <;> decide

theorem addr_not_scan (c d : Nat) : (c ≠ d → MBX_STAT.addr c ∉ scanRegs d ∧ MBX_ACK.addr c ∉ scanRegs d) ∧
    MBX_BIND.addr c ∉ scanRegs d := by
  have hmsg : MBX_MSG.addr (16 * d) = 0x100000 + 0x100 * d := addr_mbx_msg d 0 (by decide)
  simp only [scanRegs, List.mem_cons, mem_moveRegs, hmsg, addr_mbx_stat, addr_mbx_ack, addr_mbx_bind]
  omega

theorem mailboxScan_answers (s : State) (l : LeafId) (hcomp : (s.leaf l).computing = true)
    (hsixteenth : (s.leaf l).count.toNat % 16 = 0) :
    Completes (.mailboxScan l) s fun t => OnlyLeaf l s t ∧ ∀ c : Fin 32, (s.leaf l).mbState c = 2 →
      ((s.leaf l).receiver c = keystoneId l → (t.leaf l).mbState c = 3 ∧ (t.leaf l).get MBX_ACK_RLEN c = 1) ∧
      ((s.leaf l).receiver c ≠ keystoneId l → (t.leaf l).mbState c = 2) := by
  refine Ends.guardedTrue (by simp [hcomp, hsixteenth]) ⟨.setLeaf, fun c hfull => ?_⟩
  rw [State.leaf_setLeaf]
  obtain ⟨M, hM, hstat, hack⟩ := foldl_channels (f := Leaf.scanChannel l) (regs := scanRegs) (s.leaf l) c
    (fun M d => .ite (M.answerMail_keepsRegs d) .rfl) (fun d => (addr_not_scan c d).1) (fun d => (addr_not_scan c d).2)
  refine ⟨fun hkeystone => ?_, fun hother => ?_⟩
  · obtain ⟨hstate, hrlen⟩ := M.answerMail_shows c
    rw [Leaf.scanChannel, if_pos ⟨hM.state.trans hfull, hM.receiver.trans hkeystone⟩] at hstat hack
    exact ⟨(Leaf.mbState_of_word hstat).1.trans hstate, (Leaf.get_word _ _ MBX_ACK_RLEN c hack).trans hrlen⟩
  · rw [Leaf.scanChannel, if_neg (by simp [hM.receiver, hother])] at hstat
    exact (Leaf.mbState_of_word hstat).1.trans (hM.state.trans hfull)

/-- Settles O11: each command moves the one channel it names, and a lost master and the keystone's scan go through the channels
one after another, each turn leaving the others. -/
theorem mailbox : Obligations.mailbox :=
  ⟨fun s l c w high v who hreach hparty => messageWordWrite_claims s l c who hreach hparty w high v,
    fun s l c w high v who hreach hparty => messageWordWrite_collides s l c who hreach hparty w high v,
    fun s l c w high v who hreach => messageWordWrite_unbound s l c who hreach w high v,
    fun s l c len who hreach hparty => post_fills s l c who hreach hparty len,
    fun s l c rlen code who hreach hparty => mbxAck_replies s l c who hreach hparty rlen code,
    release_frees, cancel_frees, ackTimeout_answers, claimLapse_frees, masterLost_frees, mailboxScan_answers⟩

end Sys2Proof.Machine
end

section
/-! The binding table and the lock registers (R490, R491, R499 to R501). -/

namespace Sys2Proof.Machine

open Sys2Proof

theorem fieldOf_lt (w : Word) (hi lo : Nat) : fieldOf w hi lo < 2 ^ (hi + 1 - lo) := Nat.mod_lt _ (Nat.two_pow_pos _)

/-- A lock register and the counters of the locks are two registers (R504). -/
theorem addr_lock_ne_cnt (k : Fin 16) : LOCK.addr k ≠ LOCK_CNT.addr 0 := by
  rw [addr_lock, addr_lock_cnt]
  omega

section

variable (s : State) (l : LeafId) (who : Ident)

theorem bindWrite_binds (c : Fin 32) (v : Word) (hhost : who.val = hostId l) (hsetup : s.setup = true)
    (hopen : (s.leaf l).get MBX_TBL_LOCKED = 0) (hpair : fieldOf v 2 0 < fieldOf v 5 3)
    (hreachA : reaches l (fieldOf v 2 0) = true) (hreachB : reaches l (fieldOf v 5 3) = true) :
    Completes (.bindWrite l c v who) s fun t => OnlyLeaf l s t ∧ (t.leaf l).get MBX_BIND_ID_A c = fieldOf v 2 0 ∧
      (t.leaf l).get MBX_BIND_ID_B c = fieldOf v 5 3 ∧ (t.leaf l).get MBX_BIND_TMO c = fieldOf v 15 8 ∧
      KeepsRegs (s.leaf l) (t.leaf l) [MBX_BIND.addr c] := by
  have hreach : reaches l who = true := by
    rw [hhost]
    cases l <;> rfl
  have hmay : who.val = hostId l ∧ s.setup = true ∧ (s.leaf l).on MBX_TBL_LOCKED = false ∧
      ((decide (fieldOf v 2 0 < fieldOf v 5 3) && reaches l (fieldOf v 2 0) && reaches l (fieldOf v 5 3)) = true ∨
        (fieldOf v 2 0 = 0 ∧ fieldOf v 5 3 = 0)) :=
    ⟨hhost, hsetup, by simp [Leaf.on, hopen], .inl (by simp [hpair, hreachA, hreachB])⟩
  have hmem : MBX_BIND.addr c ∈ [MBX_BIND.addr c] := List.mem_singleton.mpr rfl
  refine Ends.guardedTrue hreach ⟨.on, ?_⟩
  rw [State.leaf_on, if_pos hmay]
  refine ⟨?_, ?_, Leaf.get_put_fits _ MBX_BIND_TMO _ _ (by decide) (fieldOf_lt v 15 8),
    ((KeepsRegs.rfl.put hmem).put hmem).put hmem⟩
  · rw [Leaf.get_put_field _ MBX_BIND_TMO MBX_BIND_ID_A _ _ rfl (by decide),
      Leaf.get_put_field _ MBX_BIND_ID_B MBX_BIND_ID_A _ _ rfl (by decide),
      Leaf.get_put_fits _ _ _ _ (by decide) (fieldOf_lt v 2 0)]
  · rw [Leaf.get_put_field _ MBX_BIND_TMO MBX_BIND_ID_B _ _ rfl (by decide),
      Leaf.get_put_fits _ _ _ _ (by decide) (fieldOf_lt v 5 3)]

section

variable (hreach : reaches l who = true)

include hreach

theorem bindWrite_locked (c : Fin 32) (v : Word) (hlocked : (s.leaf l).get MBX_TBL_LOCKED = 1) :
    exec (.bindWrite l c v who) s = .next (s.on l fun L => L.bump MBX_CNT_UNBOUND c) := by
  have hmay : (s.leaf l).on MBX_TBL_LOCKED ≠ false := by simp [Leaf.on, hlocked]
  change execBindWrite l c v who s = _
  simp [execBindWrite, guarded, hreach, State.on, hmay]

theorem tableLock_locks : Completes (.tableLock l who) s fun t => OnlyLeaf l s t ∧ (t.leaf l).get MBX_TBL_LOCKED = 1 ∧
    KeepsRegs (s.leaf l) (t.leaf l) [MBX_TBL.addr 0] := by
  have hmem : MBX_TBL.addr 0 ∈ [MBX_TBL.addr 0] := List.mem_singleton.mpr rfl
  refine Ends.guardedTrue hreach ⟨.on, ?_⟩
  rw [State.leaf_on]
  refine ⟨?_, (KeepsRegs.rfl.put hmem).put hmem⟩
  rw [Leaf.lockTable, Leaf.get_put_field _ MBX_TBL_LOCK MBX_TBL_LOCKED _ _ rfl (by decide),
    Leaf.get_put_fits _ _ _ _ (by decide) (by decide)]

section

variable (k : Fin 16)

/-- A whole read of a lock answers its owner, and acquires a free lock (R499). -/
theorem exec_lockRead (high : Bool) : exec (.lockRead l k 8 high who) s = .next
    (({ s with readData := some (BitVec.ofNat 64 ((s.leaf l).get LOCK_OWNER k)) } : State).setLeaf l
      (if (s.leaf l).get LOCK_OWNER k = 0 then ((s.leaf l).put LOCK_OWNER who k).bump LOCK_CNT_ACQUIRED
        else if (s.leaf l).get LOCK_OWNER k = who.val then s.leaf l else (s.leaf l).bump LOCK_CNT_CONTENDED)) := by
  change execLockRead l k 8 high who s = _
  simp [execLockRead, hreach]

theorem lockRead_acquires (high : Bool) (hfree : (s.leaf l).get LOCK_OWNER k = 0) :
    Completes (.lockRead l k 8 high who) s fun t => t.readData = some 0 ∧ (t.leaf l).get LOCK_OWNER k = who := by
  refine ⟨_, exec_lockRead s l who hreach k high, ?_⟩
  beta_reduce
  rw [State.setLeaf_readData, State.leaf_setLeaf, if_pos hfree, hfree,
    Leaf.get_bump_other _ LOCK_CNT_ACQUIRED LOCK_OWNER _ _ (addr_lock_ne_cnt k),
    Leaf.get_put_fits _ _ _ _ (by decide) who.isLt]
  exact ⟨rfl, rfl⟩

theorem lockRead_contends (high : Bool) (howned : (s.leaf l).get LOCK_OWNER k ≠ 0)
    (hother : (s.leaf l).get LOCK_OWNER k ≠ who) :
    Completes (.lockRead l k 8 high who) s fun t =>
      t.readData = some (BitVec.ofNat 64 ((s.leaf l).get LOCK_OWNER k)) ∧
        (t.leaf l).get LOCK_OWNER k = (s.leaf l).get LOCK_OWNER k := by
  refine ⟨_, exec_lockRead s l who hreach k high, ?_⟩
  beta_reduce
  rw [State.setLeaf_readData, State.leaf_setLeaf, if_neg howned, if_neg hother,
    Leaf.get_bump_other _ LOCK_CNT_CONTENDED LOCK_OWNER _ _ (addr_lock_ne_cnt k)]
  exact ⟨rfl, rfl⟩

theorem lockRelease_frees (v : Word) (hwho : who.val ≠ 0) (howner : (s.leaf l).get LOCK_OWNER k = who)
    (hvalue : fieldOf v 2 0 = who) :
    Completes (.lockRelease l k v who) s fun t => OnlyLeaf l s t ∧ (t.leaf l).get LOCK_OWNER k = 0 ∧
      KeepsRegs (s.leaf l) (t.leaf l) [LOCK.addr k] := by
  refine Ends.guardedTrue hreach ⟨.on, ?_⟩
  rw [State.leaf_on, if_pos ⟨howner, by rwa [howner], hvalue⟩]
  exact ⟨Leaf.get_put_fits _ _ _ _ (by decide) (by decide), KeepsRegs.rfl.put (List.mem_singleton.mpr rfl)⟩

theorem lockRelease_misuse (v : Word) (hother : (s.leaf l).get LOCK_OWNER k ≠ who) :
    Completes (.lockRelease l k v who) s fun t => OnlyLeaf l s t ∧
      (t.leaf l).get LOCK_OWNER k = (s.leaf l).get LOCK_OWNER k := by
  refine Ends.guardedTrue hreach ⟨.on, ?_⟩
  rw [State.leaf_on, if_neg fun h => hother h.1]
  exact Leaf.get_bump_other _ LOCK_CNT_MISUSE LOCK_OWNER _ _ (addr_lock_ne_cnt k)

end

end

end

/-- Settles O12: the table takes a pair from the host alone while it is open, and a lock passes from its owner alone. -/
theorem bindingsAndLocks : Obligations.bindings_and_locks :=
  ⟨fun s l c v who => bindWrite_binds s l who c v, fun s l c v who hreach => bindWrite_locked s l who hreach c v,
    tableLock_locks, fun s l k high who hreach => lockRead_acquires s l who hreach k high,
    fun s l k high who hreach => lockRead_contends s l who hreach k high,
    fun s l k v who hreach => lockRelease_frees s l who hreach k v,
    fun s l k v who hreach => lockRelease_misuse s l who hreach k v⟩

end Sys2Proof.Machine
end

section
/-! A leaf comes back (R423 to R425, R446, R452, R568): the swap of the roles, REJOIN, the end and the failure of a restart,
and the way from ALIGN to FOLLOW. -/

namespace Sys2Proof.Machine

open Sys2Proof

/-! ### Shared facts about the leaves of a module -/

theorem followId_role {s : State} {l : LeafId} (h : s.followId = some l) : (s.leaf l).role = .follow ∧ (s.leaf l).cut = false := by
  unfold State.followId at h
  split at h
  next h0 =>
    cases h
    rwa [Bool.and_eq_true, Bool.not_eq_true', beq_iff_eq] at h0
  next =>
    split at h
    next h1 =>
      cases h
      rwa [Bool.and_eq_true, Bool.not_eq_true', beq_iff_eq] at h1
    next => cases h

theorem leadId_cut {s : State} {l : LeafId} (h : s.leadId = some l) : (s.leaf l).cut = false := by
  unfold State.leadId at h
  split at h
  next h0 =>
    cases h
    rw [Bool.and_eq_true, Bool.not_eq_true'] at h0
    exact h0.2
  next =>
    split at h
    next h1 =>
      cases h
      rw [Bool.and_eq_true, Bool.not_eq_true'] at h1
      exact h1.2
    next => cases h

/-- A leaf shows its partner, and tells only its partner (R428). -/
@[simp] theorem State.tellPartner_leaf (s : State) (l : LeafId) (code : Nat) : (s.tellPartner l code).leaf l = s.leaf l :=
  s.leaf_on_otherLeaf l _

theorem OnlyLeaves.tellPartner {s t : State} (h : OnlyLeaves s t) {l : LeafId} {code : Nat} :
    OnlyLeaves s (t.tellPartner l code) := h.on

theorem OnlyLeaves.trans {s t u : State} (h : OnlyLeaves s t) (h' : OnlyLeaves t u) : OnlyLeaves s u := by
  unfold OnlyLeaves at h h' ⊢
  rw [h', h]

theorem OnlyLeaves.setLeaf {s t : State} (h : OnlyLeaves s t) {l : LeafId} {L : Leaf} : OnlyLeaves s (t.setLeaf l L) := by
  cases l
  · exact h.withLeaves L t.leaf1
  · exact h.withLeaves t.leaf0 L

/-! ### The swap of the roles (R425, R508) -/

/-- A leaf's role, and the partner it shows. -/
def SameStand (L M : Leaf) : Prop := M.role = L.role ∧ M.get TIE_STAT_PARTNER = L.get TIE_STAT_PARTNER

theorem Leaf.sendUnit_stand (L : Leaf) (typ : Nat) (payload : List Nat) (ack : Bool) : SameStand L (L.sendUnit typ payload ack) := by
  unfold Leaf.sendUnit
  split <;> exact ⟨rfl, rfl⟩

/-- The registers that a move of voice of a bus writes. -/
def voiceRegs (b : Nat) : List Nat := [CAN_STAT.addr b, HRE_CNT.addr 0, HRE_ERR.addr 0]

theorem Leaf.setEState_keepsRegs (L : Leaf) (b st : Nat) (fine : Fine) : KeepsRegs L (L.setEState b st fine) (voiceRegs b) := by
  unfold Leaf.setEState Leaf.canEntry
  exact .ite .rfl ((KeepsRegs.rfl.put (List.mem_cons_self ..)).produce (List.subset_cons_self ..))

theorem Leaf.setVoice_keepsRegs (L : Leaf) (b : Nat) (h : LeafId) : KeepsRegs L (L.setVoice b h) (voiceRegs b) := by
  have hmem : CAN_STAT.addr b ∈ voiceRegs b := List.mem_cons_self ..
  have h₁ := ((KeepsRegs.rfl (L := L)).put (f := CAN_STAT_VOICE_LEAF) (v := h.num) hmem).put (f := CAN_STAT_VOICE_HELD)
    (v := bit (decide (h = L.id))) hmem
  have h₂ := (h₁.put (f := CAN_STAT_TEC) (v := 0) hmem).put (f := CAN_STAT_REC) (v := 0) hmem
  exact .ite h₁ (.ite (h₂.trans (Leaf.setEState_keepsRegs _ _ _ _)) h₂)

theorem tieStat_ne_voiceRegs (b : Fin 4) : TIE_STAT.addr 0 ∉ voiceRegs b := by
  revert b
  decide

theorem Leaf.setVoice_stand (L : Leaf) (b : Fin 4) (h : LeafId) : SameStand L (L.setVoice b h) :=
  ⟨L.setVoice_role b h, (L.setVoice_keepsRegs b h).get (tieStat_ne_voiceRegs b)⟩

/-- Voice that moves between the leaves leaves their roles, and the module besides its leaves, as they are. -/
theorem State.moveVoice_stands (s : State) (former new : LeafId) :
    OnlyLeaves s (s.moveVoice former new) ∧ ∀ l, SameStand (s.leaf l) ((s.moveVoice former new).leaf l) := by
  unfold State.moveVoice
  refine List.foldlRecOn (motive := fun t => OnlyLeaves s t ∧ ∀ l, SameStand (s.leaf l) (t.leaf l)) _ _
    ⟨.rfl, fun _ => ⟨rfl, rfl⟩⟩ fun t ht b hb => ?_
  obtain ⟨honly, hstand⟩ := ht
  split
  · refine ⟨honly.both.on, fun l => ?_⟩
    have hboth : SameStand (s.leaf l) ((t.both fun L => L.setVoice b new).leaf l) := by
      rw [State.leaf_both]
      have hvoice := (t.leaf l).setVoice_stand ⟨b, List.mem_range.mp hb⟩ new
      exact ⟨hvoice.1.trans (hstand l).1, hvoice.2.trans (hstand l).2⟩
    by_cases hl : l = new
    · subst hl
      rw [State.leaf_on]
      have hsend := ((t.both fun L => L.setVoice b l).leaf l).sendUnit_stand 0x16 [2 ^ b, l.num,
        ((t.both fun L => L.setVoice b l).leaf l).count.toNat] true
      exact ⟨hsend.1.trans hboth.1, hsend.2.trans hboth.2⟩
    · rw [State.leaf_on_other _ _ _ _ hl]
      exact hboth
  · exact ⟨honly, hstand⟩

theorem State.swapRoles_stands (s : State) {a b : LeafId} (hab : a ≠ b) :
    OnlyLeaves s (s.swapRoles a b) ∧ ((s.swapRoles a b).leaf a).role = .follow ∧ ((s.swapRoles a b).leaf b).role = .lead ∧
      ((s.swapRoles a b).leaf a).get TIE_STAT_PARTNER = 0 ∧ ((s.swapRoles a b).leaf b).get TIE_STAT_PARTNER = 1 := by
  unfold State.swapRoles
  extract_lets t u
  obtain ⟨honly, hstand⟩ := u.moveVoice_stands a b
  have ha : u.leaf a = (s.leaf a).follow.put TIE_STAT_PARTNER 0 := by
    rw [State.leaf_on_other _ _ _ _ hab, State.leaf_on, State.leaf_on_other _ _ _ _ hab, State.leaf_on]
  have hb : u.leaf b = (s.leaf b).lead.put TIE_STAT_PARTNER 1 := by
    rw [State.leaf_on, State.leaf_on_other _ _ _ _ hab.symm, State.leaf_on, State.leaf_on_other _ _ _ _ hab.symm]
  have honly' : OnlyLeaves s u := OnlyLeaves.rfl.on.on.on.on
  obtain ⟨hra, hpa⟩ := hstand a
  obtain ⟨hrb, hpb⟩ := hstand b
  rw [ha] at hra hpa
  rw [hb] at hrb hpb
  exact ⟨honly'.trans honly, hra, hrb, hpa.trans (Leaf.get_put_fits _ _ _ _ (by decide) (by decide)),
    hpb.trans (Leaf.get_put_fits _ _ _ _ (by decide) (by decide))⟩

theorem swap_exchanges (s : State) (a b : LeafId) (w : RegW) (h : Hdr) (hlead : s.leadId = some a) (hfollow : s.followId = some b)
    (h0 : (s.leaf .leaf0).crs.cmds = [(w, h)]) (hoff : w.off = TIE_CMD.base) (hbit : w.value.getLsbD 63 = true) :
    Completes .swap s fun t => OnlyLeaves s t ∧ (t.leaf a).role = .follow ∧ (t.leaf b).role = .lead ∧
      (t.leaf a).get TIE_STAT_PARTNER = 0 ∧ (t.leaf b).get TIE_STAT_PARTNER = 1 := by
  obtain ⟨hrole, hcut⟩ := followId_role hfollow
  have hab : a ≠ b := by
    rintro rfl
    exact absurd ((role_of_leadId s a hlead).symm.trans hrole) (by decide)
  have hsome : (s.takeModule TIE_CMD.base 63 [62]).1.isSome = true := by
    change (s.leaf0).crs.cmds = _ at h0
    simp [State.takeModule, Leaf.takeBit, h0, hoff, hbit]
  obtain ⟨v, hv⟩ := Option.isSome_iff_exists.mp hsome
  have htaken : s.takeModule TIE_CMD.base 63 [62] = (some v, (s.takeModule TIE_CMD.base 63 [62]).2) := by rw [← hv]
  have hkeeps := (KeepsRoles.taken htaken).onlyLeaves
  generalize (s.takeModule TIE_CMD.base 63 [62]).2 = u at htaken hkeeps
  have hrun : exec .swap s = .next (u.swapRoles a b) := by
    change execSwap s = _
    simp [execSwap, htaken, hlead, hfollow, leadId_cut hlead, hcut]
  obtain ⟨honly, hstand⟩ := u.swapRoles_stands hab
  exact ⟨_, hrun, hkeeps.trans honly, hstand⟩

theorem swap_waits (s : State) (h0 : (s.leaf .leaf0).crs.cmds = []) (h1 : (s.leaf .leaf1).crs.cmds = []) :
    exec .swap s = .next s := by
  change (s.leaf0).crs.cmds = _ at h0
  change (s.leaf1).crs.cmds = _ at h1
  change execSwap s = _
  simp [execSwap, State.takeModule, Leaf.takeBit, h0, h1]

/-! ### A restart begins (R423, R452, R601) -/

/-- Registers and the service of converters at most have changed. -/
def ConvOnly (L M : Leaf) : Prop := M = { L with regs := M.regs, sns := M.sns }

namespace ConvOnly

variable {L M : Leaf} (h : ConvOnly L M)

theorem rfl : ConvOnly L L := Eq.refl L

include h

theorem put {f : Fld} {v i : Nat} : ConvOnly L (M.put f v i) := by
  have hput := congrArg (fun K : Leaf => { K with regs := (M.put f v i).regs }) h
  exact hput

theorem serve {p : Nat} {c : Option Nat} {first : Bool} : ConvOnly L (M.serve p c first) := by
  have hserve := congrArg (fun K : Leaf => { K with sns := (M.serve p c first).sns }) h
  exact hserve

theorem refill {p : Nat} : ConvOnly L (M.refill p).1 := by
  unfold Leaf.refill
  split
  · exact h.serve.put.put.put
  · dsimp only
    split
    · exact h.serve.serve.put.put
    · exact h.serve.put

theorem retireConv {n : Nat} : ConvOnly L (M.retireConv n).1 := by
  unfold Leaf.retireConv
  split
  · exact h
  · extract_lets spare K K'
    have hK : ConvOnly L K := h.put.put.put.put
    have hK' : ConvOnly L K' := by
      unfold K'
      split
      · exact hK.put
      · exact hK
    split
    · exact hK'.refill
    · exact hK'

end ConvOnly

/-- Of a restart's beginning: the silence is over, and the restart counts from the leaf's course (R423, R601). -/
theorem Leaf.resetForRestart_begins (L : Leaf) :
    L.resetForRestart.cut = false ∧ L.resetForRestart.tie.restartAt = L.count := by
  unfold Leaf.resetForRestart
  extract_lets engines convs locked taint hre upd N N₁ N₂
  have h₁ : ConvOnly N N₁ := foldl_keeps (ConvOnly N) _ (fun _ _ h => h.put) _ _ .rfl
  have h₂ : ConvOnly N N₂ := foldl_keeps (ConvOnly N) _ (fun _ _ h => h.retireConv) _ _ h₁
  clear_value N₁ N₂
  rw [h₂]
  exact ⟨rfl, rfl⟩

theorem Leaf.loseMasters_regsOnly (L : Leaf) : RegsOnly L L.loseMasters := by
  unfold Leaf.loseMasters
  have h₁ := L.masterLost_regsOnly (keystoneId L.id)
  have h₂ := (L.masterLost (keystoneId L.id)).masterLost_regsOnly 6
  generalize L.masterLost (keystoneId L.id) = K at h₁ h₂ ⊢
  generalize K.masterLost 6 = M at h₂ ⊢
  rw [h₁] at h₂
  exact h₂

theorem State.enterRestart_begins (s : State) (l : LeafId) (n : Nat) :
    OnlyLeaves s (s.enterRestart l n) ∧ ((s.enterRestart l n).leaf l).role = .restart ∧
      ((s.enterRestart l n).leaf l).cut = false ∧ ((s.enterRestart l n).leaf l).tie.restartAt = (s.leaf l).count ∧
      ((s.enterRestart l n).leaf l).tie.restartTry = n := by
  unfold State.enterRestart
  extract_lets L lost N tie N₁ full bst N₂ N₃ N₄ N₅
  refine ⟨OnlyLeaves.rfl.setLeaf.tellPartner, ?_⟩
  rw [State.tellPartner_leaf, State.leaf_setLeaf]
  obtain ⟨hcut, hat⟩ : N.cut = false ∧ N.tie.restartAt = L.count := by
    rw [← L.loseMasters_regsOnly.count]
    exact L.loseMasters.resetForRestart_begins
  clear_value N
  have h₄ : N₄.role = .restart ∧ N₄.cut = false ∧ N₄.tie.restartAt = L.count ∧ N₄.tie.restartTry = n := by
    unfold N₄
    rw [(N₃.setRole .restart).showUpd_regsOnly]
    exact ⟨rfl, hcut, hat, rfl⟩
  clear_value N₄
  unfold N₅
  split
  · rw [Leaf.raise_parts]
    exact h₄
  · exact h₄

theorem rejoin_restarts (s : State) (l : LeafId) (who : Ident) (hsetup : s.setup = true) (hout : (s.leaf l).role = .out) :
    Completes (.rejoin l true who) s fun t => OnlyLeaves s t ∧ (t.leaf l).role = .restart ∧ (t.leaf l).cut = false ∧
      (t.leaf l).tie.restartAt = (s.leaf l).count := by
  have hrun : exec (.rejoin l true who) s = .next (s.rejoin l) := by
    change execRejoin l true who s = _
    simp [execRejoin, hsetup, hout]
  refine ⟨_, hrun, ?_⟩
  unfold State.rejoin
  extract_lets u
  obtain ⟨honly, hrole, hcut, hat, -⟩ := u.enterRestart_begins l 0
  have hu : u.leaf l = { s.leaf l with tie := { (s.leaf l).tie with cause := 0 }, cut := false } := State.leaf_on ..
  rw [hu] at hat
  exact ⟨OnlyLeaves.rfl.on.trans honly, hrole, hcut, hat⟩

theorem rejoin_discarded (s : State) (l : LeafId) (who : Ident) (hcarry : s.mode = .carry) :
    Completes (.rejoin l true who) s fun t => OnlyLeaf l s t ∧ (t.leaf l).role = (s.leaf l).role ∧
      KeepsRegs (s.leaf l) (t.leaf l) reportRegs := by
  have hrun : exec (.rejoin l true who) s = .next (s.on l fun L => L.discard TIE_CMD.base who.val (2 ^ 62)) := by
    change execRejoin l true who s = _
    simp [execRejoin, State.setup, hcarry]
  refine ⟨_, hrun, .on, ?_⟩
  rw [State.leaf_on]
  refine ⟨?_, KeepsRegs.rfl.discard (List.Subset.refl _)⟩
  rw [Leaf.discard_parts]

/-! ### The end of a restart, and its failure (R423, R446, R568) -/

namespace SameCount

variable {L M : Leaf} (h : SameCount L M)

include h

theorem foldl {α : Type} {f : Leaf → α → Leaf} {xs : List α} (hf : ∀ K a, SameCount K (f K a)) :
    SameCount L (xs.foldl f M) :=
  foldl_keeps (SameCount L) f (fun K a hK => (hf K a).trans hK) xs M h

theorem setWord {r : Reg} {i : Nat} {w : Word} : SameCount L (M.setWord r i w) := h

theorem takeRegs {P : Leaf} : SameCount L (M.takeRegs P) := by
  unfold Leaf.takeRegs
  refine (foldl_same Leaf.count _ (fun K r => ?_) _ M).trans h
  split
  · exact Eq.refl _
  · refine foldl_same Leaf.count _ (fun K i => ?_) _ K
    dsimp only
    split <;> exact Eq.refl _

theorem showLoad : SameCount L M.showLoad := h.put.put

theorem beginWindows : SameCount L M.beginWindows := by
  dsimp only [SameCount, Leaf.beginWindows]
  exact h

theorem setRole {r : Role} : SameCount L (M.setRole r) := by
  have hrole : SameCount L { M with role := r } := h
  exact hrole.put.put

theorem withTables {ash : Ash} {cmp : Cmp} {his : His} : SameCount L { M with ash := ash, cmp := cmp, his := his } := h

theorem onMach {m : Nat} {f : TrcMach → TrcMach} : SameCount L (M.onMach m f) := h

theorem takeSettings {P : Leaf} : SameCount L (M.takeSettings P) := by
  unfold Leaf.takeSettings
  extract_lets K ash cmp his K₁ K₂
  have hK : SameCount L K := h.takeRegs
  clear_value K
  have hK₁ : SameCount L K₁ := hK.withTables
  have hK₂ : SameCount L K₂ := hK₁.foldl fun _ _ => SameCount.rfl.onMach.put
  clear_value K₂
  exact hK₂.put.put.showLoad

theorem seedSwitches : SameCount L M.seedSwitches := by
  refine SameCount.put (SameCount.put (h.foldl fun K c => ?_))
  dsimp only [SameCount, Leaf.seedSwitch, Leaf.onSwitch]

theorem takeTests {P : Leaf} : SameCount L (M.takeTests P) :=
  h.foldl fun _ _ => .ite .rfl .rfl

end SameCount

/-- A leaf enters ALIGN at the count of the leaf it aligns with (R446). -/
theorem State.enterAlign_aligns (s : State) (l : LeafId) :
    ((s.enterAlign l).leaf l).role = .align ∧ ((s.enterAlign l).leaf l).count = (s.leaf l.other).count := by
  unfold State.enterAlign
  extract_lets P u v
  rw [State.tellPartner_leaf, State.leaf_on, State.leaf_on]
  extract_lets L₀ L₁ tie
  have h₁ : L₁.role = .align ∧ L₁.count = P.count := by
    have hcount : SameCount L₀ L₁ := SameCount.rfl.takeSettings.takeTests.beginWindows.setRole
    exact ⟨rfl, hcount.trans rfl⟩
  clear_value L₁
  exact h₁

theorem restartComplete_comesBack (s : State) (l : LeafId) (r : StartRes) (hrole : (s.leaf l).role = .restart)
    (hfull : (s.leaf l).bst.fullAt = none) (hhalt : (s.leaf l).bst.halted = false)
    (hin : since (s.leaf l).count (s.leaf l).tie.restartAt ≤ 320000)
    (hboot : (s.leaf l).bootSlot r.imageA r.imageB = (s.leaf l, true)) (hnew : (s.leaf l).upd.newStart = false) :
    Completes (.restartComplete l r) s fun t =>
      ((s.leaf l.other).carrying = true → (t.leaf l).role = .align ∧ (t.leaf l).count = (s.leaf l.other).count) ∧
      ((s.leaf l.other).toLead = true → (t.leaf l).role = .align) ∧
      ((s.leaf l.other).carrying = false → (s.leaf l.other).toLead = false →
        (t.leaf l).crs.roleAt = some ((t.leaf l).count + 1, .lead)) := by
  refine Ends.guardedTrue (by simp [hrole, hfull, hhalt, hin]) ?_
  have hmig : (s.leaf l).mustMigrate = false := by rw [Leaf.mustMigrate, hnew, Bool.false_and]
  simp only [hboot, hmig, hnew, Bool.not_true, Bool.false_and, Bool.false_eq_true, if_false,
    s.leaf_setLeaf_other _ _ _ (otherLeaf_ne l)]
  generalize ((s.leaf l).applyStart r.enginesBad r.cal r.ftBad).startUp = K
  by_cases hother : ((s.leaf l.other).carrying || (s.leaf l.other).toLead) = true
  · obtain ⟨halign, hcount⟩ := (s.setLeaf l K).enterAlign_aligns l
    rw [s.leaf_setLeaf_other _ _ _ (otherLeaf_ne l)] at hcount
    rw [if_pos hother]
    refine ⟨fun _ => ⟨halign, hcount⟩, fun _ => halign, fun hcarry htoLead => ?_⟩
    rw [hcarry, htoLead] at hother
    exact absurd hother (by decide)
  · rw [if_neg hother, State.leaf_on, State.leaf_setLeaf]
    have hcount : SameCount K K.seedSwitches := SameCount.rfl.seedSwitches
    generalize K.seedSwitches = K' at hcount ⊢
    rw [Bool.or_eq_true, not_or] at hother
    exact ⟨fun h => absurd h hother.1, fun h => absurd h hother.2, fun _ _ => by rw [← hcount]; rfl⟩

/-- A first failure restarts the leaf again; a further one, but at the trial of a new image, puts it in OUT (R423). -/
theorem State.failRestart_repeats (s : State) (l : LeafId) :
    ((s.leaf l).tie.restartTry = 0 →
      ((s.failRestart l).leaf l).role = .restart ∧ ((s.failRestart l).leaf l).tie.restartTry = 1) ∧
    ((s.leaf l).tie.restartTry ≠ 0 → (s.leaf l).upd.trial = false →
      ((s.failRestart l).leaf l).role = .out ∧ ((s.failRestart l).leaf l).get TIE_FLT_RESTART_FAIL = 1) := by
  unfold State.failRestart
  have hout : (((s.enterOut l).on l fun L => L.raise TIE_FLT_RESTART_FAIL).leaf l).role = .out ∧
      (((s.enterOut l).on l fun L => L.raise TIE_FLT_RESTART_FAIL).leaf l).get TIE_FLT_RESTART_FAIL = 1 := by
    rw [State.leaf_on]
    refine ⟨?_, Leaf.get_raise _ _ _ (by decide) (by decide) (by decide) (by decide)⟩
    rw [Leaf.raise_parts]
    exact s.enterOut_role l
  extract_lets L
  split
  next htry =>
    obtain ⟨-, hrole, -, -, hone⟩ := s.enterRestart_begins l 1
    exact ⟨fun _ => ⟨hrole, hone⟩, fun hne => absurd htry hne⟩
  next htry =>
    refine ⟨fun hzero => ?_, fun _ htrial => ?_⟩
    · rw [hzero] at htry
      exact absurd htry (by decide)
    · rw [if_neg (by rw [htrial]; decide)]
      exact hout
  next hzero _ => exact ⟨fun h => absurd h hzero, fun _ _ => hout⟩

theorem restartTimeout_repeats (s : State) (l : LeafId) (hrole : (s.leaf l).role = .restart)
    (hfull : (s.leaf l).bst.fullAt = none) (hhalt : (s.leaf l).bst.halted = false) :
    Completes (.restartTimeout l true) s fun t =>
      ((s.leaf l).tie.restartTry = 0 → (t.leaf l).role = .restart ∧ (t.leaf l).tie.restartTry = 1) ∧
      ((s.leaf l).tie.restartTry ≠ 0 → (s.leaf l).upd.trial = false →
        (t.leaf l).role = .out ∧ (t.leaf l).get TIE_FLT_RESTART_FAIL = 1) :=
  Ends.guardedTrue (by simp [hrole, hfull, hhalt]) (s.failRestart_repeats l)

theorem restartTimeout_waits (s : State) (l : LeafId) (hrole : (s.leaf l).role ≠ .restart) :
    exec (.restartTimeout l true) s = .next s :=
  guarded_false s (by simp [hrole])

/-! ### From ALIGN to FOLLOW (R446) -/

theorem alignExit_names (s : State) (l m : LeafId) (hlead : s.leadId = some m) (hm : m ≠ l) (hrole : (s.leaf l).role = .align)
    (hnone : (s.leaf l).crs.roleAt = none) (hwithin : 1600 ≤ (s.leaf l).tie.within)
    (hsettings : (s.leaf l).tie.settingsDone = true) (hledger : (s.leaf l).tie.ledgerDone = true)
    (hresidual : 2 ≤ (s.leaf l).tie.residualOk) (hindex : s.indexOwed l = false) :
    Completes (.alignExit l) s fun t => OnlyLeaf l s t ∧ (t.leaf l).regs = (s.leaf l).regs ∧
      (t.leaf l).crs.roleAt = some (after (s.leaf m).count ((s.leaf m).get CRS_CTRL_COMMIT_LEAD), .follow) := by
  change Ends (execAlignExit l s) _
  unfold execAlignExit
  simp only [hlead]
  refine Ends.guardedTrue (by simp [hm, hrole, hnone, hwithin, hsettings, hledger, hresidual, hindex]) ⟨.on, ?_⟩
  rw [State.leaf_on]
  exact ⟨rfl, rfl⟩

theorem alignExit_waits (s : State) (l : LeafId) (hwithin : (s.leaf l).tie.within < 1600) : exec (.alignExit l) s = .next s := by
  change execAlignExit l s = _
  unfold execAlignExit
  cases s.leadId with
  | none => rfl
  | some m => exact guarded_false s (by simp [hwithin])

theorem alignTimeout_repeats (s : State) (l : LeafId) (hrole : (s.leaf l).role = .align) (hnone : (s.leaf l).crs.roleAt = none)
    (hdone : (s.leaf l).tie.doneAt = none) (hlate : 40000 ≤ since (s.leaf l).count (s.leaf l).tie.alignAt) :
    Completes (.alignTimeout l) s fun t =>
      ((s.leaf l).tie.restartTry = 0 → (t.leaf l).role = .restart ∧ (t.leaf l).tie.restartTry = 1) ∧
      ((s.leaf l).tie.restartTry ≠ 0 → (s.leaf l).upd.trial = false → (t.leaf l).role = .out) := by
  obtain ⟨hfirst, hagain⟩ := s.failRestart_repeats l
  exact Ends.guardedTrue (by simp [hrole, hnone, hdone, hlate]) ⟨hfirst, fun hne htrial => (hagain hne htrial).1⟩

/-- Settles O47: the failures of a restart and of an alignment are one function, whose first failure begins the restart anew
and whose second enters OUT. -/
theorem comingBack : Obligations.coming_back :=
  ⟨fun s a b w h hlead hfollow _ h0 _ hoff hbit => swap_exchanges s a b w h hlead hfollow h0 hoff hbit,
    swap_waits, rejoin_restarts, rejoin_discarded, restartComplete_comesBack, restartTimeout_repeats, restartTimeout_waits,
    alignExit_names, alignExit_waits, alignTimeout_repeats, restartWindowEnd_counts⟩

end Sys2Proof.Machine
end

section
/-! The lanes of the tie link and what they show (R430, R431, R433 to R435). -/

namespace Sys2Proof.Machine

open Sys2Proof

/-- Altering a member of a table leaves the others. -/
theorem pick_alter_other {α : Type} [Inhabited α] {n : Nat} (v : Vector α n) (i j : Nat) (f : α → α) (h : j ≠ i) :
    pick (alter v i f) j = pick v j := pick_setIfInBounds_other v i j _ h

/-! ### Lanes lost and found -/

section

variable (L : Leaf)

/-- What the loss of both lanes leaves of a leaf (R435): its lanes, and its registers but the one that shows it isolated. -/
theorem Leaf.tieGone_keeps : L.tieGone.tie.lanes = L.tie.lanes ∧ L.tieGone.tie.lostActing = L.tie.lostActing ∧
    KeepsRegs L L.tieGone [TIE_STAT.addr 0] := by
  unfold Leaf.tieGone
  split
  · exact ⟨rfl, rfl, .rfl⟩
  · dsimp only
    split
    · split
      · exact ⟨rfl, rfl, (KeepsRegs.ofRegs rfl).put (List.mem_singleton.mpr rfl)⟩
      · exact ⟨rfl, rfl, .ofRegs rfl⟩
    · exact ⟨rfl, rfl, .ofRegs rfl⟩

theorem Leaf.tieGone_unacked (hgone : L.tieOk = false) : L.tieGone.tie.unacked = [] := by
  unfold Leaf.tieGone
  rw [if_neg (by rw [hgone]; decide)]
  dsimp only
  split
  · split <;> rfl
  · rfl

/-- A FOLLOW leaf whose partner carried is isolated once both lanes are gone (R435). -/
theorem Leaf.tieGone_isolates (hgone : L.tieOk = false) (hrole : L.role = .follow) (hnone : L.crs.roleAt = none)
    (hfree : L.tie.isolatedAt = none) (hpartner : L.get TIE_STAT_PARTNER ≤ 1 ∨ L.get TIE_STAT_PARTNER = 3) :
    L.tieGone.tie.isolatedAt = some L.count ∧ L.tieGone.get TIE_STAT_ISOLATED = 1 := by
  have hcarried : [0, 1, 3].contains (L.get TIE_STAT_PARTNER) = true := by
    simp only [List.contains_eq_mem, List.mem_cons, List.not_mem_nil, or_false, decide_eq_true_eq]
    omega
  unfold Leaf.tieGone
  rw [if_neg (by rw [hgone]; decide)]
  extract_lets K N
  have hcond : (K.carrying && K.crs.roleAt.isNone && K.tie.isolatedAt.isNone &&
      [0, 1, 3].contains (K.get TIE_STAT_PARTNER)) = true := by
    have hK : K.carrying = true := by
      change (L.role == .lead || L.role == .follow) = true
      rw [hrole]
      rfl
    change (K.carrying && L.crs.roleAt.isNone && L.tie.isolatedAt.isNone && [0, 1, 3].contains (L.get TIE_STAT_PARTNER)) = true
    rw [hK, hnone, hfree, hcarried]
    rfl
  rw [if_pos hcond, if_pos (show (N.role == .follow) = true by change (L.role == .follow) = true; rw [hrole]; rfl)]
  exact ⟨rfl, Leaf.get_put_fits _ _ _ _ (by decide) (by decide)⟩

theorem Leaf.showLanes_keeps : L.showLanes.tie = L.tie ∧ KeepsRegs L L.showLanes [TIE_STAT.addr 0] :=
  ⟨rfl, KeepsRegs.rfl.put (List.mem_singleton.mpr rfl)⟩

/-- The lane of a leaf marked lost, before what follows from it (R430). -/
def Leaf.markLost (L : Leaf) (k : Nat) : Leaf :=
  let L := L.onTie fun T => { T with lanes := alter T.lanes k fun n => { n with up := false, good := 0, missing := 0 } }
  if L.computing then L.stick ⟨TIE_FLT, k, k⟩ else L

theorem Leaf.laneDown_eq (k : Nat) : L.laneDown k = (L.markLost k).tieGone.showLanes := rfl

theorem Leaf.markLost_keeps (k : Nat) : (L.markLost k).tie =
      { L.tie with lanes := alter L.tie.lanes k fun n => { n with up := false, good := 0, missing := 0 } } ∧
    (L.markLost k).role = L.role ∧ (L.markLost k).count = L.count ∧ (L.markLost k).crs = L.crs ∧
    KeepsRegs L (L.markLost k) [TIE_FLT.addr 0] := by
  unfold Leaf.markLost
  dsimp only
  split
  · exact ⟨rfl, rfl, rfl, rfl, (KeepsRegs.ofRegs rfl).put (List.mem_singleton.mpr rfl)⟩
  · exact ⟨rfl, rfl, rfl, rfl, .ofRegs rfl⟩

theorem Leaf.markLost_shows (k : Fin 2) (hcomp : L.computing = true) : (L.markLost k).get ⟨TIE_FLT, k, k⟩ = 1 := by
  unfold Leaf.markLost
  extract_lets K
  rw [if_pos (show K.computing = true from hcomp)]
  exact Leaf.get_put_fits _ _ _ _ (by dsimp only; omega) (by dsimp only; rw [Nat.add_sub_cancel_left]; decide)

theorem Leaf.laneDown_lanes (k : Fin 2) : (pick (L.laneDown k).tie.lanes k).up = false ∧
    ∀ j, j ≠ k.val → pick (L.laneDown k).tie.lanes j = pick L.tie.lanes j := by
  obtain ⟨hlost, -⟩ := L.markLost_keeps k
  obtain ⟨hgone, -⟩ := (L.markLost k).tieGone_keeps
  rw [L.laneDown_eq, (Leaf.showLanes_keeps _).1, hgone, hlost]
  refine ⟨?_, fun j hj => pick_alter_other _ _ _ _ hj⟩
  rw [pick_alter_same _ _ _ k.isLt]

theorem Leaf.laneDown_keepsRegs (k : Nat) : KeepsRegs L (L.laneDown k) [TIE_FLT.addr 0, TIE_STAT.addr 0] := by
  obtain ⟨-, -, -, -, hlost⟩ := L.markLost_keeps k
  obtain ⟨-, -, hgone⟩ := (L.markLost k).tieGone_keeps
  obtain ⟨-, hshow⟩ := (L.markLost k).tieGone.showLanes_keeps
  rw [L.laneDown_eq]
  exact ((hlost.mono (by decide)).trans (hgone.mono (by decide))).trans (hshow.mono (by decide))

theorem Leaf.laneDown_shows (k : Fin 2) (hcomp : L.computing = true) : (L.laneDown k).get ⟨TIE_FLT, k, k⟩ = 1 := by
  obtain ⟨-, -, hgone⟩ := (L.markLost k).tieGone_keeps
  obtain ⟨-, hshow⟩ := (L.markLost k).tieGone.showLanes_keeps
  have hother : TIE_FLT.addr 0 ∉ [TIE_STAT.addr 0] := by decide
  rw [L.laneDown_eq, (hgone.trans hshow).get (f := ⟨TIE_FLT, k, k⟩) hother]
  exact L.markLost_shows k hcomp

theorem Leaf.laneDown_isolates (k : Fin 2) (hother : ∀ j, j < 2 → j ≠ k.val → L.laneOk j = false) (hrole : L.role = .follow)
    (hnone : L.crs.roleAt = none) (hfree : L.tie.isolatedAt = none)
    (hpartner : L.get TIE_STAT_PARTNER ≤ 1 ∨ L.get TIE_STAT_PARTNER = 3) :
    (L.laneDown k).tie.isolatedAt = some L.count ∧ (L.laneDown k).get TIE_STAT_ISOLATED = 1 ∧
      (L.laneDown k).tie.unacked = [] := by
  obtain ⟨htie, hr, hc, hcrs, hregs⟩ := L.markLost_keeps k
  have hdown : ∀ j, j < 2 → (L.markLost k).laneOk j = false := by
    intro j hj
    unfold Leaf.laneOk
    rw [htie]
    by_cases hjk : j = k.val
    · subst hjk
      rw [pick_alter_same _ _ _ k.isLt]
      rfl
    · have hlane := hother j hj hjk
      dsimp only
      rwa [pick_alter_other _ _ _ _ hjk]
  have hgone : (L.markLost k).tieOk = false := by
    rw [Leaf.tieOk, hdown 0 (by decide), hdown 1 (by decide)]
    rfl
  have hpart : (L.markLost k).get TIE_STAT_PARTNER = L.get TIE_STAT_PARTNER := hregs.get (by decide)
  obtain ⟨hat, hiso⟩ := (L.markLost k).tieGone_isolates hgone (hr.trans hrole) (by rw [hcrs, hnone]) (by rw [htie, ← hfree])
    (by rwa [hpart])
  rw [L.laneDown_eq, (Leaf.showLanes_keeps _).1, hat, hc, (L.markLost k).tieGone_unacked hgone]
  refine ⟨rfl, ?_, rfl⟩
  rw [← hiso]
  exact Leaf.get_put_field _ _ TIE_STAT_ISOLATED _ _ rfl (by decide)

end

section

variable (s : State) (l : LeafId)

theorem laneLost_loses (k : Fin 2) (ns : Nat) (hup : (pick (s.leaf l).tie.lanes k).up = true)
    (hlost : 1000 ≤ ns ∨ 2 ≤ (pick (s.leaf l).tie.lanes k).missing) :
    Completes (.laneLost l k ns) s fun t => OnlyLeaf l s t ∧ (pick (t.leaf l).tie.lanes k).up = false ∧
      ((s.leaf l).computing = true → (t.leaf l).get ⟨TIE_FLT, k, k⟩ = 1) ∧
      (∀ j, j < 2 → j ≠ k.val → pick (t.leaf l).tie.lanes j = pick (s.leaf l).tie.lanes j) ∧
      KeepsRegs (s.leaf l) (t.leaf l) [TIE_FLT.addr 0, TIE_STAT.addr 0] := by
  refine Ends.guardedTrue (by simp [hup, hlost]) ⟨.on, ?_⟩
  rw [State.leaf_on]
  obtain ⟨hdown, hothers⟩ := (s.leaf l).laneDown_lanes k
  exact ⟨hdown, (s.leaf l).laneDown_shows k, fun j _ hj => hothers j hj, (s.leaf l).laneDown_keepsRegs k⟩

theorem laneLost_isolates (k : Fin 2) (ns : Nat) (hup : (pick (s.leaf l).tie.lanes k).up = true) (hlost : 1000 ≤ ns)
    (hother : ∀ j, j < 2 → j ≠ k.val → (s.leaf l).laneOk j = false) (hrole : (s.leaf l).role = .follow)
    (hnone : (s.leaf l).crs.roleAt = none) (hfree : (s.leaf l).tie.isolatedAt = none)
    (hpartner : (s.leaf l).get TIE_STAT_PARTNER ≤ 1 ∨ (s.leaf l).get TIE_STAT_PARTNER = 3) :
    Completes (.laneLost l k ns) s fun t => (t.leaf l).tie.isolatedAt = some (s.leaf l).count ∧
      (t.leaf l).get TIE_STAT_ISOLATED = 1 ∧ (t.leaf l).tie.unacked = [] := by
  refine Ends.guardedTrue (by simp [hup, hlost]) ?_
  rw [State.leaf_on]
  exact (s.leaf l).laneDown_isolates k hother hrole hnone hfree hpartner

theorem laneLost_waits (k : Fin 2) (ns : Nat) (hshort : ns < 1000) (hmarks : (pick (s.leaf l).tie.lanes k).missing < 2) :
    exec (.laneLost l k ns) s = .next s :=
  guarded_false s (by simp [hshort, hmarks])

theorem laneUp_finds (k : Fin 2) (hdown : (pick (s.leaf l).tie.lanes k).up = false)
    (hgood : 16 ≤ (pick (s.leaf l).tie.lanes k).good) :
    Completes (.laneUp l k) s fun t => OnlyLeaf l s t ∧ (pick (t.leaf l).tie.lanes k).up = true ∧
      KeepsRegs (s.leaf l) (t.leaf l) [TIE_CNT.addr 0, TIE_STAT.addr 0] := by
  refine Ends.guardedTrue (by simp [hdown, hgood]) ⟨.setLeaf, ?_⟩
  rw [State.leaf_setLeaf]
  extract_lets K N
  have hN : N.tie = K.tie ∧ KeepsRegs (s.leaf l) N [TIE_CNT.addr 0, TIE_STAT.addr 0] := by
    unfold N
    split
    · exact ⟨rfl, (KeepsRegs.ofRegs rfl).bump (by simp)⟩
    · exact ⟨rfl, .ofRegs rfl⟩
  obtain ⟨htie, hregs⟩ := hN
  obtain ⟨hshow, hshown⟩ := N.showLanes_keeps
  refine ⟨?_, hregs.trans (hshown.mono (by decide))⟩
  rw [hshow, htie]
  dsimp only [K, Leaf.onTie]
  rw [pick_alter_same _ _ _ k.isLt]

theorem laneUp_waits (k : Fin 2) (hgood : (pick (s.leaf l).tie.lanes k).good < 16) : exec (.laneUp l k) s = .next s :=
  guarded_false s (by simp [hgood])

theorem lost_actsAsLost (rx : Rx) (hup : (pick (s.leaf l).tie.lanes rx.lane).up = true) (hcrc : rx.crcOk = true) :
    Completes (.lost l rx) s fun t => OnlyLeaf l s t ∧ (t.leaf l).tie.lostActing = true ∧ (t.leaf l).tieOk = false ∧
      (t.leaf l).tie.unacked = [] ∧ KeepsRegs (s.leaf l) (t.leaf l) [TIE_STAT.addr 0] := by
  refine Ends.guardedTrue (by simp [hup, hcrc]) ⟨.setLeaf, ?_⟩
  rw [State.leaf_setLeaf]
  extract_lets K
  have hacting : K.tie.lostActing = true := rfl
  have hgone : K.tieOk = false := by simp [Leaf.tieOk, Leaf.laneOk, hacting]
  obtain ⟨-, hkept, hregs⟩ := K.tieGone_keeps
  obtain ⟨hshow, hshown⟩ := K.tieGone.showLanes_keeps
  have hacting' : K.tieGone.showLanes.tie.lostActing = true := by rw [hshow, hkept, hacting]
  refine ⟨hacting', by simp [Leaf.tieOk, Leaf.laneOk, hacting'], ?_, ?_⟩
  · rw [hshow]
    exact K.tieGone_unacked hgone
  · exact (KeepsRegs.ofRegs (L := s.leaf l) (M := K) rfl).trans (hregs.trans hshown)

end

end Sys2Proof.Machine
end

section
/-! Isolation, MARK, PROBE and ECHO of the tie link (R431, R433 to R435). -/

namespace Sys2Proof.Machine

open Sys2Proof

/-! ### What a takeover leaves of a leaf's role (R442) -/

@[simp] theorem Leaf.raise_role (L : Leaf) (f : Fld) (i : Nat) : (L.raise f i).role = L.role := by
  rw [Leaf.raise_parts]

@[simp] theorem Leaf.complete_role (L : Leaf) (h : Hdr) (code effect detail : Nat) :
    (L.complete h code effect detail).role = L.role := by
  rw [Leaf.complete_parts]

@[simp] theorem Leaf.discard_role (L : Leaf) (off who value : Nat) : (L.discard off who value).role = L.role := by
  rw [Leaf.discard_parts]

@[simp] theorem Leaf.sendUnit_role (L : Leaf) (typ : Nat) (payload : List Nat) (ack : Bool) :
    (L.sendUnit typ payload ack).role = L.role := (L.sendUnit_stand typ payload ack).1

@[simp] theorem Leaf.stageChanged_role (L : Leaf) (g : Nat) : (L.stageChanged g).role = L.role := by
  unfold Leaf.stageChanged
  exact (Leaf.abortTests_regsOnly _ _ _).role

@[simp] theorem Leaf.endSession_role (L : Leaf) (st reason : Nat) : (L.endSession st reason).role = L.role := by
  have hmove : (L.moveChg st).role = L.role := by
    unfold Leaf.moveChg
    split <;> simp
  have hclose : ∀ K : Leaf, (K.closeCharge reason).role = K.role := fun K => by
    unfold Leaf.closeCharge
    split <;> simp
  unfold Leaf.endSession Leaf.clearTimer
  dsimp only
  split <;> simp [hmove, hclose]

@[simp] theorem Leaf.lostA0_role (L : Leaf) (moving : Bool) : (L.lostA0 moving).role = L.role := by
  unfold Leaf.lostA0 Leaf.loseDrum
  split
  · rfl
  · split <;> rfl

@[simp] theorem Leaf.startUnjoined_role (L : Leaf) : L.startUnjoined.role = L.role := by
  unfold Leaf.startUnjoined
  extract_lets un K₁ K₂ K₃ K₄
  have h₁ : K₁.role = L.role := by
    unfold K₁
    split <;> simp [Leaf.chgOff, Leaf.openS2]
  have h₂ : K₂.role = K₁.role := by
    unfold K₂
    split <;> simp
  have h₃ : K₃.role = K₂.role := foldl_same Leaf.role _ (fun K a => by split <;> rfl) _ _
  have h₄ : K₄.role = K₃.role := by
    unfold K₄
    split <;> simp
  rw [Leaf.put_role, h₄, h₃, h₂, h₁]

@[simp] theorem Leaf.refuseConsumed_role (L : Leaf) : L.refuseConsumed.role = L.role := by
  unfold Leaf.refuseConsumed
  exact foldl_same Leaf.role _ (fun K h => K.complete_role h _ _ _) _ _

@[simp] theorem Leaf.historyTakeover_role (L : Leaf) : L.historyTakeover.role = L.role := by
  unfold Leaf.historyTakeover Leaf.showHistory
  split <;> simp

@[simp] theorem Leaf.recordTakeover_role (L : Leaf) (former cause : Nat) : (L.recordTakeover former cause).role = L.role :=
  Leaf.writeRecord_role ..

theorem Leaf.setVoices_role (L : Leaf) (l : LeafId) : ([0, 1, 2, 3].foldl (fun K b => K.setVoice b l) L).role = L.role :=
  foldl_same Leaf.role _ (fun K b => K.setVoice_role b l) _ _

theorem KeepsRoles.rfl {s : State} : KeepsRoles s s := ⟨.rfl, fun _ => Eq.refl _⟩

theorem KeepsRoles.trans {s t u : State} (h : KeepsRoles s t) (h' : KeepsRoles t u) : KeepsRoles s u :=
  ⟨h.onlyLeaves.trans h'.onlyLeaves, fun l => (h'.role l).trans (h.role l)⟩

theorem KeepsRoles.answer {s t : State} (h : KeepsRoles s t) {l : LeafId} {hd : Hdr} {code effect detail : Nat} :
    KeepsRoles s (t.answer l hd code effect detail) := by
  unfold State.answer State.completeBoth
  split
  · split
    · exact h
    · exact h.on l fun L => L.discard_role _ _ _
  · exact h.both fun L => by split <;> simp

theorem KeepsRoles.noteRefused {s t : State} (h : KeepsRoles s t) {l : LeafId} {w : ChangeWhat} :
    KeepsRoles s (t.noteRefused l w) := by
  unfold State.noteRefused
  extract_lets u diff
  have hu : KeepsRoles s u := by
    unfold u
    split
    · exact h.both fun _ => Eq.refl _
    · exact h
  split
  · exact hu.both fun _ => Eq.refl _
  · exact hu

theorem KeepsRoles.accept {s t : State} (h : KeepsRoles s t) {l : LeafId} {hd : Hdr} {bytes : Slot} {e : Course}
    {w : ChangeWhat} : KeepsRoles s (t.accept l hd bytes e w) := by
  unfold State.accept
  extract_lets alone c u
  have hu : KeepsRoles s u := by
    refine h.on l fun L => ?_
    unfold Leaf.noteChange Leaf.pendTest
    split <;> simp [Leaf.onChanges_role]
  split
  · exact hu
  · refine hu.on l fun L => ?_
    unfold Leaf.sendSetup
    split <;> simp

theorem KeepsRoles.decideChange {s t : State} (h : KeepsRoles s t) {l : LeafId} {hd : Hdr} {bytes : Slot} {f : Course} :
    KeepsRoles s (t.decideChange l hd bytes f) := by
  unfold State.decideChange
  extract_lets u lead e ec d
  have hu : KeepsRoles s u := h.both fun _ => Eq.refl _
  split
  · exact hu.answer
  · split
    · exact hu.noteRefused.answer
    · split
      · exact KeepsRoles.answer (hu.both fun L => by split <;> simp)
      · exact hu.accept

/-- A leaf that takes over leads (R442). -/
theorem State.takeOver_role (s : State) (l : LeafId) : ((s.takeOver l).leaf l).role = .lead := by
  unfold State.takeOver
  extract_lets cause u v
  have hu : (u.leaf l).role = .lead := by
    unfold u
    rw [State.leaf_on]
    dsimp only
    rw [Leaf.startUnjoined_role, Leaf.historyTakeover_role, Leaf.refuseConsumed_role, Leaf.recordTakeover_role,
      Leaf.setVoices_role, Leaf.raise_role, Leaf.bump_role]
    rfl
  have hv : (v.leaf l).role = .lead := by
    unfold v
    rwa [State.leaf_on_otherLeaf]
  have hdecided : KeepsRoles v (((v.leaf l).crs.undecided).foldl (fun t u => t.decideChange l u.1 u.2.1 u.2.2) v) :=
    foldl_keeps (KeepsRoles v) _ (fun _ _ h => h.decideChange) _ _ .rfl
  exact (hdecided.role l).trans hv

/-! ### Isolation (R435) -/

/-- The evidence of one channel (R435): where its frame is of the course and in RUN, it names the value expected. -/
theorem evidence_iff (a b c x y z : Nat) : (a != x || b != y || c == z) = true ↔ (a = x → b = y → c = z) := by
  simp only [Bool.or_eq_true, bne_iff_ne, beq_iff_eq]
  tauto

section

variable (s : State) (l : LeafId)

theorem isolationEvidence_decides (k : Course) (hrole : (s.leaf l).role = .follow)
    (hat : (s.leaf l).tie.isolatedAt = some k) (hlong : 3 ≤ since (s.leaf l).count k) :
    Completes (.isolationEvidence l) s fun t =>
      ((∀ i, i < 48 → stb (pick (s.leaf l).gst i).body 157 142 = (tagOf (k + 1)).toNat →
          stb (pick (s.leaf l).gst i).body 141 138 = 3 → stb (pick (s.leaf l).gst i).body 137 136 = 1 + l.num) →
        (t.leaf l).role = .lead ∧ (t.leaf l).get TIE_STAT_PARTNER = 4) ∧
      ((∃ i, i < 48 ∧ stb (pick (s.leaf l).gst i).body 157 142 = (tagOf (k + 1)).toNat ∧
          stb (pick (s.leaf l).gst i).body 141 138 = 3 ∧ stb (pick (s.leaf l).gst i).body 137 136 ≠ 1 + l.num) →
        (t.leaf l).role = .out) := by
  change Ends (execIsolationEvidence l s) _
  unfold execIsolationEvidence
  simp only [hat]
  refine Ends.guardedTrue (by simp [hrole, hlong]) ?_
  generalize s.setLeaf l _ = u
  constructor
  · intro halone
    rw [if_pos]
    · rw [State.leaf_on]
      exact ⟨u.takeOver_role l, Leaf.get_put_fits _ _ _ _ (by decide) (by decide)⟩
    · rw [List.all_eq_true]
      intro i hi
      exact (evidence_iff ..).mpr (halone i (List.mem_range.mp hi))
  · rintro ⟨i, hi, htag, hstate, hnamed⟩
    rw [if_neg]
    · exact u.enterOut_role l
    · intro hall
      exact hnamed ((evidence_iff ..).mp (List.all_eq_true.mp hall i (List.mem_range.mpr hi)) htag hstate)

theorem isolationEvidence_waits (hnone : (s.leaf l).tie.isolatedAt = none) : exec (.isolationEvidence l) s = .next s := by
  change execIsolationEvidence l s = _
  unfold execIsolationEvidence
  simp only [hnone]

end

/-! ### MARK (R431, R434) -/

/-- A leaf's role, its lanes, and what it shows of its partner. -/
structure SameMark (L M : Leaf) : Prop where
  role : M.role = L.role
  lanes : M.tie.lanes = L.tie.lanes
  partnerLanes : M.tie.partnerLanes = L.tie.partnerLanes
  partner : M.get TIE_STAT_PARTNER = L.get TIE_STAT_PARTNER

namespace SameMark

variable {L M N : Leaf}

theorem rfl : SameMark L L := ⟨Eq.refl _, Eq.refl _, Eq.refl _, Eq.refl _⟩

theorem trans (h : SameMark L M) (h' : SameMark M N) : SameMark L N :=
  ⟨h'.role.trans h.role, h'.lanes.trans h.lanes, h'.partnerLanes.trans h.partnerLanes, h'.partner.trans h.partner⟩

theorem ite {c : Prop} [Decidable c] (hM : SameMark L M) (hN : SameMark L N) : SameMark L (if c then M else N) := by
  split
  · exact hM
  · exact hN

/-- What leaves role and tie link as they are shows the partner as long as TIE_STAT stays. -/
theorem ofRegs {but : List Nat} (hregs : KeepsRegs L M but) (hmem : TIE_STAT.addr 0 ∉ but) (hrole : M.role = L.role)
    (htie : M.tie = L.tie) : SameMark L M :=
  ⟨hrole, by rw [htie], by rw [htie], hregs.get hmem⟩

theorem put (h : SameMark L M) {f : Fld} {v i : Nat} (hf : TIE_STAT.addr 0 ≠ f.reg.addr i) : SameMark L (M.put f v i) :=
  h.trans (.ofRegs (.put .rfl (List.mem_singleton.mpr (Eq.refl _))) (List.not_mem_cons_of_ne_of_not_mem hf (List.not_mem_nil))
    (Eq.refl _) (Eq.refl _))

theorem sendUnit (h : SameMark L M) {typ : Nat} {payload : List Nat} {ack : Bool} : SameMark L (M.sendUnit typ payload ack) := by
  refine h.trans ?_
  unfold Leaf.sendUnit
  exact .ite .rfl ⟨Eq.refl _, Eq.refl _, Eq.refl _, Eq.refl _⟩

end SameMark

section

variable (L : Leaf)

theorem Leaf.judgeFinding_sameMark (p : Fin 2) (ok : Bool) : SameMark L (L.judgeFinding p ok) := by
  have haddr : ∀ p : Fin 2, TIE_STAT.addr 0 ≠ POS_FLT.addr p ∧ TIE_STAT.addr 0 ≠ POS_STAT.addr p := by decide
  obtain ⟨hflt, hstat⟩ := haddr p
  unfold Leaf.judgeFinding
  split
  · exact .rfl
  · refine .ite ?_ ?_
    · unfold Leaf.ownFault Leaf.planOut
      refine SameMark.trans (M := L.event _ _ _) (.ofRegs (KeepsRegs.rfl.event (List.Subset.refl _)) (by decide) ?_ ?_)
        (.ite ⟨rfl, rfl, rfl, rfl⟩ .rfl)
      · exact L.event_role _ _ _
      · rw [Leaf.event_parts]
    · unfold Leaf.externalFault Leaf.encFault
      extract_lets K₁ K₂ K₃
      have h₁ : SameMark L K₁ := .ite (SameMark.rfl.put hflt) (SameMark.rfl.put hflt)
      have h₂ : SameMark L K₂ := .ite (((h₁.put hflt).put hstat).put hstat |>.trans ⟨rfl, rfl, rfl, rfl⟩) h₁
      have h₃ : SameMark L K₃ := .ite (h₂.put hflt) h₂
      exact h₃.trans ⟨rfl, rfl, rfl, rfl⟩

theorem Leaf.checkFindings_sameMark (ok : Bool) : SameMark L (L.checkFindings ok) := by
  unfold Leaf.checkFindings
  refine List.foldlRecOn (motive := SameMark L) _ _ .rfl fun K hK p hp => ?_
  have hp2 : p < 2 := by
    simp only [List.mem_cons, List.not_mem_nil, or_false] at hp
    omega
  exact .ite (hK.trans (K.judgeFinding_sameMark ⟨p, hp2⟩ true)) hK

theorem Leaf.greet_sameMark (P : Leaf) : SameMark L (L.greet P) := by
  unfold Leaf.greet Leaf.sendHead Leaf.sendSettings
  extract_lets fmt at_ K
  have hK : SameMark L K := ⟨rfl, rfl, rfl, rfl⟩
  exact hK.sendUnit.sendUnit.sendUnit

theorem Leaf.abortTests_keepsRegs (want : Nat → Bool) (reason : Nat) :
    KeepsRegs L (L.abortTests want reason) [ASH_TS_STAT.addr 0] :=
  KeepsRegs.rfl.foldl fun _ k _ => .ite ((KeepsRegs.rfl.put (f := tsState k) (List.mem_singleton.mpr rfl)).put
    (f := tsAbort k) (List.mem_singleton.mpr rfl)) .rfl

theorem Leaf.goSilent_sameMark (cause tick : Nat) : SameMark L (L.goSilent cause tick) := by
  unfold Leaf.goSilent
  refine .ite .rfl ?_
  extract_lets r
  refine SameMark.trans (M := L.abortTests (fun _ => true) 4) ?_ ⟨rfl, rfl, rfl, rfl⟩
  have hregs := L.abortTests_regsOnly (fun _ => true) 4
  exact .ofRegs (L.abortTests_keepsRegs (fun _ => true) 4) (by decide) hregs.role hregs.tie

theorem Leaf.takeOffset_sameMark (m : MarkRx) (trim : Nat) : SameMark L (L.takeOffset m trim) := by
  unfold Leaf.takeOffset
  extract_lets mag ok K₁ K₂ K₃
  have h₁ : SameMark L K₁ := (((SameMark.rfl.put (by decide)).put (by decide)).put (by decide)).put (by decide)
  have h₂ : SameMark L K₂ := .ite (h₁.put (by decide)) h₁
  have h₃ : SameMark L K₃ := h₂.trans ⟨rfl, rfl, rfl, rfl⟩
  exact .ite (h₃.trans (K₃.goSilent_sameMark 5 3712)) h₃

theorem satSigned_lt (n : Nat) (v : Int) : satSigned n v < 2 ^ n := by
  unfold satSigned unsigned
  have hpos : (0 : Int) < (2 ^ n : Nat) := by exact_mod_cast Nat.two_pow_pos n
  have hlt := Int.emod_lt_of_pos (clampInt (-(2 ^ (n - 1) : Nat)) ((2 ^ (n - 1) : Nat) - 1) v) hpos
  have hnonneg := Int.emod_nonneg (clampInt (-(2 ^ (n - 1) : Nat)) ((2 ^ (n - 1) : Nat) - 1) v) hpos.ne'
  omega

/-- A leaf in ALIGN shows the offset of its boundary, and whether it lies within 25 ns (R434). -/
theorem Leaf.takeOffset_shows (m : MarkRx) (trim : Nat) (hrole : L.role = .align) :
    (L.takeOffset m trim).get CRS_ALIGN_OFS = satSigned 16 m.offsetPs ∧
      (L.takeOffset m trim).get CRS_STAT_ALIGNED = bit (decide (m.offsetPs.natAbs ≤ 25000)) := by
  unfold Leaf.takeOffset
  extract_lets mag ok K₁ K₂ K₃
  have h₁ : K₁.get CRS_ALIGN_OFS = satSigned 16 m.offsetPs ∧ K₁.get CRS_STAT_ALIGNED = bit ok := by
    unfold K₁ Leaf.keepMax
    rw [Leaf.get_put_other _ CRS_STAT_ALIGNED CRS_ALIGN_OFS _ _ _ (by decide),
      Leaf.get_put_field _ ⟨CRS_ALIGN, 31, 16⟩ CRS_ALIGN_OFS _ _ rfl (by decide),
      Leaf.get_put_field _ ⟨CRS_ALIGN, 47, 32⟩ CRS_ALIGN_OFS _ _ rfl (by decide),
      Leaf.get_put_fits _ CRS_ALIGN_OFS _ _ (by decide) (satSigned_lt 16 _)]
    exact ⟨rfl, Leaf.get_put_flag _ _ _ _ (by decide) (by decide)⟩
  have h₂ : K₂.role = L.role ∧ K₂.get CRS_ALIGN_OFS = K₁.get CRS_ALIGN_OFS ∧
      K₂.get CRS_STAT_ALIGNED = K₁.get CRS_STAT_ALIGNED := by
    unfold K₂
    split
    · exact ⟨rfl, Leaf.get_bump_other _ _ _ _ _ (by decide), Leaf.get_bump_other _ _ _ _ _ (by decide)⟩
    · exact ⟨rfl, rfl, rfl⟩
  obtain ⟨hr, hofs, haligned⟩ := h₂
  have hK₃ : ¬ (K₃.role == .follow && (decide (2 ≤ K₃.tie.beyond) || m.count != BitVec.ofNat 32 K₃.count.toNat)) = true := by
    have hrole₃ : K₃.role = .align := hr.trans hrole
    rw [hrole₃]
    simp
  rw [if_neg hK₃]
  exact ⟨hofs.trans h₁.1, haligned.trans h₁.2⟩

/-- The leaf once a MARK is read, before it takes the offset (R431). -/
def Leaf.readMark (P : Leaf) (m : MarkRx) : Leaf :=
  let opened := m.state.getLsbD 4 && !L.tie.partnerLanes
  let L := L.onTie fun T => { T with lanes := alter T.lanes m.lane fun n => { n with marked := true } }
  let L := (L.put TIE_STAT_PARTNER (m.state.toNat % 8)).onTie fun T => { T with
    partnerLanes := m.state.getLsbD 4, partnerEncPrev := T.partnerEnc, partnerEnc := #v[m.state.getLsbD 5, m.state.getLsbD 6] }
  let L : Leaf := { L.showLanes with tick := max L.tick 3712 }
  let L := L.checkFindings (P.role == .lead || (P.role == .follow && P.on CRS_STAT_ALIGNED))
  if !opened then L
  else if L.role == .lead && m.state.toNat % 8 == 3 then L.greet P
  else if L.role == .align then L.sendHead else L

theorem Leaf.readMark_shows (P : Leaf) (m : MarkRx) : (L.readMark P m).role = L.role ∧
    (pick (L.readMark P m).tie.lanes m.lane).marked = true ∧ (L.readMark P m).tie.partnerLanes = m.state.getLsbD 4 ∧
    (L.readMark P m).get TIE_STAT_PARTNER = m.state.toNat % 8 := by
  unfold Leaf.readMark
  extract_lets opened K₁ K₂ shown K₃ K₄
  have h₃ : K₃.role = L.role ∧ (pick K₃.tie.lanes m.lane).marked = true ∧ K₃.tie.partnerLanes = m.state.getLsbD 4 ∧
      K₃.get TIE_STAT_PARTNER = m.state.toNat % 8 := by
    refine ⟨rfl, ?_, rfl, ?_⟩
    · change (pick (alter L.tie.lanes m.lane _) m.lane).marked = true
      rw [pick_alter_same _ _ _ m.lane.isLt]
    · have hshown : K₂.showLanes.get TIE_STAT_PARTNER = m.state.toNat % 8 := by
        unfold Leaf.showLanes
        rw [Leaf.get_put_field _ ⟨TIE_STAT, 57, 54⟩ TIE_STAT_PARTNER _ _ rfl (by decide)]
        exact Leaf.get_put_fits _ _ _ _ (by decide) (Nat.mod_lt _ (by decide))
      exact hshown
  have h₄ : SameMark K₃ K₄ := K₃.checkFindings_sameMark _
  clear_value K₃ K₄
  have h₅ : SameMark K₃ (if (!opened) = true then K₄ else if (K₄.role == .lead && m.state.toNat % 8 == 3) = true then K₄.greet P
      else if (K₄.role == .align) = true then K₄.sendHead else K₄) :=
    .ite h₄ (.ite (h₄.trans (K₄.greet_sameMark P)) (.ite h₄.sendUnit h₄))
  obtain ⟨hrole, hlane, hopen, hpartner⟩ := h₃
  exact ⟨h₅.role.trans hrole, by rw [h₅.lanes, hlane], h₅.partnerLanes.trans hopen, h₅.partner.trans hpartner⟩

end

section

variable (s : State) (l : LeafId)

/-- The first valid copy of a MARK in a course: read, and its offset taken where it comes from the LEAD leaf. -/
theorem exec_mark_first (m : MarkRx) (hcrc : m.crcOk = true) (h0 : (pick (s.leaf l).tie.lanes 0).marked = false)
    (h1 : (pick (s.leaf l).tie.lanes 1).marked = false) :
    exec (.mark l m) s = .next (
      if (((s.leaf l).readMark (s.leaf l.other) m).taking && m.state.getLsbD 3) = true then
        s.take.2.setLeaf l (((s.leaf l).readMark (s.leaf l.other) m).takeOffset m s.take.1)
      else s.setLeaf l ((s.leaf l).readMark (s.leaf l.other) m)) := by
  have hfirst : (!((pick (s.leaf l).tie.lanes 0).marked || (pick (s.leaf l).tie.lanes 1).marked)) = true := by
    rw [h0, h1]
    rfl
  change execMark l m s = _
  unfold execMark
  extract_lets L P first L₁ b opened L₂ L₃ L₄ L₅
  have hnot : ¬ (!m.crcOk) = true := by rw [hcrc]; decide
  have hnot' : ¬ (!first) = true := by
    rw [show first = true from hfirst]
    decide
  rw [if_neg hnot, if_neg hnot', apply_ite Host.Outcome.next]
  rfl

theorem mark_shows (m : MarkRx) (hcrc : m.crcOk = true) (h0 : (pick (s.leaf l).tie.lanes 0).marked = false)
    (h1 : (pick (s.leaf l).tie.lanes 1).marked = false) :
    Completes (.mark l m) s fun t => OnlyLeaf l s { t with fresh := s.fresh } ∧
      (pick (t.leaf l).tie.lanes m.lane).marked = true ∧ (t.leaf l).get TIE_STAT_PARTNER = m.state.toNat % 8 ∧
      (t.leaf l).tie.partnerLanes = m.state.getLsbD 4 ∧
      ((s.leaf l).role = .align → m.state.getLsbD 3 = true →
        (t.leaf l).get CRS_ALIGN_OFS = satSigned 16 m.offsetPs ∧
          (t.leaf l).get CRS_STAT_ALIGNED = bit (decide (m.offsetPs.natAbs ≤ 25000))) := by
  refine ⟨_, exec_mark_first s l m hcrc h0 h1, ?_⟩
  obtain ⟨hrole, hlane, hopen, hpartner⟩ := (s.leaf l).readMark_shows (s.leaf l.other) m
  generalize (s.leaf l).readMark (s.leaf l.other) m = K at hrole hlane hopen hpartner ⊢
  split
  next =>
    have hkeeps := K.takeOffset_sameMark m s.take.1
    refine ⟨?_, ?_⟩
    · cases l <;> rfl
    · rw [State.leaf_setLeaf]
      exact ⟨by rw [hkeeps.lanes, hlane], hkeeps.partner.trans hpartner, hkeeps.partnerLanes.trans hopen,
        fun halign _ => K.takeOffset_shows m _ (hrole.trans halign)⟩
  next hnot =>
    refine ⟨by cases l <;> rfl, ?_⟩
    rw [State.leaf_setLeaf]
    refine ⟨hlane, hpartner, hopen, fun halign hlead => absurd ?_ hnot⟩
    rw [Leaf.taking, hrole, halign, hlead]
    rfl

theorem mark_ignored (m : MarkRx) (hcrc : m.crcOk = false) : exec (.mark l m) s = .next s := by
  change execMark l m s = _
  unfold execMark
  exact if_pos (by rw [hcrc]; rfl)

/-! ### PROBE and ECHO (R434) -/

theorem probe_sends (hrole : (s.leaf l).role = .follow) (hcut : (s.leaf l).cut = false)
    (hnone : (s.leaf l).tie.probeAt = none) :
    Completes (.probe l) s fun t => OnlyLeaves s t ∧ (t.leaf l).tie.probeAt = some (s.leaf l).count ∧
      (t.leaf l).out = (s.leaf l).out ++ [Out.tie 0x04 ((s.leaf l).tie.txSeq + 1) [(s.leaf l).fine.toNat]] ∧
      (t.leaf l).regs = (s.leaf l).regs := by
  refine Ends.guardedTrue (by simp [Leaf.taking, hrole, hcut, hnone]) ⟨OnlyLeaves.rfl.setLeaf.on, ?_⟩
  rw [State.leaf_on_otherLeaf, State.leaf_setLeaf]
  unfold Leaf.sendUnit
  rw [if_neg (by rw [hcut]; decide)]
  exact ⟨rfl, rfl, rfl⟩

/-- Round trips at most 4 ns apart, or one of them not measured, leave both lanes (R434). -/
theorem echo_agrees {a b : Nat} (L M N : Leaf) (h : a = 0 ∨ b = 0 ∨ (a ≤ b + 4000 ∧ b ≤ a + 4000)) :
    (if (decide (a = 0) || decide (b = 0)) = true then L else if b + 4000 < a then M else if a + 4000 < b then N else L) = L := by
  rcases h with ha | hb | ⟨hab, hba⟩
  · simp [ha]
  · simp [hb]
  · rw [if_neg (Nat.not_lt.mpr hab), if_neg (Nat.not_lt.mpr hba), ite_self]

/-- The latency of the lane measured. -/
theorem Leaf.get_lat (L : Leaf) (k : Fin 2) (v : Nat) (hv : v < 2 ^ 16) :
    (if k = 0 then L.put ⟨TIE_LAT, 63, 48⟩ v else L.put ⟨TIE_LAT, 47, 32⟩ v).get
      ⟨TIE_LAT, if k = 0 then 63 else 47, if k = 0 then 48 else 32⟩ = v := by
  by_cases hk : k = 0
  · simp only [if_pos hk]
    exact Leaf.get_put_fits _ _ _ _ (by decide) hv
  · simp only [if_neg hk]
    exact Leaf.get_put_fits _ _ _ _ (by decide) hv

theorem echo_measures (rx : Rx) (ps : Nat) (hrole : (s.leaf l).role = .follow) (hok : (s.leaf l).laneOk rx.lane = true)
    (hcrc : rx.crcOk = true) (hprobe : (s.leaf l).tie.probeAt.isSome)
    (hagree : ∀ j, j < 2 → j ≠ rx.lane.val → (pick (s.leaf l).tie.lanes j).round = 0 ∨
      ((pick (s.leaf l).tie.lanes j).round ≤ ps + 4000 ∧ ps ≤ (pick (s.leaf l).tie.lanes j).round + 4000)) :
    Completes (.echo l rx ps) s fun t => OnlyLeaf l s t ∧ (pick (t.leaf l).tie.lanes rx.lane).round = ps ∧
      (pick (t.leaf l).tie.lanes rx.lane).up = true ∧
      (t.leaf l).get ⟨TIE_LAT, if rx.lane = 0 then 63 else 47, if rx.lane = 0 then 48 else 32⟩ = min (ps / 20) 65535 ∧
      KeepsRegs (s.leaf l) (t.leaf l) [TIE_LAT.addr 0] := by
  refine Ends.guardedTrue (by simp [Leaf.taking, hrole, hok, hcrc, hprobe]) ⟨.setLeaf, ?_⟩
  rw [State.leaf_setLeaf]
  extract_lets L lat K a b
  have hup : (pick (s.leaf l).tie.lanes rx.lane).up = true := by
    rw [Leaf.laneOk, Bool.and_eq_true] at hok
    exact hok.1
  have hK : K.tie.lanes = alter (s.leaf l).tie.lanes rx.lane fun n => { n with round := ps } := by
    unfold K
    split <;> rfl
  have hregs : KeepsRegs (s.leaf l) K [TIE_LAT.addr 0] :=
    .ite ((KeepsRegs.ofRegs rfl).put (List.mem_singleton.mpr rfl)) ((KeepsRegs.ofRegs rfl).put (List.mem_singleton.mpr rfl))
  have hrounds : a = 0 ∨ b = 0 ∨ (a ≤ b + 4000 ∧ b ≤ a + 4000) := by
    unfold a b
    rw [hK]
    rcases (by omega : rx.lane.val = 0 ∨ rx.lane.val = 1) with h | h
    · have hother := hagree 1 (by decide) (by omega)
      rw [h, pick_alter_same _ 0 _ (by decide), pick_alter_other _ 0 1 _ (by decide)]
      dsimp only
      omega
    · have hother := hagree 0 (by decide) (by omega)
      rw [h, pick_alter_same _ 1 _ (by decide), pick_alter_other _ 1 0 _ (by decide)]
      dsimp only
      omega
  rw [echo_agrees K (K.laneDown 0) (K.laneDown 1) hrounds, hK, pick_alter_same _ _ _ rx.lane.isLt]
  exact ⟨rfl, hup, L.get_lat rx.lane lat (by omega), hregs⟩

end

/-- Settles O49: a lane lost, a LOST unit and an isolation meet in what a leaf does once both lanes are gone. -/
theorem lanesAndMarks : Obligations.lanes_and_marks :=
  ⟨laneLost_loses, laneLost_isolates, laneLost_waits, laneUp_finds, laneUp_waits, lost_actsAsLost, isolationEvidence_decides,
    isolationEvidence_waits, mark_shows, mark_ignored, probe_sends, echo_measures⟩

end Sys2Proof.Machine
end

section
/-! The controllers of the CAN buses: what their error states and their buffers leave, and the errors of a controller with
voice (R510, R517, R518). -/

namespace Sys2Proof.Machine

open Sys2Proof

/-! ### The registers of a bus -/

/-- The registers of a bus are apart from those that an output entry writes. -/
theorem addr_can_reports (b : Fin 4) : CAN_STAT.addr b ∉ reportRegs ∧ CAN_FLT.addr b ∉ reportRegs ∧
    CAN_CNT.addr b ∉ reportRegs := by
  revert b
  decide

/-- The registers of a bus are apart from each other. -/
theorem addr_can_apart (b : Fin 4) : CAN_STAT.addr b ≠ CAN_FLT.addr b ∧ CAN_STAT.addr b ≠ CAN_CNT.addr b ∧
    CAN_FLT.addr b ≠ CAN_CNT.addr b := by
  revert b
  decide

theorem Leaf.canEntry_keepsRegs (L : Leaf) (b : Nat) (fields : List (Nat × Nat × Nat)) :
    KeepsRegs L (L.canEntry b fields) reportRegs := L.produce_keepsRegs _

theorem Leaf.canEntry_parts (L : Leaf) (b : Nat) (fields : List (Nat × Nat × Nat)) :
    L.canEntry b fields = { L with regs := (L.canEntry b fields).regs, hre := (L.canEntry b fields).hre } := L.produce_parts _

/-- A flag raised leaves the other fields of its register. -/
theorem Leaf.get_raise_field (L : Leaf) (f g : Fld) (i : Nat) (hreg : g.reg = f.reg) (hapart : f.hi < g.lo ∨ g.hi < f.lo)
    (hreports : f.reg.addr i ∉ reportRegs) : (L.raise f i).get g i = L.get g i := by
  have hcnt : g.reg.addr i ≠ HRE_CNT.addr 0 := fun h => hreports (by rw [← hreg, h]; decide)
  have herr : g.reg.addr i ≠ HRE_ERR.addr 0 := fun h => hreports (by rw [← hreg, h]; decide)
  unfold Leaf.raise
  rw [Leaf.get_word _ _ _ _ (Leaf.bitEvent_word _ _ _ _ _ _ hcnt herr)]
  exact Leaf.get_put_field _ _ _ _ _ hreg hapart

section

variable (L : Leaf) (b : Fin 4)

theorem Leaf.setEState_parts (st : Nat) (fine : Fine) : L.setEState b st fine =
    { L with regs := (L.setEState b st fine).regs, hre := (L.setEState b st fine).hre } := by
  unfold Leaf.setEState
  split
  · rfl
  · dsimp only
    rw [Leaf.canEntry_parts]
    rfl

/-- The error state shown is the one entered (R517, R529). -/
theorem Leaf.setEState_shows (st : Nat) (fine : Fine) (hst : st < 4) : (L.setEState b st fine).eState b = st := by
  unfold Leaf.setEState
  split
  next h => exact h
  next =>
    dsimp only
    rw [Leaf.eState, (Leaf.canEntry_keepsRegs _ _ _).get (addr_can_reports b).1]
    exact Leaf.get_put_fits _ _ _ _ (by decide) hst

/-- The rest of CAN_STAT stays as the error state changes. -/
theorem Leaf.setEState_get (st : Nat) (fine : Fine) (f : Fld) (hreg : f.reg = CAN_STAT) (hhi : f.hi < 62) :
    (L.setEState b st fine).get f b = L.get f b := by
  unfold Leaf.setEState
  split
  next => rfl
  next =>
    dsimp only
    rw [(Leaf.canEntry_keepsRegs _ _ _).get (hreg ▸ (addr_can_reports b).1)]
    exact Leaf.get_put_field _ _ _ _ _ hreg (.inr hhi)

theorem Leaf.setEState_net (st : Nat) (fine : Fine) : (L.setEState b st fine).net = L.net := by
  rw [L.setEState_parts b st fine]

theorem Leaf.showBus_regsOnly (k : Nat) : RegsOnly L (L.showBus k) := RegsOnly.rfl.put.put.put.put

theorem Leaf.showBus_keepsRegs (k : Nat) : KeepsRegs L (L.showBus k) [CAN_STAT.addr k] :=
  have hmem : CAN_STAT.addr k ∈ [CAN_STAT.addr k] := List.mem_singleton.mpr rfl
  (((KeepsRegs.rfl.put hmem).put hmem).put hmem).put hmem

/-- What CAN_STAT shows of buffers and queues leaves its error state, its voice and its error counters. -/
theorem Leaf.showBus_get (k : Nat) (f : Fld) (hreg : f.reg = CAN_STAT) (hapart : 59 < f.lo ∨ (f.hi < 47 ∧ 29 < f.lo)) :
    (L.showBus k).get f k = L.get f k := by
  have hfield : ∀ (M : Leaf) (g : Fld) (v : Nat), g.reg = CAN_STAT → f.hi < g.lo ∨ g.hi < f.lo →
      (M.put g v k).get f k = M.get f k := fun M g v hg h => M.get_put_field _ _ _ _ (hreg.trans hg.symm) h.symm
  unfold Leaf.showBus
  dsimp only
  rw [hfield _ CAN_STAT_HOLD _ rfl ?_, hfield _ CAN_STAT_RXQ1 _ rfl ?_, hfield _ CAN_STAT_RXQ0 _ rfl ?_,
    hfield _ CAN_STAT_TXB _ rfl ?_]
  all_goals
    dsimp only [CAN_STAT_TXB, CAN_STAT_RXQ0, CAN_STAT_RXQ1, CAN_STAT_HOLD]
    omega

end

/-! ### Errors and bus-off (R517) -/

section

variable (s : State) (l : LeafId) (b : Fin 4)

theorem errorStateChange_shows (tec : BitVec 9) (rec : BitVec 8) (n : Nat) (fine : Fine) (hruns : s.canRuns l b = true)
    (hon : (s.leaf l).eState b < 2) (hvoice : (s.leaf l).on CAN_STAT_VOICE_HELD b = true) (htec : tec.toNat < 256) :
    Completes (.errorStateChange l b tec rec n fine) s fun t => OnlyLeaf l s t ∧ (t.leaf l).get CAN_STAT_TEC b = tec.toNat ∧
      (t.leaf l).get CAN_STAT_REC b = rec.toNat ∧
      (t.leaf l).eState b = (if 127 < tec.toNat ∨ 127 < rec.toNat then 1 else 0) := by
  change Ends (execErrorStateChange l b tec rec n fine s) _
  unfold execErrorStateChange
  extract_lets b' L failed K₁ passive K₂ K₃ K₄
  refine Ends.guardedTrue (by simp [L, b', hruns, hon, hvoice, htec]) ⟨.setLeaf, ?_⟩
  rw [State.leaf_setLeaf]
  have h₁ : K₁.get CAN_STAT_TEC b = tec.toNat ∧ K₁.get CAN_STAT_REC b = rec.toNat := by
    unfold K₁
    rw [Leaf.get_put_field _ CAN_STAT_REC CAN_STAT_TEC _ _ rfl (by decide),
      Leaf.get_put_fits _ CAN_STAT_TEC _ _ (by decide) tec.isLt]
    exact ⟨rfl, Leaf.get_put_fits _ _ _ _ (by decide) rec.isLt⟩
  have h₂ : K₂.word CAN_STAT b = K₁.word CAN_STAT b := by
    unfold K₂
    split
    · exact Leaf.word_put_other _ _ _ _ _ _ (addr_can_apart b).1
    · rfl
  have h₃ : K₃.get CAN_STAT_TEC b = tec.toNat ∧ K₃.get CAN_STAT_REC b = rec.toNat ∧ K₃.eState b = bit passive := by
    unfold K₃
    rw [K₂.setEState_get b _ _ _ rfl (by decide), K₂.setEState_get b _ _ _ rfl (by decide),
      Leaf.get_word _ _ CAN_STAT_TEC _ h₂, Leaf.get_word _ _ CAN_STAT_REC _ h₂]
    exact ⟨h₁.1, h₁.2, K₂.setEState_shows b _ _ (lt_trans (bit_lt _) (by decide))⟩
  have h₄ : K₄.regs = K₃.regs := by
    unfold K₄
    split
    · exact foldl_same Leaf.regs _ (fun K k => by split <;> rfl) _ _
    · rfl
  clear_value K₃ K₄
  rw [Leaf.eState, Leaf.showBus_get _ _ _ rfl (by decide), Leaf.showBus_get _ _ _ rfl (by decide),
    Leaf.showBus_get _ _ _ rfl (by decide), Leaf.get_regs _ _ _ _ h₄, Leaf.get_regs _ _ _ _ h₄, Leaf.get_regs _ _ _ _ h₄]
  refine ⟨h₃.1, h₃.2.1, h₃.2.2.trans ?_⟩
  simp only [passive, bit, Bool.or_eq_true, decide_eq_true_eq]

theorem Leaf.allStale_keeps (L : Leaf) : L.allStale.net = L.net ∧
    KeepsRegs L L.allStale [HIS_CNT.addr 0, HIS_FLT.addr 0, HIS_STAT.addr 0] := by
  unfold Leaf.allStale
  have hstale : ∀ (K : Leaf) (k : Nat), (K.markStale k).net = K.net ∧
      KeepsRegs K (K.markStale k) [HIS_CNT.addr 0, HIS_FLT.addr 0, HIS_STAT.addr 0] := by
    intro K k
    unfold Leaf.markStale
    split
    · exact ⟨rfl, .rfl⟩
    · exact ⟨rfl, (KeepsRegs.rfl.bump (by decide)).put (by decide)⟩
  have hfold : (L.his.bms.foldl (fun K e => K.markStale e.1) L).net = L.net :=
    foldl_same Leaf.net _ (fun (K : Leaf) (e : Nat × Int × Course) => (hstale K e.1).1) _ _
  have hregs : KeepsRegs L (L.his.bms.foldl (fun K e => K.markStale e.1) L) [HIS_CNT.addr 0, HIS_FLT.addr 0, HIS_STAT.addr 0] :=
    KeepsRegs.rfl.foldl fun K e _ => (hstale K e.1).2
  generalize L.his.bms.foldl (fun K e => K.markStale e.1) L = K at hfold hregs
  unfold Leaf.judgeBms
  dsimp only
  split
  · exact ⟨hfold, ((hregs.put (by decide)).put (by decide)).put (by decide)⟩
  · exact ⟨hfold, (hregs.put (by decide)).put (by decide)⟩

theorem addr_can_his (b : Fin 4) : CAN_STAT.addr b ∉ [HIS_CNT.addr 0, HIS_FLT.addr 0, HIS_STAT.addr 0] ∧
    CAN_FLT.addr b ∉ [HIS_CNT.addr 0, HIS_FLT.addr 0, HIS_STAT.addr 0] := by
  revert b
  decide

theorem busOff_enters (fine : Fine) (hruns : s.canRuns l b = true) (hon : (s.leaf l).eState b ≠ 2)
    (hvoice : (s.leaf l).on CAN_STAT_VOICE_HELD b = true) :
    Completes (.busOff l b fine) s fun t => OnlyLeaf l s t ∧ (t.leaf l).eState b = 2 ∧ (t.leaf l).get (canFlag 3) b = 1 ∧
      ((t.leaf l).bus b).boAt = some (s.leaf l).count := by
  change Ends (execBusOff l b fine s) _
  unfold execBusOff
  extract_lets b' L again K₁ K₂ K₃ K₄
  refine Ends.guardedTrue (by simp [L, b', hruns, hon, hvoice]) ⟨.setLeaf, ?_⟩
  rw [State.leaf_setLeaf]
  have h₁ : K₁.eState b = 2 ∧ K₁.net = L.net ∧ K₁.count = L.count := by
    unfold K₁
    refine ⟨Leaf.setEState_shows _ b 2 _ (by decide), ?_, ?_⟩ <;> rw [Leaf.setEState_parts] <;> rfl
  have h₃ : K₃.eState b = 2 ∧ K₃.get (canFlag 3) b = 1 ∧ (K₃.bus b).boAt = some (s.leaf l).count := by
    obtain ⟨hstate, hnet, hcount⟩ := h₁
    refine ⟨(Leaf.get_put_other _ _ _ _ _ _ (addr_can_apart b).1).trans hstate,
      Leaf.get_put_fits _ _ _ _ (by decide) (by decide), ?_⟩
    change (pick (alter K₂.net.can b _) b).boAt = _
    rw [pick_alter_same _ _ _ b.isLt]
    exact congrArg some hcount
  have h₄ : K₄.net = K₃.net ∧ K₄.eState b = K₃.eState b ∧ K₄.get (canFlag 3) b = K₃.get (canFlag 3) b := by
    unfold K₄
    split
    · have hraise : KeepsRegs K₃ (K₃.raise (canFlag 4) b) (CAN_FLT.addr b :: reportRegs) :=
        KeepsRegs.rfl.raise (List.mem_cons_self ..) (List.subset_cons_self ..)
      refine ⟨?_, hraise.get ?_, ?_⟩
      · rw [Leaf.raise_parts]
      · exact List.not_mem_cons_of_ne_of_not_mem (addr_can_apart b).1 (addr_can_reports b).1
      · exact Leaf.get_raise_field _ (canFlag 4) (canFlag 3) _ rfl (by decide) (addr_can_reports b).2.1
    · exact ⟨rfl, rfl, rfl⟩
  obtain ⟨hnet, hstate, hflag⟩ := h₄
  rw [← hstate, ← hflag, show K₃.bus b = K₄.bus b by rw [Leaf.bus, Leaf.bus, hnet]] at h₃
  clear_value K₄
  split
  · have hevent : KeepsRegs K₄ (K₄.event 0x070E) reportRegs := KeepsRegs.rfl.event (List.Subset.refl _)
    have hnet' : (K₄.event 0x070E).net = K₄.net := by rw [Leaf.event_parts]
    obtain ⟨hstale, hregs⟩ := (K₄.event 0x070E).allStale_keeps
    obtain ⟨hstat, hflt, -⟩ := addr_can_reports b
    obtain ⟨hstat', hflt'⟩ := addr_can_his b
    refine ⟨(hregs.get hstat').trans ((hevent.get hstat).trans h₃.1),
      (hregs.get (f := canFlag 3) hflt').trans ((hevent.get (f := canFlag 3) hflt).trans h₃.2.1), ?_⟩
    rw [Leaf.bus, hstale, hnet']
    exact h₃.2.2
  · exact h₃

/-! ### The way back (R517) -/

theorem Leaf.startRecovery_recovers (L : Leaf) : (L.startRecovery b).eState b = 3 ∧
    ((L.startRecovery b).bus b).recovering = true := by
  unfold Leaf.startRecovery
  refine ⟨Leaf.setEState_shows _ b 3 _ (by decide), ?_⟩
  rw [Leaf.bus, Leaf.setEState_net]
  change (pick (alter L.net.can b _) b).recovering = true
  rw [pick_alter_same _ _ _ b.isLt]

theorem recover_recovers (hsetup : s.setup = true) (hoff : (s.leaf l).eState b = 2) :
    Completes (.recover l b true) s fun t => OnlyLeaf l s t ∧ (t.leaf l).eState b = 3 ∧
      ((t.leaf l).bus b).recovering = true := by
  change Ends (execRecover l b true s) _
  unfold execRecover
  dsimp only
  rw [if_pos rfl, if_pos hsetup, if_pos hoff]
  refine Ends.next ⟨.setLeaf, ?_⟩
  rw [State.leaf_setLeaf]
  exact Leaf.startRecovery_recovers b _

theorem can0AutoRecover_recovers (c : Course) (hoff : (s.leaf l).eState 0 = 2) (hlasting : ((s.leaf l).bus 0).lasting = false)
    (hat : ((s.leaf l).bus 0).boAt = some c)
    (hlong : 1600 * fieldOf ((s.leaf l).bus 0).cfg 51 44 ≤ since (s.leaf l).count c) :
    Completes (.can0AutoRecover l) s fun t => OnlyLeaf l s t ∧ (t.leaf l).eState 0 = 3 := by
  refine Ends.guardedTrue (by simp [hoff, hlasting, hat, hlong]) ⟨.setLeaf, ?_⟩
  rw [State.leaf_setLeaf]
  exact (Leaf.startRecovery_recovers 0 _).1

theorem recoveryComplete_returns (n : Nat) (fine : Fine) (hstate : (s.leaf l).eState b = 3)
    (hrecovering : ((s.leaf l).bus b).recovering = true) (hn : 128 ≤ n) :
    Completes (.recoveryComplete l b n fine) s fun t => OnlyLeaf l s t ∧ (t.leaf l).eState b = 0 ∧
      (t.leaf l).get CAN_STAT_TEC b = 0 ∧ (t.leaf l).get CAN_STAT_REC b = 0 := by
  change Ends (execRecoveryComplete l b n fine s) _
  unfold execRecoveryComplete
  extract_lets b' L off K₁ K₂
  have hoff : off = true := hrecovering
  refine Ends.guardedTrue (by rw [hoff]; simp [L, b', hstate, hn]) ⟨.setLeaf, ?_⟩
  have h₂ : K₂.get CAN_STAT_TEC b = 0 ∧ K₂.get CAN_STAT_REC b = 0 := by
    have hregs : K₂.regs = ((L.put CAN_STAT_TEC 0 b).put CAN_STAT_REC 0 b).regs := by
      unfold K₂ K₁
      rw [if_pos hoff, if_pos hoff]
      rfl
    rw [Leaf.get_regs _ _ _ _ hregs, Leaf.get_regs _ _ _ _ hregs]
    refine ⟨?_, Leaf.get_put_fits _ _ _ _ (by decide) (by decide)⟩
    rw [Leaf.get_put_field _ CAN_STAT_REC CAN_STAT_TEC _ _ rfl (by decide)]
    exact Leaf.get_put_fits _ _ _ _ (by decide) (by decide)
  rw [State.leaf_setLeaf]
  clear_value K₂
  rw [K₂.setEState_get b _ _ _ rfl (by decide), K₂.setEState_get b _ _ _ rfl (by decide)]
  exact ⟨K₂.setEState_shows b 0 _ (by decide), h₂⟩

/-! ### Bit timing (R510) -/

theorem bitTimingApply_integrates (hnbt : ((s.leaf l).bus b).nbt ≠ (s.leaf l).word CAN_NBT b) (hon : (s.leaf l).eState b ≠ 2)
    (hen : fieldOf ((s.leaf l).word CAN_CFG b) 63 63 = 1) :
    Completes (.bitTimingApply l b) s fun t => OnlyLeaf l s t ∧ (t.leaf l).eState b = 3 ∧
      ((t.leaf l).bus b).nbt = (s.leaf l).word CAN_NBT b ∧ ((t.leaf l).bus b).dbt = (s.leaf l).word CAN_DBT b := by
  change Ends (execBitTimingApply l b s) _
  unfold execBitTimingApply
  extract_lets b' L B cfg nbt dbt K
  have hne : B.nbt ≠ nbt := hnbt
  refine Ends.guardedTrue (by simp [hne]) ⟨.setLeaf, ?_⟩
  have hK : ¬ (K.eState b = 2 ∨ fieldOf cfg 63 63 = 0) := by
    rintro (h | h)
    · exact hon h
    · exact absurd (hen.symm.trans h) (by decide)
  rw [State.leaf_setLeaf, if_neg hK, Leaf.bus, Leaf.setEState_net]
  refine ⟨K.setEState_shows b 3 _ (by decide), ?_⟩
  change (pick (alter L.net.can b _) b).nbt = _ ∧ (pick (alter L.net.can b _) b).dbt = _
  rw [pick_alter_same _ _ _ b.isLt]
  exact ⟨rfl, rfl⟩

end

/-- Settles O16: every error state is entered by one function, which shows it and leaves the counters beside it. -/
theorem canErrorStates : Obligations.can_error_states :=
  ⟨errorStateChange_shows, busOff_enters, recover_recovers, can0AutoRecover_recovers, recoveryComplete_returns,
    bitTimingApply_integrates⟩

end Sys2Proof.Machine
end

section
/-! Frames of a CAN bus (R507, R511, R512, R514, R515). -/

namespace Sys2Proof.Machine

open Sys2Proof

/-- A member of a table put back leaves the table. -/
theorem setIfInBounds_pick {α : Type} [Inhabited α] {n : Nat} (v : Vector α n) (i : Nat) (h : i < n) :
    v.setIfInBounds i (pick v i) = v := by
  refine Vector.ext fun j hj => ?_
  rw [Vector.getElem_setIfInBounds]
  split
  next hij =>
    subst hij
    simp [pick, h]
  next => rfl

/-! ### A bus and its queues -/

section

variable (L : Leaf) (b : Fin 4)

theorem Leaf.bus_onBus (f : CanBus → CanBus) : (L.onBus b f).bus b = f (L.bus b) := pick_alter_same _ _ _ b.isLt

theorem Leaf.showBus_bus (k : Nat) : (L.showBus k).bus k = L.bus k := rfl

/-- The settings of a filter pair are apart from the counters of a bus (R529). -/
theorem addr_match_ne_cnt (k : Nat) : CAN_MATCH.addr k ≠ CAN_CNT.addr b := by
  simp only [Reg.addr, CAN_MATCH, CAN_CNT]
  omega

theorem Leaf.get_match_bump (f g : Fld) (k : Nat) (hf : f.reg = CAN_MATCH) (hg : g.reg = CAN_CNT) :
    (L.bump g b).get f k = L.get f k :=
  Leaf.get_bump_other _ _ _ _ _ (by rw [hf, hg]; exact addr_match_ne_cnt b k)

/-- A counter raised leaves what the filters take (R511). -/
theorem Leaf.pairTakes_bump (i : Nat) (f : CanRx) :
    (L.bump CAN_CNT_RX_FRAMES b).pairTakes b i f = L.pairTakes b i f := by
  unfold Leaf.pairTakes Leaf.on
  simp only [L.get_match_bump b CAN_MATCH_EN CAN_CNT_RX_FRAMES _ rfl rfl, L.get_match_bump b CAN_MATCH_ID CAN_CNT_RX_FRAMES _ rfl rfl,
    L.get_match_bump b CAN_MATCH_MASK CAN_CNT_RX_FRAMES _ rfl rfl, L.get_match_bump b CAN_MATCH_IDE CAN_CNT_RX_FRAMES _ rfl rfl,
    L.get_match_bump b CAN_MATCH_RTR CAN_CNT_RX_FRAMES _ rfl rfl, L.get_match_bump b CAN_MATCH_FMT CAN_CNT_RX_FRAMES _ rfl rfl]

/-- The queue with the shadow buffer's frame moved in, where there is room (R512). -/
theorem CanBus.takeHeads_none (B : CanBus) (q : Nat) : (B.takeHeads q 0).2 =
    { B with
      rxq := B.rxq.setIfInBounds q (if (pick B.rxq q).length < 16 then pick B.rxq q ++ (pick B.shadow q).toList else pick B.rxq q)
      shadow := if (pick B.rxq q).length < 16 then B.shadow.setIfInBounds q none else B.shadow } := by
  simp [CanBus.takeHeads]

end

section

variable (L : Leaf) (b : Fin 4) (q : Fin 2) (x : CanRx × Nat)

/-- A frame joins its queue, behind the frame of the shadow buffer, while there is room. -/
theorem Leaf.enqueue_joins
    (hroom : (pick (L.bus b).rxq q).length + (pick (L.bus b).shadow q).toList.length < 16) :
    pick ((L.enqueue b q x false).bus b).rxq q = pick (L.bus b).rxq q ++ (pick (L.bus b).shadow q).toList ++ [x] ∧
      pick ((L.enqueue b q x false).bus b).shadow q = none ∧ (L.enqueue b q x false).regs = L.regs := by
  have hlen : (pick (L.bus b).rxq q).length < 16 := by omega
  unfold Leaf.enqueue
  extract_lets K B
  have hB : B = ((L.bus b).takeHeads q 0).2 := L.bus_onBus b _
  rw [CanBus.takeHeads_none, if_pos hlen, if_pos hlen] at hB
  have hq : pick B.rxq q = pick (L.bus b).rxq q ++ (pick (L.bus b).shadow q).toList := by
    rw [hB]
    exact pick_setIfInBounds_same _ _ _ q.isLt
  have hs : pick B.shadow q = none := by
    rw [hB]
    exact pick_setIfInBounds_same _ _ _ q.isLt
  have hfit : (pick B.rxq q).length < 16 := by
    rw [hq, List.length_append]
    exact hroom
  rw [if_pos ⟨hfit, rfl⟩, Leaf.bus_onBus]
  change pick (alter B.rxq q _) q = _ ∧ pick B.shadow q = _ ∧ _
  rw [pick_alter_same _ _ _ q.isLt, hq]
  exact ⟨rfl, hs, rfl⟩

/-- Where the queue has no room left the frame waits in the shadow buffer. -/
theorem Leaf.enqueue_waits
    (hfull : 16 ≤ (pick (L.bus b).rxq q).length + (pick (L.bus b).shadow q).toList.length)
    (hfree : (pick (L.bus b).rxq q).length < 16 ∨ pick (L.bus b).shadow q = none) :
    pick ((L.enqueue b q x false).bus b).rxq q = pick (L.bus b).rxq q ++ (pick (L.bus b).shadow q).toList ∧
      pick ((L.enqueue b q x false).bus b).shadow q = some x ∧ (L.enqueue b q x false).regs = L.regs := by
  unfold Leaf.enqueue
  extract_lets K B
  have hB : B = ((L.bus b).takeHeads q 0).2 := L.bus_onBus b _
  rw [CanBus.takeHeads_none] at hB
  have hq : pick B.rxq q = pick (L.bus b).rxq q ++ (pick (L.bus b).shadow q).toList := by
    rw [hB]
    dsimp only
    rw [pick_setIfInBounds_same _ _ _ q.isLt]
    split
    next => rfl
    next hlong =>
      rw [hfree.resolve_left hlong]
      simp
  have hs : pick B.shadow q = none := by
    rw [hB]
    dsimp only
    split
    next => exact pick_setIfInBounds_same _ _ _ q.isLt
    next hlong => exact hfree.resolve_left hlong
  have hfit : ¬ ((pick B.rxq q).length < 16 ∧ false = false) := by
    rw [hq, List.length_append]
    omega
  rw [if_neg hfit, if_pos (by rw [hs]; rfl), Leaf.bus_onBus]
  exact ⟨hq, pick_setIfInBounds_same _ _ _ q.isLt, rfl⟩

/-- Where the shadow buffer is taken too the frame is dropped and counted. -/
theorem Leaf.enqueue_drops (hfull : 16 ≤ (pick (L.bus b).rxq q).length) (htaken : pick (L.bus b).shadow q ≠ none) :
    (L.enqueue b q x false).bus b = L.bus b ∧ (L.enqueue b q x false).get (canFlag 1) b = 1 ∧
      (L.enqueue b q x false).get CAN_CNT_RX_DROP b = min (L.get CAN_CNT_RX_DROP b + 1) CAN_CNT_RX_DROP.max := by
  unfold Leaf.enqueue
  extract_lets K B
  have hB : B = L.bus b := by
    have htake : B = ((L.bus b).takeHeads q 0).2 := L.bus_onBus b _
    rw [CanBus.takeHeads_none, if_neg (by omega), if_neg (by omega)] at htake
    rw [htake]
    rw [setIfInBounds_pick _ _ q.isLt]
  have hlong : ¬ ((pick B.rxq q).length < 16 ∧ false = false) := by
    rw [hB]
    omega
  have hshadow : ¬ (pick B.shadow q).isNone = true := by
    rw [hB]
    simpa using htaken
  rw [if_neg hlong, if_neg hshadow]
  refine ⟨hB, ?_, ?_⟩
  · rw [Leaf.get_bump_other _ CAN_CNT_RX_DROP (canFlag 1) _ _ (addr_can_apart b).2.2]
    exact Leaf.get_put_fits _ _ _ _ (by decide) (by decide)
  · rw [Leaf.get_bump _ _ _ (by decide), Leaf.stick,
      Leaf.get_put_other _ (canFlag 1) CAN_CNT_RX_DROP _ _ _ (addr_can_apart b).2.2.symm]
    rfl

theorem Leaf.enqueue_parts (k : Nat) : L.enqueue b k x false =
    { L with regs := (L.enqueue b k x false).regs, net := (L.enqueue b k x false).net } := by
  unfold Leaf.enqueue
  extract_lets K B
  split
  · rfl
  · split <;> rfl

end

/-! ### A frame received (R511, R512) -/

section

variable (s : State) (l : LeafId) (b : Fin 4) (f : CanRx) (i : Nat)

/-- A leaf that has taken a frame from its bus. -/
def Leaf.takeFrame (L : Leaf) (b : Nat) (f : CanRx) (i : Nat) : Leaf :=
  ((L.bump CAN_CNT_RX_FRAMES b).enqueue b (L.get CAN_MATCH_DEST (32 * b + i)) (f, i) false).showBus b

theorem dest_lt (L : Leaf) (k : Nat) : L.get CAN_MATCH_DEST k < 2 := fieldOf_lt _ 62 62

/-- A frame taken without a drop is counted and shown. -/
theorem keepsRegs_taken (L K : Leaf) (b : Nat) (hregs : K.regs = (L.bump CAN_CNT_RX_FRAMES b).regs) :
    KeepsRegs L (K.showBus b) [CAN_STAT.addr b, CAN_CNT.addr b] := by
  have hbump : KeepsRegs L K [CAN_STAT.addr b, CAN_CNT.addr b] := by
    have hcnt : KeepsRegs L (L.bump CAN_CNT_RX_FRAMES b) [CAN_STAT.addr b, CAN_CNT.addr b] := KeepsRegs.rfl.bump (by simp [CAN_CNT_RX_FRAMES])
    exact hcnt.trans (.ofRegs hregs)
  exact hbump.trans ((K.showBus_keepsRegs b).mono (by simp))

section

variable (hruns : s.canRuns l b = true) (hon : (s.leaf l).eState b < 2) (hfdf : f.fdf = false) (hb : b.val ≠ 0)
  (hvoice : (s.leaf l).on CAN_STAT_VOICE_HELD b = true)
  (htakes : ((List.range 32).find? fun i => (s.leaf l).pairTakes b i f) = some i)

include hruns hon hfdf hb hvoice htakes

/-- A classic frame of a bus without a crash frame, in the leaf with voice. -/
theorem exec_canFrameReceived :
    exec (.canFrameReceived l b f false) s = .next (s.setLeaf l ((s.leaf l).takeFrame b f i)) := by
  change execCanFrameReceived l b f false s = _
  unfold execCanFrameReceived
  extract_lets b' L cfg K₁ K₂ K₃
  have hcond : (s.canRuns l b' && decide (L.eState b' < 2)) = true := by simp [L, b', hruns, hon]
  have hclassic : ¬ (f.fdf && fieldOf cfg 62 62 == 0) = true := by simp [hfdf]
  have h₂ : K₂ = K₁ := if_neg fun h => hb h.1
  have hvoice₂ : K₂.on CAN_STAT_VOICE_HELD b' = true := by
    rw [h₂]
    unfold Leaf.on K₁
    rwa [Leaf.get_bump_other _ CAN_CNT_RX_FRAMES CAN_STAT_VOICE_HELD _ _ (addr_can_apart b).2.1]
  have h₃ : K₃ = K₁ := (if_pos hvoice₂).trans h₂
  have hfind : ((List.range 32).find? fun i => K₃.pairTakes b' i f) = some i := by
    rw [h₃, ← htakes]
    exact congrArg (fun p => (List.range 32).find? p) (funext fun j => L.pairTakes_bump b j f)
  rw [hcond, guarded, if_pos rfl, if_neg hclassic, hfind, h₃]
  dsimp only
  rw [L.get_match_bump b CAN_MATCH_DEST CAN_CNT_RX_FRAMES _ rfl rfl]
  rfl

theorem canFrameReceived_joins
    (hroom : (pick ((s.leaf l).bus b).rxq ((s.leaf l).get CAN_MATCH_DEST (32 * b + i))).length +
      (pick ((s.leaf l).bus b).shadow ((s.leaf l).get CAN_MATCH_DEST (32 * b + i))).toList.length < 16) :
    Completes (.canFrameReceived l b f false) s fun t => OnlyLeaf l s t ∧
      pick ((t.leaf l).bus b).rxq ((s.leaf l).get CAN_MATCH_DEST (32 * b + i)) =
        pick ((s.leaf l).bus b).rxq ((s.leaf l).get CAN_MATCH_DEST (32 * b + i)) ++
          (pick ((s.leaf l).bus b).shadow ((s.leaf l).get CAN_MATCH_DEST (32 * b + i))).toList ++ [(f, i)] ∧
      pick ((t.leaf l).bus b).shadow ((s.leaf l).get CAN_MATCH_DEST (32 * b + i)) = none ∧
      t.leaf l = { s.leaf l with regs := (t.leaf l).regs, net := (t.leaf l).net } ∧
      KeepsRegs (s.leaf l) (t.leaf l) [CAN_STAT.addr b, CAN_CNT.addr b] := by
  refine ⟨_, exec_canFrameReceived s l b f i hruns hon hfdf hb hvoice htakes, .setLeaf, ?_⟩
  rw [State.leaf_setLeaf]
  unfold Leaf.takeFrame
  obtain ⟨hqueue, hshadow, hregs⟩ := Leaf.enqueue_joins ((s.leaf l).bump CAN_CNT_RX_FRAMES b) b ⟨_, dest_lt _ (32 * b + i)⟩
    (f, i) hroom
  have hparts := Leaf.enqueue_parts ((s.leaf l).bump CAN_CNT_RX_FRAMES b) b (f, i)
    ((s.leaf l).get CAN_MATCH_DEST (32 * b + i))
  dsimp only at hqueue hshadow hregs
  generalize ((s.leaf l).bump CAN_CNT_RX_FRAMES b).enqueue b _ (f, i) false = K at hqueue hshadow hregs hparts ⊢
  refine ⟨hqueue, hshadow, ?_, ?_⟩
  · rw [K.showBus_regsOnly b, hparts]
    rfl
  · exact keepsRegs_taken _ K b hregs

theorem canFrameReceived_waits
    (hfull : 16 ≤ (pick ((s.leaf l).bus b).rxq ((s.leaf l).get CAN_MATCH_DEST (32 * b + i))).length +
      (pick ((s.leaf l).bus b).shadow ((s.leaf l).get CAN_MATCH_DEST (32 * b + i))).toList.length)
    (hfree : (pick ((s.leaf l).bus b).rxq ((s.leaf l).get CAN_MATCH_DEST (32 * b + i))).length < 16 ∨
      pick ((s.leaf l).bus b).shadow ((s.leaf l).get CAN_MATCH_DEST (32 * b + i)) = none) :
    Completes (.canFrameReceived l b f false) s fun t => OnlyLeaf l s t ∧
      pick ((t.leaf l).bus b).rxq ((s.leaf l).get CAN_MATCH_DEST (32 * b + i)) =
        pick ((s.leaf l).bus b).rxq ((s.leaf l).get CAN_MATCH_DEST (32 * b + i)) ++
          (pick ((s.leaf l).bus b).shadow ((s.leaf l).get CAN_MATCH_DEST (32 * b + i))).toList ∧
      pick ((t.leaf l).bus b).shadow ((s.leaf l).get CAN_MATCH_DEST (32 * b + i)) = some (f, i) ∧
      KeepsRegs (s.leaf l) (t.leaf l) [CAN_STAT.addr b, CAN_CNT.addr b] := by
  refine ⟨_, exec_canFrameReceived s l b f i hruns hon hfdf hb hvoice htakes, .setLeaf, ?_⟩
  rw [State.leaf_setLeaf]
  unfold Leaf.takeFrame
  obtain ⟨hqueue, hshadow, hregs⟩ := Leaf.enqueue_waits ((s.leaf l).bump CAN_CNT_RX_FRAMES b) b ⟨_, dest_lt _ (32 * b + i)⟩
    (f, i) hfull hfree
  dsimp only at hqueue hshadow hregs
  generalize ((s.leaf l).bump CAN_CNT_RX_FRAMES b).enqueue b _ (f, i) false = K at hqueue hshadow hregs ⊢
  exact ⟨hqueue, hshadow, keepsRegs_taken _ K b hregs⟩

theorem canFrameReceived_drops
    (hfull : 16 ≤ (pick ((s.leaf l).bus b).rxq ((s.leaf l).get CAN_MATCH_DEST (32 * b + i))).length)
    (htaken : pick ((s.leaf l).bus b).shadow ((s.leaf l).get CAN_MATCH_DEST (32 * b + i)) ≠ none) :
    Completes (.canFrameReceived l b f false) s fun t => OnlyLeaf l s t ∧ (t.leaf l).bus b = (s.leaf l).bus b ∧
      (t.leaf l).get (canFlag 1) b = 1 ∧ (t.leaf l).get CAN_CNT_RX_DROP b =
        min ((s.leaf l).get CAN_CNT_RX_DROP b + 1) CAN_CNT_RX_DROP.max := by
  refine ⟨_, exec_canFrameReceived s l b f i hruns hon hfdf hb hvoice htakes, .setLeaf, ?_⟩
  rw [State.leaf_setLeaf]
  unfold Leaf.takeFrame
  obtain ⟨hbus, hflag, hcount⟩ := Leaf.enqueue_drops ((s.leaf l).bump CAN_CNT_RX_FRAMES b) b ⟨_, dest_lt _ (32 * b + i)⟩
    (f, i) hfull htaken
  dsimp only at hbus hflag hcount
  generalize ((s.leaf l).bump CAN_CNT_RX_FRAMES b).enqueue b _ (f, i) false = K at hbus hflag hcount ⊢
  have hother : CAN_FLT.addr b ∉ [CAN_STAT.addr b] := List.not_mem_cons_of_ne_of_not_mem (addr_can_apart b).1.symm List.not_mem_nil
  have hother' : CAN_CNT.addr b ∉ [CAN_STAT.addr b] :=
    List.not_mem_cons_of_ne_of_not_mem (addr_can_apart b).2.1.symm List.not_mem_nil
  refine ⟨(K.showBus_bus b).trans hbus, ((K.showBus_keepsRegs b).get (f := canFlag 1) hother).trans hflag, ?_⟩
  rw [(K.showBus_keepsRegs b).get (f := CAN_CNT_RX_DROP) hother', hcount]
  exact congrArg (fun n => min (n + 1) _) (Leaf.get_put_field _ CAN_CNT_RX_FRAMES CAN_CNT_RX_DROP _ _ rfl (by decide))

end

end

/-! ### The crash frame (R511) -/

theorem RegsOnly.net {L M : Leaf} (h : RegsOnly L M) : M.net = L.net := by rw [h]

theorem Leaf.enqueue_crash (L : Leaf) (b k : Nat) (x : CanRx × Nat) : (L.enqueue b k x false).net.crash = L.net.crash := by
  unfold Leaf.enqueue
  extract_lets K B
  split
  · rfl
  · split <;> rfl

theorem Leaf.txDone_crash (L : Leaf) (b k : Nat) (fine : Fine) : (L.txDone b k fine).net.crash = L.net.crash := by
  unfold Leaf.txDone
  split
  · rfl
  · dsimp only
    rw [RegsOnly.net (Leaf.showBus_regsOnly _ b), Leaf.canEntry_parts]
    rfl

theorem canFrameReceived_crashes (s : State) (l : LeafId) (f : CanRx) (hruns : s.canRuns l 0 = true)
    (hon : (s.leaf l).eState 0 < 2) (hfdf : f.fdf = false) (hcrash : (s.leaf l).crashFrame f = true) :
    Completes (.canFrameReceived l 0 f false) s fun t => (t.leaf l).net.crash = true := by
  change Ends (execCanFrameReceived l 0 f false s) _
  unfold execCanFrameReceived
  extract_lets b L cfg K₁ K₂ K₃
  refine Ends.guardedTrue (by simp [b, L, hruns, hon]) ?_
  have hclassic : ¬ (f.fdf && fieldOf cfg 62 62 == 0) = true := by simp [hfdf]
  have hcrash₁ : K₁.crashFrame f = true := by
    unfold Leaf.crashFrame Leaf.on K₁
    rwa [Leaf.get_bump_other _ CAN_CNT_RX_FRAMES LNK_CON_CRASH_CAN _ _ (by decide),
      Leaf.get_bump_other _ CAN_CNT_RX_FRAMES LNK_CON_CRASH_ID _ _ (by decide)]
  have h₂ : K₂.net.crash = true := by
    unfold K₂
    rw [if_pos ⟨rfl, hcrash₁⟩]
    rfl
  have h₃ : K₃.net.crash = true := by
    unfold K₃
    split
    · exact h₂
    · split
      · exact (Leaf.txDone_crash _ _ _ _).trans h₂
      · exact h₂
  rw [State.leaf_setLeaf, if_neg hclassic]
  clear_value K₃
  split
  · exact (Leaf.enqueue_crash _ _ _ _).trans h₃
  · exact h₃

/-! ### A frame sent (R514, R515) -/

/-- A buffer freed with no frame held for it is empty. -/
theorem CanBus.free_empties (B : CanBus) (k : Fin 3) (hhold : B.hold = []) :
    (B.free k) = { B with txb := B.txb.setIfInBounds k none } := by
  unfold CanBus.free
  dsimp only
  rw [hhold]
  rfl

theorem Leaf.txDone_sends (L : Leaf) (b : Fin 4) (k : Fin 3) (fine : Fine) (f : TxFrame) (hf : pick (L.bus b).txb k = some f)
    (hhold : (L.bus b).hold = []) : (L.txDone b k fine).out = L.out ∧ pick ((L.txDone b k fine).bus b).txb k = none ∧
      (L.txDone b k fine).get CAN_CNT_TX_FRAMES b = min (L.get CAN_CNT_TX_FRAMES b + 1) CAN_CNT_TX_FRAMES.max := by
  unfold Leaf.txDone
  rw [hf]
  extract_lets K
  have hK : K.out = L.out ∧ pick (K.bus b).txb k = none ∧
      K.get CAN_CNT_TX_FRAMES b = min (L.get CAN_CNT_TX_FRAMES b + 1) CAN_CNT_TX_FRAMES.max := by
    refine ⟨rfl, ?_, Leaf.get_bump _ _ _ (by decide)⟩
    change pick (pick (alter L.net.can b _) b).txb k = none
    rw [pick_alter_same _ _ _ b.isLt]
    dsimp only
    rw [pick_map _ _ _ k.isLt, CanBus.free_empties (pick L.net.can b) k hhold, pick_setIfInBounds_same _ _ _ k.isLt]
    rfl
  obtain ⟨hout, htxb, hcount⟩ := hK
  clear_value K
  have hother : CAN_CNT.addr b ∉ [CAN_STAT.addr b] :=
    List.not_mem_cons_of_ne_of_not_mem (addr_can_apart b).2.1.symm List.not_mem_nil
  refine ⟨?_, ?_, ?_⟩
  · rw [(Leaf.showBus_regsOnly _ b).out, Leaf.canEntry_parts]
    exact hout
  · rw [Leaf.showBus_bus, Leaf.bus, Leaf.canEntry_parts]
    exact htxb
  · rw [(Leaf.showBus_keepsRegs _ b).get (f := CAN_CNT_TX_FRAMES) hother,
      (Leaf.canEntry_keepsRegs _ _ _).get (f := CAN_CNT_TX_FRAMES) (addr_can_reports b).2.2, hcount]

theorem canTransmitDone_sends (s : State) (l : LeafId) (b : Fin 4) (k : Fin 3) (fine : Fine) (f : TxFrame)
    (hruns : s.canRuns l b = true) (hon : (s.leaf l).eState b < 2) (hf : pick ((s.leaf l).bus b).txb k = some f)
    (hvoice : (s.leaf l).on CAN_STAT_VOICE_HELD b = true) (hgo : ((s.leaf l).bus b).mayGo k = true)
    (hsend : (s.leaf l).sending = true) (hhold : ((s.leaf l).bus b).hold = []) :
    Completes (.canTransmitDone l b k fine) s fun t => OnlyLeaf l s t ∧
      (t.leaf l).out = (s.leaf l).out ++ [.can b f.id f.data] ∧ pick ((t.leaf l).bus b).txb k = none ∧
      (t.leaf l).get CAN_CNT_TX_FRAMES b = min ((s.leaf l).get CAN_CNT_TX_FRAMES b + 1) CAN_CNT_TX_FRAMES.max := by
  refine Ends.guardedTrue (by simp [hruns, hon, hf, hvoice, hgo]) ⟨.setLeaf, ?_⟩
  rw [State.leaf_setLeaf, if_pos hvoice, hf, Leaf.emit, if_pos hsend]
  exact Leaf.txDone_sends _ b k fine f hf hhold

/-! ### Voice (R507, R508) -/

theorem voice_plans (s : State) (l v : LeafId) (b : Fin 4) (hsetup : s.setup = true) (hmay : s.mayVoice v = true) :
    Completes (.voice l b true v) s fun t => OnlyLeaf l s t ∧
      ((t.leaf l).bus b).voiceAt = some ((s.leaf l).count + 1, v) := by
  change Ends (execVoice l b true v s) _
  unfold execVoice
  dsimp only
  rw [if_pos rfl, if_pos hsetup]
  refine Ends.guardedTrue hmay ⟨.setLeaf, ?_⟩
  rw [State.leaf_setLeaf]
  have hsent : ∀ (L : Leaf) (typ : Nat) (p : List Nat), (L.sendUnit typ p true).bus b = L.bus b := fun L typ p => by
    unfold Leaf.sendUnit
    split <;> rfl
  rw [Leaf.planVoice, hsent, Leaf.bus_onBus]

section

variable (s : State) (b : Fin 4)

theorem voiceDeclaration_follows (hmode : s.mode = .ready ∨ s.mode = .workshop ∨ s.mode = .carry)
    (h0 : s.leaf0.declares b = true) (h1 : s.leaf1.declares b = false) :
    exec (.voiceDeclaration b) s = .next { s with xcvr := s.xcvr.setIfInBounds b (some .leaf0) } := by
  have hrun : (s.mode == .ready || s.mode == .workshop || s.mode == .carry) = true := by simpa [or_assoc] using hmode
  change execVoiceDeclaration b s = _
  simp [execVoiceDeclaration, hrun, h0, h1]

theorem voiceDeclaration_reports (hmode : s.mode = .ready ∨ s.mode = .workshop ∨ s.mode = .carry)
    (h0 : s.leaf0.declares b = true) (h1 : s.leaf1.declares b = true) :
    Completes (.voiceDeclaration b) s fun t => t.xcvr = s.xcvr ∧ OnlyLeaves s t ∧ ∀ l, (t.leaf l).get (canFlag 6) b = 1 := by
  have hrun : (s.mode == .ready || s.mode == .workshop || s.mode == .carry) = true := by simpa [or_assoc] using hmode
  have hexec : exec (.voiceDeclaration b) s = .next (s.both fun L => L.stick (canFlag 6) b) := by
    change execVoiceDeclaration b s = _
    simp [execVoiceDeclaration, hrun, h0, h1]
  refine ⟨_, hexec, rfl, OnlyLeaves.rfl.both, fun l => ?_⟩
  rw [State.leaf_both]
  exact Leaf.get_put_fits _ _ _ _ (by decide) (by decide)

theorem voiceDeclaration_idles (h0 : s.leaf0.declares b = false) (h1 : s.leaf1.declares b = false) :
    Completes (.voiceDeclaration b) s fun t => pick t.xcvr b = none ∧ t.leaf0 = s.leaf0 ∧ t.leaf1 = s.leaf1 := by
  have hexec : exec (.voiceDeclaration b) s = .next { s with xcvr := s.xcvr.setIfInBounds b none } := by
    change execVoiceDeclaration b s = _
    simp [execVoiceDeclaration, h0, h1]
  exact ⟨_, hexec, pick_setIfInBounds_same _ _ _ b.isLt, rfl, rfl⟩

theorem txdDominantTimeout_shows (us : Nat) (hus : 1000 ≤ us) (hxcvr : pick s.xcvr b ≠ none) :
    Completes (.txdDominantTimeout b us) s fun t => OnlyLeaves s t ∧ ∀ l, (t.leaf l).get (canFlag 5) b = 1 := by
  refine Ends.guardedTrue (by simp [hus, Option.isSome_iff_ne_none.mpr hxcvr]) ⟨OnlyLeaves.rfl.both, fun l => ?_⟩
  rw [State.leaf_both]
  exact Leaf.get_put_fits _ _ _ _ (by decide) (by decide)

end

/-- Settles O15: a frame received goes through the queue its filter pair names, and one sent frees its buffer. -/
theorem canFrames : Obligations.can_frames :=
  ⟨canFrameReceived_joins, canFrameReceived_waits, canFrameReceived_drops, canFrameReceived_crashes, canTransmitDone_sends,
    voice_plans, voiceDeclaration_follows, voiceDeclaration_reports, voiceDeclaration_idles, txdDominantTimeout_shows⟩

end Sys2Proof.Machine
end

section
/-! The Ethernet switch and network time (R471, R519 to R527). -/

namespace Sys2Proof.Machine

open Sys2Proof

/-! ### A descriptor read -/

/-- A descriptor of the ring's own opcode that passes its checks goes on with its header. -/
theorem Leaf.readDesc_reads {L M : Leaf} {ring op : Nat} {d : Desc} {h : Hdr} (hreads : Reads L ring op d M h)
    (act : Leaf → Hdr → Leaf) : L.readDesc ring op d act = act M h := by
  obtain ⟨hcan, hretry, hop, hcheck⟩ := hreads
  have hrow : otherRow ring op d = false := by simp [otherRow, hop]
  unfold Leaf.readDesc
  rw [hcan, hretry, hrow, hcheck]
  exact if_pos hop

/-! ### The switch (R519 to R522) -/

section

variable (s : State) (l : LeafId)

theorem ethFrameReceived_counts (p : Fin 2) (f : EthFrame) (fine : Fine) (hen : (s.leaf l).on NET_PORT_EN p = true)
    (hlink : (s.leaf l).on NET_PORT_LINK p = true) (hbad : f.fcsOk = false ∨ 1522 < f.len) :
    Completes (.ethFrameReceived l p f fine) s fun t => OnlyLeaf l s t ∧
      t.leaf l = { s.leaf l with regs := (t.leaf l).regs } ∧
      (t.leaf l).get NET_CNT_FCS_ERR = min ((s.leaf l).get NET_CNT_FCS_ERR + 1) NET_CNT_FCS_ERR.max ∧
      KeepsRegs (s.leaf l) (t.leaf l) [NET_CNT.addr 0, NET_FLT.addr 0] := by
  have hbad' : (!f.fcsOk || decide (1522 < f.len)) = true := by simpa using hbad
  refine Ends.guardedTrue (by simp [hen, hlink]) ⟨.setLeaf, ?_⟩
  rw [State.leaf_setLeaf, if_pos hbad']
  refine ⟨rfl, ?_, (KeepsRegs.rfl.put (by decide)).put (by decide)⟩
  rw [Leaf.get_bump _ _ _ (by decide), Leaf.stick, Leaf.get_put_other _ _ NET_CNT_FCS_ERR _ _ _ (by decide)]

end

/-- The addresses learnt are as they were. -/
def SameFdb (L M : Leaf) : Prop := M.net.fdb = L.net.fdb

namespace SameFdb

variable {L M N : Leaf}

theorem rfl : SameFdb L L := Eq.refl _

theorem trans (h : SameFdb L M) (h' : SameFdb M N) : SameFdb L N := Eq.trans h' h

theorem ite {c : Prop} [Decidable c] (hM : SameFdb L M) (hN : SameFdb L N) : SameFdb L (if c then M else N) := by
  split
  · exact hM
  · exact hN

section

variable (h : SameFdb L M)

include h

theorem put {f : Fld} {v i : Nat} : SameFdb L (M.put f v i) := h

theorem bump {f : Fld} {i : Nat} : SameFdb L (M.bump f i) := h

theorem stick {f : Fld} {i : Nat} : SameFdb L (M.stick f i) := h

theorem produce {e : OutEntry} : SameFdb L (M.produce e) := by
  unfold SameFdb
  rw [Leaf.produce_parts]
  exact h

theorem egress {vid port : Nat} {f : EthFrame} : SameFdb L (M.egress vid port f) := .ite h (.ite h h)

theorem recoverStream {k : Nat} {f : EthFrame} : SameFdb L (M.recoverStream k f).2 := by
  unfold Leaf.recoverStream
  extract_lets R n put
  split
  · exact h.bump
  · extract_lets seq d fresh i late early K
    split
    · exact h
    · split
      · exact h.bump.bump
      · split
        · split
          · exact h.bump
          · exact h
        · have hK : SameFdb L K := h
          clear_value K
          exact bump (.ite hK hK.bump)

theorem toHost {port vid pcp : Nat} {f : EthFrame} {fine : Fine} : SameFdb L (M.toHost port vid pcp f fine) := by
  unfold Leaf.toHost
  extract_lets st len flags
  clear_value len flags
  generalize st = found
  split
  next pass K hK =>
    have hK' : SameFdb L K := by
      split at hK
      · rw [show K = (pass, K).2 from Eq.refl _, ← hK]
        exact h.recoverStream
      · cases hK
        exact h
    split
    · exact hK'
    · extract_lets full N
      have hN : SameFdb L N := hK'.produce
      clear_value N
      exact .ite hN (.ite hN.bump.stick hN.bump)

theorem relay {port vid pcp : Nat} {f : EthFrame} {fine : Fine} : SameFdb L (M.relay port vid pcp f fine) := by
  unfold Leaf.relay
  extract_lets open2 others flood K
  have hflood : ∀ N, SameFdb L N → SameFdb L (flood N) := fun N hN =>
    foldl_keeps (SameFdb L) _ (fun _ _ h => h.egress) _ _ hN
  have hK : SameFdb L K := .ite h.toHost h
  refine .ite h (.ite (.ite h.toHost h.bump) (.ite h (.ite (hflood K hK) ?_)))
  split
  · exact .ite h (.ite h h.egress)
  · exact hflood M h

end

end SameFdb

section

variable (s : State) (l : LeafId)

/-- A first source address is learnt with its port and course (R520). -/
theorem Leaf.learn_first (L : Leaf) (src : BitVec 48) (port : Nat) (hlearn : L.on NET_CTRL_LEARN = true)
    (hsrc : src.getLsbD 40 = false) (hempty : L.net.fdb = []) : (L.learn src port).net.fdb = [(src, port, L.count)] := by
  have hfew : ¬ 1024 ≤ L.net.fdb.length := by
    rw [hempty]
    decide
  have hunknown : ¬ (L.net.fdb.any fun e => e.1 == src) = true := by
    rw [hempty]
    exact Bool.false_ne_true
  unfold Leaf.learn
  rw [if_neg (by rw [hlearn, hsrc]; decide)]
  dsimp only
  rw [if_neg hunknown, if_neg hfew]
  change L.net.fdb ++ [(src, port, L.count)] = _
  rw [hempty]
  rfl

theorem ethFrameReceived_learns (p : Fin 2) (f : EthFrame) (fine : Fine) (hen : (s.leaf l).on NET_PORT_EN p = true)
    (hlink : (s.leaf l).on NET_PORT_LINK p = true) (hfcs : f.fcsOk = true) (hlen : f.len ≤ 1522)
    (hfilt : (s.leaf l).on NET_PORT_ING_FILT p = false) (hlearn : (s.leaf l).on NET_CTRL_LEARN = true)
    (hsrc : f.src.getLsbD 40 = false) (hempty : (s.leaf l).net.fdb = []) :
    Completes (.ethFrameReceived l p f fine) s fun t => OnlyLeaf l s t ∧
      (t.leaf l).net.fdb = [(f.src, p.val, (s.leaf l).count)] := by
  have hgood : ¬ (!f.fcsOk || decide (1522 < f.len)) = true := by simp [hfcs, hlen]
  refine Ends.guardedTrue (by simp [hen, hlink]) ⟨.setLeaf, ?_⟩
  rw [State.leaf_setLeaf, if_neg hgood]
  dsimp only
  rw [if_neg (by rw [hfilt]; exact Bool.false_ne_true)]
  exact Eq.trans (SameFdb.relay .rfl) ((s.leaf l).learn_first f.src p hlearn hsrc hempty)

theorem addressAgeOut_forgets (mac : BitVec 48) (p : Nat) (c : Course) (hone : (s.leaf l).net.fdb = [(mac, p, c)])
    (hold : 160000 * (s.leaf l).get NET_CTRL_AGE ≤ since (s.leaf l).count c) :
    Completes (.addressAgeOut l mac) s fun t => OnlyLeaf l s t ∧ (t.leaf l).net.fdb = [] ∧
      (t.leaf l).get NET_STAT_FDB_USED = 0 := by
  change Ends (execAddressAgeOut l mac s) _
  unfold execAddressAgeOut
  extract_lets L old K
  have hold' : old (mac, p, c) = true := by simp [old, L, hold]
  have hK : K.net.fdb = [] := by
    change L.net.fdb.filter _ = []
    rw [hone]
    simp [hold']
  refine Ends.guardedTrue (by rw [hone]; simp [hold']) ⟨.setLeaf, ?_⟩
  rw [State.leaf_setLeaf]
  refine ⟨hK, ?_⟩
  rw [hK]
  exact Leaf.get_put_fits _ _ _ _ (by decide) (by decide)

theorem streamRecoveryReset_restarts (k : Fin 16) (htaken : (pick (s.leaf l).net.recov k).takeAny = false)
    (hlong : 160 * (s.leaf l).get NET_CTRL_RESET ≤ since (s.leaf l).count (pick (s.leaf l).net.recov k).last) :
    Completes (.streamRecoveryReset l k) s fun t => OnlyLeaf l s t ∧ (pick (t.leaf l).net.recov k).takeAny = true ∧
      KeepsRegs (s.leaf l) (t.leaf l) [NET_SCNT.addr k] := by
  refine Ends.guardedTrue (by simp [htaken, hlong]) ⟨.setLeaf, ?_⟩
  rw [State.leaf_setLeaf]
  refine ⟨?_, (KeepsRegs.ofRegs rfl).bump (List.mem_singleton.mpr rfl)⟩
  change (pick ((s.leaf l).net.recov.setIfInBounds k {}) k).takeAny = true
  rw [pick_setIfInBounds_same _ _ _ k.isLt]

/-! ### Links (R527) -/

theorem addr_port_ne_flt (p : Fin 2) : NET_PORT.addr p ≠ NET_FLT.addr 0 ∧ NET_PORT.addr p ∉ reportRegs := by
  revert p
  decide

theorem ethLinkDown_names (p : Fin 2) (hlink : (s.leaf l).on NET_PORT_LINK p = true) :
    Completes (.ethLinkDown l p) s fun t => OnlyLeaf l s t ∧ (t.leaf l).get NET_PORT_LINK p = 0 ∧
      (t.leaf l).get (netFlag (1 + p)) = 1 := by
  refine Ends.guardedTrue hlink ⟨.setLeaf, ?_⟩
  rw [State.leaf_setLeaf]
  have hflt : NET_FLT.addr 0 ≠ HRE_CNT.addr 0 ∧ NET_FLT.addr 0 ≠ HRE_ERR.addr 0 := by decide
  have hflag : ∀ p : Fin 2, (netFlag (1 + p)).hi < 64 ∧ (netFlag (1 + p)).lo ≤ (netFlag (1 + p)).hi := by decide
  refine ⟨?_, Leaf.get_raise _ _ _ hflt.1 hflt.2 (hflag p).1 (hflag p).2⟩
  obtain ⟨hflt, hreports⟩ := addr_port_ne_flt p
  have hkeeps : ∀ L : Leaf, (L.raise (netFlag (1 + p))).get NET_PORT_LINK p = L.get NET_PORT_LINK p := fun L =>
    (KeepsRegs.rfl.raise (but := NET_FLT.addr 0 :: reportRegs) (List.mem_cons_self ..) (List.subset_cons_self ..)).get
      (List.not_mem_cons_of_ne_of_not_mem hflt hreports)
  rw [hkeeps]
  exact Leaf.get_put_fits (s.leaf l) NET_PORT_LINK 0 p (by decide) (by decide)

theorem ethLinkUp_shows (p : Fin 2) (hlink : (s.leaf l).on NET_PORT_LINK p = false) :
    Completes (.ethLinkUp l p) s fun t => OnlyLeaf l s t ∧ (t.leaf l).get NET_PORT_LINK p = 1 ∧
      t.leaf l = { s.leaf l with regs := (t.leaf l).regs, net := (t.leaf l).net } ∧
      KeepsRegs (s.leaf l) (t.leaf l) [NET_PORT.addr p] := by
  refine Ends.guardedTrue (by simp [hlink]) ⟨.setLeaf, ?_⟩
  rw [State.leaf_setLeaf]
  exact ⟨Leaf.get_put_fits (s.leaf l) NET_PORT_LINK 1 p (by decide) (by decide), rfl,
    KeepsRegs.rfl.put (f := NET_PORT_LINK) (List.mem_singleton.mpr rfl)⟩

/-! ### Network time (R525, R526) -/

theorem ptpMessage_syncs (p : Fin 2) (m : PtpRx) (hen : (s.leaf l).on NET_PORT_EN p = true)
    (hlink : (s.leaf l).on NET_PORT_LINK p = true) (hptp : (s.leaf l).on NET_PORT_PTP_EN p = true) (hsync : m.sync = true) :
    Completes (.ptpMessage l p m) s fun t => OnlyLeaf l s t ∧ (t.leaf l).get NET_STAT_SYNC = 1 ∧
      (t.leaf l).net.gm = m.gm ∧ (t.leaf l).net.syncAt = some (s.leaf l).count ∧ (t.leaf l).net.baseCourse = m.at_ ∧
      KeepsRegs (s.leaf l) (t.leaf l) [NET_STAT.addr 0] := by
  refine Ends.guardedTrue (by simp [hen, hlink, hptp]) ⟨.setLeaf, ?_⟩
  rw [State.leaf_setLeaf, if_pos hsync]
  have hmem : NET_STAT.addr 0 ∈ [NET_STAT.addr 0] := List.mem_singleton.mpr rfl
  exact ⟨Leaf.get_put_fits _ _ _ _ (by decide) (by decide), rfl, rfl, rfl,
    (((KeepsRegs.rfl.put (f := NET_STAT_PTP_E0) hmem).put (f := NET_STAT_PTP_E1) hmem).trans (.ofRegs rfl)).put hmem⟩

theorem timeReport_latches (hcomp : (s.leaf l).computing = true) (htenth : (s.leaf l).count.toNat % 1600 = 0)
    (hnew : (s.leaf l).get NET_PTPC_COURSE ≠ (s.leaf l).count.toNat) :
    Completes (.timeReport l) s fun t => OnlyLeaf l s t ∧ (t.leaf l).get NET_PTPC_COURSE = (s.leaf l).count.toNat ∧
      (t.leaf l).get NET_PTPC_SYNC = bit ((s.leaf l).on NET_STAT_SYNC) ∧
      (t.leaf l).get NET_PTPC_GM_CHANGE = bit (s.leaf l).net.gmChanged ∧ (t.leaf l).net.gmChanged = false := by
  change Ends (execTimeReport l s) _
  unfold execTimeReport
  extract_lets L now ns sec frac ratio sync changed K K₁ K₂
  refine Ends.guardedTrue (by simp [L, hcomp, htenth, hnew]) ⟨.setLeaf, ?_⟩
  have hK : K.get NET_PTPC_COURSE = L.count.toNat ∧ K.get NET_PTPC_SYNC = sync ∧ K.get NET_PTPC_GM_CHANGE = changed := by
    have hlatch : ∀ f : Fld, f.reg = NET_PTPC → K.get f = (((L.put NET_PTPC_SYNC sync).put NET_PTPC_GM_CHANGE changed).put
        NET_PTPC_COURSE L.count.toNat).get f := by
      intro f hf
      unfold K
      rw [Leaf.get_put_other _ NET_PTPN_NS f _ _ _ (by rw [hf]; decide),
        Leaf.get_put_other _ NET_PTPN_RATIO f _ _ _ (by rw [hf]; decide),
        Leaf.get_put_other _ NET_PTPS_SEC f _ _ _ (by rw [hf]; decide)]
    rw [hlatch _ rfl, hlatch _ rfl, hlatch _ rfl, Leaf.get_put_fits _ NET_PTPC_COURSE _ _ (by decide) L.count.isLt,
      Leaf.get_put_field _ NET_PTPC_COURSE NET_PTPC_SYNC _ _ rfl (by decide),
      Leaf.get_put_field _ NET_PTPC_COURSE NET_PTPC_GM_CHANGE _ _ rfl (by decide),
      Leaf.get_put_field _ NET_PTPC_GM_CHANGE NET_PTPC_SYNC _ _ rfl (by decide)]
    exact ⟨rfl, Leaf.get_put_flag _ _ _ _ (by decide) (by decide), Leaf.get_put_flag _ _ _ _ (by decide) (by decide)⟩
  clear_value K
  have hentry : KeepsRegs K K₁ reportRegs := Leaf.produce_keepsRegs _ _
  have hregs : ∀ f : Fld, f.reg = NET_PTPC → K₁.get f = K.get f := fun f hf => hentry.get (by rw [hf]; decide)
  rw [State.leaf_setLeaf]
  clear_value K₁
  exact ⟨(hregs NET_PTPC_COURSE rfl).trans hK.1, (hregs NET_PTPC_SYNC rfl).trans hK.2.1,
    (hregs NET_PTPC_GM_CHANGE rfl).trans hK.2.2, rfl⟩

theorem gmLost_takesSync (c : Course) (hsync : (s.leaf l).on NET_STAT_SYNC = true) (hat : (s.leaf l).net.syncAt = some c)
    (hlong : 60000 ≤ since (s.leaf l).count c) :
    Completes (.gmLost l) s fun t => OnlyLeaf l s t ∧ (t.leaf l).get NET_STAT_SYNC = 0 ∧ (t.leaf l).get (netFlag 5) = 1 ∧
      KeepsRegs (s.leaf l) (t.leaf l) [NET_STAT.addr 0, NET_FLT.addr 0] := by
  refine Ends.guardedTrue (by simp [hsync, hat, hlong]) ⟨.setLeaf, ?_⟩
  rw [State.leaf_setLeaf, Leaf.stick]
  refine ⟨?_, Leaf.get_put_fits _ _ _ _ (by decide) (by decide), (KeepsRegs.rfl.put (by decide)).put (by decide)⟩
  rw [Leaf.get_put_other _ (netFlag 5) NET_STAT_SYNC _ _ _ (by decide)]
  exact Leaf.get_put_fits _ _ _ _ (by decide) (by decide)

/-! ### Sending (R471, R523) -/

theorem netSend_waits (d : Desc) (f : EthFrame) (L : Leaf) (h : Hdr) (hreads : Reads (s.leaf l) 8 0x70 d L h)
    (hbuf : bufferOk (sl d.bytes 24 8) (sl d.bytes 32 4) 1536 = true) :
    Completes (.netSend l d f true) s fun t => OnlyLeaf l s t ∧ (t.leaf l).hre.rxq = L.hre.rxq ++ [(h, d.bytes)] ∧
      (t.leaf l).hre.readBytes = L.hre.readBytes + sl d.bytes 32 4 ∧
      (t.leaf l).net.bufs = L.net.bufs ++ [(h.dseq, { f with len := sl d.bytes 32 4 + 4, fcsOk := true })] := by
  refine Ends.onLeaf ⟨.on, ?_⟩
  rw [State.leaf_on, Leaf.readDesc_reads hreads]
  dsimp only
  rw [if_neg (by rw [hbuf]; decide), if_neg (by decide)]
  exact ⟨rfl, rfl, rfl⟩

end

/-- Settles O17: a frame switched leaves the addresses learnt, and each other command its one port, stream or time. -/
theorem ethernet : Obligations.ethernet :=
  ⟨ethFrameReceived_counts, ethFrameReceived_learns, addressAgeOut_forgets, streamRecoveryReset_restarts, ethLinkDown_names,
    ethLinkUp_shows, ptpMessage_syncs, timeReport_latches, gmLost_takesSync, netSend_waits⟩

end Sys2Proof.Machine
end

section
/-! Service requests (R480, R545, R550 to R552, R559), and the records they ask for. -/

namespace Sys2Proof.Machine

open Sys2Proof

/-! ### Records (R539, R540) -/

/-- Fields from byte 2 on leave the bytes before them. -/
theorem recBytes_low (fs : List (Nat × Nat × Nat)) (hfs : ∀ p ∈ fs, 2 ≤ p.1) (a : Nat) :
    fs.foldl (fun a p => a + ((p.2.2 % 2 ^ (8 * p.2.1)) <<< (8 * p.1))) a % 2 ^ 16 = a % 2 ^ 16 := by
  induction fs generalizing a with
  | nil => rfl
  | cons p fs ih =>
    have hp : 2 ^ 16 ∣ (p.2.2 % 2 ^ (8 * p.2.1)) <<< (8 * p.1) := by
      have hoff : 2 ≤ p.1 := hfs p (List.mem_cons_self ..)
      rw [Nat.shiftLeft_eq]
      exact Dvd.dvd.mul_left (pow_dvd_pow 2 (by omega)) _
    rw [List.foldl_cons, ih fun q hq => hfs q (List.mem_cons_of_mem _ hq)]
    omega

/-- The type of a record is the byte its fields give it (R540). -/
theorem lrTyp_recBytes (typ : Nat) (fs : List (Nat × Nat × Nat)) (sig : BitVec 512) (htyp : typ < 256)
    (hfs : ∀ p ∈ fs, 2 ≤ p.1) : lrTyp ⟨recBytes ((0, 1, 1) :: (1, 1, typ) :: fs), sig⟩ = typ := by
  have hlow := recBytes_low fs hfs (0 + 1 % 2 ^ (8 * 1) <<< (8 * 0) + (typ % 2 ^ (8 * 1)) <<< (8 * 1))
  unfold lrTyp lrField recBytes
  rw [List.foldl_cons, List.foldl_cons]
  dsimp only
  generalize fs.foldl _ _ = n at hlow ⊢
  rw [BitVec.toNat_ofNat, Nat.shiftRight_eq_div_pow]
  rw [Nat.shiftLeft_eq] at hlow
  have hmod := Nat.mod_mod_of_dvd n (pow_dvd_pow 2 (by decide : 16 ≤ 1536))
  generalize n % 2 ^ 1536 = m at hmod ⊢
  omega

/-- Registers and the ledger at most have changed. -/
def LdgParts (L M : Leaf) : Prop := M = { L with regs := M.regs, ldg := M.ldg }

namespace LdgParts

variable {L M N : Leaf}

theorem rfl : LdgParts L L := Eq.refl _

theorem ite {c : Prop} [Decidable c] (hM : LdgParts L M) (hN : LdgParts L N) : LdgParts L (if c then M else N) := by
  split
  · exact hM
  · exact hN

section

variable (h : LdgParts L M)

include h

theorem put {f : Fld} {v i : Nat} : LdgParts L (M.put f v i) := by
  have hput := congrArg (fun K : Leaf => { K with regs := (M.put f v i).regs }) h
  exact hput

theorem bump {f : Fld} {i : Nat} : LdgParts L (M.bump f i) := h.put

theorem stick {f : Fld} {i : Nat} : LdgParts L (M.stick f i) := h.put

theorem onLdg {f : Ldg → Ldg} : LdgParts L (M.onLdg f) := by
  have hldg := congrArg (fun K : Leaf => { K with ldg := f M.ldg }) h
  exact hldg

theorem storeRecord {r : LRec} {pending : Bool} : LdgParts L (M.storeRecord r pending) := by
  unfold Leaf.storeRecord
  extract_lets n K₁ K₂ K₃ K₄
  have h₂ : LdgParts L K₂ := .ite h.put.bump.put h.put.bump
  have h₄ : LdgParts L K₄ := .ite h₂.put.put.bump h₂.put.put
  exact h₄.onLdg

theorem writeRecord {typ : Nat} {extra : List (Nat × Nat × Nat)} {unclean : Bool} :
    LdgParts L (M.writeRecord typ extra unclean) :=
  .ite h (.ite h.stick (.ite h (storeRecord (.ite h.stick h)).onLdg))

end

end LdgParts

theorem Leaf.storeRecord_ring (L : Leaf) (r : LRec) (pending : Bool) :
    (L.storeRecord r pending).ldg.ring = L.ldg.ring ++ [{ rec_ := r, pending := pending }] := by
  unfold Leaf.storeRecord
  extract_lets n K₁ K₂ K₃ K₄
  have h₂ : K₂.ldg = L.ldg := by
    unfold K₂
    split <;> rfl
  have h₄ : K₄.ldg = K₂.ldg := by
    unfold K₄
    split <;> rfl
  change K₄.ldg.ring ++ _ = _
  rw [h₄, h₂]

/-- The LEAD leaf's record of a type other than MINUTE is stored while a slot is free (R539). -/
theorem Leaf.writeRecord_stores (L : Leaf) (typ : Nat) (extra : List (Nat × Nat × Nat)) (unclean : Bool)
    (hrole : L.role = .lead) (hfree : L.get LDG_STAT_FREE ≠ 0) (hminute : typ ≠ 1) (htyp : typ < 256)
    (hextra : ∀ p ∈ extra, 2 ≤ p.1) :
    ∃ x, (L.writeRecord typ extra unclean).ldg.ring = L.ldg.ring ++ [x] ∧ lrTyp x.rec_ = typ := by
  unfold Leaf.writeRecord Leaf.writeRecordAs
  extract_lets free G K vm head N
  have hnot : ¬ (L.role != .lead) = true := by simp [hrole]
  rw [if_neg hnot, if_neg hfree, if_neg fun h => hminute h.1]
  have hK : K.ldg = L.ldg := by
    unfold K
    split <;> rfl
  refine ⟨⟨⟨head, 0⟩, signedType typ, false⟩, ?_, ?_⟩
  · change (K.storeRecord _ _).ldg.ring = _
    rw [Leaf.storeRecord_ring, hK]
  · refine lrTyp_recBytes typ _ 0 htyp fun p hp => ?_
    rcases List.mem_append.mp hp with h | h
    · clear hp
      revert p
      simp
    · exact hextra p h

/-! ### Requests of IR2 (R480, R550) -/

/-- A leaf put back leaves the module. -/
theorem State.setLeaf_self (s : State) (l : LeafId) : s.setLeaf l (s.leaf l) = s := by cases l <;> rfl

section

variable (s : State) (l : LeafId) (d : Desc) (L : Leaf) (h : Hdr)

theorem exec_plainService (c : Instr) (op : Nat) (hplain : plainService c = some (l, d, op)) :
    exec c s = .next (s.on l fun L => L.readDesc 2 op d (Leaf.svcDesc op d.bytes)) := by
  cases c <;> cases hplain <;> rfl

theorem plainService_taken (c : Instr) (op : Nat) (k : SvcKind) (hplain : plainService c = some (l, d, op))
    (hreads : Reads (s.leaf l) 2 op d L h) (hkind : svcKindOf op d.bytes = .ok k) :
    exec c s = .next (s.setLeaf l (L.acceptSvc h op k)) := by
  rw [exec_plainService s l d c op hplain, State.on, Leaf.readDesc_reads hreads, Leaf.svcDesc, hkind]

theorem plainService_queues (c : Instr) (op : Nat) (k : SvcKind) (hplain : plainService c = some (l, d, op))
    (hreads : Reads (s.leaf l) 2 op d L h) (hkind : svcKindOf op d.bytes = .ok k) :
    (L.role = .lead →
      exec c s = .next (s.setLeaf l { L with svc := { L.svc with queue := L.svc.queue ++ [⟨h, op, k, 0, none⟩] } })) ∧
    (L.role ≠ .lead →
      exec c s = .next (s.setLeaf l { L with svc := { L.svc with consumed := L.svc.consumed ++ [h] } })) := by
  rw [plainService_taken s l d L h c op k hplain hreads hkind]
  unfold Leaf.acceptSvc
  refine ⟨fun hlead => ?_, fun hnot => ?_⟩
  · rw [if_pos (by simp [hlead])]
  · rw [if_neg (by simp [hnot])]

end

theorem svcKindOf_plain (b : Slot) : svcKindOf 0x81 b = .ok .status ∧ svcKindOf 0x82 b = .ok .keys ∧
    svcKindOf 0x83 b = .ok (.superseded (sl b 24 8) (sl b 32 4)) ∧
    (sl b 28 2 ≠ 0 → sl b 28 2 ≤ 24 →
      svcKindOf 0x84 b = .ok (.history (sl b 24 4) (sl b 28 2) (slBits b 30 1 0 0 == 1))) :=
  ⟨rfl, rfl, rfl, fun hzero hmost => if_neg (by omega)⟩

section

variable (s : State) (l : LeafId) (d : Desc) (L : Leaf) (h : Hdr)

theorem readHistory_refuses (hreads : Reads (s.leaf l) 2 0x84 d L h) (hlead : L.role = .lead)
    (hcount : sl d.bytes 28 2 = 0 ∨ 24 < sl d.bytes 28 2) :
    exec (.readHistory l d) s = .next (s.setLeaf l (L.complete h 0x0105 0 28)) := by
  have hkind : svcKindOf 0x84 d.bytes = .error (0x0105, 28) := if_pos hcount
  rw [exec_plainService s l d (.readHistory l d) 0x84 rfl, State.on, Leaf.readDesc_reads hreads, Leaf.svcDesc, hkind]
  dsimp only
  rw [if_pos (by simp [hlead])]

theorem readRecords_queues (hreads : Reads (s.leaf l) 2 0x80 d L h) (hlead : L.role = .lead) (hzero : sl d.bytes 32 4 ≠ 0)
    (hmost : sl d.bytes 32 4 ≤ 65536) :
    exec (.readRecords l d [] []) s = .next (s.setLeaf l { L with svc := { L.svc with
      queue := L.svc.queue ++ [⟨h, 0x80, .records (sl d.bytes 24 8) (sl d.bytes 32 4), 0, none⟩] } }) := by
  have hkind : svcKindOf 0x80 d.bytes = .ok (.records (sl d.bytes 24 8) (sl d.bytes 32 4)) := if_neg (by omega)
  change execReadRecords l d [] [] s = _
  unfold execReadRecords onLeaf
  rw [State.on, Leaf.readDesc_reads hreads]
  change Host.Outcome.next (s.setLeaf l (Leaf.svcDesc 0x80 d.bytes L h)) = _
  rw [Leaf.svcDesc, hkind]
  dsimp only
  rw [Leaf.acceptSvc, if_pos (by simp [hlead])]

/-- What becomes of a request leaves the ledger. -/
theorem Leaf.svcDesc_ldg (op : Nat) (b : Slot) : (Leaf.svcDesc op b L h).ldg = L.ldg := by
  unfold Leaf.svcDesc Leaf.acceptSvc
  split
  · split <;> rfl
  · split
    · rw [Leaf.complete_parts]
    · rfl

theorem readRecords_notesLost (n : Nat) (hreads : Reads (s.leaf l) 2 0x80 d L h)
    (harchived : L.ldg.archive.any (fun r => lrRecno r == n) = true) :
    Completes (.readRecords l d [] [n]) s fun t => OnlyLeaf l s t ∧ (t.leaf l).findRecord n = none := by
  refine Ends.onLeaf ⟨.on, ?_⟩
  rw [State.leaf_on, Leaf.readDesc_reads hreads]
  dsimp only
  have hlost : [n].filter (fun n => L.ldg.archive.any fun r => lrRecno r == n) = [n] := by
    simp [harchived]
  unfold Leaf.findRecord
  rw [Leaf.svcDesc_ldg, List.any_nil, if_neg Bool.false_ne_true, hlost]
  refine if_pos ?_
  change (L.ldg.lost ++ [n]).contains n = true
  simp

/-! ### The grade (R559) -/

theorem grade_begins (hreads : Reads (s.leaf l) 2 0x85 d L h) (hlead : L.role = .lead) :
    Completes (.grade l d) s fun t => OnlyLeaf l s t ∧ (t.leaf l).his.gradeAt.isSome ∧
      (t.leaf l).his.gradeReqs = L.his.gradeReqs ++ [⟨h, 0x85, .grade, 0, none⟩] ∧ (t.leaf l).regs = L.regs := by
  refine Ends.onLeaf ⟨.on, ?_⟩
  rw [State.leaf_on, Leaf.readDesc_reads hreads, if_pos (by simp [hlead])]
  refine ⟨?_, rfl, rfl⟩
  change (L.his.gradeAt.or (some L.count)).isSome = true
  cases L.his.gradeAt <;> rfl

theorem gradeComplete_answers (r : SvcReq) (hat : (s.leaf l).his.gradeAt.isSome) (hshed : (s.leaf l).get ASH_STAT_SHED = 0)
    (hone : (s.leaf l).his.gradeReqs = [r]) :
    Completes (.gradeComplete l) s fun t => OnlyLeaf l s t ∧ (t.leaf l).svc.queue = (s.leaf l).svc.queue ++ [r] ∧
      (t.leaf l).his.gradeAt = none ∧ (t.leaf l).his.gradeReqs = [] ∧
      ((s.leaf l).role = .lead → (s.leaf l).get LDG_STAT_FREE ≠ 0 →
        ∃ x, (t.leaf l).ldg.ring = (s.leaf l).ldg.ring ++ [x] ∧ lrTyp x.rec_ = 0x0C) := by
  change Ends (execGradeComplete l s) _
  unfold execGradeComplete
  extract_lets L svc K sha N
  refine Ends.guardedTrue (by simp [L, hat, hshed]) ⟨.setLeaf, ?_⟩
  rw [State.leaf_setLeaf]
  have hN : LdgParts K N := LdgParts.rfl.writeRecord
  have hring : L.role = .lead → L.get LDG_STAT_FREE ≠ 0 → ∃ x, N.ldg.ring = L.ldg.ring ++ [x] ∧ lrTyp x.rec_ = 0x0C :=
    fun hrole hfree => K.writeRecord_stores 0x0C _ false hrole hfree (by decide) (by decide) (by simp)
  have hhis : N.his = L.his := by rw [hN]
  have hsvc : N.svc.queue = L.svc.queue ++ [r] := by
    rw [hN]
    change L.svc.queue ++ L.his.gradeReqs.take 1 = _
    rw [hone]
    rfl
  clear_value N
  refine ⟨hsvc, ?_, ?_, hring⟩
  · change (if (N.his.gradeReqs.drop 1).isEmpty then none else some N.count) = none
    rw [hhis, hone]
    rfl
  · change N.his.gradeReqs.drop 1 = []
    rw [hhis, hone]
    rfl

theorem gradeComplete_waits (hnone : (s.leaf l).his.gradeAt = none) : exec (.gradeComplete l) s = .next s :=
  guarded_false s (by simp [hnone])

end

/-! ### Datagrams (R552) -/

section

variable (s : State) (l : LeafId) (port mac ip udp : Nat) (b : Slot)

theorem netServiceRequest_queues (k : SvcKind) (hen : (s.leaf l).on LDG_CTRL_NET_EN = true)
    (hport : udp = (s.leaf l).get LDG_CTRL_NET_PORT) (hcarry : (s.leaf l).carrying = true)
    (hkind : svcKindOf (opcode b) b = .ok k) (hgrade : k ≠ .grade) :
    Completes (.netServiceRequest l port mac ip udp b) s fun t => OnlyLeaf l s t ∧ (t.leaf l).regs = (s.leaf l).regs ∧
      (t.leaf l).svc.queue = (s.leaf l).svc.queue ++ [⟨⟨2, false, 0, 0, 0, 0⟩, opcode b, k, 0, some (port, mac, ip)⟩] := by
  refine Ends.onLeaf ⟨.on, ?_⟩
  rw [State.leaf_on, if_neg (by simp [hen, hport, hcarry])]
  dsimp only
  rw [hkind]
  cases k with
  | grade => exact absurd rfl hgrade
  | _ => exact ⟨rfl, rfl⟩

theorem netServiceRequest_refusesGrade (hen : (s.leaf l).on LDG_CTRL_NET_EN = true)
    (hport : udp = (s.leaf l).get LDG_CTRL_NET_PORT) (hrole : (s.leaf l).role = .follow) (hcut : (s.leaf l).cut = false)
    (hop : opcode b = 0x85) :
    Completes (.netServiceRequest l port mac ip udp b) s fun t => OnlyLeaf l s t ∧ (t.leaf l).svc = (s.leaf l).svc ∧
      (t.leaf l).out = (s.leaf l).out ++ [Out.eth port 48 (svcPart ⟨⟨2, false, 0, 0, 0, 0⟩, 0x85, .status, 0,
        some (port, mac, ip)⟩ 2 true true 0x0201).toNat] := by
  have hcarry : (s.leaf l).carrying = true := by simp [Leaf.carrying, hrole]
  have hkind : svcKindOf (opcode b) b = .ok .grade := by
    rw [hop]
    rfl
  refine Ends.onLeaf ⟨.on, ?_⟩
  rw [State.leaf_on, if_neg (by simp [hen, hport, hcarry])]
  dsimp only
  rw [hkind]
  dsimp only
  rw [if_neg (by simp [hrole]), Leaf.answerPart]
  dsimp only
  rw [Leaf.emitHost, if_neg (by rw [hcut]; decide), hop]
  exact ⟨rfl, rfl⟩

theorem netServiceRequest_closed (hen : (s.leaf l).on LDG_CTRL_NET_EN = false) :
    exec (.netServiceRequest l port mac ip udp b) s = .next s := by
  change execNetServiceRequest l port mac ip udp b s = _
  unfold execNetServiceRequest onLeaf
  rw [State.on, if_pos (by simp [hen]), State.setLeaf_self]

end

/-! ### A service slice (R543, R550, R551) -/

section

variable (L : Leaf) (r : SvcReq) (rest : List SvcReq)

/-- The parts of a response: whether one is the last, and its bytes (R551). -/
theorem svcPart_bounds (len part : Nat) : ((len + 31) / 32 ≤ part + 1 ↔ len ≤ 32 * (part + 1)) ∧
    (if len ≤ 32 * (part + 1) then len - 32 * part else 32) = min 32 (len - 32 * part) := by
  refine ⟨by omega, ?_⟩
  split <;> omega

/-- The head request served by one part. -/
theorem Leaf.serveRequests_serves (hshed : L.get ASH_STAT_SHED = 0) (hqueue : L.svc.queue = r :: rest)
    (hroom : (r.net.isNone && decide (64 ≤ queued L.hre.locQ 9)) = false) (K : Leaf)
    (hK : L.answerPart r (svcPart r (min 32 (L.svcLen r.kind - 32 * r.part)) false
      (decide (L.svcLen r.kind ≤ 32 * (r.part + 1))) (L.svcChunk r.part r.kind)) = K) :
    L.serveRequests = { K with svc := { K.svc with
      queue := if L.svcLen r.kind ≤ 32 * (r.part + 1) then rest else { r with part := r.part + 1 } :: rest } } := by
  obtain ⟨hlast, hused⟩ := svcPart_bounds (L.svcLen r.kind) r.part
  unfold Leaf.serveRequests
  rw [if_neg (by rw [hshed]; decide), hqueue]
  dsimp only
  rw [hroom, if_neg Bool.false_ne_true]
  simp only [hlast, decide_eq_true_eq]
  rw [hused, hK]

theorem Leaf.serveRequests_rings (hshed : L.get ASH_STAT_SHED = 0) (hqueue : L.svc.queue = r :: rest) (hnet : r.net = none)
    (hopen : L.ringOpen 9 = true) (hroom : queued L.hre.locQ 9 < 64) :
    L.serveRequests = { L with
      svc := { L.svc with queue := if L.svcLen r.kind ≤ 32 * (r.part + 1) then rest else { r with part := r.part + 1 } :: rest }
      hre := { L.hre with locQ := L.hre.locQ ++ [{ ring := 9, isLocal := true, course := L.count
                                                   body := svcPart r (min 32 (L.svcLen r.kind - 32 * r.part)) false
                                                     (decide (L.svcLen r.kind ≤ 32 * (r.part + 1))) (L.svcChunk r.part r.kind) }] } } := by
  rw [L.serveRequests_serves r rest hshed hqueue (by simp [hroom]) _ rfl, Leaf.answerPart, hnet]
  dsimp only
  rw [Leaf.produce, if_neg (by rw [hopen]; decide), if_pos rfl, if_neg (Nat.not_le.mpr hroom)]

theorem Leaf.serveRequests_sends (port mac ip : Nat) (hshed : L.get ASH_STAT_SHED = 0) (hqueue : L.svc.queue = r :: rest)
    (hnet : r.net = some (port, mac, ip)) (hcut : L.cut = false) :
    L.serveRequests = { L with
      svc := { L.svc with queue := if L.svcLen r.kind ≤ 32 * (r.part + 1) then rest else { r with part := r.part + 1 } :: rest }
      out := L.out ++ [.eth port 48 (svcPart r (min 32 (L.svcLen r.kind - 32 * r.part)) false
        (decide (L.svcLen r.kind ≤ 32 * (r.part + 1))) (L.svcChunk r.part r.kind)).toNat] } := by
  rw [L.serveRequests_serves r rest hshed hqueue (by simp [hnet]) _ rfl, Leaf.answerPart, hnet]
  dsimp only
  rw [Leaf.emitHost, if_neg (by rw [hcut]; decide)]

theorem Leaf.serveRequests_sheds (hshed : L.get ASH_STAT_SHED ≠ 0) : L.serveRequests = L := if_pos hshed

end

/-- Settles O51: a request goes through `svcKindOf` into the queue, and a slice sends the next part of its head. -/
theorem serviceRequests : Obligations.service_requests :=
  ⟨fun s c l d op L h k => plainService_queues s l d L h c op k, svcKindOf_plain, readHistory_refuses, readRecords_queues,
    fun s l d L h n => readRecords_notesLost s l d L h n, grade_begins, gradeComplete_answers, gradeComplete_waits,
    netServiceRequest_queues, netServiceRequest_refusesGrade, netServiceRequest_closed, Leaf.serveRequests_rings,
    Leaf.serveRequests_sends, Leaf.serveRequests_sheds⟩

end Sys2Proof.Machine
end

section
/-! Images and settings generations (R566, R569 to R572, R575 to R577, R582, R610). -/

namespace Sys2Proof.Machine

open Sys2Proof

/-! ### What leaves the flash of a leaf -/

/-- The images and generations of a leaf are as they were. -/
def SameUpd (L M : Leaf) : Prop := M.upd = L.upd

namespace SameUpd

variable {L M N : Leaf}

theorem rfl : SameUpd L L := Eq.refl _

theorem trans (h : SameUpd L M) (h' : SameUpd M N) : SameUpd L N := Eq.trans h' h

theorem ite {c : Prop} [Decidable c] (hM : SameUpd L M) (hN : SameUpd L N) : SameUpd L (if c then M else N) := by
  split
  · exact hM
  · exact hN

theorem ofRegsOnly (h : RegsOnly L M) : SameUpd L M := by
  unfold SameUpd
  rw [h]

theorem ofLdgParts (h : LdgParts L M) : SameUpd L M := by
  unfold SameUpd
  rw [h]

section

variable (h : SameUpd L M)

include h

theorem foldl {α : Type} {f : Leaf → α → Leaf} {xs : List α} (hf : ∀ K a, SameUpd K (f K a)) :
    SameUpd L (xs.foldl f M) :=
  foldl_keeps (SameUpd L) f (fun K a hK => hK.trans (hf K a)) xs M h

theorem put {f : Fld} {v i : Nat} : SameUpd L (M.put f v i) := h

theorem setWord {r : Reg} {i : Nat} {w : Word} : SameUpd L (M.setWord r i w) := h

theorem bump {f : Fld} {i : Nat} : SameUpd L (M.bump f i) := h

theorem stick {f : Fld} {i : Nat} : SameUpd L (M.stick f i) := h

theorem raise {f : Fld} {i : Nat} : SameUpd L (M.raise f i) := by
  unfold SameUpd
  rw [Leaf.raise_parts]
  exact h

theorem emit {o : Out} : SameUpd L (M.emit o) := .ite h h

theorem maint {chan op item data : Nat} {course : Course} : SameUpd L (M.maint chan course op item data) := h.emit

theorem writeRecord {typ : Nat} {extra : List (Nat × Nat × Nat)} {unclean : Bool} :
    SameUpd L (M.writeRecord typ extra unclean) := h.trans (.ofLdgParts (LdgParts.writeRecord .rfl))

theorem onMach {m : Nat} {f : TrcMach → TrcMach} : SameUpd L (M.onMach m f) := h

theorem onSet {k : Nat} {f : TrcSet → TrcSet} : SameUpd L (M.onSet k f) := h

theorem onActr {a : Nat} {f : Actr → Actr} : SameUpd L (M.onActr a f) := h

theorem onHis {f : His → His} : SameUpd L (M.onHis f) := h

theorem setInst {b i : Nat} {c : Comp} : SameUpd L (M.setInst b i c) := h

theorem withAsh {ash : Ash} : SameUpd L { M with ash := ash } := h

theorem withHre {hre : Hre} : SameUpd L { M with hre := hre } := h

theorem withTie {tie : Tie} : SameUpd L { M with tie := tie } := h

theorem stageChanged {g : Nat} : SameUpd L (M.stageChanged g) := by
  unfold Leaf.stageChanged
  extract_lets tie K
  have hK : SameUpd L K := h.withTie
  clear_value K
  exact hK.trans (.ofRegsOnly (Leaf.abortTests_regsOnly _ _ _))

theorem moveSet {k st : Nat} : SameUpd L (M.moveSet k st) :=
  .ite h (stageChanged (onSet (.ite h.put.bump h.put)))

theorem moveAct {a st : Nat} : SameUpd L (M.moveAct a st) := h.put.onActr

theorem showAct {a : Nat} : SameUpd L (M.showAct a) := .ite h.put.put.put.put h.put.put.put

theorem commitEn {k : Nat} {en : Bool} : SameUpd L (M.commitEn k en) := .ite (.ite h.moveSet h) (.ite h.moveSet h)

theorem commitActEn {a : Nat} {en : Bool} : SameUpd L (M.commitActEn a en) :=
  .ite h.moveAct.showAct (.ite h.moveAct.onActr h)

theorem configChan {n : Nat} {c : Course} : SameUpd L (M.configChan n c) := h.maint.maint.maint.maint

theorem configStage {a : Nat} : SameUpd L (M.configStage a) := h.emit.emit.emit.emit

/-- A setting stored, with what follows from it in the leaf (R578). -/
theorem storeRws {r : Reg} {i : Nat} {new : Word} {c : Course} : SameUpd L (M.storeRws r i new c) := by
  unfold Leaf.storeRws
  extract_lets old w calOld packOld K bitNew bitOld
  have hK : SameUpd L K := h
  clear_value K
  refine .ite h (.ite (.ite hK hK.commitEn) (.ite hK.configChan (.ite hK.configChan.configChan (.ite hK.put (.ite hK.put.writeRecord
    (.ite hK.writeRecord (.ite ?_ (.ite hK.configStage (.ite (.ite hK.withHre hK) (.ite (.ite hK.put.put hK) hK))))))))))
  exact hK.foldl fun _ _ => .ite (configStage .rfl) (commitActEn (configStage .rfl))

theorem loadPresets {g : Settings} : SameUpd L (M.loadPresets g) := by
  refine h.foldl fun K p => ?_
  split
  · exact .ite (storeRws .rfl) .rfl
  · exact .rfl

theorem loadTables {g : Settings} : SameUpd L (M.loadTables g) := by
  unfold Leaf.loadTables
  extract_lets K₁ K₂
  have h₁ : SameUpd L K₁ := h.foldl fun _ _ => setInst .rfl
  clear_value K₁
  have h₂ : SameUpd L K₂ := h₁.foldl fun _ _ => put (onMach .rfl)
  clear_value K₂
  exact h₂.withAsh.put.put

theorem loadBms {g : Settings} : SameUpd L (M.loadBms g) := .ite h.onHis h.onHis.raise

theorem loadBinds {table : Option (List Word)} : SameUpd L (M.loadBinds table) := by
  unfold Leaf.loadBinds
  extract_lets K₁ K₂
  have h₁ : SameUpd L K₁ := h.foldl fun _ _ => rfl
  clear_value K₁
  have h₂ : SameUpd L K₂ := h₁.foldl fun _ _ => rfl
  clear_value K₂
  exact h₂.setWord.setWord

theorem applyGeneration {g : Settings} : SameUpd L (M.applyGeneration g) := by
  unfold Leaf.applyGeneration
  extract_lets differs K₁ K₂
  have h₁ : SameUpd L K₁ := h.loadPresets.loadTables.loadBms
  clear_value K₁
  have h₂ : SameUpd L K₂ := .ite h₁ h₁.loadBinds
  clear_value K₂
  exact .ite h₂.put.put h₂

theorem showUpd : SameUpd L M.showUpd := h.trans (.ofRegsOnly (Leaf.showUpd_regsOnly M))

theorem sendUnit {typ : Nat} {payload : List Nat} {ack : Bool} : SameUpd L (M.sendUnit typ payload ack) := by
  unfold Leaf.sendUnit
  split
  · exact h
  · exact h

theorem complete {hd : Hdr} {code effect detail : Nat} : SameUpd L (M.complete hd code effect detail) := by
  unfold SameUpd
  rw [Leaf.complete_parts]
  exact h

theorem event {code subj detail : Nat} : SameUpd L (M.event code subj detail) := by
  unfold SameUpd
  rw [Leaf.event_parts]
  exact h

end

end SameUpd

/-- The registers that show slots and generations (R587). -/
def updRegs : List Nat := [UPD_SET.addr 0, UPD_SLOT.addr 0, UPD_VERA.addr 0, UPD_VERB.addr 0, UPD_FLOOR.addr 0]

theorem Leaf.showUpd_keepsRegs (L : Leaf) : KeepsRegs L L.showUpd updRegs := by
  unfold Leaf.showUpd
  extract_lets U gen fmt K₁ a b K₂ v K₃
  have h₁ : KeepsRegs L K₁ updRegs := by
    unfold K₁
    repeat' apply KeepsRegs.put
    · exact .rfl
    all_goals decide
  clear_value K₁
  have h₂ : KeepsRegs K₁ K₂ updRegs := by
    unfold K₂
    repeat' apply KeepsRegs.put
    · exact .rfl
    all_goals decide
  clear_value K₂
  have h₃ : KeepsRegs K₂ K₃ updRegs := by
    unfold K₃ v
    repeat' apply KeepsRegs.put
    · exact .rfl
    all_goals decide
  clear_value K₃
  exact ((((h₁.trans h₂).trans h₃).put (by decide)).put (by decide))

/-- Slots and generations shown anew leave what UPD_STRM shows of a stream. -/
theorem Leaf.get_strm_showUpd (L : Leaf) (f : Fld) (hf : f.reg = UPD_STRM) : L.showUpd.get f = L.get f :=
  L.showUpd_keepsRegs.get (by rw [hf]; decide)

theorem Leaf.get_strm_complete (L : Leaf) (f : Fld) (h : Hdr) (code effect detail : Nat) (hf : f.reg = UPD_STRM) :
    (L.complete h code effect detail).get f = L.get f :=
  (KeepsRegs.rfl.complete (List.Subset.refl _)).get (by rw [hf]; decide)

theorem Leaf.get_strm_event (L : Leaf) (f : Fld) (code subj detail : Nat) (hf : f.reg = UPD_STRM) :
    (L.event code subj detail).get f = L.get f :=
  (KeepsRegs.rfl.event (List.Subset.refl _)).get (by rw [hf]; decide)

theorem Leaf.showUpd_onUpd (L : Leaf) (f : Upd → Upd) : (L.onUpd f).showUpd.upd = f L.upd :=
  show SameUpd (L.onUpd f) _ from SameUpd.rfl.showUpd

theorem Leaf.showUpd_count (L : Leaf) : L.showUpd.count = L.count := L.showUpd_regsOnly.count

/-! ### Streams (R569 to R571) -/

section

variable (s : State) (l : LeafId) (d : Desc) (L : Leaf) (h : Hdr)

/-- The other slot of two replaced. -/
theorem Leaf.setSlot_other (K : Leaf) (a : Nat) (x : ImgSlot) : pick (K.setSlot (1 - a) x).upd.slots (1 - a) = x := by
  rw [show (K.setSlot (1 - a) x).upd = _ from K.showUpd_onUpd _]
  exact pick_setIfInBounds_same _ _ _ (by omega)

theorem Leaf.setSlot_upd (K : Leaf) (i : Nat) (x : ImgSlot) :
    (K.setSlot i x).upd = { K.upd with slots := K.upd.slots.setIfInBounds i x } := K.showUpd_onUpd _

theorem Leaf.openStream_opens (kind : Nat) (x : BitVec 2560) (hkind : kind < 4) :
    (L.openStream h kind x).upd.stream = some ⟨x, kind, h.target, none⟩ ∧ (L.openStream h kind x).get UPD_STRM_STATE = 1 ∧
      (L.openStream h kind x).get UPD_STRM_KIND = kind ∧ (L.openStream h kind x).get UPD_STRM_BYTES = 0 ∧
      (kind = 1 → (pick (L.openStream h kind x).upd.slots (1 - L.upd.active)).valid = false) := by
  unfold Leaf.openStream
  extract_lets K₁ K₂ K₃
  have h₂ : K₂.upd = K₁.upd ∧ K₂.get UPD_STRM_STATE = 1 ∧ K₂.get UPD_STRM_KIND = kind ∧ K₂.get UPD_STRM_BYTES = 0 := by
    unfold K₂
    refine ⟨rfl, ?_, ?_, Leaf.get_put_fits _ _ _ _ (by decide) (by decide)⟩
    · rw [Leaf.get_put_field _ UPD_STRM_BYTES UPD_STRM_STATE _ _ rfl (by decide),
        Leaf.get_put_field _ UPD_STRM_DETAIL UPD_STRM_STATE _ _ rfl (by decide),
        Leaf.get_put_field _ UPD_STRM_KIND UPD_STRM_STATE _ _ rfl (by decide)]
      exact Leaf.get_put_fits _ _ _ _ (by decide) (by decide)
    · rw [Leaf.get_put_field _ UPD_STRM_BYTES UPD_STRM_KIND _ _ rfl (by decide),
        Leaf.get_put_field _ UPD_STRM_DETAIL UPD_STRM_KIND _ _ rfl (by decide)]
      exact Leaf.get_put_fits _ _ _ _ (by decide) hkind
  obtain ⟨hupd, hstate, hkind', hbytes⟩ := h₂
  clear_value K₂
  have h₃ : K₃.upd.stream = some ⟨x, kind, h.target, none⟩ ∧ (∀ f : Fld, f.reg = UPD_STRM → K₃.get f = K₂.get f) ∧
      (kind = 1 → (pick K₃.upd.slots (1 - L.upd.active)).valid = false) := by
    unfold K₃
    split
    · refine ⟨?_, fun f hf => ?_, fun _ => ?_⟩
      · rw [Leaf.setSlot_upd, hupd]
        rfl
      · exact Leaf.get_strm_showUpd _ f hf
      · rw [hupd]
        exact congrArg ImgSlot.valid (Leaf.setSlot_other _ L.upd.active {})
    next hnot =>
      refine ⟨?_, fun _ _ => rfl, fun h => absurd h hnot⟩
      rw [hupd]
      rfl
  obtain ⟨hstream, hsame, hslot⟩ := h₃
  clear_value K₃
  have hdone : (K₃.complete h 0x0000).upd = K₃.upd := SameUpd.rfl.complete
  rw [hdone, Leaf.get_strm_complete _ _ _ _ _ _ rfl, Leaf.get_strm_complete _ _ _ _ _ _ rfl,
    Leaf.get_strm_complete _ _ _ _ _ _ rfl, hsame _ rfl, hsame _ rfl, hsame _ rfl]
  exact ⟨hstream, hstate, hkind', hbytes, hslot⟩

theorem streamOpen_opens (x : BitVec 2560) (hreads : Reads (s.leaf l) 9 0x90 d L h)
    (hkind : sl d.bytes 17 1 = 1 ∨ (sl d.bytes 17 1 = 2 ∧ h.target = 0 ∧ (hfOld x = false ∨ L.upd.source = none)))
    (hlen : sl d.bytes 32 4 = 320) (hbuf : bufferOk (sl d.bytes 24 8) 320 4096 = true) (hnone : L.upd.stream = none)
    (hclosed : s.updOpen = false) :
    Completes (.streamOpen l d x true) s fun t => OnlyLeaf l s t ∧
      (t.leaf l).upd.stream = some ⟨x, sl d.bytes 17 1, h.target, none⟩ ∧ (t.leaf l).get UPD_STRM_STATE = 1 ∧
      (t.leaf l).get UPD_STRM_KIND = sl d.bytes 17 1 ∧ (t.leaf l).get UPD_STRM_BYTES = 0 ∧
      (sl d.bytes 17 1 = 1 → (pick (t.leaf l).upd.slots (1 - L.upd.active)).valid = false) := by
  refine Ends.onLeaf ⟨.on, ?_⟩
  rw [State.leaf_on, Leaf.readDesc_reads hreads]
  dsimp only
  have hold : ¬ (sl d.bytes 17 1 = 2 ∧ hfOld x = true ∧ L.upd.source.isSome) := by
    rintro ⟨htwo, hx, hsource⟩
    rcases hkind with hone | ⟨-, -, hx' | hsource'⟩
    · omega
    · rw [hx'] at hx
      exact Bool.false_ne_true hx
    · rw [hsource'] at hsource
      exact Bool.false_ne_true hsource
  rw [if_neg (by omega), if_neg (by omega), hlen, hbuf, if_neg (by decide), hnone, if_neg (show ¬ (none : Option Stream).isSome = true by decide),
    if_neg (by rw [hclosed]; simp), if_neg hold, if_pos rfl]
  exact Leaf.openStream_opens _ h _ x (by omega)

theorem streamOpen_refuses (x : BitVec 2560) (b : Bool) (hreads : Reads (s.leaf l) 9 0x90 d L h) (hone : sl d.bytes 17 1 ≠ 1)
    (htwo : sl d.bytes 17 1 ≠ 2) :
    exec (.streamOpen l d x b) s = .next (s.setLeaf l (L.complete h 0x0105 0 17)) := by
  change execStreamOpen l d x b s = _
  unfold execStreamOpen onLeaf
  rw [State.on, Leaf.readDesc_reads hreads]
  dsimp only
  rw [if_pos ⟨hone, htwo⟩]

theorem streamData_fills (st : Stream) (hreads : Reads (s.leaf l) 9 0x91 d L h)
    (hbuf : bufferOk (sl d.bytes 24 8) (sl d.bytes 32 4) 4096 = true) (hstream : L.upd.stream = some st)
    (hopen : st.closedAt = none) :
    (sl d.bytes 36 8 = L.get UPD_STRM_BYTES → L.get UPD_STRM_BYTES + sl d.bytes 32 4 ≤ UPD_STRM_BYTES.max →
      Completes (.streamData l d true) s fun t => OnlyLeaf l s t ∧ (t.leaf l).upd = L.upd ∧
        (t.leaf l).get UPD_STRM_BYTES = L.get UPD_STRM_BYTES + sl d.bytes 32 4) ∧
    (sl d.bytes 36 8 ≠ L.get UPD_STRM_BYTES → ∀ b,
      exec (.streamData l d b) s = .next (s.setLeaf l (L.complete h 0x0105 0 36))) := by
  have hgood : ¬ (!bufferOk (sl d.bytes 24 8) (sl d.bytes 32 4) 4096) = true := by
    rw [hbuf]
    decide
  have hnot : ¬ st.closedAt.isSome = true := by
    rw [hopen]
    decide
  refine ⟨fun hnext hfits => ?_, fun hgap b => ?_⟩
  · refine Ends.onLeaf ⟨.on, ?_⟩
    rw [State.leaf_on, Leaf.readDesc_reads hreads]
    dsimp only
    rw [if_neg hgood, hstream]
    dsimp only
    rw [if_neg hnot, if_neg (not_not.mpr hnext), if_pos rfl, Leaf.get_strm_complete _ _ _ _ _ _ rfl]
    refine ⟨SameUpd.complete rfl, Leaf.get_put_fits _ _ _ _ (by decide) ?_⟩
    have hmax : UPD_STRM_BYTES.max + 1 = 2 ^ (UPD_STRM_BYTES.hi + 1 - UPD_STRM_BYTES.lo) := by decide
    rw [← hmax]
    exact Nat.lt_succ_of_le hfits
  · change execStreamData l d b s = _
    unfold execStreamData onLeaf
    rw [State.on, Leaf.readDesc_reads hreads]
    dsimp only
    rw [if_neg hgood, hstream]
    dsimp only
    rw [if_neg hnot, if_pos hgap]

theorem streamClose_closes (st : Stream) (hreads : Reads (s.leaf l) 9 0x92 d L h) (hstream : L.upd.stream = some st)
    (hopen : st.closedAt = none) :
    Completes (.streamClose l d) s fun t => OnlyLeaf l s t ∧ (t.leaf l).get UPD_STRM_STATE = 2 ∧
      (t.leaf l).upd.stream = some ⟨st.header, st.kind, st.target, some L.count⟩ := by
  refine Ends.onLeaf ⟨.on, ?_⟩
  rw [State.leaf_on, Leaf.readDesc_reads hreads]
  rw [hstream]
  dsimp only
  rw [if_neg (by rw [hopen]; decide), Leaf.get_strm_complete _ _ _ _ _ _ rfl]
  refine ⟨Leaf.get_put_fits _ _ _ _ (by decide) (by decide), ?_⟩
  generalize hK : (L.onUpd _).showStream 2 = K
  have hdone : (K.complete h 0x0000).upd = K.upd := SameUpd.rfl.complete
  rw [hdone, ← hK]
  rfl

theorem streamAbort_ends (hreads : Reads (s.leaf l) 9 0x93 d L h) (hstream : L.upd.stream.isSome) :
    Completes (.streamAbort l d) s fun t => OnlyLeaf l s t ∧ (t.leaf l).upd.stream = none ∧
      (t.leaf l).get UPD_STRM_STATE = 0 := by
  refine Ends.onLeaf ⟨.on, ?_⟩
  rw [State.leaf_on, Leaf.readDesc_reads hreads]
  rw [if_neg (by rw [Option.isNone_iff_eq_none, ← Option.not_isSome_iff_eq_none]; exact not_not.mpr hstream),
    Leaf.get_strm_complete _ _ _ _ _ _ rfl]
  refine ⟨?_, Leaf.get_put_fits _ _ _ _ (by decide) (by decide)⟩
  generalize hK : (L.onUpd _).showStream 0 = K
  have hdone : (K.complete h 0x0000).upd = K.upd := SameUpd.rfl.complete
  rw [hdone, ← hK]
  rfl

end

/-! ### Verification (R566, R571) -/

section

variable (K : Leaf) (kind k : Nat) (bad : Bool)

/-- The byte of a check of a header lies within the header. -/
theorem Leaf.failedCheck_lt (L : Leaf) (ev : Bool) (x : BitVec 2560) (a b p : Bool) (k : Nat)
    (hfail : L.failedCheck ev x a b p = some k) : k < 0x3FF := by
  unfold Leaf.failedCheck at hfail
  obtain ⟨c, hc, rfl⟩ := Option.map_eq_some_iff.mp hfail
  have hbyte : c.2 ∈ [0, 4, 5, 6, 8, 16, 56, 58, 60, 128, 192, 256, 24] :=
    List.mem_map_of_mem (f := Prod.snd) (List.mem_of_find?_eq_some hc)
  have hall : ∀ n ∈ [0, 4, 5, 6, 8, 16, 56, 58, 60, 128, 192, 256, 24], n < 0x3FF := by decide
  exact hall _ hbyte

/-- The event of a verification leaves what is shown of the stream and of its faults. -/
theorem Leaf.get_verifyEvent (f : Fld) (i : Nat) (hf : f.reg.addr i ∉ reportRegs) :
    (K.verifyEvent kind k bad).get f i = K.get f i :=
  (KeepsRegs.rfl.event (List.Subset.refl _)).get hf

theorem Leaf.verifyFails_shows (hk : k < 0x3FF) :
    ((((K.showStream 4).put UPD_STRM_DETAIL k).raise (updFlag 0)).verifyEvent kind k true).get UPD_STRM_STATE = 4 ∧
      ((((K.showStream 4).put UPD_STRM_DETAIL k).raise (updFlag 0)).verifyEvent kind k true).get UPD_STRM_DETAIL = k ∧
      ((((K.showStream 4).put UPD_STRM_DETAIL k).raise (updFlag 0)).verifyEvent kind k true).get (UPD_FLT_FLAGS.bit 0) = 1 ∧
      SameUpd K ((((K.showStream 4).put UPD_STRM_DETAIL k).raise (updFlag 0)).verifyEvent kind k true) := by
  have hraise : ∀ M : Leaf, KeepsRegs M (M.raise (updFlag 0)) (UPD_FLT.addr 0 :: reportRegs) := fun M =>
    KeepsRegs.rfl.raise (List.mem_cons_self ..) (List.subset_cons_self ..)
  rw [Leaf.get_verifyEvent _ _ _ _ _ _ (by decide), Leaf.get_verifyEvent _ _ _ _ _ _ (by decide),
    Leaf.get_verifyEvent _ _ _ _ _ _ (by decide), (hraise _).get (by decide), (hraise _).get (by decide)]
  refine ⟨?_, Leaf.get_put_fits _ _ _ _ (by decide) (show k < 2 ^ 10 by omega), Leaf.get_raise _ _ _ (by decide) (by decide) (by decide) (by decide),
    SameUpd.rfl.put.put.raise.event⟩
  rw [Leaf.get_put_field _ UPD_STRM_DETAIL UPD_STRM_STATE _ _ rfl (by decide)]
  exact Leaf.get_put_fits _ _ _ _ (by decide) (by decide)

theorem Leaf.verifyPasses_state :
    (((K.showStream 3).put UPD_STRM_DETAIL 0x3FF).bump UPD_CNT_STREAMS).get UPD_STRM_STATE = 3 := by
  rw [Leaf.get_bump_other _ _ _ _ _ (by decide), Leaf.get_put_field _ UPD_STRM_DETAIL UPD_STRM_STATE _ _ rfl (by decide)]
  exact Leaf.get_put_fits _ _ _ _ (by decide) (by decide)

/-- What a slot holds of an image that passed (R566, R571). -/
def hfSlot (x : BitVec 2560) : ImgSlot :=
  { valid := true, secver := hf x 8 4, featver := hf x 12 4, setFmt := hf x 58 2, mirMin := hf x 60 1
    mirMax := hf x 61 1, digest := hf x 24 32 }

/-- A generation staged is shown, with everything else of the flash but the former 2412 settings as it was (R583). -/
theorem Leaf.stage_stages (x : BitVec 2560) (g : Settings) :
    (K.stage x g).upd.staged.isSome ∧ (K.stage x g).upd.slots = K.upd.slots ∧ (K.stage x g).upd.stream = K.upd.stream ∧
      (K.stage x g).upd.current = K.upd.current := by
  unfold Leaf.stage
  extract_lets fmt n c
  rw [Leaf.showUpd_onUpd]
  exact ⟨rfl, rfl, rfl, rfl⟩

end

section

variable (s : State) (l : LeafId) (st : Stream) (a b p : Bool) (g : Settings)

theorem verifyComplete_fails (k : Nat) (hstream : (s.leaf l).upd.stream = some st) (hclosed : st.closedAt.isSome)
    (hfail : (s.leaf l).failedCheck s.variantEv st.header a b p = some k) :
    Completes (.verifyComplete l a b p g) s fun t => OnlyLeaf l s t ∧ (t.leaf l).get UPD_STRM_STATE = 4 ∧
      (t.leaf l).get UPD_STRM_DETAIL = k ∧ (t.leaf l).get (UPD_FLT_FLAGS.bit 0) = 1 ∧ (t.leaf l).upd.stream = none ∧
      (t.leaf l).upd.slots = (s.leaf l).upd.slots ∧ (t.leaf l).upd.staged = (s.leaf l).upd.staged := by
  change Ends (execVerifyComplete l a b p g s) _
  unfold execVerifyComplete
  extract_lets L
  rw [hstream]
  dsimp only
  refine Ends.guardedTrue hclosed ⟨.setLeaf, ?_⟩
  rw [State.leaf_setLeaf]
  have hfail' : (L.onUpd fun U => { U with stream := none }).failedCheck s.variantEv st.header a b p = some k := hfail
  rw [hfail']
  dsimp only
  obtain ⟨hstate, hdetail, hflag, hupd⟩ := Leaf.verifyFails_shows (L.onUpd fun U => { U with stream := none }) st.kind k
    (Leaf.failedCheck_lt _ _ _ _ _ _ _ hfail)
  refine ⟨hstate, hdetail, hflag, ?_⟩
  rw [show Leaf.upd _ = _ from hupd]
  exact ⟨rfl, rfl, rfl⟩

theorem verifyComplete_passes (hstream : (s.leaf l).upd.stream = some st) (hclosed : st.closedAt.isSome)
    (hpass : (s.leaf l).failedCheck s.variantEv st.header a b p = none) :
    Completes (.verifyComplete l a b p g) s fun t => OnlyLeaf l s t ∧ (t.leaf l).get UPD_STRM_STATE = 3 ∧
      (t.leaf l).upd.stream = none ∧ (t.leaf l).upd.current = (s.leaf l).upd.current ∧
      (hfSettings st.header = true → (t.leaf l).upd.staged.isSome ∧ (t.leaf l).upd.slots = (s.leaf l).upd.slots) ∧
      (hfSettings st.header = false → (t.leaf l).upd.staged = (s.leaf l).upd.staged ∧
        (pick (t.leaf l).upd.slots (1 - (s.leaf l).upd.active)).valid = true ∧
        (pick (t.leaf l).upd.slots (1 - (s.leaf l).upd.active)).secver = hf st.header 8 4) := by
  change Ends (execVerifyComplete l a b p g s) _
  unfold execVerifyComplete
  extract_lets L L₁ K
  rw [hstream]
  dsimp only
  refine Ends.guardedTrue hclosed ⟨.setLeaf, ?_⟩
  rw [State.leaf_setLeaf]
  have hpass' : L₁.failedCheck s.variantEv st.header a b p = none := hpass
  rw [hpass']
  dsimp only
  have hupd : K.upd = { (s.leaf l).upd with stream := none } := rfl
  have hstate : K.get UPD_STRM_STATE = 3 := Leaf.verifyPasses_state _
  clear_value K
  generalize hM : (if hfSettings st.header = true then K.stage st.header g else _) = M
  have hevent : (M.verifyEvent st.kind 0x3FF false).upd = M.upd := SameUpd.rfl.event
  rw [Leaf.get_verifyEvent _ _ _ _ _ _ (by decide), hevent]
  cases hset : hfSettings st.header
  case true =>
    rw [hset, if_pos rfl] at hM
    obtain ⟨hstaged, hslots, hnone, hcurrent⟩ := K.stage_stages st.header g
    rw [← hM]
    refine ⟨(Leaf.get_strm_showUpd _ _ rfl).trans hstate, hnone.trans (by rw [hupd]), hcurrent.trans (by rw [hupd]),
      fun _ => ⟨hstaged, hslots.trans (by rw [hupd])⟩, fun h => absurd h (by decide)⟩
  case false =>
    rw [hset, if_neg (by decide)] at hM
    have hactive : K.upd.active = (s.leaf l).upd.active := by rw [hupd]
    change K.setSlot _ (hfSlot st.header) = M at hM
    have hslot : pick M.upd.slots (1 - (s.leaf l).upd.active) = hfSlot st.header := by
      rw [← hM, hactive]
      exact Leaf.setSlot_other _ _ _
    have hrest : M.get UPD_STRM_STATE = 3 := by
      rw [← hM]
      exact (Leaf.get_strm_showUpd _ _ rfl).trans hstate
    have hothers : M.upd.stream = none ∧ M.upd.current = (s.leaf l).upd.current ∧ M.upd.staged = (s.leaf l).upd.staged := by
      rw [← hM, Leaf.setSlot_upd, hupd]
      exact ⟨rfl, rfl, rfl⟩
    obtain ⟨hnone, hcurrent, hstaged⟩ := hothers
    refine ⟨hrest, hnone, hcurrent, fun h => absurd h (by decide), fun _ => ⟨hstaged, ?_, ?_⟩⟩
    · rw [hslot]
      rfl
    · rw [hslot]
      rfl

theorem verifyComplete_idle (hstream : (s.leaf l).upd.stream = none) : exec (.verifyComplete l a b p g) s = .next s := by
  change execVerifyComplete l a b p g s = _
  unfold execVerifyComplete
  extract_lets L
  rw [hstream]

end

/-! ### Commands taken by both leaves -/

/-- Of a leaf, the commands that wait alone have changed. -/
def CmdsOnly (L M : Leaf) : Prop := M = { L with crs := { L.crs with cmds := M.crs.cmds } }

theorem Leaf.takeBit_cmdsOnly (L : Leaf) (off k : Nat) (others : List Nat) : CmdsOnly L (L.takeBit off k others).2 := by
  unfold Leaf.takeBit CmdsOnly
  split <;> rfl

namespace CmdsOnly

variable {L M : Leaf}

theorem upd (h : CmdsOnly L M) : M.upd = L.upd := by rw [h]

theorem role (h : CmdsOnly L M) : M.role = L.role := by rw [h]

theorem cut (h : CmdsOnly L M) : M.cut = L.cut := by rw [h]

theorem count (h : CmdsOnly L M) : M.count = L.count := by rw [h]

end CmdsOnly

theorem State.takeModule_leaf (s : State) (off k : Nat) (others : List Nat) (l : LeafId) :
    CmdsOnly (s.leaf l) ((s.takeModule off k others).2.leaf l) := by
  cases l
  · exact Leaf.takeBit_cmdsOnly ..
  · exact Leaf.takeBit_cmdsOnly ..

/-- A command taken leaves the LEAD leaf what it was. -/
theorem State.takeModule_leadId (s : State) (off k : Nat) (others : List Nat) :
    (s.takeModule off k others).2.leadId = s.leadId := by
  have h0 : CmdsOnly s.leaf0 (s.takeModule off k others).2.leaf0 := s.takeModule_leaf off k others .leaf0
  have h1 : CmdsOnly s.leaf1 (s.takeModule off k others).2.leaf1 := s.takeModule_leaf off k others .leaf1
  unfold State.leadId
  rw [h0.role, h0.cut, h1.role, h1.cut]

/-- A leaf that is not LEAD has nothing to yield. -/
theorem State.yieldLead_idle (s : State) (l : LeafId) (h : s.leadId ≠ some l) : s.yieldLead l = s := by
  unfold State.yieldLead
  split
  next a b hlead hfollow =>
    rw [if_neg]
    rintro rfl
    exact h hlead
  · rfl

/-- A change that leaves both leaves as they are leaves the module. -/
theorem State.both_self (s : State) (f : Leaf → Leaf) (h : ∀ l, f (s.leaf l) = s.leaf l) : s.both f = s := by
  unfold State.both
  rw [show f s.leaf0 = s.leaf0 from h .leaf0, show f s.leaf1 = s.leaf1 from h .leaf1]

/-- A module command that neither leaf holds is not taken. -/
theorem takeModule_split {s : State} {off k : Nat} {others : List Nat} {w : Word}
    (h : (s.takeModule off k others).1 = some w) : ∃ t, s.takeModule off k others = (some w, t) ∧ OnlyLeaves s t ∧
      t.leadId = s.leadId ∧ ∀ l, CmdsOnly (s.leaf l) (t.leaf l) := by
  refine ⟨(s.takeModule off k others).2, by rw [← h], ?_, s.takeModule_leadId off k others, s.takeModule_leaf off k others⟩
  rfl

theorem takeModule_none {s : State} {off k : Nat} {others : List Nat} (h : (s.takeModule off k others).1 = none) :
    s.takeModule off k others = (none, (s.takeModule off k others).2) := by rw [← h]

/-! ### ACTIVATE, CONFIRM, REVERT and SET_APPLY (R572, R576, R577, R582) -/

section

variable (s : State)

theorem Leaf.planRole_upd (L : Leaf) (c : Course) (r : Role) (cause : Nat) : (L.planRole c r cause).upd = L.upd := rfl

theorem Leaf.planRole_roleAt (L : Leaf) (c : Course) (r : Role) (cause : Nat) :
    (L.planRole c r cause).crs.roleAt = some (c, r) := rfl

/-- A leaf that is to restart on its other slot (R572). -/
theorem Leaf.switchSlot_switches (L : Leaf) (trial : Bool) : (L.switchSlot trial).upd.active = 1 - L.upd.active ∧
    (L.switchSlot trial).upd.trial = trial ∧ (L.switchSlot trial).crs.roleAt = some (L.count + 1, .restart) := by
  unfold Leaf.switchSlot
  extract_lets K
  have hK : K.upd = { L.upd with active := 1 - L.upd.active, trial := trial, newStart := true } := Leaf.showUpd_onUpd _ _
  have hcount : K.count = L.count := Leaf.showUpd_count _
  clear_value K
  have hstopped : RegsOnly K (K.abortTests (fun _ => true) 4) := Leaf.abortTests_regsOnly _ _ _
  have hupd : (K.abortTests (fun _ => true) 4).upd = K.upd := SameUpd.ofRegsOnly hstopped
  rw [Leaf.planRole_upd, Leaf.planRole_roleAt, hupd, hcount, hK]
  exact ⟨rfl, rfl, rfl⟩

theorem activate_switches (l : LeafId) (w : Word) (htaken : (s.takeModule UPD_CMD.base 63 [62, 61, 60]).1 = some w)
    (hbit : w.getLsbD 59 = decide (l = .leaf1)) (hlead : s.leadId ≠ some l) :
    Completes .activate s fun t => OnlyLeaves s t ∧ (t.leaf l).upd.active = 1 - (s.leaf l).upd.active ∧
      (t.leaf l).upd.trial = true ∧ (t.leaf l).crs.roleAt = some ((s.leaf l).count + 1, .restart) ∧
      (t.leaf l.other).upd = (s.leaf l.other).upd := by
  obtain ⟨u, hu, honly, hlead', hleaf⟩ := takeModule_split htaken
  have hwhich : (if w.getLsbD 59 = true then LeafId.leaf1 else .leaf0) = l := by
    rw [hbit]
    cases l <;> rfl
  change Ends (execActivate s) _
  unfold execActivate
  rw [hu]
  dsimp only
  rw [hwhich, u.yieldLead_idle l (hlead' ▸ hlead)]
  refine Ends.next ⟨honly.on, ?_⟩
  obtain ⟨hactive, htrial, hrole⟩ := (u.leaf l).switchSlot_switches true
  rw [State.leaf_on, State.leaf_on_other _ _ _ _ (otherLeaf_ne l), hactive, htrial, hrole, (hleaf l).upd, (hleaf l).count,
    (hleaf l.other).upd]
  exact ⟨rfl, rfl, rfl, rfl⟩

theorem activate_waits (htaken : (s.takeModule UPD_CMD.base 63 [62, 61, 60]).1 = none) : exec .activate s = .next s := by
  change execActivate s = _
  unfold execActivate
  rw [takeModule_none htaken]

theorem State.recordVersions_keeps (c : Bool) :
    OnlyLeaves s (s.recordVersions c) ∧ ∀ l, SameUpd (s.leaf l) ((s.recordVersions c).leaf l) := by
  unfold State.recordVersions
  extract_lets x y
  cases s.leadId with
  | none => exact ⟨.rfl, fun _ => .rfl⟩
  | some m =>
    refine ⟨OnlyLeaves.rfl.on, fun l => ?_⟩
    by_cases hm : l = m
    · rw [hm, State.leaf_on]
      exact SameUpd.rfl.writeRecord
    · rw [State.leaf_on_other _ _ _ _ hm]
      exact SameUpd.rfl

theorem confirm_confirms (htaken : (s.takeModule UPD_CMD.base 62 [63, 61, 60]).1.isSome) :
    Completes .confirm s fun t => OnlyLeaves s t ∧ ∀ l, (t.leaf l).upd.trial = false ∧ (t.leaf l).upd.genUnconf = false ∧
      (t.leaf l).upd.source = none ∧ (t.leaf l).upd.current = (s.leaf l).upd.current ∧
      (t.leaf l).upd.floorP = (if (s.leaf l).upd.trial = true then
          max (s.leaf l).upd.floorP (pick (s.leaf l).upd.slots (s.leaf l).upd.active).secver else (s.leaf l).upd.floorP) := by
  obtain ⟨w, hw⟩ := Option.isSome_iff_exists.mp htaken
  obtain ⟨u, hu, honly, -, hleaf⟩ := takeModule_split hw
  change Ends (execConfirm s) _
  unfold execConfirm
  rw [hu]
  dsimp only
  obtain ⟨hrec, hsame⟩ := u.recordVersions_keeps true
  generalize u.recordVersions true = v at hrec hsame
  refine Ends.next ⟨(honly.trans hrec).both, fun l => ?_⟩
  have hupd : (v.leaf l).upd = (s.leaf l).upd := (show _ = _ from hsame l).trans (hleaf l).upd
  rw [State.leaf_both]
  rw [Leaf.showUpd_onUpd, ← hupd]
  exact ⟨rfl, rfl, rfl, rfl, rfl⟩

/-- A generation taken up in both leaves leaves of the flash what the change named. -/
theorem Leaf.takesUp_upd (L : Leaf) (f : Upd → Upd) (g : Settings) : ((L.onUpd f).applyGeneration g).showUpd.upd = f L.upd :=
  show SameUpd (L.onUpd f) _ from SameUpd.rfl.applyGeneration.showUpd

theorem revert_restores (g : LeafId → Settings) (htaken : (s.takeModule UPD_CMD.base 61 [63, 62, 60]).1.isSome)
    (hgen : ∀ l, (s.leaf l).upd.genUnconf = true ∧ (s.leaf l).upd.previous = some (g l) ∧ (s.leaf l).upd.trial = false) :
    Completes .revert s fun t => OnlyLeaves s t ∧ ∀ l, (t.leaf l).upd.current = some (g l) ∧
      (t.leaf l).upd.genUnconf = false ∧ (t.leaf l).upd.slots = (s.leaf l).upd.slots := by
  obtain ⟨w, hw⟩ := Option.isSome_iff_exists.mp htaken
  obtain ⟨u, hu, honly, -, hleaf⟩ := takeModule_split hw
  change Ends (execRevert s) _
  unfold execRevert
  rw [hu]
  dsimp only
  generalize hv : u.both _ = v
  have hvonly : OnlyLeaves s v := by
    rw [← hv]
    exact honly.both
  have hvleaf : ∀ l, (v.leaf l).upd = { (s.leaf l).upd with
      current := some (g l), previous := none, genUnconf := false, import_ := none } := by
    intro l
    obtain ⟨hunconf, hprevious, -⟩ := hgen l
    rw [← hv, State.leaf_both, (hleaf l).upd, hunconf, hprevious]
    dsimp only
    rw [← (hleaf l).upd, Leaf.bump_upd]
    exact Leaf.takesUp_upd _ _ _
  have hsteady : v.both (fun L => if L.upd.trial = true then L.onUpd fun U => { U with reverting := true } else L) = v := by
    refine v.both_self _ fun l => if_neg ?_
    rw [hvleaf l, (hgen l).2.2]
    decide
  rw [hsteady]
  have hend : (match v.followId with
      | some f => if (v.leaf f).upd.trial = true then v.revertLeaf f else v
      | none => v) = v := by
    cases v.followId with
    | none => rfl
    | some f =>
      dsimp only
      rw [hvleaf f, if_neg]
      rw [(hgen f).2.2]
      decide
  refine ⟨v, congrArg _ hend, hvonly, fun l => ?_⟩
  rw [hvleaf l]
  exact ⟨rfl, rfl, rfl⟩

theorem setApply_applies (g : LeafId → Settings) (htaken : (s.takeModule UPD_CMD.base 60 [63, 62, 61]).1.isSome)
    (hstaged : ∀ l, (s.leaf l).upd.staged = some (g l)) :
    Completes .setApply s fun t => OnlyLeaves s t ∧ ∀ l, (t.leaf l).upd.current = some (g l) ∧
      (t.leaf l).upd.previous = (s.leaf l).upd.current ∧ (t.leaf l).upd.staged = none ∧ (t.leaf l).upd.genUnconf = true := by
  obtain ⟨w, hw⟩ := Option.isSome_iff_exists.mp htaken
  obtain ⟨u, hu, honly, -, hleaf⟩ := takeModule_split hw
  change Ends (execSetApply s) _
  unfold execSetApply
  rw [hu]
  dsimp only
  generalize hv : u.both _ = v
  have hvonly : OnlyLeaves s v := by
    rw [← hv]
    exact honly.both
  have hvleaf : ∀ l, (v.leaf l).upd = { (s.leaf l).upd with
      current := some (g l), previous := (s.leaf l).upd.current, staged := none, atBoot := false, genUnconf := true } := by
    intro l
    rw [← hv, State.leaf_both, (hleaf l).upd, hstaged l]
    dsimp only
    rw [← (hleaf l).upd]
    exact Leaf.takesUp_upd _ _ _
  have hdone : ∀ t, OnlyLeaves v t → (∀ l, SameUpd (v.leaf l) (t.leaf l)) → OnlyLeaves s t ∧ ∀ l,
      (t.leaf l).upd.current = some (g l) ∧ (t.leaf l).upd.previous = (s.leaf l).upd.current ∧
      (t.leaf l).upd.staged = none ∧ (t.leaf l).upd.genUnconf = true := by
    intro t ht hsame
    refine ⟨hvonly.trans ht, fun l => ?_⟩
    rw [show (t.leaf l).upd = _ from hsame l, hvleaf l]
    exact ⟨rfl, rfl, rfl, rfl⟩
  refine Ends.next ?_
  cases v.leadId with
  | none => exact hdone v .rfl fun _ => .rfl
  | some m =>
    refine hdone _ OnlyLeaves.rfl.on fun l => ?_
    by_cases hm : l = m
    · rw [hm, State.leaf_on]
      exact SameUpd.rfl.sendUnit
    · rw [State.leaf_on_other _ _ _ _ hm]
      exact SameUpd.rfl

theorem setApply_waits (htaken : (s.takeModule UPD_CMD.base 60 [63, 62, 61]).1 = none) : exec .setApply s = .next s := by
  change execSetApply s = _
  unfold execSetApply
  rw [takeModule_none htaken]

end

/-! ### A long mixed interval, and the integrator key (R575, R610) -/

section

variable (s : State) (l : LeafId)

theorem mixLong_reports (c : Course) (hmixed : (s.leaf l).upd.mixedAt = some c)
    (hlong : 160000 * (s.leaf l).get UPD_CTRL_MIX_WARN < since (s.leaf l).count c) (hfirst : (s.leaf l).upd.mixEventAt = none) :
    Completes (.mixLong l) s fun t => OnlyLeaf l s t ∧ (t.leaf l).get (UPD_FLT_FLAGS.bit 4) = 1 ∧
      (t.leaf l).upd.mixEventAt = some (s.leaf l).count := by
  change Ends (execMixLong l s) _
  unfold execMixLong
  extract_lets L long due again
  have hlong' : long = true := by
    unfold long L
    rw [hmixed]
    exact decide_eq_true hlong
  have hdue : due = true := by
    unfold due L
    rw [hfirst]
    rfl
  refine Ends.guardedTrue (by rw [hlong', hdue]; rfl) ⟨.setLeaf, ?_⟩
  rw [State.leaf_setLeaf]
  refine ⟨?_, rfl⟩
  have hword := Leaf.bitEvent_word (L.put (updFlag 4) 1) (updFlag 4) 0 again UPD_FLT 0 (by decide) (by decide)
  refine (Leaf.get_word _ _ (updFlag 4) 0 hword).trans (Leaf.get_put_fits _ _ _ _ (by decide) (by decide))

theorem mixLong_rests (hmixed : (s.leaf l).upd.mixedAt = none) : exec (.mixLong l) s = .next s := by
  change execMixLong l s = _
  unfold execMixLong
  extract_lets L long due again
  refine guarded_false s ?_
  unfold long L
  rw [hmixed]
  rfl

theorem enrol_stores (k : BitVec 256) (who : Ident) (hmode : s.mode = .workshop) (hopen : s.sec.who ≠ 0)
    (hwho : s.sec.who = who) (hright : s.sec.rights.getLsbD 3 = true) :
    Completes (.enrol k who) s fun t => OnlyLeaves s t ∧
      ∀ l, (t.leaf l).upd.ikey = some k ∧ (t.leaf l).get SEC_STAT_IKEY = 1 ∧ (t.leaf l).get (SEC_FLT_FLAGS.bit 2) = 1 := by
  have hwho0 : (who.val != 0) = true := by
    rw [← hwho]
    exact bne_iff_ne.mpr hopen
  refine Ends.guardedTrue (by simp [hmode, hwho, hwho0, hright]) ⟨OnlyLeaves.rfl.both, fun l => ?_⟩
  rw [State.leaf_both]
  generalize hM : ((s.leaf l).onUpd fun U => { U with ikey := some k }).put SEC_STAT_IKEY 1 = M
  have hupd : (M.raise (SEC_FLT_FLAGS.bit 2)).upd = M.upd := SameUpd.rfl.raise
  refine ⟨?_, ?_, Leaf.get_raise _ _ _ (by decide) (by decide) (by decide) (by decide)⟩
  · rw [hupd, ← hM]
    rfl
  · have hkeeps : KeepsRegs M (M.raise (SEC_FLT_FLAGS.bit 2)) (SEC_FLT.addr 0 :: reportRegs) :=
      KeepsRegs.rfl.raise (List.mem_cons_self ..) (List.subset_cons_self ..)
    rw [hkeeps.get (by decide), ← hM]
    exact Leaf.get_put_fits _ _ _ _ (by decide) (by decide)

theorem enrol_refuses (k : BitVec 256) (who : Ident) (hrefuse : s.mode ≠ .workshop ∨ s.sec.rights.getLsbD 3 = false) :
    exec (.enrol k who) s = .next s := by
  refine guarded_false s ?_
  rcases hrefuse with hmode | hright
  · simp [hmode]
  · rw [hright, Bool.and_false]

end

/-- Settles O53: a stream by the leaf it is read in, a verification by the first check that fails, and the commands by what both
leaves hold once they are taken. -/
theorem imagesAndGenerations : Obligations.images_and_generations :=
  ⟨fun s l d x L h hreads hkind hlen hbuf hnone hclosed => streamOpen_opens s l d L h x hreads hkind hlen hbuf hnone hclosed,
    fun s l d x b L h => streamOpen_refuses s l d L h x b, fun s l d L h st => streamData_fills s l d L h st,
    fun s l d L h st => streamClose_closes s l d L h st, fun s l d L h => streamAbort_ends s l d L h,
    fun s l st a b p g k => verifyComplete_fails s l st a b p g k, fun s l st a b p g => verifyComplete_passes s l st a b p g,
    fun s l a b p g => verifyComplete_idle s l a b p g, activate_switches, activate_waits, confirm_confirms, revert_restores,
    setApply_applies, setApply_waits, mixLong_reports, mixLong_rests, enrol_stores, enrol_refuses⟩

end Sys2Proof.Machine
end

section
/-! Self-test in service and the diagnostic window (R602 to R608). -/

namespace Sys2Proof.Machine

open Sys2Proof

/-! ### A memory step (R602 to R604) -/

/-- A leaf at the end of a memory step that found the segment good, or not (R602, R603). -/
def Leaf.memStep (L : Leaf) (good : Bool) : Leaf :=
  let next := (L.get BST_MEM_SEG + 1) % 688
  let K := (L.bump BST_CNT_MEM_STEPS).put BST_STAT_PASS (bit good) |>.put BST_STAT_UNIT 8
    |>.put BST_STAT_COURSE L.count.toNat |>.put BST_MEM_SEG next
  let K := if next = 0 then K.put BST_MEM_SWEEP_END L.count.toNat else K
  { K with bst := { K.bst with stepEnd := K.count } }

section

variable (L : Leaf) (good : Bool)

/-- A field put or not leaves another field. -/
theorem Leaf.get_ite_put {K : Leaf} {f g : Fld} {v : Nat} {c : Prop} [Decidable c] (h : (K.put f v).get g = K.get g) :
    (if c then K.put f v else K).get g = K.get g := by
  split
  · exact h
  · rfl

/-- The course a sweep ended in, at segment 0, stands beside every field a step shows (R603). -/
theorem Leaf.get_memStep (g : Fld) (h : g.reg ≠ BST_MEM ∨ BST_MEM_SWEEP_END.hi < g.lo) (haddr : g.reg = BST_MEM ∨
    g.reg.addr 0 ≠ BST_MEM.addr 0) : (L.memStep good).get g = ((L.bump BST_CNT_MEM_STEPS).put BST_STAT_PASS (bit good)
      |>.put BST_STAT_UNIT 8 |>.put BST_STAT_COURSE L.count.toNat |>.put BST_MEM_SEG ((L.get BST_MEM_SEG + 1) % 688)).get g := by
  refine Leaf.get_ite_put (K := ((L.bump BST_CNT_MEM_STEPS).put BST_STAT_PASS (bit good)
      |>.put BST_STAT_UNIT 8 |>.put BST_STAT_COURSE L.count.toNat |>.put BST_MEM_SEG ((L.get BST_MEM_SEG + 1) % 688))) ?_
  rcases haddr with hreg | hother
  · refine Leaf.get_put_field _ BST_MEM_SWEEP_END g _ _ hreg (.inl (h.resolve_left ?_))
    exact not_not.mpr hreg
  · exact Leaf.get_put_other _ BST_MEM_SWEEP_END g _ _ _ hother

theorem Leaf.memStep_bst : (L.memStep good).bst = { L.bst with stepEnd := L.count } := by
  unfold Leaf.memStep
  extract_lets next K K' bst
  have hK : K'.bst = L.bst ∧ K'.count = L.count := by
    unfold K'
    split
    · exact ⟨rfl, rfl⟩
    · exact ⟨rfl, rfl⟩
  clear_value K'
  change ({ K'.bst with stepEnd := K'.count } : Bst) = _
  rw [hK.1, hK.2]

theorem Leaf.memStep_seg : (L.memStep good).get BST_MEM_SEG = (L.get BST_MEM_SEG + 1) % 688 := by
  rw [L.get_memStep good _ (.inr (by decide)) (.inl rfl)]
  have hnext : (L.get BST_MEM_SEG + 1) % 688 < 688 := Nat.mod_lt _ (by decide)
  exact Leaf.get_put_fits _ _ _ _ (by decide) (lt_trans hnext (by decide))

theorem Leaf.memStep_steps :
    (L.memStep good).get BST_CNT_MEM_STEPS = min (L.get BST_CNT_MEM_STEPS + 1) BST_CNT_MEM_STEPS.max := by
  rw [L.get_memStep good _ (.inl (by decide)) (.inr (by decide)), Leaf.get_put_other _ _ _ _ _ _ (by decide),
    Leaf.get_put_other _ _ _ _ _ _ (by decide), Leaf.get_put_other _ _ _ _ _ _ (by decide),
    Leaf.get_put_other _ _ _ _ _ _ (by decide)]
  exact Leaf.get_bump _ _ _ (by decide)

theorem Leaf.memStep_pass : (L.memStep good).get BST_STAT_PASS = bit good := by
  rw [L.get_memStep good _ (.inl (by decide)) (.inr (by decide)), Leaf.get_put_other _ _ _ _ _ _ (by decide),
    Leaf.get_put_field _ BST_STAT_COURSE BST_STAT_PASS _ _ rfl (by decide),
    Leaf.get_put_field _ BST_STAT_UNIT BST_STAT_PASS _ _ rfl (by decide)]
  exact Leaf.get_put_flag _ _ _ _ (by decide) (by decide)

theorem Leaf.memStep_trans : (L.memStep good).get BST_CNT_TRANS = L.get BST_CNT_TRANS := by
  rw [L.get_memStep good _ (.inl (by decide)) (.inr (by decide)), Leaf.get_put_other _ _ _ _ _ _ (by decide),
    Leaf.get_put_other _ _ _ _ _ _ (by decide), Leaf.get_put_other _ _ _ _ _ _ (by decide),
    Leaf.get_put_other _ _ _ _ _ _ (by decide)]
  exact Leaf.get_put_field _ BST_CNT_MEM_STEPS BST_CNT_TRANS _ _ rfl (by decide)

theorem Leaf.memStep_spares : (L.memStep good).get BST_MEM_SPARES_USED = L.get BST_MEM_SPARES_USED := by
  rw [L.get_memStep good _ (.inr (by decide)) (.inl rfl),
    Leaf.get_put_field _ BST_MEM_SEG BST_MEM_SPARES_USED _ _ rfl (by decide), Leaf.get_put_other _ _ _ _ _ _ (by decide),
    Leaf.get_put_other _ _ _ _ _ _ (by decide), Leaf.get_put_other _ _ _ _ _ _ (by decide)]
  exact Leaf.get_bump_other _ _ _ _ _ (by decide)

end

/-- A segment that failed its repeat while a spare is left (R604). -/
theorem Leaf.mapOut_spare (L : Leaf) (seg : Nat) (partner : Bool) (h : pick L.bst.spares (segMemory seg) < 2) :
    (L.mapOut seg partner).bst.badSegs = L.bst.badSegs ++ [seg] ∧ (L.mapOut seg partner).get (BST_FLT_FLAGS.bit 0) = 1 ∧
      (L.mapOut seg partner).get BST_MEM_SPARES_USED = min (L.get BST_MEM_SPARES_USED + 1) BST_MEM_SPARES_USED.max := by
  unfold Leaf.mapOut
  extract_lets m used
  rw [if_pos (show used < 2 from h), Leaf.stick]
  refine ⟨rfl, Leaf.get_put_fits _ _ _ _ (by decide) (by decide), ?_⟩
  rw [Leaf.get_put_other _ _ _ _ _ _ (by decide)]
  exact Leaf.get_bump _ _ _ (by decide)

section

variable (s : State) (l : LeafId)

theorem exec_memoryTestStep (a b : Bool) (hcomp : (s.leaf l).computing = true)
    (hgap : (s.leaf l).get BST_CTRL_MEM_GAP + 160 ≤ since (s.leaf l).count (s.leaf l).bst.stepEnd) :
    exec (.memoryTestStep l a b) s = .next (s.setLeaf l
      (if a = true then (s.leaf l).memStep (a || b)
        else if b = true then ((s.leaf l).memStep (a || b)).bump BST_CNT_TRANS
        else if ((s.leaf l).memStep (a || b)).bst.badSegs.contains ((s.leaf l).get BST_MEM_SEG) = true then
          (s.leaf l).memStep (a || b)
        else ((s.leaf l).memStep (a || b)).mapOut ((s.leaf l).get BST_MEM_SEG) (s.partnerCarries l))) := by
  change guarded s (_ && decide _) _ = _
  unfold guarded
  rw [hcomp, decide_eq_true hgap, if_pos (show (true && true) = true from rfl)]
  rfl

theorem memoryTestStep_passes (a b : Bool) (hcomp : (s.leaf l).computing = true)
    (hgap : (s.leaf l).get BST_CTRL_MEM_GAP + 160 ≤ since (s.leaf l).count (s.leaf l).bst.stepEnd) (hgood : a = true ∨ b = true) :
    Completes (.memoryTestStep l a b) s fun t => OnlyLeaf l s t ∧
      (t.leaf l).get BST_MEM_SEG = ((s.leaf l).get BST_MEM_SEG + 1) % 688 ∧ (t.leaf l).bst.stepEnd = (s.leaf l).count ∧
      (t.leaf l).get BST_CNT_MEM_STEPS = min ((s.leaf l).get BST_CNT_MEM_STEPS + 1) BST_CNT_MEM_STEPS.max ∧
      (t.leaf l).get BST_STAT_PASS = 1 ∧ (t.leaf l).bst.badSegs = (s.leaf l).bst.badSegs ∧
      (a = false → (t.leaf l).get BST_CNT_TRANS = min ((s.leaf l).get BST_CNT_TRANS + 1) BST_CNT_TRANS.max) := by
  refine ⟨_, exec_memoryTestStep s l a b hcomp hgap, .setLeaf, ?_⟩
  rw [State.leaf_setLeaf, Bool.or_eq_true_iff.mpr hgood]
  have hseg := (s.leaf l).memStep_seg true
  have hsteps := (s.leaf l).memStep_steps true
  have hpass := (s.leaf l).memStep_pass true
  have hbst := (s.leaf l).memStep_bst true
  cases a
  case true =>
    rw [if_pos rfl]
    rw [hbst]
    exact ⟨hseg, rfl, hsteps, hpass, rfl, fun h => absurd h (by decide)⟩
  case false =>
    obtain rfl := hgood.resolve_left (by decide)
    rw [if_neg (by decide), if_pos rfl, Leaf.get_bump_other _ _ BST_MEM_SEG _ _ (by decide),
      Leaf.get_bump_other _ _ BST_STAT_PASS _ _ (by decide), Leaf.get_bump _ _ _ (by decide), Leaf.memStep_trans, Leaf.bump_bst,
      hbst]
    refine ⟨hseg, rfl, ?_, hpass, rfl, fun _ => rfl⟩
    exact (Leaf.get_put_field _ BST_CNT_TRANS BST_CNT_MEM_STEPS _ _ rfl (by decide)).trans hsteps

theorem memoryTestStep_mapsOut (hcomp : (s.leaf l).computing = true)
    (hgap : (s.leaf l).get BST_CTRL_MEM_GAP + 160 ≤ since (s.leaf l).count (s.leaf l).bst.stepEnd)
    (hnew : (s.leaf l).bst.badSegs.contains ((s.leaf l).get BST_MEM_SEG) = false)
    (hspare : pick (s.leaf l).bst.spares (segMemory ((s.leaf l).get BST_MEM_SEG)) < 2) :
    Completes (.memoryTestStep l false false) s fun t => OnlyLeaf l s t ∧
      (t.leaf l).bst.badSegs = (s.leaf l).bst.badSegs ++ [(s.leaf l).get BST_MEM_SEG] ∧
      (t.leaf l).get (BST_FLT_FLAGS.bit 0) = 1 ∧
      (t.leaf l).get BST_MEM_SPARES_USED = min ((s.leaf l).get BST_MEM_SPARES_USED + 1) BST_MEM_SPARES_USED.max := by
  refine ⟨_, exec_memoryTestStep s l false false hcomp hgap, .setLeaf, ?_⟩
  have hbst := (s.leaf l).memStep_bst false
  rw [State.leaf_setLeaf, if_neg (by decide), if_neg (by decide), Bool.or_false, if_neg (by rw [hbst, hnew]; decide)]
  have hused := (s.leaf l).memStep_spares false
  generalize (s.leaf l).memStep false = K at hbst hused
  have hmapped := K.mapOut_spare ((s.leaf l).get BST_MEM_SEG) (s.partnerCarries l) (by rwa [hbst])
  rw [hused, hbst] at hmapped
  exact hmapped

theorem memoryTestStep_waits (a b : Bool) (hcomp : (s.leaf l).computing = false) :
    exec (.memoryTestStep l a b) s = .next s :=
  guarded_false s (by rw [hcomp, Bool.false_and])

/-! ### Scrubbing (R25, R605) -/

theorem scrub_sweeps (w : Byte) (hcomp : (s.leaf l).computing = true) :
    Completes (.scrub l none true w) s fun t => OnlyLeaf l s t ∧ (t.leaf l).get BST_SCRUB_DRAM_PROG = w.toNat ∧
      KeepsRegs (s.leaf l) (t.leaf l) [BST_SCRUB.addr 0] := by
  refine Ends.guardedTrue (by rw [hcomp, Bool.true_or]) ⟨.setLeaf, ?_⟩
  rw [State.leaf_setLeaf]
  exact ⟨Leaf.get_put_fits _ _ _ _ (by decide) w.isLt, KeepsRegs.rfl.putOwn rfl⟩

theorem scrub_corrects (w : Byte) (hcomp : (s.leaf l).computing = true) :
    Completes (.scrub l (some (.keystoneSram, true)) false w) s fun t => OnlyLeaf l s t ∧
      (t.leaf l).get BST_SCRUB_SRAM_CE = min ((s.leaf l).get BST_SCRUB_SRAM_CE + 1) BST_SCRUB_SRAM_CE.max ∧
      (t.leaf l).tie.hEcc = (s.leaf l).tie.hEcc + 1 ∧ KeepsRegs (s.leaf l) (t.leaf l) [BST_SCRUB.addr 0] := by
  refine Ends.guardedTrue (by rw [hcomp, Bool.true_or]) ⟨.setLeaf, ?_⟩
  rw [State.leaf_setLeaf]
  exact ⟨Leaf.get_bump _ BST_SCRUB_SRAM_CE _ (by decide), rfl, KeepsRegs.rfl.bump (List.mem_singleton.mpr rfl)⟩

/-! ### Full-leaf BIST (R606, R607) -/

theorem fullBist_begins (hsetup : s.setup = true) (hmay : s.refuseFull l = false) (hlead : s.leadId ≠ some l) :
    Completes (.fullBist l true) s fun t => OnlyLeaf l s t ∧ (t.leaf l).tie.cause = causeBist ∧
      (t.leaf l).crs.roleAt = some ((s.leaf l).count + 1, .restart) := by
  have hrun : exec (.fullBist l true) s = .next (s.on l fun L =>
      (L.abortTests (fun _ => true) 4).planRole (L.count + 1) .restart causeBist) := by
    change execFullBist l true s = _
    unfold execFullBist State.startFull
    rw [if_pos rfl, if_neg (by rw [hsetup]; decide), if_neg (by rw [hmay]; decide), s.yieldLead_idle l hlead]
  refine ⟨_, hrun, .on, ?_⟩
  rw [State.leaf_on]
  exact ⟨rfl, rfl⟩

theorem fullBist_discards (hsetup : s.setup = true) (hrefuse : s.refuseFull l = true) :
    Completes (.fullBist l true) s fun t => OnlyLeaf l s t ∧ (t.leaf l).crs = (s.leaf l).crs ∧
      KeepsRegs (s.leaf l) (t.leaf l) reportRegs := by
  have hrun : exec (.fullBist l true) s = .next (s.on l fun L =>
      L.discard BST_CMD.base (hostId l) (2 ^ 63 + 2 ^ 62 * l.num)) := by
    change execFullBist l true s = _
    unfold execFullBist onLeaf
    rw [if_pos rfl, if_neg (by rw [hsetup]; decide), if_pos hrefuse]
  refine ⟨_, hrun, .on, ?_⟩
  rw [State.leaf_on]
  refine ⟨?_, KeepsRegs.rfl.discard (List.Subset.refl _)⟩
  rw [Leaf.discard_parts]

end

end Sys2Proof.Machine
end

section
/-! The end of a full-leaf BIST (R602, R606, R607), and the diagnostic window (R608). -/

namespace Sys2Proof.Machine

open Sys2Proof

/-! ### What a start's tests leave of a leaf (R83, R147) -/

/-- BST_STAT shows no test at work, by a word of its own. -/
def IdleShown (L : Leaf) : Prop := ∃ w, kvFind L.regs (BST_STAT.addr 0) = some w ∧ fieldOf w 62 62 = 0

theorem addr_conv_ne_bst (n : Nat) (h : n < 40) : SNS_CONV.addr n ≠ BST_STAT.addr 0 := by
  have hconv : SNS_CONV.addr n = 0x10400 + 8 * n := by simp [Reg.addr, SNS_CONV]
  have hbst : BST_STAT.addr 0 = 0x4c010 := rfl
  omega

namespace IdleShown

variable {L : Leaf}

theorem get (h : IdleShown L) : L.get BST_STAT_BUSY = 0 := by
  obtain ⟨w, hw, hbusy⟩ := h
  unfold Leaf.get Leaf.word
  rw [show BST_STAT_BUSY.reg = BST_STAT from rfl, hw]
  exact hbusy

theorem begins : IdleShown (L.put BST_STAT_BUSY 0) :=
  ⟨_, kvFind_kvPut_same _ _ _, fieldOf_setField_same _ _ _ _ (by decide)⟩

theorem put (h : IdleShown L) {f : Fld} {v i : Nat} (hf : f.reg.addr i ≠ BST_STAT.addr 0) : IdleShown (L.put f v i) := by
  obtain ⟨w, hw, hbusy⟩ := h
  exact ⟨w, (kvFind_kvPut_other _ _ _ _ hf.symm).trans hw, hbusy⟩

/-- A field below BUSY leaves it, wherever its word stands. -/
theorem putBelow (h : IdleShown L) {f : Fld} {v i : Nat} (hf : f.hi < 62) : IdleShown (L.put f v i) := by
  by_cases hat : f.reg.addr i = BST_STAT.addr 0
  · obtain ⟨w, hw, hbusy⟩ := h
    refine ⟨setField w f.hi f.lo v, ?_, (fieldOf_setField_other _ _ _ _ _ _ (.inl hf)).trans hbusy⟩
    have hword : L.word f.reg i = w := by
      rw [Leaf.word, hat, hw]
      rfl
    rw [← hword, ← hat]
    exact kvFind_kvPut_same _ _ _
  · exact h.put hat

theorem serve (h : IdleShown L) {p : Nat} {c : Option Nat} {first : Bool} : IdleShown (L.serve p c first) := h

end IdleShown

/-- The newest converter of a list is one of the list (R152). -/
theorem newestOf_mem (L : Leaf) (xs : List Nat) : ∀ n, newestOf L xs = some n → n ∈ xs := by
  unfold newestOf
  refine List.foldlRecOn (motive := fun b => ∀ n, b = some n → n ∈ xs) _ _ (fun n h => nomatch h) ?_
  intro b hb a ha n hn
  split at hn
  · obtain rfl := Option.some.inj hn
    exact ha
  · split at hn
    · obtain rfl := Option.some.inj hn
      exact ha
    · exact hb n hn

theorem freeSpares_lt (L : Leaf) (n : Nat) (h : newestOf L L.freeSpares = some n) : n < 40 :=
  List.mem_range.mp (List.mem_filter.mp (newestOf_mem _ _ n h)).1

namespace IdleShown

variable {L : Leaf}

theorem refill (h : IdleShown L) {p : Nat} : IdleShown (L.refill p).1 := by
  unfold Leaf.refill
  split
  next n hn =>
    have hconv := addr_conv_ne_bst n (freeSpares_lt L n hn)
    exact ((h.serve.put hconv).put hconv).put (by decide)
  next =>
    extract_lets served low
    split
    · exact (h.serve.serve.putBelow (by decide)).put (by decide)
    · exact h.serve.put (by decide)

theorem retireConv (h : IdleShown L) {n : Nat} (hn : n < 40) : IdleShown (L.retireConv n).1 := by
  have hconv := addr_conv_ne_bst n hn
  unfold Leaf.retireConv
  split
  · exact h
  · extract_lets spare K K'
    have hK : IdleShown K := (((h.put hconv).put hconv).put (by decide)).put (by decide)
    have hK' : IdleShown K' := by
      unfold K'
      split
      · exact hK.put (by decide)
      · exact hK
    clear_value K'
    split
    · exact hK'.refill
    · exact hK'

theorem calPass (h : IdleShown L) {n : Nat} {m : CalMeas} (hn : n < 40) : IdleShown (L.calPass n m) := by
  have hconv := addr_conv_ne_bst n hn
  exact ((h.put hconv).put hconv).put hconv

theorem calJudge (h : IdleShown L) {r : CalRes} : IdleShown (L.calJudge r).1 := by
  unfold Leaf.calJudge
  extract_lets n
  split
  · exact h
  · split
    · exact h.calPass r.conv.isLt
    · split
      · exact (h.calPass r.conv.isLt).put (by decide)
      · exact h.retireConv r.conv.isLt

theorem applyStart (h : IdleShown L) {engines : List (Fin 24)} {cal : List CalRes} :
    IdleShown (L.applyStart engines cal []) :=
  foldl_keeps IdleShown _ (fun _ _ hK => hK.calJudge) _ _
    (foldl_keeps IdleShown _ (fun _ _ hK => hK.put (show ASH_ENG.addr 0 ≠ BST_STAT.addr 0 by decide)) _ _ h)

end IdleShown

namespace ConvOnly

variable {L M : Leaf} (h : ConvOnly L M)

include h

theorem calPass {n : Nat} {m : CalMeas} : ConvOnly L (M.calPass n m) := by
  have hpass := congrArg (fun K : Leaf => { K with regs := (M.calPass n m).regs, sns := (M.calPass n m).sns }) h
  exact hpass

theorem calJudge {r : CalRes} : ConvOnly L (M.calJudge r).1 := by
  unfold Leaf.calJudge
  extract_lets n
  split
  · exact h
  · split
    · exact h.calPass
    · split
      · exact h.calPass.put
      · exact h.retireConv

theorem applyStart {engines : List (Fin 24)} {cal : List CalRes} : ConvOnly L (M.applyStart engines cal []) :=
  foldl_keeps (ConvOnly L) _ (fun _ _ hK => hK.calJudge) _ _ (foldl_keeps (ConvOnly L) _ (fun _ _ hK => hK.put) _ _ h)

theorem stepOver : ConvOnly L M.stepOver := by
  have hover := congrArg (fun K : Leaf => { K with regs := M.stepOver.regs, sns := M.stepOver.sns }) h
  exact hover

theorem dropStep : ConvOnly L M.dropStep := by
  unfold Leaf.dropStep
  split
  · exact h
  · exact h.serve.put.put.put.stepOver

theorem bst : M.bst = L.bst := by rw [h]

theorem role : M.role = L.role := by rw [h]

theorem tie : M.tie = L.tie := by rw [h]

end ConvOnly

/-! ### A leaf enters OUT (R423) -/

theorem RegsOnly.sns {L M : Leaf} (h : RegsOnly L M) : M.sns = L.sns := by rw [h]

theorem RegsOnly.bst {L M : Leaf} (h : RegsOnly L M) : M.bst = L.bst := by rw [h]

theorem Leaf.setRole_bst (L : Leaf) (r : Role) : (L.setRole r).bst = L.bst := rfl

theorem Leaf.loseStream_parts (L : Leaf) : L.loseStream.sns = L.sns ∧ L.loseStream.bst = L.bst ∧
    KeepsRegs L L.loseStream (UPD_STRM.addr 0 :: UPD_FLT.addr 0 :: reportRegs) := by
  unfold Leaf.loseStream
  split
  · exact ⟨rfl, rfl, .rfl⟩
  · refine ⟨?_, ?_, ?_⟩
    · rw [Leaf.raise_parts]
      rfl
    · rw [Leaf.raise_parts]
      rfl
    · have hput : KeepsRegs L (({ L with upd := { L.upd with stream := none } } : Leaf).put UPD_STRM_STATE 0)
          (UPD_STRM.addr 0 :: UPD_FLT.addr 0 :: reportRegs) := KeepsRegs.put (.ofRegs rfl) (by decide)
      exact hput.raise (by decide) (by decide)

/-- The registers that a leaf writes as it enters OUT, beside those of its masters and of its rotation step. -/
def outRegs : List Nat :=
  [UPD_STRM.addr 0, UPD_FLT.addr 0, TIE_STAT.addr 0, CRS_PEND.addr 0, CRS_STAT.addr 0] ++ reportRegs

theorem Leaf.showPend_keepsRegs (L : Leaf) : KeepsRegs L L.showPend outRegs := by
  unfold Leaf.showPend
  split
  · exact KeepsRegs.rfl.setWord (by decide)
  · exact (KeepsRegs.rfl.put (by decide)).put (by decide)

section

variable (s : State) (l : LeafId)

theorem State.enterOut_bst : ((s.enterOut l).leaf l).bst = (s.leaf l).bst := by
  unfold State.enterOut
  extract_lets K crs tie M
  rw [State.tellPartner_leaf, State.leaf_setLeaf]
  have hdropped : ConvOnly (s.leaf l).loseMasters.loseStream (s.leaf l).loseMasters.loseStream.dropStep := ConvOnly.rfl.dropStep
  have hK : K.bst = (s.leaf l).bst := by
    unfold K
    rw [Leaf.setRole_bst, hdropped.bst, (Leaf.loseStream_parts _).2.1, RegsOnly.bst (Leaf.loseMasters_regsOnly _)]
  clear_value K
  change M.showPend.bst = _
  rw [RegsOnly.bst M.showPend_regsOnly]
  exact hK

/-- A leaf that enters OUT with no rotation step under way keeps what its own registers show, but for those of its role, its
changes and its stream. -/
theorem State.get_enterOut (f : Fld) (hstep : (s.leaf l).sns.step = none) (hlow : f.reg.addr 0 < 0x100000)
    (hf : f.reg.addr 0 ∉ outRegs) : ((s.enterOut l).leaf l).get f = (s.leaf l).get f := by
  unfold State.enterOut
  extract_lets K crs tie M
  rw [State.tellPartner_leaf, State.leaf_setLeaf]
  have hmasters : (s.leaf l).loseMasters.get f = (s.leaf l).get f := by
    refine Leaf.get_word _ _ _ _ ?_
    unfold Leaf.loseMasters Leaf.word
    rw [Leaf.masterLost_keeps _ _ _ hlow, Leaf.masterLost_keeps _ _ _ hlow]
  have hsns : (s.leaf l).loseMasters.sns = (s.leaf l).sns := RegsOnly.sns (Leaf.loseMasters_regsOnly _)
  generalize hL : (s.leaf l).loseMasters = L at hmasters hsns
  obtain ⟨hsns', -, hstream⟩ := L.loseStream_parts
  have hdrop : L.loseStream.dropStep = L.loseStream := by
    unfold Leaf.dropStep
    rw [hsns', hsns, hstep]
  have hK : KeepsRegs L K outRegs := by
    unfold K
    rw [hL, hdrop]
    exact ((hstream.mono (by decide)).put (by decide)).put (by decide)
  clear_value K
  have hM : KeepsRegs L M outRegs := hK.trans (.ofRegs rfl)
  clear_value M
  rw [((hM.trans M.showPend_keepsRegs).put (by decide)).get hf]
  exact hmasters

/-! ### The end of a full-leaf BIST (R602, R606, R607) -/

theorem fullBistComplete_ends (r : BistRes) (c : Course) (hrole : (s.leaf l).role = .restart)
    (hfull : (s.leaf l).bst.fullAt = some c) (hlong : 33600 ≤ since (s.leaf l).count c) :
    Completes (.fullBistComplete l r) s fun t => (t.leaf l).bst.fullAt = none ∧
      ((∀ u ∈ r.failed, u.val = 0 ∨ u.val = 4 ∨ u.val = 7) → OnlyLeaf l s t ∧ (t.leaf l).role = .restart ∧
        (t.leaf l).tie.restartAt = (s.leaf l).count ∧ (t.leaf l).get BST_STAT_BUSY = 0) ∧
      ((∃ u ∈ r.failed, u.val ≠ 0 ∧ u.val ≠ 4 ∧ u.val ≠ 7) → (t.leaf l).role = .out ∧
        ((s.leaf l).sns.step = none → (t.leaf l).get (BST_FLT_FLAGS.bit 2) = 1)) := by
  change Ends (execFullBistComplete l r s) _
  unfold execFullBistComplete
  extract_lets L other L₁ L₂ bst tie L₃ L₄ L₅ L₆
  refine Ends.guardedTrue (by simp [L, hrole, hfull, hlong]) ?_
  have hnone : L₃.bst.fullAt = none := rfl
  have hstay : L₃.role = .restart := hrole
  have hat : L₃.tie.restartAt = (s.leaf l).count := rfl
  have hidle : IdleShown L₃ := IdleShown.begins (L := L₁.put BST_STAT_PASS (bit r.failed.isEmpty))
  have hsns : L₃.sns = (s.leaf l).sns := rfl
  have hothers : other = [] ↔ ∀ u ∈ r.failed, u.val = 0 ∨ u.val = 4 ∨ u.val = 7 := by
    unfold other
    rw [List.filter_eq_nil_iff]
    refine forall₂_congr fun u _ => ?_
    simp only [Bool.and_eq_true, bne_iff_ne, not_and_or, not_not, or_assoc]
  clear_value L₃
  by_cases hempty : other = []
  case pos =>
    rw [if_pos (by rw [hempty]; rfl), State.leaf_setLeaf]
    have hstart : ConvOnly L₃ (L₃.applyStart r.enginesBad r.cal []) := ConvOnly.rfl.applyStart
    refine ⟨by rw [hstart.bst, hnone], fun _ => ⟨.setLeaf, by rw [hstart.role, hstay], by rw [hstart.tie, hat],
      hidle.applyStart.get⟩, ?_⟩
    rintro ⟨u, hu, h0, h4, h7⟩
    have := hothers.mp hempty u hu
    omega
  case neg =>
    rw [if_neg (by rwa [List.isEmpty_iff]), State.enterOut_bst, State.leaf_setLeaf, State.enterOut_role]
    have hbst : L₆.bst = L₃.bst := by
      unfold L₆ L₅
      split <;> split <;> rfl
    have hsns' : L₆.sns = L₃.sns := by
      unfold L₆ L₅
      split <;> split <;> rfl
    have hflag : L₆.get (BST_FLT_FLAGS.bit 2) = 1 := by
      unfold L₆ L₅ Leaf.stick
      rw [Leaf.get_ite_put (Leaf.get_put_field _ (BST_FLT_FLAGS.bit 4) (BST_FLT_FLAGS.bit 2) _ _ rfl (by decide)),
        Leaf.get_ite_put (Leaf.get_put_field _ (BST_FLT_FLAGS.bit 3) (BST_FLT_FLAGS.bit 2) _ _ rfl (by decide))]
      exact Leaf.get_put_fits _ _ _ _ (by decide) (by decide)
    clear_value L₆
    refine ⟨by rw [hbst, hnone], fun hall => absurd (hothers.mpr hall) hempty, fun _ => ⟨rfl, fun hstep => ?_⟩⟩
    rw [State.get_enterOut _ l _ (by rw [State.leaf_setLeaf, hsns', hsns, hstep]) (by decide) (by decide), State.leaf_setLeaf]
    exact hflag

theorem fullBistComplete_waits (r : BistRes) (hfull : (s.leaf l).bst.fullAt = none) :
    exec (.fullBistComplete l r) s = .next s :=
  guarded_false s (by simp [hfull])

/-! ### The diagnostic window (R608) -/

theorem diagRead_closed (w : Word) (b : Byte) (h : s.mayDiag = false) :
    exec (.diagRead l w b) s = .next { s with readData := some 0 } := by
  change execDiagRead l w b s = _
  unfold execDiagRead
  rw [if_pos (by rw [h]; rfl)]

theorem diagRead_reads (w : Word) (b : Byte) (hmay : s.mayDiag = true) (hnone : (s.leaf l).bst.injected = []) :
    Completes (.diagRead l w b) s fun t => OnlyLeaf l s { t with readData := s.readData } ∧ t.readData = some w ∧
      (t.leaf l).word BST_DDATA = w ∧ (t.leaf l).get BST_DCHK_CHECK = b.toNat := by
  have hrun : exec (.diagRead l w b) s = .next { s.setLeaf l (((s.leaf l).setWord BST_DDATA 0 w).put BST_DCHK_CHECK b.toNat)
      with readData := some w } := by
    change execDiagRead l w b s = _
    unfold execDiagRead
    rw [if_neg (by rw [hmay]; decide)]
    simp only [hnone, List.find?_nil, Option.map_none, Option.getD_none]
  refine ⟨_, hrun, ?_, rfl, ?_⟩
  · cases l <;> rfl
  · have hleaf : ({ s.setLeaf l (((s.leaf l).setWord BST_DDATA 0 w).put BST_DCHK_CHECK b.toNat)
        with readData := some w } : State).leaf l = ((s.leaf l).setWord BST_DDATA 0 w).put BST_DCHK_CHECK b.toNat := by
      cases l <;> rfl
    rw [hleaf]
    refine ⟨?_, Leaf.get_put_fits _ _ _ _ (by decide) b.isLt⟩
    rw [Leaf.word_put_other _ _ _ _ _ _ (by decide), Leaf.word_setWord]

theorem inject_stores (b : Byte) (hmay : s.variantEv = true ∨ (s.mode = .workshop ∧ s.right 2 = true)) :
    Completes (.inject l b) s fun t => OnlyLeaf l s t ∧ (t.leaf l).get BST_DCHK_CHECK = b.toNat ∧
      ((s.leaf l).diagAddr, (s.leaf l).word BST_DDATA, b) ∈ (t.leaf l).bst.injected := by
  refine Ends.guardedTrue ?_ ⟨.on, ?_⟩
  · rcases hmay with hev | ⟨hmode, hright⟩
    · rw [hev, Bool.true_or]
    · rw [hmode, hright]
      exact Bool.or_true _
  · rw [State.leaf_on]
    exact ⟨Leaf.get_put_fits _ _ _ _ (by decide) b.isLt, List.mem_append_right _ (List.mem_singleton.mpr rfl)⟩

end

end Sys2Proof.Machine
end

section
/-! The service port (R609 to R613). -/

namespace Sys2Proof.Machine

open Sys2Proof

/-! ### Opening a session (R609, R610) -/

section

variable (s : State)

/-- A session stands beside the leaves. -/
theorem State.leaf_withSec (sec : Sec) (l : LeafId) : ({ s with sec := sec } : State).leaf l = s.leaf l := by cases l <;> rfl

theorem sessionOpenRequest_asks (n : BitVec 256) (serial : BitVec 128) (hawake : s.awake = true) (hclosed : s.sec.who = 0) :
    Completes (.sessionOpenRequest n serial) s fun t => t.sec = { s.sec with nonce := some (n, s.leaf0.count) } ∧
      t.leaf1 = s.leaf1 ∧ t.leaf0.regs = s.leaf0.regs ∧ t.leaf0.out = s.leaf0.out ++
        [Out.j5 1 [n.toNat, (s.glbId .leaf0).toNat, (s.glbId .leaf1).toNat, serial.toNat]] :=
  Ends.guardedTrue (by rw [hawake, hclosed]; rfl) ⟨rfl, rfl, rfl, rfl⟩

/-- What both leaves show of a session of identity `who` with its rights (R609, R616). -/
def Leaf.showSession (L : Leaf) (who : Nat) (rights : BitVec 6) : Leaf :=
  ((L.put SEC_STAT_SESSION who).put SEC_STAT_RIGHTS rights.toNat |>.put SEC_STAT_SINCE L.count.toNat).bump SEC_CNT_SESSIONS

theorem Leaf.showSession_shows (L : Leaf) (who : Ident) (rights : BitVec 6) :
    (L.showSession who rights).get SEC_STAT_SESSION = who ∧ (L.showSession who rights).get SEC_STAT_RIGHTS = rights.toNat := by
  unfold Leaf.showSession
  rw [Leaf.get_bump_other _ _ _ _ _ (by decide), Leaf.get_bump_other _ _ _ _ _ (by decide),
    Leaf.get_put_field _ SEC_STAT_SINCE SEC_STAT_SESSION _ _ rfl (by decide),
    Leaf.get_put_field _ SEC_STAT_SINCE SEC_STAT_RIGHTS _ _ rfl (by decide),
    Leaf.get_put_field _ SEC_STAT_RIGHTS SEC_STAT_SESSION _ _ rfl (by decide)]
  exact ⟨Leaf.get_put_fits _ _ _ _ (by decide) who.isLt, Leaf.get_put_fits _ _ _ _ (by decide) rights.isLt⟩

theorem State.sayJ5_sec (step : Nat) (content : List Nat) : (s.sayJ5 step content).sec = s.sec := rfl

theorem State.sayJ5_get (step : Nat) (content : List Nat) (l : LeafId) (f : Fld) :
    ((s.sayJ5 step content).leaf l).get f = (s.leaf l).get f := by
  cases l <;> rfl

theorem authentication_opens (a : AuthRx) (n : BitVec 256) (c : Course) (hawake : s.awake = true) (hclosed : s.sec.who = 0)
    (hlock : s.sec.lockAt = none) (hnonce : s.sec.nonce = some (n, c)) (hfresh : since s.leaf0.count c < 9600000)
    (hchain : a.chainOk = true) (hsig : a.sigOk = true) (hauth : s.authorityOk a = true) :
    Completes (.authentication a) s fun t => t.sec.who = a.who ∧ t.sec.nonce = none ∧ t.sec.fails = 0 ∧
      t.sec.rights = a.rights &&& a.certRights &&& s.allowedRights a.who ∧
      ∀ l, (t.leaf l).get SEC_STAT_SESSION = a.who ∧ (t.leaf l).get SEC_STAT_RIGHTS = t.sec.rights.toNat := by
  refine Ends.guardedTrue (by rw [hawake, hclosed, hlock]; rfl) ?_
  rw [if_pos (by rw [hnonce, hchain, hsig, hauth]; simp [hfresh]), State.sayJ5_sec]
  refine ⟨rfl, rfl, rfl, rfl, fun l => ?_⟩
  rw [State.sayJ5_get, State.sayJ5_get, State.leaf_both]
  exact Leaf.showSession_shows _ a.who _

/-- What both leaves show of a failed attempt (R610). -/
def Leaf.showFail (L : Leaf) : Leaf := (L.bump SEC_CNT_FAILS).stick (SEC_FLT_FLAGS.bit 0)

theorem Leaf.showFail_shows (L : Leaf) : L.showFail.get (SEC_FLT_FLAGS.bit 0) = 1 :=
  Leaf.get_put_fits _ _ _ _ (by decide) (by decide)

/-- What both leaves show of a lockout (R610). -/
def Leaf.showLockout (L : Leaf) : Leaf := (L.put SEC_STAT_LOCKOUT 1).stick (SEC_FLT_FLAGS.bit 1)

theorem Leaf.showLockout_shows (L : Leaf) : L.showLockout.get SEC_STAT_LOCKOUT = 1 ∧
    L.showLockout.get (SEC_FLT_FLAGS.bit 0) = L.get (SEC_FLT_FLAGS.bit 0) := by
  unfold Leaf.showLockout Leaf.stick
  rw [Leaf.get_put_other _ _ SEC_STAT_LOCKOUT _ _ _ (by decide),
    Leaf.get_put_field _ (SEC_FLT_FLAGS.bit 1) (SEC_FLT_FLAGS.bit 0) _ _ rfl (by decide),
    Leaf.get_put_other _ _ (SEC_FLT_FLAGS.bit 0) _ _ _ (by decide)]
  exact ⟨Leaf.get_put_fits _ _ _ _ (by decide) (by decide), rfl⟩

/-- A failed attempt below the third in a row is counted. -/
theorem State.authFails_counts (hfew : s.sec.fails < 2) : s.authFails =
    { s.both Leaf.showFail with sec := { s.sec with fails := s.sec.fails + 1, nonce := none } } := by
  unfold State.authFails
  extract_lets n
  exact if_pos (show s.sec.fails + 1 < 3 by omega)

/-- The third failed attempt in a row, and each further one, begins a lockout. -/
theorem State.authFails_locks (hmany : 2 ≤ s.sec.fails) : s.authFails =
    { (s.both Leaf.showFail).both Leaf.showLockout with
      sec := { s.sec with
        fails := s.sec.fails + 1, nonce := none, lockAt := some s.leaf0.count
        lockLen := if s.sec.lockLen = 0 then 9600000 else min (2 * s.sec.lockLen) 576000000 } } := by
  unfold State.authFails
  extract_lets n
  exact if_neg (show ¬ s.sec.fails + 1 < 3 by omega)

theorem authentication_fails (a : AuthRx) (hawake : s.awake = true) (hclosed : s.sec.who = 0) (hlock : s.sec.lockAt = none)
    (hsig : a.sigOk = false) :
    Completes (.authentication a) s fun t => t.sec.who = 0 ∧ t.sec.nonce = none ∧ t.sec.fails = s.sec.fails + 1 ∧
      (∀ l, (t.leaf l).get (SEC_FLT_FLAGS.bit 0) = 1) ∧
      (2 ≤ s.sec.fails → t.sec.lockAt = some s.leaf0.count ∧ t.sec.lockLen =
        (if s.sec.lockLen = 0 then 9600000 else min (2 * s.sec.lockLen) 576000000) ∧
        ∀ l, (t.leaf l).get SEC_STAT_LOCKOUT = 1) ∧
      (s.sec.fails < 2 → t.sec.lockAt = none) := by
  refine Ends.guardedTrue (by rw [hawake, hclosed, hlock]; rfl) ?_
  rw [if_neg (by rw [hsig, Bool.and_false, Bool.false_and]; decide)]
  by_cases hmany : 2 ≤ s.sec.fails
  case pos =>
    have hleaf : ∀ l, (s.authFails.leaf l) = (s.leaf l).showFail.showLockout := by
      intro l
      rw [s.authFails_locks hmany, State.leaf_withSec, State.leaf_both, State.leaf_both]
    refine ⟨?_, ?_, ?_, fun l => ?_, fun _ => ⟨?_, ?_, fun l => ?_⟩, fun hfew => absurd hmany (by omega)⟩
    · rw [s.authFails_locks hmany]
      exact hclosed
    · rw [s.authFails_locks hmany]
    · rw [s.authFails_locks hmany]
    · rw [hleaf, (Leaf.showLockout_shows _).2, Leaf.showFail_shows]
    · rw [s.authFails_locks hmany]
    · rw [s.authFails_locks hmany]
    · rw [hleaf, (Leaf.showLockout_shows _).1]
  case neg =>
    have hfew : s.sec.fails < 2 := by omega
    rw [s.authFails_counts hfew]
    refine ⟨hclosed, rfl, rfl, fun l => ?_, fun h => absurd h hmany, fun _ => hlock⟩
    rw [(s.both Leaf.showFail).leaf_withSec, State.leaf_both, Leaf.showFail_shows]

theorem authentication_lockedOut (a : AuthRx) (hlock : s.sec.lockAt.isSome) : exec (.authentication a) s = .next s := by
  refine guarded_false s ?_
  obtain ⟨c, hc⟩ := Option.isSome_iff_exists.mp hlock
  rw [hc]
  exact Bool.and_false _

theorem authLockoutExpiry_ends (c : Course) (hlock : s.sec.lockAt = some c) (hlong : s.sec.lockLen ≤ since s.leaf0.count c) :
    Completes .authLockoutExpiry s fun t => t.sec = { s.sec with lockAt := none } ∧
      ∀ l, (t.leaf l).get SEC_STAT_LOCKOUT = 0 ∧ KeepsRegs (s.leaf l) (t.leaf l) [SEC_STAT.addr 0] := by
  refine Ends.guardedTrue (by rw [hlock]; exact decide_eq_true hlong) ⟨rfl, fun l => ?_⟩
  rw [State.leaf_both, State.leaf_withSec]
  exact ⟨Leaf.get_put_fits _ _ _ _ (by decide) (by decide), KeepsRegs.rfl.putOwn rfl⟩

theorem authLockoutExpiry_waits (hlock : s.sec.lockAt = none) : exec .authLockoutExpiry s = .next s :=
  guarded_false s (by rw [hlock]; rfl)

/-! ### The end of a session, and scan (R496, R598, R610, R612) -/

theorem State.endScan_keeps : s.endScan.sec = { s.sec with scan := false } ∧ s.endScan.mode = s.mode := by
  unfold State.endScan
  cases hscan : s.sec.scan
  · refine ⟨?_, rfl⟩
    change s.sec = _
    rw [← hscan]
  · exact ⟨rfl, rfl⟩

/-- What a leaf shows where no session is open (R616). -/
theorem Leaf.noSession_shows (L : Leaf) :
    ((L.put SEC_STAT_SESSION 0).put SEC_STAT_RIGHTS 0).get SEC_STAT_SESSION = 0 ∧
      ((L.put SEC_STAT_SESSION 0).put SEC_STAT_RIGHTS 0).get SEC_STAT_RIGHTS = 0 := by
  rw [Leaf.get_put_field _ SEC_STAT_RIGHTS SEC_STAT_SESSION _ _ rfl (by decide)]
  exact ⟨Leaf.get_put_fits _ _ _ _ (by decide) (by decide), Leaf.get_put_fits _ _ _ _ (by decide) (by decide)⟩

theorem sessionEnd_ends (k : Fin 3) (hopen : s.sec.who ≠ 0)
    (hcause : k.val ≠ 2 ∨ s.leaf0.get SEC_CTRL_IDLE_T * 160000 ≤ since s.leaf0.count s.sec.accessAt) :
    Completes (.sessionEnd k) s fun t => t.sec.who = 0 ∧ t.sec.rights = 0 ∧ t.sec.scan = false ∧
      t.mode = (if s.mode = .workshop then .ready else s.mode) ∧
      ∀ l, (t.leaf l).get SEC_STAT_SESSION = 0 ∧ (t.leaf l).get SEC_STAT_RIGHTS = 0 := by
  have hmay : (s.sec.who != 0 && (k.val != 2 ||
      decide (s.leaf0.get SEC_CTRL_IDLE_T * 160000 ≤ since s.leaf0.count s.sec.accessAt))) = true := by
    rw [bne_iff_ne.mpr hopen, Bool.true_and, Bool.or_eq_true, bne_iff_ne, decide_eq_true_iff]
    exact hcause
  refine Ends.guardedTrue hmay ?_
  obtain ⟨hsec, hmode⟩ := s.endScan_keeps
  refine ⟨rfl, rfl, ?_, ?_, fun l => ?_⟩
  · exact congrArg Sec.scan hsec
  · change (if (s.endScan.mode == .workshop) = true then Mode.ready else s.endScan.mode) = _
    rw [hmode]
    simp only [beq_iff_eq]
  · cases l
    · exact Leaf.noSession_shows _
    · exact Leaf.noSession_shows _

theorem sessionEnd_waits (k : Fin 3) (hclosed : s.sec.who = 0) : exec (.sessionEnd k) s = .next s :=
  guarded_false s (by rw [hclosed]; rfl)

theorem scanInstruction_cuts (hmode : s.mode = .workshop) (hright : s.right 4 = true) (h0 : s.leaf0.stagesOff = true)
    (h1 : s.leaf1.stagesOff = true) :
    exec (.scanInstruction true) s = .next { s with
      sec := { s.sec with scan := true }, leaf0 := { s.leaf0 with cut := true }, leaf1 := { s.leaf1 with cut := true } } := by
  change execScanInstruction true s = _
  unfold execScanInstruction guarded
  rw [if_pos rfl, if_pos (by rw [hmode, hright, h0, h1]; rfl)]
  rfl

theorem scanInstruction_ends (hscan : s.sec.scan = true) :
    Completes (.scanInstruction false) s fun t => t.sec.scan = false ∧
      ∀ l, (t.leaf l).cut = ((s.leaf l).cut && (s.leaf l).crs.roleAt.isSome) ∧ (t.leaf l).regs = (s.leaf l).regs := by
  refine ⟨s.endScan, rfl, ?_, fun l => ?_⟩
  · rw [s.endScan_keeps.1]
  · unfold State.endScan
    rw [if_pos hscan, State.leaf_both]
    cases l <;> exact ⟨rfl, rfl⟩

/-! ### A debugger (R87, R611) -/

variable (l : LeafId)

theorem debugHalt_silences (e : Fin 24) (hmay : s.mayDebug = true) (hcarry : s.mode = .carry)
    (hcomp : (s.leaf l).computing = true) :
    Completes (.debugHalt l true e) s fun t => OnlyLeaves s t ∧ (t.leaf l).cut = true ∧ (t.leaf l).bst.halted = true ∧
      (t.leaf l.other).get SEC_STAT_DBG_USED = 1 := by
  change Ends (execDebugHalt l true e s) _
  unfold execDebugHalt
  extract_lets u L split stops bst
  refine Ends.guardedTrue hmay ⟨OnlyLeaves.rfl.both.setLeaf, ?_⟩
  have hsilences : (u.mode == .carry && stops) = true := by
    change (s.mode == .carry && true) = true
    rw [hcarry]
    rfl
  rw [State.leaf_setLeaf, if_pos hsilences, State.leaf_setLeaf_other _ _ _ _ (otherLeaf_ne l)]
  have hL : L.computing = true := by
    change (u.leaf l).computing = true
    rw [State.leaf_both]
    exact hcomp
  refine ⟨L.goSilent_cut 1 L.tick hL, rfl, ?_⟩
  rw [State.leaf_both]
  exact Leaf.get_put_fits _ _ _ _ (by decide) (by decide)

theorem debugHalt_refuses (k : Bool) (e : Fin 24) (hmay : s.mayDebug = false) : exec (.debugHalt l k e) s = .next s :=
  guarded_false s hmay

theorem debugRelease_restarts (hhalted : (s.leaf l).bst.halted = true) :
    Completes (.debugRelease l) s fun t => OnlyLeaf l s t ∧ (t.leaf l).bst.halted = false ∧
      (t.leaf l).tie.restartAt = (s.leaf l).count ∧ (t.leaf l).regs = (s.leaf l).regs := by
  refine Ends.guardedTrue hhalted ⟨.setLeaf, ?_⟩
  rw [State.leaf_setLeaf]
  exact ⟨rfl, rfl, rfl⟩

/-! ### Production (R613) -/

theorem State.producing_of_session (hwho : s.sec.who = 7) (hright : s.sec.rights.getLsbD 5 = true) : s.producing = true := by
  unfold State.producing
  rw [hwho, hright]
  rfl

theorem State.producing_other (hwho : s.sec.who ≠ 7) : s.producing = false := by
  unfold State.producing
  rw [beq_eq_false_iff_ne.mpr hwho, Bool.false_and]

theorem keyGenerate_exports (pub : BitVec 512) (hwho : s.sec.who = 7) (hright : s.sec.rights.getLsbD 5 = true) :
    Completes (.keyGenerate l pub) s fun t => OnlyLeaves s t ∧ (t.leaf l).ldg.pub = pub ∧
      (t.leaf l).regs = (s.leaf l).regs ∧ t.leaf0.out = s.leaf0.out ++ [Out.j5 4 [l.num, pub.toNat]] := by
  refine Ends.guardedTrue (s.producing_of_session hwho hright) ⟨?_, ?_⟩
  · cases l <;> rfl
  · cases l <;> exact ⟨rfl, rfl, rfl⟩

theorem prodLock_locks (hwho : s.sec.who = 7) (hright : s.sec.rights.getLsbD 5 = true) :
    Completes .prodLock s fun t => t.sec.rights = s.sec.rights &&& 0x1F ∧
      ∀ l, (t.leaf l).get SEC_STAT_PROD_LOCK = 1 ∧ KeepsRegs (s.leaf l) (t.leaf l) [SEC_STAT.addr 0] := by
  refine Ends.guardedTrue (s.producing_of_session hwho hright) ⟨rfl, fun l => ?_⟩
  rw [State.leaf_both, State.leaf_withSec]
  refine ⟨?_, (KeepsRegs.rfl.putOwn rfl).putOwn rfl⟩
  rw [Leaf.get_put_field _ SEC_STAT_RIGHTS SEC_STAT_PROD_LOCK _ _ rfl (by decide)]
  exact Leaf.get_put_fits _ _ _ _ (by decide) (by decide)

theorem production_refuses (pub : BitVec 512) (hwho : s.sec.who ≠ 7) :
    exec (.keyGenerate l pub) s = .next s ∧ exec .prodLock s = .next s :=
  ⟨guarded_false s (s.producing_other hwho), guarded_false s (s.producing_other hwho)⟩

end

/-- Settles O54: the tests of a leaf by the leaf alone, the session by what both leaves show of it, and a halt by the silence of
the leaf it stops. -/
theorem selfTestAndServicePort : Obligations.self_test_and_service_port :=
  ⟨memoryTestStep_passes, memoryTestStep_mapsOut, memoryTestStep_waits, scrub_sweeps, scrub_corrects, fullBist_begins,
    fullBist_discards, fullBistComplete_ends, fullBistComplete_waits, diagRead_closed, diagRead_reads, inject_stores,
    sessionOpenRequest_asks, authentication_opens, authentication_fails, authentication_lockedOut, authLockoutExpiry_ends,
    authLockoutExpiry_waits, sessionEnd_ends, sessionEnd_waits,
    fun s l e hmay hcarry hcomp _ => debugHalt_silences s l e hmay hcarry hcomp, debugHalt_refuses, debugRelease_restarts,
    scanInstruction_cuts, scanInstruction_ends, keyGenerate_exports, prodLock_locks, production_refuses⟩

end Sys2Proof.Machine
end
